-- ==== Sys2Proof/Word.lean ====
section
/-! DEFINITION. The word types, the plainest arithmetic, and the plain data types that command operands and the state
are made of: die numbers, bit fields of a register, register definitions, a pair of one thing per Q-die. -/

namespace Sys2Proof

/-- One byte of memory or of a frame. -/
abbrev Byte := BitVec 8

/-- A 32-bit register value (R5). -/
abbrev Word := BitVec 32

/-- A Q-die number, 0 or 1 (R13). -/
abbrev Die := Fin 2

/-- The other Q-die of the pair. -/
def Die.other (d : Die) : Die := if d = 0 then 1 else 0

/-- A bit field of a register: its lowest bit and its width. -/
structure Fld where
  lo : Nat
  w : Nat
  deriving DecidableEq, Repr

/-- The bits a field covers, as a mask. -/
def Fld.mask (f : Fld) : Nat := (2 ^ f.w - 1) * 2 ^ f.lo

/-- The value of a field in a register value. -/
def Fld.get (f : Fld) (v : Word) : Nat := v.toNat / 2 ^ f.lo % 2 ^ f.w

/-- A register value with a field set to `x` (the low bits of `x` that fit the field). -/
def Fld.set (f : Fld) (v : Word) (x : Nat) : Word :=
  (v &&& ~~~(BitVec.ofNat 32 f.mask)) ||| BitVec.ofNat 32 (x % 2 ^ f.w * 2 ^ f.lo)

/-- One register or register array of the map: base offset, up to two array dimensions (count and stride, the larger
stride first), the bits of each access code of R7 (every other bit is read-only), the reset value, and whether the
register table marks it kept. -/
structure RegDef where
  name : String
  base : Nat
  n1 : Nat
  s1 : Nat
  n2 : Nat
  s2 : Nat
  rw : Nat
  w1c : Nat
  lk : Nat
  wo : Nat
  reset : Nat
  kept : Bool
  deriving DecidableEq, Repr

/-- Whether a register-space offset is one of the array's registers. -/
def RegDef.covers (r : RegDef) (off : Nat) : Bool :=
  decide (r.base ≤ off) &&
    (let o := off - r.base
     let i := if r.n1 = 1 then 0 else o / r.s1
     let j := (o - i * r.s1) / r.s2
     decide (i < r.n1) && decide (j < r.n2) && decide (o = i * r.s1 + j * r.s2))

/-- One thing per Q-die. -/
structure PerDie (α : Type) where
  q0 : α
  q1 : α
  deriving DecidableEq, Repr

/-- The thing of one die. -/
def PerDie.get {α : Type} (p : PerDie α) (d : Die) : α := if d = 0 then p.q0 else p.q1

/-- The pair with one die's thing replaced. -/
def PerDie.set {α : Type} (p : PerDie α) (d : Die) (x : α) : PerDie α :=
  if d = 0 then { p with q0 := x } else { p with q1 := x }

/-- The pair with one die's thing changed. -/
def PerDie.upd {α : Type} (p : PerDie α) (d : Die) (f : α → α) : PerDie α := p.set d (f (p.get d))

/-- The same thing for both dies. -/
def PerDie.both {α : Type} (x : α) : PerDie α := ⟨x, x⟩

/-- Bit `i` of a natural number. -/
def bitOf (n i : Nat) : Bool := n / 2 ^ i % 2 = 1

/-- A number with bit `i` set or cleared. -/
def withBit (n i : Nat) (b : Bool) : Nat :=
  if bitOf n i then (if b then n else n - 2 ^ i) else (if b then n + 2 ^ i else n)

/-- A Boolean as 0 or 1. -/
def b2n (b : Bool) : Nat := if b then 1 else 0

/-- A count of one more, held at `top` (saturating). -/
def satInc (top n : Nat) : Nat := if n < top then n + 1 else top

/-- The value cut to `top` (saturating). -/
def satTo (top n : Nat) : Nat := if n < top then n else top

/-- The little-endian value of `n` bytes from offset `i` of a byte list; a byte past the end counts 0. -/
def leBytes (l : List Byte) (i : Nat) : Nat → Nat
  | 0 => 0
  | n + 1 => (l.getD i 0).toNat + 256 * leBytes l (i + 1) n

/-- Byte, half-word, word and double word at an offset of a record body (R43: little-endian). -/
def u8 (l : List Byte) (i : Nat) : Nat := leBytes l i 1
def u16 (l : List Byte) (i : Nat) : Nat := leBytes l i 2
def u32 (l : List Byte) (i : Nat) : Nat := leBytes l i 4
def u64 (l : List Byte) (i : Nat) : Nat := leBytes l i 8

/-- Whether every byte from offset `i`, `n` bytes long, is 0. -/
def zeroBytes (l : List Byte) (i n : Nat) : Bool := leBytes l i n = 0

/-- The `n` little-endian bytes of a value. -/
def toLE : Nat → Nat → List Byte
  | 0, _ => []
  | n + 1, x => BitVec.ofNat 8 x :: toLE n (x / 256)

/-- The `n` big-endian bytes of a value. -/
def toBE (n x : Nat) : List Byte := (toLE n x).reverse

/-- A signed reading of a `w`-bit value. -/
def toSigned (w n : Nat) : Int := if n % 2 ^ w < 2 ^ (w - 1) then (n % 2 ^ w : Int) else (n % 2 ^ w : Int) - 2 ^ w

/-- The `w`-bit two's-complement code of an integer. -/
def ofSigned (w : Nat) (x : Int) : Nat := (x % (2 ^ w : Int)).toNat

/-- One Ductus record as the loader hands it over: file-order index, record header (R53) and body. -/
structure Rec where
  index : Nat
  typ : BitVec 16
  flags : BitVec 16
  target : BitVec 32
  seq : BitVec 32
  body : List Byte
  deriving DecidableEq, Repr

/-- Who sends a register access: a management core, a partition's software (its Q-die's home duplex), the loader, a nib,
a DMA engine, the debug port, or sealed-world code of a partition. -/
inductive Initiator where
  | mgmt (d : Die)
  | part (p : Fin 32)
  | loader (d : Die)
  | nib (d : Die) (c : Fin 8)
  | dma (p : Fin 32)
  | debug
  | sealed (p : Fin 32)
  deriving DecidableEq, Repr

/-- The mirrored write ports of R41. -/
inductive MirrorPort where
  | descriptor | fanOut | pdu | nibProgram | fdb | pool
  deriving DecidableEq, Repr

/-- Module reset causes with their codes (R109). -/
inductive ModuleCause where
  | powerOn | brownOut | resetN | cisternGlitch | rstreq | wakeSentinel | supervisor | laneVote
  deriving DecidableEq, Repr

/-- Die reset causes (R109) other than being part of a module reset. -/
inductive DieCause where
  | rstreq | watchdog | regulator | glitch | wakeDormant | update | debug
  deriving DecidableEq, Repr

/-- Nib-cluster reset causes (R109). -/
inductive ClusterCause where
  | rstreq | faultManager | substitution
  deriving DecidableEq, Repr

/-- Switch-die reset causes (R109). -/
inductive SwitchCause where
  | powerUp | rstreq | supervisor
  deriving DecidableEq, Repr

/-- What a switch die measures of one channel in a service cycle (R119): channel index, mean square current in squared normal-range
LSB units, output voltages as signed µV, junction temperature with LSB 0.125 degC. -/
structure ChanMeas where
  k : Fin 8
  msq : BitVec 48
  vout : BitVec 32
  voutB : BitVec 32
  tj : BitVec 16
  deriving DecidableEq, Repr

/-- A logical nib: die, cluster and logical index (R209). -/
structure NibId where
  d : Die
  c : Fin 8
  k : Fin 30
  deriving DecidableEq, Repr

/-- What the ECC of R222 finds in one instruction: nothing, an error corrected in place on the fetch, an uncorrectable one there, an
error on the data the instruction reads, corrected or not, or an error in the line of the descriptor cache it reads beside that data. -/
inductive EccFind where
  | clean | corrected | badFetch | correctedData | badData | correctedLine | badLine
  deriving DecidableEq, Repr

/-- What locks a satellite access asks for (R383): none, a load-reserved, a store-conditional, or an atomic memory operation by its
funct5. -/
inductive LockOp where
  | none | reserved | conditional
  | atomic (fn : BitVec 5)
  deriving DecidableEq, Repr

/-- What an Announce message says (R469): the grandmaster's priority1, clockClass, accuracy and variance, priority2 and
clockIdentity, steps removed, and the source port identity. -/
structure Announce where
  prio1 : BitVec 8
  cls : BitVec 8
  quality : BitVec 24
  prio2 : BitVec 8
  id : BitVec 64
  steps : BitVec 16
  src : BitVec 80
  deriving DecidableEq, Repr

/-- The fields of a SEC_CMD write (R774) other than the operation, and who writes it. -/
structure SecCmd where
  who : Initiator
  slot : Fin 32
  tag : BitVec 8
  confirm : BitVec 8
  deriving DecidableEq, Repr

/-- A received Iamar frame (R669): the source address, the header fields and the body. -/
structure ZgFrame where
  src : BitVec 48
  vers : BitVec 8
  typ : BitVec 8
  sender : BitVec 16
  group : BitVec 32
  epoch : BitVec 16
  len : BitVec 16
  seq : BitVec 32
  time : BitVec 64
  body : List Byte
  deriving DecidableEq, Repr

end Sys2Proof
end

