-- ==== Sys2Proof/Syntax.lean ====
section
/-! DEFINITION. The commands of the module: one constructor per row of spec/opcode_table.json, in the table's order,
with the operands each takes. -/

namespace Sys2Proof

/-- A command the module takes from outside: a register access, an event at a pin or bus, a frame received, a record
applied by the loader, an instruction of a nib or core, or a time limit that passes. -/
inductive Instr where
  /-- REGISTER_WRITE, R7. -/
  | registerWrite (d : Die) (who : Initiator) (off : BitVec 21) (v : Word)
  /-- LOW_WORD_READ_LATCH, R10. -/
  | lowWordReadLatch (d : Die) (who : Initiator) (off : BitVec 21)
  /-- PARTNER_WINDOW_READ, R34. -/
  | partnerWindowRead (d : Die) (who : Initiator) (addr : BitVec 35) (n : Fin 9) (late : Bool)
  /-- RILL_TRANSFER, R23. -/
  | rillTransfer (d : Die) (src dst : Fin 18) (payload : BitVec 64) (bad badAgain : Bool)
  /-- FLIT_RECEIVE, R28. -/
  | flitReceive (d : Die) (lane : Fin 8) (crcOk : Bool)
  /-- FLIT_REPLAY, R28. -/
  | flitReplay (d : Die)
  /-- PAIR_LINK_RETRAIN, R29. -/
  | pairLinkRetrain (high : Bool)
  /-- RETRAIN_COMPLETE, R29. -/
  | retrainComplete
  /-- PAIR_LINK_LOSS, R30. -/
  | pairLinkLoss
  /-- MIRRORED_WRITE, R41. -/
  | mirroredWrite (d : Die) (who : Initiator) (port : MirrorPort) (index : BitVec 24) (value : List Word)
  /-- MIRRORED_WRITE_COMPLETE, R41. -/
  | mirroredWriteComplete (d : Die)
  /-- POWER_ON_RESET, R81. -/
  | powerOnReset
  /-- BROWN_OUT, R82. -/
  | brownOut
  /-- STRAP_SAMPLE, R68. -/
  | strapSample (pins : BitVec 3)
  /-- MODULE_RESET, R104. -/
  | moduleReset (cause : ModuleCause)
  /-- DIE_RESET, R105. -/
  | dieReset (d : Die) (cause : DieCause)
  /-- PARTITION_RESET, R548. -/
  | partitionReset (p : Fin 32) (policy : Bool)
  /-- NIB_CLUSTER_RESET, R106. -/
  | nibClusterReset (d : Die) (c : Fin 8) (cause : ClusterCause)
  /-- SWITCH_DIE_RESET, R104. -/
  | switchDieReset (sd : Fin 19) (cause : SwitchCause)
  /-- RSTREQ_MODULE, R113. -/
  | rstreqModule (d : Die) (who : Initiator) (confirm : BitVec 16)
  /-- RSTREQ_DIE, R113. -/
  | rstreqDie (d : Die) (who : Initiator) (confirm : BitVec 16) (target : BitVec 5)
  /-- RSTREQ_PARTITION, R113. -/
  | rstreqPartition (d : Die) (who : Initiator) (confirm : BitVec 16) (target : BitVec 5)
  /-- RSTREQ_NIB_CLUSTER, R113. -/
  | rstreqNibCluster (d : Die) (who : Initiator) (confirm : BitVec 16) (target : BitVec 5) (on : Die)
  /-- RSTREQ_SWITCH_DIE, R113. -/
  | rstreqSwitchDie (d : Die) (who : Initiator) (confirm : BitVec 16) (target : BitVec 5)
  /-- RESET_N_ASSERT, R110. -/
  | resetNAssert
  /-- RESET_N_RELEASE, R111. -/
  | resetNRelease
  /-- Q_DIE_RELEASE, R97. -/
  | qDieRelease (d : Die) (selfOk : Bool)
  /-- LOADER_DONATION, R100. -/
  | loaderDonation (d : Die)
  /-- DUCTUS_VERIFY, R60. -/
  | ductusVerify (d : Die)
  /-- VERIFICATION_EXCHANGE, R62. -/
  | verificationExchange
  /-- PARTNER_RESULT_TIMEOUT, R63. -/
  | partnerResultTimeout (d : Die)
  /-- IMAGE_DONATION, R61. -/
  | imageDonation (d : Die)
  /-- ISLAND_CLOCK_RECORD, R37. -/
  | islandClockRecord (d : Die) (r : Rec)
  /-- CHANNEL_RECORD, R157. -/
  | channelRecord (d : Die) (r : Rec)
  /-- FEED_RECORD, R159. -/
  | feedRecord (d : Die) (r : Rec)
  /-- SWITCH_DIE_CONTROL_RECORD, R206. -/
  | switchDieControlRecord (d : Die) (r : Rec)
  /-- FAIL_SAFE_ENTRY_RECORD, R207. -/
  | failSafeEntryRecord (d : Die) (r : Rec)
  /-- CLUSTER_RECORD, R260. -/
  | clusterRecord (d : Die) (r : Rec)
  /-- PROGRAM_RECORD, R261. -/
  | programRecord (d : Die) (r : Rec)
  /-- SUBSCRIPTION_RECORD, R262. -/
  | subscriptionRecord (d : Die) (r : Rec)
  /-- TICK_RECORD, R263. -/
  | tickRecord (d : Die) (r : Rec)
  /-- MAILBOX_RECORD, R264. -/
  | mailboxRecord (d : Die) (r : Rec)
  /-- DESCRIPTOR_BLOCK_RECORD, R354. -/
  | descriptorBlockRecord (d : Die) (r : Rec)
  /-- FAN_OUT_BLOCK_RECORD, R354. -/
  | fanOutBlockRecord (d : Die) (r : Rec)
  /-- PDU_BLOCK_RECORD, R354. -/
  | pduBlockRecord (d : Die) (r : Rec)
  /-- GATEWAY_RECORD, R356. -/
  | gatewayRecord (d : Die) (r : Rec)
  /-- PARTITION_MAILBOX_RECORD, R357. -/
  | partitionMailboxRecord (d : Die) (r : Rec)
  /-- ACF_PORT_RECORD, R358. -/
  | acfPortRecord (d : Die) (r : Rec)
  /-- VALUE_TABLE_RECORD, R359. -/
  | valueTableRecord (d : Die) (r : Rec)
  /-- CAN_CONTROLLER_RECORD, R389. -/
  | canControllerRecord (d : Die) (r : Rec)
  /-- CAN_FILTERS_RECORD, R389. -/
  | canFiltersRecord (d : Die) (r : Rec)
  /-- LIN_CONTROLLER_RECORD, R389. -/
  | linControllerRecord (d : Die) (r : Rec)
  /-- LIN_FRAME_TABLE_RECORD, R389. -/
  | linFrameTableRecord (d : Die) (r : Rec)
  /-- LIN_SCHEDULE_RECORD, R389. -/
  | linScheduleRecord (d : Die) (r : Rec)
  /-- SENSE_INPUTS_RECORD, R390. -/
  | senseInputsRecord (d : Die) (r : Rec)
  /-- SATELLITE_BUS_RECORD, R389. -/
  | satelliteBusRecord (d : Die) (r : Rec)
  /-- PORT_RECORD, R420. -/
  | portRecord (d : Die) (r : Rec)
  /-- SWITCH_RECORD, R464. -/
  | switchRecord (d : Die) (r : Rec)
  /-- SWITCH_PORT_RECORD, R464. -/
  | switchPortRecord (d : Die) (r : Rec)
  /-- VLAN_BLOCK_RECORD, R464. -/
  | vlanBlockRecord (d : Die) (r : Rec)
  /-- STATIC_ENTRIES_RECORD, R464. -/
  | staticEntriesRecord (d : Die) (r : Rec)
  /-- GATE_LIST_RECORD, R455. -/
  | gateListRecord (d : Die) (r : Rec)
  /-- HOST_QUEUES_RECORD, R464. -/
  | hostQueuesRecord (d : Die) (r : Rec)
  /-- TIME_RECORD, R495. -/
  | timeRecord (d : Die) (r : Rec)
  /-- PHASE_PLAN_RECORD, R492. -/
  | phasePlanRecord (d : Die) (r : Rec)
  /-- GPTP_PORT_RECORD, R495. -/
  | gptpPortRecord (d : Die) (r : Rec)
  /-- PULSE_OUTPUT_RECORD, R495. -/
  | pulseOutputRecord (d : Die) (r : Rec)
  /-- LANE_PIN_RECORD, R495. -/
  | lanePinRecord (d : Die) (r : Rec)
  /-- DUPLEX_RECORD, R536. -/
  | duplexRecord (d : Die) (r : Rec)
  /-- EPOCH_RECORD, R537. -/
  | epochRecord (d : Die) (r : Rec)
  /-- OPEN_IMAGE_RECORD, R609. -/
  | openImageRecord (d : Die) (r : Rec)
  /-- ENERGY_POLICY_RECORD, R667. -/
  | energyPolicyRecord (d : Die) (r : Rec)
  /-- WAKE_PINS_RECORD, R667. -/
  | wakePinsRecord (d : Die) (r : Rec)
  /-- FEED_WATCH_RECORD, R667. -/
  | feedWatchRecord (d : Die) (r : Rec)
  /-- GROUP_RECORD, R697. -/
  | groupRecord (d : Die) (r : Rec)
  /-- REMOTE_ACCESS_RECORD, R697. -/
  | remoteAccessRecord (d : Die) (r : Rec)
  /-- ROAMING_RECORD, R697. -/
  | roamingRecord (d : Die) (r : Rec)
  /-- UPDATE_POLICY_RECORD, R726. -/
  | updatePolicyRecord (d : Die) (r : Rec)
  /-- COMPATIBILITY_RECORD, R726. -/
  | compatibilityRecord (d : Die) (r : Rec)
  /-- FAULT_POLICY_RECORD, R758. -/
  | faultPolicyRecord (d : Die) (r : Rec)
  /-- DEBUG_POLICY_RECORD, R776. -/
  | debugPolicyRecord (d : Die) (r : Rec)
  /-- SEALED_KEY_STORE_RECORD, R776. -/
  | sealedKeyStoreRecord (d : Die) (r : Rec)
  /-- PARTITION_RECORD, R578. -/
  | partitionRecord (d : Die) (r : Rec)
  /-- GATE_BLOCK_RECORD, R578. -/
  | gateBlockRecord (d : Die) (r : Rec)
  /-- ASSIGNMENT_BLOCK_RECORD, R578. -/
  | assignmentBlockRecord (d : Die) (r : Rec)
  /-- SEALED_WORLD_RECORD, R578. -/
  | sealedWorldRecord (d : Die) (r : Rec)
  /-- SEALED_CODE_RECORD, R578. -/
  | sealedCodeRecord (d : Die) (r : Rec)
  /-- REGION_BLOCK_RECORD, R578. -/
  | regionBlockRecord (d : Die) (r : Rec)
  /-- ROUTE_BLOCK_RECORD, R636. -/
  | routeBlockRecord (d : Die) (r : Rec)
  /-- CONTROLLER_RECORD, R636. -/
  | controllerRecord (d : Die) (r : Rec)
  /-- SOFTWARE_SETTERS_RECORD, R636. -/
  | softwareSettersRecord (d : Die) (r : Rec)
  /-- NIB_START, R253. -/
  | nibStart (d : Die) (c : Fin 8)
  /-- SEAL_READY, R72. -/
  | sealReady (d : Die)
  /-- SEAL, R74. -/
  | seal (d : Die)
  /-- SEAL_READY_TIMEOUT, R72. -/
  | sealReadyTimeout (d : Die)
  /-- SWITCH_DIE_POWER_UP, R791. -/
  | switchDiePowerUp (sd : Fin 19)
  /-- START_ENTRY, R83. -/
  | startEntry (sd : Fin 19)
  /-- HOLD_TIME_END, R84. -/
  | holdTimeEnd (sd : Fin 19)
  /-- SWITCH_DIE_POWER_DOWN, R791. -/
  | switchDiePowerDown (sd : Fin 19)
  /-- LIMP_PIN_CHANGE, R85. -/
  | limpPinChange (pin : Fin 4) (level : Bool)
  /-- UNDERVOLTAGE_TURN_OFF, R121. -/
  | undervoltageTurnOff (sd : Fin 19) (volt : BitVec 16)
  /-- UNDERVOLTAGE_RESTART, R121. -/
  | undervoltageRestart (sd : Fin 19)
  /-- OVERVOLTAGE_TURN_OFF, R121. -/
  | overvoltageTurnOff (sd : Fin 19) (volt : BitVec 16)
  /-- OVERVOLTAGE_RESTART, R121. -/
  | overvoltageRestart (sd : Fin 19)
  /-- SETTING_MISMATCH, R124. -/
  | settingMismatch (sd : Fin 19) (volt : BitVec 16)
  /-- SETTING_MISMATCH_CLEAR, R124. -/
  | settingMismatchClear (sd : Fin 19)
  /-- FEED_REVERSE, R794. -/
  | feedReverse (feedB : Bool)
  /-- FEED_REVERSE_END, R794. -/
  | feedReverseEnd (feedB : Bool)
  /-- CURRENT_LIMIT, R126. -/
  | currentLimit (sd : Fin 19) (k : Fin 8)
  /-- OVERCURRENT_TRIP, R126. -/
  | overcurrentTrip (sd : Fin 19) (k : Fin 8)
  /-- JUNCTION_WARNING, R127. -/
  | junctionWarning (sd : Fin 19) (k : Fin 8) (temp : BitVec 16)
  /-- THERMAL_SHUTDOWN, R127. -/
  | thermalShutdown (sd : Fin 19) (k : Fin 8) (temp : BitVec 16)
  /-- LAMP_RETRY, R130. -/
  | lampRetry (sd : Fin 19) (k : Fin 8)
  /-- WARM_WINDOW_END, R129. -/
  | warmWindowEnd (sd : Fin 19) (k : Fin 8)
  /-- OPEN_LOAD_ON, R131. -/
  | openLoadOn (sd : Fin 19) (k : Fin 8) (below : Bool)
  /-- OFF_STATE_TEST, R132. -/
  | offStateTest (sd : Fin 19) (k : Fin 8) (vout vfeed : BitVec 16)
  /-- OFF_STATE_TEST_COMPLETE, R132. -/
  | offStateTestComplete (sd : Fin 19) (k : Fin 8) (vout : BitVec 16)
  /-- SENSE_PATH_TEST, R202. -/
  | sensePathTest (sd : Fin 19) (k : Fin 8) (outside : Bool)
  /-- NVM_TABLE_CHECK, R199. -/
  | nvmTableCheck (sd : Fin 19) (crcOk : Bool)
  /-- WIRE_MODEL_STEP, R137. -/
  | wireModelStep (d : Die) (sd : Fin 19) (k : Fin 8)
  /-- INDUCTANCE_ESTIMATE, R144. -/
  | inductanceEstimate (d : Die) (sd : Fin 19) (k : Fin 8) (i1 i2 : BitVec 16)
  /-- RAMP_END, R147. -/
  | rampEnd (sd : Fin 19) (k : Fin 8)
  /-- FAIL_SAFE_TRIP, R193. -/
  | failSafeTrip (sd : Fin 19) (k : Fin 8) (rms : BitVec 16)
  /-- PWR_RESTART, R156. -/
  | pwrRestart (d : Die) (who : Initiator) (sd : Fin 19) (k : Fin 8)
  /-- PWR_OLTEST, R156. -/
  | pwrOltest (d : Die) (who : Initiator) (sd : Fin 19) (k : Fin 8)
  /-- PWR_CALCMD_CAPTURE, R150. -/
  | pwrCalcmdCapture (d : Die) (who : Initiator) (sd : Fin 19) (ch : Fin 8) (low : Bool) (point : Fin 4)
  /-- PWR_CALCMD_COMMIT, R151. -/
  | pwrCalcmdCommit (d : Die) (who : Initiator) (sd : Fin 19) (ch : Fin 8) (low : Bool)
  /-- PWR_CALCMD_CANCEL, R150. -/
  | pwrCalcmdCancel (d : Die) (who : Initiator) (sd : Fin 19) (ch : Fin 8) (low : Bool)
  /-- PWR_CALREF_WRITE, R156. -/
  | pwrCalrefWrite (d : Die) (who : Initiator) (sd : Fin 19) (ref : BitVec 16)
  /-- DCTL_ENTER_TEST, R205. -/
  | dctlEnterTest (d : Die) (who : Initiator) (sd : Fin 19) (confirm : BitVec 16)
  /-- DCTL_LEAVE_TEST, R205. -/
  | dctlLeaveTest (d : Die) (who : Initiator) (sd : Fin 19) (confirm : BitVec 16)
  /-- DCTL_ENTER_RECOVERY, R205. -/
  | dctlEnterRecovery (d : Die) (who : Initiator) (sd : Fin 19) (confirm : BitVec 16)
  /-- CYC, R177. -/
  | cyc (d : Die) (sd : Fin 19) (count : BitVec 16)
  /-- SVCENT, R182. -/
  | svcent (d : Die) (sd : Fin 19) (frame : Word)
  /-- STEER, R182. -/
  | steer (d : Die) (sd : Fin 19) (frame : Word)
  /-- MODE_ENTER_TEST, R185. -/
  | modeEnterTest (d : Die) (sd : Fin 19) (frame : Word)
  /-- MODE_LEAVE_TEST, R185. -/
  | modeLeaveTest (d : Die) (sd : Fin 19) (frame : Word)
  /-- MODE_ENTER_RECOVERY, R185. -/
  | modeEnterRecovery (d : Die) (sd : Fin 19) (frame : Word)
  /-- LATCH, R147. -/
  | latch (d : Die) (sd : Fin 19) (frame : Word)
  /-- RAMP, R147. -/
  | ramp (d : Die) (sd : Fin 19) (frame : Word)
  /-- RESTART, R128. -/
  | restart (d : Die) (sd : Fin 19) (frame : Word)
  /-- OLTEST, R132. -/
  | oltest (d : Die) (sd : Fin 19) (frame : Word)
  /-- BDIR, R167. -/
  | bdir (d : Die) (sd : Fin 19) (frame : Word)
  /-- CALCMD_CAPTURE, R150. -/
  | calcmdCapture (d : Die) (sd : Fin 19) (frame : Word)
  /-- CAPTURE_COMPLETE, R150. -/
  | captureComplete (sd : Fin 19) (mean : BitVec 16) (aborted : Bool)
  /-- CALCMD_COMMIT, R151. -/
  | calcmdCommit (d : Die) (sd : Fin 19) (frame : Word)
  /-- CALCMD_CANCEL, R150. -/
  | calcmdCancel (d : Die) (sd : Fin 19) (frame : Word)
  /-- CALREF, R150. -/
  | calref (d : Die) (sd : Fin 19) (frame : Word)
  /-- TBLSTART, R196. -/
  | tblstart (d : Die) (sd : Fin 19) (frame : Word)
  /-- TBLDATA, R196. -/
  | tbldata (d : Die) (sd : Fin 19) (frame : Word)
  /-- TBLEND, R196. -/
  | tblend (d : Die) (sd : Fin 19) (frame : Word)
  /-- TABLE_COMMIT, R198. -/
  | tableCommit (sd : Fin 19)
  /-- NVM_WRITE_COMPLETE, R90. -/
  | nvmWriteComplete (sd : Fin 19)
  /-- FORCE_RELEASE, R188. -/
  | forceRelease (d : Die) (sd : Fin 19) (frame : Word)
  /-- FORCE_OFF, R188. -/
  | forceOff (d : Die) (sd : Fin 19) (frame : Word)
  /-- FORCE_ON, R188. -/
  | forceOn (d : Die) (sd : Fin 19) (frame : Word)
  /-- FORCE_TIMEOUT, R188. -/
  | forceTimeout (sd : Fin 19) (k : Fin 8)
  /-- TEST_TIMEOUT, R185. -/
  | testTimeout (sd : Fin 19)
  /-- SERIAL_WATCHDOG_EXPIRY, R186. -/
  | serialWatchdogExpiry (sd : Fin 19)
  /-- SERVICE_CYCLE, R178. -/
  | serviceCycle (sd : Fin 19) (feed : BitVec 32) (tsub : BitVec 16) (sns : List (Fin 8 × BitVec 32)) (meas : List ChanMeas)
  /-- SNS, R117. -/
  | sns (d : Die) (sd : Fin 19) (frame : Word)
  /-- DSTAT, R176. -/
  | dstat (d : Die) (sd : Fin 19) (frame : Word)
  /-- EVT, R203. -/
  | evt (d : Die) (sd : Fin 19) (frame : Word)
  /-- ACK, R197. -/
  | ack (d : Die) (sd : Fin 19) (frame : Word)
  /-- SER, R176. -/
  | ser (d : Die) (sd : Fin 19) (frame : Word)
  /-- TBLDIG, R176. -/
  | tbldig (d : Die) (sd : Fin 19) (frame : Word)
  /-- MIS, R176. -/
  | mis (d : Die) (sd : Fin 19) (frame : Word)
  /-- TABLE_ACK_TIMEOUT, R197. -/
  | tableAckTimeout (d : Die) (sd : Fin 19)
  /-- INPUT_LINE_EDGE, R165. -/
  | inputLineEdge (sd : Fin 19) (k : Fin 8) (line : Die) (level : Bool) (time : BitVec 64)
  /-- DEFERRAL_END, R166. -/
  | deferralEnd (sd : Fin 19) (k : Fin 8)
  /-- LINE_ABSENT, R164. -/
  | lineAbsent (sd : Fin 19) (k : Fin 8) (line : Die) (lastPeriod : Option (BitVec 32 × BitVec 32))
  /-- LINE_MISMATCH, R168. -/
  | lineMismatch (sd : Fin 19) (k : Fin 8)
  /-- LINE_CHANGE_TIMEOUT, R183. -/
  | lineChangeTimeout (sd : Fin 19) (k : Fin 8)
  /-- LINK_SILENCE, R179. -/
  | linkSilence (sd : Fin 19) (link : Die) (linesAbsent : Bool)
  /-- PWM_PERIOD_START, R170. -/
  | pwmPeriodStart (d : Die) (lane : Fin 96) (time : BitVec 64)
  /-- NIB_WATCHDOG_EXPIRY, R249. -/
  | nibWatchdogExpiry (n : NibId)
  /-- STREAM_ENTRY_ARRIVAL, R228. -/
  | streamEntryArrival (d : Die) (c : Fin 8) (src : BitVec 16) (stamp : BitVec 64) (payload : List Byte) (err : Bool)
  /-- ENTRY_RELEASE, R230. -/
  | entryRelease (d : Die) (c : Fin 8) (receiving : List (Fin 25 × BitVec 64))
  /-- SOURCE_STALL, R231. -/
  | sourceStall (d : Die) (c : Fin 8) (src : BitVec 16) (mark : BitVec 64)
  /-- ORDER_ENTRY, R233. -/
  | orderEntry (d : Die) (c : Fin 8)
  /-- ORDER_ENTRY_UNMATCHED, R234. -/
  | orderEntryUnmatched (d : Die) (c : Fin 8)
  /-- LOCAL_COPY_DISCARD, R234. -/
  | localCopyDiscard (d : Die) (c : Fin 8) (src : BitVec 16) (seq : BitVec 16)
  /-- TWIN_LAG, R235. -/
  | twinLag (d : Die) (c : Fin 8) (lag : BitVec 16)
  /-- CLUSTER_TICK, R240. -/
  | clusterTick (d : Die) (c : Fin 8) (t : Fin 16) (time : BitVec 64)
  /-- IMEM_WRITE, R251. -/
  | imemWrite (who : Initiator) (n : NibId) (word : Fin 2048) (v : Word) (mirror : Bool)
  /-- NBC_HALT_NIB, R250. -/
  | nbcHaltNib (d : Die) (who : Initiator) (confirm : BitVec 16) (c : Fin 8) (k : BitVec 5)
  /-- NBC_RESUME_NIB, R250. -/
  | nbcResumeNib (d : Die) (who : Initiator) (confirm : BitVec 16) (c : Fin 8) (k : BitVec 5)
  /-- NBC_HALT_ALL, R250. -/
  | nbcHaltAll (d : Die) (who : Initiator) (confirm : BitVec 16) (c : Fin 8)
  /-- NBC_RESUME_ALL, R250. -/
  | nbcResumeAll (d : Die) (who : Initiator) (confirm : BitVec 16) (c : Fin 8)
  /-- NBC_REQUEST_BIST, R257. -/
  | nbcRequestBist (d : Die) (who : Initiator) (confirm : BitVec 16) (c : Fin 8)
  /-- RELOAD_COMPLETE, R254. -/
  | reloadComplete (d : Die) (c : Fin 8)
  /-- REJOIN_COMPLETE, R254. -/
  | rejoinComplete (d : Die) (c : Fin 8)
  /-- SPARE_SUBSTITUTION, R255. -/
  | spareSubstitution (d : Die) (c : Fin 8) (slot : Fin 32)
  /-- CLUSTER_BIST, R257. -/
  | clusterBist (d : Die) (c : Fin 8) (failed : BitVec 32)
  /-- ADD, R273. -/
  | add (n : NibId) (w : Word) (ecc : EccFind)
  /-- SUB, R273. -/
  | sub (n : NibId) (w : Word) (ecc : EccFind)
  /-- AND, R273. -/
  | opAnd (n : NibId) (w : Word) (ecc : EccFind)
  /-- OR, R273. -/
  | opOr (n : NibId) (w : Word) (ecc : EccFind)
  /-- XOR, R273. -/
  | xor (n : NibId) (w : Word) (ecc : EccFind)
  /-- SHL, R273. -/
  | shl (n : NibId) (w : Word) (ecc : EccFind)
  /-- SHR, R273. -/
  | shr (n : NibId) (w : Word) (ecc : EccFind)
  /-- SAR, R273. -/
  | sar (n : NibId) (w : Word) (ecc : EccFind)
  /-- ROR, R273. -/
  | ror (n : NibId) (w : Word) (ecc : EccFind)
  /-- MUL, R273. -/
  | mul (n : NibId) (w : Word) (ecc : EccFind)
  /-- MULH, R273. -/
  | mulh (n : NibId) (w : Word) (ecc : EccFind)
  /-- MULHU, R273. -/
  | mulhu (n : NibId) (w : Word) (ecc : EccFind)
  /-- MIN, R273. -/
  | min (n : NibId) (w : Word) (ecc : EccFind)
  /-- MAX, R273. -/
  | max (n : NibId) (w : Word) (ecc : EccFind)
  /-- MINU, R273. -/
  | minu (n : NibId) (w : Word) (ecc : EccFind)
  /-- MAXU, R273. -/
  | maxu (n : NibId) (w : Word) (ecc : EccFind)
  /-- ABS, R273. -/
  | abs (n : NibId) (w : Word) (ecc : EccFind)
  /-- CLZ, R273. -/
  | clz (n : NibId) (w : Word) (ecc : EccFind)
  /-- CMP, R273. -/
  | cmp (n : NibId) (w : Word) (ecc : EccFind)
  /-- TST, R273. -/
  | tst (n : NibId) (w : Word) (ecc : EccFind)
  /-- ADDI, R275. -/
  | addi (n : NibId) (w : Word) (ecc : EccFind)
  /-- SUBI, R275. -/
  | subi (n : NibId) (w : Word) (ecc : EccFind)
  /-- ANDI, R275. -/
  | andi (n : NibId) (w : Word) (ecc : EccFind)
  /-- ORI, R275. -/
  | ori (n : NibId) (w : Word) (ecc : EccFind)
  /-- XORI, R275. -/
  | xori (n : NibId) (w : Word) (ecc : EccFind)
  /-- CMPI, R275. -/
  | cmpi (n : NibId) (w : Word) (ecc : EccFind)
  /-- LUI, R275. -/
  | lui (n : NibId) (w : Word) (ecc : EccFind)
  /-- SHLI, R276. -/
  | shli (n : NibId) (w : Word) (ecc : EccFind)
  /-- SHRI, R276. -/
  | shri (n : NibId) (w : Word) (ecc : EccFind)
  /-- SARI, R276. -/
  | sari (n : NibId) (w : Word) (ecc : EccFind)
  /-- RORI, R276. -/
  | rori (n : NibId) (w : Word) (ecc : EccFind)
  /-- SATS, R276. -/
  | sats (n : NibId) (w : Word) (ecc : EccFind)
  /-- SATU, R276. -/
  | satu (n : NibId) (w : Word) (ecc : EccFind)
  /-- RND, R277. -/
  | rnd (n : NibId) (w : Word) (ecc : EccFind)
  /-- MAC, R278. -/
  | mac (n : NibId) (w : Word) (ecc : EccFind)
  /-- MACU, R278. -/
  | macu (n : NibId) (w : Word) (ecc : EccFind)
  /-- MSU, R278. -/
  | msu (n : NibId) (w : Word) (ecc : EccFind)
  /-- MULA, R278. -/
  | mula (n : NibId) (w : Word) (ecc : EccFind)
  /-- MULAU, R278. -/
  | mulau (n : NibId) (w : Word) (ecc : EccFind)
  /-- MFAL, R278. -/
  | mfal (n : NibId) (w : Word) (ecc : EccFind)
  /-- MFAH, R278. -/
  | mfah (n : NibId) (w : Word) (ecc : EccFind)
  /-- MTA, R278. -/
  | mta (n : NibId) (w : Word) (ecc : EccFind)
  /-- ACLR, R278. -/
  | aclr (n : NibId) (w : Word) (ecc : EccFind)
  /-- EXT, R281. -/
  | ext (n : NibId) (w : Word) (ecc : EccFind)
  /-- EXTS, R281. -/
  | exts (n : NibId) (w : Word) (ecc : EccFind)
  /-- EXTB, R281. -/
  | extb (n : NibId) (w : Word) (ecc : EccFind)
  /-- EXTBS, R281. -/
  | extbs (n : NibId) (w : Word) (ecc : EccFind)
  /-- INS, R281. -/
  | ins (n : NibId) (w : Word) (ecc : EccFind)
  /-- INSB, R281. -/
  | insb (n : NibId) (w : Word) (ecc : EccFind)
  /-- EXT_A, R282. -/
  | extA (n : NibId) (w : Word) (ecc : EccFind)
  /-- EXTS_A, R282. -/
  | extsA (n : NibId) (w : Word) (ecc : EccFind)
  /-- EXTB_A, R282. -/
  | extbA (n : NibId) (w : Word) (ecc : EccFind)
  /-- EXTBS_A, R282. -/
  | extbsA (n : NibId) (w : Word) (ecc : EccFind)
  /-- INS_A, R282. -/
  | insA (n : NibId) (w : Word) (ecc : EccFind)
  /-- INSB_A, R282. -/
  | insbA (n : NibId) (w : Word) (ecc : EccFind)
  /-- LDW, R283. -/
  | ldw (n : NibId) (w : Word) (ecc : EccFind)
  /-- LDH, R283. -/
  | ldh (n : NibId) (w : Word) (ecc : EccFind)
  /-- LDB, R283. -/
  | ldb (n : NibId) (w : Word) (ecc : EccFind)
  /-- STW, R283. -/
  | stw (n : NibId) (w : Word) (ecc : EccFind)
  /-- STH, R283. -/
  | sth (n : NibId) (w : Word) (ecc : EccFind)
  /-- STB, R283. -/
  | stb (n : NibId) (w : Word) (ecc : EccFind)
  /-- BR, R284. -/
  | br (n : NibId) (w : Word) (ecc : EccFind)
  /-- BAL, R284. -/
  | bal (n : NibId) (w : Word) (ecc : EccFind)
  /-- LOOP, R287. -/
  | opLoop (n : NibId) (w : Word) (ecc : EccFind)
  /-- LOOPR, R287. -/
  | loopr (n : NibId) (w : Word) (ecc : EccFind)
  /-- TRAP, R288. -/
  | trap (n : NibId) (w : Word) (ecc : EccFind)
  /-- NOP, R289. -/
  | nop (n : NibId) (w : Word) (ecc : EccFind)
  /-- ERET, R216. -/
  | eret (n : NibId) (w : Word) (ecc : EccFind)
  /-- WAIT, R248. -/
  | wait (n : NibId) (w : Word) (ecc : EccFind)
  /-- SYNC, R244. -/
  | sync (n : NibId) (w : Word) (ecc : EccFind)
  /-- MSET, R217. -/
  | mset (n : NibId) (w : Word) (ecc : EccFind)
  /-- MFS, R289. -/
  | mfs (n : NibId) (w : Word) (ecc : EccFind)
  /-- MTS, R290. -/
  | mts (n : NibId) (w : Word) (ecc : EccFind)
  /-- JR, R285. -/
  | jr (n : NibId) (w : Word) (ecc : EccFind)
  /-- JALR, R285. -/
  | jalr (n : NibId) (w : Word) (ecc : EccFind)
  /-- DSC_LD_U, R292. -/
  | dscLdU (n : NibId) (w : Word) (ecc : EccFind)
  /-- DSC_LD_S, R293. -/
  | dscLdS (n : NibId) (w : Word) (ecc : EccFind)
  /-- DSC_LD_P, R291. -/
  | dscLdP (n : NibId) (w : Word) (ecc : EccFind)
  /-- DSC_LD_F, R291. -/
  | dscLdF (n : NibId) (w : Word) (ecc : EccFind)
  /-- SCL_I, R294. -/
  | sclI (n : NibId) (w : Word) (ecc : EccFind)
  /-- SCL_O, R295. -/
  | sclO (n : NibId) (w : Word) (ecc : EccFind)
  /-- DSC_ST_S, R297. -/
  | dscStS (n : NibId) (w : Word) (ecc : EccFind)
  /-- DSC_ST_X, R310. -/
  | dscStX (n : NibId) (w : Word) (ecc : EccFind)
  /-- DSC_ST_P, R296. -/
  | dscStP (n : NibId) (w : Word) (ecc : EccFind)
  /-- DSC_ST_O, R296. -/
  | dscStO (n : NibId) (w : Word) (ecc : EccFind)
  /-- MBX_GET, R238. -/
  | mbxGet (n : NibId) (w : Word) (ecc : EccFind)
  /-- MBX_PUT, R241. -/
  | mbxPut (n : NibId) (w : Word) (ecc : EccFind)
  /-- SNS_GET, R303. -/
  | snsGet (n : NibId) (w : Word) (ecc : EccFind)
  /-- TGET_L, R299. -/
  | tgetL (n : NibId) (w : Word) (ecc : EccFind)
  /-- TGET_H, R299. -/
  | tgetH (n : NibId) (w : Word) (ecc : EccFind)
  /-- OCMP_LVL, R300. -/
  | ocmpLvl (n : NibId) (w : Word) (ecc : EccFind)
  /-- OCMP_PWM, R301. -/
  | ocmpPwm (n : NibId) (w : Word) (ecc : EccFind)
  /-- CRC_STEP, R304. -/
  | crcStep (n : NibId) (w : Word) (ecc : EccFind)
  /-- SHADOW_AGEING_PASS, R332. -/
  | shadowAgeingPass (d : Die)
  /-- OTAIL_WRITE, R335. -/
  | otailWrite (d : Die) (who : Initiator) (p : Fin 32) (v : Word)
  /-- OUTBOUND_ITEM, R338. -/
  | outboundItem (p : Fin 32)
  /-- IHEAD_WRITE, R340. -/
  | iheadWrite (d : Die) (who : Initiator) (p : Fin 32) (v : Word)
  /-- ECMD_READ, R342. -/
  | ecmdRead (d : Die) (who : Initiator) (table : BitVec 2) (index : BitVec 18)
  /-- ECMD_WRITE, R342. -/
  | ecmdWrite (d : Die) (who : Initiator) (table : BitVec 2) (index : BitVec 18) (mirror clear : Bool)
  /-- INVALIDATE_ONE, R344. -/
  | invalidateOne (d : Die) (who : Initiator) (index : BitVec 18) (mirror : Bool)
  /-- INVALIDATE_ALL, R344. -/
  | invalidateAll (d : Die) (who : Initiator) (mirror : Bool)
  /-- INVALIDATION_COMPLETE, R344. -/
  | invalidationComplete (d : Die)
  /-- GENERATION_SWEEP, R347. -/
  | generationSweep (d : Die) (c : Fin 8)
  /-- MIRROR_SCRUB_BLOCK, R348. -/
  | mirrorScrubBlock (table : Fin 3) (block : Fin 1024)
  /-- SIGNAL_STORE_COPY, R349. -/
  | signalStoreCopy (d : Die)
  /-- SIGNAL_STORE_ECC_ERROR, R350. -/
  | signalStoreEccError (d : Die) (addr : BitVec 32) (corrected : Bool)
  /-- TIDX_WRITE, R353. -/
  | tidxWrite (d : Die) (who : Initiator) (index : BitVec 18)
  /-- CAN_FRAME_RECEIVE, R369. -/
  | canFrameReceive (d : Die) (c : Fin 16) (own good remote : Bool) (idw ctl af : BitVec 32) (data : List Byte) (stamp : BitVec 64)
  /-- SHADOW_FRAME_TIMEOUT, R363. -/
  | shadowFrameTimeout (d : Die) (c : Fin 16) (part : Bool)
  /-- FIELD_BUS_STEER_REQUEST, R365. -/
  | fieldBusSteerRequest (i : Fin 28) (sender names : Die) (count : BitVec 16)
  /-- SELECTOR_CHANGE, R364. -/
  | selectorChange (i : Fin 28)
  /-- CONTROLLER_SILENT, R364. -/
  | controllerSilent (i : Fin 28)
  /-- CAN_FRAME_SENT, R370. -/
  | canFrameSent (c : Fin 16) (good : Bool)
  /-- BUS_OFF, R371. -/
  | busOff (c : Fin 16)
  /-- BUS_OFF_RECOVERY, R371. -/
  | busOffRecovery (c : Fin 16)
  /-- CAN_WAKE_PATTERN, R372. -/
  | canWakePattern (c : Fin 16)
  /-- CAN_RESTART, R388. -/
  | canRestart (d : Die) (who : Initiator) (c : Fin 16) (confirm : BitVec 8)
  /-- CAN_STANDBY, R388. -/
  | canStandby (d : Die) (who : Initiator) (c : Fin 16) (confirm : BitVec 8)
  /-- CAN_NORMAL, R388. -/
  | canNormal (d : Die) (who : Initiator) (c : Fin 16) (confirm : BitVec 8)
  /-- LIN_RUN_RANGE, R375. -/
  | linRunRange (d : Die) (who : Initiator) (l : Fin 12) (first : BitVec 6) (count : BitVec 7) (confirm : BitVec 8)
  /-- LIN_GO_TO_SLEEP, R377. -/
  | linGoToSleep (d : Die) (who : Initiator) (l : Fin 12) (confirm : BitVec 8)
  /-- LIN_SEND_WAKEUP, R377. -/
  | linSendWakeup (d : Die) (who : Initiator) (l : Fin 12) (confirm : BitVec 8)
  /-- LIN_SLOT_START, R375. -/
  | linSlotStart (l : Fin 12)
  /-- LIN_FRAME_RECEIVE, R376. -/
  | linFrameReceive (d : Die) (l : Fin 12) (ownHeader ownResponse good : Bool) (ident : BitVec 6) (data : List Byte) (stamp : BitVec 64)
  /-- LIN_WAKE, R377. -/
  | linWake (l : Fin 12)
  /-- SATELLITE_ACCESS, R380. -/
  | satelliteAccess (d : Die) (who : Initiator) (addr : BitVec 40) (n : Fin 9) (write : Bool) (lock : LockOp) (data : BitVec 32)
  /-- SATELLITE_BUS_GRANT, R381. -/
  | satelliteBusGrant (b : Fin 4)
  /-- SATELLITE_BUS_TIMEOUT, R381. -/
  | satelliteBusTimeout (b : Fin 4) (d : Die)
  /-- SATELLITE_TRANSACTION_END, R382. -/
  | satelliteTransactionEnd (b : Fin 4) (data : List Byte) (crc : BitVec 8)
  /-- SATELLITE_LOCK_TIMEOUT, R383. -/
  | satelliteLockTimeout (b : Fin 4) (age : BitVec 16)
  /-- SENSE_SAMPLE, R385. -/
  | senseSample (n : Fin 96) (mv : BitVec 16) (stamp : BitVec 64)
  /-- SENSE_DEBOUNCE_EXPIRY, R386. -/
  | senseDebounceExpiry (n : Fin 96) (high : Bool)
  /-- MAC_FRAME_RECEIVE, R397. -/
  | macFrameReceive (d : Die) (p : Fin 24) (bytes : List Byte) (sym reasm : Bool) (frags : BitVec 8) (stamp : BitVec 64)
  /-- PAUSE_RECEIVE, R410. -/
  | pauseReceive (d : Die) (p : Fin 24) (src : BitVec 48) (pfc : Bool) (enable : BitVec 8) (times : List (BitVec 16)) (stamp : BitVec 64)
  /-- PAUSE_EXPIRY, R410. -/
  | pauseExpiry (d : Die) (p : Fin 24) (cls : Fin 8)
  /-- PAUSE_REPEAT, R411. -/
  | pauseRepeat (d : Die) (p : Fin 24)
  /-- LINK_CHANGE, R395. -/
  | linkChange (p : Fin 24) (up : Bool) (sqi : BitVec 3)
  /-- PORT_STEER_COMMAND, R399. -/
  | portSteerCommand (p : Fin 24) (sender names : Die) (serial : BitVec 11)
  /-- PORT_SELECTOR_CHANGE, R400. -/
  | portSelectorChange (p : Fin 24)
  /-- MAC_SILENT, R400. -/
  | macSilent (p : Fin 24)
  /-- MAC_TRANSMIT, R402. -/
  | macTransmit (d : Die) (p : Fin 24) (busy : Bool) (frags : BitVec 8)
  /-- TRANSMIT_ECHO, R401. -/
  | transmitEcho (d : Die) (p : Fin 24) (len : BitVec 16) (fcs : BitVec 32)
  /-- ECHO_TIMEOUT, R401. -/
  | echoTimeout (d : Die) (p : Fin 24)
  /-- COLLISION, R403. -/
  | collision (d : Die) (p : Fin 24) (late : Bool)
  /-- FORCED_COLLISION, R404. -/
  | forcedCollision (d : Die) (p : Fin 24)
  /-- BEACON_LOSS, R405. -/
  | beaconLoss (p : Fin 24)
  /-- BEACON, R405. -/
  | beacon (p : Fin 24)
  /-- LPI_ENTRY, R406. -/
  | lpiEntry (d : Die) (p : Fin 24)
  /-- LPI_WAKE_END, R406. -/
  | lpiWakeEnd (d : Die) (p : Fin 24)
  /-- EEEWAKE_WRITE, R407. -/
  | eeewakeWrite (d : Die) (who : Initiator) (p : Fin 24) (v : Word)
  /-- VERIFY_TIMEOUT, R414. -/
  | verifyTimeout (d : Die) (p : Fin 24) (answered : Bool)
  /-- MAC_RETRAIN, R419. -/
  | macRetrain (d : Die) (who : Initiator) (p : Fin 24) (confirm : BitVec 8)
  /-- MAC_REPEAT_VERIFY, R419. -/
  | macRepeatVerify (d : Die) (who : Initiator) (p : Fin 24) (confirm : BitVec 8)
  /-- FRAME_REASSEMBLED, R425. -/
  | frameReassembled (d : Die) (ingress : Fin 60)
  /-- BUFFER_SKIP, R428. -/
  | bufferSkip (d : Die) (b : Fin 16) (testOk : Bool)
  /-- REASSEMBLY_TIMEOUT, R429. -/
  | reassemblyTimeout (d : Die) (ingress : Fin 60)
  /-- BUFFER_READMIT, R429. -/
  | bufferReadmit (d : Die) (b : Fin 16)
  /-- FDB_AGEING_PASS, R437. -/
  | fdbAgeingPass (d : Die)
  /-- TXTAIL_WRITE, R446. -/
  | txtailWrite (d : Die) (who : Initiator) (part : Fin 32) (q : Fin 8) (v : Word)
  /-- HOST_DESCRIPTOR_READ, R447. -/
  | hostDescriptorRead (d : Die) (part : Fin 32) (q : Fin 8)
  /-- PAIR_PORT_FRAME, R448. -/
  | pairPortFrame (d : Die)
  /-- RXHEAD_WRITE, R449. -/
  | rxheadWrite (d : Die) (who : Initiator) (part : Fin 32) (q : Fin 8) (v : Word)
  /-- HOST_QUEUE_TIMEOUT, R450. -/
  | hostQueueTimeout (d : Die) (part : Fin 32) (q : Fin 8)
  /-- GATE_ENTRY_CHANGE, R455. -/
  | gateEntryChange (d : Die) (p : Fin 24)
  /-- FEED_ENTRY, R458. -/
  | feedEntry (d : Die)
  /-- FEED_ACK, R457. -/
  | feedAck (d : Die)
  /-- SHADOW_FRAME_DISCARD, R458. -/
  | shadowFrameDiscard (d : Die) (p : Fin 25) (part : Fin 32) (k : Fin 8)
  /-- SWITCH_CORE_FAILOVER, R459. -/
  | switchCoreFailover (d : Die)
  /-- STANDBY_RESTART, R461. -/
  | standbyRestart (d : Die)
  /-- FLUSH_ALL, R463. -/
  | flushAll (d : Die) (who : Initiator) (confirm : BitVec 8)
  /-- FLUSH_PORT, R463. -/
  | flushPort (d : Die) (who : Initiator) (confirm : BitVec 8) (port : BitVec 5)
  /-- READMIT_BUFFER, R429. -/
  | readmitBuffer (d : Die) (who : Initiator) (confirm : BitVec 8) (b : Fin 16)
  /-- FDB_READ_BY_KEY, R463. -/
  | fdbReadByKey (d : Die) (who : Initiator)
  /-- FDB_READ_BY_INDEX, R463. -/
  | fdbReadByIndex (d : Die) (who : Initiator) (i : BitVec 14)
  /-- FDB_WRITE, R435. -/
  | fdbWrite (d : Die) (who : Initiator) (mirror : Bool)
  /-- FDB_DELETE, R435. -/
  | fdbDelete (d : Die) (who : Initiator) (mirror : Bool)
  /-- VLAN_READ, R463. -/
  | vlanRead (d : Die) (who : Initiator) (vid : BitVec 12)
  /-- VLAN_WRITE, R463. -/
  | vlanWrite (d : Die) (who : Initiator) (mirror : Bool) (vid : BitVec 12)
  /-- SYNC_RECEIVE, R475. -/
  | syncReceive (d : Die) (p : Fin 24) (domain : BitVec 8) (origin : BitVec 64) (corr : BitVec 64) (log : Fin 8) (stamp : BitVec 64)
  /-- ANNOUNCE_RECEIVE, R469. -/
  | announceReceive (d : Die) (p : Fin 24) (domain : BitVec 8) (gm : Announce)
  /-- PDELAY_EXCHANGE, R473. -/
  | pdelayExchange (d : Die) (p : Fin 24) (delay ratio : BitVec 32)
  /-- SYNC_TRANSMIT, R474. -/
  | syncTransmit (d : Die) (p : Fin 24)
  /-- SYNC_RECEIPT_TIMEOUT, R476. -/
  | syncReceiptTimeout (d : Die)
  /-- HOLDOVER_LIMIT, R476. -/
  | holdoverLimit (d : Die)
  /-- STEP_PROPOSAL, R478. -/
  | stepProposal (d : Die) (ts : BitVec 64)
  /-- STEP_APPLY, R478. -/
  | stepApply (d : Die)
  /-- DIE_OFFSET_EXCHANGE, R483. -/
  | dieOffsetExchange (d : Die) (offset : BitVec 32)
  /-- RTC_SET, R481. -/
  | rtcSet (d : Die)
  /-- NOW_READ, R484. -/
  | nowRead (d : Die) (who : Initiator)
  /-- SNAP, R484. -/
  | snap (d : Die) (who : Initiator) (confirm : BitVec 8)
  /-- PULSE_ARM, R489. -/
  | pulseArm (d : Die) (who : Initiator) (k : Fin 4) (v : Word)
  /-- PERIODL_WRITE, R489. -/
  | periodlWrite (d : Die) (who : Initiator) (k : Fin 4) (v : Word)
  /-- PULSE_RISE, R489. -/
  | pulseRise (d : Die) (k : Fin 4)
  /-- PULSE_FALL, R489. -/
  | pulseFall (d : Die) (k : Fin 4)
  /-- LANE_PIN_MISMATCH, R487. -/
  | lanePinMismatch (j : Fin 16)
  /-- EGRESS_TRANSACTION, R501. -/
  | egressTransaction (d : Die) (dux : Fin 12) (line : Option (BitVec 48))
  /-- STOPPED_CORE, R504. -/
  | stoppedCore (d : Die) (dux : Fin 12) (core : Die)
  /-- LAG_STALL, R505. -/
  | lagStall (d : Die) (dux : Fin 12) (us : BitVec 16)
  /-- SLOW_COPY, R505. -/
  | slowCopy (d : Die) (dux : Fin 12)
  /-- AGREE, R508. -/
  | agree (d : Die) (dux : Fin 12) (core : Die) (rd rs1 : Fin 32)
  /-- CKPT, R604. -/
  | ckpt (d : Die) (dux : Fin 12) (core : Die)
  /-- WGATE, R551. -/
  | wgate (d : Die) (dux : Fin 12) (core : Die) (imm : BitVec 8)
  /-- WENTRY, R553. -/
  | wentry (d : Die) (dux : Fin 12) (core : Die)
  /-- WRET, R557. -/
  | wret (d : Die) (dux : Fin 12) (core : Die)
  /-- HGATP_WRITE, R541. -/
  | hgatpWrite (d : Die) (dux : Fin 12) (core : Die) (v : BitVec 64)
  /-- EVENT_DELIVERY, R511. -/
  | eventDelivery (d : Die) (dux : Fin 12) (line : Fin 6)
  /-- WFI_WAKE, R611. -/
  | wfiWake (d : Die) (dux : Fin 12) (core : Die)
  /-- COUNTER_OVERFLOW, R607. -/
  | counterOverflow (d : Die) (dux : Fin 12)
  /-- CACHE_ECC_ERROR, R593. -/
  | cacheEccError (d : Die) (dux : Fin 12) (core : Die) (kind : Fin 4) (line : BitVec 48)
  /-- DUPLEX_START, R610. -/
  | duplexStart (d : Die) (dux : Fin 12)
  /-- EPOCH_END, R512. -/
  | epochEnd (d : Die) (dux : Fin 12)
  /-- JOURNAL_SEND, R514. -/
  | journalSend (d : Die) (dux : Fin 12)
  /-- JOURNAL_RECEIVE, R516. -/
  | journalReceive (d : Die) (dux : Fin 12) (magic : Word) (crc : BitVec 64)
  /-- SEAL_ACK, R519. -/
  | sealAck (d : Die) (dux : Fin 12)
  /-- SEAL_WAIT, R517. -/
  | sealWait (d : Die) (dux : Fin 12)
  /-- SPARE_LAG_TIMEOUT, R518. -/
  | spareLagTimeout (d : Die) (dux : Fin 12)
  /-- LOG_ACK, R515. -/
  | logAck (d : Die) (dux : Fin 12) (pos : BitVec 64)
  /-- FAILOVER, R523. -/
  | failover (d : Die) (dux : Fin 12)
  /-- LOG_EXHAUSTED, R523. -/
  | logExhausted (d : Die) (dux : Fin 12)
  /-- DIE_LOSS, R525. -/
  | dieLoss (d : Die)
  /-- SYNC_PASS, R529. -/
  | syncPass (d : Die) (dux : Fin 12)
  /-- DUPLEX_BIST, R530. -/
  | duplexBist (d : Die) (dux : Fin 12) (passed : Bool)
  /-- BIST_INTERVAL, R531. -/
  | bistInterval (d : Die) (dux : Fin 12)
  /-- CKP_ROLE_SWAP_PARTITION, R531. -/
  | ckpRoleSwapPartition (d : Die) (who : Initiator) (confirm : BitVec 8) (p : Fin 32)
  /-- CKP_ROLE_SWAP_DIE, R531. -/
  | ckpRoleSwapDie (d : Die) (who : Initiator) (confirm : BitVec 8) (die : Die)
  /-- CKP_RESYNC, R535. -/
  | ckpResync (d : Die) (who : Initiator) (confirm : BitVec 8) (p : Fin 32)
  /-- DUX_RUN_BIST, R534. -/
  | duxRunBist (d : Die) (who : Initiator) (confirm : BitVec 8) (dux : BitVec 4)
  /-- DUX_RETIRE, R534. -/
  | duxRetire (d : Die) (who : Initiator) (confirm : BitVec 8) (dux : BitVec 4)
  /-- WLD_RESET_ACK, R548. -/
  | wldResetAck (d : Die) (who : Initiator) (confirm : BitVec 8) (p : Fin 32)
  /-- WLD_RESTART, R563. -/
  | wldRestart (d : Die) (who : Initiator) (confirm : BitVec 8)
  /-- PIN_WRITE, R546. -/
  | pinWrite (d : Die) (who : Initiator) (pin : Fin 16) (oe out : Bool)
  /-- SEALED_WATCHDOG_EXPIRY, R560. -/
  | sealedWatchdogExpiry (d : Die) (dux : Fin 12)
  /-- SEALED_RESTART_RELOAD, R563. -/
  | sealedRestartReload (codes0 codes1 : List (List Byte))
  /-- SEALED_STATE_NOTICE, R562. -/
  | sealedStateNotice (d : Die)
  /-- RGD_READ, R577. -/
  | rgdRead (d : Die) (who : Initiator) (confirm : BitVec 8) (guard : BitVec 4) (region : Fin 64)
  /-- RGD_WRITE, R573. -/
  | rgdWrite (d : Die) (who : Initiator) (confirm : BitVec 8) (mirror : Bool) (guard : BitVec 4) (region : Fin 64)
  /-- SOURCE_FIRE, R614. -/
  | sourceFire (d : Die) (src : Fin 1024)
  /-- MODERATION_TIMEOUT, R623. -/
  | moderationTimeout (d : Die) (src : Fin 1024)
  /-- CLAIM_M, R619. -/
  | claimM (d : Die) (dux : Fin 12)
  /-- CLAIM_S, R619. -/
  | claimS (d : Die) (dux : Fin 12)
  /-- CLAIM_V, R619. -/
  | claimV (d : Die) (dux : Fin 12)
  /-- EOI_M, R620. -/
  | eoiM (d : Die) (dux : Fin 12) (src : Fin 1024)
  /-- EOI_S, R620. -/
  | eoiS (d : Die) (dux : Fin 12) (src : Fin 1024)
  /-- EOI_V, R620. -/
  | eoiV (d : Die) (dux : Fin 12) (src : Fin 1024)
  /-- THRESHOLD_WRITE, R622. -/
  | thresholdWrite (d : Die) (dux : Fin 12) (level : Fin 3) (thr : BitVec 6)
  /-- SOFTWARE_SET, R625. -/
  | softwareSet (d : Die) (who : Initiator) (set : BitVec 16)
  /-- TIMER_COMPARE_WRITE, R626. -/
  | timerCompareWrite (d : Die) (who : Initiator) (t : Fin 48) (high : Bool) (v : Word)
  /-- TIMER_EXPIRY, R626. -/
  | timerExpiry (d : Die) (t : Fin 48)
  /-- PARTNER_EVC_WRITE, R627. -/
  | partnerEvcWrite (d : Die)
  /-- LANE_DISAGREEMENT, R638. -/
  | laneDisagreement (lane : Fin 3)
  /-- HOLDER_SILENT, R662. -/
  | holderSilent (d : Die)
  /-- SUPERVISOR_TIMEOUT, R639. -/
  | supervisorTimeout
  /-- REGULATOR_FAILURE, R640. -/
  | regulatorFailure (d : Die)
  /-- REGULATOR_RESTART, R640. -/
  | regulatorRestart (d : Die) (ok : Bool)
  /-- RTC_CRYSTAL_STOP, R641. -/
  | rtcCrystalStop
  /-- SLEEP_DROWSE, R644. -/
  | sleepDrowse (d : Die) (who : Initiator) (confirm tag : BitVec 8) (pin : Fin 8) (usePin : Bool)
  /-- SLEEP_DORMANT, R644. -/
  | sleepDormant (d : Die) (who : Initiator) (confirm tag : BitVec 8) (pin : Fin 8) (usePin : Bool)
  /-- SLEEP_SENTINEL, R644. -/
  | sleepSentinel (d : Die) (who : Initiator) (confirm tag : BitVec 8) (pin : Fin 8) (usePin : Bool)
  /-- COMMIT_POINT, R645. -/
  | commitPoint (can : BitVec 4) (eth : BitVec 24) (edges : BitVec 8) (prepUs : BitVec 16)
  /-- SLEEP_TIMEOUT, R644. -/
  | sleepTimeout
  /-- STANDBY_RELEASE, R643. -/
  | standbyRelease (sd : Fin 19)
  /-- WAKE_FROM_DROWSE, R648. -/
  | wakeFromDrowse (eth : BitVec 24)
  /-- WAKE_FROM_DORMANT, R647. -/
  | wakeFromDormant (eth : BitVec 24)
  /-- WAKE_FROM_SENTINEL, R642. -/
  | wakeFromSentinel
  /-- WAKE_PIN_EDGE, R649. -/
  | wakePinEdge (pin : Fin 8) (level : Bool)
  /-- RTC_ALARM, R642. -/
  | rtcAlarm
  /-- ALARM_WRITE, R666. -/
  | alarmWrite (d : Die) (who : Initiator) (high : Bool) (v : Word)
  /-- METER_SAMPLE, R650. -/
  | meterSample (feedB : Bool) (volt : BitVec 16) (cur : BitVec 32) (own : BitVec 32)
  /-- ENERGY_REPORT, R652. -/
  | energyReport (d : Die) (c : Fin 8)
  /-- BALANCE_FLOOR, R655. -/
  | balanceFloor
  /-- GRANT, R654. -/
  | grant (d : Die) (who : Initiator) (amount : BitVec 24) (tag : BitVec 8)
  /-- ERRAND_ADD, R656. -/
  | errandAdd (d : Die) (who : Initiator) (confirm tag : BitVec 8) (slot : Fin 16)
  /-- ERRAND_CANCEL, R656. -/
  | errandCancel (d : Die) (who : Initiator) (confirm tag : BitVec 8) (slot : Fin 16)
  /-- ERRAND_DONE, R656. -/
  | errandDone (d : Die) (who : Initiator) (confirm tag : BitVec 8) (slot : Fin 16)
  /-- ERRAND_DUE, R657. -/
  | errandDue
  /-- ERRAND_DEADLINE, R657. -/
  | errandDeadline
  /-- ERRAND_OVERRUN, R658. -/
  | errandOverrun
  /-- LIMIT_UPDATE, R660. -/
  | limitUpdate (tplate : BitVec 12) (meanA meanB : BitVec 32) (q0 q1 : BitVec 16)
  /-- FAULT_REPORT, R662. -/
  | faultReport (d : Die) (t : Fin 9) (answer : Option Bool)
  /-- REPORT_CONFIRM_TIMEOUT, R662. -/
  | reportConfirmTimeout (t : Fin 9)
  /-- ROLE_SWAP_REQUEST, R663. -/
  | roleSwapRequest (d : Die) (who : Initiator) (confirm tag : BitVec 8) (token : BitVec 4) (die : Die)
  /-- HEARTBEAT_SEND, R671. -/
  | heartbeatSend (d : Die)
  /-- HEARTBEAT, R671. -/
  | heartbeat (d : Die) (port : Fin 24) (f : ZgFrame)
  /-- MEMBER_LOSS, R671. -/
  | memberLoss (d : Die) (m : Fin 1024)
  /-- VIEW_SEND, R672. -/
  | viewSend (d : Die)
  /-- VIEW, R672. -/
  | view (d : Die) (port : Fin 24) (f : ZgFrame)
  /-- JOIN_SEND, R673. -/
  | joinSend (d : Die)
  /-- JOIN, R673. -/
  | join (d : Die) (port : Fin 24) (f : ZgFrame)
  /-- ADMIT, R673. -/
  | admitModule (d : Die) (port : Fin 24) (f : ZgFrame)
  /-- ISOLATION, R675. -/
  | isolation (d : Die)
  /-- LEAVE, R676. -/
  | leave (d : Die) (port : Fin 24) (f : ZgFrame)
  /-- COORDINATOR_TAKEOVER, R678. -/
  | coordinatorTakeover (d : Die)
  /-- SLOW_CLEAR, R680. -/
  | slowClear (d : Die) (m : Fin 1024)
  /-- REPORT_SLOT, R682. -/
  | reportSlot (d : Die) (m : Fin 1024) (kind : BitVec 8) (detail : Word)
  /-- REPORT_RETRY, R682. -/
  | reportRetry (d : Die) (m : Fin 1024) (kind : BitVec 8) (detail : Word)
  /-- REPORT, R683. -/
  | report (d : Die) (port : Fin 24) (f : ZgFrame)
  /-- IAMAR_ACK, R685. -/
  | iamarAck (d : Die) (port : Fin 24) (f : ZgFrame)
  /-- LEDGER_CLOSE, R684. -/
  | ledgerClose (d : Die) (e : Fin 256)
  /-- ZGP_REPORT, R696. -/
  | zgpReport (d : Die) (who : Initiator) (confirm tag : BitVec 8)
  /-- ZGP_LEAVE, R676. -/
  | zgpLeave (d : Die) (who : Initiator) (confirm tag : BitVec 8)
  /-- ZGP_REJOIN, R676. -/
  | zgpRejoin (d : Die) (who : Initiator) (confirm tag : BitVec 8)
  /-- ZGP_RELEASE, R688. -/
  | zgpRelease (d : Die) (who : Initiator) (confirm tag : BitVec 8) (p : Fin 32)
  /-- PUBLISH, R687. -/
  | publish (d : Die) (who : Initiator) (confirm tag : BitVec 8) (p : Fin 32)
  /-- ROAMSTATE, R687. -/
  | roamstate (d : Die) (port : Fin 24) (f : ZgFrame)
  /-- ROAM, R688. -/
  | roam (d : Die) (port : Fin 24) (f : ZgFrame)
  /-- ROAMING_GRANT, R688. -/
  | roamingGrant (d : Die) (home : Fin 1024) (part : Fin 32) (taker : Fin 1024)
  /-- REMREQ, R691. -/
  | remreq (d : Die) (port : Fin 24) (f : ZgFrame)
  /-- REMOTE_ACCESS, R690. -/
  | remoteAccess (d : Die) (who : Initiator) (addr : BitVec 40) (size : Fin 9) (op : Fin 8) (fn : BitVec 8) (data seq : Word)
  /-- REMRSP, R694. -/
  | remrsp (d : Die) (port : Fin 24) (f : ZgFrame)
  /-- REMOTE_TIMEOUT, R694. -/
  | remoteTimeout (d : Die) (tag : BitVec 16)
  /-- REMOTE_LOCK_TIMEOUT, R693. -/
  | remoteLockTimeout (d : Die) (inst : BitVec 16)
  /-- UPD_MANIFEST, R701. -/
  | updManifest (d : Die) (who : Initiator) (confirm tag : BitVec 8)
  /-- UPD_STAGE, R702. -/
  | updStage (d : Die) (who : Initiator) (confirm tag : BitVec 8)
  /-- UPD_INSTALL, R706. -/
  | updInstall (d : Die) (who : Initiator) (confirm tag : BitVec 8)
  /-- UPD_CUTOVER, R715. -/
  | updCutover (d : Die) (who : Initiator) (confirm tag : BitVec 8)
  /-- UPD_ABORT, R720. -/
  | updAbort (d : Die) (who : Initiator) (confirm tag : BitVec 8)
  /-- UPD_CLEAR, R720. -/
  | updClear (d : Die) (who : Initiator) (confirm tag : BitVec 8)
  /-- CHUNK_SYNC, R703. -/
  | chunkSync (d : Die)
  /-- PREP1_COMPLETE, R709. -/
  | prep1Complete
  /-- PREP1_TIMEOUT, R709. -/
  | prep1Timeout
  /-- UPDATE_WRITE, R709. -/
  | updateWrite (d : Die) (units : BitVec 16)
  /-- BOOT1_TIMEOUT, R711. -/
  | boot1Timeout
  /-- SPLIT_LIMIT, R714. -/
  | splitLimit
  /-- CUTOVER_COMMIT, R715. -/
  | cutoverCommit
  /-- CUTOVER_LIMIT, R715. -/
  | cutoverLimit
  /-- UPDATE_REQUEST, R723. -/
  | updateRequest (d : Die)
  /-- UPDATE, R723. -/
  | update (d : Die) (port : Fin 24) (f : ZgFrame)
  /-- GRANT_LAPSE, R723. -/
  | grantLapse (d : Die)
  /-- SUMMARY_WRITE, R735. -/
  | summaryWrite (d : Die) (cls : Fin 24)
  /-- FAULT_ASSERT, R739. -/
  | faultAssert (d : Die) (who : Initiator) (confirm : BitVec 8)
  /-- FAULT_RELEASE, R739. -/
  | faultRelease (d : Die) (who : Initiator) (confirm : BitVec 8)
  /-- BLOTTER_READ, R754. -/
  | blotterRead (d : Die) (who : Initiator) (confirm : BitVec 8)
  /-- BLOTTER_RELEASE, R754. -/
  | blotterRelease (d : Die) (who : Initiator) (confirm : BitVec 8)
  /-- DUMP, R750. -/
  | dump (d : Die) (who : Initiator) (confirm : BitVec 8)
  /-- CLEARSUM, R735. -/
  | clearsum (d : Die) (who : Initiator) (confirm : BitVec 8)
  /-- SCRUB_PASS, R744. -/
  | scrubPass (d : Die) (dram : Bool)
  /-- SRAM_ROW_REMAP, R746. -/
  | sramRowRemap (d : Die) (mem : Fin 12) (bank : BitVec 8) (row : BitVec 24) (lost : Bool)
  /-- DRAM_ROW_REPAIR, R747. -/
  | dramRowRepair (d : Die) (bank : Fin 64) (row : BitVec 24)
  /-- DRAM_ECC_ERROR, R748. -/
  | dramEccError (d : Die) (dux : Fin 12) (addr : BitVec 48) (applying : Bool)
  /-- FATAL_FAILURE, R751. -/
  | fatalFailure (d : Die) (cause : Fin 5)
  /-- MANAGEMENT_WATCHDOG_EXPIRY, R750. -/
  | managementWatchdogExpiry (d : Die)
  /-- DUMP_COMPLETE, R751. -/
  | dumpComplete (d : Die)
  /-- BLOTTER_COPY, R751. -/
  | blotterCopy (d : Die)
  /-- KAT_STEP, R749. -/
  | katStep (d : Die) (pass : Bool)
  /-- DIE_GLITCH, R767. -/
  | dieGlitch (d : Die)
  /-- CISTERN_GLITCH, R767. -/
  | cisternGlitch
  /-- DRBG_HEALTH_FAIL, R766. -/
  | drbgHealthFail (d : Die)
  /-- CHALLENGE, R770. -/
  | challenge (d : Die) (who : Initiator) (confirm : BitVec 8)
  /-- UNLOCK, R770. -/
  | unlock (d : Die) (who : Initiator) (confirm : BitVec 8) (scope : BitVec 2)
  /-- UNLOCK_VERIFIED, R770. -/
  | unlockVerified (d : Die)
  /-- CHALLENGE_EXPIRY, R770. -/
  | challengeExpiry (d : Die)
  /-- ZEROISE, R771. -/
  | zeroise (d : Die)
  /-- MEASUREMENT_READ, R775. -/
  | measurementRead (d : Die) (who : Initiator)
  /-- SEC_RANDOM, R774. -/
  | secRandom (d : Die) (cmd : SecCmd)
  /-- SEC_KEYGEN, R774. -/
  | secKeygen (d : Die) (cmd : SecCmd)
  /-- SEC_LOAD, R774. -/
  | secLoad (d : Die) (cmd : SecCmd)
  /-- SEC_SAVE, R774. -/
  | secSave (d : Die) (cmd : SecCmd)
  /-- SEC_GCM_ENCRYPT, R774. -/
  | secGcmEncrypt (d : Die) (cmd : SecCmd)
  /-- SEC_GCM_DECRYPT, R774. -/
  | secGcmDecrypt (d : Die) (cmd : SecCmd)
  /-- SEC_SIGN, R774. -/
  | secSign (d : Die) (cmd : SecCmd)
  /-- SEC_ATTEST, R774. -/
  | secAttest (d : Die) (cmd : SecCmd)
  /-- SEC_CLEAR_SLOT, R774. -/
  | secClearSlot (d : Die) (cmd : SecCmd)
  /-- SEC_SHA384, R774. -/
  | secSha384 (d : Die) (cmd : SecCmd)
  /-- SEC_OPERATION_COMPLETE, R774. -/
  | secOperationComplete (d : Die)
  /-- VAUX_OVERLOAD, R786. -/
  | vauxOverload
  /-- VAUX_RETRY, R786. -/
  | vauxRetry (overloaded : Bool)
  /-- PAIR_LINK_UP, R81. -/
  | pairLinkUp
  /-- LINK_OUT_OF_STEP, R179. -/
  | linkOutOfStep (sd : Fin 19) (link : Die)
  /-- UPSTREAM_FRAMES_ABSENT, R179. -/
  | upstreamFramesAbsent (d : Die) (sd : Fin 19) (returned : Bool)
  /-- LANE_LEVEL_APPLY, R300. -/
  | laneLevelApply (d : Die) (lane : Fin 96)
  /-- MSQL, R176. -/
  | msql (d : Die) (sd : Fin 19) (frame : Word)
  /-- MSQH, R176. -/
  | msqh (d : Die) (sd : Fin 19) (frame : Word)
  /-- VOUT, R176. -/
  | vout (d : Die) (sd : Fin 19) (frame : Word)
  /-- VOUTB, R176. -/
  | voutb (d : Die) (sd : Fin 19) (frame : Word)
  /-- TJ, R176. -/
  | tj (d : Die) (sd : Fin 19) (frame : Word)
  /-- CHST, R176. -/
  | chst (d : Die) (sd : Fin 19) (frame : Word)
  /-- FEED, R176. -/
  | feed (d : Die) (sd : Fin 19) (frame : Word)
  /-- TSUB, R176. -/
  | tsub (d : Die) (sd : Fin 19) (frame : Word)
  /-- CAN_INTEGRATED, R81. -/
  | canIntegrated (d : Die) (c : Fin 16)
  /-- RECEIVE_LPI, R406. -/
  | receiveLpi (d : Die) (p : Fin 24) (enter : Bool)
  /-- SIGNALING_RECEIVE, R469. -/
  | signalingReceive (d : Die) (p : Fin 24) (domain : BitVec 8) (request : Bool) (sync pdelay ann : BitVec 8)
  /-- ANNOUNCE_RECEIPT_TIMEOUT, R469. -/
  | announceReceiptTimeout (d : Die) (p : Fin 24)
  /-- APPLICATION_CORE_INSTRUCTION, R581. -/
  | applicationCoreInstruction (d : Die) (dux : Fin 12) (core : Die) (w : Word)
  /-- PARTITION_RESET_HELD, R739. -/
  | partitionResetHeld (d : Die) (p : Fin 32)
  deriving DecidableEq, Repr

end Sys2Proof
end

