-- ==== Sys2Proof/Machine/Table.lean ====
section
/-! DEFINITION. Sparse tables: a list of (key, value) pairs in one canonical form, keys strictly rising and no entry
equal to what an unlisted key reads as. Memories are tables of bytes. -/

namespace Sys2Proof.Machine

/-- A sparse table. -/
abbrev Table (α : Type) := List (Nat × α)

/-- The entry listed for a key. -/
def tfind {α : Type} : Table α → Nat → Option α
  | [], _ => none
  | (k, v) :: t, i => if k = i then some v else tfind t i

/-- What a key reads as: its entry, or the default `d`. -/
def tget {α : Type} (d : α) (t : Table α) (i : Nat) : α := (tfind t i).getD d

/-- The table with what is listed for the key removed. -/
def terase {α : Type} : Table α → Nat → Table α
  | [], _ => []
  | (k, v) :: t, i => if k = i then terase t i else (k, v) :: terase t i

/-- The table with an entry put at its place in key order, an earlier entry of the key replaced. -/
def tput {α : Type} : Table α → Nat → α → Table α
  | [], i, x => [(i, x)]
  | (k, v) :: t, i, x =>
    if i < k then (i, x) :: (k, v) :: t else if k = i then (i, x) :: t else (k, v) :: tput t i x

/-- The table with a key set: writing the default removes the entry. -/
def tset {α : Type} [DecidableEq α] (d : α) (t : Table α) (i : Nat) (x : α) : Table α :=
  if x = d then terase t i else tput t i x

/-- The table with a key's value changed. -/
def tupd {α : Type} [DecidableEq α] (d : α) (t : Table α) (i : Nat) (f : α → α) : Table α :=
  tset d t i (f (tget d t i))

/-- The table without the entries whose key meets `p`. -/
def tdrop {α : Type} (t : Table α) (p : Nat → Bool) : Table α := t.filter (fun e => !p e.1)

/-- Keys strictly rising. -/
def tsorted {α : Type} : Table α → Bool
  | [] => true
  | [_] => true
  | (a, _) :: (b, v) :: t => decide (a < b) && tsorted ((b, v) :: t)

/-- The canonical form, for a default that may depend on the key. -/
def twf {α : Type} [DecidableEq α] (d : Nat → α) (t : Table α) : Bool :=
  tsorted t && t.all (fun e => decide (e.2 ≠ d e.1))

end Sys2Proof.Machine
end

