-- ==== Sys2Proof/Machine/CoreRegs.lean ====
section
/-! DEFINITION. What an application core holds of the RISC-V architecture (R581), and what one RISC-V instruction does, as
plain data. The architecture itself is outside the spec. -/

namespace Sys2Proof.Machine

/-- A register of an application core: x1 to x31, f0 to f31, v0 to v31, or a CSR by its number. -/
inductive CReg where
  | x (n : Nat)
  | f (n : Nat)
  | v (n : Nat)
  | csr (n : Nat)
  deriving DecidableEq, Repr

/-- The architectural registers of a core. fcsr is CSR 3, vstart 8, vl 0xC20, vtype 0xC21. `priv` is 0 U, 1 S or HS, 3 M;
`virt` is V. -/
structure CoreSt where
  x : Table (BitVec 64) := []
  f : Table (BitVec 64) := []
  v : Table (BitVec 256) := []
  csr : Table (BitVec 64) := []
  pc : BitVec 64 := 0#64
  priv : Nat := 3
  virt : Bool := false
  deriving DecidableEq, Repr, Inhabited

/-- The kinds of memory access of an instruction. -/
inductive RvKind where
  | load | store | amo | lr | sc
  deriving DecidableEq, Repr, Inhabited

/-- A memory access of an instruction: kind, effective address (before translation), size in bytes, the bytes stored or the
operand, whether it is a vector access. -/
structure RvAccess where
  kind : RvKind
  addr : BitVec 64
  size : Nat
  data : List Byte
  vector : Bool
  deriving DecidableEq, Repr, Inhabited

/-- A register read. x0 reads 0. -/
def CoreSt.get (c : CoreSt) : CReg → Nat
  | .x n => if n = 0 then 0 else (tget 0#64 c.x n).toNat
  | .f n => (tget 0#64 c.f n).toNat
  | .v n => (tget 0#256 c.v n).toNat
  | .csr n => (tget 0#64 c.csr n).toNat

/-- A register written. x0 discards writes. -/
def CoreSt.set (c : CoreSt) (r : CReg) (v : Nat) : CoreSt :=
  match r with
  | .x n => if n = 0 then c else { c with x := tset 0#64 c.x n (BitVec.ofNat 64 v) }
  | .f n => { c with f := tset 0#64 c.f n (BitVec.ofNat 64 v) }
  | .v n => { c with v := tset 0#256 c.v n (BitVec.ofNat 256 v) }
  | .csr n => { c with csr := tset 0#64 c.csr n (BitVec.ofNat 64 v) }

/-! ### Performance counters (R605, R606) -/

/-- Whether an event code is one whose count this machine keeps exactly: no event, joined reads, AGREE retired, held and prompt
outputs issued, vector instructions retired, and every undefined code, which leaves the counter stopped. The others count
what the timing of caches and cycles decides (log entry 84). -/
def perfExact (code : Nat) : Bool :=
  decide (code = 0 ∨ (0x0A ≤ code ∧ code ≤ 0x0D) ∨ 0x0F ≤ code)

/-- The writable bits of mhpmevent3-31: OF, MINH, SINH, UINH, VSINH, VUINH (63:58) and the event (7:0). -/
def mhpmMask : Nat := 0xFC000000000000FF

/-- Whether a counter counts in the core's mode: none of MINH, SINH, UINH, VSINH and VUINH of its mhpmevent forbids it. -/
def CoreSt.modeCounts (c : CoreSt) (ev : Nat) : Bool :=
  !bitOf ev (if c.priv = 3 then 62 else if c.virt then (if c.priv = 0 then 58 else 59) else if c.priv = 0 then 60 else 61)

/-- An event counted by one counter: one more unless mcountinhibit or its mode fields stop it; a wrap sets OF (R607). -/
def CoreSt.countOne (c : CoreSt) (code i : Nat) : CoreSt :=
  let ev := c.get (.csr (0x320 + i))
  if ev % 256 = code ∧ code ≤ 0x0F ∧ bitOf (c.get (.csr 0x320)) i = false ∧ c.modeCounts ev = true then
    let n := c.get (.csr (0xB00 + i)) + 1
    let c1 := c.set (.csr (0xB00 + i)) n
    if n = 2 ^ 64 then c1.set (.csr (0x320 + i)) (withBit ev 63 true) else c1
  else c

/-- An event counted by every counter that selects it (R606). -/
def CoreSt.countEvent (c : CoreSt) (code : Nat) : CoreSt :=
  (List.range 29).foldl (fun c i => c.countOne code (i + 3)) c

/-- Whether the counters' enables let a mode read a counter of 0xC00 to 0xC1F: the exception otherwise (R605): mcounteren,
hcounteren for V, scounteren for U. -/
def CoreSt.counterCause (c : CoreSt) (n : Nat) : Option Nat :=
  if n / 32 ≠ 0xC00 / 32 ∨ c.priv = 3 then none
  else
    let i := n - 0xC00
    if bitOf (c.get (.csr 0x306)) i = false then some 2
    else if c.virt = true ∧ bitOf (c.get (.csr 0x606)) i = false then some 22
    else if c.priv = 0 ∧ bitOf (c.get (.csr 0x106)) i = false then some (if c.virt then 22 else 2)
    else none

/-- Registers written in order. -/
def CoreSt.setAll (c : CoreSt) (l : List (CReg × Nat)) : CoreSt := l.foldl (fun c w => c.set w.1 w.2) c

end Sys2Proof.Machine
end

