-- ==== Sys2Proof/Config.lean ====
section
/-! DEFINITION. What the spec leaves to an implementation, to a standard outside the spec, or to no rule at all: free
values. Each is an opaque constant, so no proof can see a value of it and a claim holds whatever it is. Each carries
the number of its entry in notes/assumptions. -/

namespace Sys2Proof.Config

/-- A byte of MRAM or bulk store that nothing has written (R44: undefined). Free value, entry 5. -/
opaque unwrittenByte : Nat → Byte

/-- A fresh undefined word, the n-th one the machine has needed. Free value, entry 6. -/
opaque freeWord : Nat → BitVec 64

/-- SHA-384 (FIPS 180-4, outside the spec): 48 bytes as a number. Entry 7. -/
opaque sha384 : List Byte → BitVec 384

/-- ECDSA P-384 verification of a message under a public key (FIPS 186-5). Entry 7. -/
opaque ecdsaOk : List Byte → List Byte → List Byte → Bool

/-- ML-DSA-65 verification: public key, context string, message, signature (FIPS 204). Entry 7. -/
opaque mldsaOk : List Byte → List Byte → List Byte → List Byte → Bool

/-- The key-slot fuses (R51): the digest each slot holds, none for an empty slot. Entry 8. -/
opaque keySlot : Fin 4 → Option (BitVec 384)

/-- Whether a key slot is revoked (R51). Entry 8. -/
opaque keyRevoked : Fin 4 → Bool

/-- The debug scope limit and the debug key digest in fuses (R769, R770). Entry 8. -/
opaque debugLimit : Fin 4
opaque debugKey : BitVec 384

/-- The fuse key and the key the PUF reconstructs of a die; none where reconstruction fails (R760). Entry 8. -/
opaque fuseKey : Die → BitVec 256
opaque pufKey : Die → Option (BitVec 256)

/-- The die unique ID fuses (DBG_UIDi). Entry 8. -/
opaque dieUid : Die → BitVec 128

/-- AES-256-GCM sealing: key, IV, additional data, data; answers ciphertext and tag (SP 800-38D). Entry 7. -/
opaque gcmSeal : List Byte → List Byte → List Byte → List Byte → List Byte

/-- AES-256-GCM opening: key, IV, additional data, ciphertext and tag; none where the tag fails. Entry 7. -/
opaque gcmOpen : List Byte → List Byte → List Byte → List Byte → Option (List Byte)

/-- The module secret installed in both dies (R762). Entry 8. -/
opaque moduleSecret : List Byte

/-- A key blob: wrap key, IV, key type, key; and what a blob opens to under a wrap key: key type and key. R761 names the cipher and
no layout. Entry 7. -/
opaque blobWrap : List Byte → List Byte → Nat → List Byte → List Byte
opaque blobOpen : List Byte → List Byte → Option (Nat × List Byte)

/-- The public key of a generated key of a type. Entry 7. -/
opaque publicKey : Nat → List Byte → List Byte

/-- A derived key (SP 800-108) from a parent key and a label. Entry 7. -/
opaque kdf : List Byte → List Byte → List Byte

/-- AES-256-XTS: key, tweak, plaintext to ciphertext (R765, log entry 85). -/
opaque xts : List Byte → Nat → List Byte → List Byte

/-- The n-th output block of the deterministic random bit generator of a die (SP 800-90A). Entry 7. -/
opaque drbg : Die → Nat → BitVec 256

/-- An ECDSA or ML-DSA signature over a digest with a private key (standards outside the spec). Entry 7. -/
opaque sign : List Byte → List Byte → List Byte

/-- Factory calibration of a global channel and range (kept in switch-die NVM): gain in units of 2^-16 and offset in µA. Entry 9. -/
opaque factoryCal : Nat → Bool → Nat × Int

/-- The gain compensation of a channel and range for a junction temperature with LSB 0.125 degC, in units of 2^-16. Entry 9. -/
opaque tempComp : Nat → Bool → Int → Int

/-- The bytes, without FCS, of a gPTP message the module builds (IEEE 802.1AS-2020, outside the spec): message type, port,
sequence identifier, and the values it carries: times in ns, a correction in units of 2^-16 ns, the clock and the steps announced.
Entry 10. -/
opaque gptpFrame : Nat → Nat → Nat → List Int → List Byte

/-- The cumulative rate offset, in units of 2^-32, of the Follow_Up that came with a Sync of an ingress stamp: SYNC_RECEIVE does not
carry it (R474). Entry 118. -/
opaque upstreamRate : Nat → Int

/-- The module's own clock identity and the qualities of its clock that no rule states (accuracy, variance, priority2),
as IEEE 802.1AS-2020 orders them. Entry 10. -/
opaque clockIdentity : BitVec 64
opaque clockQuality : BitVec 32

/-- The memory access an instruction makes, from its word and the registers of its core (RISC-V, outside the spec); none
where it makes none. Entry 11. -/
opaque rvAccess : Machine.CoreSt → Word → Option Machine.RvAccess

/-- What an instruction writes, from the registers of its core, its word and the bytes it loaded. Entry 11. -/
opaque rvRetire : Machine.CoreSt → Word → List Byte → List (Machine.CReg × Nat)

/-- The pc after an instruction that takes no exception. Entry 11. -/
opaque rvNext : Machine.CoreSt → Word → BitVec 64

/-- The bytes an atomic memory operation stores, from its word, the bytes in memory and its operand. Entry 11. -/
opaque rvAtomic : Word → List Byte → List Byte → List Byte

/-- The registers of a core after it takes an exception or interrupt with a cause and a trap value. Entry 11. -/
opaque rvTrap : Machine.CoreSt → Nat → Nat → Machine.CoreSt

/-- The interrupt a core takes before its next instruction, by its enables, delegation and pending bits; none where it takes
none. Entry 11. -/
opaque rvInterrupt : Machine.CoreSt → Option Nat

/-- The cause of the exception that the base instructions themselves raise; none where they raise none. Entry 11. -/
opaque rvCause : Machine.CoreSt → Word → Option Nat

/-- Whether firmware drives WAKE_OUT low after the seal (R94), at the n-th free value. Free value, entry 83. -/
opaque wakeOut : Nat → Bool

/-- The value a standard CSR holds after a write of a value: its writable fields. Entry 11. -/
opaque csrLegal : Nat → BitVec 64 → BitVec 64 → BitVec 64

end Sys2Proof.Config
end

