-- ==== Sys2Proof/Machine/Crc.lean ====
section
/-! DEFINITION. The three checksums of the spec, computed bit by bit: CRC-8 of serial frames (R175), CRC-32 of IEEE 802.3
(R194) and CRC-64 of ECMA-182 reflected (R506). -/

namespace Sys2Proof.Machine

/-- One bit through the CRC-8 register, most significant bit first, polynomial 0x2F. -/
def crc8Bit (c : Nat) (b : Bool) : Nat :=
  let top := xor (bitOf c 7) b
  let sh := c * 2 % 256
  if top then Nat.xor sh 0x2F else sh

/-- The bits `n-1` down to 0 of `x` through the register. -/
def crc8Bits (x : Nat) : Nat → Nat → Nat
  | 0, c => c
  | n + 1, c => crc8Bits x n (crc8Bit c (bitOf x n))

/-- CRC-8 over bits 31:8 of a serial frame (R175). -/
def crc8 (top24 : Nat) : Nat := Nat.xor (crc8Bits top24 24 0xFF) 0xFF

/-- Eight steps of a reflected CRC register. -/
def crcRefl (poly : Nat) : Nat → Nat → Nat
  | 0, c => c
  | n + 1, c => crcRefl poly n (if c % 2 = 1 then Nat.xor (c / 2) poly else c / 2)

/-- A reflected CRC over bytes, from register value `c`. -/
def crcBytes (poly : Nat) (c : Nat) (l : List Byte) : Nat :=
  l.foldl (fun c b => crcRefl poly 8 (Nat.xor c b.toNat)) c

/-- CRC-32 (R194): polynomial 0x04C1_1DB7 reflected. -/
def crc32 (l : List Byte) : Nat := Nat.xor (crcBytes 0xEDB88320 0xFFFFFFFF l) 0xFFFFFFFF

/-- CRC-64 (R506): polynomial 0x42F0_E1EB_A9EA_3693 reflected. -/
def crc64 (l : List Byte) : Nat :=
  Nat.xor (crcBytes 0xC96C5795D7870F42 0xFFFFFFFFFFFFFFFF l) 0xFFFFFFFFFFFFFFFF

/-- A serial frame of R174 with its CRC. -/
def mkFrame (typ ch data : Nat) : Word :=
  let t := (typ % 32) * 2 ^ 19 + (ch % 8) * 2 ^ 16 + data % 2 ^ 16
  BitVec.ofNat 32 (t * 256 + crc8 t)

/-- The fields of a serial frame (R174). -/
def frameType (f : Word) : Nat := f.toNat / 2 ^ 27
def frameCh (f : Word) : Nat := f.toNat / 2 ^ 24 % 8
def frameData (f : Word) : Nat := f.toNat / 2 ^ 8 % 2 ^ 16
def frameTag (f : Word) : Nat := f.toNat / 2 ^ 20 % 16
def frameOk (f : Word) : Bool := decide (crc8 (f.toNat / 256) = f.toNat % 256)

end Sys2Proof.Machine
end

