-- ==== Sys2Proof/Machine/Regs.lean ====
section
/-! DEFINITION. The register map of one Q-die: block bases (R35), the offset of every register, the place of every
field, and for each register its access codes (R7), its reset value and its array shape, all as the register and field
tables of spec/01 to spec/21 give them. Offsets count from 0x0000_5000_0000. -/

namespace Sys2Proof.Machine

set_option linter.style.nameCheck false

/-- 01: Die number, build level, island count -/
def ISL_ID : Nat := 0x10000
def ISL_ID__DIE : Fld := ⟨0, 1⟩
def ISL_ID__BUILD : Fld := ⟨4, 4⟩
def ISL_ID__ISLANDS : Fld := ⟨8, 8⟩
/-- 01: One bit per island: clocked now -/
def ISL_RUN : Nat := 0x10004
def ISL_RUN__RUN : Fld := ⟨0, 18⟩
/-- 01: Rill transfers repeated after a parity error -/
def ISL_RILLREP : Nat := 0x10080
def ISL_RILLREP__COUNT : Fld := ⟨0, 32⟩
/-- 01: Rill transfers failed after the repeat -/
def ISL_RILLFAIL : Nat := 0x10084
def ISL_RILLFAIL__COUNT : Fld := ⟨0, 32⟩
/-- 01: Pair-link state and lanes -/
def ISL_PLSTAT : Nat := 0x100c0
def ISL_PLSTAT__STATE : Fld := ⟨0, 3⟩
def ISL_PLSTAT__LANEOK : Fld := ⟨8, 8⟩
def ISL_PLSTAT__DEGRADED : Fld := ⟨16, 1⟩
def ISL_PLSTAT__LOST : Fld := ⟨17, 1⟩
/-- 01: Pair-link flit replays -/
def ISL_PLREPLAY : Nat := 0x100c4
def ISL_PLREPLAY__COUNT : Fld := ⟨0, 32⟩
/-- 01: Pair-link retrains -/
def ISL_PLRETRAIN : Nat := 0x100c8
def ISL_PLRETRAIN__COUNT : Fld := ⟨0, 32⟩
/-- 01: Clock of island n -/
def ISL_CLKn (n : Nat) : Nat := 0x10100 + 4 * n
def ISL_CLKn__FREQ : Fld := ⟨0, 16⟩
def ISL_CLKn__GATED : Fld := ⟨16, 1⟩
def ISL_CLKn__LOCK : Fld := ⟨17, 1⟩
/-- 02: Ductus state, failure code, donation and DEV -/
def UPD_DSTAT : Nat := 0x120000
def UPD_DSTAT__STATE : Fld := ⟨0, 3⟩
def UPD_DSTAT__DONATED : Fld := ⟨3, 1⟩
def UPD_DSTAT__DEV : Fld := ⟨4, 1⟩
def UPD_DSTAT__CODE : Fld := ⟨8, 8⟩
/-- 02: Count of failed non-critical records -/
def UPD_DOMIT : Nat := 0x120004
def UPD_DOMIT__COUNT : Fld := ⟨0, 16⟩
/-- 02: Index of the first failed record -/
def UPD_DFAIL : Nat := 0x120008
def UPD_DFAIL__INDEX : Fld := ⟨0, 32⟩
/-- 02: Module ID, strap value, base ID -/
def UPD_DMODID : Nat := 0x12000c
def UPD_DMODID__MODID : Fld := ⟨0, 10⟩
def UPD_DMODID__IDVALID : Fld := ⟨10, 1⟩
def UPD_DMODID__STRAPFLT : Fld := ⟨11, 1⟩
def UPD_DMODID__STRAP : Fld := ⟨12, 3⟩
def UPD_DMODID__BASEID : Fld := ⟨16, 10⟩
/-- 02: Structure ID, bits 31:0 -/
def UPD_DSTRUCTL : Nat := 0x120010
def UPD_DSTRUCTL__STRUCT : Fld := ⟨0, 32⟩
/-- 02: Structure ID, bits 63:32 -/
def UPD_DSTRUCTH : Nat := 0x120014
def UPD_DSTRUCTH__STRUCT : Fld := ⟨0, 32⟩
/-- 02: State-format and interface epochs -/
def UPD_DEPOCH : Nat := 0x120018
def UPD_DEPOCH__SFEPOCH : Fld := ⟨0, 16⟩
def UPD_DEPOCH__IFEPOCH : Fld := ⟨16, 16⟩
/-- 02: Security version of the running image -/
def UPD_DSECVER : Nat := 0x12001c
def UPD_DSECVER__SECVER : Fld := ⟨0, 7⟩
/-- 03: Boot phase of each die, SINGLE and its reasons, loader code -/
def CIS_BOOT : Nat := 0x400
def CIS_BOOT__PHASE : Fld := ⟨0, 4⟩
def CIS_BOOT__PPHASE : Fld := ⟨4, 4⟩
def CIS_BOOT__SINGLE : Fld := ⟨8, 1⟩
def CIS_BOOT__S_PARTNER : Fld := ⟨9, 1⟩
def CIS_BOOT__S_LINK : Fld := ⟨10, 1⟩
def CIS_BOOT__S_SPARE : Fld := ⟨11, 1⟩
def CIS_BOOT__S_NIB : Fld := ⟨12, 1⟩
def CIS_BOOT__LDON : Fld := ⟨13, 1⟩
def CIS_BOOT__LCODE : Fld := ⟨16, 8⟩
/-- 03: Reset request -/
def CIS_RSTREQ : Nat := 0x404
def CIS_RSTREQ__SCOPE : Fld := ⟨0, 3⟩
def CIS_RSTREQ__TARGET : Fld := ⟨8, 5⟩
def CIS_RSTREQ__DIE : Fld := ⟨13, 1⟩
def CIS_RSTREQ__CONFIRM : Fld := ⟨16, 16⟩
/-- 03: Result of the last request from this die -/
def CIS_RSTRES : Nat := 0x408
def CIS_RSTRES__RESULT : Fld := ⟨0, 2⟩
/-- 03: Module reset cause record -/
def CIS_RSTMOD : Nat := 0x40c
def CIS_RSTMOD__CAUSE : Fld := ⟨0, 8⟩
def CIS_RSTMOD__REQ : Fld := ⟨8, 4⟩
def CIS_RSTMOD__COUNT : Fld := ⟨16, 8⟩
def CIS_RSTMOD__VALID : Fld := ⟨31, 1⟩
/-- 03: Q-die 0 reset cause record -/
def CIS_RSTDIE0 : Nat := 0x410
def CIS_RSTDIE0__CAUSE : Fld := ⟨0, 8⟩
def CIS_RSTDIE0__REQ : Fld := ⟨8, 4⟩
def CIS_RSTDIE0__COUNT : Fld := ⟨16, 8⟩
def CIS_RSTDIE0__VALID : Fld := ⟨31, 1⟩
/-- 03: Q-die 1 reset cause record -/
def CIS_RSTDIE1 : Nat := 0x414
def CIS_RSTDIE1__CAUSE : Fld := ⟨0, 8⟩
def CIS_RSTDIE1__REQ : Fld := ⟨8, 4⟩
def CIS_RSTDIE1__COUNT : Fld := ⟨16, 8⟩
def CIS_RSTDIE1__VALID : Fld := ⟨31, 1⟩
/-- 03: Nib cluster n of this die, reset cause record -/
def CIS_RSTNCn (n : Nat) : Nat := 0x420 + 4 * n
def CIS_RSTNCn__CAUSE : Fld := ⟨0, 8⟩
def CIS_RSTNCn__REQ : Fld := ⟨8, 4⟩
def CIS_RSTNCn__COUNT : Fld := ⟨16, 8⟩
def CIS_RSTNCn__VALID : Fld := ⟨31, 1⟩
/-- 03: Partition n reset cause record; n = 0 reads 0 -/
def CIS_RSTPTn (n : Nat) : Nat := 0x440 + 4 * n
def CIS_RSTPTn__CAUSE : Fld := ⟨0, 8⟩
def CIS_RSTPTn__REQ : Fld := ⟨8, 4⟩
def CIS_RSTPTn__COUNT : Fld := ⟨16, 8⟩
def CIS_RSTPTn__VALID : Fld := ⟨31, 1⟩
/-- 03: Switch die n reset cause record -/
def CIS_RSTSWn (n : Nat) : Nat := 0x4c0 + 4 * n
def CIS_RSTSWn__CAUSE : Fld := ⟨0, 8⟩
def CIS_RSTSWn__REQ : Fld := ⟨8, 4⟩
def CIS_RSTSWn__COUNT : Fld := ⟨16, 8⟩
def CIS_RSTSWn__VALID : Fld := ⟨31, 1⟩
/-- 04: Die type, index, channels, first channel, feed -/
def PWR_DID (i : Nat) : Nat := 0x100000 + 0x800 * i
def PWR_DID__TYPE : Fld := ⟨0, 4⟩
def PWR_DID__INDEX : Fld := ⟨4, 4⟩
def PWR_DID__NCH : Fld := ⟨8, 4⟩
def PWR_DID__FIRSTCH : Fld := ⟨12, 7⟩
def PWR_DID__FEED : Fld := ⟨19, 1⟩
/-- 04: Mode, links, feed state, setting, age -/
def PWR_DSTAT (i : Nat) : Nat := 0x100004 + 0x800 * i
def PWR_DSTAT__MODE : Fld := ⟨0, 3⟩
def PWR_DSTAT__LINKA : Fld := ⟨3, 1⟩
def PWR_DSTAT__LINKB : Fld := ⟨4, 1⟩
def PWR_DSTAT__FEEDOK : Fld := ⟨5, 1⟩
def PWR_DSTAT__UVOFF : Fld := ⟨6, 1⟩
def PWR_DSTAT__OVOFF : Fld := ⟨7, 1⟩
def PWR_DSTAT__SETTING : Fld := ⟨8, 1⟩
def PWR_DSTAT__MISMATCH : Fld := ⟨9, 1⟩
def PWR_DSTAT__AGE : Fld := ⟨16, 8⟩
/-- 04: Sticky die events -/
def PWR_DFLT (i : Nat) : Nat := 0x100008 + 0x800 * i
def PWR_DFLT__UV : Fld := ⟨0, 1⟩
def PWR_DFLT__OV : Fld := ⟨1, 1⟩
def PWR_DFLT__MISMATCH : Fld := ⟨2, 1⟩
def PWR_DFLT__WDOG : Fld := ⟨3, 1⟩
def PWR_DFLT__LINKERR : Fld := ⟨4, 1⟩
/-- 04: Feed voltage -/
def PWR_DFEED (i : Nat) : Nat := 0x10000c + 0x800 * i
def PWR_DFEED__VFEED : Fld := ⟨0, 16⟩
/-- 04: Highest junction and substrate temperature -/
def PWR_DTEMP (i : Nat) : Nat := 0x100010 + 0x800 * i
def PWR_DTEMP__TJMAX : Fld := ⟨0, 16⟩
def PWR_DTEMP__TSUB : Fld := ⟨16, 16⟩
/-- 04: Feed setting from the Ductus -/
def PWR_DCFG (i : Nat) : Nat := 0x100014 + 0x800 * i
def PWR_DCFG__SETTING : Fld := ⟨0, 1⟩
/-- 04: Field calibration command -/
def PWR_CALCMD (i : Nat) : Nat := 0x100020 + 0x800 * i
def PWR_CALCMD__CH : Fld := ⟨0, 3⟩
def PWR_CALCMD__RANGE : Fld := ⟨3, 1⟩
def PWR_CALCMD__POINT : Fld := ⟨4, 2⟩
def PWR_CALCMD__OP : Fld := ⟨6, 2⟩
/-- 04: Reference for the next capture -/
def PWR_CALREF (i : Nat) : Nat := 0x100024 + 0x800 * i
def PWR_CALREF__REF : Fld := ⟨0, 16⟩
/-- 04: Calibration state -/
def PWR_CALRES (i : Nat) : Nat := 0x100028 + 0x800 * i
def PWR_CALRES__STATE : Fld := ⟨0, 3⟩
def PWR_CALRES__NPTS : Fld := ⟨4, 3⟩
/-- 04: Mode, enables, gauge, class, length -/
def PWR_CHkCFG (i k : Nat) : Nat := 0x100100 + 0x800 * i + 0x80 * k
def PWR_CHkCFG__MODE : Fld := ⟨0, 2⟩
def PWR_CHkCFG__OLOFF : Fld := ⟨2, 1⟩
def PWR_CHkCFG__CLPRED : Fld := ⟨3, 1⟩
def PWR_CHkCFG__USED : Fld := ⟨4, 1⟩
def PWR_CHkCFG__GAUGE : Fld := ⟨8, 4⟩
def PWR_CHkCFG__CLASS : Fld := ⟨12, 4⟩
def PWR_CHkCFG__LENGTH : Fld := ⟨16, 16⟩
/-- 04: Ambient, warm time, ramp time -/
def PWR_CHkPRM (i k : Nat) : Nat := 0x100104 + 0x800 * i + 0x80 * k
def PWR_CHkPRM__AMB : Fld := ⟨0, 8⟩
def PWR_CHkPRM__AMBTRK : Fld := ⟨8, 1⟩
def PWR_CHkPRM__WARM : Fld := ⟨16, 8⟩
def PWR_CHkPRM__RAMP : Fld := ⟨24, 6⟩
/-- 04: On-state open-load threshold and filter -/
def PWR_CHkOL (i k : Nat) : Nat := 0x100108 + 0x800 * i + 0x80 * k
def PWR_CHkOL__OLTH : Fld := ⟨0, 16⟩
def PWR_CHkOL__OLFILT : Fld := ⟨16, 10⟩
/-- 04: Declared inductance -/
def PWR_CHkLDECL (i k : Nat) : Nat := 0x10010c + 0x800 * i + 0x80 * k
def PWR_CHkLDECL__LDECL : Fld := ⟨0, 16⟩
/-- 04: Channel state -/
def PWR_CHkSTAT (i k : Nat) : Nat := 0x100110 + 0x800 * i + 0x80 * k
def PWR_CHkSTAT__STATE : Fld := ⟨0, 3⟩
def PWR_CHkSTAT__LINE : Fld := ⟨3, 1⟩
def PWR_CHkSTAT__RANGE : Fld := ⟨4, 1⟩
def PWR_CHkSTAT__OL : Fld := ⟨5, 2⟩
def PWR_CHkSTAT__RESTOK : Fld := ⟨7, 1⟩
def PWR_CHkSTAT__RETRY : Fld := ⟨8, 8⟩
/-- 04: Sticky channel events -/
def PWR_CHkFLT (i k : Nat) : Nat := 0x100114 + 0x800 * i + 0x80 * k
def PWR_CHkFLT__OCTRIP : Fld := ⟨0, 1⟩
def PWR_CHkFLT__WTRIP : Fld := ⟨1, 1⟩
def PWR_CHkFLT__WWARN : Fld := ⟨2, 1⟩
def PWR_CHkFLT__TSD : Fld := ⟨3, 1⟩
def PWR_CHkFLT__TWARN : Fld := ⟨4, 1⟩
def PWR_CHkFLT__OLON : Fld := ⟨5, 1⟩
def PWR_CHkFLT__OLOFFF : Fld := ⟨6, 1⟩
def PWR_CHkFLT__SHORTFEED : Fld := ⟨7, 1⟩
def PWR_CHkFLT__SOFTOFF : Fld := ⟨8, 1⟩
def PWR_CHkFLT__RETRYEXH : Fld := ⟨9, 1⟩
def PWR_CHkFLT__RESTREF : Fld := ⟨10, 1⟩
/-- 04: Restart and off-state test -/
def PWR_CHkCMD (i k : Nat) : Nat := 0x100118 + 0x800 * i + 0x80 * k
def PWR_CHkCMD__RESTART : Fld := ⟨0, 1⟩
def PWR_CHkCMD__OLTEST : Fld := ⟨1, 1⟩
/-- 04: Last sample and cycle RMS current -/
def PWR_CHkI (i k : Nat) : Nat := 0x10011c + 0x800 * i + 0x80 * k
def PWR_CHkI__ISAMP : Fld := ⟨0, 16⟩
def PWR_CHkI__IRMS : Fld := ⟨16, 16⟩
/-- 04: Output voltages -/
def PWR_CHkV (i k : Nat) : Nat := 0x100120 + 0x800 * i + 0x80 * k
def PWR_CHkV__VOUT : Fld := ⟨0, 16⟩
def PWR_CHkV__VOUTB : Fld := ⟨16, 16⟩
/-- 04: Wire-model temperatures -/
def PWR_CHkWT (i k : Nat) : Nat := 0x100124 + 0x800 * i + 0x80 * k
def PWR_CHkWT__TCOND : Fld := ⟨0, 16⟩
def PWR_CHkWT__TINS : Fld := ⟨16, 16⟩
/-- 04: Inductance and resistance estimates -/
def PWR_CHkLEST (i k : Nat) : Nat := 0x100128 + 0x800 * i + 0x80 * k
def PWR_CHkLEST__LEST : Fld := ⟨0, 16⟩
def PWR_CHkLEST__REST : Fld := ⟨16, 16⟩
/-- 04: Field calibration in force -/
def PWR_CHkCAL (i k : Nat) : Nat := 0x10012c + 0x800 * i + 0x80 * k
def PWR_CHkCAL__GAIN : Fld := ⟨0, 16⟩
def PWR_CHkCAL__OFFS : Fld := ⟨16, 12⟩
def PWR_CHkCAL__OFFONLY : Fld := ⟨28, 1⟩
def PWR_CHkCAL__FIELD : Fld := ⟨29, 1⟩
/-- 04: Trip and clamp counts -/
def PWR_CHkCNT (i k : Nat) : Nat := 0x100130 + 0x800 * i + 0x80 * k
def PWR_CHkCNT__TRIPS : Fld := ⟨0, 16⟩
def PWR_CHkCNT__CLAMPS : Fld := ⟨16, 16⟩
/-- 05: Mode request -/
def PWR_DCTL (i : Nat) : Nat := 0x100040 + 0x800 * i
def PWR_DCTL__REQ : Fld := ⟨0, 2⟩
def PWR_DCTL__CONFIRM : Fld := ⟨16, 16⟩
/-- 05: Line, flywheel, hold, auto-steer, LIMP levels, serial -/
def PWR_DCTLST (i : Nat) : Nat := 0x100044 + 0x800 * i
def PWR_DCTLST__LINE : Fld := ⟨0, 1⟩
def PWR_DCTLST__AUTO : Fld := ⟨1, 1⟩
def PWR_DCTLST__HOLD : Fld := ⟨2, 1⟩
def PWR_DCTLST__FLYWHEEL : Fld := ⟨3, 1⟩
def PWR_DCTLST__LIMP : Fld := ⟨8, 4⟩
def PWR_DCTLST__SERIAL : Fld := ⟨12, 11⟩
def PWR_DCTLST__REQRES : Fld := ⟨24, 2⟩
/-- 05: Fail-safe table state -/
def PWR_DTBL (i : Nat) : Nat := 0x100048 + 0x800 * i
def PWR_DTBL__STATE : Fld := ⟨0, 3⟩
def PWR_DTBL__SRC : Fld := ⟨3, 1⟩
def PWR_DTBL__DIFF : Fld := ⟨4, 1⟩
/-- 05: CRC-32 of the table in force -/
def PWR_DTBLDIG (i : Nat) : Nat := 0x10004c + 0x800 * i
def PWR_DTBLDIG__DIGEST : Fld := ⟨0, 32⟩
/-- 05: Link error counts -/
def PWR_DLINK (i : Nat) : Nat := 0x100050 + 0x800 * i
def PWR_DLINK__UPERR : Fld := ⟨0, 16⟩
def PWR_DLINK__DNERR : Fld := ⟨16, 16⟩
/-- 05: Control record settings -/
def PWR_DCCFG (i : Nat) : Nat := 0x100054 + 0x800 * i
def PWR_DCCFG__CLUSTER : Fld := ⟨0, 3⟩
def PWR_DCCFG__TESTOK : Fld := ⟨3, 1⟩
def PWR_DCCFG__WDOG : Fld := ⟨8, 5⟩
def PWR_DCCFG__HOLD : Fld := ⟨16, 6⟩
/-- 05: Mismatch count and line events -/
def PWR_CHkMIS (i k : Nat) : Nat := 0x100134 + 0x800 * i + 0x80 * k
def PWR_CHkMIS__MISCNT : Fld := ⟨0, 16⟩
def PWR_CHkMIS__FASTEDGE : Fld := ⟨16, 1⟩
def PWR_CHkMIS__MINTIME : Fld := ⟨17, 1⟩
def PWR_CHkMIS__FORCED : Fld := ⟨18, 1⟩
/-- 05: Fail-safe entry staged at the seal -/
def PWR_CHkFS (i k : Nat) : Nat := 0x100138 + 0x800 * i + 0x80 * k
def PWR_CHkFS__ACTION : Fld := ⟨0, 2⟩
def PWR_CHkFS__PIN : Fld := ⟨2, 2⟩
def PWR_CHkFS__ACTHIGH : Fld := ⟨4, 1⟩
def PWR_CHkFS__THRESH : Fld := ⟨8, 8⟩
def PWR_CHkFS__TRIP : Fld := ⟨16, 16⟩
/-- 06: Cluster state, authority, spares, token serial -/
def NBC_nSTAT (n : Nat) : Nat := 0x80000 + 0x2000 * n
def NBC_nSTAT__STATE : Fld := ⟨0, 3⟩
def NBC_nSTAT__AUTH : Fld := ⟨3, 1⟩
def NBC_nSTAT__TWIN : Fld := ⟨4, 1⟩
def NBC_nSTAT__LAGGING : Fld := ⟨5, 1⟩
def NBC_nSTAT__SPARES : Fld := ⟨6, 2⟩
def NBC_nSTAT__SERIAL : Fld := ⟨8, 11⟩
/-- 06: Halt, resume, BIST request -/
def NBC_nCMD (n : Nat) : Nat := 0x80004 + 0x2000 * n
def NBC_nCMD__OP : Fld := ⟨0, 4⟩
def NBC_nCMD__NIB : Fld := ⟨4, 5⟩
def NBC_nCMD__CONFIRM : Fld := ⟨16, 16⟩
/-- 06: Result of the last command -/
def NBC_nCMDRES (n : Nat) : Nat := 0x80008 + 0x2000 * n
def NBC_nCMDRES__RESULT : Fld := ⟨0, 2⟩
/-- 06: Retired physical slots -/
def NBC_nRETIRE (n : Nat) : Nat := 0x8000c + 0x2000 * n
def NBC_nRETIRE__SLOT : Fld := ⟨0, 32⟩
/-- 06: Logical nibs served by the spares -/
def NBC_nSPMAP (n : Nat) : Nat := 0x80010 + 0x2000 * n
def NBC_nSPMAP__LOG30 : Fld := ⟨0, 5⟩
def NBC_nSPMAP__V30 : Fld := ⟨5, 1⟩
def NBC_nSPMAP__LOG31 : Fld := ⟨8, 5⟩
def NBC_nSPMAP__V31 : Fld := ⟨13, 1⟩
/-- 06: Halted logical nibs -/
def NBC_nHALT (n : Nat) : Nat := 0x80014 + 0x2000 * n
def NBC_nHALT__NIB : Fld := ⟨0, 30⟩
/-- 06: Last exception in the cluster -/
def NBC_nEXC (n : Nat) : Nat := 0x80018 + 0x2000 * n
def NBC_nEXC__CAUSE : Fld := ⟨0, 8⟩
def NBC_nEXC__NIB : Fld := ⟨8, 5⟩
def NBC_nEXC__HMODE : Fld := ⟨13, 1⟩
def NBC_nEXC__DS : Fld := ⟨14, 1⟩
def NBC_nEXC__VALID : Fld := ⟨15, 1⟩
def NBC_nEXC__COUNT : Fld := ⟨16, 16⟩
/-- 06: EPC of that exception -/
def NBC_nEPC (n : Nat) : Nat := 0x8001c + 0x2000 * n
def NBC_nEPC__EPC : Fld := ⟨0, 13⟩
/-- 06: Order entries sent or matched -/
def NBC_nFEED (n : Nat) : Nat := 0x80020 + 0x2000 * n
def NBC_nFEED__COUNT : Fld := ⟨0, 32⟩
/-- 06: Twin lag -/
def NBC_nLAG (n : Nat) : Nat := 0x80024 + 0x2000 * n
def NBC_nLAG__ENTRIES : Fld := ⟨0, 13⟩
def NBC_nLAG__TIME : Fld := ⟨16, 16⟩
/-- 06: Entries dropped -/
def NBC_nDROP (n : Nat) : Nat := 0x80028 + 0x2000 * n
def NBC_nDROP__COUNT : Fld := ⟨0, 32⟩
/-- 06: LATE entries -/
def NBC_nLATE (n : Nat) : Nat := 0x8002c + 0x2000 * n
def NBC_nLATE__COUNT : Fld := ⟨0, 32⟩
/-- 06: Unmatched entries -/
def NBC_nUNM (n : Nat) : Nat := 0x80030 + 0x2000 * n
def NBC_nUNM__FEDONLY : Fld := ⟨0, 16⟩
def NBC_nUNM__LOCALONLY : Fld := ⟨16, 16⟩
/-- 06: Lanes, protection nib, patching -/
def NBC_nCFG (n : Nat) : Nat := 0x80040 + 0x2000 * n
def NBC_nCFG__LANES : Fld := ⟨0, 16⟩
def NBC_nCFG__PROT : Fld := ⟨16, 1⟩
def NBC_nCFG__PATCH : Fld := ⟨17, 1⟩
/-- 06: Stall limit -/
def NBC_nSTALL (n : Nat) : Nat := 0x80044 + 0x2000 * n
def NBC_nSTALL__LIMIT : Fld := ⟨0, 13⟩
/-- 06: State of logical nib k -/
def NBC_nNkST (n k : Nat) : Nat := 0x80100 + 0x2000 * n + 4 * k
def NBC_nNkST__STATE : Fld := ⟨0, 3⟩
def NBC_nNkST__SLOT : Fld := ⟨3, 5⟩
def NBC_nNkST__PC : Fld := ⟨8, 11⟩
def NBC_nNkST__QUEUE : Fld := ⟨20, 10⟩
/-- 08: Scrub, copy and partner state -/
def SGW_STAT : Nat := 0x90000
def SGW_STAT__SCRUB : Fld := ⟨0, 2⟩
def SGW_STAT__COPY : Fld := ⟨2, 1⟩
def SGW_STAT__PARTNER : Fld := ⟨3, 1⟩
/-- 08: Entry command -/
def SGW_ECMD : Nat := 0x90004
def SGW_ECMD__TABLE : Fld := ⟨0, 2⟩
def SGW_ECMD__OP : Fld := ⟨2, 2⟩
def SGW_ECMD__MIRROR : Fld := ⟨4, 1⟩
def SGW_ECMD__CLRSHADOW : Fld := ⟨5, 1⟩
def SGW_ECMD__INDEX : Fld := ⟨8, 18⟩
/-- 08: Entry command result -/
def SGW_ERES : Nat := 0x90008
def SGW_ERES__STATE : Fld := ⟨0, 2⟩
def SGW_ERES__PARTNER : Fld := ⟨2, 1⟩
def SGW_ERES__REASON : Fld := ⟨4, 4⟩
/-- 08: Descriptor-cache invalidation -/
def SGW_INVAL : Nat := 0x9000c
def SGW_INVAL__INDEX : Fld := ⟨0, 18⟩
def SGW_INVAL__ALL : Fld := ⟨30, 1⟩
def SGW_INVAL__MIRROR : Fld := ⟨31, 1⟩
/-- 08: Invalidation result -/
def SGW_INVRES : Nat := 0x90010
def SGW_INVRES__STATE : Fld := ⟨0, 2⟩
/-- 08: Entry buffer word i -/
def SGW_EBUFi (i : Nat) : Nat := 0x90020 + 4 * i
/-- 08: Mirror disagreements found -/
def SGW_MIRCNT : Nat := 0x90040
def SGW_MIRCNT__COUNT : Fld := ⟨0, 32⟩
/-- 08: Last disagreement -/
def SGW_MIRLAST : Nat := 0x90044
def SGW_MIRLAST__INDEX : Fld := ⟨0, 18⟩
def SGW_MIRLAST__TABLE : Fld := ⟨30, 2⟩
/-- 08: Generation-sweep evictions -/
def SGW_EVICT : Nat := 0x90048
def SGW_EVICT__COUNT : Fld := ⟨0, 32⟩
/-- 08: Corrected and repaired errors -/
def SGW_ECC : Nat := 0x9004c
def SGW_ECC__CORR : Fld := ⟨0, 16⟩
def SGW_ECC__REPAIR : Fld := ⟨16, 16⟩
/-- 08: PDU items discarded (R321) -/
def SGW_BADITEM : Nat := 0x90050
def SGW_BADITEM__COUNT : Fld := ⟨0, 32⟩
/-- 08: Shadow inspection index -/
def SGW_TIDX : Nat := 0x90060
def SGW_TIDX__INDEX : Fld := ⟨0, 18⟩
/-- 08: Latched tag -/
def SGW_TAG : Nat := 0x90064
def SGW_TAG__TAG : Fld := ⟨0, 32⟩
/-- 08: Latched value, bits 31:0 -/
def SGW_TVALL : Nat := 0x90068
def SGW_TVALL__VALUE : Fld := ⟨0, 32⟩
/-- 08: Latched value, bits 63:32 -/
def SGW_TVALH : Nat := 0x9006c
def SGW_TVALH__VALUE : Fld := ⟨0, 32⟩
/-- 08: ACF destination address, bits 31:0 -/
def SGW_AkDAL (k : Nat) : Nat := 0x90400 + 0x20 * k
def SGW_AkDAL__DA : Fld := ⟨0, 32⟩
/-- 08: Address bits 47:32 and VLAN -/
def SGW_AkDAH (k : Nat) : Nat := 0x90404 + 0x20 * k
def SGW_AkDAH__DA : Fld := ⟨0, 16⟩
def SGW_AkDAH__VID : Fld := ⟨16, 12⟩
def SGW_AkDAH__PCP : Fld := ⟨28, 3⟩
/-- 08: Stream ID, bits 31:0 -/
def SGW_AkSIDL (k : Nat) : Nat := 0x90408 + 0x20 * k
def SGW_AkSIDL__SID : Fld := ⟨0, 32⟩
/-- 08: Stream ID, bits 63:32 -/
def SGW_AkSIDH (k : Nat) : Nat := 0x9040c + 0x20 * k
def SGW_AkSIDH__SID : Fld := ⟨0, 32⟩
/-- 08: ACF format and enables -/
def SGW_AkCFG (k : Nat) : Nat := 0x90410 + 0x20 * k
def SGW_AkCFG__USED : Fld := ⟨0, 1⟩
def SGW_AkCFG__TSCF : Fld := ⟨1, 1⟩
def SGW_AkCFG__RXEN : Fld := ⟨2, 1⟩
/-- 08: Outbound ring base, bits 31:0 -/
def SGW_PpOBASEL (p : Nat) : Nat := 0x91000 + 0x40 * p
def SGW_PpOBASEL__BASE : Fld := ⟨0, 32⟩
/-- 08: Outbound ring base, bits 47:32 -/
def SGW_PpOBASEH (p : Nat) : Nat := 0x91004 + 0x40 * p
def SGW_PpOBASEH__BASE : Fld := ⟨0, 16⟩
/-- 08: Inbound ring base, bits 31:0 -/
def SGW_PpIBASEL (p : Nat) : Nat := 0x91008 + 0x40 * p
def SGW_PpIBASEL__BASE : Fld := ⟨0, 32⟩
/-- 08: Inbound ring base, bits 47:32 -/
def SGW_PpIBASEH (p : Nat) : Nat := 0x9100c + 0x40 * p
def SGW_PpIBASEH__BASE : Fld := ⟨0, 16⟩
/-- 08: Slot sizes and counts -/
def SGW_PpGEOM (p : Nat) : Nat := 0x91010 + 0x40 * p
def SGW_PpGEOM__OSLOT : Fld := ⟨0, 4⟩
def SGW_PpGEOM__OSLOTS : Fld := ⟨4, 4⟩
def SGW_PpGEOM__ISLOT : Fld := ⟨8, 4⟩
def SGW_PpGEOM__ISLOTS : Fld := ⟨12, 4⟩
def SGW_PpGEOM__USED : Fld := ⟨16, 1⟩
/-- 08: Outbound producer index -/
def SGW_PpOTAIL (p : Nat) : Nat := 0x91014 + 0x40 * p
def SGW_PpOTAIL__INDEX : Fld := ⟨0, 32⟩
/-- 08: Outbound consumer index -/
def SGW_PpOHEAD (p : Nat) : Nat := 0x91018 + 0x40 * p
def SGW_PpOHEAD__INDEX : Fld := ⟨0, 32⟩
/-- 08: Inbound producer index -/
def SGW_PpITAIL (p : Nat) : Nat := 0x9101c + 0x40 * p
def SGW_PpITAIL__INDEX : Fld := ⟨0, 32⟩
/-- 08: Inbound consumer index -/
def SGW_PpIHEAD (p : Nat) : Nat := 0x91020 + 0x40 * p
def SGW_PpIHEAD__INDEX : Fld := ⟨0, 32⟩
/-- 08: Last accepted outbound sequence -/
def SGW_PpSEQ (p : Nat) : Nat := 0x91024 + 0x40 * p
def SGW_PpSEQ__SEQ : Fld := ⟨0, 32⟩
/-- 08: Duplicates and ring errors -/
def SGW_PpSTAT (p : Nat) : Nat := 0x91028 + 0x40 * p
def SGW_PpSTAT__DUP : Fld := ⟨0, 16⟩
def SGW_PpSTAT__BADOUT : Fld := ⟨16, 1⟩
def SGW_PpSTAT__INDENY : Fld := ⟨17, 1⟩
/-- 09: State, line, error counters -/
def FBB_CcSTAT (c : Nat) : Nat := 0xa0000 + 0x800 * c
def FBB_CcSTAT__STATE : Fld := ⟨0, 3⟩
def FBB_CcSTAT__TXLINK : Fld := ⟨3, 1⟩
def FBB_CcSTAT__TXDIE : Fld := ⟨4, 1⟩
def FBB_CcSTAT__TEC : Fld := ⟨8, 8⟩
def FBB_CcSTAT__REC : Fld := ⟨16, 8⟩
/-- 09: State, line, error counters -/
def FBB_LlSTAT (l : Nat) : Nat := 0xa8000 + 0x800 * l
def FBB_LlSTAT__STATE : Fld := ⟨0, 3⟩
def FBB_LlSTAT__TXLINK : Fld := ⟨3, 1⟩
def FBB_LlSTAT__TXDIE : Fld := ⟨4, 1⟩
def FBB_LlSTAT__SLOT : Fld := ⟨8, 6⟩
/-- 09: Commands -/
def FBB_CcCMD (c : Nat) : Nat := 0xa0004 + 0x800 * c
def FBB_CcCMD__OP : Fld := ⟨0, 4⟩
def FBB_CcCMD__FIRST : Fld := ⟨4, 6⟩
def FBB_CcCMD__COUNT : Fld := ⟨10, 7⟩
def FBB_CcCMD__CONFIRM : Fld := ⟨24, 8⟩
/-- 09: Commands -/
def FBB_LlCMD (l : Nat) : Nat := 0xa8004 + 0x800 * l
def FBB_LlCMD__OP : Fld := ⟨0, 4⟩
def FBB_LlCMD__FIRST : Fld := ⟨4, 6⟩
def FBB_LlCMD__COUNT : Fld := ⟨10, 7⟩
def FBB_LlCMD__CONFIRM : Fld := ⟨24, 8⟩
/-- 09: Sticky events -/
def FBB_CcEVT (c : Nat) : Nat := 0xa0008 + 0x800 * c
def FBB_CcEVT__BUSOFF : Fld := ⟨0, 1⟩
def FBB_CcEVT__EPASS : Fld := ⟨1, 1⟩
def FBB_CcEVT__WAKE : Fld := ⟨2, 1⟩
def FBB_CcEVT__MISMATCH : Fld := ⟨3, 1⟩
def FBB_CcEVT__DROP : Fld := ⟨4, 1⟩
/-- 09: Sticky events -/
def FBB_LlEVT (l : Nat) : Nat := 0xa8008 + 0x800 * l
def FBB_LlEVT__BUSOFF : Fld := ⟨0, 1⟩
def FBB_LlEVT__EPASS : Fld := ⟨1, 1⟩
def FBB_LlEVT__WAKE : Fld := ⟨2, 1⟩
def FBB_LlEVT__MISMATCH : Fld := ⟨3, 1⟩
def FBB_LlEVT__DROP : Fld := ⟨4, 1⟩
/-- 09: Frames accepted, sent, in error, rejected, dropped, mismatched, at offsets 0x010, 0x014, 0x018, 0x01C, 0x020, 0x024 -/
def FBB_CcRX (c : Nat) : Nat := 0xa0010 + 0x800 * c
/-- 09: Frames accepted, sent, in error, rejected, dropped, mismatched, at offsets 0x010, 0x014, 0x018, 0x01C, 0x020, 0x024 -/
def FBB_LlRX (l : Nat) : Nat := 0xa8010 + 0x800 * l
/-- 09: Frames accepted, sent, in error, rejected, dropped, mismatched, at offsets 0x010, 0x014, 0x018, 0x01C, 0x020, 0x024 -/
def FBB_CcTX (c : Nat) : Nat := 0xa0014 + 0x800 * c
/-- 09: Frames accepted, sent, in error, rejected, dropped, mismatched, at offsets 0x010, 0x014, 0x018, 0x01C, 0x020, 0x024 -/
def FBB_LlTX (l : Nat) : Nat := 0xa8014 + 0x800 * l
/-- 09: Frames accepted, sent, in error, rejected, dropped, mismatched, at offsets 0x010, 0x014, 0x018, 0x01C, 0x020, 0x024 -/
def FBB_CcERR (c : Nat) : Nat := 0xa0018 + 0x800 * c
/-- 09: Frames accepted, sent, in error, rejected, dropped, mismatched, at offsets 0x010, 0x014, 0x018, 0x01C, 0x020, 0x024 -/
def FBB_LlERR (l : Nat) : Nat := 0xa8018 + 0x800 * l
/-- 09: Frames accepted, sent, in error, rejected, dropped, mismatched, at offsets 0x010, 0x014, 0x018, 0x01C, 0x020, 0x024 -/
def FBB_CcREJ (c : Nat) : Nat := 0xa001c + 0x800 * c
/-- 09: Frames accepted, sent, in error, rejected, dropped, mismatched, at offsets 0x010, 0x014, 0x018, 0x01C, 0x020, 0x024 -/
def FBB_LlREJ (l : Nat) : Nat := 0xa801c + 0x800 * l
/-- 09: Frames accepted, sent, in error, rejected, dropped, mismatched, at offsets 0x010, 0x014, 0x018, 0x01C, 0x020, 0x024 -/
def FBB_CcDROP (c : Nat) : Nat := 0xa0020 + 0x800 * c
/-- 09: Frames accepted, sent, in error, rejected, dropped, mismatched, at offsets 0x010, 0x014, 0x018, 0x01C, 0x020, 0x024 -/
def FBB_LlDROP (l : Nat) : Nat := 0xa8020 + 0x800 * l
/-- 09: Frames accepted, sent, in error, rejected, dropped, mismatched, at offsets 0x010, 0x014, 0x018, 0x01C, 0x020, 0x024 -/
def FBB_CcMIS (c : Nat) : Nat := 0xa0024 + 0x800 * c
/-- 09: Frames accepted, sent, in error, rejected, dropped, mismatched, at offsets 0x010, 0x014, 0x018, 0x01C, 0x020, 0x024 -/
def FBB_LlMIS (l : Nat) : Nat := 0xa8024 + 0x800 * l
/-- 09: Nominal bit timing -/
def FBB_CcNBT (c : Nat) : Nat := 0xa0040 + 0x800 * c
def FBB_CcNBT__TSEG1 : Fld := ⟨0, 8⟩
def FBB_CcNBT__TSEG2 : Fld := ⟨8, 7⟩
def FBB_CcNBT__SJW : Fld := ⟨15, 7⟩
def FBB_CcNBT__BRP : Fld := ⟨22, 5⟩
/-- 09: CAN FD data-phase timing -/
def FBB_CcDBT (c : Nat) : Nat := 0xa0044 + 0x800 * c
def FBB_CcDBT__TSEG1 : Fld := ⟨0, 6⟩
def FBB_CcDBT__TSEG2 : Fld := ⟨6, 5⟩
def FBB_CcDBT__SJW : Fld := ⟨11, 5⟩
def FBB_CcDBT__BRP : Fld := ⟨16, 5⟩
def FBB_CcDBT__TDCO : Fld := ⟨21, 7⟩
def FBB_CcDBT__TDCEN : Fld := ⟨31, 1⟩
/-- 09: CAN XL data-phase timing -/
def FBB_CcXBT (c : Nat) : Nat := 0xa0048 + 0x800 * c
def FBB_CcXBT__TSEG1 : Fld := ⟨0, 6⟩
def FBB_CcXBT__TSEG2 : Fld := ⟨6, 5⟩
def FBB_CcXBT__SJW : Fld := ⟨11, 5⟩
def FBB_CcXBT__BRP : Fld := ⟨16, 5⟩
def FBB_CcXBT__TDCO : Fld := ⟨21, 7⟩
def FBB_CcXBT__TDCEN : Fld := ⟨31, 1⟩
/-- 09: Configuration -/
def FBB_CcCFG (c : Nat) : Nat := 0xa004c + 0x800 * c
def FBB_CcCFG__MODE : Fld := ⟨0, 2⟩
def FBB_CcCFG__TXOWN : Fld := ⟨2, 1⟩
def FBB_CcCFG__CLUSTER : Fld := ⟨3, 3⟩
def FBB_CcCFG__PART : Fld := ⟨6, 5⟩
def FBB_CcCFG__DELIV : Fld := ⟨11, 2⟩
def FBB_CcCFG__AUTOREC : Fld := ⟨13, 1⟩
def FBB_CcCFG__RECOV : Fld := ⟨14, 8⟩
def FBB_CcCFG__WAKEEN : Fld := ⟨22, 1⟩
def FBB_CcCFG__DWAKE : Fld := ⟨23, 1⟩
/-- 09: Configuration -/
def FBB_LlCFG (l : Nat) : Nat := 0xa804c + 0x800 * l
def FBB_LlCFG__BAUD : Fld := ⟨0, 15⟩
def FBB_LlCFG__MASTER : Fld := ⟨15, 1⟩
def FBB_LlCFG__TXOWN : Fld := ⟨16, 1⟩
def FBB_LlCFG__CLUSTER : Fld := ⟨17, 3⟩
def FBB_LlCFG__PART : Fld := ⟨20, 5⟩
def FBB_LlCFG__DELIV : Fld := ⟨25, 2⟩
def FBB_LlCFG__ERRDELIV : Fld := ⟨27, 1⟩
def FBB_LlCFG__BREAK : Fld := ⟨28, 4⟩
/-- 09: CAN XL SDT and VCID for PDU items -/
def FBB_CcXDEF (c : Nat) : Nat := 0xa0050 + 0x800 * c
def FBB_CcXDEF__SDT : Fld := ⟨0, 8⟩
def FBB_CcXDEF__VCID : Fld := ⟨8, 8⟩
/-- 09: CAN XL acceptance field for PDU items -/
def FBB_CcXAF (c : Nat) : Nat := 0xa0054 + 0x800 * c
def FBB_CcXAF__AF : Fld := ⟨0, 32⟩
/-- 09: Filter identifier -/
def FBB_CcFAf (c f : Nat) : Nat := 0xa0100 + 0x800 * c + 8 * f
def FBB_CcFAf__ID : Fld := ⟨0, 29⟩
def FBB_CcFAf__IDE : Fld := ⟨29, 1⟩
def FBB_CcFAf__XL : Fld := ⟨30, 1⟩
def FBB_CcFAf__EN : Fld := ⟨31, 1⟩
/-- 09: Filter mask and action -/
def FBB_CcFBf (c f : Nat) : Nat := 0xa0104 + 0x800 * c + 8 * f
def FBB_CcFBf__MASK : Fld := ⟨0, 29⟩
def FBB_CcFBf__ACT : Fld := ⟨30, 2⟩
/-- 09: LIN frame table entry for identifier i -/
def FBB_LlFRMi (l i : Nat) : Nat := 0xa8100 + 0x800 * l + 4 * i
def FBB_LlFRMi__DIR : Fld := ⟨0, 2⟩
def FBB_LlFRMi__LEN : Fld := ⟨2, 4⟩
def FBB_LlFRMi__CHK : Fld := ⟨6, 1⟩
/-- 09: LIN schedule slot -/
def FBB_LlSCHs (l s : Nat) : Nat := 0xa8200 + 0x800 * l + 4 * s
def FBB_LlSCHs__ID : Fld := ⟨0, 6⟩
def FBB_LlSCHs__TIME : Fld := ⟨8, 8⟩
/-- 09: Mode, wetting, rate, debounce -/
def FBB_SNSCFGn (n : Nat) : Nat := 0xb0000 + 8 * n
def FBB_SNSCFGn__MODE : Fld := ⟨0, 2⟩
def FBB_SNSCFGn__WET : Fld := ⟨2, 2⟩
def FBB_SNSCFGn__PULSE : Fld := ⟨4, 1⟩
def FBB_SNSCFGn__RATE : Fld := ⟨5, 3⟩
def FBB_SNSCFGn__DEB : Fld := ⟨8, 8⟩
def FBB_SNSCFGn__EVT : Fld := ⟨16, 1⟩
/-- 09: Thresholds -/
def FBB_SNSTHRn (n : Nat) : Nat := 0xb0004 + 8 * n
def FBB_SNSTHRn__LO : Fld := ⟨0, 16⟩
def FBB_SNSTHRn__HI : Fld := ⟨16, 16⟩
/-- 09: Last sample, bits 15:0 -/
def FBB_SNSVn (n : Nat) : Nat := 0xb0400 + 4 * n
/-- 09: State bits of inputs 32i to 32i + 31 -/
def FBB_SNSSTi (i : Nat) : Nat := 0xb0600 + 4 * i
/-- 09: State changes of the same inputs -/
def FBB_SNSCHGi (i : Nat) : Nat := 0xb0610 + 4 * i
/-- 09: Bus clock and mode -/
def FBB_SATbCFG (b : Nat) : Nat := 0xb8000 + 0x40 * b
def FBB_SATbCFG__N : Fld := ⟨0, 7⟩
def FBB_SATbCFG__MODE3 : Fld := ⟨8, 1⟩
def FBB_SATbCFG__USED : Fld := ⟨9, 1⟩
/-- 09: Profile of chip select c -/
def FBB_SATbPRc (b c : Nat) : Nat := 0xb8004 + 0x40 * b + 4 * c
def FBB_SATbPRc__RDOP : Fld := ⟨0, 8⟩
def FBB_SATbPRc__WROP : Fld := ⟨8, 8⟩
def FBB_SATbPRc__ADDRB : Fld := ⟨16, 2⟩
def FBB_SATbPRc__DUMMY : Fld := ⟨18, 4⟩
def FBB_SATbPRc__WSIZE : Fld := ⟨22, 2⟩
def FBB_SATbPRc__CRC : Fld := ⟨24, 1⟩
def FBB_SATbPRc__USED : Fld := ⟨25, 1⟩
def FBB_SATbPRc__LSBF : Fld := ⟨26, 1⟩
/-- 09: Lock state -/
def FBB_SATbSTAT (b : Nat) : Nat := 0xb8014 + 0x40 * b
def FBB_SATbSTAT__LOCKED : Fld := ⟨0, 1⟩
def FBB_SATbSTAT__LOCKDIE : Fld := ⟨1, 1⟩
def FBB_SATbSTAT__LOCKCS : Fld := ⟨2, 2⟩
/-- 09: Failures and lock timeouts -/
def FBB_SATbERR (b : Nat) : Nat := 0xb8018 + 0x40 * b
def FBB_SATbERR__FAIL : Fld := ⟨0, 16⟩
def FBB_SATbERR__LOCKTO : Fld := ⟨16, 16⟩
/-- 10: Link, rate, steering, LPI, preemption, PLCA, signal quality -/
def MAC_STAT (m : Nat) : Nat := 0xc0000 + 0x1000 * m
def MAC_STAT__LINK : Fld := ⟨0, 1⟩
def MAC_STAT__RATE : Fld := ⟨1, 2⟩
def MAC_STAT__TXDIE : Fld := ⟨3, 1⟩
def MAC_STAT__TXACT : Fld := ⟨4, 1⟩
def MAC_STAT__AUTO : Fld := ⟨5, 1⟩
def MAC_STAT__LPITX : Fld := ⟨6, 1⟩
def MAC_STAT__LPIRX : Fld := ⟨7, 1⟩
def MAC_STAT__PREACT : Fld := ⟨8, 1⟩
def MAC_STAT__PLCAST : Fld := ⟨9, 2⟩
def MAC_STAT__SQI : Fld := ⟨11, 3⟩
/-- 10: Sticky port events -/
def MAC_EVT (m : Nat) : Nat := 0xc0004 + 0x1000 * m
def MAC_EVT__LINKCHG : Fld := ⟨0, 1⟩
def MAC_EVT__HALF : Fld := ⟨1, 1⟩
def MAC_EVT__SHADOWMIS : Fld := ⟨2, 1⟩
def MAC_EVT__VERIFYFAIL : Fld := ⟨3, 1⟩
def MAC_EVT__STEER : Fld := ⟨4, 1⟩
def MAC_EVT__PLCALOSS : Fld := ⟨5, 1⟩
/-- 10: Port commands -/
def MAC_CMD (m : Nat) : Nat := 0xc0008 + 0x1000 * m
def MAC_CMD__OP : Fld := ⟨0, 4⟩
def MAC_CMD__CONFIRM : Fld := ⟨24, 8⟩
/-- 10: Result of the last command -/
def MAC_CMDRES (m : Nat) : Nat := 0xc000c + 0x1000 * m
def MAC_CMDRES__RESULT : Fld := ⟨0, 2⟩
/-- 10: MAC address, first four bytes on the wire -/
def MAC_ADDRL (m : Nat) : Nat := 0xc0010 + 0x1000 * m
def MAC_ADDRL__ADDR : Fld := ⟨0, 32⟩
/-- 10: MAC address, last two bytes -/
def MAC_ADDRH (m : Nat) : Nat := 0xc0014 + 0x1000 * m
def MAC_ADDRH__ADDR : Fld := ⟨0, 16⟩
/-- 10: Enable, rate, role, flow control, flags, control partition -/
def MAC_CFG (m : Nat) : Nat := 0xc0018 + 0x1000 * m
def MAC_CFG__EN : Fld := ⟨0, 1⟩
def MAC_CFG__RATE : Fld := ⟨1, 2⟩
def MAC_CFG__ROLE : Fld := ⟨3, 2⟩
def MAC_CFG__FCMODE : Fld := ⟨5, 2⟩
def MAC_CFG__BADHOST : Fld := ⟨7, 1⟩
def MAC_CFG__BADNIB : Fld := ⟨8, 1⟩
def MAC_CFG__EEEEN : Fld := ⟨9, 1⟩
def MAC_CFG__PREEN : Fld := ⟨10, 1⟩
def MAC_CFG__VERIFYDIS : Fld := ⟨11, 1⟩
def MAC_CFG__FORCECOL : Fld := ⟨12, 1⟩
def MAC_CFG__PART : Fld := ⟨16, 5⟩
/-- 10: Pause quanta and PFC mask -/
def MAC_FC (m : Nat) : Nat := 0xc001c + 0x1000 * m
def MAC_FC__QUANTA : Fld := ⟨0, 16⟩
def MAC_FC__PFCMASK : Fld := ⟨16, 8⟩
/-- 10: Express mask, fragment size -/
def MAC_PREEMPT (m : Nat) : Nat := 0xc0020 + 0x1000 * m
def MAC_PREEMPT__EXPRESS : Fld := ⟨0, 8⟩
def MAC_PREEMPT__ADDFRAG : Fld := ⟨8, 2⟩
/-- 10: Idle time and default wake time -/
def MAC_EEE (m : Nat) : Nat := 0xc0024 + 0x1000 * m
def MAC_EEE__IDLE : Fld := ⟨0, 16⟩
def MAC_EEE__WAKE : Fld := ⟨16, 16⟩
/-- 10: Transmit wake time in force -/
def MAC_EEEWAKE (m : Nat) : Nat := 0xc0028 + 0x1000 * m
def MAC_EEEWAKE__WAKE : Fld := ⟨0, 16⟩
/-- 10: PLCA node ID, count and timers -/
def MAC_PLCA (m : Nat) : Nat := 0xc002c + 0x1000 * m
def MAC_PLCA__NODE : Fld := ⟨0, 8⟩
def MAC_PLCA__COUNT : Fld := ⟨8, 8⟩
def MAC_PLCA__TO : Fld := ⟨16, 8⟩
def MAC_PLCA__BTMR : Fld := ⟨24, 8⟩
/-- 10: PLCA burst count -/
def MAC_PLCAB (m : Nat) : Nat := 0xc0030 + 0x1000 * m
def MAC_PLCAB__BURST : Fld := ⟨0, 8⟩
/-- 10: Paused classes and XOFF sent -/
def MAC_PAUSEST (m : Nat) : Nat := 0xc0034 + 0x1000 * m
def MAC_PAUSEST__RXPAUSED : Fld := ⟨0, 8⟩
def MAC_PAUSEST__XOFF : Fld := ⟨8, 8⟩
/-- 10: Longest remaining pause -/
def MAC_PAUSEREM (m : Nat) : Nat := 0xc0038 + 0x1000 * m
def MAC_PAUSEREM__QUANTA : Fld := ⟨0, 16⟩
/-- 10: PHY latency -/
def MAC_DLY (m : Nat) : Nat := 0xc003c + 0x1000 * m
def MAC_DLY__RXNS : Fld := ⟨0, 16⟩
def MAC_DLY__TXNS : Fld := ⟨16, 16⟩
/-- 10: Half-range bits of counters 0–31 -/
def MAC_HALF0 (m : Nat) : Nat := 0xc0060 + 0x1000 * m
def MAC_HALF0__HALF : Fld := ⟨0, 32⟩
/-- 10: Half-range bits of counters 32–41 in bits 9:0 -/
def MAC_HALF1 (m : Nat) : Nat := 0xc0064 + 0x1000 * m
def MAC_HALF1__HALF : Fld := ⟨0, 10⟩
/-- 10: Under R417 -/
def MAC_CNT (m c : Nat) : Nat := 0xc0400 + 0x1000 * m + 4 * c
/-- 10: Received good octets -/
def MAC_RXOCTL (m : Nat) : Nat := 0xc0500 + 0x1000 * m
/-- 10: Received good octets -/
def MAC_RXOCTH (m : Nat) : Nat := 0xc0504 + 0x1000 * m
/-- 10: Sent good octets -/
def MAC_TXOCTL (m : Nat) : Nat := 0xc0508 + 0x1000 * m
/-- 10: Sent good octets -/
def MAC_TXOCTH (m : Nat) : Nat := 0xc050c + 0x1000 * m
/-- 10: Received bad octets -/
def MAC_RXBADOCTL (m : Nat) : Nat := 0xc0510 + 0x1000 * m
/-- 10: Received bad octets -/
def MAC_RXBADOCTH (m : Nat) : Nat := 0xc0514 + 0x1000 * m
/-- 11: Role, token, serial -/
def SWC_STAT : Nat := 0xe0000
def SWC_STAT__ROLE : Fld := ⟨0, 2⟩
def SWC_STAT__TOKEN : Fld := ⟨2, 1⟩
def SWC_STAT__INSTEP : Fld := ⟨3, 1⟩
def SWC_STAT__SERIAL : Fld := ⟨4, 11⟩
/-- 11: Skipped buffers -/
def SWC_LANESKIP : Nat := 0xe0004
def SWC_LANESKIP__SKIP : Fld := ⟨0, 16⟩
def SWC_LANESKIP__SEEN : Fld := ⟨16, 16⟩
/-- 11: Flush and readmit -/
def SWC_CMD : Nat := 0xe0008
def SWC_CMD__OP : Fld := ⟨0, 4⟩
def SWC_CMD__PORT : Fld := ⟨4, 5⟩
def SWC_CMD__BUF : Fld := ⟨9, 4⟩
def SWC_CMD__CONFIRM : Fld := ⟨24, 8⟩
/-- 11: Result of SWC_CMD -/
def SWC_CMDRES : Nat := 0xe000c
def SWC_CMDRES__RESULT : Fld := ⟨0, 2⟩
/-- 11: Feed entries sent or matched; wraps -/
def SWC_FEED : Nat := 0xe0010
/-- 11: Shadow discards and missing frames -/
def SWC_SHMIS : Nat := 0xe0014
def SWC_SHMIS__SKIPPED : Fld := ⟨0, 16⟩
def SWC_SHMIS__MISSING : Fld := ⟨16, 16⟩
/-- 11: Reassembly discards (R429) -/
def SWC_REASMTO : Nat := 0xe0018
/-- 11: Ageing time -/
def SWC_CFG : Nat := 0xe001c
def SWC_CFG__AGETIME : Fld := ⟨0, 20⟩
/-- 11: Forwarding-database command -/
def SWC_FCMD : Nat := 0xe0020
def SWC_FCMD__OP : Fld := ⟨0, 3⟩
def SWC_FCMD__MIRROR : Fld := ⟨3, 1⟩
def SWC_FCMD__INDEX : Fld := ⟨4, 14⟩
/-- 11: Its result -/
def SWC_FRES : Nat := 0xe0024
def SWC_FRES__STATE : Fld := ⟨0, 2⟩
def SWC_FRES__PARTNER : Fld := ⟨2, 1⟩
def SWC_FRES__REASON : Fld := ⟨4, 4⟩
def SWC_FRES__INDEX : Fld := ⟨8, 14⟩
/-- 11: Entry buffer -/
def SWC_FBUFi (i : Nat) : Nat := 0xe0028 + 4 * i
/-- 11: VLAN table command -/
def SWC_VCMD : Nat := 0xe0040
def SWC_VCMD__OP : Fld := ⟨0, 2⟩
def SWC_VCMD__MIRROR : Fld := ⟨2, 1⟩
def SWC_VCMD__VID : Fld := ⟨4, 12⟩
/-- 11: Its result -/
def SWC_VRES : Nat := 0xe0044
def SWC_VRES__STATE : Fld := ⟨0, 2⟩
/-- 11: Member mask -/
def SWC_VBUF0 : Nat := 0xe0048
def SWC_VBUF0__MASK : Fld := ⟨0, 27⟩
/-- 11: Untag mask -/
def SWC_VBUF1 : Nat := 0xe004c
def SWC_VBUF1__MASK : Fld := ⟨0, 27⟩
/-- 11: Entries in use -/
def SWC_FDBCNT : Nat := 0xe0050
def SWC_FDBCNT__STATIC : Fld := ⟨0, 15⟩
def SWC_FDBCNT__DYNAMIC : Fld := ⟨16, 15⟩
/-- 11: Learning refused (R436) -/
def SWC_LEARNDROP : Nat := 0xe0054
/-- 11: PVID, PCP, acceptance, learning -/
def SWC_PpCFG (p : Nat) : Nat := 0xe1000 + 0x80 * p
def SWC_PpCFG__PVID : Fld := ⟨0, 12⟩
def SWC_PpCFG__DPCP : Fld := ⟨12, 3⟩
def SWC_PpCFG__ACCEPT : Fld := ⟨15, 2⟩
def SWC_PpCFG__LEARN : Fld := ⟨17, 1⟩
def SWC_PpCFG__BP : Fld := ⟨18, 1⟩
/-- 11: PCP to class -/
def SWC_PpPCPMAP (p : Nat) : Nat := 0xe1004 + 0x80 * p
def SWC_PpPCPMAP__MAP : Fld := ⟨0, 24⟩
/-- 11: XOFF and XON -/
def SWC_PpQUOTA (p : Nat) : Nat := 0xe1008 + 0x80 * p
def SWC_PpQUOTA__XOFF : Fld := ⟨0, 16⟩
def SWC_PpQUOTA__XON : Fld := ⟨16, 16⟩
/-- 11: Headroom, cable -/
def SWC_PpHEAD (p : Nat) : Nat := 0xe100c + 0x80 * p
def SWC_PpHEAD__H : Fld := ⟨0, 16⟩
def SWC_PpHEAD__CABLE : Fld := ⟨16, 8⟩
/-- 11: Charge and XOFF state -/
def SWC_PpOCC (p : Nat) : Nat := 0xe1010 + 0x80 * p
def SWC_PpOCC__BYTES : Fld := ⟨0, 24⟩
def SWC_PpOCC__XOFF : Fld := ⟨24, 8⟩
/-- 11: Discard counters of R444, in that order -/
def SWC_PpPVD (p : Nat) : Nat := 0xe1014 + 0x80 * p
/-- 11: Discard counters of R444, in that order -/
def SWC_PpQD (p : Nat) : Nat := 0xe1018 + 0x80 * p
/-- 11: Discard counters of R444, in that order -/
def SWC_PpFILT (p : Nat) : Nat := 0xe101c + 0x80 * p
/-- 11: Discard counters of R444, in that order -/
def SWC_PpLD (p : Nat) : Nat := 0xe1020 + 0x80 * p
/-- 11: Discard counters of R444, in that order -/
def SWC_PpGD (p : Nat) : Nat := 0xe1024 + 0x80 * p
/-- 11: Discard counters of R444, in that order -/
def SWC_PpLOST (p : Nat) : Nat := 0xe1028 + 0x80 * p
/-- 11: Gate state -/
def SWC_PpGATE (p : Nat) : Nat := 0xe102c + 0x80 * p
def SWC_PpGATE__STATES : Fld := ⟨0, 8⟩
def SWC_PpGATE__ENTRY : Fld := ⟨8, 6⟩
def SWC_PpGATE__GCL : Fld := ⟨14, 1⟩
/-- 11: idleSlope, kb/s -/
def SWC_PpCBSc (p c : Nat) : Nat := 0xe1040 + 0x80 * p + 4 * c
def SWC_PpCBSc__SLOPE : Fld := ⟨0, 32⟩
/-- 11: Transmit ring address bits 43:12 -/
def SWC_HpqTXB (p q : Nat) : Nat := 0xe4000 + 0x200 * p + 0x20 * q
/-- 11: Receive ring address bits 43:12 -/
def SWC_HpqRXB (p q : Nat) : Nat := 0xe4004 + 0x200 * p + 0x20 * q
/-- 11: Ring sizes -/
def SWC_HpqGEOM (p q : Nat) : Nat := 0xe4008 + 0x200 * p + 0x20 * q
def SWC_HpqGEOM__TXN : Fld := ⟨0, 4⟩
def SWC_HpqGEOM__RXN : Fld := ⟨4, 4⟩
def SWC_HpqGEOM__RXS : Fld := ⟨8, 4⟩
def SWC_HpqGEOM__USED : Fld := ⟨12, 1⟩
/-- 11: Transmit producer -/
def SWC_HpqTXTAIL (p q : Nat) : Nat := 0xe400c + 0x200 * p + 0x20 * q
/-- 11: Transmit consumer -/
def SWC_HpqTXHEAD (p q : Nat) : Nat := 0xe4010 + 0x200 * p + 0x20 * q
/-- 11: Receive producer -/
def SWC_HpqRXTAIL (p q : Nat) : Nat := 0xe4014 + 0x200 * p + 0x20 * q
/-- 11: Receive consumer -/
def SWC_HpqRXHEAD (p q : Nat) : Nat := 0xe4018 + 0x200 * p + 0x20 * q
/-- 11: Ring errors -/
def SWC_HpqSTAT (p q : Nat) : Nat := 0xe401c + 0x200 * p + 0x20 * q
def SWC_HpqSTAT__RXDROP : Fld := ⟨0, 16⟩
def SWC_HpqSTAT__BADTX : Fld := ⟨16, 1⟩
def SWC_HpqSTAT__DENY : Fld := ⟨17, 1⟩
/-- 11: Last accepted output sequence -/
def SWC_HpSEQ (p : Nat) : Nat := 0xe4100 + 0x200 * p
/-- 11: Duplicates discarded -/
def SWC_HpDUP (p : Nat) : Nat := 0xe4104 + 0x200 * p
/-- 11: Partition host flags -/
def SWC_HpFLAGS (p : Nat) : Nat := 0xe4108 + 0x200 * p
def SWC_HpFLAGS__FLOOD : Fld := ⟨0, 1⟩
/-- 12: Servo state, role, grandmaster, slew -/
def TIM_STAT : Nat := 0xf0000
def TIM_STAT__STATE : Fld := ⟨0, 3⟩
def TIM_STAT__ACTIVE : Fld := ⟨3, 1⟩
def TIM_STAT__GM : Fld := ⟨4, 1⟩
def TIM_STAT__SLEW : Fld := ⟨5, 1⟩
def TIM_STAT__LOST : Fld := ⟨6, 1⟩
def TIM_STAT__STEPPEND : Fld := ⟨7, 1⟩
def TIM_STAT__SLAVE : Fld := ⟨8, 5⟩
/-- 12: Sticky time events -/
def TIM_EVT : Nat := 0xf0004
def TIM_EVT__LOCK : Fld := ⟨0, 1⟩
def TIM_EVT__HOLD : Fld := ⟨1, 1⟩
def TIM_EVT__STEP : Fld := ⟨2, 1⟩
def TIM_EVT__DIEOFS : Fld := ⟨3, 1⟩
def TIM_EVT__GMCHG : Fld := ⟨4, 1⟩
def TIM_EVT__PULSELATE : Fld := ⟨5, 1⟩
/-- 12: Snapshot -/
def TIM_CMD : Nat := 0xf0008
def TIM_CMD__OP : Fld := ⟨0, 4⟩
def TIM_CMD__CONFIRM : Fld := ⟨24, 8⟩
/-- 12: Group time bits 31:0 -/
def TIM_NOWL : Nat := 0xf0010
/-- 12: Group time bits 63:32, latched -/
def TIM_NOWH : Nat := 0xf0014
/-- 12: Fraction, latched -/
def TIM_NOWF : Nat := 0xf0018
def TIM_NOWF__FRAC : Fld := ⟨0, 16⟩
/-- 12: Captured time -/
def TIM_SNAPL : Nat := 0xf0020
/-- 12: Captured time -/
def TIM_SNAPH : Nat := 0xf0024
/-- 12: Captured time -/
def TIM_SNAPF : Nat := 0xf0028
def TIM_SNAPF__FRAC : Fld := ⟨0, 16⟩
/-- 12: Last θ, signed ns, saturating -/
def TIM_OFFSET : Nat := 0xf0030
/-- 12: adj, signed, LSB 2⁻³² -/
def TIM_FREQ : Nat := 0xf0034
/-- 12: Partner offset, signed ns (R483) -/
def TIM_DIEOFS : Nat := 0xf0038
/-- 12: Grandmaster clockIdentity, bytes 0–3 and 4–7 -/
def TIM_GMIDL : Nat := 0xf0040
/-- 12: Grandmaster clockIdentity, bytes 0–3 and 4–7 -/
def TIM_GMIDH : Nat := 0xf0044
/-- 12: Steps applied -/
def TIM_STEPS : Nat := 0xf0048
/-- 12: Tick instants skipped (R480) -/
def TIM_TICKSKIP : Nat := 0xf004c
/-- 12: gPTP messages discarded -/
def TIM_DISC : Nat := 0xf0050
/-- 12: Time record settings -/
def TIM_CFG : Nat := 0xf0060
def TIM_CFG__EXTCFG : Fld := ⟨0, 1⟩
def TIM_CFG__GMCAP : Fld := ⟨1, 1⟩
def TIM_CFG__PRIO1 : Fld := ⟨2, 8⟩
def TIM_CFG__CLASS : Fld := ⟨10, 8⟩
def TIM_CFG__HOLDLIM : Fld := ⟨18, 14⟩
/-- 12: Kp and Ki -/
def TIM_SERVO : Nat := 0xf0064
def TIM_SERVO__KI : Fld := ⟨0, 16⟩
def TIM_SERVO__KP : Fld := ⟨16, 16⟩
/-- 12: Step threshold, ns -/
def TIM_STEPTHR : Nat := 0xf0068
def TIM_STEPTHR__THR : Fld := ⟨0, 20⟩
/-- 12: gPTP port state, asCapable -/
def TIM_GpSTAT (p : Nat) : Nat := 0xf0100 + 0x10 * p
def TIM_GpSTAT__STATE : Fld := ⟨0, 3⟩
def TIM_GpSTAT__ASCAP : Fld := ⟨3, 1⟩
/-- 12: Mean link delay, ns -/
def TIM_GpDELAY (p : Nat) : Nat := 0xf0104 + 0x10 * p
/-- 12: Neighbour rate ratio − 1, signed, LSB 2⁻³² -/
def TIM_GpRATIO (p : Nat) : Nat := 0xf0108 + 0x10 * p
/-- 12: Mode, width, arm -/
def TIM_PkCFG (k : Nat) : Nat := 0xf0300 + 0x20 * k
def TIM_PkCFG__ARM : Fld := ⟨0, 1⟩
def TIM_PkCFG__PERIODIC : Fld := ⟨1, 1⟩
def TIM_PkCFG__WIDTH : Fld := ⟨16, 16⟩
/-- 12: START bits 31:0 -/
def TIM_PkSTARTL (k : Nat) : Nat := 0xf0304 + 0x20 * k
/-- 12: START bits 63:32 -/
def TIM_PkSTARTH (k : Nat) : Nat := 0xf0308 + 0x20 * k
/-- 12: PERIOD bits 31:0, ns -/
def TIM_PkPERIODL (k : Nat) : Nat := 0xf030c + 0x20 * k
def TIM_PkPERIODL__PERIOD : Fld := ⟨0, 32⟩
/-- 12: PERIOD bits 63:32, ns -/
def TIM_PkPERIODH (k : Nat) : Nat := 0xf0310 + 0x20 * k
def TIM_PkPERIODH__PERIOD : Fld := ⟨0, 32⟩
/-- 12: Armed, late -/
def TIM_PkSTAT (k : Nat) : Nat := 0xf0314 + 0x20 * k
def TIM_PkSTAT__ARMED : Fld := ⟨0, 1⟩
def TIM_PkSTAT__LATE : Fld := ⟨1, 1⟩
/-- 12: Lane state -/
def TIM_LnST (n : Nat) : Nat := 0xf0400 + 4 * n
def TIM_LnST__MODE : Fld := ⟨0, 2⟩
def TIM_LnST__LEVEL : Fld := ⟨2, 1⟩
def TIM_LnST__CLUSTER : Fld := ⟨3, 3⟩
def TIM_LnST__MIS : Fld := ⟨16, 16⟩
/-- 13: Retired duplexes of this die -/
def DUX_RETIRE : Nat := 0x20000
def DUX_RETIRE__DUX : Fld := ⟨0, 12⟩
/-- 13: BIST and retirement requests -/
def DUX_CMD : Nat := 0x20004
def DUX_CMD__OP : Fld := ⟨0, 4⟩
def DUX_CMD__DUX : Fld := ⟨4, 4⟩
def DUX_CMD__CONFIRM : Fld := ⟨24, 8⟩
/-- 13: Result of the last request -/
def DUX_CMDRES : Nat := 0x20008
def DUX_CMDRES__RESULT : Fld := ⟨0, 2⟩
/-- 13: Role, state, running partition -/
def DUX_dSTAT (d : Nat) : Nat := 0x20100 + 0x40 * d
def DUX_dSTAT__ROLE : Fld := ⟨0, 2⟩
def DUX_dSTAT__STATE : Fld := ⟨2, 3⟩
def DUX_dSTAT__PART : Fld := ⟨5, 5⟩
def DUX_dSTAT__PVALID : Fld := ⟨10, 1⟩
def DUX_dSTAT__WFIA : Fld := ⟨11, 1⟩
def DUX_dSTAT__WFIB : Fld := ⟨12, 1⟩
def DUX_dSTAT__LEADB : Fld := ⟨13, 1⟩
def DUX_dSTAT__SERVES : Fld := ⟨14, 4⟩
/-- 13: Present lag -/
def DUX_dLAG (d : Nat) : Nat := 0x20104 + 0x40 * d
def DUX_dLAG__INSTR : Fld := ⟨0, 16⟩
def DUX_dLAG__TIME : Fld := ⟨16, 16⟩
/-- 13: Lag stalls -/
def DUX_dSTALLS (d : Nat) : Nat := 0x20108 + 0x40 * d
def DUX_dSTALLS__COUNT : Fld := ⟨0, 32⟩
/-- 13: Mismatches and the last kind -/
def DUX_dMIS (d : Nat) : Nat := 0x2010c + 0x40 * d
def DUX_dMIS__COUNT : Fld := ⟨0, 16⟩
def DUX_dMIS__KIND : Fld := ⟨16, 4⟩
def DUX_dMIS__VALID : Fld := ⟨20, 1⟩
/-- 13: Address of the last mismatch, bits 31:0 -/
def DUX_dMISADDRL (d : Nat) : Nat := 0x20110 + 0x40 * d
def DUX_dMISADDRL__ADDR : Fld := ⟨0, 32⟩
/-- 13: Address bits 47:32 -/
def DUX_dMISADDRH (d : Nat) : Nat := 0x20114 + 0x40 * d
def DUX_dMISADDRH__ADDR : Fld := ⟨0, 16⟩
/-- 13: AGREE count and differing values -/
def DUX_dAGREE (d : Nat) : Nat := 0x20118 + 0x40 * d
def DUX_dAGREE__COUNT : Fld := ⟨0, 16⟩
def DUX_dAGREE__DIFF : Fld := ⟨16, 16⟩
/-- 13: Role and BIST interval -/
def DUX_dCFG (d : Nat) : Nat := 0x2011c + 0x40 * d
def DUX_dCFG__ROLE : Fld := ⟨0, 2⟩
def DUX_dCFG__BISTINT : Fld := ⟨8, 8⟩
/-- 13: Role swap and resynchronisation -/
def CKP_CMD : Nat := 0x30000
def CKP_CMD__OP : Fld := ⟨0, 4⟩
def CKP_CMD__PART : Fld := ⟨4, 5⟩
def CKP_CMD__DIE : Fld := ⟨9, 1⟩
def CKP_CMD__CONFIRM : Fld := ⟨24, 8⟩
/-- 13: Result of the last command -/
def CKP_CMDRES : Nat := 0x30004
def CKP_CMDRES__RESULT : Fld := ⟨0, 2⟩
/-- 13: Budget sums of R532 for this die as home -/
def CKP_RATE : Nat := 0x30008
def CKP_RATE__JRATE : Fld := ⟨0, 16⟩
def CKP_RATE__LRATE : Fld := ⟨16, 16⟩
/-- 13: Shadowing state and placement -/
def CKP_pSTAT (p : Nat) : Nat := 0x30100 + 0x40 * p
def CKP_pSTAT__STATE : Fld := ⟨0, 3⟩
def CKP_pSTAT__HOMEDIE : Fld := ⟨3, 1⟩
def CKP_pSTAT__HOMEDUX : Fld := ⟨4, 4⟩
def CKP_pSTAT__SPAREDUX : Fld := ⟨8, 4⟩
def CKP_pSTAT__SHED : Fld := ⟨12, 1⟩
def CKP_pSTAT__OPEN : Fld := ⟨13, 1⟩
/-- 13: Epoch number, bits 31:0 -/
def CKP_pEPOCH (p : Nat) : Nat := 0x30104 + 0x40 * p
def CKP_pEPOCH__EPOCH : Fld := ⟨0, 32⟩
/-- 13: Last sealed epoch, bits 31:0 -/
def CKP_pSEALED (p : Nat) : Nat := 0x30108 + 0x40 * p
def CKP_pSEALED__EPOCH : Fld := ⟨0, 32⟩
/-- 13: Next output sequence -/
def CKP_pSEQ (p : Nat) : Nat := 0x3010c + 0x40 * p
def CKP_pSEQ__SEQ : Fld := ⟨0, 32⟩
/-- 13: Size of the last journal -/
def CKP_pJRNL (p : Nat) : Nat := 0x30110 + 0x40 * p
def CKP_pJRNL__LINES : Fld := ⟨0, 16⟩
def CKP_pJRNL__HELD : Fld := ⟨16, 16⟩
/-- 13: Seal latency -/
def CKP_pSLAT (p : Nat) : Nat := 0x30114 + 0x40 * p
def CKP_pSLAT__LAST : Fld := ⟨0, 16⟩
def CKP_pSLAT__MAX : Fld := ⟨16, 16⟩
/-- 13: Seal waits (R517) -/
def CKP_pWAIT (p : Nat) : Nat := 0x30118 + 0x40 * p
def CKP_pWAIT__COUNT : Fld := ⟨0, 32⟩
/-- 13: Failovers and the last interruption -/
def CKP_pFOVER (p : Nat) : Nat := 0x3011c + 0x40 * p
def CKP_pFOVER__COUNT : Fld := ⟨0, 16⟩
def CKP_pFOVER__LAST : Fld := ⟨16, 16⟩
/-- 13: Epoch record settings -/
def CKP_pCFG (p : Nat) : Nat := 0x30120 + 0x40 * p
def CKP_pCFG__EPOCH : Fld := ⟨0, 14⟩
def CKP_pCFG__SHED : Fld := ⟨14, 1⟩
def CKP_pCFG__HOMEDIE : Fld := ⟨15, 1⟩
def CKP_pCFG__HOMEDUX : Fld := ⟨16, 4⟩
def CKP_pCFG__SPAREDUX : Fld := ⟨20, 4⟩
/-- 13: Line limit and log rate -/
def CKP_pLIM (p : Nat) : Nat := 0x30124 + 0x40 * p
def CKP_pLIM__LINES : Fld := ⟨0, 15⟩
def CKP_pLIM__LOGRATE : Fld := ⟨16, 16⟩
/-- 14: Sealed world state and restarts -/
def WLD_STAT : Nat := 0x50000
def WLD_STAT__SSTATE : Fld := ⟨0, 3⟩
def WLD_STAT__SRST : Fld := ⟨8, 8⟩
def WLD_STAT__SRST24 : Fld := ⟨16, 4⟩
/-- 14: Reset acknowledge, restart -/
def WLD_CMD : Nat := 0x50004
def WLD_CMD__OP : Fld := ⟨0, 4⟩
def WLD_CMD__PART : Fld := ⟨4, 5⟩
def WLD_CMD__CONFIRM : Fld := ⟨24, 8⟩
/-- 14: Result of the last command -/
def WLD_CMDRES : Nat := 0x50008
def WLD_CMDRES__RESULT : Fld := ⟨0, 2⟩
/-- 14: Calls ended by WRET; wraps -/
def WLD_SCALLS : Nat := 0x50010
def WLD_SCALLS__COUNT : Fld := ⟨0, 32⟩
/-- 14: Calls ended without WRET -/
def WLD_SABORT : Nat := 0x50014
def WLD_SABORT__HANG : Fld := ⟨0, 16⟩
def WLD_SABORT__OTHER : Fld := ⟨16, 16⟩
/-- 14: Calls refused -/
def WLD_SDENY : Nat := 0x50018
def WLD_SDENY__COUNT : Fld := ⟨0, 32⟩
/-- 14: hgatp writes refused (R541) -/
def WLD_VMIDREF : Nat := 0x5001c
def WLD_VMIDREF__COUNT : Fld := ⟨0, 32⟩
/-- 14: Sealed world record settings -/
def WLD_SCFG : Nat := 0x50020
def WLD_SCFG__PRESENT : Fld := ⟨0, 1⟩
def WLD_SCFG__RESTART : Fld := ⟨1, 1⟩
def WLD_SCFG__LIMIT : Fld := ⟨2, 4⟩
/-- 14: Sealed call on duplex d -/
def WLD_dSEAL (d : Nat) : Nat := 0x50040 + 4 * d
def WLD_dSEAL__INCALL : Fld := ⟨0, 1⟩
def WLD_dSEAL__GATE : Fld := ⟨1, 8⟩
def WLD_dSEAL__PART : Fld := ⟨9, 5⟩
def WLD_dSEAL__ELAPSED : Fld := ⟨16, 8⟩
/-- 14: Partition record settings -/
def WLD_pCFG (p : Nat) : Nat := 0x50100 + 0x10 * p
def WLD_pCFG__DEFINED : Fld := ⟨0, 1⟩
def WLD_pCFG__ROAMING : Fld := ⟨1, 1⟩
def WLD_pCFG__WAYS : Fld := ⟨16, 16⟩
/-- 14: Partition state -/
def WLD_pSTAT (p : Nat) : Nat := 0x50104 + 0x10 * p
def WLD_pSTAT__RST : Fld := ⟨0, 1⟩
def WLD_pSTAT__INCALL : Fld := ⟨1, 1⟩
/-- 14: Save slot address, bits 31:0 -/
def WLD_pSAVEL (p : Nat) : Nat := 0x50108 + 0x10 * p
def WLD_pSAVEL__ADDR : Fld := ⟨0, 32⟩
/-- 14: Save slot address, bits 47:32 -/
def WLD_pSAVEH (p : Nat) : Nat := 0x5010c + 0x10 * p
def WLD_pSAVEH__ADDR : Fld := ⟨0, 16⟩
/-- 14: Entry address, bits 31:0 -/
def WLD_GATEiL (i : Nat) : Nat := 0x51000 + 0x10 * i
def WLD_GATEiL__ENTRY : Fld := ⟨0, 32⟩
/-- 14: Entry address bits 47:32, privilege, valid -/
def WLD_GATEiH (i : Nat) : Nat := 0x51004 + 0x10 * i
def WLD_GATEiH__ENTRY : Fld := ⟨0, 16⟩
def WLD_GATEiH__PRIV : Fld := ⟨16, 4⟩
def WLD_GATEiH__VALID : Fld := ⟨31, 1⟩
/-- 14: Partition mask -/
def WLD_GATEiP (i : Nat) : Nat := 0x51008 + 0x10 * i
def WLD_GATEiP__PARTS : Fld := ⟨0, 32⟩
/-- 14: Owner of channel n -/
def WLD_CHOWNn (n : Nat) : Nat := 0x52000 + 4 * n
def WLD_CHOWNn__PART : Fld := ⟨0, 5⟩
def WLD_CHOWNn__SEALED : Fld := ⟨5, 1⟩
def WLD_CHOWNn__VALID : Fld := ⟨31, 1⟩
/-- 14: Owner, drive and level of MGPIOj -/
def WLD_PINj (j : Nat) : Nat := 0x52200 + 4 * j
def WLD_PINj__PART : Fld := ⟨0, 5⟩
def WLD_PINj__SEALED : Fld := ⟨5, 1⟩
def WLD_PINj__VALID : Fld := ⟨6, 1⟩
def WLD_PINj__OE : Fld := ⟨8, 1⟩
def WLD_PINj__OUT : Fld := ⟨9, 1⟩
def WLD_PINj__IN : Fld := ⟨10, 1⟩
/-- 14: Owner of chip select s = 4 × bus + c -/
def WLD_SATOWNs (s : Nat) : Nat := 0x52300 + 4 * s
def WLD_SATOWNs__PART : Fld := ⟨0, 5⟩
def WLD_SATOWNs__SEALED : Fld := ⟨5, 1⟩
def WLD_SATOWNs__VALID : Fld := ⟨31, 1⟩
/-- 14: Region read or write -/
def RGD_CMD : Nat := 0x60000
def RGD_CMD__OP : Fld := ⟨0, 2⟩
def RGD_CMD__MIRROR : Fld := ⟨2, 1⟩
def RGD_CMD__GUARD : Fld := ⟨4, 4⟩
def RGD_CMD__REGION : Fld := ⟨8, 6⟩
def RGD_CMD__CONFIRM : Fld := ⟨24, 8⟩
/-- 14: Result -/
def RGD_CMDRES : Nat := 0x60004
def RGD_CMDRES__STATE : Fld := ⟨0, 2⟩
def RGD_CMDRES__PARTNER : Fld := ⟨2, 1⟩
def RGD_CMDRES__REASON : Fld := ⟨4, 4⟩
/-- 14: Region words 0–3 -/
def RGD_BUFi (i : Nat) : Nat := 0x60010 + 4 * i
/-- 14: Refusals by guard g -/
def RGD_gDENY (g : Nat) : Nat := 0x60100 + 0x10 * g
def RGD_gDENY__COUNT : Fld := ⟨0, 32⟩
/-- 14: Address of the first refusal, bits 31:0 -/
def RGD_gLASTL (g : Nat) : Nat := 0x60104 + 0x10 * g
def RGD_gLASTL__ADDR : Fld := ⟨0, 32⟩
/-- 14: Address bits 47:32 -/
def RGD_gLASTH (g : Nat) : Nat := 0x60108 + 0x10 * g
def RGD_gLASTH__ADDR : Fld := ⟨0, 16⟩
/-- 14: Requester of the first refusal -/
def RGD_gLAST (g : Nat) : Nat := 0x6010c + 0x10 * g
def RGD_gLAST__KIND : Fld := ⟨0, 2⟩
def RGD_gLAST__INIT : Fld := ⟨2, 5⟩
def RGD_gLAST__SEALW : Fld := ⟨7, 1⟩
def RGD_gLAST__HYP : Fld := ⟨8, 1⟩
def RGD_gLAST__PART : Fld := ⟨9, 5⟩
def RGD_gLAST__VALID : Fld := ⟨15, 1⟩
/-- 14: Word 0 of region r -/
def RGD_g_rBASE (g r : Nat) : Nat := 0x61000 + 0x400 * g + 0x10 * r
def RGD_g_rBASE__BASE : Fld := ⟨0, 32⟩
/-- 14: Word 1 -/
def RGD_g_rLIMIT (g r : Nat) : Nat := 0x61004 + 0x400 * g + 0x10 * r
def RGD_g_rLIMIT__LIMIT : Fld := ⟨0, 32⟩
/-- 14: Word 2 -/
def RGD_g_rPART (g r : Nat) : Nat := 0x61008 + 0x400 * g + 0x10 * r
def RGD_g_rPART__PARTMASK : Fld := ⟨0, 32⟩
/-- 14: Word 3 -/
def RGD_g_rCTL (g r : Nat) : Nat := 0x6100c + 0x400 * g + 0x10 * r
def RGD_g_rCTL__INIT : Fld := ⟨0, 5⟩
def RGD_g_rCTL__OPEN : Fld := ⟨5, 1⟩
def RGD_g_rCTL__SEALW : Fld := ⟨6, 1⟩
def RGD_g_rCTL__GUEST : Fld := ⟨7, 1⟩
def RGD_g_rCTL__HYP : Fld := ⟨8, 1⟩
def RGD_g_rCTL__R : Fld := ⟨9, 1⟩
def RGD_g_rCTL__W : Fld := ⟨10, 1⟩
def RGD_g_rCTL__X : Fld := ⟨11, 1⟩
def RGD_g_rCTL__CLASS : Fld := ⟨12, 2⟩
def RGD_g_rCTL__SEALED : Fld := ⟨14, 1⟩
def RGD_g_rCTL__EXCL : Fld := ⟨15, 1⟩
def RGD_g_rCTL__LOCK : Fld := ⟨16, 1⟩
def RGD_g_rCTL__CLR : Fld := ⟨17, 1⟩
def RGD_g_rCTL__VALID : Fld := ⟨31, 1⟩
/-- 16: Claim at M level; joined read -/
def EVC_CLAIMM : Nat := 0x40000
def EVC_CLAIMM__SRC : Fld := ⟨0, 10⟩
def EVC_CLAIMM__PRIO : Fld := ⟨16, 6⟩
def EVC_CLAIMM__COUNT : Fld := ⟨22, 8⟩
def EVC_CLAIMM__VALID : Fld := ⟨31, 1⟩
/-- 16: EOI at M level -/
def EVC_EOIM : Nat := 0x40004
def EVC_EOIM__SRC : Fld := ⟨0, 10⟩
/-- 16: Claim at HS level; joined read -/
def EVC_CLAIMS : Nat := 0x40008
def EVC_CLAIMS__SRC : Fld := ⟨0, 10⟩
def EVC_CLAIMS__PRIO : Fld := ⟨16, 6⟩
def EVC_CLAIMS__COUNT : Fld := ⟨22, 8⟩
def EVC_CLAIMS__VALID : Fld := ⟨31, 1⟩
/-- 16: EOI at HS level -/
def EVC_EOIS : Nat := 0x4000c
def EVC_EOIS__SRC : Fld := ⟨0, 10⟩
/-- 16: Claim at VS level for the running partition; joined read -/
def EVC_CLAIMV : Nat := 0x40010
def EVC_CLAIMV__SRC : Fld := ⟨0, 10⟩
def EVC_CLAIMV__PRIO : Fld := ⟨16, 6⟩
def EVC_CLAIMV__COUNT : Fld := ⟨22, 8⟩
def EVC_CLAIMV__VALID : Fld := ⟨31, 1⟩
/-- 16: EOI at VS level -/
def EVC_EOIV : Nat := 0x40014
def EVC_EOIV__SRC : Fld := ⟨0, 10⟩
/-- 16: M threshold -/
def EVC_THRM : Nat := 0x40018
def EVC_THRM__THR : Fld := ⟨0, 6⟩
/-- 16: HS threshold -/
def EVC_THRS : Nat := 0x4001c
def EVC_THRS__THR : Fld := ⟨0, 6⟩
/-- 16: VS threshold of the running partition -/
def EVC_THRV : Nat := 0x40020
def EVC_THRV__THR : Fld := ⟨0, 6⟩
/-- 16: Stack depths -/
def EVC_DEPTH : Nat := 0x40024
def EVC_DEPTH__M : Fld := ⟨0, 5⟩
def EVC_DEPTH__HS : Fld := ⟨8, 5⟩
def EVC_DEPTH__VS : Fld := ⟨16, 5⟩
/-- 16: Waiting partitions; joined read -/
def EVC_GPEND : Nat := 0x40028
def EVC_GPEND__PARTS : Fld := ⟨0, 32⟩
/-- 16: Fire software sources -/
def EVC_SWSET : Nat := 0x40100
def EVC_SWSET__SET : Fld := ⟨0, 16⟩
/-- 16: Stack and retention errors -/
def EVC_ERR : Nat := 0x40104
def EVC_ERR__STKOVF : Fld := ⟨0, 1⟩
def EVC_ERR__EOIERR : Fld := ⟨1, 1⟩
def EVC_ERR__EOIEMPTY : Fld := ⟨2, 1⟩
def EVC_ERR__RESTFAIL : Fld := ⟨3, 1⟩
/-- 16: Claims returning VALID = 1; wraps -/
def EVC_DELIV : Nat := 0x40108
/-- 16: Sources handed over (R629); saturating -/
def EVC_HAND : Nat := 0x4010c
/-- 16: Guest-wait priority -/
def EVC_CFG : Nat := 0x40110
def EVC_CFG__GWPRI : Fld := ⟨0, 6⟩
/-- 16: Timer compare bits 31:0 -/
def EVC_TtCMPL (t : Nat) : Nat := 0x40200 + 8 * t
/-- 16: Timer compare bits 63:32 -/
def EVC_TtCMPH (t : Nat) : Nat := 0x40204 + 8 * t
/-- 16: Pending state of sources 32i to 32i + 31 -/
def EVC_PENDi (i : Nat) : Nat := 0x40400 + 4 * i
def EVC_PENDi__PEND : Fld := ⟨0, 32⟩
/-- 16: Setter mask of software source i -/
def EVC_SWMASKi (i : Nat) : Nat := 0x40800 + 4 * i
def EVC_SWMASKi__PARTS : Fld := ⟨0, 32⟩
/-- 16: Route of source s -/
def EVC_sROUTE (s : Nat) : Nat := 0x41000 + 8 * s
def EVC_sROUTE__PART : Fld := ⟨0, 5⟩
def EVC_sROUTE__LINE : Fld := ⟨5, 3⟩
def EVC_sROUTE__PRIO : Fld := ⟨8, 6⟩
def EVC_sROUTE__MOD : Fld := ⟨14, 1⟩
/-- 16: Moderation of source s -/
def EVC_sMOD (s : Nat) : Nat := 0x41004 + 8 * s
def EVC_sMOD__CNT : Fld := ⟨0, 8⟩
def EVC_sMOD__TIME : Fld := ⟨16, 16⟩
/-- 17: Power state, lanes, feeds, RTC, regulator sets -/
def CIS_STAT : Nat := 0x0
def CIS_STAT__STATE : Fld := ⟨0, 2⟩
def CIS_STAT__PREP : Fld := ⟨2, 1⟩
def CIS_STAT__LANEOK : Fld := ⟨3, 3⟩
def CIS_STAT__FEEDA : Fld := ⟨6, 1⟩
def CIS_STAT__FEEDB : Fld := ⟨7, 1⟩
def CIS_STAT__RTCOSC : Fld := ⟨8, 1⟩
def CIS_STAT__REG0 : Fld := ⟨9, 1⟩
def CIS_STAT__REG1 : Fld := ⟨10, 1⟩
/-- 17: Sticky Cistern events -/
def CIS_EVT : Nat := 0x4
def CIS_EVT__SLEEP : Fld := ⟨0, 1⟩
def CIS_EVT__FEEDWARN : Fld := ⟨1, 1⟩
def CIS_EVT__QPWR : Fld := ⟨2, 1⟩
def CIS_EVT__ERRDUE : Fld := ⟨3, 1⟩
def CIS_EVT__ERROVER : Fld := ⟨4, 1⟩
def CIS_EVT__BUDGET : Fld := ⟨5, 1⟩
def CIS_EVT__TOKEN : Fld := ⟨6, 1⟩
def CIS_EVT__HEALTH : Fld := ⟨7, 1⟩
def CIS_EVT__ALARM : Fld := ⟨8, 1⟩
/-- 17: Sleep request -/
def CIS_SLEEP : Nat := 0x8
def CIS_SLEEP__TARGET : Fld := ⟨0, 2⟩
def CIS_SLEEP__PIN : Fld := ⟨2, 3⟩
def CIS_SLEEP__USEPIN : Fld := ⟨5, 1⟩
def CIS_SLEEP__TAG : Fld := ⟨8, 8⟩
def CIS_SLEEP__CONFIRM : Fld := ⟨24, 8⟩
/-- 17: Result of the last sleep request -/
def CIS_SLEEPST : Nat := 0xc
def CIS_SLEEPST__RESULT : Fld := ⟨0, 3⟩
def CIS_SLEEPST__TARGET : Fld := ⟨3, 2⟩
def CIS_SLEEPST__TAG : Fld := ⟨8, 8⟩
def CIS_SLEEPST__PREPUS : Fld := ⟨16, 16⟩
/-- 17: Sources of the last wake -/
def CIS_WAKE : Nat := 0x10
def CIS_WAKE__FROM : Fld := ⟨0, 2⟩
def CIS_WAKE__CAN : Fld := ⟨2, 4⟩
def CIS_WAKE__ETH : Fld := ⟨6, 1⟩
def CIS_WAKE__PINS : Fld := ⟨7, 8⟩
def CIS_WAKE__RTC : Fld := ⟨15, 1⟩
def CIS_WAKE__ERRAND : Fld := ⟨16, 1⟩
def CIS_WAKE__SLOT : Fld := ⟨17, 4⟩
def CIS_WAKE__EVENT : Fld := ⟨21, 1⟩
/-- 17: Channels kept in DROWSE and DORMANT -/
def CIS_KEEPi (i : Nat) : Nat := 0x14 + 4 * i
def CIS_KEEPi__KEEP : Fld := ⟨0, 32⟩
/-- 17: RTC, low word first -/
def CIS_RTCL : Nat := 0x20
def CIS_RTCL__RTC : Fld := ⟨0, 32⟩
/-- 17: RTC, low word first -/
def CIS_RTCH : Nat := 0x24
def CIS_RTCH__RTC : Fld := ⟨0, 32⟩
/-- 17: RTC alarm -/
def CIS_ALARML : Nat := 0x28
def CIS_ALARML__ALARM : Fld := ⟨0, 32⟩
/-- 17: RTC alarm -/
def CIS_ALARMH : Nat := 0x2c
def CIS_ALARMH__ALARM : Fld := ⟨0, 32⟩
/-- 17: Lane resynchronisations, fenced lanes -/
def CIS_LANE : Nat := 0x30
def CIS_LANE__RESYNC : Fld := ⟨0, 8⟩
def CIS_LANE__FENCED : Fld := ⟨8, 3⟩
/-- 17: Policy flags -/
def CIS_CFG : Nat := 0x40
def CIS_CFG__AUTOSENT : Fld := ⟨0, 1⟩
def CIS_CFG__SPIN : Fld := ⟨1, 3⟩
/-- 17: WAKE pin settings -/
def CIS_WAKECFG : Nat := 0x44
def CIS_WAKECFG__PIN0 : Fld := ⟨0, 4⟩
def CIS_WAKECFG__PIN1 : Fld := ⟨4, 4⟩
def CIS_WAKECFG__PIN2 : Fld := ⟨8, 4⟩
def CIS_WAKECFG__PIN3 : Fld := ⟨12, 4⟩
def CIS_WAKECFG__PIN4 : Fld := ⟨16, 4⟩
def CIS_WAKECFG__PIN5 : Fld := ⟨20, 4⟩
def CIS_WAKECFG__PIN6 : Fld := ⟨24, 4⟩
def CIS_WAKECFG__PIN7 : Fld := ⟨28, 4⟩
/-- 17: Ports with link-activity wake -/
def CIS_ETHWAKE : Nat := 0x48
def CIS_ETHWAKE__PORTS : Fld := ⟨0, 24⟩
/-- 17: Grant mask -/
def CIS_GMASK : Nat := 0x4c
def CIS_GMASK__PARTS : Fld := ⟨0, 32⟩
/-- 17: Feed voltage -/
def CIS_FfV (f : Nat) : Nat := 0x100 + 0x20 * f
def CIS_FfV__V : Fld := ⟨0, 16⟩
/-- 17: Feed current, 1 ms mean -/
def CIS_FfI (f : Nat) : Nat := 0x104 + 0x20 * f
def CIS_FfI__I : Fld := ⟨0, 32⟩
/-- 17: Charge, µAh -/
def CIS_FfQL (f : Nat) : Nat := 0x108 + 0x20 * f
/-- 17: Charge, µAh -/
def CIS_FfQH (f : Nat) : Nat := 0x10c + 0x20 * f
/-- 17: Energy, mWh -/
def CIS_FfEL (f : Nat) : Nat := 0x110 + 0x20 * f
/-- 17: Energy, mWh -/
def CIS_FfEH (f : Nat) : Nat := 0x114 + 0x20 * f
/-- 17: Own current, last DORMANT value -/
def CIS_FfOWN (f : Nat) : Nat := 0x118 + 0x20 * f
def CIS_FfOWN__OWN : Fld := ⟨0, 32⟩
/-- 17: Derated limits and cold-plate temperature -/
def CIS_LIMIT : Nat := 0x140
def CIS_LIMIT__STUD : Fld := ⟨0, 8⟩
def CIS_LIMIT__AGG : Fld := ⟨8, 9⟩
def CIS_LIMIT__TPLATE : Fld := ⟨20, 12⟩
/-- 17: Warning thresholds -/
def CIS_WATCH : Nat := 0x144
def CIS_WATCH__WSTUD : Fld := ⟨0, 8⟩
def CIS_WATCH__WAGG : Fld := ⟨8, 9⟩
/-- 17: Regulator set outputs -/
def CIS_QPWR : Nat := 0x148
def CIS_QPWR__Q0 : Fld := ⟨0, 16⟩
def CIS_QPWR__Q1 : Fld := ⟨16, 16⟩
/-- 17: Balance, µWh -/
def CIS_BALL : Nat := 0x180
/-- 17: Balance, µWh -/
def CIS_BALH : Nat := 0x184
/-- 17: Grant -/
def CIS_GRANT : Nat := 0x188
def CIS_GRANT__AMOUNT : Fld := ⟨0, 24⟩
def CIS_GRANT__TAG : Fld := ⟨24, 8⟩
/-- 17: Result of the last grant -/
def CIS_GRANTST : Nat := 0x18c
def CIS_GRANTST__RESULT : Fld := ⟨0, 2⟩
def CIS_GRANTST__PART : Fld := ⟨2, 5⟩
def CIS_GRANTST__TAG : Fld := ⟨8, 8⟩
/-- 17: Harness loss, mWh -/
def CIS_HARNL : Nat := 0x190
/-- 17: Harness loss, mWh -/
def CIS_HARNH : Nat := 0x194
/-- 17: Errand command -/
def CIS_ERRCMD : Nat := 0x200
def CIS_ERRCMD__OP : Fld := ⟨0, 4⟩
def CIS_ERRCMD__SLOT : Fld := ⟨4, 4⟩
def CIS_ERRCMD__TAG : Fld := ⟨8, 8⟩
def CIS_ERRCMD__CONFIRM : Fld := ⟨24, 8⟩
/-- 17: Its result -/
def CIS_ERRRES : Nat := 0x204
def CIS_ERRRES__RESULT : Fld := ⟨0, 2⟩
def CIS_ERRRES__REASON : Fld := ⟨4, 4⟩
/-- 17: Errand buffer -/
def CIS_ERRBUFi (i : Nat) : Nat := 0x210 + 4 * i
def CIS_ERRBUFi__COST : Fld := ⟨0, 32⟩
def CIS_ERRBUFi__LIMIT : Fld := ⟨0, 16⟩
/-- 17: State of slot s -/
def CIS_ERRSTs (s : Nat) : Nat := 0x240 + 4 * s
def CIS_ERRSTs__STATE : Fld := ⟨0, 3⟩
def CIS_ERRSTs__REASON : Fld := ⟨3, 4⟩
def CIS_ERRSTs__PART : Fld := ⟨8, 5⟩
/-- 17: Last errand run -/
def CIS_ERRLAST : Nat := 0x280
def CIS_ERRLAST__COST : Fld := ⟨0, 16⟩
def CIS_ERRLAST__DUR : Fld := ⟨16, 16⟩
/-- 17: Holders of the tokens -/
def CIS_TOKEN : Nat := 0x300
def CIS_TOKEN__DIE : Fld := ⟨0, 9⟩
/-- 17: Role swap request -/
def CIS_SWAP : Nat := 0x304
def CIS_SWAP__TOKEN : Fld := ⟨0, 4⟩
def CIS_SWAP__DIE : Fld := ⟨4, 1⟩
def CIS_SWAP__TAG : Fld := ⟨8, 8⟩
def CIS_SWAP__CONFIRM : Fld := ⟨24, 8⟩
/-- 17: Its result -/
def CIS_SWAPRES : Nat := 0x308
def CIS_SWAPRES__RESULT : Fld := ⟨0, 2⟩
/-- 17: Token serial and moves -/
def CIS_TSERt (t : Nat) : Nat := 0x320 + 4 * t
def CIS_TSERt__SERIAL : Fld := ⟨0, 11⟩
def CIS_TSERt__MOVES : Fld := ⟨16, 16⟩
/-- 17: Channel energy, mWh -/
def CIS_CHnEL (n : Nat) : Nat := 0x600 + 8 * n
def CIS_CHnEL__E : Fld := ⟨0, 32⟩
/-- 17: Channel energy, mWh -/
def CIS_CHnEH (n : Nat) : Nat := 0x604 + 8 * n
def CIS_CHnEH__E : Fld := ⟨0, 32⟩
/-- 17: R664 -/
def CIS_NOTE (w : Nat) : Nat := 0x1000 + 4 * w
/-- 17: R664 -/
def CIS_RETENTION (w : Nat) : Nat := 0x4000 + 4 * w
/-- 18: State, coordinator, own rank -/
def ZGP_STAT : Nat := 0x150000
def ZGP_STAT__STATE : Fld := ⟨0, 3⟩
def ZGP_STAT__RANK : Fld := ⟨3, 2⟩
def ZGP_STAT__ELIG : Fld := ⟨5, 1⟩
def ZGP_STAT__COORD : Fld := ⟨16, 10⟩
/-- 18: Sticky group events -/
def ZGP_EVT : Nat := 0x150004
def ZGP_EVT__VIEW : Fld := ⟨0, 1⟩
def ZGP_EVT__COORD : Fld := ⟨1, 1⟩
def ZGP_EVT__LEDGER : Fld := ⟨2, 1⟩
def ZGP_EVT__REFUSED : Fld := ⟨3, 1⟩
def ZGP_EVT__ROAM : Fld := ⟨4, 1⟩
def ZGP_EVT__REMFAIL : Fld := ⟨5, 1⟩
def ZGP_EVT__ISOL : Fld := ⟨6, 1⟩
/-- 18: Report, leave, rejoin, release -/
def ZGP_CMD : Nat := 0x150008
def ZGP_CMD__OP : Fld := ⟨0, 4⟩
def ZGP_CMD__PART : Fld := ⟨4, 5⟩
def ZGP_CMD__TAG : Fld := ⟨16, 8⟩
def ZGP_CMD__CONFIRM : Fld := ⟨24, 8⟩
/-- 18: Result of the last command -/
def ZGP_CMDRES : Nat := 0x15000c
def ZGP_CMDRES__RESULT : Fld := ⟨0, 2⟩
/-- 18: View number -/
def ZGP_VIEW : Nat := 0x150010
/-- 18: Backup IDs -/
def ZGP_BACKUP : Nat := 0x150014
def ZGP_BACKUP__B1 : Fld := ⟨0, 10⟩
def ZGP_BACKUP__B2 : Fld := ⟨16, 10⟩
/-- 18: Interface epochs of the view -/
def ZGP_SPAN : Nat := 0x150018
def ZGP_SPAN__MIN : Fld := ⟨0, 16⟩
def ZGP_SPAN__MAX : Fld := ⟨16, 16⟩
/-- 18: Reports sent, cancelled, frames discarded -/
def ZGP_CNT : Nat := 0x15001c
def ZGP_CNT__SENT : Fld := ⟨0, 12⟩
def ZGP_CNT__CANCEL : Fld := ⟨12, 12⟩
def ZGP_CNT__DISC : Fld := ⟨24, 8⟩
/-- 18: Last remote failure and count -/
def ZGP_REMERR : Nat := 0x150020
def ZGP_REMERR__PEER : Fld := ⟨0, 10⟩
def ZGP_REMERR__REASON : Fld := ⟨10, 4⟩
def ZGP_REMERR__COUNT : Fld := ⟨16, 16⟩
/-- 18: Report body for ZGP_CMD -/
def ZGP_RBUF0 : Nat := 0x150030
def ZGP_RBUF0__SUBJ : Fld := ⟨0, 10⟩
def ZGP_RBUF0__KIND : Fld := ⟨16, 8⟩
/-- 18: Report body for ZGP_CMD -/
def ZGP_RBUF1 : Nat := 0x150034
def ZGP_RBUF1__DETAIL : Fld := ⟨0, 32⟩
/-- 18: Group record settings -/
def ZGP_CFG : Nat := 0x150040
def ZGP_CFG__ETYPE : Fld := ⟨0, 16⟩
def ZGP_CFG__ELIG : Fld := ⟨16, 1⟩
def ZGP_CFG__USED : Fld := ⟨17, 1⟩
/-- 18: Group ID -/
def ZGP_GID : Nat := 0x150044
def ZGP_GID__GID : Fld := ⟨0, 32⟩
/-- 18: Members 32w to 32w + 31 -/
def ZGP_MEMw (w : Nat) : Nat := 0x150100 + 4 * w
def ZGP_MEMw__BITS : Fld := ⟨0, 32⟩
/-- 18: SLOW marks -/
def ZGP_SLOWw (w : Nat) : Nat := 0x150180 + 4 * w
def ZGP_SLOWw__BITS : Fld := ⟨0, 32⟩
/-- 18: Roaming state of partition p -/
def ZGP_RpSTAT (p : Nat) : Nat := 0x150200 + 0x10 * p
def ZGP_RpSTAT__ROLE : Fld := ⟨0, 2⟩
def ZGP_RpSTAT__STATE : Fld := ⟨2, 3⟩
def ZGP_RpSTAT__HOLDER : Fld := ⟨16, 10⟩
/-- 18: Last snapshot number -/
def ZGP_RpSNAP (p : Nat) : Nat := 0x150204 + 0x10 * p
def ZGP_RpSNAP__SNAP : Fld := ⟨0, 32⟩
/-- 18: Publish -/
def ZGP_RpPUB (p : Nat) : Nat := 0x150208 + 0x10 * p
def ZGP_RpPUB__GO : Fld := ⟨0, 1⟩
def ZGP_RpPUB__TAG : Fld := ⟨8, 8⟩
def ZGP_RpPUB__CONFIRM : Fld := ⟨24, 8⟩
/-- 18: Ledger mirror entry -/
def ZGP_LEDe (e w : Nat) : Nat := 0x151000 + 0x10 * e + 4 * w
def ZGP_LEDe__SUBJ : Fld := ⟨0, 10⟩
def ZGP_LEDe__KIND : Fld := ⟨16, 8⟩
def ZGP_LEDe__OPEN : Fld := ⟨31, 1⟩
def ZGP_LEDe__DETAIL : Fld := ⟨0, 32⟩
def ZGP_LEDe__FIRST : Fld := ⟨0, 32⟩
def ZGP_LEDe__COUNT : Fld := ⟨0, 16⟩
def ZGP_LEDe__BY : Fld := ⟨16, 10⟩
/-- 19: Phase, die in work, group state -/
def UPD_STAT : Nat := 0x120020
def UPD_STAT__PHASE : Fld := ⟨0, 4⟩
def UPD_STAT__INWORK : Fld := ⟨4, 1⟩
def UPD_STAT__VSOK : Fld := ⟨5, 1⟩
def UPD_STAT__GRP : Fld := ⟨6, 2⟩
/-- 19: Update command -/
def UPD_CMD : Nat := 0x120024
def UPD_CMD__OP : Fld := ⟨0, 4⟩
def UPD_CMD__TAG : Fld := ⟨8, 8⟩
def UPD_CMD__CONFIRM : Fld := ⟨24, 8⟩
/-- 19: Result of the last command -/
def UPD_CMDRES : Nat := 0x120028
def UPD_CMDRES__RESULT : Fld := ⟨0, 2⟩
def UPD_CMDRES__REASON : Fld := ⟨4, 4⟩
def UPD_CMDRES__CODE : Fld := ⟨8, 8⟩
/-- 19: Vehicle state -/
def UPD_VSTATE : Nat := 0x12002c
def UPD_VSTATE__STATE : Fld := ⟨0, 4⟩
/-- 19: Buffer address, bits 31:0 -/
def UPD_BUFL : Nat := 0x120030
def UPD_BUFL__ADDR : Fld := ⟨0, 32⟩
/-- 19: Buffer address, bits 47:32 -/
def UPD_BUFH : Nat := 0x120034
def UPD_BUFH__ADDR : Fld := ⟨0, 16⟩
/-- 19: Chunk index for STAGE -/
def UPD_IDX : Nat := 0x120038
def UPD_IDX__INDEX : Fld := ⟨0, 13⟩
/-- 19: Package ID, bits 31:0 -/
def UPD_PKGL : Nat := 0x12003c
def UPD_PKGL__PKG : Fld := ⟨0, 32⟩
/-- 19: Package ID, bits 63:32 -/
def UPD_PKGH : Nat := 0x120040
def UPD_PKGH__PKG : Fld := ⟨0, 32⟩
/-- 19: Chunk count -/
def UPD_CHUNKS : Nat := 0x120044
def UPD_CHUNKS__TOTAL : Fld := ⟨0, 13⟩
/-- 19: Chunks staged on each die -/
def UPD_STAGED : Nat := 0x120048
def UPD_STAGED__OWN : Fld := ⟨0, 13⟩
def UPD_STAGED__PARTNER : Fld := ⟨16, 13⟩
/-- 19: Lowest missing chunk -/
def UPD_MISS : Nat := 0x12004c
def UPD_MISS__INDEX : Fld := ⟨0, 13⟩
def UPD_MISS__NONE : Fld := ⟨31, 1⟩
/-- 19: Write progress of the die in work -/
def UPD_CURSOR : Nat := 0x120050
def UPD_CURSOR__CHUNKS : Fld := ⟨0, 13⟩
def UPD_CURSOR__BLOCKS : Fld := ⟨16, 7⟩
/-- 19: Last cut-over interruption -/
def UPD_CUTUS : Nat := 0x120054
def UPD_CUTUS__US : Fld := ⟨0, 32⟩
/-- 19: Permitted states, update partition -/
def UPD_CFG : Nat := 0x120058
def UPD_CFG__MASK : Fld := ⟨0, 16⟩
def UPD_CFG__PART : Fld := ⟨16, 5⟩
/-- 19: Cut-over and split limits -/
def UPD_LIM : Nat := 0x12005c
def UPD_LIM__CUT : Fld := ⟨0, 16⟩
def UPD_LIM__SPLIT : Fld := ⟨16, 16⟩
/-- 19: Compatibility record -/
def UPD_COMPAT : Nat := 0x120060
def UPD_COMPAT__FROM : Fld := ⟨0, 16⟩
def UPD_COMPAT__MIG : Fld := ⟨16, 1⟩
/-- 19: Sticky update events -/
def UPD_EVT : Nat := 0x120064
def UPD_EVT__PHASE : Fld := ⟨0, 1⟩
def UPD_EVT__DONE : Fld := ⟨1, 1⟩
def UPD_EVT__ABORTED : Fld := ⟨2, 1⟩
def UPD_EVT__REFUSED : Fld := ⟨3, 1⟩
def UPD_EVT__SPLITLIM : Fld := ⟨4, 1⟩
/-- 20: FAULT_N conditions and pin -/
def FLT_STAT : Nat := 0x130000
def FLT_STAT__COND : Fld := ⟨0, 8⟩
def FLT_STAT__FN : Fld := ⟨8, 1⟩
def FLT_STAT__SUMOK : Fld := ⟨9, 1⟩
/-- 20: Records written since die reset -/
def FLT_WIDX : Nat := 0x130004
def FLT_WIDX__INDEX : Fld := ⟨0, 32⟩
/-- 20: Consumer index -/
def FLT_RIDX : Nat := 0x130008
def FLT_RIDX__INDEX : Fld := ⟨0, 32⟩
/-- 20: Records overwritten unread -/
def FLT_LOST : Nat := 0x13000c
def FLT_LOST__COUNT : Fld := ⟨0, 32⟩
/-- 20: Records suppressed (R734) -/
def FLT_SUPP : Nat := 0x130010
def FLT_SUPP__COUNT : Fld := ⟨0, 32⟩
/-- 20: Fault commands -/
def FLT_CMD : Nat := 0x130014
def FLT_CMD__OP : Fld := ⟨0, 4⟩
def FLT_CMD__CONFIRM : Fld := ⟨24, 8⟩
/-- 20: Result of the last command -/
def FLT_CMDRES : Nat := 0x130018
def FLT_CMDRES__RESULT : Fld := ⟨0, 2⟩
def FLT_CMDRES__REASON : Fld := ⟨4, 4⟩
/-- 20: Buffer address, bits 31:0 -/
def FLT_BUFL : Nat := 0x130020
def FLT_BUFL__ADDR : Fld := ⟨0, 32⟩
/-- 20: Buffer address, bits 47:32 -/
def FLT_BUFH : Nat := 0x130024
def FLT_BUFH__ADDR : Fld := ⟨0, 16⟩
/-- 20: Blotter slots -/
def FLT_BLOT : Nat := 0x130028
def FLT_BLOT__USED : Fld := ⟨0, 8⟩
def FLT_BLOT__UNREAD : Fld := ⟨8, 8⟩
def FLT_BLOT__NEWEST : Fld := ⟨16, 3⟩
def FLT_BLOT__DRAMPEND : Fld := ⟨20, 3⟩
def FLT_BLOT__OVER : Fld := ⟨24, 8⟩
/-- 20: Selected slot -/
def FLT_BSEL : Nat := 0x13002c
def FLT_BSEL__SLOT : Fld := ⟨0, 3⟩
/-- 20: Dump in the selected slot -/
def FLT_BINFO : Nat := 0x130030
def FLT_BINFO__CAUSE : Fld := ⟨0, 8⟩
def FLT_BINFO__DIE : Fld := ⟨8, 1⟩
def FLT_BINFO__TRUNC : Fld := ⟨9, 1⟩
def FLT_BINFO__SIZE : Fld := ⟨16, 9⟩
/-- 20: Rows repaired -/
def FLT_REPAIR : Nat := 0x130040
def FLT_REPAIR__SRAMROWS : Fld := ⟨0, 16⟩
def FLT_REPAIR__DRAMROWS : Fld := ⟨16, 16⟩
/-- 20: Spare rows left -/
def FLT_SPARE : Nat := 0x130044
def FLT_SPARE__SRAMLEFT : Fld := ⟨0, 16⟩
def FLT_SPARE__DRAMLEFT : Fld := ⟨16, 16⟩
/-- 20: Scrub passes -/
def FLT_SCRUB : Nat := 0x130048
def FLT_SCRUB__DRAMPASS : Fld := ⟨0, 16⟩
def FLT_SCRUB__SRAMPASS : Fld := ⟨16, 16⟩
/-- 20: Fault policy -/
def FLT_CFG : Nat := 0x130060
def FLT_CFG__FNMASK : Fld := ⟨0, 8⟩
def FLT_CFG__NIBACT : Fld := ⟨8, 1⟩
/-- 20: Records of class c, suppressed ones included -/
def FLT_CNTc (c : Nat) : Nat := 0x130100 + 4 * c
def FLT_CNTc__COUNT : Fld := ⟨0, 32⟩
/-- 21: Vault, tests, slots -/
def SEC_STAT : Nat := 0x140000
def SEC_STAT__VAULT : Fld := ⟨0, 1⟩
def SEC_STAT__KAT : Fld := ⟨1, 1⟩
def SEC_STAT__KATFAIL : Fld := ⟨2, 1⟩
def SEC_STAT__ZEROED : Fld := ⟨3, 1⟩
def SEC_STAT__SLOTS : Fld := ⟨8, 6⟩
/-- 21: Operation -/
def SEC_CMD : Nat := 0x140004
def SEC_CMD__OP : Fld := ⟨0, 4⟩
def SEC_CMD__SLOT : Fld := ⟨4, 5⟩
def SEC_CMD__TAG : Fld := ⟨16, 8⟩
def SEC_CMD__CONFIRM : Fld := ⟨24, 8⟩
/-- 21: Result -/
def SEC_CMDRES : Nat := 0x140008
def SEC_CMDRES__RESULT : Fld := ⟨0, 2⟩
def SEC_CMDRES__REASON : Fld := ⟨4, 4⟩
def SEC_CMDRES__TAG : Fld := ⟨8, 8⟩
def SEC_CMDRES__LEN : Fld := ⟨16, 16⟩
/-- 21: Operation arguments -/
def SEC_ARGi (i : Nat) : Nat := 0x140010 + 4 * i
def SEC_ARGi__ARG : Fld := ⟨0, 32⟩
/-- 21: Scope and lockout -/
def DBG_STAT : Nat := 0x160000
def DBG_STAT__SCOPE : Fld := ⟨0, 2⟩
def DBG_STAT__LIMIT : Fld := ⟨2, 2⟩
def DBG_STAT__LOCKOUT : Fld := ⟨4, 1⟩
def DBG_STAT__FAILS : Fld := ⟨5, 2⟩
/-- 21: Challenge, unlock -/
def DBG_CMD : Nat := 0x160004
def DBG_CMD__OP : Fld := ⟨0, 4⟩
def DBG_CMD__SCOPE : Fld := ⟨4, 2⟩
def DBG_CMD__CONFIRM : Fld := ⟨24, 8⟩
/-- 21: Result -/
def DBG_CMDRES : Nat := 0x160008
def DBG_CMDRES__RESULT : Fld := ⟨0, 2⟩
def DBG_CMDRES__REASON : Fld := ⟨4, 4⟩
/-- 21: Challenge -/
def DBG_CHALi (i : Nat) : Nat := 0x160010 + 4 * i
/-- 21: Response buffer address -/
def DBG_RESPL : Nat := 0x160030
def DBG_RESPL__ADDR : Fld := ⟨0, 32⟩
/-- 21: Response buffer address -/
def DBG_RESPH : Nat := 0x160034
def DBG_RESPH__ADDR : Fld := ⟨0, 16⟩
/-- 21: Boot measurement register -/
def DBG_MEASi (i : Nat) : Nat := 0x160040 + 4 * i
/-- 21: Glitch resets -/
def DBG_GLITCH : Nat := 0x160080
def DBG_GLITCH__DIE : Fld := ⟨0, 8⟩
def DBG_GLITCH__CIS : Fld := ⟨8, 8⟩
/-- 21: Die unique ID -/
def DBG_UIDi (i : Nat) : Nat := 0x160090 + 4 * i
/-- 21: Effective limit -/
def DBG_CFG : Nat := 0x1600a0
def DBG_CFG__LIMIT : Fld := ⟨0, 2⟩

/-- The registers of block CIS (R35), in the order of its chapter's table. -/
def regsOfCIS : List RegDef := [
  ⟨"CIS_BOOT", 0x400, 1, 0x4, 1, 0x4, 0x0, 0x0, 0x0, 0x0, 0x1ff0, false⟩,
  ⟨"CIS_RSTREQ", 0x404, 1, 0x4, 1, 0x4, 0x0, 0x0, 0x0, 0xffff3f07, 0x0, false⟩,
  ⟨"CIS_RSTRES", 0x408, 1, 0x4, 1, 0x4, 0x0, 0x0, 0x0, 0x0, 0x0, false⟩,
  ⟨"CIS_RSTMOD", 0x40c, 1, 0x4, 1, 0x4, 0x0, 0x0, 0x0, 0x0, 0x0, false⟩,
  ⟨"CIS_RSTDIE0", 0x410, 1, 0x4, 1, 0x4, 0x0, 0x0, 0x0, 0x0, 0x0, true⟩,
  ⟨"CIS_RSTDIE1", 0x414, 1, 0x4, 1, 0x4, 0x0, 0x0, 0x0, 0x0, 0x0, true⟩,
  ⟨"CIS_RSTNCn", 0x420, 8, 0x4, 1, 0x4, 0x0, 0x0, 0x0, 0x0, 0x0, true⟩,
  ⟨"CIS_RSTPTn", 0x440, 32, 0x4, 1, 0x4, 0x0, 0x0, 0x0, 0x0, 0x0, true⟩,
  ⟨"CIS_RSTSWn", 0x4c0, 19, 0x4, 1, 0x4, 0x0, 0x0, 0x0, 0x0, 0x0, true⟩,
  ⟨"CIS_STAT", 0x0, 1, 0x4, 1, 0x4, 0x0, 0x0, 0x0, 0x0, 0xf8, false⟩,
  ⟨"CIS_EVT", 0x4, 1, 0x4, 1, 0x4, 0x0, 0x1ff, 0x0, 0x0, 0x0, false⟩,
  ⟨"CIS_SLEEP", 0x8, 1, 0x4, 1, 0x4, 0x0, 0x0, 0x0, 0xff00ff3f, 0x0, false⟩,
  ⟨"CIS_SLEEPST", 0xc, 1, 0x4, 1, 0x4, 0x0, 0x0, 0x0, 0x0, 0x0, false⟩,
  ⟨"CIS_WAKE", 0x10, 1, 0x4, 1, 0x4, 0x0, 0x0, 0x0, 0x0, 0x0, false⟩,
  ⟨"CIS_KEEPi", 0x14, 2, 0x4, 1, 0x4, 0xffffffff, 0x0, 0x0, 0x0, 0x0, false⟩,
  ⟨"CIS_KEEP2", 0x1c, 1, 0x4, 1, 0x4, 0xffff, 0x0, 0x0, 0x0, 0x0, false⟩,
  ⟨"CIS_RTCL", 0x20, 1, 0x4, 1, 0x4, 0x0, 0x0, 0x0, 0x0, 0x0, true⟩,
  ⟨"CIS_RTCH", 0x24, 1, 0x4, 1, 0x4, 0x0, 0x0, 0x0, 0x0, 0x0, true⟩,
  ⟨"CIS_ALARML", 0x28, 1, 0x4, 1, 0x4, 0xffffffff, 0x0, 0x0, 0x0, 0xffffffff, false⟩,
  ⟨"CIS_ALARMH", 0x2c, 1, 0x4, 1, 0x4, 0xffffffff, 0x0, 0x0, 0x0, 0xffffffff, false⟩,
  ⟨"CIS_LANE", 0x30, 1, 0x4, 1, 0x4, 0x0, 0x0, 0x0, 0x0, 0x0, false⟩,
  ⟨"CIS_CFG", 0x40, 1, 0x4, 1, 0x4, 0x0, 0x0, 0xf, 0x0, 0x0, false⟩,
  ⟨"CIS_WAKECFG", 0x44, 1, 0x4, 1, 0x4, 0x0, 0x0, 0xffffffff, 0x0, 0xb, false⟩,
  ⟨"CIS_ETHWAKE", 0x48, 1, 0x4, 1, 0x4, 0x0, 0x0, 0xffffff, 0x0, 0x0, false⟩,
  ⟨"CIS_GMASK", 0x4c, 1, 0x4, 1, 0x4, 0x0, 0x0, 0xffffffff, 0x0, 0x0, false⟩,
  ⟨"CIS_FfV", 0x100, 2, 0x20, 1, 0x4, 0x0, 0x0, 0x0, 0x0, 0x0, false⟩,
  ⟨"CIS_FfI", 0x104, 2, 0x20, 1, 0x4, 0x0, 0x0, 0x0, 0x0, 0x0, false⟩,
  ⟨"CIS_FfQL", 0x108, 2, 0x20, 1, 0x4, 0x0, 0x0, 0x0, 0x0, 0x0, true⟩,
  ⟨"CIS_FfQH", 0x10c, 2, 0x20, 1, 0x4, 0x0, 0x0, 0x0, 0x0, 0x0, true⟩,
  ⟨"CIS_FfEL", 0x110, 2, 0x20, 1, 0x4, 0x0, 0x0, 0x0, 0x0, 0x0, true⟩,
  ⟨"CIS_FfEH", 0x114, 2, 0x20, 1, 0x4, 0x0, 0x0, 0x0, 0x0, 0x0, true⟩,
  ⟨"CIS_FfOWN", 0x118, 2, 0x20, 1, 0x4, 0x0, 0x0, 0x0, 0x0, 0x0, false⟩,
  ⟨"CIS_LIMIT", 0x140, 1, 0x4, 1, 0x4, 0x0, 0x0, 0x0, 0x0, 0x0, false⟩,
  ⟨"CIS_WATCH", 0x144, 1, 0x4, 1, 0x4, 0x0, 0x0, 0x1ffff, 0x0, 0x0, false⟩,
  ⟨"CIS_QPWR", 0x148, 1, 0x4, 1, 0x4, 0x0, 0x0, 0x0, 0x0, 0x0, false⟩,
  ⟨"CIS_BALL", 0x180, 1, 0x4, 1, 0x4, 0x0, 0x0, 0x0, 0x0, 0x0, true⟩,
  ⟨"CIS_BALH", 0x184, 1, 0x4, 1, 0x4, 0x0, 0x0, 0x0, 0x0, 0x0, true⟩,
  ⟨"CIS_GRANT", 0x188, 1, 0x4, 1, 0x4, 0x0, 0x0, 0x0, 0xffffffff, 0x0, false⟩,
  ⟨"CIS_GRANTST", 0x18c, 1, 0x4, 1, 0x4, 0x0, 0x0, 0x0, 0x0, 0x0, false⟩,
  ⟨"CIS_HARNL", 0x190, 1, 0x4, 1, 0x4, 0x0, 0x0, 0x0, 0x0, 0x0, true⟩,
  ⟨"CIS_HARNH", 0x194, 1, 0x4, 1, 0x4, 0x0, 0x0, 0x0, 0x0, 0x0, true⟩,
  ⟨"CIS_ERRCMD", 0x200, 1, 0x4, 1, 0x4, 0x0, 0x0, 0x0, 0xff00ffff, 0x0, false⟩,
  ⟨"CIS_ERRRES", 0x204, 1, 0x4, 1, 0x4, 0x0, 0x0, 0x0, 0x0, 0x0, false⟩,
  ⟨"CIS_ERRBUFi", 0x210, 3, 0x4, 1, 0x4, 0xffffffff, 0x0, 0x0, 0x0, 0x0, false⟩,
  ⟨"CIS_ERRBUF3", 0x21c, 1, 0x4, 1, 0x4, 0xffff, 0x0, 0x0, 0x0, 0x0, false⟩,
  ⟨"CIS_ERRSTs", 0x240, 16, 0x4, 1, 0x4, 0x0, 0x0, 0x0, 0x0, 0x0, true⟩,
  ⟨"CIS_ERRLAST", 0x280, 1, 0x4, 1, 0x4, 0x0, 0x0, 0x0, 0x0, 0x0, true⟩,
  ⟨"CIS_TOKEN", 0x300, 1, 0x4, 1, 0x4, 0x0, 0x0, 0x0, 0x0, 0x0, false⟩,
  ⟨"CIS_SWAP", 0x304, 1, 0x4, 1, 0x4, 0x0, 0x0, 0x0, 0xff00ff1f, 0x0, false⟩,
  ⟨"CIS_SWAPRES", 0x308, 1, 0x4, 1, 0x4, 0x0, 0x0, 0x0, 0x0, 0x0, false⟩,
  ⟨"CIS_TSERt", 0x320, 9, 0x4, 1, 0x4, 0x0, 0x0, 0x0, 0x0, 0x0, false⟩,
  ⟨"CIS_CHnEL", 0x600, 80, 0x8, 1, 0x4, 0x0, 0x0, 0x0, 0x0, 0x0, true⟩,
  ⟨"CIS_CHnEH", 0x604, 80, 0x8, 1, 0x4, 0x0, 0x0, 0x0, 0x0, 0x0, true⟩,
  ⟨"CIS_NOTE", 0x1000, 512, 0x4, 1, 0x4, 0xffffffff, 0x0, 0x0, 0x0, 0x0, true⟩,
  ⟨"CIS_RETENTION", 0x4000, 4096, 0x4, 1, 0x4, 0xffffffff, 0x0, 0x0, 0x0, 0x0, true⟩]

/-- The registers of block ISL (R35), in the order of its chapter's table. -/
def regsOfISL : List RegDef := [
  ⟨"ISL_ID", 0x10000, 1, 0x4, 1, 0x4, 0x0, 0x0, 0x0, 0x0, 0x1210, false⟩,
  ⟨"ISL_RUN", 0x10004, 1, 0x4, 1, 0x4, 0x0, 0x0, 0x0, 0x0, 0x1, false⟩,
  ⟨"ISL_RILLREP", 0x10080, 1, 0x4, 1, 0x4, 0x0, 0x0, 0x0, 0x0, 0x0, false⟩,
  ⟨"ISL_RILLFAIL", 0x10084, 1, 0x4, 1, 0x4, 0x0, 0x0, 0x0, 0x0, 0x0, false⟩,
  ⟨"ISL_PLSTAT", 0x100c0, 1, 0x4, 1, 0x4, 0x0, 0x30000, 0x0, 0x0, 0x0, false⟩,
  ⟨"ISL_PLREPLAY", 0x100c4, 1, 0x4, 1, 0x4, 0x0, 0x0, 0x0, 0x0, 0x0, false⟩,
  ⟨"ISL_PLRETRAIN", 0x100c8, 1, 0x4, 1, 0x4, 0x0, 0x0, 0x0, 0x0, 0x0, false⟩,
  ⟨"ISL_CLKn", 0x10100, 18, 0x4, 1, 0x4, 0x0, 0x0, 0x0, 0x0, 0x0, false⟩]

/-- The registers of block DUX (R35), in the order of its chapter's table. -/
def regsOfDUX : List RegDef := [
  ⟨"DUX_RETIRE", 0x20000, 1, 0x4, 1, 0x4, 0x0, 0x0, 0x0, 0x0, 0x0, true⟩,
  ⟨"DUX_CMD", 0x20004, 1, 0x4, 1, 0x4, 0x0, 0x0, 0x0, 0xff0000ff, 0x0, false⟩,
  ⟨"DUX_CMDRES", 0x20008, 1, 0x4, 1, 0x4, 0x0, 0x0, 0x0, 0x0, 0x0, false⟩,
  ⟨"DUX_dSTAT", 0x20100, 12, 0x40, 1, 0x4, 0x0, 0x0, 0x0, 0x0, 0x3c000, false⟩,
  ⟨"DUX_dLAG", 0x20104, 12, 0x40, 1, 0x4, 0x0, 0x0, 0x0, 0x0, 0x0, false⟩,
  ⟨"DUX_dSTALLS", 0x20108, 12, 0x40, 1, 0x4, 0x0, 0x0, 0x0, 0x0, 0x0, false⟩,
  ⟨"DUX_dMIS", 0x2010c, 12, 0x40, 1, 0x4, 0x0, 0x0, 0x0, 0x0, 0x0, false⟩,
  ⟨"DUX_dMISADDRL", 0x20110, 12, 0x40, 1, 0x4, 0x0, 0x0, 0x0, 0x0, 0x0, false⟩,
  ⟨"DUX_dMISADDRH", 0x20114, 12, 0x40, 1, 0x4, 0x0, 0x0, 0x0, 0x0, 0x0, false⟩,
  ⟨"DUX_dAGREE", 0x20118, 12, 0x40, 1, 0x4, 0x0, 0x0, 0x0, 0x0, 0x0, false⟩,
  ⟨"DUX_dCFG", 0x2011c, 12, 0x40, 1, 0x4, 0x0, 0x0, 0xff03, 0x0, 0x0, false⟩]

/-- The registers of block CKP (R35), in the order of its chapter's table. -/
def regsOfCKP : List RegDef := [
  ⟨"CKP_CMD", 0x30000, 1, 0x4, 1, 0x4, 0x0, 0x0, 0x0, 0xff0003ff, 0x0, false⟩,
  ⟨"CKP_CMDRES", 0x30004, 1, 0x4, 1, 0x4, 0x0, 0x0, 0x0, 0x0, 0x0, false⟩,
  ⟨"CKP_RATE", 0x30008, 1, 0x4, 1, 0x4, 0x0, 0x0, 0xffffffff, 0x0, 0x0, false⟩,
  ⟨"CKP_pSTAT", 0x30100, 32, 0x40, 1, 0x4, 0x0, 0x0, 0x0, 0x0, 0xf00, false⟩,
  ⟨"CKP_pEPOCH", 0x30104, 32, 0x40, 1, 0x4, 0x0, 0x0, 0x0, 0x0, 0x0, false⟩,
  ⟨"CKP_pSEALED", 0x30108, 32, 0x40, 1, 0x4, 0x0, 0x0, 0x0, 0x0, 0x0, false⟩,
  ⟨"CKP_pSEQ", 0x3010c, 32, 0x40, 1, 0x4, 0x0, 0x0, 0x0, 0x0, 0x0, false⟩,
  ⟨"CKP_pJRNL", 0x30110, 32, 0x40, 1, 0x4, 0x0, 0x0, 0x0, 0x0, 0x0, false⟩,
  ⟨"CKP_pSLAT", 0x30114, 32, 0x40, 1, 0x4, 0x0, 0x0, 0x0, 0x0, 0x0, false⟩,
  ⟨"CKP_pWAIT", 0x30118, 32, 0x40, 1, 0x4, 0x0, 0x0, 0x0, 0x0, 0x0, false⟩,
  ⟨"CKP_pFOVER", 0x3011c, 32, 0x40, 1, 0x4, 0x0, 0x0, 0x0, 0x0, 0x0, false⟩,
  ⟨"CKP_pCFG", 0x30120, 32, 0x40, 1, 0x4, 0x0, 0x0, 0xffffff, 0x0, 0x0, false⟩,
  ⟨"CKP_pLIM", 0x30124, 32, 0x40, 1, 0x4, 0x0, 0x0, 0xffff7fff, 0x0, 0x0, false⟩]

/-- The registers of block EVC (R35), in the order of its chapter's table. -/
def regsOfEVC : List RegDef := [
  ⟨"EVC_CLAIMM", 0x40000, 1, 0x4, 1, 0x4, 0x0, 0x0, 0x0, 0x0, 0x0, false⟩,
  ⟨"EVC_EOIM", 0x40004, 1, 0x4, 1, 0x4, 0x0, 0x0, 0x0, 0x3ff, 0x0, false⟩,
  ⟨"EVC_CLAIMS", 0x40008, 1, 0x4, 1, 0x4, 0x0, 0x0, 0x0, 0x0, 0x0, false⟩,
  ⟨"EVC_EOIS", 0x4000c, 1, 0x4, 1, 0x4, 0x0, 0x0, 0x0, 0x3ff, 0x0, false⟩,
  ⟨"EVC_CLAIMV", 0x40010, 1, 0x4, 1, 0x4, 0x0, 0x0, 0x0, 0x0, 0x0, false⟩,
  ⟨"EVC_EOIV", 0x40014, 1, 0x4, 1, 0x4, 0x0, 0x0, 0x0, 0x3ff, 0x0, false⟩,
  ⟨"EVC_THRM", 0x40018, 1, 0x4, 1, 0x4, 0x3f, 0x0, 0x0, 0x0, 0x0, false⟩,
  ⟨"EVC_THRS", 0x4001c, 1, 0x4, 1, 0x4, 0x3f, 0x0, 0x0, 0x0, 0x0, false⟩,
  ⟨"EVC_THRV", 0x40020, 1, 0x4, 1, 0x4, 0x3f, 0x0, 0x0, 0x0, 0x0, false⟩,
  ⟨"EVC_DEPTH", 0x40024, 1, 0x4, 1, 0x4, 0x0, 0x0, 0x0, 0x0, 0x0, false⟩,
  ⟨"EVC_GPEND", 0x40028, 1, 0x4, 1, 0x4, 0x0, 0x0, 0x0, 0x0, 0x0, false⟩,
  ⟨"EVC_SWSET", 0x40100, 1, 0x4, 1, 0x4, 0x0, 0x0, 0x0, 0xffff, 0x0, false⟩,
  ⟨"EVC_ERR", 0x40104, 1, 0x4, 1, 0x4, 0x0, 0xf, 0x0, 0x0, 0x0, false⟩,
  ⟨"EVC_DELIV", 0x40108, 1, 0x4, 1, 0x4, 0x0, 0x0, 0x0, 0x0, 0x0, false⟩,
  ⟨"EVC_HAND", 0x4010c, 1, 0x4, 1, 0x4, 0x0, 0x0, 0x0, 0x0, 0x0, false⟩,
  ⟨"EVC_CFG", 0x40110, 1, 0x4, 1, 0x4, 0x0, 0x0, 0x3f, 0x0, 0x0, false⟩,
  ⟨"EVC_TtCMPL", 0x40200, 48, 0x8, 1, 0x4, 0xffffffff, 0x0, 0x0, 0x0, 0xffffffff, false⟩,
  ⟨"EVC_TtCMPH", 0x40204, 48, 0x8, 1, 0x4, 0xffffffff, 0x0, 0x0, 0x0, 0xffffffff, false⟩,
  ⟨"EVC_PENDi", 0x40400, 32, 0x4, 1, 0x4, 0x0, 0x0, 0x0, 0x0, 0x0, false⟩,
  ⟨"EVC_SWMASKi", 0x40800, 16, 0x4, 1, 0x4, 0x0, 0x0, 0xffffffff, 0x0, 0x0, false⟩,
  ⟨"EVC_sROUTE", 0x41000, 1024, 0x8, 1, 0x4, 0x0, 0x0, 0x7fff, 0x0, 0x0, false⟩,
  ⟨"EVC_sMOD", 0x41004, 1024, 0x8, 1, 0x4, 0x0, 0x0, 0xffff00ff, 0x0, 0x0, false⟩]

/-- The registers of block WLD (R35), in the order of its chapter's table. -/
def regsOfWLD : List RegDef := [
  ⟨"WLD_STAT", 0x50000, 1, 0x4, 1, 0x4, 0x0, 0x0, 0x0, 0x0, 0x0, false⟩,
  ⟨"WLD_CMD", 0x50004, 1, 0x4, 1, 0x4, 0x0, 0x0, 0x0, 0xff0001ff, 0x0, false⟩,
  ⟨"WLD_CMDRES", 0x50008, 1, 0x4, 1, 0x4, 0x0, 0x0, 0x0, 0x0, 0x0, false⟩,
  ⟨"WLD_SCALLS", 0x50010, 1, 0x4, 1, 0x4, 0x0, 0x0, 0x0, 0x0, 0x0, false⟩,
  ⟨"WLD_SABORT", 0x50014, 1, 0x4, 1, 0x4, 0x0, 0x0, 0x0, 0x0, 0x0, false⟩,
  ⟨"WLD_SDENY", 0x50018, 1, 0x4, 1, 0x4, 0x0, 0x0, 0x0, 0x0, 0x0, false⟩,
  ⟨"WLD_VMIDREF", 0x5001c, 1, 0x4, 1, 0x4, 0x0, 0x0, 0x0, 0x0, 0x0, false⟩,
  ⟨"WLD_SCFG", 0x50020, 1, 0x4, 1, 0x4, 0x0, 0x0, 0x3f, 0x0, 0x0, false⟩,
  ⟨"WLD_dSEAL", 0x50040, 12, 0x4, 1, 0x4, 0x0, 0x0, 0x0, 0x0, 0x0, false⟩,
  ⟨"WLD_pCFG", 0x50100, 32, 0x10, 1, 0x4, 0x0, 0x0, 0xffff0003, 0x0, 0x0, false⟩,
  ⟨"WLD_pSTAT", 0x50104, 32, 0x10, 1, 0x4, 0x0, 0x0, 0x0, 0x0, 0x0, false⟩,
  ⟨"WLD_pSAVEL", 0x50108, 32, 0x10, 1, 0x4, 0x0, 0x0, 0xffffffff, 0x0, 0x0, false⟩,
  ⟨"WLD_pSAVEH", 0x5010c, 32, 0x10, 1, 0x4, 0x0, 0x0, 0xffff, 0x0, 0x0, false⟩,
  ⟨"WLD_GATEiL", 0x51000, 256, 0x10, 1, 0x4, 0x0, 0x0, 0xffffffff, 0x0, 0x0, false⟩,
  ⟨"WLD_GATEiH", 0x51004, 256, 0x10, 1, 0x4, 0x0, 0x0, 0x800fffff, 0x0, 0x0, false⟩,
  ⟨"WLD_GATEiP", 0x51008, 256, 0x10, 1, 0x4, 0x0, 0x0, 0xffffffff, 0x0, 0x0, false⟩,
  ⟨"WLD_CHOWNn", 0x52000, 80, 0x4, 1, 0x4, 0x0, 0x0, 0x8000003f, 0x0, 0x0, false⟩,
  ⟨"WLD_PINj", 0x52200, 16, 0x4, 1, 0x4, 0x300, 0x0, 0x7f, 0x0, 0x0, false⟩,
  ⟨"WLD_SATOWNs", 0x52300, 16, 0x4, 1, 0x4, 0x0, 0x0, 0x8000003f, 0x0, 0x0, false⟩]

/-- The registers of block RGD (R35), in the order of its chapter's table. -/
def regsOfRGD : List RegDef := [
  ⟨"RGD_CMD", 0x60000, 1, 0x4, 1, 0x4, 0x0, 0x0, 0x0, 0xff003ff7, 0x0, false⟩,
  ⟨"RGD_CMDRES", 0x60004, 1, 0x4, 1, 0x4, 0x0, 0x0, 0x0, 0x0, 0x0, false⟩,
  ⟨"RGD_BUFi", 0x60010, 4, 0x4, 1, 0x4, 0xffffffff, 0x0, 0x0, 0x0, 0x0, false⟩,
  ⟨"RGD_gDENY", 0x60100, 13, 0x10, 1, 0x4, 0x0, 0x0, 0x0, 0x0, 0x0, false⟩,
  ⟨"RGD_gLASTL", 0x60104, 13, 0x10, 1, 0x4, 0x0, 0x0, 0x0, 0x0, 0x0, false⟩,
  ⟨"RGD_gLASTH", 0x60108, 13, 0x10, 1, 0x4, 0x0, 0x0, 0x0, 0x0, 0x0, false⟩,
  ⟨"RGD_gLAST", 0x6010c, 13, 0x10, 1, 0x4, 0x0, 0x8000, 0x0, 0x0, 0x0, false⟩,
  ⟨"RGD_g_rBASE", 0x61000, 13, 0x400, 64, 0x10, 0x0, 0x0, 0x0, 0x0, 0x0, false⟩,
  ⟨"RGD_g_rLIMIT", 0x61004, 13, 0x400, 64, 0x10, 0x0, 0x0, 0x0, 0x0, 0x0, false⟩,
  ⟨"RGD_g_rPART", 0x61008, 13, 0x400, 64, 0x10, 0x0, 0x0, 0x0, 0x0, 0x0, false⟩,
  ⟨"RGD_g_rCTL", 0x6100c, 13, 0x400, 64, 0x10, 0x0, 0x0, 0x0, 0x0, 0x0, false⟩]

/-- The registers of block NBC (R35), in the order of its chapter's table. -/
def regsOfNBC : List RegDef := [
  ⟨"NBC_nSTAT", 0x80000, 8, 0x2000, 1, 0x4, 0x0, 0x0, 0x0, 0x0, 0x80, false⟩,
  ⟨"NBC_nCMD", 0x80004, 8, 0x2000, 1, 0x4, 0x0, 0x0, 0x0, 0xffff01ff, 0x0, false⟩,
  ⟨"NBC_nCMDRES", 0x80008, 8, 0x2000, 1, 0x4, 0x0, 0x0, 0x0, 0x0, 0x0, false⟩,
  ⟨"NBC_nRETIRE", 0x8000c, 8, 0x2000, 1, 0x4, 0x0, 0x0, 0x0, 0x0, 0x0, true⟩,
  ⟨"NBC_nSPMAP", 0x80010, 8, 0x2000, 1, 0x4, 0x0, 0x0, 0x0, 0x0, 0x0, true⟩,
  ⟨"NBC_nHALT", 0x80014, 8, 0x2000, 1, 0x4, 0x0, 0x0, 0x0, 0x0, 0x0, false⟩,
  ⟨"NBC_nEXC", 0x80018, 8, 0x2000, 1, 0x4, 0x0, 0x0, 0x0, 0x0, 0x0, false⟩,
  ⟨"NBC_nEPC", 0x8001c, 8, 0x2000, 1, 0x4, 0x0, 0x0, 0x0, 0x0, 0x0, false⟩,
  ⟨"NBC_nFEED", 0x80020, 8, 0x2000, 1, 0x4, 0x0, 0x0, 0x0, 0x0, 0x0, false⟩,
  ⟨"NBC_nLAG", 0x80024, 8, 0x2000, 1, 0x4, 0x0, 0x0, 0x0, 0x0, 0x0, false⟩,
  ⟨"NBC_nDROP", 0x80028, 8, 0x2000, 1, 0x4, 0x0, 0x0, 0x0, 0x0, 0x0, false⟩,
  ⟨"NBC_nLATE", 0x8002c, 8, 0x2000, 1, 0x4, 0x0, 0x0, 0x0, 0x0, 0x0, false⟩,
  ⟨"NBC_nUNM", 0x80030, 8, 0x2000, 1, 0x4, 0x0, 0x0, 0x0, 0x0, 0x0, false⟩,
  ⟨"NBC_nCFG", 0x80040, 8, 0x2000, 1, 0x4, 0x0, 0x0, 0x3ffff, 0x0, 0x0, false⟩,
  ⟨"NBC_nSTALL", 0x80044, 8, 0x2000, 1, 0x4, 0x0, 0x0, 0x1fff, 0x0, 0x1f4, false⟩,
  ⟨"NBC_nNkST", 0x80100, 8, 0x2000, 30, 0x4, 0x0, 0x0, 0x0, 0x0, 0x0, false⟩]

/-- The registers of block SGW (R35), in the order of its chapter's table. -/
def regsOfSGW : List RegDef := [
  ⟨"SGW_STAT", 0x90000, 1, 0x4, 1, 0x4, 0x0, 0x0, 0x0, 0x0, 0x0, false⟩,
  ⟨"SGW_ECMD", 0x90004, 1, 0x4, 1, 0x4, 0x0, 0x0, 0x0, 0x3ffff3f, 0x0, false⟩,
  ⟨"SGW_ERES", 0x90008, 1, 0x4, 1, 0x4, 0x0, 0x0, 0x0, 0x0, 0x0, false⟩,
  ⟨"SGW_INVAL", 0x9000c, 1, 0x4, 1, 0x4, 0x0, 0x0, 0x0, 0xc003ffff, 0x0, false⟩,
  ⟨"SGW_INVRES", 0x90010, 1, 0x4, 1, 0x4, 0x0, 0x0, 0x0, 0x0, 0x0, false⟩,
  ⟨"SGW_EBUFi", 0x90020, 8, 0x4, 1, 0x4, 0xffffffff, 0x0, 0x0, 0x0, 0x0, false⟩,
  ⟨"SGW_MIRCNT", 0x90040, 1, 0x4, 1, 0x4, 0x0, 0x0, 0x0, 0x0, 0x0, false⟩,
  ⟨"SGW_MIRLAST", 0x90044, 1, 0x4, 1, 0x4, 0x0, 0x0, 0x0, 0x0, 0x0, false⟩,
  ⟨"SGW_EVICT", 0x90048, 1, 0x4, 1, 0x4, 0x0, 0x0, 0x0, 0x0, 0x0, false⟩,
  ⟨"SGW_ECC", 0x9004c, 1, 0x4, 1, 0x4, 0x0, 0x0, 0x0, 0x0, 0x0, false⟩,
  ⟨"SGW_BADITEM", 0x90050, 1, 0x4, 1, 0x4, 0x0, 0x0, 0x0, 0x0, 0x0, false⟩,
  ⟨"SGW_TIDX", 0x90060, 1, 0x4, 1, 0x4, 0x3ffff, 0x0, 0x0, 0x0, 0x0, false⟩,
  ⟨"SGW_TAG", 0x90064, 1, 0x4, 1, 0x4, 0x0, 0x0, 0x0, 0x0, 0x0, false⟩,
  ⟨"SGW_TVALL", 0x90068, 1, 0x4, 1, 0x4, 0x0, 0x0, 0x0, 0x0, 0x0, false⟩,
  ⟨"SGW_TVALH", 0x9006c, 1, 0x4, 1, 0x4, 0x0, 0x0, 0x0, 0x0, 0x0, false⟩,
  ⟨"SGW_AkDAL", 0x90400, 24, 0x20, 1, 0x4, 0x0, 0x0, 0xffffffff, 0x0, 0x0, false⟩,
  ⟨"SGW_AkDAH", 0x90404, 24, 0x20, 1, 0x4, 0x0, 0x0, 0x7fffffff, 0x0, 0x0, false⟩,
  ⟨"SGW_AkSIDL", 0x90408, 24, 0x20, 1, 0x4, 0x0, 0x0, 0xffffffff, 0x0, 0x0, false⟩,
  ⟨"SGW_AkSIDH", 0x9040c, 24, 0x20, 1, 0x4, 0x0, 0x0, 0xffffffff, 0x0, 0x0, false⟩,
  ⟨"SGW_AkCFG", 0x90410, 24, 0x20, 1, 0x4, 0x0, 0x0, 0x7, 0x0, 0x0, false⟩,
  ⟨"SGW_PpOBASEL", 0x91000, 32, 0x40, 1, 0x4, 0x0, 0x0, 0xffffffff, 0x0, 0x0, false⟩,
  ⟨"SGW_PpOBASEH", 0x91004, 32, 0x40, 1, 0x4, 0x0, 0x0, 0xffff, 0x0, 0x0, false⟩,
  ⟨"SGW_PpIBASEL", 0x91008, 32, 0x40, 1, 0x4, 0x0, 0x0, 0xffffffff, 0x0, 0x0, false⟩,
  ⟨"SGW_PpIBASEH", 0x9100c, 32, 0x40, 1, 0x4, 0x0, 0x0, 0xffff, 0x0, 0x0, false⟩,
  ⟨"SGW_PpGEOM", 0x91010, 32, 0x40, 1, 0x4, 0x0, 0x0, 0x1ffff, 0x0, 0x0, false⟩,
  ⟨"SGW_PpOTAIL", 0x91014, 32, 0x40, 1, 0x4, 0xffffffff, 0x0, 0x0, 0x0, 0x0, false⟩,
  ⟨"SGW_PpOHEAD", 0x91018, 32, 0x40, 1, 0x4, 0x0, 0x0, 0x0, 0x0, 0x0, false⟩,
  ⟨"SGW_PpITAIL", 0x9101c, 32, 0x40, 1, 0x4, 0x0, 0x0, 0x0, 0x0, 0x0, false⟩,
  ⟨"SGW_PpIHEAD", 0x91020, 32, 0x40, 1, 0x4, 0xffffffff, 0x0, 0x0, 0x0, 0x0, false⟩,
  ⟨"SGW_PpSEQ", 0x91024, 32, 0x40, 1, 0x4, 0x0, 0x0, 0x0, 0x0, 0x0, false⟩,
  ⟨"SGW_PpSTAT", 0x91028, 32, 0x40, 1, 0x4, 0x0, 0x30000, 0x0, 0x0, 0x0, false⟩]

/-- The registers of block FBB (R35), in the order of its chapter's table. -/
def regsOfFBB : List RegDef := [
  ⟨"FBB_CcSTAT", 0xa0000, 16, 0x800, 1, 0x4, 0x0, 0x0, 0x0, 0x0, 0x0, false⟩,
  ⟨"FBB_LlSTAT", 0xa8000, 12, 0x800, 1, 0x4, 0x0, 0x0, 0x0, 0x0, 0x0, false⟩,
  ⟨"FBB_CcCMD", 0xa0004, 16, 0x800, 1, 0x4, 0x0, 0x0, 0x0, 0xff01ffff, 0x0, false⟩,
  ⟨"FBB_LlCMD", 0xa8004, 12, 0x800, 1, 0x4, 0x0, 0x0, 0x0, 0xff01ffff, 0x0, false⟩,
  ⟨"FBB_CcEVT", 0xa0008, 16, 0x800, 1, 0x4, 0x0, 0x1f, 0x0, 0x0, 0x0, false⟩,
  ⟨"FBB_LlEVT", 0xa8008, 12, 0x800, 1, 0x4, 0x0, 0x1f, 0x0, 0x0, 0x0, false⟩,
  ⟨"FBB_CcRX", 0xa0010, 16, 0x800, 1, 0x4, 0x0, 0x0, 0x0, 0x0, 0x0, false⟩,
  ⟨"FBB_LlRX", 0xa8010, 12, 0x800, 1, 0x4, 0x0, 0x0, 0x0, 0x0, 0x0, false⟩,
  ⟨"FBB_CcTX", 0xa0014, 16, 0x800, 1, 0x4, 0x0, 0x0, 0x0, 0x0, 0x0, false⟩,
  ⟨"FBB_LlTX", 0xa8014, 12, 0x800, 1, 0x4, 0x0, 0x0, 0x0, 0x0, 0x0, false⟩,
  ⟨"FBB_CcERR", 0xa0018, 16, 0x800, 1, 0x4, 0x0, 0x0, 0x0, 0x0, 0x0, false⟩,
  ⟨"FBB_LlERR", 0xa8018, 12, 0x800, 1, 0x4, 0x0, 0x0, 0x0, 0x0, 0x0, false⟩,
  ⟨"FBB_CcREJ", 0xa001c, 16, 0x800, 1, 0x4, 0x0, 0x0, 0x0, 0x0, 0x0, false⟩,
  ⟨"FBB_LlREJ", 0xa801c, 12, 0x800, 1, 0x4, 0x0, 0x0, 0x0, 0x0, 0x0, false⟩,
  ⟨"FBB_CcDROP", 0xa0020, 16, 0x800, 1, 0x4, 0x0, 0x0, 0x0, 0x0, 0x0, false⟩,
  ⟨"FBB_LlDROP", 0xa8020, 12, 0x800, 1, 0x4, 0x0, 0x0, 0x0, 0x0, 0x0, false⟩,
  ⟨"FBB_CcMIS", 0xa0024, 16, 0x800, 1, 0x4, 0x0, 0x0, 0x0, 0x0, 0x0, false⟩,
  ⟨"FBB_LlMIS", 0xa8024, 12, 0x800, 1, 0x4, 0x0, 0x0, 0x0, 0x0, 0x0, false⟩,
  ⟨"FBB_CcNBT", 0xa0040, 16, 0x800, 1, 0x4, 0x0, 0x0, 0x7ffffff, 0x0, 0x0, false⟩,
  ⟨"FBB_CcDBT", 0xa0044, 16, 0x800, 1, 0x4, 0x0, 0x0, 0x8fffffff, 0x0, 0x0, false⟩,
  ⟨"FBB_CcXBT", 0xa0048, 16, 0x800, 1, 0x4, 0x0, 0x0, 0x8fffffff, 0x0, 0x0, false⟩,
  ⟨"FBB_CcCFG", 0xa004c, 16, 0x800, 1, 0x4, 0x0, 0x0, 0xffffff, 0x0, 0x0, false⟩,
  ⟨"FBB_LlCFG", 0xa804c, 12, 0x800, 1, 0x4, 0x0, 0x0, 0xffffffff, 0x0, 0x0, false⟩,
  ⟨"FBB_CcXDEF", 0xa0050, 16, 0x800, 1, 0x4, 0x0, 0x0, 0xffff, 0x0, 0x0, false⟩,
  ⟨"FBB_CcXAF", 0xa0054, 16, 0x800, 1, 0x4, 0x0, 0x0, 0xffffffff, 0x0, 0x0, false⟩,
  ⟨"FBB_CcFAf", 0xa0100, 16, 0x800, 64, 0x8, 0x0, 0x0, 0xffffffff, 0x0, 0x0, false⟩,
  ⟨"FBB_CcFBf", 0xa0104, 16, 0x800, 64, 0x8, 0x0, 0x0, 0xdfffffff, 0x0, 0x0, false⟩,
  ⟨"FBB_LlFRMi", 0xa8100, 12, 0x800, 64, 0x4, 0x0, 0x0, 0x7f, 0x0, 0x0, false⟩,
  ⟨"FBB_LlSCHs", 0xa8200, 12, 0x800, 64, 0x4, 0x0, 0x0, 0xff3f, 0x0, 0x0, false⟩,
  ⟨"FBB_SNSCFGn", 0xb0000, 96, 0x8, 1, 0x4, 0x0, 0x0, 0x1ffff, 0x0, 0x0, false⟩,
  ⟨"FBB_SNSTHRn", 0xb0004, 96, 0x8, 1, 0x4, 0x0, 0x0, 0xffffffff, 0x0, 0x0, false⟩,
  ⟨"FBB_SNSVn", 0xb0400, 96, 0x4, 1, 0x4, 0x0, 0x0, 0x0, 0x0, 0x0, false⟩,
  ⟨"FBB_SNSSTi", 0xb0600, 3, 0x4, 1, 0x4, 0x0, 0x0, 0x0, 0x0, 0x0, false⟩,
  ⟨"FBB_SNSCHGi", 0xb0610, 3, 0x4, 1, 0x4, 0x0, 0xffffffff, 0x0, 0x0, 0x0, false⟩,
  ⟨"FBB_SATbCFG", 0xb8000, 4, 0x40, 1, 0x4, 0x0, 0x0, 0x37f, 0x0, 0x0, false⟩,
  ⟨"FBB_SATbPRc", 0xb8004, 4, 0x40, 4, 0x4, 0x0, 0x0, 0x7ffffff, 0x0, 0x0, false⟩,
  ⟨"FBB_SATbSTAT", 0xb8014, 4, 0x40, 1, 0x4, 0x0, 0x0, 0x0, 0x0, 0x0, false⟩,
  ⟨"FBB_SATbERR", 0xb8018, 4, 0x40, 1, 0x4, 0x0, 0x0, 0x0, 0x0, 0x0, false⟩]

/-- The registers of block MAC (R35), in the order of its chapter's table. -/
def regsOfMAC : List RegDef := [
  ⟨"MAC_STAT", 0xc0000, 24, 0x1000, 1, 0x4, 0x0, 0x0, 0x0, 0x0, 0x0, false⟩,
  ⟨"MAC_EVT", 0xc0004, 24, 0x1000, 1, 0x4, 0x0, 0x3f, 0x0, 0x0, 0x0, false⟩,
  ⟨"MAC_CMD", 0xc0008, 24, 0x1000, 1, 0x4, 0x0, 0x0, 0x0, 0xff00000f, 0x0, false⟩,
  ⟨"MAC_CMDRES", 0xc000c, 24, 0x1000, 1, 0x4, 0x0, 0x0, 0x0, 0x0, 0x0, false⟩,
  ⟨"MAC_ADDRL", 0xc0010, 24, 0x1000, 1, 0x4, 0x0, 0x0, 0xffffffff, 0x0, 0x0, false⟩,
  ⟨"MAC_ADDRH", 0xc0014, 24, 0x1000, 1, 0x4, 0x0, 0x0, 0xffff, 0x0, 0x0, false⟩,
  ⟨"MAC_CFG", 0xc0018, 24, 0x1000, 1, 0x4, 0x0, 0x0, 0x1f1fff, 0x0, 0x0, false⟩,
  ⟨"MAC_FC", 0xc001c, 24, 0x1000, 1, 0x4, 0x0, 0x0, 0xffffff, 0x0, 0x0, false⟩,
  ⟨"MAC_PREEMPT", 0xc0020, 24, 0x1000, 1, 0x4, 0x0, 0x0, 0x3ff, 0x0, 0x0, false⟩,
  ⟨"MAC_EEE", 0xc0024, 24, 0x1000, 1, 0x4, 0x0, 0x0, 0xffffffff, 0x0, 0x0, false⟩,
  ⟨"MAC_EEEWAKE", 0xc0028, 24, 0x1000, 1, 0x4, 0xffff, 0x0, 0x0, 0x0, 0x0, false⟩,
  ⟨"MAC_PLCA", 0xc002c, 24, 0x1000, 1, 0x4, 0x0, 0x0, 0xffffffff, 0x0, 0x0, false⟩,
  ⟨"MAC_PLCAB", 0xc0030, 24, 0x1000, 1, 0x4, 0x0, 0x0, 0xff, 0x0, 0x0, false⟩,
  ⟨"MAC_PAUSEST", 0xc0034, 24, 0x1000, 1, 0x4, 0x0, 0x0, 0x0, 0x0, 0x0, false⟩,
  ⟨"MAC_PAUSEREM", 0xc0038, 24, 0x1000, 1, 0x4, 0x0, 0x0, 0x0, 0x0, 0x0, false⟩,
  ⟨"MAC_DLY", 0xc003c, 24, 0x1000, 1, 0x4, 0x0, 0x0, 0x0, 0x0, 0x0, false⟩,
  ⟨"MAC_HALF0", 0xc0060, 24, 0x1000, 1, 0x4, 0x0, 0xffffffff, 0x0, 0x0, 0x0, false⟩,
  ⟨"MAC_HALF1", 0xc0064, 24, 0x1000, 1, 0x4, 0x0, 0x3ff, 0x0, 0x0, 0x0, false⟩,
  ⟨"MAC_CNT", 0xc0400, 24, 0x1000, 42, 0x4, 0x0, 0x0, 0x0, 0x0, 0x0, false⟩,
  ⟨"MAC_RXOCTL", 0xc0500, 24, 0x1000, 1, 0x4, 0x0, 0x0, 0x0, 0x0, 0x0, false⟩,
  ⟨"MAC_RXOCTH", 0xc0504, 24, 0x1000, 1, 0x4, 0x0, 0x0, 0x0, 0x0, 0x0, false⟩,
  ⟨"MAC_TXOCTL", 0xc0508, 24, 0x1000, 1, 0x4, 0x0, 0x0, 0x0, 0x0, 0x0, false⟩,
  ⟨"MAC_TXOCTH", 0xc050c, 24, 0x1000, 1, 0x4, 0x0, 0x0, 0x0, 0x0, 0x0, false⟩,
  ⟨"MAC_RXBADOCTL", 0xc0510, 24, 0x1000, 1, 0x4, 0x0, 0x0, 0x0, 0x0, 0x0, false⟩,
  ⟨"MAC_RXBADOCTH", 0xc0514, 24, 0x1000, 1, 0x4, 0x0, 0x0, 0x0, 0x0, 0x0, false⟩]

/-- The registers of block SWC (R35), in the order of its chapter's table. -/
def regsOfSWC : List RegDef := [
  ⟨"SWC_STAT", 0xe0000, 1, 0x4, 1, 0x4, 0x0, 0x0, 0x0, 0x0, 0x0, false⟩,
  ⟨"SWC_LANESKIP", 0xe0004, 1, 0x4, 1, 0x4, 0x0, 0xffff0000, 0x0, 0x0, 0x0, false⟩,
  ⟨"SWC_CMD", 0xe0008, 1, 0x4, 1, 0x4, 0x0, 0x0, 0x0, 0xff001fff, 0x0, false⟩,
  ⟨"SWC_CMDRES", 0xe000c, 1, 0x4, 1, 0x4, 0x0, 0x0, 0x0, 0x0, 0x0, false⟩,
  ⟨"SWC_FEED", 0xe0010, 1, 0x4, 1, 0x4, 0x0, 0x0, 0x0, 0x0, 0x0, false⟩,
  ⟨"SWC_SHMIS", 0xe0014, 1, 0x4, 1, 0x4, 0x0, 0x0, 0x0, 0x0, 0x0, false⟩,
  ⟨"SWC_REASMTO", 0xe0018, 1, 0x4, 1, 0x4, 0x0, 0x0, 0x0, 0x0, 0x0, false⟩,
  ⟨"SWC_CFG", 0xe001c, 1, 0x4, 1, 0x4, 0x0, 0x0, 0xfffff, 0x0, 0x0, false⟩,
  ⟨"SWC_FCMD", 0xe0020, 1, 0x4, 1, 0x4, 0x0, 0x0, 0x0, 0x3ffff, 0x0, false⟩,
  ⟨"SWC_FRES", 0xe0024, 1, 0x4, 1, 0x4, 0x0, 0x0, 0x0, 0x0, 0x0, false⟩,
  ⟨"SWC_FBUF0", 0xe0028, 1, 0x4, 1, 0x4, 0xffffffff, 0x0, 0x0, 0x0, 0x0, false⟩,
  ⟨"SWC_FBUF1", 0xe002c, 1, 0x4, 1, 0x4, 0x7fffffff, 0x0, 0x0, 0x0, 0x0, false⟩,
  ⟨"SWC_FBUF2", 0xe0030, 1, 0x4, 1, 0x4, 0x7ffffff, 0x0, 0x0, 0x0, 0x0, false⟩,
  ⟨"SWC_FBUF3", 0xe0034, 1, 0x4, 1, 0x4, 0xffffffff, 0x0, 0x0, 0x0, 0x0, false⟩,
  ⟨"SWC_VCMD", 0xe0040, 1, 0x4, 1, 0x4, 0x0, 0x0, 0x0, 0xfff7, 0x0, false⟩,
  ⟨"SWC_VRES", 0xe0044, 1, 0x4, 1, 0x4, 0x0, 0x0, 0x0, 0x0, 0x0, false⟩,
  ⟨"SWC_VBUF0", 0xe0048, 1, 0x4, 1, 0x4, 0x7ffffff, 0x0, 0x0, 0x0, 0x0, false⟩,
  ⟨"SWC_VBUF1", 0xe004c, 1, 0x4, 1, 0x4, 0x7ffffff, 0x0, 0x0, 0x0, 0x0, false⟩,
  ⟨"SWC_FDBCNT", 0xe0050, 1, 0x4, 1, 0x4, 0x0, 0x0, 0x0, 0x0, 0x0, false⟩,
  ⟨"SWC_LEARNDROP", 0xe0054, 1, 0x4, 1, 0x4, 0x0, 0x0, 0x0, 0x0, 0x0, false⟩,
  ⟨"SWC_PpCFG", 0xe1000, 27, 0x80, 1, 0x4, 0x0, 0x0, 0x7ffff, 0x0, 0x0, false⟩,
  ⟨"SWC_PpPCPMAP", 0xe1004, 27, 0x80, 1, 0x4, 0x0, 0x0, 0xffffff, 0x0, 0x0, false⟩,
  ⟨"SWC_PpQUOTA", 0xe1008, 27, 0x80, 1, 0x4, 0x0, 0x0, 0xffffffff, 0x0, 0x0, false⟩,
  ⟨"SWC_PpHEAD", 0xe100c, 27, 0x80, 1, 0x4, 0x0, 0x0, 0xffffff, 0x0, 0x0, false⟩,
  ⟨"SWC_PpOCC", 0xe1010, 27, 0x80, 1, 0x4, 0x0, 0x0, 0x0, 0x0, 0x0, false⟩,
  ⟨"SWC_PpPVD", 0xe1014, 27, 0x80, 1, 0x4, 0x0, 0x0, 0x0, 0x0, 0x0, false⟩,
  ⟨"SWC_PpQD", 0xe1018, 27, 0x80, 1, 0x4, 0x0, 0x0, 0x0, 0x0, 0x0, false⟩,
  ⟨"SWC_PpFILT", 0xe101c, 27, 0x80, 1, 0x4, 0x0, 0x0, 0x0, 0x0, 0x0, false⟩,
  ⟨"SWC_PpLD", 0xe1020, 27, 0x80, 1, 0x4, 0x0, 0x0, 0x0, 0x0, 0x0, false⟩,
  ⟨"SWC_PpGD", 0xe1024, 27, 0x80, 1, 0x4, 0x0, 0x0, 0x0, 0x0, 0x0, false⟩,
  ⟨"SWC_PpLOST", 0xe1028, 27, 0x80, 1, 0x4, 0x0, 0x0, 0x0, 0x0, 0x0, false⟩,
  ⟨"SWC_PpGATE", 0xe102c, 27, 0x80, 1, 0x4, 0x0, 0x0, 0x0, 0x0, 0x0, false⟩,
  ⟨"SWC_PpCBSc", 0xe1040, 27, 0x80, 8, 0x4, 0x0, 0x0, 0xffffffff, 0x0, 0x0, false⟩,
  ⟨"SWC_HpqTXB", 0xe4000, 32, 0x200, 8, 0x20, 0x0, 0x0, 0xffffffff, 0x0, 0x0, false⟩,
  ⟨"SWC_HpqRXB", 0xe4004, 32, 0x200, 8, 0x20, 0x0, 0x0, 0xffffffff, 0x0, 0x0, false⟩,
  ⟨"SWC_HpqGEOM", 0xe4008, 32, 0x200, 8, 0x20, 0x0, 0x0, 0x1fff, 0x0, 0x0, false⟩,
  ⟨"SWC_HpqTXTAIL", 0xe400c, 32, 0x200, 8, 0x20, 0xffffffff, 0x0, 0x0, 0x0, 0x0, false⟩,
  ⟨"SWC_HpqTXHEAD", 0xe4010, 32, 0x200, 8, 0x20, 0x0, 0x0, 0x0, 0x0, 0x0, false⟩,
  ⟨"SWC_HpqRXTAIL", 0xe4014, 32, 0x200, 8, 0x20, 0x0, 0x0, 0x0, 0x0, 0x0, false⟩,
  ⟨"SWC_HpqRXHEAD", 0xe4018, 32, 0x200, 8, 0x20, 0xffffffff, 0x0, 0x0, 0x0, 0x0, false⟩,
  ⟨"SWC_HpqSTAT", 0xe401c, 32, 0x200, 8, 0x20, 0x0, 0x30000, 0x0, 0x0, 0x0, false⟩,
  ⟨"SWC_HpSEQ", 0xe4100, 32, 0x200, 1, 0x4, 0x0, 0x0, 0x0, 0x0, 0x0, false⟩,
  ⟨"SWC_HpDUP", 0xe4104, 32, 0x200, 1, 0x4, 0x0, 0x0, 0x0, 0x0, 0x0, false⟩,
  ⟨"SWC_HpFLAGS", 0xe4108, 32, 0x200, 1, 0x4, 0x0, 0x0, 0x1, 0x0, 0x0, false⟩]

/-- The registers of block TIM (R35), in the order of its chapter's table. -/
def regsOfTIM : List RegDef := [
  ⟨"TIM_STAT", 0xf0000, 1, 0x4, 1, 0x4, 0x0, 0x0, 0x0, 0x0, 0x1f00, false⟩,
  ⟨"TIM_EVT", 0xf0004, 1, 0x4, 1, 0x4, 0x0, 0x3f, 0x0, 0x0, 0x0, false⟩,
  ⟨"TIM_CMD", 0xf0008, 1, 0x4, 1, 0x4, 0x0, 0x0, 0x0, 0xff00000f, 0x0, false⟩,
  ⟨"TIM_NOWL", 0xf0010, 1, 0x4, 1, 0x4, 0x0, 0x0, 0x0, 0x0, 0x0, false⟩,
  ⟨"TIM_NOWH", 0xf0014, 1, 0x4, 1, 0x4, 0x0, 0x0, 0x0, 0x0, 0x0, false⟩,
  ⟨"TIM_NOWF", 0xf0018, 1, 0x4, 1, 0x4, 0x0, 0x0, 0x0, 0x0, 0x0, false⟩,
  ⟨"TIM_SNAPL", 0xf0020, 1, 0x4, 1, 0x4, 0x0, 0x0, 0x0, 0x0, 0x0, false⟩,
  ⟨"TIM_SNAPH", 0xf0024, 1, 0x4, 1, 0x4, 0x0, 0x0, 0x0, 0x0, 0x0, false⟩,
  ⟨"TIM_SNAPF", 0xf0028, 1, 0x4, 1, 0x4, 0x0, 0x0, 0x0, 0x0, 0x0, false⟩,
  ⟨"TIM_OFFSET", 0xf0030, 1, 0x4, 1, 0x4, 0x0, 0x0, 0x0, 0x0, 0x0, false⟩,
  ⟨"TIM_FREQ", 0xf0034, 1, 0x4, 1, 0x4, 0x0, 0x0, 0x0, 0x0, 0x0, false⟩,
  ⟨"TIM_DIEOFS", 0xf0038, 1, 0x4, 1, 0x4, 0x0, 0x0, 0x0, 0x0, 0x0, false⟩,
  ⟨"TIM_GMIDL", 0xf0040, 1, 0x4, 1, 0x4, 0x0, 0x0, 0x0, 0x0, 0x0, false⟩,
  ⟨"TIM_GMIDH", 0xf0044, 1, 0x4, 1, 0x4, 0x0, 0x0, 0x0, 0x0, 0x0, false⟩,
  ⟨"TIM_STEPS", 0xf0048, 1, 0x4, 1, 0x4, 0x0, 0x0, 0x0, 0x0, 0x0, false⟩,
  ⟨"TIM_TICKSKIP", 0xf004c, 1, 0x4, 1, 0x4, 0x0, 0x0, 0x0, 0x0, 0x0, false⟩,
  ⟨"TIM_DISC", 0xf0050, 1, 0x4, 1, 0x4, 0x0, 0x0, 0x0, 0x0, 0x0, false⟩,
  ⟨"TIM_CFG", 0xf0060, 1, 0x4, 1, 0x4, 0x0, 0x0, 0xffffffff, 0x0, 0x0, false⟩,
  ⟨"TIM_SERVO", 0xf0064, 1, 0x4, 1, 0x4, 0x0, 0x0, 0xffffffff, 0x0, 0xb3334ccd, false⟩,
  ⟨"TIM_STEPTHR", 0xf0068, 1, 0x4, 1, 0x4, 0x0, 0x0, 0xfffff, 0x0, 0x3e8, false⟩,
  ⟨"TIM_GpSTAT", 0xf0100, 24, 0x10, 1, 0x4, 0x0, 0x0, 0x0, 0x0, 0x0, false⟩,
  ⟨"TIM_GpDELAY", 0xf0104, 24, 0x10, 1, 0x4, 0x0, 0x0, 0x0, 0x0, 0x0, false⟩,
  ⟨"TIM_GpRATIO", 0xf0108, 24, 0x10, 1, 0x4, 0x0, 0x0, 0x0, 0x0, 0x0, false⟩,
  ⟨"TIM_PkCFG", 0xf0300, 4, 0x20, 1, 0x4, 0xffff0003, 0x0, 0x0, 0x0, 0x0, false⟩,
  ⟨"TIM_PkSTARTL", 0xf0304, 4, 0x20, 1, 0x4, 0xffffffff, 0x0, 0x0, 0x0, 0x0, false⟩,
  ⟨"TIM_PkSTARTH", 0xf0308, 4, 0x20, 1, 0x4, 0xffffffff, 0x0, 0x0, 0x0, 0x0, false⟩,
  ⟨"TIM_PkPERIODL", 0xf030c, 4, 0x20, 1, 0x4, 0xffffffff, 0x0, 0x0, 0x0, 0x0, false⟩,
  ⟨"TIM_PkPERIODH", 0xf0310, 4, 0x20, 1, 0x4, 0xffffffff, 0x0, 0x0, 0x0, 0x0, false⟩,
  ⟨"TIM_PkSTAT", 0xf0314, 4, 0x20, 1, 0x4, 0x0, 0x2, 0x0, 0x0, 0x0, false⟩,
  ⟨"TIM_LnST", 0xf0400, 96, 0x4, 1, 0x4, 0x0, 0x0, 0x0, 0x0, 0x0, false⟩]

/-- The registers of block PWR (R35), in the order of its chapter's table. -/
def regsOfPWR : List RegDef := [
  ⟨"PWR_DID", 0x100000, 19, 0x800, 1, 0x4, 0x0, 0x0, 0x0, 0x0, 0x0, false⟩,
  ⟨"PWR_DSTAT", 0x100004, 19, 0x800, 1, 0x4, 0x0, 0x0, 0x0, 0x0, 0xff0000, false⟩,
  ⟨"PWR_DFLT", 0x100008, 19, 0x800, 1, 0x4, 0x0, 0x1f, 0x0, 0x0, 0x0, false⟩,
  ⟨"PWR_DFEED", 0x10000c, 19, 0x800, 1, 0x4, 0x0, 0x0, 0x0, 0x0, 0x0, false⟩,
  ⟨"PWR_DTEMP", 0x100010, 19, 0x800, 1, 0x4, 0x0, 0x0, 0x0, 0x0, 0x0, false⟩,
  ⟨"PWR_DCFG", 0x100014, 19, 0x800, 1, 0x4, 0x0, 0x0, 0x1, 0x0, 0x0, false⟩,
  ⟨"PWR_CALCMD", 0x100020, 19, 0x800, 1, 0x4, 0x0, 0x0, 0x0, 0xff, 0x0, false⟩,
  ⟨"PWR_CALREF", 0x100024, 19, 0x800, 1, 0x4, 0xffff, 0x0, 0x0, 0x0, 0x0, false⟩,
  ⟨"PWR_CALRES", 0x100028, 19, 0x800, 1, 0x4, 0x0, 0x0, 0x0, 0x0, 0x0, false⟩,
  ⟨"PWR_CHkCFG", 0x100100, 19, 0x800, 8, 0x80, 0x0, 0x0, 0xffffff1f, 0x0, 0x0, false⟩,
  ⟨"PWR_CHkPRM", 0x100104, 19, 0x800, 8, 0x80, 0x0, 0x0, 0x3fff01ff, 0x0, 0x0, false⟩,
  ⟨"PWR_CHkOL", 0x100108, 19, 0x800, 8, 0x80, 0x0, 0x0, 0x3ffffff, 0x0, 0x0, false⟩,
  ⟨"PWR_CHkLDECL", 0x10010c, 19, 0x800, 8, 0x80, 0x0, 0x0, 0xffff, 0x0, 0x0, false⟩,
  ⟨"PWR_CHkSTAT", 0x100110, 19, 0x800, 8, 0x80, 0x0, 0x0, 0x0, 0x0, 0x0, false⟩,
  ⟨"PWR_CHkFLT", 0x100114, 19, 0x800, 8, 0x80, 0x0, 0x7ff, 0x0, 0x0, 0x0, false⟩,
  ⟨"PWR_CHkCMD", 0x100118, 19, 0x800, 8, 0x80, 0x0, 0x0, 0x0, 0x3, 0x0, false⟩,
  ⟨"PWR_CHkI", 0x10011c, 19, 0x800, 8, 0x80, 0x0, 0x0, 0x0, 0x0, 0x0, false⟩,
  ⟨"PWR_CHkV", 0x100120, 19, 0x800, 8, 0x80, 0x0, 0x0, 0x0, 0x0, 0x0, false⟩,
  ⟨"PWR_CHkWT", 0x100124, 19, 0x800, 8, 0x80, 0x0, 0x0, 0x0, 0x0, 0x0, false⟩,
  ⟨"PWR_CHkLEST", 0x100128, 19, 0x800, 8, 0x80, 0x0, 0x0, 0x0, 0x0, 0xffffffff, false⟩,
  ⟨"PWR_CHkCAL", 0x10012c, 19, 0x800, 8, 0x80, 0x0, 0x0, 0x0, 0x0, 0x0, false⟩,
  ⟨"PWR_CHkCNT", 0x100130, 19, 0x800, 8, 0x80, 0x0, 0x0, 0x0, 0x0, 0x0, false⟩,
  ⟨"PWR_DCTL", 0x100040, 19, 0x800, 1, 0x4, 0x0, 0x0, 0x0, 0xffff0003, 0x0, false⟩,
  ⟨"PWR_DCTLST", 0x100044, 19, 0x800, 1, 0x4, 0x0, 0x0, 0x0, 0x0, 0x0, false⟩,
  ⟨"PWR_DTBL", 0x100048, 19, 0x800, 1, 0x4, 0x0, 0x0, 0x0, 0x0, 0x0, false⟩,
  ⟨"PWR_DTBLDIG", 0x10004c, 19, 0x800, 1, 0x4, 0x0, 0x0, 0x0, 0x0, 0x0, false⟩,
  ⟨"PWR_DLINK", 0x100050, 19, 0x800, 1, 0x4, 0x0, 0x0, 0x0, 0x0, 0x0, false⟩,
  ⟨"PWR_DCCFG", 0x100054, 19, 0x800, 1, 0x4, 0x0, 0x0, 0x3f1f0f, 0x0, 0x0, false⟩,
  ⟨"PWR_CHkMIS", 0x100134, 19, 0x800, 8, 0x80, 0x0, 0x30000, 0x0, 0x0, 0x0, false⟩,
  ⟨"PWR_CHkFS", 0x100138, 19, 0x800, 8, 0x80, 0x0, 0x0, 0xffffff1f, 0x0, 0x0, false⟩]

/-- The registers of block UPD (R35), in the order of its chapter's table. -/
def regsOfUPD : List RegDef := [
  ⟨"UPD_DSTAT", 0x120000, 1, 0x4, 1, 0x4, 0x0, 0x0, 0x0, 0x0, 0x0, false⟩,
  ⟨"UPD_DOMIT", 0x120004, 1, 0x4, 1, 0x4, 0x0, 0x0, 0x0, 0x0, 0x0, false⟩,
  ⟨"UPD_DFAIL", 0x120008, 1, 0x4, 1, 0x4, 0x0, 0x0, 0x0, 0x0, 0xffffffff, false⟩,
  ⟨"UPD_DMODID", 0x12000c, 1, 0x4, 1, 0x4, 0x0, 0x0, 0x0, 0x0, 0x0, false⟩,
  ⟨"UPD_DSTRUCTL", 0x120010, 1, 0x4, 1, 0x4, 0x0, 0x0, 0x0, 0x0, 0x0, false⟩,
  ⟨"UPD_DSTRUCTH", 0x120014, 1, 0x4, 1, 0x4, 0x0, 0x0, 0x0, 0x0, 0x0, false⟩,
  ⟨"UPD_DEPOCH", 0x120018, 1, 0x4, 1, 0x4, 0x0, 0x0, 0x0, 0x0, 0x0, false⟩,
  ⟨"UPD_DSECVER", 0x12001c, 1, 0x4, 1, 0x4, 0x0, 0x0, 0x0, 0x0, 0x0, false⟩,
  ⟨"UPD_STAT", 0x120020, 1, 0x4, 1, 0x4, 0x0, 0x0, 0x0, 0x0, 0x0, false⟩,
  ⟨"UPD_CMD", 0x120024, 1, 0x4, 1, 0x4, 0x0, 0x0, 0x0, 0xff00ff0f, 0x0, false⟩,
  ⟨"UPD_CMDRES", 0x120028, 1, 0x4, 1, 0x4, 0x0, 0x0, 0x0, 0x0, 0x0, false⟩,
  ⟨"UPD_VSTATE", 0x12002c, 1, 0x4, 1, 0x4, 0xf, 0x0, 0x0, 0x0, 0x0, false⟩,
  ⟨"UPD_BUFL", 0x120030, 1, 0x4, 1, 0x4, 0xffffffff, 0x0, 0x0, 0x0, 0x0, false⟩,
  ⟨"UPD_BUFH", 0x120034, 1, 0x4, 1, 0x4, 0xffff, 0x0, 0x0, 0x0, 0x0, false⟩,
  ⟨"UPD_IDX", 0x120038, 1, 0x4, 1, 0x4, 0x1fff, 0x0, 0x0, 0x0, 0x0, false⟩,
  ⟨"UPD_PKGL", 0x12003c, 1, 0x4, 1, 0x4, 0x0, 0x0, 0x0, 0x0, 0x0, false⟩,
  ⟨"UPD_PKGH", 0x120040, 1, 0x4, 1, 0x4, 0x0, 0x0, 0x0, 0x0, 0x0, false⟩,
  ⟨"UPD_CHUNKS", 0x120044, 1, 0x4, 1, 0x4, 0x0, 0x0, 0x0, 0x0, 0x0, false⟩,
  ⟨"UPD_STAGED", 0x120048, 1, 0x4, 1, 0x4, 0x0, 0x0, 0x0, 0x0, 0x0, false⟩,
  ⟨"UPD_MISS", 0x12004c, 1, 0x4, 1, 0x4, 0x0, 0x0, 0x0, 0x0, 0x80000000, false⟩,
  ⟨"UPD_CURSOR", 0x120050, 1, 0x4, 1, 0x4, 0x0, 0x0, 0x0, 0x0, 0x0, false⟩,
  ⟨"UPD_CUTUS", 0x120054, 1, 0x4, 1, 0x4, 0x0, 0x0, 0x0, 0x0, 0x0, false⟩,
  ⟨"UPD_CFG", 0x120058, 1, 0x4, 1, 0x4, 0x0, 0x0, 0x1fffff, 0x0, 0x0, false⟩,
  ⟨"UPD_LIM", 0x12005c, 1, 0x4, 1, 0x4, 0x0, 0x0, 0xffffffff, 0x0, 0x0, false⟩,
  ⟨"UPD_COMPAT", 0x120060, 1, 0x4, 1, 0x4, 0x0, 0x0, 0x1ffff, 0x0, 0x0, false⟩,
  ⟨"UPD_EVT", 0x120064, 1, 0x4, 1, 0x4, 0x0, 0x1f, 0x0, 0x0, 0x0, false⟩]

/-- The registers of block FLT (R35), in the order of its chapter's table. -/
def regsOfFLT : List RegDef := [
  ⟨"FLT_STAT", 0x130000, 1, 0x4, 1, 0x4, 0x0, 0x0, 0x0, 0x0, 0x0, false⟩,
  ⟨"FLT_WIDX", 0x130004, 1, 0x4, 1, 0x4, 0x0, 0x0, 0x0, 0x0, 0x0, false⟩,
  ⟨"FLT_RIDX", 0x130008, 1, 0x4, 1, 0x4, 0xffffffff, 0x0, 0x0, 0x0, 0x0, false⟩,
  ⟨"FLT_LOST", 0x13000c, 1, 0x4, 1, 0x4, 0x0, 0x0, 0x0, 0x0, 0x0, false⟩,
  ⟨"FLT_SUPP", 0x130010, 1, 0x4, 1, 0x4, 0x0, 0x0, 0x0, 0x0, 0x0, false⟩,
  ⟨"FLT_CMD", 0x130014, 1, 0x4, 1, 0x4, 0x0, 0x0, 0x0, 0xff00000f, 0x0, false⟩,
  ⟨"FLT_CMDRES", 0x130018, 1, 0x4, 1, 0x4, 0x0, 0x0, 0x0, 0x0, 0x0, false⟩,
  ⟨"FLT_BUFL", 0x130020, 1, 0x4, 1, 0x4, 0xffffffff, 0x0, 0x0, 0x0, 0x0, false⟩,
  ⟨"FLT_BUFH", 0x130024, 1, 0x4, 1, 0x4, 0xffff, 0x0, 0x0, 0x0, 0x0, false⟩,
  ⟨"FLT_BLOT", 0x130028, 1, 0x4, 1, 0x4, 0x0, 0x0, 0x0, 0x0, 0x0, true⟩,
  ⟨"FLT_BSEL", 0x13002c, 1, 0x4, 1, 0x4, 0x7, 0x0, 0x0, 0x0, 0x0, false⟩,
  ⟨"FLT_BINFO", 0x130030, 1, 0x4, 1, 0x4, 0x0, 0x0, 0x0, 0x0, 0x0, false⟩,
  ⟨"FLT_REPAIR", 0x130040, 1, 0x4, 1, 0x4, 0x0, 0x0, 0x0, 0x0, 0x0, true⟩,
  ⟨"FLT_SPARE", 0x130044, 1, 0x4, 1, 0x4, 0x0, 0x0, 0x0, 0x0, 0x4003c0, true⟩,
  ⟨"FLT_SCRUB", 0x130048, 1, 0x4, 1, 0x4, 0x0, 0x0, 0x0, 0x0, 0x0, false⟩,
  ⟨"FLT_CFG", 0x130060, 1, 0x4, 1, 0x4, 0x0, 0x0, 0x1ff, 0x0, 0xa1, false⟩,
  ⟨"FLT_CNTc", 0x130100, 24, 0x4, 1, 0x4, 0x0, 0x0, 0x0, 0x0, 0x0, false⟩]

/-- The registers of block SEC (R35), in the order of its chapter's table. -/
def regsOfSEC : List RegDef := [
  ⟨"SEC_STAT", 0x140000, 1, 0x4, 1, 0x4, 0x0, 0x0, 0x0, 0x0, 0x0, false⟩,
  ⟨"SEC_CMD", 0x140004, 1, 0x4, 1, 0x4, 0x0, 0x0, 0x0, 0xffff01ff, 0x0, false⟩,
  ⟨"SEC_CMDRES", 0x140008, 1, 0x4, 1, 0x4, 0x0, 0x0, 0x0, 0x0, 0x0, false⟩,
  ⟨"SEC_ARGi", 0x140010, 8, 0x4, 1, 0x4, 0xffffffff, 0x0, 0x0, 0x0, 0x0, false⟩]

/-- The registers of block ZGP (R35), in the order of its chapter's table. -/
def regsOfZGP : List RegDef := [
  ⟨"ZGP_STAT", 0x150000, 1, 0x4, 1, 0x4, 0x0, 0x0, 0x0, 0x0, 0x0, false⟩,
  ⟨"ZGP_EVT", 0x150004, 1, 0x4, 1, 0x4, 0x0, 0x7f, 0x0, 0x0, 0x0, false⟩,
  ⟨"ZGP_CMD", 0x150008, 1, 0x4, 1, 0x4, 0x0, 0x0, 0x0, 0xffff01ff, 0x0, false⟩,
  ⟨"ZGP_CMDRES", 0x15000c, 1, 0x4, 1, 0x4, 0x0, 0x0, 0x0, 0x0, 0x0, false⟩,
  ⟨"ZGP_VIEW", 0x150010, 1, 0x4, 1, 0x4, 0x0, 0x0, 0x0, 0x0, 0x0, false⟩,
  ⟨"ZGP_BACKUP", 0x150014, 1, 0x4, 1, 0x4, 0x0, 0x0, 0x0, 0x0, 0x3ff03ff, false⟩,
  ⟨"ZGP_SPAN", 0x150018, 1, 0x4, 1, 0x4, 0x0, 0x0, 0x0, 0x0, 0x0, false⟩,
  ⟨"ZGP_CNT", 0x15001c, 1, 0x4, 1, 0x4, 0x0, 0x0, 0x0, 0x0, 0x0, false⟩,
  ⟨"ZGP_REMERR", 0x150020, 1, 0x4, 1, 0x4, 0x0, 0x0, 0x0, 0x0, 0x0, false⟩,
  ⟨"ZGP_RBUF0", 0x150030, 1, 0x4, 1, 0x4, 0xff03ff, 0x0, 0x0, 0x0, 0x0, false⟩,
  ⟨"ZGP_RBUF1", 0x150034, 1, 0x4, 1, 0x4, 0xffffffff, 0x0, 0x0, 0x0, 0x0, false⟩,
  ⟨"ZGP_CFG", 0x150040, 1, 0x4, 1, 0x4, 0x0, 0x0, 0x3ffff, 0x0, 0x0, false⟩,
  ⟨"ZGP_GID", 0x150044, 1, 0x4, 1, 0x4, 0x0, 0x0, 0xffffffff, 0x0, 0x0, false⟩,
  ⟨"ZGP_MEMw", 0x150100, 32, 0x4, 1, 0x4, 0x0, 0x0, 0x0, 0x0, 0x0, false⟩,
  ⟨"ZGP_SLOWw", 0x150180, 32, 0x4, 1, 0x4, 0x0, 0x0, 0x0, 0x0, 0x0, false⟩,
  ⟨"ZGP_RpSTAT", 0x150200, 32, 0x10, 1, 0x4, 0x0, 0x0, 0x0, 0x0, 0x0, false⟩,
  ⟨"ZGP_RpSNAP", 0x150204, 32, 0x10, 1, 0x4, 0x0, 0x0, 0x0, 0x0, 0x0, false⟩,
  ⟨"ZGP_RpPUB", 0x150208, 32, 0x10, 1, 0x4, 0x0, 0x0, 0x0, 0xff00ff01, 0x0, false⟩,
  ⟨"ZGP_LEDe", 0x151000, 256, 0x10, 4, 0x4, 0x0, 0x0, 0x0, 0x0, 0x0, false⟩]

/-- The registers of block DBG (R35), in the order of its chapter's table. -/
def regsOfDBG : List RegDef := [
  ⟨"DBG_STAT", 0x160000, 1, 0x4, 1, 0x4, 0x0, 0x0, 0x0, 0x0, 0x0, false⟩,
  ⟨"DBG_CMD", 0x160004, 1, 0x4, 1, 0x4, 0x0, 0x0, 0x0, 0xff00003f, 0x0, false⟩,
  ⟨"DBG_CMDRES", 0x160008, 1, 0x4, 1, 0x4, 0x0, 0x0, 0x0, 0x0, 0x0, false⟩,
  ⟨"DBG_CHALi", 0x160010, 8, 0x4, 1, 0x4, 0x0, 0x0, 0x0, 0x0, 0x0, false⟩,
  ⟨"DBG_RESPL", 0x160030, 1, 0x4, 1, 0x4, 0xffffffff, 0x0, 0x0, 0x0, 0x0, false⟩,
  ⟨"DBG_RESPH", 0x160034, 1, 0x4, 1, 0x4, 0xffff, 0x0, 0x0, 0x0, 0x0, false⟩,
  ⟨"DBG_MEASi", 0x160040, 12, 0x4, 1, 0x4, 0x0, 0x0, 0x0, 0x0, 0x0, false⟩,
  ⟨"DBG_GLITCH", 0x160080, 1, 0x4, 1, 0x4, 0x0, 0x0, 0x0, 0x0, 0x0, true⟩,
  ⟨"DBG_UIDi", 0x160090, 4, 0x4, 1, 0x4, 0x0, 0x0, 0x0, 0x0, 0x0, false⟩,
  ⟨"DBG_CFG", 0x1600a0, 1, 0x4, 1, 0x4, 0x0, 0x0, 0x3, 0x0, 0x0, false⟩]

/-- The registers of the block at a register-space offset (R35); none where no block lies. -/
def regsAt (off : Nat) : List RegDef :=
  match off / 0x10000 with
  | 0 => regsOfCIS
  | 1 => regsOfISL
  | 2 => regsOfDUX
  | 3 => regsOfCKP
  | 4 => regsOfEVC
  | 5 => regsOfWLD
  | 6 => regsOfRGD
  | 8 => regsOfNBC
  | 9 => regsOfSGW
  | 14 => regsOfSWC
  | 15 => regsOfTIM
  | 18 => regsOfUPD
  | 19 => regsOfFLT
  | 20 => regsOfSEC
  | 21 => regsOfZGP
  | 22 => regsOfDBG
  | 10 | 11 => regsOfFBB
  | 12 | 13 => regsOfMAC
  | 16 => regsOfPWR
  | _ => []

/-- The channels of a switch die by its number (R18): the channel register sets that its PWR instance has. -/
def pwrChans (sd : Nat) : Nat := if sd < 4 then 2 else if sd < 10 then 4 else if sd < 15 then 8 else 2

/-- Whether an offset lies in a channel register set of the PWR block beyond the channels of its switch die, where nothing is mapped
(R36, R156). -/
def pastChans (off : Nat) : Bool :=
  decide (0x100000 ≤ off ∧ off < 0x110000 ∧ 0x100 ≤ off % 0x800 ∧
    pwrChans ((off - 0x100000) / 0x800) ≤ (off % 0x800 - 0x100) / 0x80)

/-- The register whose offset is `off`, or none where the offset is unmapped (R36). -/
def regDef? (off : Nat) : Option RegDef := if pastChans off then none else (regsAt off).find? (fun r => r.covers off)

end Sys2Proof.Machine
end

