-- ==== Sys2Proof/Machine/State.lean ====
section
/-! DEFINITION. The state of the module as plain data: the register file, the memories, the switch dies, the Cistern,
the volatile state of each Q-die and what each die keeps, and the queue of waiting commands; with every reset value. -/

namespace Sys2Proof.Machine

/-- Why the machine stops with a fault. -/
inductive Fault where
  /-- Raised by no command of this model: an access to an address that does not exist completes with an error
  response (R33), which is an answer and no stop. Kept so that the type is closed and inhabited; safe. -/
  | noSuchAddress
  deriving DecidableEq, Repr

/-- Why the machine refuses a command. -/
inductive Refusal where
  /-- The command has no meaning in this model yet; safe. -/
  | notModelled (mnemonic : String)
  deriving DecidableEq, Repr

/-- A part of a satellite transaction (R380): bytes the module sends, idle clocks, bytes it reads. -/
inductive SatPart where
  | send (l : List Byte)
  | idle (clocks : Nat)
  | take (n : Nat)
  deriving DecidableEq, Repr

/-- What the block answered last to the sender of a command: nothing, a value, bytes, an error response, or the error
response of a read with the bytes it returns (R33). -/
inductive Answer where
  | none
  | value (v : Nat)
  | bytes (l : List Byte)
  | error
  | errorBytes (l : List Byte)
  | transaction (l : List SatPart)
  deriving DecidableEq, Repr

/-! ### Rills and mirrored writes (spec/01) -/

/-- A rill transfer held because its receiving island is not clocked (R25), with the parity errors that the receiver will find in it
and in its repeat (R26). -/
structure RillHold where
  src : Fin 18
  dst : Fin 18
  payload : BitVec 64
  bad : Bool := false
  badAgain : Bool := false
  deriving DecidableEq, Repr

/-- A write through a mirrored port that has not completed yet (R41), and whether it has reached the partner. -/
structure MirrorWrite where
  port : MirrorPort
  index : Nat
  value : List Word
  there : Bool := false
  cmd : Bool := false
  clear : Bool := false
  deriving DecidableEq, Repr

/-! ### Boot and Ductus (spec/02, spec/03) -/

/-- The result of a die's Ductus verification: its code (R60) and, for a valid copy, what is exchanged and reported. -/
structure VerResult where
  code : Nat
  digest : BitVec 384
  secver : Nat
  buildTime : Nat
  structId : Nat
  sfEpoch : Nat
  ifEpoch : Nat
  baseId : Nat
  dev : Bool
  deriving DecidableEq, Repr

/-- A seal-ready notice (R72). -/
structure SealReady where
  digest : BitVec 384
  failed : Nat
  failedList : BitVec 384
  deriving DecidableEq, Repr

/-- A record the loader has applied: the key of R59 (type, target and, where records accumulate, a sub-key) and its
sequence number. -/
structure Applied where
  typ : Nat
  target : Nat
  sub : Nat
  seq : Nat
  deriving DecidableEq, Repr

/-- The boot state of one die. `recs` holds the records of the image in its order, `todo` those that its loader has still to judge, in
the order of R64;
`differed` tells that a difference of the seal blocks was recorded, `joins` that the die boots beside a sealed partner (R74, R77). -/
structure BootSt where
  romOk : Bool := false
  loaderOk : Bool := false
  own : Option VerResult := .none
  partner : Option VerResult := .none
  donate : Bool := false
  recs : List Rec := []
  todo : List Rec := []
  applied : List Applied := []
  failedIdx : List Nat := []
  ready : Option SealReady := .none
  partnerReady : Option SealReady := .none
  differed : Bool := false
  joins : Bool := false
  bmr : BitVec 384 := 0#384
  deriving DecidableEq, Repr

/-! ### Switch dies (spec/04, spec/05) -/

/-- The state of one input line of a channel (R164). -/
inductive LineLevel where
  | absent | low | high
  deriving DecidableEq, Repr

/-- The mode of a switch die, in the codes of PWR_DSTAT.MODE. -/
inductive SdMode where
  | start | service | test | recovery
  deriving DecidableEq, Repr

/-- One channel inside its switch die: the two lines as the die sees them, the level called for and the output, what protects it,
what it does on its own, its trips and tests, its calibration; its settings as they stood at the last accepted SVCENT, the
recirculation of a bridge that was switched off (R116), the samples at or below 36 mA in a row (R118), what step 1 of a running
off-state test found (R132), the clamp in progress and the clamps counted (R145), the times in ns of the last applied edge and
the last applied rising edge, the end of a deferral (R166), the start of flywheeling, and a BDIR that waits for a falling edge
(R204); the instant at which flywheeling was last looked at (R189), the two edge times as they stood before the last edge (R165),
whether a difference of the lines is counted that still lasts (R168), the cycle in which a latch ended a limit (R155), the range of the
last field calibration (R156). Other times count service cycles of the die. -/
structure Chan where
  lineA : LineLevel := .absent
  lineB : LineLevel := .absent
  want : Bool := false
  on : Bool := false
  offAt : Option Nat := .none
  latched : Bool := false
  latchCyc : Option Nat := .none
  restartCyc : Option Nat := .none
  latchPend : Bool := false
  inLimit : Bool := false
  ramping : Bool := false
  rampMs : Nat := 0
  rampSelf : Bool := false
  offTest : Bool := false
  testAsked : Bool := false
  lampRetry : Bool := false
  warmOpen : Bool := false
  retries : Nat := 0
  ol : Nat := 0
  lowRange : Bool := false
  tj : Int := 0
  trips : Nat := 0
  misCount : Nat := 0
  forced : Option Bool := .none
  held : Option Bool := .none
  deferred : Bool := false
  flywheel : Bool := false
  pwm : Bool := false
  period : Nat := 0
  duty : Nat := 0
  linePend : Bool := false
  dirBA : Bool := false
  dirPend : Option Bool := .none
  calSuspect : Bool := false
  calGain : Int := 0
  calOffs : Int := 0
  calOffOnly : Bool := false
  calField : Bool := false
  lowGain : Int := 0
  lowOffs : Int := 0
  cfg : Option Word := .none
  recirc : Option Nat := .none
  lowCount : Nat := 0
  offFind : Nat := 0
  clamping : Bool := false
  clamps : Nat := 0
  changedAt : Option Nat := .none
  roseAt : Option Nat := .none
  dueAt : Nat := 0
  flyFrom : Nat := 0
  dirEdge : Bool := false
  flyAt : Nat := 0
  wasChanged : Option Nat := .none
  wasRose : Option Nat := .none
  misOpen : Bool := false
  limitAt : Option Nat := .none
  calLow : Bool := false
  deriving DecidableEq, Repr

/-- The switch die's view of one serial link (R179). -/
structure SdLink where
  inStep : Bool := false
  acked : Bool := false
  silent : Bool := true
  cycle : Nat := 0
  deriving DecidableEq, Repr

/-- A fail-safe table transfer arriving on one link (R196). -/
structure TableRx where
  len : Nat := 0
  bytes : List Byte := []
  busy : Bool := false
  tag : Nat := 0
  done : Option (List Byte) := .none
  deriving DecidableEq, Repr

/-- A field-calibration capture (R150). -/
structure Capture where
  ch : Nat := 0
  low : Bool := false
  ref : Nat := 0
  points : Table (Nat × Int) := []
  busy : Option Nat := .none
  busyRef : Nat := 0
  state : Nat := 0
  deriving DecidableEq, Repr

/-- One switch die. `live` is the table that its fail-safe states come from: the one in force when they were last forced or START
was last entered (R198). `lastTag` holds the last 15 TAGs executed for each link, TYPE and CH (R177). `holdFrom` and `holdLen` time the
last-state hold in service cycles (R192); `servCyc` and `servFrom` name the cycle of the last accepted SVCENT that entered SERVICE and
the mode it came from, `wdogCyc` and `steerCyc` that of the last watchdog expiry and of the last line change (R204); `tblState` is
PWR_DTBL.STATE. -/
structure SwitchDie where
  powered : Bool := false
  mode : SdMode := .start
  holding : Bool := false
  lastHold : Bool := false
  s0 : Option (BitVec 11) := .none
  line : Die := 0
  auto : Bool := false
  links : PerDie SdLink := ⟨{}, {}⟩
  lastTag : Table (List Nat) := []
  started : Bool := false
  feedOk : Bool := false
  uvOff : Bool := false
  ovOff : Bool := false
  mismatch : Bool := false
  wdogHit : Bool := false
  rx : PerDie TableRx := ⟨{}, {}⟩
  table : List Byte := []
  nvmFault : Bool := false
  writing : Option (List Byte) := .none
  writeAck : PerDie (Option Nat) := ⟨.none, .none⟩
  committed : Bool := false
  writeSrc : Die := 0
  tblSrc : Die := 0
  tblDiff : Bool := false
  evtCount : Table Nat := []
  waiting : PerDie (List Word) := ⟨[], []⟩
  cycles : Nat := 0
  capture : Capture := {}
  chans : Table Chan := []
  up : PerDie (List Word) := ⟨[], []⟩
  standby : Bool := false
  live : List Byte := []
  holdFrom : Nat := 0
  holdLen : Nat := 0
  servCyc : Option Nat := .none
  wdogCyc : Option Nat := .none
  steerCyc : Option Nat := .none
  servFrom : SdMode := .recovery
  tblState : Nat := 0
  deriving DecidableEq, Repr

/-- A command a Q-die repeats until it is acknowledged (R177). -/
structure SerialCmd where
  typ : Nat
  ch : Nat
  tag : Nat
  data : Nat
  deriving DecidableEq, Repr

/-- One Q-die's side of its serial link to one switch die. -/
structure QSd where
  down : List Word := []
  cmds : List SerialCmd := []
  nextTag : Table Nat := []
  proof : Bool := false
  serDef : Bool := false
  ser : Nat := 0
  evtSeen : Table Nat := []
  tblImage : List Byte := []
  tblTag : Nat := 0
  tblSends : Nat := 0
  tblAcked : Bool := false
  tblFailed : Bool := false
  digLow : Option Nat := .none
  digHigh : Option Nat := .none
  cycleIn : List Word := []
  absent : Bool := false
  msqLow : Table Nat := []
  msq : Table Nat := []
  tjs : Table Nat := []
  deriving DecidableEq, Repr

/-- The protection program's state of one channel (R135 to R147): conductor and insulation temperature in units of
10^-9 degC, inductance in µH and resistance in mΩ estimated, times of the clamps of the last 10 s, energies of the last
prediction in mJ, current in mA at the start of the last ramp, harness loss in mW and its sum over the cycles since the last report (mW cycles), output energy since the last
report in units of 1.25·10^-15 J. -/
structure Wire where
  live : Bool := false
  tc : Int := 0
  ti : Int := 0
  tripped : Bool := false
  warned : Bool := false
  lest : Option Nat := .none
  rest : Nat := 0
  restSeen : Bool := false
  lastSample : Option (Nat × Int) := .none
  clampTimes : List Nat := []
  ePred : Nat := 0
  eRamp : Nat := 0
  overRamp : Bool := false
  rampFrom : Nat := 0
  loss : Nat := 0
  lossSum : Nat := 0
  energy : Int := 0
  deriving DecidableEq, Repr

/-- A lane command that has not taken effect: a level for a group time (R300), or a period and on time with the time
they arrived (R301, R171). Times in ns. -/
inductive LaneCmd where
  | level (on : Bool) (time : Nat)
  | pwm (period duty arrived : Nat)
  deriving DecidableEq, Repr

/-- One timing lane of a die (R163 to R172, R300, R301, R486): whether it drives its output, whether it runs PWM, the
level shown, period and on time in ns, the one pending command, when the last period started, the start and length in
ns of a protection ramp (R147), whether the period in which a ramp ended still runs (R258), and whether group time stepped since the last period started (R172). -/
structure Lane where
  driven : Bool := false
  pwm : Bool := false
  level : Bool := false
  period : Nat := 0
  duty : Nat := 0
  pend : Option LaneCmd := .none
  start : Nat := 0
  ramp : Option (Nat × Nat) := .none
  ending : Bool := false
  moved : Bool := false
  deriving DecidableEq, Repr

/-! ### Event controller (spec/16) -/

/-- The pending state of one event source (R614, R623), with the group time in ns of the first firing of its pending period. -/
structure EvSrc where
  pending : Bool := false
  count : Nat := 0
  ripe : Bool := false
  inService : Bool := false
  shadow : Bool := false
  firstAt : Nat := 0
  deriving DecidableEq, Repr

/-- An entry of a running-priority stack: the source and its priority. -/
structure StackEntry where
  src : Nat
  prio : Nat
  deriving DecidableEq, Repr

/-- A controller snapshot of one partition binding (R628). -/
structure EvcSnap where
  stM : List StackEntry := []
  stS : List StackEntry := []
  thrM : Nat := 0
  thrS : Nat := 0
  parts : List (Nat × List StackEntry × Nat) := []
  inService : List Nat := []
  deriving DecidableEq, Repr

/-- The event controller of one die. Stacks and thresholds of the M and HS level are kept by duplex, those of the VS
level by partition (R621). -/
structure EvcSt where
  srcs : Table EvSrc := []
  stM : Table (List StackEntry) := []
  stS : Table (List StackEntry) := []
  stV : Table (List StackEntry) := []
  thrM : Table Nat := []
  thrS : Table Nat := []
  thrV : Table Nat := []
  heldLow : Table (Option Word) := []
  snapNext : Table EvcSnap := []
  snaps : Table EvcSnap := []
  deriving DecidableEq, Repr

/-! ### Faults (spec/20) -/

/-- What the fault manager holds of one class for the persistent summary (R735). -/
structure SumEntry where
  count : Nat := 0
  firstRtc : Nat := 0
  lastRtc : Nat := 0
  subj : Nat := 0
  src : Nat := 0
  sev : Nat := 0
  deriving DecidableEq, Repr

/-- A dump in a blotter slot (R752 to R754). -/
structure Dump where
  cause : Nat
  die : Die
  complete : Bool
  copied : Bool
  trunc : Bool
  length : Nat
  time : Nat
  released : Bool
  seq : Nat
  deriving DecidableEq, Repr

/-- The fault manager of one die: the last record of a suppressed class by source and subject, the disagreements of the last second by
object (ns, R737; a shadow controller by its number), what the summary shows of each class
and when it was written (ns), condition 7, the fatal cause with the group time, RTC
and ring index of its detection and the DRAM slot its dump goes to, known-answer steps made, partitions held in reset for more
than 1 s and when each was put in reset last (ns), switch dies that have been in service. -/
structure FltSt where
  lastSup : Table Nat := []
  misses : Table (List Nat) := []
  sums : Table SumEntry := []
  sumWritten : Table (Option Nat) := []
  cond7 : Bool := false
  fatal : Option Nat := .none
  fatalAt : Nat × Nat × Nat := (0, 0, 0)
  slot : Option Nat := .none
  katStep : Nat := 0
  heldReset : Table Bool := []
  heldAt : Table Nat := []
  sdServed : Table Bool := []
  deriving DecidableEq, Repr
/-! ### Nib clusters (spec/06, spec/07) and the gateway (spec/08) -/

/-- The flags of one register bank (R212, R270, R271). -/
structure NibFlags where
  z : Bool := false
  n : Bool := false
  c : Bool := false
  v : Bool := false
  s : Bool := false
  deriving DecidableEq, Repr

/-- A waiting MSET: its address and the values it names (R217). -/
structure MsetPend where
  addr : Nat
  mode : Bool
  bank : Bool
  ie : Bool
  deriving DecidableEq, Repr

/-- The delay slot in progress: the branch's address and its target when taken (R224). -/
structure InSlot where
  branch : Nat
  target : Option Nat
  deriving DecidableEq, Repr

/-- One entry of an input stream (R228, R229, R238). `line` is the event line it raises for this nib, `silent` whether
it is applied and not taken; `box` the mailbox of a nib message, whose credit comes back when it is taken (R241). -/
structure StreamEntry where
  src : Nat
  seq : Nat
  stamp : Nat
  payload : List Byte
  late : Bool := false
  err : Bool := false
  silent : Bool := false
  line : Option Nat := .none
  drops : Nat := 0
  box : Option Nat := .none
  deriving DecidableEq, Repr

/-- A subscription of a nib (R262). -/
structure Subscr where
  first : Nat
  last : Nat
  silent : Bool
  line : Option Nat
  deriving DecidableEq, Repr

/-- An outbound mailbox: kind, target, credits of its record and credits held (R241, R264). -/
structure Mailbox where
  kind : Nat := 0
  target : Nat := 0
  size : Nat := 0
  held : Nat := 0
  deriving DecidableEq, Repr

/-- What a nib does (NBC_nNkST.STATE): it serves no program, runs, is blocked in MBX.GET or in WAIT, is halted by command,
halted under R247, or halted with no slot (R256). Handler mode is running with `mode` set. -/
inductive NibRun where
  | unassigned | running | inGet | inWait | haltedCmd | haltedExc | noSlot
  deriving DecidableEq, Repr

/-- Which program a nib has (R253): none, one of a program record, the gateway program, or the protection program. -/
inductive NibProg where
  | none | record | gateway | protection
  deriving DecidableEq, Repr

/-- One nib. Registers are keyed bank × 16 + number; IMEM and DMEM bytes lie in the die's memory at the cluster window
addresses. `due`, `notices`, `reports`, `stale` and `lastTick` belong to the gateway program (R328, R334, R339): PDUs with a deferred
on-change send, PDUs whose due notice waits for a credit, held reports by partition, signals known stale, the last gateway tick. `patched` lists replaced IMEM words: word index, old word, instructions it may still be met in (R252). -/
structure Nib where
  prog : NibProg := .none
  run : NibRun := .unassigned
  slot : Nat := 0
  entry : Nat := 0
  vbase0 : Nat := 0
  wdog : Nat := 0
  depth : Nat := 0
  patchable : Bool := false
  progSeq : Nat := 0
  regs : Table Word := []
  acc : BitVec 64 := 0#64
  flags0 : NibFlags := {}
  flags1 : NibFlags := {}
  mode : Bool := false
  bank : Bool := false
  ie : Bool := false
  ds : Bool := false
  mset : Option MsetPend := .none
  epc : Nat := 0
  ecause : Nat := 0
  eaddr : Word := 0#32
  lc0 : Nat := 0
  ls0 : Nat := 0
  le0 : Nat := 0
  lc1 : Nat := 0
  ls1 : Nat := 0
  le1 : Nat := 0
  vbase : Nat := 0
  pc : Nat := 0
  slotOf : Option InSlot := .none
  wdogHit : Bool := false
  time : Nat := 0
  cur : Option StreamEntry := .none
  staging : Table Byte := []
  queue : List StreamEntry := []
  drops : Nat := 0
  fifos : Table (List (BitVec 16)) := []
  subs : List Subscr := []
  boxes : Table Mailbox := []
  patched : List (Nat × Word × Nat) := []
  eccTimes : List Nat := []
  haltTimes : List Nat := []
  haltCause : Nat := 0
  restartAt : Option Nat := .none
  due : List Nat := []
  notices : List Nat := []
  reports : Table (List Nat) := []
  stale : List Nat := []
  lastTick : Option Nat := .none
  deriving DecidableEq, Repr

/-- An input held by the stream unit until it is released (R230) or named by an order entry (R233). `msg`: the nib a message of another
nib is for and the mailbox it left (R241). `late`: its source was excluded when it came (R231). -/
structure HeldEntry where
  src : Nat
  seq : Nat
  stamp : Nat
  payload : List Byte
  err : Bool
  msg : Option (Nat × Nat) := .none
  late : Bool := false
  deriving DecidableEq, Repr

/-- An order entry received from the authority cluster (R232): stamp, source, sequence, nib mask, LATE. -/
structure OrderEntry where
  stamp : Nat
  src : Nat
  seq : Nat
  mask : Nat
  late : Bool
  deriving DecidableEq, Repr

/-- A cluster tick (R240, R263), in ns. -/
structure Tick where
  period : Nat
  phase : Nat
  deriving DecidableEq, Repr

/-- A descriptor-cache line (R221): its descriptor index, the copy, and when it was last used. -/
structure CacheLine where
  index : Nat
  data : Nat
  used : Nat
  deriving DecidableEq, Repr

/-- The image of one nib's program that the loader retains for the cluster (R106, R265). -/
structure NibImage where
  code : List Word := []
  dmem : List Byte := []
  deriving DecidableEq, Repr

/-- Where a rejoin stands (R254): none runs, the images reload, the cut is placed in the authority's order, or the cut has been
released. -/
inductive RejoinStep where
  | none | reload | placed | cut
  deriving DecidableEq, Repr

/-- One nib cluster of a die. `lastOut`: the highest stamp released (R234). `bistAsked`: NBC_nCMDRES shows an accepted BIST request. -/
structure Cluster where
  nibs : Table Nib := []
  held : List HeldEntry := []
  lastOut : Nat := 0
  bistAsked : Bool := false
  orders : List OrderEntry := []
  excluded : List Nat := []
  seqs : Table Nat := []
  ticks : Table (Option Tick) := []
  images : Table NibImage := []
  rejoin : RejoinStep := .none
  laneRec : Option Rec := .none
  started : Bool := false
  gwTick : Option Nat := .none
  cache : Table (Option CacheLine) := []
  clock : Nat := 0
  bistFailed : List Nat := []
  lastBist : Option Nat := .none
  deriving DecidableEq, Repr

/-- An item a nib has sent to a controller (kind 2) or, through P25, to a switch port (kind 1), which its target has not
taken yet (R241, R321): sender cluster, logical nib and mailbox, stream time, bytes, and for a PDU item the PDU entry as it stood when
the item was accepted, TXSEQ and LASTSTAMP updated. -/
structure TxItem where
  kind : Nat
  target : Nat
  cluster : Nat
  nib : Nat
  box : Nat
  stamp : Nat
  bytes : List Byte
  pdu : Option Nat
  deriving DecidableEq, Repr

/-- An inbound ring item whose credit has not come back (R340): partition, slot index, sender cluster, nib and mailbox. -/
structure InItem where
  part : Nat
  index : Nat
  cluster : Nat
  nib : Nat
  box : Nat
  deriving DecidableEq, Repr

/-- The signal gateway of one die: shadow tags (R310), items waiting for their targets, inbound items whose credits are
out, CRCs of items sent and not yet compared with the twin's (R340), an outbound item taken and not yet delivered
(R338), items sent to each partition since die reset (R336), and whether the copy of R349 has been taken. -/
structure GwSt where
  tags : Table Nat := []
  items : List TxItem := []
  inItems : List InItem := []
  crcs : Table (List (Nat × Nat)) := []
  taking : Table (Option Nat) := []
  sent : Table Nat := []
  copied : Bool := false
  deriving DecidableEq, Repr

/-! ### Field buses (spec/09) -/

/-- What identifies and fills a CAN frame (R318, R367, R370). -/
structure CanFrame where
  ident : Nat := 0
  ide : Bool := false
  fdf : Bool := false
  xlf : Bool := false
  brs : Bool := false
  sdt : Nat := 0
  vcid : Nat := 0
  af : Nat := 0
  data : List Byte := []
  deriving DecidableEq, Repr

/-- A frame queued in a CAN controller: the frame, the cluster, nib and mailbox whose credit it holds, or none for a
partition frame, and its place in the order queued (R370). -/
structure CanItem where
  frame : CanFrame
  credit : Option (Nat × Nat × Nat)
  order : Nat := 0
  deriving DecidableEq, Repr

/-- One die's controller of an FBB instance: its nib queue and partition queue (CAN), the response data of published
identifiers, and the schedule (LIN: first slot, slots, present slot; a range that takes effect at the next slot; the
group time of the next slot in ns). `queued`: frames queued so far. `sending`: the identifier whose response the running slot sends, and
the data sent (R374). -/
structure FbCtl where
  nibQ : List CanItem := []
  partQ : List CanItem := []
  queued : Nat := 0
  sending : Option (Nat × List Byte) := .none
  resp : Table (Option (List Byte)) := []
  first : Nat := 0
  count : Nat := 0
  slot : Option Nat := .none
  range : Option (Nat × Nat) := .none
  nextAt : Option Nat := .none
  deriving DecidableEq, Repr

/-- The field die's transmit selector of one controller (R362, R364, R365): the die connected, the change that waits for
bus idle, the last accepted home-move count. -/
structure FbSel where
  die : Die := 0
  pend : Option Die := .none
  count : Option Nat := .none
  deriving DecidableEq, Repr

/-- An access waiting for a satellite bus (R380 to R383): die, initiator, chip select, whether it writes, satellite
address, data written, lock request, and for an atomic operation the value read once it has been read (R383). -/
structure SatAcc where
  die : Die
  who : Nat
  cs : Nat
  write : Bool
  addr : Nat
  data : List Byte
  lock : LockOp
  got : Option Nat := .none
  deriving DecidableEq, Repr

/-- One satellite bus: accesses waiting, the one running, the load-reserved access that holds a lock, whether the next access after a
forced release fails, which die was served last. -/
structure SatBus where
  waiting : List SatAcc := []
  running : Option SatAcc := .none
  lock : Option SatAcc := .none
  forced : Bool := false
  last : Die := 1
  deriving DecidableEq, Repr

/-- The field die (R17): selectors, satellite buses, the controllers of its wake domain (R372). -/
structure FieldDie where
  sels : Table FbSel := []
  buses : Table SatBus := []
  dwake : List Nat := []
  deriving DecidableEq, Repr

/-! ### Ethernet ports (spec/10) -/

/-- A frame a MAC sends or has dequeued: length with FCS, FCS, the bytes without it; the class of a frame of the core, and whether an
express frame may preempt it (R413); of a control frame the classes it names and whether it is XOFF (R411); of an event message of the
time unit the type and the sequence identifier of the message that carries its egress stamp (R472). -/
structure MacFrame where
  len : Nat
  fcs : Nat
  bytes : List Byte
  cls : Option Nat := .none
  pre : Bool := false
  ctl : Option (Nat × Bool) := .none
  follow : Option (Nat × Nat) := .none
  deriving DecidableEq, Repr

/-- One port of the port die (R399, R400): the die connected, the last accepted serial, a change that waits for a frame
boundary, and what the port die shows alike to both dies (R419): the link, its signal quality, and whether the last change was made
without a command. -/
structure PortSel where
  die : Die := 0
  serial : Option Nat := .none
  pend : Option Die := .none
  link : Bool := false
  sqi : Nat := 0
  auto : Bool := false
  deriving DecidableEq, Repr

/-- A stored frame (R424, R426): its number, ingress code, class, stamp, length with FCS, stored FCS, error flags, the
bytes without FCS and without the outer tag, its tag when the core manages it (VID and PCP), ports and partitions it is
for, its reference count, whether it is a field-bus frame of the host port, and its number in the sequence of its ingress. -/
structure SwFrame where
  id : Nat
  ingress : Nat
  cls : Nat
  stamp : Nat
  len : Nat
  fcs : Nat
  err : Nat := 0
  bytes : List Byte
  tag : Option (Nat × Nat) := .none
  ports : List Nat := []
  parts : Nat := 0
  refs : Nat := 0
  field : Bool := false
  seq : Nat := 0
  deriving DecidableEq, Repr

/-- One MAC: pause end times of the classes (R410), control frames to send (class mask, whether XOFF), frames of the
time and zone-group units to send, the frame being sent, frames dequeued that wait for their echo, echoes that wait for their frame (length and FCS), attempts of the frame
being sent and the frame that a collision holds back (R403), verification attempts made (R414), the end of the wake from LPI
(R406). `preempted`: the frame whose later fragments wait (R413), with the bytes `done` of it sent and the fragments `frags` after its
first; `fragged`: frames of more fragments whose echo is to come, by length and FCS (R401). `sentAt`: the stamp of the frame sent last
(R398), `lastEnd`: its end, `holdTo`: the instant to which a forced collision defers (R404), `beacon`: the start of the PLCA cycle and
`turn`: the frames sent in it (R405). `fifo`: frames received in DROWSE, which wait for the switch core (R642). -/
structure MacSt where
  pauseEnd : Table Nat := []
  ctl : List (Nat × Bool) := []
  unit : List MacFrame := []
  tx : Option MacFrame := .none
  deq : List MacFrame := []
  echoes : List (Nat × Nat) := []
  attempts : Nat := 0
  retry : Option MacFrame := .none
  verify : Option Nat := .none
  wake : Option Nat := .none
  preempted : Option MacFrame := .none
  done : Nat := 0
  frags : Nat := 0
  fragged : List (Nat × Nat × Nat) := []
  sentAt : Nat := 0
  lastEnd : Nat := 0
  holdTo : Nat := 0
  beacon : Option Nat := .none
  turn : Nat := 0
  fifo : List SwFrame := []
  deriving DecidableEq, Repr

/-! ### Switch core (spec/11) -/

/-- A feed entry (R457): egress port, partition and ring for P24, class, ingress code, length, FCS, serial, and the
number of the frame in the active core with whether the standby has acknowledged the entry. -/
structure FeedEntry where
  port : Nat
  part : Nat
  ring : Nat
  cls : Nat
  ingress : Nat
  len : Nat
  fcs : Nat
  serial : Nat
  id : Nat
  acked : Bool := false
  deriving DecidableEq, Repr

/-- A gate control list (R455): base time and cycle in ns, gate states and interval of each entry, and the group time in ns
at which the entry in force began. -/
structure GateList where
  base : Nat := 0
  cycle : Nat := 0
  since : Nat := 0
  entries : List (Nat × Nat) := []
  deriving DecidableEq, Repr

/-- A host frame passed over P26 with its descriptor (R446 to R448): partition, ring, TXHEAD after it, output sequence,
type, class, port, stamp, the ingress sequence and bytes. -/
structure PairFrame where
  part : Nat
  ring : Nat
  head : Word
  seq : Word
  typ : Nat
  cls : Nat
  port : Nat
  stamp : Nat
  iseq : Nat
  bytes : List Byte
  deriving DecidableEq, Repr

/-- One cell in the fabric (R422, R424): the number of its frame, its place in the frame, the output lane it goes to. -/
structure FabCell where
  id : Nat
  idx : Nat
  out : Nat
  deriving DecidableEq, Repr

/-- A frame whose cells are on their way (R424, R425, R429): the number of its cells, those the egress memory has, and the instant at
which the first cell was sent. -/
structure Flight where
  cells : Nat
  got : List Nat := []
  first : Option Nat := .none
  deriving DecidableEq, Repr

/-- One intermediate buffer (R428, R429): skipped, its test passed, times at which it was skipped. -/
structure LaneBuf where
  skipped : Bool := false
  tested : Bool := false
  skips : List Nat := []
  deriving DecidableEq, Repr

/-- One switch core. Queues are keyed port × 8 + class, those of P24 as 256 + partition × 8 + ring, and hold frame
numbers; charges are keyed port × 9 + class, class 8 being the charge without a class of its own (R438). `seqs`: by ingress code, the
sequence of its next frame (R424); `flights`: by frame number, a frame whose cells are on their way, none while it waits for its lane;
`slot`: the next slot of the pattern; `lanes`: by input lane, the cells that wait for their slot; `bufCells`: by buffer × 16 + output lane,
the cells that an intermediate buffer holds (R422, R424); `turns`: by lane, the port served last (R423). -/
structure SwcSt where
  next : Nat := 0
  fabric : List SwFrame := []
  seqs : Table Nat := []
  flights : Table (Option Flight) := []
  slot : Nat := 0
  lanes : Table (List FabCell) := []
  bufCells : Table (List FabCell) := []
  turns : Table Nat := []
  frames : List SwFrame := []
  queues : Table (List Nat) := []
  charges : Table Nat := []
  credits : Table (Int × Nat) := []
  gates : Table GateList := []
  fdb : Table Nat := []
  vlan : Table (Nat × Nat) := []
  vlanRec : Bool := false
  awaiting : List FeedEntry := []
  feedIn : List FeedEntry := []
  lastFeed : Table (Option FeedEntry) := []
  bufs : Table LaneBuf := []
  p26 : List PairFrame := []
  pool : Nat := 0
  pvdAt : Table (Option Nat) := []
  written : Table Nat := []
  deriving DecidableEq, Repr

/-! ### Time unit (spec/12) -/

/-- The phase plan of a die (R492): stride and the base of each channel, in ns. -/
structure PhasePlan where
  stride : Nat := 0
  base : Table Nat := []
  deriving DecidableEq, Repr

/-- A gPTP port (R469, R495): its record, if one was applied, its state code, and its intervals (log2 seconds) with the
timeouts and the delay threshold in ns. -/
structure GptpPort where
  given : Bool := false
  state : Nat := 3
  logSync : Int := -3
  logPdelay : Int := 0
  logAnn : Int := 0
  syncTimeout : Nat := 3
  annTimeout : Nat := 3
  thresh : Nat := 800
  deriving DecidableEq, Repr

/-- A pulse output (R489): its owner, what ARM applied, whether it is armed and high, the next rise in ns, a held write to
PERIODL, and when the pulse that is high falls. -/
structure Pulse where
  owner : Option Nat := .none
  periodic : Bool := false
  width : Nat := 0
  start : Nat := 0
  period : Nat := 0
  armed : Bool := false
  high : Bool := false
  next : Nat := 0
  late : Bool := false
  heldLow : Option Word := .none
  fallAt : Nat := 0
  deriving DecidableEq, Repr

/-- The time unit of one die: the integrator and the last adjustments in units of 2^-32, consecutive good Syncs, the step
the servo wants in ns, the proposed step with its instant, the instant of the last step applied, consecutive exchanges out
of bounds, announced priority vectors by port, ports, sequence identifiers (port × 16 + message type), pulses, lane pins
enabled; the Sync accepted last, as a relay passes it on (R474): its origin, its correction in units of 2^-16 ns, and the time at which
the upstream system sent it; by port the instant of the last Announce sent; the stamp and the interval of the Sync accepted last, the
instant at which HOLDOVER was entered, and by port the instant of the last Announce heard (R469, R476). -/
structure TimeSt where
  integ : Int := 0
  adjs : List Int := []
  good : Nat := 0
  want : Option Int := .none
  step : Option (Int × Nat) := .none
  stepped : Option Nat := .none
  apart : Nat := 0
  anns : Table Nat := []
  ports : Table GptpPort := []
  seqs : Table Nat := []
  pulses : Table Pulse := []
  pins : List Nat := []
  upSync : Option (Nat × Int × Int) := .none
  annAt : Table (Option Nat) := []
  syncAt : Option (Nat × Nat) := .none
  holdAt : Option Nat := .none
  annHeard : Table (Option Nat) := []
  deriving DecidableEq, Repr

/-! ### Application cores, duplexes and epochs (spec/13, spec/15) -/

/-- The kinds of transactions that leave a core (R501): read, write, write-back of a J line, atomic access. -/
inductive EgKind where
  | read | write | writeBack | atomic
  deriving DecidableEq, Repr

/-- A transaction of one core at the duplex egress: kind, physical address, size, byte mask, data, its tags (partition,
hypervisor mode, sealed world), the instruction that made it, and of an atomic access the operation (0 AMO, 1 LR, 2 SC). -/
structure EgTx where
  kind : EgKind
  addr : Nat
  size : Nat
  mask : Nat := 0
  data : List Byte := []
  part : Nat := 0
  hyp : Bool := false
  sealed : Bool := false
  insn : Word := 0#32
  op : Nat := 0
  deriving DecidableEq, Repr

/-- A TLB entry (R595): VMID, ASID, whether global, whether a guest translation, virtual and physical page, level (4 KB,
2 MB, 1 GB, 512 GB), PTE flags. -/
structure TlbEntry where
  vmid : Nat
  asid : Nat
  glob : Bool
  virt : Bool
  vpage : Nat
  ppage : Nat
  level : Nat
  flags : Nat
  deriving DecidableEq, Repr

/-- One application core: its registers, whether it is out of reset, retired instructions in the open epoch (R511), its
transactions at the egress (oldest first), the instruction that waits for a joined result, the value it offers in AGREE,
the J lines it holds and the bytes of them it has written, its LR reservation, its TLB, whether an error stopped it
(R593), whether it is in the sealed world, and whether WENTRY must be its next instruction (R553). -/
structure AppCore where
  regs : CoreSt := {}
  run : Bool := false
  count : Nat := 0
  out : List EgTx := []
  wait : Option Word := .none
  offer : Option (Nat × BitVec 64) := .none
  lines : List Nat := []
  dirty : Table Byte := []
  resv : Option Nat := .none
  tlb : List TlbEntry := []
  stopped : Bool := false
  sealed : Bool := false
  entry : Bool := false
  deriving DecidableEq, Repr

/-- A record of the input log (R515, R561): count, type, the bytes after the header. -/
structure LogRec where
  count : Nat
  typ : Nat
  body : List Byte
  deriving DecidableEq, Repr

/-- An output (R519): partition, sequence, epoch, address, byte mask, data. -/
structure Output where
  part : Nat
  seq : Nat
  epoch : Nat
  addr : Nat
  mask : Nat
  data : List Byte
  sealed : Bool
  deriving DecidableEq, Repr

/-- A sealed call in progress on a duplex (R552 to R560): gate, calling partition, group time in ns of its WGATE, the time in
ns the watchdog did not count. -/
structure SealedCall where
  gate : Nat
  part : Nat
  since : Nat
  idle : Nat := 0
  deriving DecidableEq, Repr

/-- A journal (R514), with the architectural state as registers. -/
structure Journal where
  part : Nat
  die : Die
  dux : Nat
  epoch : Nat
  endCount : Nat
  logPos : Nat
  nextSeq : Nat
  state : CoreSt
  call : Option SealedCall := .none
  lines : List (Nat × List Byte) := []
  held : List Output := []
  deriving DecidableEq, Repr

/-- A delivery of the event controller that waits for its count (R511): count, interrupt-pending bit, whether set. -/
structure Deliv where
  count : Nat
  bit : Nat
  on : Bool
  body : List Byte
  deriving DecidableEq, Repr

/-- One duplex of a die: cores A (q0) and B (q1), deliveries to come, the end count of the epoch, whether CKPT retired and the
core that retired it first, the partition that follows the epoch, when the epoch began (ns), the J lines taken in it, held
outputs, prompt outputs with the log position they wait for, when the run of lag stalls began and its last stall ended, when a seal wait or lag
stall began (ns), times it failed (ns), whether it failed, the input log still to be replayed, the sealed call in progress, when its
BIST ran last (ns), and whether DUX_CMD asked for one that is not done. As home of a binding: the journal kept until it is sealed, whether it was sent, whether its seal acknowledgement has arrived, when its epoch ended
(ns), the bytes of log made and acknowledged. As spare: the log stored since the last sealed epoch, its end position, the
journal arriving, whether it was asked for again, the last sealed journal, whether its held outputs may not all have been
released, and whether the home has failed. -/
structure DuxSt where
  cores : PerDie AppCore := ⟨{}, {}⟩
  deliv : List Deliv := []
  endAt : Option Nat := .none
  ckpt : Bool := false
  ckptBy : Option Die := .none
  next : Option Nat := .none
  began : Nat := 0
  dirty : List Nat := []
  held : List Output := []
  prompt : List (Output × Nat) := []
  stallAt : Option Nat := .none
  stallEnd : Option Nat := .none
  waitAt : Option Nat := .none
  fails : List Nat := []
  failed : Bool := false
  replay : Option (List LogRec) := .none
  call : Option SealedCall := .none
  lastBist : Nat := 0
  bistCmd : Bool := false
  journal : Option Journal := .none
  sent : Bool := false
  acked : Bool := false
  endedAt : Nat := 0
  logMade : Nat := 0
  logAcked : Nat := 0
  stored : List LogRec := []
  storedPos : Nat := 0
  arriving : Option Journal := .none
  asked : Bool := false
  last : Option Journal := .none
  mayRelease : Bool := false
  overflow : Bool := false
  deriving DecidableEq, Repr

/-- What a die holds of a partition's epochs: the number of the open epoch and of the last sealed one, the last released
output sequence, whether a role swap is to be made at the epoch's end, when its interruption began (ns), how often its home has moved
between the dies (R365). -/
structure PartCk where
  epoch : Nat := 0
  sealedNo : Nat := 0
  released : Option Nat := .none
  swap : Bool := false
  lostAt : Option Nat := .none
  moves : Nat := 0
  deriving DecidableEq, Repr

/-! ### Pair link (spec/01) -/

/-- What a pair-link flit carries (R31): a notice that changes nothing by itself (token move, duplex failure, window read and its
answer, donated bytes, credit), a seal-ready, the sealed world's state, a command for a switch die, a seal acknowledgement (duplex and
epoch), a feed entry, a stream-order entry (cluster), an input-log record (duplex), an epoch journal with the event controller's
snapshot (spare and home duplex), a mirrored write, bytes of a memory write under a mask (R500, R713), a host frame of P26. -/
inductive FlitBody where
  | notice (kind arg : Nat)
  | ready (n : SealReady)
  | world (st : Nat)
  | serial (sd typ ch low : Nat)
  | ack (dux epoch : Nat)
  | feed (e : FeedEntry)
  | order (cluster : Nat) (e : OrderEntry)
  | log (dux : Nat) (r : LogRec)
  | journal (spare home : Nat) (j : Journal) (snap : EvcSnap)
  | mirror
  | write (addr mask : Nat) (data : List Byte)
  | frame (f : PairFrame)
  | evc (kind idx v : Nat)
  deriving DecidableEq, Repr

/-- One pair-link flit: its class (R31), what it carries, and the ciphertext under the pair key in which content of a sealed region
leaves the die (R765); the receiver decrypts it, so what it takes is the body (log entry 85). -/
structure Flit where
  cls : Fin 4
  body : FlitBody
  cipher : List Byte := []
  deriving DecidableEq, Repr

/-- One direction of the pair link: flits waiting in the sender, flits sent and not yet accepted (the replay buffer,
oldest first), flits accepted by the receiver, failed checks of the present flit in succession, whether a replay is asked
for, the CRC errors of the last 1 ms with lane and time in ns, and when the last retraining began (ns) (R28 to R30). -/
structure LinkDir where
  waiting : List Flit := []
  sent : List Flit := []
  accepted : Nat := 0
  failed : Nat := 0
  replay : Bool := false
  errs : List (Nat × Nat) := []
  since : Nat := 0
  deriving DecidableEq, Repr

/-! ### Worlds and partitions (spec/14) -/

/-- The sealed world on one die: group times in ns of its restarts, the sealed code records (sequence, destination, body), the
code digest (R565), the partner's change of state that has not been taken (R562), when the restart began (ns), the destinations and
lengths of the open images (R609), the start address. -/
structure WldSt where
  restarts : List Nat := []
  codes : List (Nat × Nat × List Byte) := []
  digest : Option (BitVec 384) := .none
  notice : Option Nat := .none
  restartAt : Nat := 0
  images : List (Nat × Nat) := []
  entry : Option Nat := .none
  noEntry : Bool := false
  deriving DecidableEq, Repr

/-! ### Cistern (spec/17) -/

/-- An errand (R656): earliest start and deadline in RTC seconds, duration limit in s, cost in mWh. Its state is in CIS_ERRSTs. -/
structure Errand where
  start : Nat := 0
  deadline : Nat := 0
  limit : Nat := 0
  cost : Nat := 0
  deriving DecidableEq, Repr

/-- The energy policy (R667), in mWh, with the defaults of a module without a policy record. -/
structure Policy where
  initial : Nat := 5000
  grant : Nat := 1000
  max : Nat := 20000
  floor : Nat := 1000
  deriving DecidableEq, Repr

/-- The energy ledger, kept across every reset but a power-on module reset (R651, R653): whether the initial balance is still to
be set by a policy record, the errands, the errand that runs with its start in RTC seconds and the energy metered since (µWh),
whether the module is awake for an errand, what integration has left below one unit (charge and energy by feed, balance,
harness loss), the refusals that each die has still to report (slot, reason). -/
structure LedgerSt where
  fresh : Bool := false
  errands : Table Errand := []
  running : Option Nat := .none
  runStart : Nat := 0
  runEnergy : Int := 0
  forErrand : Bool := false
  qRest : Table Int := []
  eRest : Table Int := []
  balRest : Int := 0
  harnRest : Nat := 0
  reports : PerDie (List (Nat × Nat)) := ⟨[], []⟩
  deriving DecidableEq, Repr

/-- The Cistern's logic that a module reset clears, but for the wake-pin levels: the energy policy in force and the first writer
and body of each energy record, the last TAG of each register and requester (R666), the target of the sleep request in hand, the pin SENTINEL is to watch, the wake sources
latched as CIS_WAKE shows them, the filtered levels of the WAKE pins, whether a grant was accepted since the last wake, the times
of lane resynchronisations and regulator failures (RTC units), the fault reports that wait for a holder's answer (token, sender),
a held write to ALARML, the last four current samples of each feed in mA, the dies whose event retention is to be restored, when the sleep request in hand was made, the last failure of each regulator set in
RTC units (R640), and when the answer of each token's holder was asked for (R662). -/
structure PowerSt where
  policy : Policy := {}
  written : Table (Option (Die × List Byte)) := []
  tags : Table (Option Nat) := []
  target : Nat := 0
  pin : Nat := 0
  latched : Nat := 0
  levels : BitVec 8 := 0#8
  granted : Bool := false
  laneTimes : Table (List Nat) := []
  regTimes : Table (List Nat) := []
  asked : Table (Option Die) := []
  heldAlarm : Option Word := .none
  recent : Table (List Int) := []
  restore : PerDie Bool := ⟨false, false⟩
  prepAt : Nat := 0
  failAt : Table Nat := []
  askedAt : Table Nat := []
  deriving DecidableEq, Repr

/-! ### Zone groups (spec/18) -/

/-- What a zone-group unit knows of another module: when it last heard its heartbeat (ns, none when never), the heartbeat's source
address, epoch, flags and clockIdentity, the times of its late heartbeats within the last second, the last late one and the last
report of kind 2 about it (ns), whether it is lost or has left. -/
structure ZgMember where
  heard : Option Nat := .none
  addr : Nat := 0
  epoch : Nat := 0
  flags : Nat := 0
  clock : Nat := 0
  lates : List Nat := []
  lastLate : Nat := 0
  slowRep : Nat := 0
  lost : Bool := false
  left : Bool := false
  deriving DecidableEq, Repr

/-- An observation to report (R682): its subject, the slot instant (ns), whether a report of it was heard before its slot, whether
its slot has passed. -/
structure ZgObs where
  subj : Nat
  kind : Nat
  detail : Nat
  due : Nat
  seen : Bool := false
  done : Bool := false
  deriving DecidableEq, Repr

/-- A roaming record (R697): home module and partition, state region. -/
structure ZgRoam where
  home : Nat
  part : Nat
  base : Nat
  size : Nat
  deriving DecidableEq, Repr

/-- A snapshot that is arriving (R687): its number and the pieces received, by offset. -/
structure ZgSnap where
  snap : Nat
  parts : Table (List Byte) := []
  deriving DecidableEq, Repr

/-- A remote access of this module (R690): tag, target, initiator and what it asks; when it was sent, none while it waits. -/
structure ZgReq where
  tag : Nat
  member : Nat
  who : Initiator
  op : Nat
  fn : Nat
  off : Nat
  data : Nat
  part : Nat
  seq : Nat
  sent : Option Nat := .none
  deriving DecidableEq, Repr

/-- A remote reservation (R693): die and block instance, reserved word, holder, when the locking read arrived (ns). -/
structure ZgLock where
  inst : Nat
  off : Nat
  member : Nat
  since : Nat
  deriving DecidableEq, Repr

/-- The zone-group unit of one die: the group record's address, VLAN field and port mask; the remote access record (first and last
requester, read mask, write mask); roaming records by partition; the modules known; IDs found duplicate; when it last held a view
that includes it, and last saw any VIEW (ns); frames sent by type, and when the die's unit last had cause to send one; when a refused JOIN was last answered or repeated (ns);
observations; reports heard and not acknowledged (subject, kind, detail, reporter); when each ledger entry was opened and last
reported (ns); the holder of each granted partition, the partitions released, and the modules that hold a snapshot, all keyed home
module × 32 + home partition; snapshots arriving; requests and the next tag; reservations, requests that wait for one, holders
that lost one (member, instance); the last write sequence accepted by requester × 256 + partition. -/
structure ZgSt where
  addr : Nat := 0
  vlan : Nat := 0
  mask : Nat := 0
  remote : Option (Nat × Nat × Nat × Nat) := .none
  roam : Table (Option ZgRoam) := []
  members : Table ZgMember := []
  dups : List Nat := []
  viewAt : Option Nat := .none
  anyView : Nat := 0
  seqs : Table Nat := []
  sentAt : Table (Option Nat) := []
  refusedAt : Nat := 0
  obs : List ZgObs := []
  heard : List (Nat × Nat × Nat × Nat) := []
  led : Table (Nat × Nat) := []
  grants : Table (Option Nat) := []
  released : List Nat := []
  holders : Table (List Nat) := []
  arriving : Table (Option ZgSnap) := []
  reqs : List ZgReq := []
  nextTag : Nat := 0
  locks : List ZgLock := []
  waits : List ZgFrame := []
  forced : List (Nat × Nat) := []
  accepted : Table (Option Nat) := []
  deriving DecidableEq, Repr


/-! ### Security (spec/21) -/

/-- A key in a volatile key slot (R761). -/
structure KeySlot where
  typ : Nat
  key : List Byte
  deriving DecidableEq, Repr

/-- A SEC operation in progress (R774): its tag, where its output goes and what it will answer. -/
structure SecOp where
  tag : Nat
  out : Nat
  data : List Byte
  refused : Nat
  fill : Option (Nat × KeySlot)
  deriving DecidableEq, Repr

/-- The sealed island of one die: key slots, the operation in progress, whether a health test stopped the DRBG, the challenge with its
time (ns), the scope an UNLOCK asks for with what its verification found, the debug policy limit, the area of the sealed key store that a record
gives until the seal (R78). -/
structure SecSt where
  slots : Table (Option KeySlot) := []
  op : Option SecOp := .none
  drbgStop : Bool := false
  chal : Option (BitVec 256) := .none
  verifying : Option (Nat × Bool) := .none
  policy : Option Nat := .none
  chalAt : Nat := 0
  store : Option (Nat × Nat) := .none
  deriving DecidableEq, Repr

/-! ### Field update (spec/19) -/

/-- The update state of one die beside its registers and the journal in MRAM: the group grant standing at a coordinator with the time
of its last progress, when this module last sent a request or its progress (ns), whether R713 has copied the J regions since the pair link came up, the cut-over in progress (ns at the
end of its step 1, partitions that have not run an instruction yet), when the partner was last released (ns). -/
structure UpdSt where
  holder : Option Nat := .none
  grantAt : Nat := 0
  sentAt : Option Nat := .none
  copied : Bool := false
  cut : Option (Nat × List Nat) := .none
  relAt : Nat := 0
  deriving DecidableEq, Repr

/-! ### The whole machine -/

/-- What a Q-die is doing: without supply, held in reset, running, or writing a dump (R751). -/
inductive DieRun where
  | off | held | running | dumping
  deriving DecidableEq, Repr

/-- What a die reset returns to its reset value (R104). `tags` holds the last TAG of each tagged register of the die's blocks and
each requester (R666). -/
structure DieVol where
  boot : BootSt := {}
  rills : List RillHold := []
  mirror : List MirrorWrite := []
  qsd : Table QSd := []
  lanes : Table Lane := []
  wires : Table Wire := []
  evc : EvcSt := {}
  evcIn : List (Nat × Nat × Nat) := []
  flt : FltSt := {}
  sec : SecSt := {}
  clusters : Table Cluster := []
  gw : GwSt := {}
  plan : PhasePlan := {}
  tim : TimeSt := {}
  wld : WldSt := {}
  dux : Table DuxSt := []
  ck : Table PartCk := []
  fb : Table FbCtl := []
  mac : Table MacSt := []
  swc : SwcSt := {}
  zg : ZgSt := {}
  upd : UpdSt := {}
  tags : Table (Option Nat) := []
  deriving DecidableEq, Repr

/-- What a die keeps across a die reset: what it is doing, its supply, whether its DRAM is refreshed; the times of its glitch resets
(RTC) and whether it stays in reset for them; attestation off after zeroisation; dumps in DRAM and in the
bulk store with the count that orders them; the boot nonce; the output sequences recorded in MRAM; the repair table (spare rows
used by memory × 256 + bank, DRAM banks whose spare row is used, rows replaced with memory, bank, row and whether a word was
lost); the area of the sealed key store in MRAM and the bytes used of it; whether the persistent summary was rebuilt and not
cleared since (R735); the blocks drawn from the DRBG, whose values are free and never come twice. -/
structure DieKeep where
  run : DieRun := .off
  supplied : Bool := false
  dramRefresh : Bool := false
  glitches : List Nat := []
  glitchStuck : Bool := false
  attestOff : Bool := false
  dramDumps : Table (Option Dump) := []
  bulkDumps : Table (Option Dump) := []
  dumpSeq : Nat := 0
  bootNonce : BitVec 256 := 0#256
  seqRec : Table Nat := []
  sramUsed : Table Nat := []
  dramUsed : List Nat := []
  rows : List (Nat × Nat × Nat × Bool) := []
  storeBase : Nat := 0
  storeSize : Nat := 0
  storeUsed : Nat := 0
  sumRebuilt : Bool := false
  drbgUsed : Nat := 0
  deriving DecidableEq, Repr

/-- The Cistern, the pins and the supplies (spec/03, spec/17, spec/22). `vauxAt`: when an overload was seen last (RTC units, R786). `sev5`: whether a die wrote a record of severity 5 since module
reset. `pinPend`: by lane pin, a selector change that waits for an edge of the newly named lane, with its instant and that lane's level then
(R487). -/
structure CisSt where
  powered : Bool := false
  resetN : Bool := true
  straps : List (BitVec 3) := []
  strapFault : Bool := false
  strapValue : Nat := 0
  limp : BitVec 4 := 0#4
  feedRev : PerDie Bool := ⟨false, false⟩
  vaux : Bool := true
  vauxTrip : Bool := false
  vauxAt : Nat := 0
  zeroise : Bool := false
  zeroReports : PerDie Bool := ⟨false, false⟩
  deferredParts : List Nat := []
  firstSeal : Bool := false
  resetting : Bool := false
  sev5 : PerDie Bool := ⟨false, false⟩
  rtcFrac : Nat := 0
  rtcSetAt : Nat := 0
  pps : Table Nat := []
  pinPend : Table (Option (Nat × Bool)) := []
  dupId : Bool := false
  pw : PowerSt := {}
  led : LedgerSt := {}
  deriving DecidableEq, Repr

/-- The state of the module. -/
structure State where
  /-- The register file of both dies, keyed by `regKey`; an unlisted register reads its reset value. -/
  regs : Table Word
  /-- The holding registers of R10, keyed by initiator and register. -/
  held : Table Word
  /-- Boot ROM, SRAM, signal store, nib memories and DRAM of both dies; an unlisted byte reads 0. -/
  mem : List Host.Cell
  /-- The MRAM bytes that have been written. -/
  mram : List Host.Cell
  /-- The bulk-store bytes that have been written. -/
  bulk : List Host.Cell
  /-- Group time of each die in units of 2^-32 ns. -/
  now : PerDie Nat
  /-- The counter of free values taken; the model's own. -/
  free : Nat
  /-- The answer given last to a command's sender; the model's own. -/
  answer : Answer
  link : PerDie LinkDir
  sds : Table SwitchDie
  field : FieldDie
  ports : Table PortSel
  vol : PerDie DieVol
  keep : PerDie DieKeep
  cis : CisSt
  /-- The security-version counter: one-time fuses blown (R52). -/
  fuse : Nat
  /-- Commands waiting, first in, first out. -/
  pending : List Instr
  deriving DecidableEq, Repr

/-- What a Q-die keeps right after a power-on module reset: it has supply and is held in reset (R81, R104). -/
def DieKeep.powerOn : DieKeep := { run := .held, supplied := true, dramRefresh := true }

/-- The machine right after a power-on module reset (R81, R104): every register at its reset value but the cause record of the
module reset (R109) and the balance (R653); memories with nothing listed; both Q-dies with supply, held in reset; the switch
dies still without power; no command waiting. The values no rule states are those of log entry 1. -/
def State.reset : State :=
  { regs := [(CIS_BALL, 5000000#32), (CIS_RSTMOD, 0x80010001#32)], held := [], mem := [], mram := [], bulk := [], now := ⟨0, 0⟩, free := 0,
    answer := .none, link := ⟨{}, {}⟩, sds := [], field := {}, ports := [], vol := ⟨{}, {}⟩,
    keep := ⟨DieKeep.powerOn, DieKeep.powerOn⟩, cis := { powered := true, led := { fresh := true } }, fuse := 0, pending := [] }

end Sys2Proof.Machine
end

