-- ==== Sys2Proof/Machine/Ops.lean ====
section
/-! DEFINITION. The named operations over registers, memories, switch dies, tokens, event sources, fault records and
Ductus records that the meanings are built from. -/

namespace Sys2Proof.Machine

/-- The mask with the bits of a list set. -/
def maskOf (l : List Nat) : Nat := l.foldl (fun m k => withBit m k true) 0

/-- What a meaning answers. -/
abbrev Out := Host.Outcome State Fault Refusal

/-! ### Facts of the package: switch dies and channels (R18) -/

/-- The type code of a switch die: 1 H, 2 M, 3 L, 4 B (R18). -/
def sdType (sd : Nat) : Nat := if sd < 4 then 1 else if sd < 10 then 2 else if sd < 15 then 3 else 4

/-- The index of a switch die within its type (R18). -/
def sdIndex (sd : Nat) : Nat := if sd < 4 then sd else if sd < 10 then sd - 4 else if sd < 15 then sd - 10 else sd - 15

/-- The number of channels of a switch die (PWR_DID.NCH). -/
def sdChans (sd : Nat) : Nat := match sdType sd with | 1 => 2 | 2 => 4 | 3 => 8 | _ => 2

/-- The global number of channel 0 of a switch die (R18). -/
def sdFirst (sd : Nat) : Nat :=
  match sdType sd with
  | 1 => 2 * sdIndex sd
  | 2 => 8 + 4 * sdIndex sd
  | 3 => 32 + 8 * sdIndex sd
  | _ => 72 + 2 * sdIndex sd

/-- The feed of a switch die: true is FEED_B (R18). -/
def sdFeedB (sd : Nat) : Bool :=
  match sdType sd with
  | 1 => decide (2 ≤ sdIndex sd)
  | 2 => decide (3 ≤ sdIndex sd)
  | 3 => decide (3 ≤ sdIndex sd)
  | _ => decide (2 ≤ sdIndex sd)

/-- The switch die that carries a global channel (R18). -/
def chSd (n : Nat) : Nat :=
  if n < 8 then n / 2 else if n < 32 then 4 + (n - 8) / 4 else if n < 72 then 10 + (n - 32) / 8 else 15 + (n - 72) / 2

/-- The continuous current of a switch die's channels in 10 mA units (R114). -/
def sdAmps (sd : Nat) : Nat := match sdType sd with | 1 => 4000 | 2 => 1200 | 3 => 300 | _ => 2000

/-- The reset value of PWR_DID (R18). -/
def didReset (sd : Nat) : Nat :=
  sdType sd + 16 * sdIndex sd + 256 * sdChans sd + 4096 * sdFirst sd + 2 ^ 19 * b2n (sdFeedB sd)

/-- The receive and transmit latency of a port at a rate code, as MAC_DLY shows it (R391, R398): MG ports P0 and P1, GE
ports P2 to P9, FE ports P10 to P17, SB ports P18 to P23. -/
def portDelay (p rate : Nat) : Nat :=
  if p < 2 then (match rate with | 2 => 420 + 260 * 2 ^ 16 | 1 => 610 + 350 * 2 ^ 16 | _ => 980 + 540 * 2 ^ 16)
  else if p < 10 then 380 + 220 * 2 ^ 16
  else if p < 18 then 1250 + 680 * 2 ^ 16 else 3100 + 1900 * 2 ^ 16

/-! ### The register file -/

/-- Whether a CIS register is kept by each die for itself (R109); the others read alike on both dies. -/
def cisPerDie (off : Nat) : Bool :=
  decide (0x400 ≤ off ∧ off < 0x40C) || decide (0x420 ≤ off ∧ off < 0x440)

/-- The key of a register: CIS registers are held once, all others once per die. -/
def regKey (d : Die) (off : Nat) : Nat :=
  if off < 0x10000 && !cisPerDie off then off else d.val * 0x1000000 + off

/-- The reset value of a register, by its key. -/
def regReset (key : Nat) : Word :=
  let d := key / 0x1000000
  let off := key % 0x1000000
  if off = ISL_ID then BitVec.ofNat 32 (0x1210 + d)
  else if off = ISL_CLKn 0 then 0x000200C8#32
  else if off = WLD_pCFG 0 then 1#32
  else if 0x100000 ≤ off ∧ off < 0x109800 ∧ (off - 0x100000) % 0x800 = 0 then
    BitVec.ofNat 32 (didReset ((off - 0x100000) / 0x800))
  else if 0xC0000 ≤ off ∧ off < 0xD8000 ∧ (off - 0xC0000) % 0x1000 = 0x3C then
    BitVec.ofNat 32 (portDelay ((off - 0xC0000) / 0x1000) 0)
  else match regDef? off with
    | some r => BitVec.ofNat 32 r.reset
    | none => 0#32

/-- The stored value of a register. -/
def State.rd (s : State) (d : Die) (off : Nat) : Word :=
  match tfind s.regs (regKey d off) with
  | some v => v
  | none => regReset (regKey d off)

/-- A register set. The table stays canonical: the reset value is not listed. -/
def State.wr (s : State) (d : Die) (off : Nat) (v : Word) : State :=
  { s with regs := if v = regReset (regKey d off) then terase s.regs (regKey d off)
                   else tput s.regs (regKey d off) v }

/-- A field of a register. -/
def State.fld (s : State) (d : Die) (off : Nat) (f : Fld) : Nat := f.get (s.rd d off)

/-- A one-bit field of a register. -/
def State.bit (s : State) (d : Die) (off : Nat) (f : Fld) : Bool := decide (s.fld d off f ≠ 0)

/-- Whether a partition is defined (R547). -/
def State.defined (s : State) (d : Die) (p : Nat) : Bool := decide (p = 0) || s.bit d (WLD_pCFG p) WLD_pCFG__DEFINED

/-- Whether every partition of a mask is defined. -/
def State.maskDefined (s : State) (d : Die) (m : Nat) : Bool := (List.range 32).all (fun p => !bitOf m p || s.defined d p)

/-- A field of a register set. -/
def State.setF (s : State) (d : Die) (off : Nat) (f : Fld) (x : Nat) : State := s.wr d off (f.set (s.rd d off) x)

/-- A count raised by `n`, saturating at the field's width. -/
def State.addSat (s : State) (d : Die) (off : Nat) (f : Fld) (n : Nat) : State :=
  s.setF d off f (satTo (2 ^ f.w - 1) (s.fld d off f + n))

/-- A count raised by 1, wrapping. -/
def State.incWrap (s : State) (d : Die) (off : Nat) (f : Fld) : State := s.setF d off f (s.fld d off f + 1)

/-- The whole of a register as a field. -/
def whole : Fld := ⟨0, 32⟩

/-- A field set on both dies. -/
def State.setBoth (s : State) (off : Nat) (f : Fld) (x : Nat) : State := (s.setF 0 off f x).setF 1 off f x

/-- The value of a 64-bit pair of registers. -/
def State.rd64 (s : State) (d : Die) (lo hi : Nat) : Nat := (s.rd d lo).toNat + 2 ^ 32 * (s.rd d hi).toNat

/-- A 64-bit pair of registers set. -/
def State.wr64 (s : State) (d : Die) (lo hi : Nat) (x : Nat) : State :=
  (s.wr d lo (BitVec.ofNat 32 x)).wr d hi (BitVec.ofNat 32 (x / 2 ^ 32))

/-- The volatile state of a die changed. -/
def State.updVol (s : State) (d : Die) (f : DieVol → DieVol) : State := { s with vol := s.vol.upd d f }

/-- The kept state of a die changed. -/
def State.updKeep (s : State) (d : Die) (f : DieKeep → DieKeep) : State := { s with keep := s.keep.upd d f }

/-- A change of a die's update state. -/
def State.updUpd (s : State) (d : Die) (f : UpdSt → UpdSt) : State := s.updVol d (fun v => { v with upd := f v.upd })

/-- The Cistern's state changed. -/
def State.updCis (s : State) (f : CisSt → CisSt) : State := { s with cis := f s.cis }

/-- The answer to the command's sender set. -/
def State.reply (s : State) (a : Answer) : State := { s with answer := a }

/-- A fresh free value of `w` bits (Config.freeWord; log entry 6) handed to a continuation. -/
def State.withFree (s : State) (f : Nat → State → State) : State :=
  f (Config.freeWord s.free).toNat { s with free := s.free + 1 }

/-- A change of the Cistern's sleep and arbiter logic, and of its energy ledger. -/
def State.updPw (s : State) (f : PowerSt → PowerSt) : State := s.updCis (fun c => { c with pw := f c.pw })
def State.updLed (s : State) (f : LedgerSt → LedgerSt) : State := s.updCis (fun c => { c with led := f c.led })

/-- Wake sources latched once a sleep is committed (R646), as the bits of CIS_WAKE. -/
def State.latchWake (s : State) (mask : Nat) : State :=
  if s.fld 0 CIS_STAT CIS_STAT__STATE = 0 then s else s.updPw (fun p => { p with latched := Nat.lor p.latched mask })

/-! ### Dies, links and time -/

/-- Whether a die runs (is supplied, out of reset and not writing a dump). -/
def State.alive (s : State) (d : Die) : Bool := decide ((s.keep.get d).run = .running)

/-- Whether the module runs: the power state is RUN (CIS_STAT.STATE). -/
def State.inRun (s : State) : Bool := decide (s.fld 0 CIS_STAT CIS_STAT__STATE = 0)

/-- The phase of the field update in the codes of R705, as a die that runs shows it. -/
def State.updPhase (s : State) : Nat := s.fld (if s.alive 0 then 0 else 1) UPD_STAT UPD_STAT__PHASE

/-- Whether the update is in its split, cut-over included (R712), and whether Q-die 1 boots or runs the new image beside the old
one: from BOOT1 on (log entry 14). -/
def State.split (s : State) : Bool := decide (s.updPhase = 6 ∨ s.updPhase = 7)
def State.apart (s : State) : Bool := decide (s.updPhase = 5) || s.split

/-- Whether the switch cores select frames: in RUN with no sleep entry in preparation (R644), and in no cut-over (R715). -/
def State.selects (s : State) : Bool := s.inRun && !s.bit 0 CIS_STAT CIS_STAT__PREP && decide (s.updPhase ≠ 7)

/-- The group time of a die in nanoseconds (R463). -/
def State.ns (s : State) (d : Die) : Nat := s.now.get d / 2 ^ 32 % 2 ^ 64

/-- Whether the pair link retrains on four lanes: training with a half of the lanes in lock (R29). -/
def State.retraining (s : State) : Bool :=
  decide (s.fld 0 ISL_PLSTAT ISL_PLSTAT__STATE = 1 ∧ s.fld 0 ISL_PLSTAT ISL_PLSTAT__LANEOK ≠ 0)

/-- Whether the pair link carries flits: up on 8 or 4 lanes, or retraining, when flits wait and none is lost (R29). -/
def State.linkUp (s : State) : Bool :=
  let st := s.fld 0 ISL_PLSTAT ISL_PLSTAT__STATE
  decide (st = 2 ∨ st = 3) || s.retraining

/-- Whether what crosses the pair link arrives now: the link is up and does not retrain (R29). -/
def State.linkFlows (s : State) : Bool := s.linkUp && !s.retraining

/-- Whether the partner shares what is mirrored: it runs, the link is up, and the dies do not run different images (R41, R712). -/
def State.joint (s : State) (d : Die) : Bool := s.linkUp && s.alive d.other && !s.apart

/-- The labels of the keys of R762. -/
def labelBytes (l : List Nat) : List Byte := l.map (BitVec.ofNat 8)

/-- The pair key (R762), under which sealed content crosses the pair link (R765). -/
def pairKey : List Byte := Config.kdf Config.moduleSecret (labelBytes [0x46, 0x56, 0x5A, 0x2D, 0x50, 0x41, 0x49, 0x52])

/-- A flit given to a die's pair-link sender (R31), where it waits while the link retrains (R29); nothing is queued while the link is
down or lost. `cipher` is the part of its content that leaves the die encrypted (R765). -/
def State.plSend (s : State) (d : Die) (cls : Fin 4) (body : FlitBody) (cipher : List Byte := []) : State :=
  if s.linkUp then { s with link := s.link.upd d (fun l => { l with waiting := l.waiting ++ [⟨cls, body, cipher⟩] }) } else s

/-- A flit that only tells the partner of something, or that stands for bytes the command moves itself (log entry 69). -/
def State.plNotice (s : State) (d : Die) (cls : Fin 4) (kind arg : Nat) : State := s.plSend d cls (.notice kind arg)

/-- Whether the sender of a die has nothing of a class above 0 to send first (R31). -/
def State.classZero (s : State) (d : Die) : Bool := (s.link.get d).waiting.all (fun f => decide (f.cls = 0))

/-- Whether a read over the pair link has waited longer than 50 µs for the end of a retraining (R34). -/
def State.windowLate (s : State) (d : Die) : Bool := s.retraining && decide ((s.link.get d).since + 50000 < s.ns d)

/-- The Ductus state of a die in the codes of UPD_DSTAT.STATE. -/
def State.dstate (s : State) (d : Die) : Nat := s.fld d UPD_DSTAT UPD_DSTAT__STATE

/-- Whether a die has sealed (R74). -/
def State.isSealed (s : State) (d : Die) : Bool := decide (s.dstate d = 4)

/-- A die that runs, Q-die 0 before Q-die 1. -/
def State.anyDie (s : State) : Die := if s.alive 0 then 0 else 1

/-- WLD_pSTAT.RST of a partition set on a die (R548); when it was is noted, for the condition of R739. -/
def State.holdReset (s : State) (d : Die) (p : Nat) : State :=
  let note := fun (v : DieVol) => { v with flt := { v.flt with
    heldReset := tset false v.flt.heldReset p false, heldAt := tset 0 v.flt.heldAt p (s.ns d) } }
  if s.bit d (WLD_pSTAT p) WLD_pSTAT__RST then s else (s.setF d (WLD_pSTAT p) WLD_pSTAT__RST 1).updVol d note

/-- The die that holds a token: 0 to 7 nib clusters, 8 the switch core (R40, R662). -/
def State.holder (s : State) (t : Nat) : Die := if bitOf (s.fld 0 CIS_TOKEN CIS_TOKEN__DIE) t then 1 else 0

end Sys2Proof.Machine

namespace Sys2Proof

/-- Whether an initiator is partition 0 or a management core, the writers most command registers accept. -/
def Initiator.isManager : Initiator → Bool
  | .mgmt _ => true
  | .part p => decide (p = 0)
  | _ => false

/-- Whether an initiator is a given partition, partition 0 or a management core. -/
def Initiator.isOwner (who : Initiator) (p : Nat) : Bool :=
  who.isManager || (match who with | .part q => decide (q.val = p) | .sealed q => decide (q.val = p) | _ => false)

/-- Whether an initiator is an application core. -/
def Initiator.isCore : Initiator → Bool
  | .part _ | .sealed _ => true
  | _ => false

/-- Whether an offset is in the self page of the event controller (R635). -/
def selfPage (off : Nat) : Bool := decide (0x40000 ≤ off ∧ off < 0x40030)

/-- A number that tells initiators apart (for their holding registers, R10). -/
def Initiator.num : Initiator → Nat
  | .mgmt d => d.val
  | .part p => 16 + p.val
  | .loader d => 2 + d.val
  | .nib d c => 64 + 8 * d.val + c.val
  | .dma p => 96 + p.val
  | .debug => 4
  | .sealed p => 128 + p.val


end Sys2Proof

namespace Sys2Proof.Machine

/-- The key of the holding register of an initiator for a register of a die (R10). -/
def heldKey (d : Die) (who : Initiator) (off : Nat) : Nat := d.val * 2 ^ 40 + who.num * 2 ^ 24 + off

/-! ### Cause records (R109) -/

/-- A cause record written: cause, requester code, COUNT raised, VALID. -/
def State.causeRecord (s : State) (d : Die) (off cause req : Nat) : State :=
  (((s.setF d off CIS_RSTMOD__CAUSE cause).setF d off CIS_RSTMOD__REQ req).addSat d off CIS_RSTMOD__COUNT 1).setF d off
    CIS_RSTMOD__VALID 1

/-- A cause record of a reset that may be part of one not complete: the first cause stands (R108). -/
def State.causeAgain (s : State) (d : Die) (off cause req : Nat) (going : Bool) : State :=
  if going && s.bit d off CIS_RSTMOD__VALID then s else s.causeRecord d off cause req

/-! ### Memories (R32) -/

/-- The key of a byte of a die's address map. -/
def memKey (d : Die) (a : Nat) : Nat := d.val * 2 ^ 48 + a

/-- Whether an address lies in MRAM. -/
def inMram (a : Nat) : Bool := decide (0x10000000 ≤ a ∧ a < 0x12000000)

/-- Whether an address lies in a memory region of R32 other than MRAM. -/
def inRam (a : Nat) : Bool :=
  decide (a < 0x10000 ∨ (0x20000000 ≤ a ∧ a < 0x20800000) ∨ (0x30000000 ≤ a ∧ a < 0x30C00000) ∨
    (0x40000000 ≤ a ∧ a < 0x48000000 ∧ a % 0x1000000 < 0x200000) ∨ (0x100000000 ≤ a ∧ a < 0x300000000))

/-- One byte of a die's memory. An MRAM byte that nothing has written is a free value (R44). -/
def State.byteAt (s : State) (d : Die) (a : Nat) : Byte :=
  if inMram a then (tfind s.mram (memKey d a)).getD (Config.unwrittenByte (memKey d a))
  else tget 0#8 s.mem (memKey d a)

/-- One byte of a die's memory written. -/
def State.putByte (s : State) (d : Die) (a : Nat) (b : Byte) : State :=
  if inMram a then { s with mram := tput s.mram (memKey d a) b }
  else { s with mem := tset 0#8 s.mem (memKey d a) b }

/-- `n` bytes from an address on. -/
def State.bytesAt (s : State) (d : Die) (a : Nat) : Nat → List Byte
  | 0 => []
  | n + 1 => s.byteAt d a :: s.bytesAt d (a + 1) n

/-- Bytes written from an address on. -/
def State.putBytes (s : State) (d : Die) (a : Nat) : List Byte → State
  | [] => s
  | b :: l => (s.putByte d a b).putBytes d (a + 1) l

/-- Bytes written where a mask has them. -/
def State.putMasked (s : State) (d : Die) (a mask : Nat) (l : List Byte) : State :=
  (List.range l.length).foldl (fun st i => if bitOf mask i then st.putByte d (a + i) (l.getD i 0#8) else st) s

/-- The little-endian value of `n` bytes of memory. -/
def State.leAt (s : State) (d : Die) (a n : Nat) : Nat := leBytes (s.bytesAt d a n) 0 n

/-- The core copies on a die of the lines that a range touches, dropped: a write by another initiator invalidates them before it
completes (R591). -/
def State.dropCopies (s : State) (d : Die) (a n : Nat) : State :=
  let hit := fun (k : Nat) => decide (a / 64 ≤ k / 64 ∧ k / 64 * 64 < a + n)
  let drop := fun (c : AppCore) => { c with dirty := tdrop c.dirty hit, lines := c.lines.filter (fun k => !hit k) }
  s.updVol d (fun v => { v with
    dux := v.dux.map (fun e => (e.1, { e.2 with cores := ⟨drop e.2.cores.q0, drop e.2.cores.q1⟩ })) })

/-- Bytes written by an initiator that is no core, and bytes written where a mask has them. -/
def State.dmaPut (s : State) (d : Die) (a : Nat) (l : List Byte) : State := (s.dropCopies d a l.length).putBytes d a l
def State.dmaMasked (s : State) (d : Die) (a mask : Nat) (l : List Byte) : State := (s.dropCopies d a l.length).putMasked d a mask l

/-- The listed bytes of one die's memory in an address range copied to the other die, whose bytes there that the sender
does not list read 0 after. -/
def State.copyRange (s : State) (src dst : Die) (lo hi : Nat) : State :=
  let inR := fun (d : Die) (k : Nat) => decide (memKey d lo ≤ k ∧ k < memKey d hi)
  let kept := tdrop s.mem (inR dst)
  { s with
    mem := (s.mem.filter (fun e => inR src e.1)).foldl
      (fun m e => tput m (e.1 - memKey src 0 + memKey dst 0) e.2) kept }

/-- The die whose registers show where partitions run: Q-die 0, unless it stands still or boots beside a sealed Q-die 1. -/
def State.shows (s : State) : Die := if s.alive 0 && (s.isSealed 0 || !(s.alive 1 && s.isSealed 1)) then 0 else 1

/-- Whether a die can be released and pass its self-test (R40, R768): one that runs has passed it. -/
def State.canRelease (s : State) (d : Die) : Bool :=
  let k := s.keep.get d
  k.supplied && !k.glitchStuck && decide (k.run ≠ .off) && (decide (k.run ≠ .running) || (s.vol.get d).boot.romOk)

/-- The home die of a partition (CKP_pSTAT.HOMEDIE). -/
def State.homeDie (s : State) (p : Nat) : Die := if s.fld s.shows (CKP_pSTAT p) CKP_pSTAT__HOMEDIE = 1 then 1 else 0

/-! ### Event sources (R613 to R615, R623) -/

/-- Whether a source is of kind L (R613). -/
def isLevelSrc (n : Nat) : Bool :=
  decide ((0x010 ≤ n ∧ n < 0x040) ∨ n = 0x092 ∨ (0x098 ≤ n ∧ n < 0x0A1) ∨ n = 0x0A8 ∨ n = 0x0A9 ∨
    (0x0B0 ≤ n ∧ n < 0x0B8) ∨ (0x0C0 ≤ n ∧ n < 0x0DC) ∨ (0x0E0 ≤ n ∧ n < 0x0F8) ∨ (0x100 ≤ n ∧ n < 0x113) ∨
    (0x120 ≤ n ∧ n < 0x180))

/-- Whether a source is of kind E (R613). -/
def isEdgeSrc (n : Nat) : Bool :=
  decide (n < 0x010 ∨ (0x050 < n ∧ n < 0x070) ∨ (0x070 ≤ n ∧ n < 0x092) ∨ (0x0A1 ≤ n ∧ n < 0x0A5) ∨
    (0x0B8 ≤ n ∧ n < 0x0BC) ∨ (0x180 ≤ n ∧ n < 0x300))

/-- The state of one source changed. -/
def State.updSrc (s : State) (d : Die) (n : Nat) (f : EvSrc → EvSrc) : State :=
  s.updVol d (fun v => { v with evc := { v.evc with srcs := tupd {} v.evc.srcs n f } })

/-- The state of one source. -/
def State.src (s : State) (d : Die) (n : Nat) : EvSrc := tget {} (s.vol.get d).evc.srcs n

/-- A duplex's cores A and B both in WFI (DUX_dSTAT). -/
def State.inWfi (s : State) (d : Die) (x : Nat) : Bool :=
  s.bit d (DUX_dSTAT x) DUX_dSTAT__WFIA && s.bit d (DUX_dSTAT x) DUX_dSTAT__WFIB

/-- The firing of an edge source on one die (R614): pending and counted; ripe at once where it is not moderated, its
count limit is reached, or both cores of the home duplex of its partition are in WFI (R623, R624). -/
def State.fire (s : State) (d : Die) (n : Nat) : State :=
  let route := s.rd d (EVC_sROUTE n)
  let p := EVC_sROUTE__PART.get route
  let lim := s.fld d (EVC_sMOD n) EVC_sMOD__CNT
  let asleep := s.inWfi (s.homeDie p) (s.fld d (CKP_pSTAT p) CKP_pSTAT__HOMEDUX)
  s.updSrc d n (fun e =>
    let c := if e.pending then satInc 255 e.count else 1
    { e with pending := true, count := c, shadow := true, firstAt := if e.pending then e.firstAt else s.ns d,
             ripe := (e.pending && e.ripe) || EVC_sROUTE__MOD.get route = 0 || decide (lim ≤ c) || asleep })

/-- A firing on both dies (R615), each where its die runs. -/
def State.fireBoth (s : State) (n : Nat) : State :=
  let s0 := if s.alive 0 then s.fire 0 n else s
  if s0.alive 1 then s0.fire 1 n else s0

/-! ### Fault records (R727 to R735) -/

/-- The default severity of a class (R729). -/
def classSev (c : Nat) : Nat :=
  match c with
  | 0x01 | 0x02 | 0x03 | 0x08 | 0x0B | 0x0C | 0x0F | 0x10 | 0x11 => 4
  | 0x04 | 0x06 | 0x09 | 0x17 => 2
  | 0x07 | 0x15 => 1
  | _ => 0

/-- The 32 bytes of a fault record (R727). -/
def recordBytes (time src cls sev subj detail seq : Nat) : List Byte :=
  toLE 8 time ++ toLE 2 src ++ toLE 1 cls ++ toLE 1 sev ++ toLE 4 subj ++ toLE 8 detail ++ toLE 4 seq ++ toLE 4 0

/-- Where record `i` lies in a die's fault ring (R731). -/
def ringAddr (i : Nat) : Nat := 0x207E0000 + 32 * (i % 4096)

/-- Where entry `k` of the severe ring lies (R735). -/
def severeAddr (k : Nat) : Nat := 0x10091000 + 32 * (k % 256)

/-- The CRC-64 over the header of a die's persistent summary written (R735). -/
def State.sealSummary (s : State) (d : Die) : State := s.putBytes d 0x10090038 (toLE 8 (crc64 (s.bytesAt d 0x10090000 0x38)))

/-- A fault record written by one die's fault manager, of a severity given by a rule (R727 to R735). A die that does
not run writes none. -/
def State.recordSev (s : State) (d : Die) (src cls sev subj code detail : Nat) : State :=
  if !s.alive d then s else
  let det := detail % 2 ^ 56 + 2 ^ 56 * code
  let now := s.ns d
  let sumUp := fun (st : State) => st.updVol d (fun v => { v with flt := { v.flt with
    sums := tupd {} v.flt.sums cls (fun e =>
      { count := satInc 0xFFFFFFFF e.count,
        firstRtc := if e.count = 0 then st.rd64 0 CIS_RTCL CIS_RTCH else e.firstRtc,
        lastRtc := st.rd64 0 CIS_RTCL CIS_RTCH, subj := subj, src := src, sev := sev }) } })
  let s1 := sumUp (s.addSat d (FLT_CNTc cls) FLT_CNTc__COUNT 1)
  let supKey := cls * 2 ^ 48 + src * 2 ^ 32 + subj % 2 ^ 32
  let quiet : Bool := decide (cls = 0x07 ∨ cls = 0x0A) &&
    (match tfind (s.vol.get d).flt.lastSup supKey with
     | some t => decide (now < t + 100000000)
     | none => false)
  if quiet then s1.addSat d FLT_SUPP FLT_SUPP__COUNT 1 else
  let i := (s1.rd d FLT_WIDX).toNat
  let unread := (i + 1 + 2 ^ 32 - (s1.rd d FLT_RIDX).toNat) % 2 ^ 32
  let bytes := recordBytes now src cls sev subj det i
  let s2 := s1.putBytes d (ringAddr i) bytes
  let s3 := s2.wr d FLT_WIDX (BitVec.ofNat 32 (i + 1))
  let s4 := if 4096 < unread then s3.addSat d FLT_LOST FLT_LOST__COUNT 1 else s3
  let s5 := if cls = 0x07 ∨ cls = 0x0A then
      s4.updVol d (fun v => { v with flt := { v.flt with lastSup := tput v.flt.lastSup supKey now } }) else s4
  let s6 := if 3 ≤ sev then
      let k := s5.leAt d 0x1009000C 4
      ((s5.putBytes d (severeAddr k) bytes).putBytes d 0x1009000C (toLE 4 (k + 1))).sealSummary d else s5
  let s7 := if sev = 5 then s6.updCis (fun c => { c with sev5 := c.sev5.set d true }) else s6
  s7.fire d 0x091

/-- A fault record with the class's default severity. -/
def State.record (s : State) (d : Die) (src cls subj code detail : Nat) : State :=
  s.recordSev d src cls (classSev cls) subj code detail

/-- A fault record written by each Q-die in its own ring. -/
def State.recordBoth (s : State) (src cls subj code detail : Nat) : State :=
  (s.record 0 src cls subj code detail).record 1 src cls subj code detail

/-- A fault record of a severity given by a rule, written by each Q-die. -/
def State.recordBothSev (s : State) (src cls sev subj code detail : Nat) : State :=
  (s.recordSev 0 src cls sev subj code detail).recordSev 1 src cls sev subj code detail

/-! ### Ductus records (R53 to R59, R64, R65) -/

/-- What the loader finds a record to be. -/
inductive Judged where
  | good | malformed | notApplicable
  deriving DecidableEq, Repr

end Sys2Proof.Machine

namespace Sys2Proof

/-- The range of a record's type. -/
def Rec.range (r : Rec) : Nat := r.typ.toNat / 256

/-- The DIES value of a record. -/
def Rec.dies (r : Rec) : Nat := r.flags.toNat % 8

/-- Whether the record is LATE. -/
def Rec.late (r : Rec) : Bool := r.flags.getLsbD 3

/-- The target block ID and instance. -/
def Rec.block (r : Rec) : Nat := r.target.toNat / 65536
def Rec.inst (r : Rec) : Nat := r.target.toNat % 65536

/-- Whether DIES selects a die (R53). -/
def Rec.forDie (r : Rec) (d : Die) : Bool :=
  decide (r.dies = 0 ∨ r.dies = 1 ∨ (r.dies = 2 ∧ d = 0) ∨ (r.dies = 4 ∧ d = 1))

/-- Whether DIES names one die only. -/
def Rec.dieOnly (r : Rec) : Bool := decide (r.dies = 2 ∨ r.dies = 4)

/-- Whether a range is always critical (R55). -/
def rangeCritical (g : Nat) : Bool := decide (g = 0x01 ∨ g = 0x02 ∨ g = 0x0C ∨ g = 0x0F)

/-- Whether a range permits LATE (R55). -/
def rangeLate (g : Nat) : Bool := decide (g = 0x04 ∨ g = 0x05 ∨ g = 0x06 ∨ g = 0x07 ∨ g = 0x0B)

/-- The block IDs a range may target (R55). -/
def rangeBlocks (g : Nat) : List Nat :=
  match g with
  | 0x01 => [0x05, 0x06, 0x07]
  | 0x02 => [0x0E] | 0x03 => [0x08] | 0x04 => [0x09] | 0x05 => [0x0A] | 0x06 => [0x0B] | 0x07 => [0x0C]
  | 0x08 => [0x0D] | 0x09 => [0x03, 0x04] | 0x0A => [0x01] | 0x0B => [0x12] | 0x0C => [0x02] | 0x0D => [0x0F]
  | 0x0E => [0x10] | 0x0F => [0x11, 0x13]
  | _ => []

/-- The checks of a record's header that hold for every type (R53, R55, R56), with whether the type permits a die-only
value of DIES. -/
def Rec.headerOk (r : Rec) (dieOnlyOk : Bool) : Bool :=
  decide (r.dies = 0 ∨ r.dies = 1 ∨ ((r.dies = 2 ∨ r.dies = 4) ∧ dieOnlyOk = true)) &&
  decide (r.flags.toNat / 16 % 2 ^ 11 = 0) && (!r.late || rangeLate r.range) &&
  (rangeBlocks r.range).contains r.block

/-- Whether a record is critical (R58). -/
def Rec.critical (r : Rec) : Bool := r.flags.getLsbD 15 || rangeCritical r.range


/-- The place of a range in the order of application (R64): ranges of step 1 are below 1, of step 2 below 8. -/
def rangeOrder (g : Nat) : Nat :=
  match g with
  | 0x0C => 0 | 0x0F => 1 | 0x0E => 2 | 0x01 => 3 | 0x09 => 4 | 0x0A => 5 | 0x0D => 6 | 0x08 => 7
  | 0x02 => 8 | 0x05 => 9 | 0x06 => 10 | 0x07 => 11 | 0x0B => 12 | 0x04 => 13 | 0x03 => 14 | _ => 15

/-- Whether a record is of step 5: LATE, in a range of step 3 (R64). -/
def Rec.lateStep (r : Rec) : Bool := r.late && decide (8 ≤ rangeOrder r.range)

/-- A number that grows in the order of application (R64). -/
def Rec.key (r : Rec) : Nat := ((if r.lateStep then 16 else 0) + rangeOrder r.range) * 2 ^ 32 + r.seq.toNat

/-- The record types defined at build level E1, by range (R57). -/
def definedTypes : List (Nat × List Nat) :=
  [(0x01, [0x01, 0x02, 0x03, 0x04, 0x05, 0x10, 0x20, 0x21, 0x22]), (0x02, [1, 2, 3, 4]), (0x03, [1, 2, 3, 4, 5]),
   (0x04, [1, 2, 3, 4, 5, 6, 7]), (0x05, [1, 2, 3, 4, 5, 6, 7]), (0x06, [1]), (0x07, [1, 2, 3, 4, 5, 6]), (0x08, [1, 2, 3, 4, 5]),
   (0x09, [1, 2, 3]), (0x0A, [1, 2, 3]), (0x0B, [1, 2, 3]), (0x0C, [1]), (0x0D, [1, 2]), (0x0E, [1]), (0x0F, [1, 2])]

/-- Whether a record's type is defined at build level E1 (R57). -/
def Rec.defined (r : Rec) : Bool :=
  definedTypes.any (fun e => decide (e.1 = r.range) && e.2.contains (r.typ.toNat % 256))

/-- A record put in its place in a list in order of application. -/
def insertRec (r : Rec) : List Rec → List Rec
  | [] => [r]
  | x :: l => if r.key < x.key then r :: x :: l else x :: insertRec r l

/-- The records of valid ranges in the order of application (R64). -/
def recOrder (l : List Rec) : List Rec := (l.filter (fun r => decide (1 ≤ r.range ∧ r.range < 16))).foldr insertRec []

/-- What tells records of a type and target apart (R59): entries of a table by their index, records of a type that accumulates by
their sequence number. -/
def Rec.sub (r : Rec) : Nat :=
  let t := r.typ.toNat
  if [0x0102, 0x0103, 0x0105, 0x0110, 0x0120, 0x0302, 0x0303, 0x0401, 0x0402, 0x0403, 0x0407, 0x0502, 0x0504, 0x0505, 0x0506,
    0x0903].contains t then r.seq.toNat
  else if [0x0201, 0x0204, 0x0304].contains t then u8 r.body 0
  else if t = 0x0305 then u8 r.body 0 * 16 + u8 r.body 1
  else 0

end Sys2Proof

namespace Sys2Proof.Machine

/-- The records that the loader of a die has still to judge, and a change of them. -/
def State.todo (s : State) (d : Die) : List Rec := (s.vol.get d).boot.todo
def State.setTodoList (s : State) (d : Die) (l : List Rec) : State :=
  s.updVol d (fun v => { v with boot := { v.boot with todo := l } })

/-- Whether the loader of a die judges a record now: it is the next of its image in the order of R64, and those of step 5 come
after the nibs have started. -/
def State.loading (s : State) (d : Die) (r : Rec) : Bool :=
  s.alive d && decide (s.dstate d = if r.lateStep then 3 else 2) && decide ((s.todo d).head? = some r)

/-- The nibs of a die brought to a stop by an abort of its boot (R79): none is started, and its clusters have no state. -/
def State.stopNibs (s : State) (d : Die) : State :=
  (List.range 8).foldl (fun st c => st.setF d (NBC_nSTAT c) NBC_nSTAT__STATE 0)
    (s.updVol d (fun v => { v with clusters := v.clusters.map (fun e => (e.1, { e.2 with
      started := false, rejoin := .none, held := [], orders := [],
      nibs := e.2.nibs.map (fun n => (n.1, { n.2 with run := .unassigned })) })) }))

/-- Entering the no-structure state with a failure code (R79). -/
def State.noStructure (s : State) (d : Die) (code : Nat) : State :=
  ((((s.stopNibs d).setF d UPD_DSTAT UPD_DSTAT__STATE 5).setF d UPD_DSTAT UPD_DSTAT__CODE code).setF d CIS_BOOT CIS_BOOT__PHASE
    7).setTodoList d []

/-- A record that fails (R58): a critical one aborts boot, another is counted, named and recorded. -/
def State.recordFails (s : State) (d : Die) (r : Rec) (code : Nat) : State :=
  if r.critical then (s.wr d UPD_DFAIL (BitVec.ofNat 32 r.index)).noStructure d code
  else
    let s1 := s.addSat d UPD_DOMIT UPD_DOMIT__COUNT 1
    let s2 := if (s1.vol.get d).boot.failedIdx = [] then s1.wr d UPD_DFAIL (BitVec.ofNat 32 r.index) else s1
    let s3 := s2.updVol d (fun v => { v with boot := { v.boot with failedIdx := v.boot.failedIdx ++ [r.index] } })
    s3.record d 0x0F00 0x12 r.index 0 (code + 256 * r.typ.toNat)

/-- The sequence number of the record applied last for a type, target and sub-key (R59). -/
def State.appliedSeq (s : State) (d : Die) (r : Rec) (sub : Nat) : Option Nat :=
  ((s.vol.get d).boot.applied.find? (fun a => decide (a.typ = r.typ.toNat ∧ a.target = r.target.toNat ∧ a.sub = sub))).map
    (·.seq)

/-- A record noted as applied. -/
def State.noteApplied (s : State) (d : Die) (r : Rec) (sub : Nat) : State :=
  s.updVol d (fun v => { v with boot := { v.boot with
    applied := ⟨r.typ.toNat, r.target.toNat, sub, r.seq.toNat⟩ ::
      v.boot.applied.filter (fun a => !decide (a.typ = r.typ.toNat ∧ a.target = r.target.toNat ∧ a.sub = sub)) } })

/-- Whether a record of the image replaces this one: of the same type, target and sub-key, for this die, with a higher sequence
number (R59). -/
def State.superseded (s : State) (d : Die) (r : Rec) : Bool :=
  (s.vol.get d).boot.recs.any (fun q => decide (q.typ = r.typ ∧ q.target = r.target ∧ q.sub = r.sub ∧ r.seq.toNat < q.seq.toNat) &&
    q.forDie d)

/-- Whether an island is clocked: it runs and its clock generator is locked (ISL_RUN, ISL_CLKn). -/
def State.clocked (s : State) (d : Die) (n : Nat) : Bool :=
  bitOf (s.fld d ISL_RUN ISL_RUN__RUN) n && s.bit d (ISL_CLKn n) ISL_CLKn__LOCK

/-- A rill transfer that its receiver takes: with a parity error it is repeated once and counted; with a second one it is
discarded, counted and recorded by the receiving island, subject the pair: sender in bits 15:8, receiver in bits 7:0 (R26). -/
def State.rillArrive (s : State) (d : Die) (h : RillHold) : State :=
  if !h.bad then s.reply (.value h.payload.toNat)
  else
    let s1 := s.incWrap d ISL_RILLREP ISL_RILLREP__COUNT
    if !h.badAgain then s1.reply (.value h.payload.toNat)
    else ((s1.incWrap d ISL_RILLFAIL ISL_RILLFAIL__COUNT).record d 0x0200 0x08 (h.dst.val + 256 * h.src.val) 0 0x0B).reply .error

/-- The held rill transfers whose receiver runs arrive, in the order in which they were sent (R24, R25). -/
def State.rillsRun (s : State) (d : Die) : State :=
  let l := (s.vol.get d).rills
  (l.filter (fun h => s.clocked d h.dst.val)).foldl (fun st h => st.rillArrive d h)
    (s.updVol d (fun v => { v with rills := l.filter (fun h => !s.clocked d h.dst.val) }))

/-- The end of step 1 of the order of application: every island that no record gates is clocked (R22, R64). -/
def State.clockIslands (s : State) (d : Die) : State :=
  (s.setF d ISL_RUN ISL_RUN__RUN (maskOf ((List.range 18).filter (fun n => !s.bit d (ISL_CLKn n) ISL_CLKn__GATED)))).rillsRun d

/-- The loader's list set; once no island clock record is left, the islands are clocked. -/
def State.setTodo (s : State) (d : Die) (l : List Rec) : State :=
  let s1 := s.setTodoList d l
  if s.dstate d = 2 ∧ s.fld d ISL_RUN ISL_RUN__RUN = 1 ∧ (l.all (fun r => decide (r.range ≠ 0x0C))) = true then s1.clockIslands d
  else s1

/-- The loader goes on to the next record with a type of its own: one of a type not defined at E1 fails here, as malformed by its
header or as not applicable, or is passed over (R56, R57, R64). -/
def State.goOn (s : State) (d : Die) : List Rec → State
  | [] => s.setTodo d []
  | r :: l =>
    if r.defined || (r.lateStep && decide (s.dstate d = 2)) then s.setTodo d (r :: l)
    else
      let s1 := if s.superseded d r then s else if !r.headerOk false then s.recordFails d r 0x0C else if r.forDie d then s.recordFails d r 0x0D else s
      if s1.dstate d = 2 ∨ s1.dstate d = 3 then s1.goOn d l else s1

/-- The loader has judged the record at the head of its list: it goes on, unless boot was aborted. -/
def State.judged (s : State) (d : Die) : State :=
  if s.dstate d = 2 ∨ s.dstate d = 3 then s.goOn d (s.todo d).tail else s

/-- The loader judges and applies one record (R58, R59, R64, R65): a record for the other die is passed over, one that another
replaces is ignored, a failing record fails, a record of a lower sequence number than one applied for the same type, target and
sub-key is ignored, any other takes its effect whole. A record that is not the next one, or not of this command's type, changes nothing. -/
def State.applyRec (s : State) (d : Die) (r : Rec) (sub : Nat) (dieOnlyOk : Bool) (typ : Nat) (body : Judged)
    (eff : State → State) : State :=
  if !(s.loading d r && decide (r.typ.toNat = typ)) then s
  else if (dieOnlyOk && !r.forDie d) || s.superseded d r then s.judged d
  else if !r.headerOk dieOnlyOk then (s.recordFails d r 0x0C).judged d
  else if !r.forDie d then s.judged d
  else match body with
    | .malformed => (s.recordFails d r 0x0C).judged d
    | .notApplicable => (s.recordFails d r 0x0D).judged d
    | .good =>
      match s.appliedSeq d r sub with
      | some q => if q < r.seq.toNat then ((eff s).noteApplied d r sub).judged d else s.judged d
      | none => ((eff s).noteApplied d r sub).judged d

/-- Restarts of the sealed world in the last 24 h (R563). -/
def State.restarts24 (s : State) (d : Die) : Nat :=
  ((s.vol.get d).wld.restarts.filter (fun t => decide (s.ns d < t + 86400000000000))).length

/-- Whether a record is a lane pin record with Enable = 1 for a pin, which names the pin (R546). -/
def lanePinRec (j : Nat) (r : Rec) : Bool :=
  decide (r.typ.toNat = 0x0805 ∧ r.inst = j ∧ r.body.length = 8 ∧ u8 r.body 0 = 1)

/-- Whether a record is an assignment record that has an entry for a pin (R546). -/
def assignsPin (j : Nat) (r : Rec) : Bool :=
  decide (r.typ.toNat = 0x0103 ∧ r.body.length = 8 + 8 * u32 r.body 0) && (List.range (u32 r.body 0)).any (fun i =>
    decide (u8 r.body (8 + 8 * i) = 1 ∧ u16 r.body (10 + 8 * i) = j))

/-- The record of a list that applies to a die for a type and instance, of those that meet a condition: the one of the highest sequence
number (R59). -/
def lastRec (l : List Rec) (d : Die) (typ inst : Nat) (ok : Rec → Bool) : Option Rec :=
  (l.filter (fun r => decide (r.typ.toNat = typ ∧ r.inst = inst) && r.forDie d && ok r)).foldl (fun b r => match b with
    | some q => if q.seq.toNat < r.seq.toNat then some r else some q
    | none => some r) none

/-- The sequence number under which an entry of accumulating records was last written (R354, R390, R579). -/
def State.entrySeq (s : State) (d : Die) (typ key : Nat) : Nat :=
  match (s.vol.get d).boot.applied.find? (fun a => decide (a.typ = typ ∧ a.target = 2 ^ 32 ∧ a.sub = key)) with
  | some a => a.seq
  | none => 0

/-- An entry of an accumulating record written unless one of a higher sequence number was (R354,
R359, R390, R579, R637). -/
def State.putEntry (s : State) (d : Die) (r : Rec) (key : Nat) (f : State → State) : State :=
  if s.entrySeq d r.typ.toNat key ≤ r.seq.toNat then
    (f s).updVol d (fun v => { v with boot := { v.boot with
      applied := ⟨r.typ.toNat, 2 ^ 32, key, r.seq.toNat⟩ ::
        v.boot.applied.filter (fun a => !decide (a.typ = r.typ.toNat ∧ a.target = 2 ^ 32 ∧ a.sub = key)) } })
  else s

/-- Whether a mirrored table write goes to the partner: the pair link is up and the partner sealed, or it rejoins and has begun its copy
(R343, R349). -/
def State.mirrorReach (s : State) (d : Die) : Bool := s.joint d && (s.isSealed d.other || (s.vol.get d.other).gw.copied)

/-- Whether a die that rejoins is still to take the signal store from its sealed partner: after the records of step 3, before its first
cluster starts (R349). -/
def State.copyDue (s : State) (d : Die) : Bool :=
  s.alive d && decide (s.dstate d = 2) && s.isSealed d.other && s.joint d && (s.todo d).all Rec.lateStep && !(s.vol.get d).gw.copied &&
    (s.vol.get d).clusters.all (fun e => !e.2.started)

/-- What the loader does once the last record of a kind is judged: `s` is the state before the record's command, `t` the one after
it. -/
def State.afterLast (t s : State) (d : Die) (r : Rec) (kind : Rec → Bool) (f : State → State) : State :=
  if s.loading d r && kind r && !(t.todo d).any kind && decide (t.dstate d = s.dstate d) then f t else t

/-- A body check as a judgement. -/
def goodIf (b : Bool) : Judged := if b then .good else .malformed

/-! ### Serial links (R173 to R178) -/

/-- One Q-die's side of a serial link. -/
def State.qsd (s : State) (d : Die) (sd : Nat) : QSd := tget {} (s.vol.get d).qsd sd

/-- A Q-die's side of a serial link changed. -/
def State.updQsd (s : State) (d : Die) (sd : Nat) (f : QSd → QSd) : State :=
  s.updVol d (fun v => { v with qsd := tupd {} v.qsd sd f })

/-- The level a timing lane shows at a group time: in PWM mode high from the start of the period to the end of its on time (R169). -/
def Lane.out (l : Lane) (now : Nat) : Bool := if l.pwm then decide (l.start ≤ now ∧ now < l.start + l.duty) else l.level

/-- Whether a lane that leads to a switch die is held idle, until that die has answered the Q-die's own SVCENT or STEER (R91). -/
def State.laneIdle (s : State) (d : Die) (n : Nat) : Bool := decide (n < 80) && !(s.qsd d (chSd n)).proof

/-- A switch die. -/
def State.sd (s : State) (sd : Nat) : SwitchDie := tget {} s.sds sd

/-- A switch die changed. -/
def State.updSd (s : State) (sd : Nat) (f : SwitchDie → SwitchDie) : State := { s with sds := tupd {} s.sds sd f }

/-- A channel of a switch die. -/
def State.chan (s : State) (sd k : Nat) : Chan := tget {} (s.sd sd).chans k

/-- A channel of a switch die changed. -/
def State.updChan (s : State) (sd k : Nat) (f : Chan → Chan) : State :=
  s.updSd sd (fun x => { x with chans := tupd {} x.chans k f })

/-- A frame put on the downstream lane: STEER ahead of the queued frames (R183). -/
def State.sendFrame (s : State) (d : Die) (sd typ ch data : Nat) : State :=
  let f := mkFrame typ ch data
  s.updQsd d sd (fun q => { q with down := if typ = 3 then f :: q.down else q.down ++ [f] })

/-- A command given to a switch die with a fresh TAG, repeated each cycle until it is acknowledged (R177). `low` are
the data bits below the TAG. -/
def State.sendCmd (s : State) (d : Die) (sd typ ch low : Nat) : State :=
  let q := s.qsd d sd
  let tag := (tget 0 q.nextTag (typ * 8 + ch)) % 16
  let data := tag * 4096 + low % 4096
  (s.updQsd d sd (fun q =>
    { q with nextTag := tset 0 q.nextTag (typ * 8 + ch) ((tag + 1) % 16),
             cmds := q.cmds ++ [⟨typ, ch, tag, data⟩] })).sendFrame d sd typ ch data

/-- The controlling cluster of a switch die, as a die's PWR_DCCFG names it (R180). -/
def State.cluster (s : State) (d : Die) (sd : Nat) : Nat := s.fld d (PWR_DCCFG sd) PWR_DCCFG__CLUSTER

/-- Whether a cluster controls a switch die, on a die's registers (R180, R211). -/
def State.controls (s : State) (d : Die) (c : Nat) : Bool := (List.range 19).any (fun sd => decide (s.cluster d sd = c))

/-- Whether each cluster has a protection nib, as NBC_nCFG shows it (R180, R211, R265). -/
def State.showProt (s : State) (d : Die) : State :=
  (List.range 8).foldl (fun st c => st.setF d (NBC_nCFG c) ⟨16, 1⟩ (b2n (s.controls d c))) s

/-- The die that drives a switch die's lines: the holder of its controlling cluster's token (R181). -/
def State.driver (s : State) (d : Die) (sd : Nat) : Die := s.holder (s.cluster d sd)

/-- The serial of a token (R182). -/
def State.serial (s : State) (t : Nat) : Nat := s.fld 0 (CIS_TSERt t) CIS_TSERt__SERIAL

/-! ### Channel ownership -/

/-- Whether an initiator may command a channel: its owner partition, partition 0 or a management core (R156). -/
def State.mayChannel (s : State) (d : Die) (who : Initiator) (n : Nat) : Bool :=
  who.isManager ||
    (s.bit d (WLD_CHOWNn n) WLD_CHOWNn__VALID &&
      (match who with
       | .part p => decide (p.val = s.fld d (WLD_CHOWNn n) WLD_CHOWNn__PART) &&
           !s.bit d (WLD_CHOWNn n) WLD_CHOWNn__SEALED
       | .sealed _ => s.bit d (WLD_CHOWNn n) WLD_CHOWNn__SEALED
       | _ => false))

end Sys2Proof.Machine
end

