-- ==== Sys2Proof/Machine/EventOps.lean ====
section
/-! DEFINITION. The event controller of a die (R613 to R629): which sources are pending and eligible, claims, ends of
interrupt, snapshots. -/

namespace Sys2Proof.Machine

/-! ### Places of partitions -/

/-- The shadowing state of a partition on a die, and a change of it. -/
def State.ck (s : State) (d : Die) (p : Nat) : PartCk := tget {} (s.vol.get d).ck p
def State.updCk (s : State) (d : Die) (p : Nat) (f : PartCk → PartCk) : State :=
  s.updVol d (fun v => { v with ck := tupd {} v.ck p f })

/-- A duplex of a die, and a change of it. -/
def State.dux (s : State) (d : Die) (x : Nat) : DuxSt := tget {} (s.vol.get d).dux x
def State.updDux (s : State) (d : Die) (x : Nat) (f : DuxSt → DuxSt) : State :=
  s.updVol d (fun v => { v with dux := tupd {} v.dux x f })

/-- The state of a partition's shadowing in the codes of CKP_pSTAT.STATE. -/
def State.ckState (s : State) (d : Die) (p : Nat) : Nat := s.fld d (CKP_pSTAT p) CKP_pSTAT__STATE

/-- The home duplex of a partition now. -/
def State.homeDux (s : State) (d : Die) (p : Nat) : Nat := s.fld d (CKP_pSTAT p) CKP_pSTAT__HOMEDUX

/-- Whether a partition has its home on a duplex of a die now. -/
def State.homedAt (s : State) (d : Die) (p x : Nat) : Bool :=
  let e := s.shows
  let st := s.ckState e p
  decide (1 ≤ st ∧ st ≤ 6) && decide (s.homeDie p = d) && decide (s.homeDux e p = x)

/-- The partition running on a duplex. -/
def State.runningOn (s : State) (d : Die) (x : Nat) : Option Nat :=
  if s.bit d (DUX_dSTAT x) DUX_dSTAT__PVALID then some (s.fld d (DUX_dSTAT x) DUX_dSTAT__PART) else none

/-! ### Sources -/

/-- Whether every bit of a register is 0. -/
def State.regZero (s : State) (d : Die) (off : Nat) : Bool := decide (s.rd d off = 0#32)

/-- Whether the condition of a level source holds on a die (R613). -/
def State.levelCond (s : State) (d : Die) (n : Nat) : Bool :=
  let timer := fun t => decide (s.rd64 d (EVC_TtCMPL t) (EVC_TtCMPH t) ≤ s.ns d)
  if n < 0x030 then timer (n - 0x010)
  else if n < 0x040 then timer (n - 0x030 + 32)
  else if n = 0x092 then decide (2048 ≤ (s.rd d FLT_WIDX - s.rd d FLT_RIDX).toNat)
  else if n < 0x0A0 then
    let e := s.fld d CIS_EVT ⟨0, 9⟩
    let i := n - 0x098
    if i < 3 then bitOf e i else if i = 3 then bitOf e 3 || bitOf e 4 else bitOf e (i + 1)
  else if n = 0x0A0 then !s.regZero d TIM_EVT
  else if n = 0x0A8 then !s.regZero d UPD_EVT
  else if n = 0x0A9 then !s.regZero d ZGP_EVT
  else if n < 0x0B8 then
    s.bit d (NBC_nEXC (n - 0x0B0)) NBC_nEXC__VALID ||
      (tget {} (s.vol.get d).clusters (n - 0x0B0)).nibs.any (fun e => decide (e.2.run = .haltedCmd ∨ e.2.run = .haltedExc))
  else if n < 0x0DC then
    let i := n - 0x0C0
    !s.regZero d (if i < 16 then FBB_CcEVT i else FBB_LlEVT (i - 16))
  else if n < 0x0F8 then !s.regZero d (MAC_EVT (n - 0x0E0))
  else if n < 0x113 then
    let i := n - 0x100
    !s.regZero d (PWR_DFLT i) || (List.range (sdChans i)).any (fun k => !s.regZero d (PWR_CHkFLT i k))
  else
    let i := n - 0x120
    bitOf (s.rd d (FBB_SNSCHGi (i / 32))).toNat (i % 32) && s.bit d (FBB_SNSCFGn i) FBB_SNSCFGn__EVT

/-- Whether a source is pending, as EVC_PENDi shows it: a level source while its condition holds, out of service. -/
def State.srcPending (s : State) (d : Die) (n : Nat) : Bool :=
  if isLevelSrc n then s.levelCond d n && !(s.src d n).inService else (s.src d n).pending

/-- The level of a line (R616): 0 M, 1 HS, 2 VS. -/
def lineLevel (l : Nat) : Nat := if l = 2 then 2 else if l = 1 ∨ l = 4 then 1 else 0

/-- The interrupt-pending bit of a line (R616): MEIP, SEIP, VSEIP, MTIP, STIP, MSIP. -/
def lineBit (l : Nat) : Nat := match l with | 0 => 11 | 1 => 9 | 2 => 10 | 3 => 7 | 4 => 5 | _ => 3

/-- The priority of a source's route. -/
def State.srcPrio (s : State) (d : Die) (n : Nat) : Nat := EVC_sROUTE__PRIO.get (s.rd d (EVC_sROUTE n))

/-- The stack of a level: that of the duplex, or of the partition at the VS level (R621). -/
def State.stack (s : State) (d : Die) (x part lvl : Nat) : List StackEntry :=
  let e := (s.vol.get d).evc
  if lvl = 0 then tget [] e.stM x else if lvl = 1 then tget [] e.stS x else tget [] e.stV part

/-- The stack of a level set. -/
def State.setStack (s : State) (d : Die) (x part lvl : Nat) (l : List StackEntry) : State :=
  s.updVol d (fun v => { v with evc :=
    if lvl = 0 then { v.evc with stM := tset [] v.evc.stM x l }
    else if lvl = 1 then { v.evc with stS := tset [] v.evc.stS x l }
    else { v.evc with stV := tset [] v.evc.stV part l } })

/-- The threshold of a level. -/
def State.thr (s : State) (d : Die) (x part lvl : Nat) : Nat :=
  let e := (s.vol.get d).evc
  if lvl = 0 then tget 0 e.thrM x else if lvl = 1 then tget 0 e.thrS x else tget 0 e.thrV part

/-- The threshold of a level set. -/
def State.setThr (s : State) (d : Die) (x part lvl thr : Nat) : State :=
  s.updVol d (fun v => { v with evc :=
    if lvl = 0 then { v.evc with thrM := tset 0 v.evc.thrM x thr }
    else if lvl = 1 then { v.evc with thrS := tset 0 v.evc.thrS x thr }
    else { v.evc with thrV := tset 0 v.evc.thrV part thr } })

/-- What a priority must exceed at a level: the running priority and the threshold (R618). -/
def State.floorPrio (s : State) (d : Die) (x part lvl : Nat) : Nat :=
  max (match s.stack d x part lvl with | e :: _ => e.prio | [] => 0) (s.thr d x part lvl)

/-- Whether a routed source of a partition is eligible at a level, the running partition aside (R618). -/
def State.srcEligible (s : State) (d : Die) (x part lvl n : Nat) : Bool :=
  let r := s.rd d (EVC_sROUTE n)
  decide (EVC_sROUTE__PART.get r = part) && decide (lineLevel (EVC_sROUTE__LINE.get r) = lvl) &&
  s.srcPending d n && !(s.src d n).inService && (isLevelSrc n || (s.src d n).ripe) &&
  decide (s.floorPrio d x part lvl < EVC_sROUTE__PRIO.get r)

/-- The guest-wait source of R617, and the key under which its in-service mark of a duplex is held. -/
def guestWait : Nat := 0x093
def guestKey (x : Nat) : Nat := 0x1000 + x

/-- The partitions homed on a duplex and not running there that have an eligible VS-level event (EVC_GPEND). -/
def State.guestPend (s : State) (d : Die) (x : Nat) : List Nat :=
  (List.range 32).filter (fun p => s.homedAt d p x && decide (s.runningOn d x ≠ some p) &&
    (List.range 1024).any (fun n => s.srcEligible d x p 2 n))

/-- The routed partitions a level of a duplex serves: all homed there, at the VS level the one running (R617). -/
def State.serves (s : State) (d : Die) (x lvl p : Nat) : Bool :=
  s.homedAt d p x && (decide (lvl ≠ 2) || decide (s.runningOn d x = some p))

/-- The eligible sources of a level of a duplex with their priorities, source 0x093 among those of HS (R617, R618). -/
def State.evEligible (s : State) (d : Die) (x lvl : Nat) : List (Nat × Nat) :=
  let listed := (List.range 1024).filterMap (fun n =>
    let p := EVC_sROUTE__PART.get (s.rd d (EVC_sROUTE n))
    if s.serves d x lvl p && s.srcEligible d x p lvl n then some (n, s.srcPrio d n) else none)
  let gw := s.fld d EVC_CFG EVC_CFG__GWPRI
  if lvl = 1 ∧ s.floorPrio d x 0 1 < gw ∧ (s.src d (guestKey x)).inService = false ∧ s.guestPend d x ≠ [] then
    listed ++ [(guestWait, gw)]
  else listed

/-- The line a source raises. -/
def State.lineOf (s : State) (d : Die) (n : Nat) : Nat :=
  if n = guestWait then 1 else EVC_sROUTE__LINE.get (s.rd d (EVC_sROUTE n))

/-- The most urgent of a list of sources with priorities; the lowest number among equals (R619). -/
def mostUrgent : List (Nat × Nat) → Option (Nat × Nat)
  | [] => none
  | e :: l => match mostUrgent l with
    | none => some e
    | some m => if m.2 < e.2 ∨ (m.2 = e.2 ∧ e.1 ≤ m.1) then some e else some m

/-- The most urgent eligible source of a line of a duplex. -/
def State.urgentOn (s : State) (d : Die) (x l : Nat) : Option (Nat × Nat) :=
  mostUrgent ((s.evEligible d x (lineLevel l)).filter (fun e => decide (s.lineOf d e.1 = l)))

/-! ### Claims and ends (R614, R619, R620) -/

/-- The effect of a claim on its source: an edge source's pending state cleared, a level source in service. -/
def State.takeSrc (s : State) (d : Die) (x n : Nat) : State :=
  if n = guestWait then s.updSrc d (guestKey x) (fun e => { e with inService := true })
  else if isLevelSrc n then s.updSrc d n (fun e => { e with inService := true })
  else s.updSrc d n (fun e => { e with pending := false, count := 0, ripe := false, shadow := false })

/-- The word a claim returns (EVC_CLAIMx). -/
def claimWord (n prio count : Nat) : Nat := n + 2 ^ 16 * prio + 2 ^ 22 * count + 2 ^ 31

/-- A claim at a level by a duplex (R619): the word read and the state after. -/
def State.claim (s : State) (d : Die) (x lvl : Nat) : Nat × State :=
  let part := (s.runningOn d x).getD 0
  let st := s.stack d x part lvl
  match mostUrgent (s.evEligible d x lvl) with
  | none => (0, s)
  | some (n, pr) =>
    if 16 ≤ st.length then (0, s.setF d EVC_ERR EVC_ERR__STKOVF 1)
    else
      let c := if isLevelSrc n ∨ n = guestWait then 0 else (s.src d n).count
      (claimWord n pr c,
        ((s.setStack d x part lvl (⟨n, pr⟩ :: st)).takeSrc d x n).incWrap d EVC_DELIV whole)

/-- A write of an EOI register at a level by a duplex (R620). -/
def State.eoi (s : State) (d : Die) (x lvl n : Nat) : State :=
  let part := (s.runningOn d x).getD 0
  match s.stack d x part lvl with
  | [] => s.setF d EVC_ERR EVC_ERR__EOIEMPTY 1
  | e :: l =>
    let key := if e.src = guestWait then guestKey x else e.src
    let s1 := (s.setStack d x part lvl l).updSrc d key (fun k => { k with inService := false })
    if e.src = n then s1 else s1.setF d EVC_ERR EVC_ERR__EOIERR 1

/-- A logged claim replayed on a spare (R629): it acts on the stack, and on the in-service mark of a level source, as the live claim
did. -/
def State.claimLogged (s : State) (d : Die) (x lvl word : Nat) : State :=
  if word / 2 ^ 31 % 2 = 1 then
    let part := (s.runningOn d x).getD 0
    let n := word % 1024
    let s1 := s.setStack d x part lvl (⟨n, word / 2 ^ 16 % 64⟩ :: s.stack d x part lvl)
    if n = guestWait then s1.updSrc d (guestKey x) (fun e => { e with inService := true })
    else if isLevelSrc n then s1.updSrc d n (fun e => { e with inService := true }) else s1
  else s

/-- The effect of storing a logged claim on what the spare's own firings have left of the source (R629). -/
def State.shadowClaim (s : State) (d : Die) (word : Nat) : State :=
  if word / 2 ^ 31 % 2 = 1 then
    s.updSrc d (word % 1024) (fun e => { e with shadow := false, pending := false, count := 0, ripe := false })
  else s

/-! ### Writes passed to the partner (R627) -/

/-- A write passed to the partner's controller in class 3: kind 0 software sources (a mask), 1 a timer compare (index, compare), 2 to 4
a threshold of level M, HS, VS (duplex or partition, threshold). -/
def State.passEvc (s : State) (d : Die) (kind idx v : Nat) : State :=
  if s.alive d.other then s.plSend d 3 (.evc kind idx v) else s

/-- Software sources of a mask fired on a die. -/
def State.fireMask (s : State) (d : Die) (m : Nat) : State :=
  ((List.range 16).filter (fun i => bitOf m i)).foldl (fun st i => st.fire d i) s

/-! ### Snapshots and hand-over (R628, R629) -/

/-- The snapshot of a binding: duplex `x` of the home die with the stack and threshold of every partition homed there. -/
def State.evcSnapshot (s : State) (d : Die) (x : Nat) : EvcSnap :=
  let e := (s.vol.get d).evc
  { stM := tget [] e.stM x, stS := tget [] e.stS x, thrM := tget 0 e.thrM x, thrS := tget 0 e.thrS x,
    parts := ((List.range 32).filter (fun p => s.homedAt d p x)).map (fun p => (p, tget [] e.stV p, tget 0 e.thrV p)),
    inService := (List.range 1024).filter (fun n => isLevelSrc n && (s.src d n).inService &&
      s.homedAt d (EVC_sROUTE__PART.get (s.rd d (EVC_sROUTE n))) x) }

/-- A snapshot loaded on the spare for a binding that it takes over on duplex `x`: stacks, thresholds and the in-service marks of
the binding's level sources. -/
def State.loadSnapshot (s : State) (d : Die) (x : Nat) (k : EvcSnap) : State :=
  let s1 := (((s.setStack d x 0 0 k.stM).setStack d x 0 1 k.stS).setThr d x 0 0 k.thrM).setThr d x 0 1 k.thrS
  let s2 := k.parts.foldl (fun st e => (st.setStack d x e.1 2 e.2.1).setThr d x e.1 2 e.2.2) s1
  ((List.range 1024).filter (fun n => isLevelSrc n &&
    k.parts.any (fun e => decide (e.1 = EVC_sROUTE__PART.get (s.rd d (EVC_sROUTE n)))))).foldl
    (fun st n => st.updSrc d n (fun e => { e with inService := k.inService.contains n })) s2

/-- The sources routed to a partition. -/
def State.routedTo (s : State) (d : Die) (p : Nat) : List Nat :=
  (List.range 1024).filter (fun n =>
    decide (EVC_sROUTE__PART.get (s.rd d (EVC_sROUTE n)) = p) && decide (0 < s.srcPrio d n))

/-- The hand-over when a spare's log is exhausted (R629): every source still pending or shadow pending is eligible live. -/
def State.handOver (s : State) (d : Die) (p : Nat) : State :=
  (s.routedTo d p).foldl (fun st n =>
    let e := st.src d n
    if isLevelSrc n then (if st.srcPending d n then st.addSat d EVC_HAND whole 1 else st)
    else if e.pending ∨ e.shadow then
      (st.updSrc d n (fun e => { e with
        pending := e.pending || e.shadow, ripe := true, shadow := false,
        count := if e.count = 0 then 1 else e.count })).addSat d EVC_HAND whole 1
    else st) s

/-- What a partition reset does to a die's controller (R631), before the reset source fires. -/
def State.evcPartReset (s : State) (d : Die) (p : Nat) : State :=
  let s1 := (s.setStack d 0 p 2 []).setThr d 0 p 2 0
  let routed := fun (n : Nat) =>
    decide (s.rd d (EVC_sROUTE n) ≠ 0#32 ∧ EVC_sROUTE__PART.get (s.rd d (EVC_sROUTE n)) = p)
  let s2 := ((List.range 1024).filter routed).foldl (fun st n =>
    if isLevelSrc n then st
    else st.updSrc d n (fun e => { e with pending := false, count := 0, ripe := false, shadow := false })) s1
  let s3 := s2.updVol d (fun u => { u with evc := { u.evc with heldLow := tset none u.evc.heldLow p none } })
  (s3.wr d (EVC_TtCMPL p) 0xFFFFFFFF#32).wr d (EVC_TtCMPH p) 0xFFFFFFFF#32

/-! ### Retention across DORMANT (R632, R633) -/

/-- The retention image of a die's controller without its CRC. -/
def State.evcImageBody (s : State) (d : Die) : List Byte :=
  let e := (s.vol.get d).evc
  let pend := (List.range 128).map (fun i =>
    BitVec.ofNat 8 (maskOf ((List.range 8).filter (fun k => isEdgeSrc (8 * i + k) && (s.src d (8 * i + k)).pending))))
  toLE 4 0x52435645 ++ toLE 4 0 ++ pend ++
    (List.range 48).flatMap (fun t => toLE 8 (s.rd64 d (EVC_TtCMPL t) (EVC_TtCMPH t))) ++
    (List.range 12).flatMap (fun x => toLE 1 (tget 0 e.thrM x) ++ toLE 1 (tget 0 e.thrS x)) ++
    (List.range 32).flatMap (fun p => toLE 1 (tget 0 e.thrV p))

/-- The retention image of a die's controller. -/
def State.evcImage (s : State) (d : Die) : List Byte :=
  let b := s.evcImageBody d
  b ++ toLE 8 (crc64 b)

/-- Bytes written to the Cistern's retention store, four at a time. -/
def State.putRetention (s : State) (off : Nat) (l : List Byte) : State :=
  (List.range (l.length / 4)).foldl (fun st i => st.wr 0 (CIS_RETENTION (off / 4 + i)) (BitVec.ofNat 32 (u32 l (4 * i)))) s

/-- Bytes of the retention store, four at a time. -/
def State.retention (s : State) (off n : Nat) : List Byte :=
  (List.range n).flatMap (fun i => toLE 4 (s.rd 0 (CIS_RETENTION (off / 4 + i))).toNat)

/-- An edge source pending again from the image. How many firings it had coalesced is not kept, a free value (R632). -/
def State.pendAgain (s : State) (d : Die) (n : Nat) : State :=
  s.withFree (fun v s =>
    let c := v % 256
    s.updSrc d n (fun e => { e with
      pending := true, count := c, firstAt := s.ns d,
      ripe := !s.bit d (EVC_sROUTE n) EVC_sROUTE__MOD || s.bit d (EVC_sMOD n) EVC_sMOD__TIME ||
        decide (s.fld d (EVC_sMOD n) EVC_sMOD__CNT ≤ c) }))

/-- The image of a die's controller restored on a wake from DORMANT, or rejected (R633). -/
def State.evcRestore (s : State) (d : Die) : State :=
  let b := s.retention (0x400 * d.val) 0x92
  if u32 b 0 = 0x52435645 ∧ u64 b 0x240 = crc64 (b.take 0x240) then
    let s1 := ((List.range 1024).filter (fun n => isEdgeSrc n && bitOf (u8 b (8 + n / 8)) (n % 8))).foldl
      (fun st n => st.pendAgain d n) s
    let s2 := (List.range 48).foldl (fun st t => st.wr64 d (EVC_TtCMPL t) (EVC_TtCMPH t) (u64 b (0x88 + 8 * t))) s1
    let s3 := (List.range 12).foldl (fun st x =>
      (st.setThr d x 0 0 (u8 b (0x208 + 2 * x) % 64)).setThr d x 0 1 (u8 b (0x209 + 2 * x) % 64)) s2
    (List.range 32).foldl (fun st p => st.setThr d 0 p 2 (u8 b (0x220 + p) % 64)) s3
  else (s.setF d EVC_ERR EVC_ERR__RESTFAIL 1).recordBoth 0x0500 0x08 0 0x0B 0

/-- The restoring that a wake from DORMANT left to do, once the records of step 2 are applied (R633). -/
def State.restoreDue (s : State) (d : Die) : State :=
  if s.cis.pw.restore.get d then
    (s.updCis (fun c => { c with pw := { c.pw with restore := c.pw.restore.set d false } })).evcRestore d
  else s

end Sys2Proof.Machine
end

