-- ==== Sys2Proof/Machine/Flags.lean ====
section
/-! DEFINITION. The flag computations of the nib instruction set (R270, R271, R274): Z and N of a result, carry and
overflow of an addition and a subtraction, the bit a shift drops. -/

namespace Sys2Proof.Machine

/-- Z and N from a 32-bit result. -/
def NibFlags.zn (f : NibFlags) (r : Word) : NibFlags := { f with z := decide (r = 0#32), n := r.msb }

/-- Z and N from the accumulator, with V. -/
def NibFlags.accZnv (f : NibFlags) (a : BitVec 64) (v : Bool) : NibFlags :=
  { f with z := decide (a = 0#64), n := a.msb, v := v }

/-- Whether a signed integer does not fit `w` bits (R270). -/
def noFit (w : Nat) (x : Int) : Bool := !decide (-(2 ^ (w - 1) : Int) ≤ x ∧ x < 2 ^ (w - 1))

/-- Z N C V of an addition. -/
def NibFlags.ofAdd (f : NibFlags) (a b : Word) : NibFlags :=
  { f.zn (a + b) with c := decide (2 ^ 32 ≤ a.toNat + b.toNat), v := noFit 32 (a.toInt + b.toInt) }

/-- Z N C V of a subtraction: C is 1 when no borrow occurs. -/
def NibFlags.ofSub (f : NibFlags) (a b : Word) : NibFlags :=
  { f.zn (a - b) with c := decide (b.toNat ≤ a.toNat), v := noFit 32 (a.toInt - b.toInt) }

/-- Z N from a shift's result, and C as the last bit shifted out; a shift by 0 leaves C (R274). -/
def NibFlags.ofShift (f : NibFlags) (r : Word) (amount : Nat) (out : Bool) : NibFlags :=
  { f.zn r with c := if amount = 0 then f.c else out }

/-- The condition of a branch (R272). -/
def condHolds (c : Nat) (f : NibFlags) (r : Word) : Bool :=
  match c with
  | 0x0 => true
  | 0x1 => f.z
  | 0x2 => !f.z
  | 0x3 => f.c
  | 0x4 => !f.c
  | 0x5 => f.n
  | 0x6 => !f.n
  | 0x7 => f.v
  | 0x8 => f.c && !f.z
  | 0x9 => !f.c || f.z
  | 0xA => f.n == f.v
  | 0xB => f.n != f.v
  | 0xC => !f.z && (f.n == f.v)
  | 0xD => f.z || (f.n != f.v)
  | 0xE => decide (r = 0#32)
  | _ => decide (r ≠ 0#32)

/-- An atomic operation by its funct5 on words of `w` bits (R383, R690); none for a number that names none. -/
def amo (w fn old v : Nat) : Option Nat :=
  match fn with
  | 0 => some ((old + v) % 2 ^ w)
  | 1 => some v
  | 4 => some (Nat.xor old v)
  | 8 => some (Nat.lor old v)
  | 12 => some (Nat.land old v)
  | 16 => some (if toSigned w old ≤ toSigned w v then old else v)
  | 20 => some (if toSigned w old ≤ toSigned w v then v else old)
  | 24 => some (min old v)
  | 28 => some (max old v)
  | _ => none

end Sys2Proof.Machine
end

