-- ==== Sys2Proof/Machine/Guard.lean ====
section
/-! DEFINITION. The region guards in front of the memories of a Q-die (R540, R566 to R574): the tags a transaction
carries, the region that decides an access, and what a refusal leaves. -/

namespace Sys2Proof.Machine

/-- The tags of a transaction (R540): its initiator bit as in RGD_g_rCTL.INIT (0 duplex, 1 nib, 2 management core,
3 switch core or SGW, 4 debug port), its partition or logical-nib tag, the hypervisor mode tag and the sealed world. -/
structure Tags where
  init : Nat
  part : Nat := 0
  hyp : Bool := false
  sealed : Bool := false
  deriving DecidableEq, Repr

/-- The kind of an access (R567), in the codes of RGD_gLAST.KIND. -/
inductive AccKind where
  | read | write | fetch
  deriving DecidableEq, Repr

/-- The code of an access kind. -/
def AccKind.code : AccKind → Nat
  | .read => 0
  | .write => 1
  | .fetch => 2

/-- The guard in front of an address and the address it matches (R566); none where no guard stands. -/
def guardOf (a : Nat) : Option (Nat × Nat) :=
  if 0x100000000 ≤ a ∧ a < 0x300000000 then some (0, a)
  else if 0x20000000 ≤ a ∧ a < 0x20800000 then some (1, a)
  else if inMram a then some (2, a)
  else if 0x30000000 ≤ a ∧ a < 0x30C00000 then some (3, a)
  else if 0x40000000 ≤ a ∧ a < 0x48000000 ∧ 0x80000 ≤ a % 0x1000000 ∧ a % 0x1000000 < 0xC0000 then
    some (5 + (a - 0x40000000) / 0x1000000, a % 0x1000000 - 0x80000)
  else if 0x40000000 ≤ a ∧ a < 0x48000000 ∧ 0x180000 ≤ a % 0x1000000 ∧ a % 0x1000000 < 0x1C0000 then
    some (5 + (a - 0x40000000) / 0x1000000, a % 0x1000000 - 0x180000)
  else none

/-- The control word of a region. -/
def State.rgCtl (s : State) (d : Die) (g r : Nat) (f : Fld) : Nat := s.fld d (RGD_g_rCTL g r) f

/-- Whether a valid region's range contains every byte of an access (R567). -/
def State.regionHas (s : State) (d : Die) (g r a n : Nat) : Bool :=
  decide (s.rgCtl d g r RGD_g_rCTL__VALID = 1) &&
  decide ((s.rd d (RGD_g_rBASE g r)).toNat * 4096 ≤ a ∧ a + n ≤ ((s.rd d (RGD_g_rLIMIT g r)).toNat + 1) * 4096)

/-- Whether a valid region of the guard in front of an address holds it with the sealed attribute (R571). -/
def State.sealedAt (s : State) (d : Die) (a n : Nat) : Bool :=
  match guardOf a with
  | some (g, o) => (List.range 64).any (fun r => s.regionHas d g r o n && decide (s.rgCtl d g r RGD_g_rCTL__SEALED = 1))
  | none => false

/-- Content that a flit carries, by address and bytes, as it leaves the die (R765): bytes of a sealed region in system SRAM, MRAM,
the signal store or a pool go encrypted under the pair key; sealed DRAM is ciphertext already (R764). -/
def State.pairCipher (s : State) (d : Die) (l : List (Nat × List Byte)) : List Byte :=
  (l.filter (fun p => s.sealedAt d p.1 p.2.length && decide ((guardOf p.1).map Prod.fst ≠ some 0))).flatMap
    (fun p => Config.xts pairKey p.1 p.2)

/-- Whether a region matches a requester (R568). -/
def State.regionMatches (s : State) (d : Die) (g r : Nat) (t : Tags) : Bool :=
  bitOf (s.rgCtl d g r RGD_g_rCTL__INIT) t.init &&
  (let inMask := bitOf (s.rd d (RGD_g_rPART g r)).toNat t.part
   let isOpen := decide (s.rgCtl d g r RGD_g_rCTL__OPEN = 1)
   match t.init with
   | 0 => if t.sealed then decide (s.rgCtl d g r RGD_g_rCTL__SEALW = 1) && inMask
          else isOpen && inMask && (if t.hyp then decide (s.rgCtl d g r RGD_g_rCTL__HYP = 1)
                                    else decide (s.rgCtl d g r RGD_g_rCTL__GUEST = 1))
   | 1 => isOpen && inMask
   | 3 => isOpen && inMask
   | _ => true)

/-- Whether a region grants a kind of access. -/
def State.regionGrants (s : State) (d : Die) (g r : Nat) : AccKind → Bool
  | .read => decide (s.rgCtl d g r RGD_g_rCTL__R = 1)
  | .write => decide (s.rgCtl d g r RGD_g_rCTL__W = 1)
  | .fetch => decide (s.rgCtl d g r RGD_g_rCTL__X = 1)

/-- The region that decides an access among regions `r` to `r + n - 1`, with its decision (R567). -/
def State.decideFrom (s : State) (d : Die) (g a len : Nat) (t : Tags) (k : AccKind) : Nat → Nat → Option (Nat × Bool)
  | _, 0 => none
  | r, n + 1 =>
    if s.regionHas d g r a len then
      if s.regionMatches d g r t then some (r, s.regionGrants d g r k)
      else if s.rgCtl d g r RGD_g_rCTL__EXCL = 1 then some (r, false)
      else s.decideFrom d g a len t k (r + 1) n
    else s.decideFrom d g a len t k (r + 1) n

/-- Whether an access writes into the Ductus slot of MRAM, which only the loader writes (R46; log entry 70). -/
def slotWrite (g a len : Nat) (k : AccKind) : Bool := decide (g = 2 ∧ k = .write ∧ a < 0x11800000 ∧ 0x10800000 < a + len)

/-- Whether an access is a write into the signal store by another than a nib's DSC.ST, which no region admits (R309). -/
def storeWrite (g : Nat) (t : Tags) (k : AccKind) : Bool := decide (g = 3 ∧ k = .write ∧ t.init ≠ 1)

/-- The deciding region of an access and the decision: no region refuses (R567), and no region admits a write to the Ductus slot or the
signal store. -/
def State.guardDecides (s : State) (d : Die) (g a len : Nat) (t : Tags) (k : AccKind) : Option (Nat × Bool) :=
  (s.decideFrom d g a len t k 0 64).map (fun e => (e.1, e.2 && !slotWrite g a len k && !storeWrite g t k))

/-- Whether a guard admits an access. A duplex write that a region of CLASS I decides is refused (R570). -/
def State.admits (s : State) (d : Die) (g a len : Nat) (t : Tags) (k : AccKind) : Bool :=
  match s.guardDecides d g a len t k with
  | some (r, ok) => ok && !(decide (t.init = 0 ∧ k = .write) && decide (s.rgCtl d g r RGD_g_rCTL__CLASS = 3))
  | none => false

/-- The refusal of an access (R569): counted, and latched when no refusal is. -/
def State.guardRefuse (s : State) (d : Die) (g a : Nat) (t : Tags) (k : AccKind) : State :=
  let s1 := s.addSat d (RGD_gDENY g) RGD_gDENY__COUNT 1
  if s1.bit d (RGD_gLAST g) RGD_gLAST__VALID then s1
  else
    let s2 := (s1.wr d (RGD_gLASTL g) (BitVec.ofNat 32 a)).wr d (RGD_gLASTH g) (BitVec.ofNat 32 (a / 2 ^ 32 % 2 ^ 16))
    ((((((s2.setF d (RGD_gLAST g) RGD_gLAST__KIND k.code).setF d (RGD_gLAST g) RGD_gLAST__INIT (2 ^ t.init)).setF d
      (RGD_gLAST g) RGD_gLAST__SEALW (b2n t.sealed)).setF d (RGD_gLAST g) RGD_gLAST__HYP (b2n t.hyp)).setF d
      (RGD_gLAST g) RGD_gLAST__PART t.part).setF d (RGD_gLAST g) RGD_gLAST__VALID 1)

/-- Whether the memory at an address admits an access; where no guard stands, it does. -/
def State.memAdmits (s : State) (d : Die) (a len : Nat) (t : Tags) (k : AccKind) : Bool :=
  match guardOf a with
  | some (g, o) => s.admits d g o len t k
  | none => true

/-- The refusal of an access by the guard in front of an address. -/
def State.memRefuse (s : State) (d : Die) (a : Nat) (t : Tags) (k : AccKind) : State :=
  match guardOf a with
  | some (g, o) => s.guardRefuse d g o t k
  | none => s

/-- The tags of an initiator of a register or window access (R540). -/
def tagsOf : Initiator → Tags
  | .part p => { init := 0, part := p.val, hyp := true }
  | .sealed p => { init := 0, part := p.val, sealed := true }
  | .nib _ _ => { init := 1 }
  | .dma p => { init := 3, part := p.val }
  | .debug => { init := 4 }
  | _ => { init := 2 }

/-- Whether an initiator owns a satellite chip select, numbered 4 × bus + select (R544): the sealed world by its tag, a partition by an
open one; one without an owner is no one's (R545). -/
def State.ownsSat (s : State) (d : Die) (who : Initiator) (k : Nat) : Bool :=
  s.bit d (WLD_SATOWNs k) WLD_SATOWNs__VALID && (match who with
    | .part p => decide (s.fld d (WLD_SATOWNs k) WLD_SATOWNs__SEALED = 0 ∧ p.val = s.fld d (WLD_SATOWNs k) WLD_SATOWNs__PART)
    | .sealed _ => s.bit d (WLD_SATOWNs k) WLD_SATOWNs__SEALED
    | _ => false)

/-- The chip select of an address of satellite bridge space. -/
def satSelect (a : Nat) : Nat := (a - 0x1000000000) / 0x400000

/-- A failed access to a satellite bus: counted, with the bus's event (R382). -/
def State.satCount (s : State) (d : Die) (b : Nat) : State := (s.addSat d (FBB_SATbERR b) FBB_SATbERR__FAIL 1).fire d (0xB8 + b)

end Sys2Proof.Machine
end

