-- ==== Sys2Proof/Machine/Nib.lean ====
section
/-! DEFINITION. The nib engine (spec/06): its registers, its data side, taking an exception and returning from one,
the stream, timing lanes, and the frame every nib instruction runs in (decode checks, causes in their order, delay
slot, hardware loops, MSET commit). -/

namespace Sys2Proof.Machine

/-! ### Access to clusters and nibs -/

/-- A cluster of a die. -/
def State.cl (s : State) (d : Die) (c : Nat) : Cluster := tget {} (s.vol.get d).clusters c

/-- A cluster changed. -/
def State.updCl (s : State) (d : Die) (c : Nat) (f : Cluster → Cluster) : State :=
  s.updVol d (fun v => { v with clusters := tupd {} v.clusters c f })

/-- A logical nib of a cluster. -/
def Cluster.nib (x : Cluster) (k : Nat) : Nib := tget {} x.nibs k

/-- A logical nib. -/
def State.nib (s : State) (n : NibId) : Nib := (s.cl n.d n.c.val).nib n.k.val

/-- A logical nib changed. -/
def State.updNib (s : State) (n : NibId) (f : Nib → Nib) : State :=
  s.updCl n.d n.c.val (fun x => { x with nibs := tupd {} x.nibs n.k.val f })

/-- The same logical nib on the other die. -/
def twinOf (n : NibId) : NibId := { n with d := n.d.other }

/-- Where the cluster window of a cluster begins (R32). -/
def winBase (c : Nat) : Nat := 0x40000000 + c * 0x1000000

/-- Where IMEM, DMEM and the pool lie in the cluster window. -/
def imemAddr (c k i : Nat) : Nat := winBase c + 0x2000 * k + 4 * i
def dmemAddr (c k a : Nat) : Nat := winBase c + 0x40000 + 0x2000 * k + a
def poolAddr (c o : Nat) : Nat := winBase c + 0x80000 + o

/-- The nib number of R210 without the slot: die, cluster, logical index. -/
def nibNum (n : NibId) : Nat := n.d.val * 256 + n.c.val * 32 + n.k.val

/-! ### Registers and flags (R212, R213) -/

/-- A register of the bank in use. -/
def Nib.reg (x : Nib) (i : Nat) : Word := tget 0#32 x.regs (16 * b2n x.bank + i % 16)

/-- A register of the bank in use written. -/
def Nib.setReg (x : Nib) (i : Nat) (v : Word) : Nib :=
  { x with regs := tset 0#32 x.regs (16 * b2n x.bank + i % 16) v }

/-- The flags of the bank in use. -/
def Nib.flags (x : Nib) : NibFlags := if x.bank then x.flags1 else x.flags0

/-- The flags of the bank in use written. -/
def Nib.setFlags (x : Nib) (f : NibFlags) : Nib := if x.bank then { x with flags1 := f } else { x with flags0 := f }

/-- The sticky flag set when an operation clamps (R271). -/
def Nib.clampS (x : Nib) (clamped : Bool) : Nib :=
  if clamped then x.setFlags { x.flags with s := true } else x

/-- The special register NSTAT (R213). -/
def Nib.nstat (x : Nib) : Nat :=
  b2n x.mode + 2 * b2n x.bank + 4 * b2n x.ie + 8 * b2n x.ds + 16 * b2n x.mset.isSome + 256 * b2n x.flags.z +
    512 * b2n x.flags.n + 1024 * b2n x.flags.c + 2048 * b2n x.flags.v + 4096 * b2n x.flags.s +
    65536 * b2n (decide (x.lc0 ≠ 0)) + 131072 * b2n (decide (x.lc1 ≠ 0))

/-- The flags a value written to NSTAT names (R213). -/
def flagsOf (v : Nat) : NibFlags :=
  { z := bitOf v 8, n := bitOf v 9, c := bitOf v 10, v := bitOf v 11, s := bitOf v 12 }

/-! ### The state a nib starts with (R253) -/

/-- A nib at its entry address: task mode, bank 0, IE = 0, registers and acc 0; its program, subscriptions and mailbox
targets stay, with every credit held. A protection nib stands blocked in MBX.GET from its start (log entry 76). -/
def Nib.start (x : Nib) : Nib :=
  { prog := x.prog, run := if x.prog = .protection then .inGet else .running, slot := x.slot, entry := x.entry, vbase0 := x.vbase0, wdog := x.wdog,
    depth := x.depth, patchable := x.patchable, progSeq := x.progSeq, vbase := x.vbase0, pc := x.entry,
    subs := x.subs, boxes := x.boxes.map (fun e => (e.1, { e.2 with held := e.2.size })), eccTimes := x.eccTimes,
    haltTimes := x.haltTimes, restartAt := x.restartAt }

/-! ### NBC state (R259) -/

/-- The state code of a cluster (NBC_nSTAT.STATE). -/
def State.clState (s : State) (d : Die) (c : Nat) : Nat := s.fld d (NBC_nSTAT c) NBC_nSTAT__STATE

/-- Whether a die holds a cluster's authority token. -/
def State.hasAuth (s : State) (d : Die) (c : Nat) : Bool := decide (s.holder c = d)

/-- Whether a die's cluster orders its own inputs: with authority, or on Q-die 1 beside another image (R230, R712). -/
def State.ordersOwn (s : State) (d : Die) (c : Nat) : Bool := s.hasAuth d c || (s.apart && decide (d = 1))

/-- Whether a die's cluster runs, in authority or in shadow. -/
def State.clRuns (s : State) (d : Die) (c : Nat) : Bool :=
  s.alive d && decide (s.clState d c = 3 ∨ s.clState d c = 4)

/-- Whether the twin on the other die follows the order: in shadow, or rejoining from the cut (R254). -/
def State.twinFollows (s : State) (d : Die) (c : Nat) : Bool :=
  s.joint d &&
    (decide (s.clState d.other c = 4) ||
      (decide (s.clState d.other c = 5) && decide ((s.cl d.other c).rejoin = .cut)))

/-- Writes of a nib to DMEM or pool go to its own die, and while the twin rejoins from the cut also to the twin
(R254). -/
def State.nibPut (s : State) (d : Die) (c : Nat) (a : Nat) (l : List Byte) : State :=
  let s1 := s.putBytes d a l
  if s.hasAuth d c && decide (s.clState d.other c = 5) && decide ((s.cl d.other c).rejoin = .cut) then
    s1.putBytes d.other a l
  else s1

/-! ### Exceptions (R245 to R247) -/

/-- The fault record of a nib exception (class 0x05): NID as subject, cause, EPC and EADDR as detail. -/
def State.nibRecord (s : State) (n : NibId) (cause epc eaddr : Nat) (halted : Bool) (code : Nat) : State :=
  s.recordSev n.d (0x0800 + n.c.val) 0x05 (if halted then 4 else 0) (nibNum n) code
    (cause + 256 * epc + 2 ^ 21 * eaddr)

/-- The registers NBC_nEXC and NBC_nEPC after an exception. -/
def State.nibExcRegs (s : State) (n : NibId) (cause epc : Nat) (hmode ds : Bool) : State :=
  let r := NBC_nEXC n.c.val
  let s1 := ((s.setF n.d r NBC_nEXC__CAUSE cause).setF n.d r NBC_nEXC__NIB n.k.val).setF n.d r NBC_nEXC__HMODE (b2n hmode)
  let s2 := ((s1.setF n.d r NBC_nEXC__DS (b2n ds)).setF n.d r NBC_nEXC__VALID 1).addSat n.d r NBC_nEXC__COUNT 1
  s2.setF n.d (NBC_nEPC n.c.val) NBC_nEPC__EPC epc

/-- The memory code of R729 for a data address of a nib. -/
def nibMemCode (a : Nat) : Nat :=
  if a < 0x2000 then 6 else if a < 0x80000000 then 7 else 3

/-- The address an ECC record shows (R729): the place in the cluster window of a fetch, DMEM or pool address, else the address met. -/
def nibPlace (n : NibId) (mem a : Nat) : Nat :=
  match mem with
  | 5 => imemAddr n.c.val n.k.val (a / 4)
  | 6 => dmemAddr n.c.val n.k.val a
  | 7 => poolAddr n.c.val (a - 0x40000000)
  | _ => a

/-- A record of an ECC error a nib met, written by each Q-die (R222): class 0x07 corrected, 0x08 not. -/
def State.nibEcc (s : State) (n : NibId) (cls mem a : Nat) : State :=
  s.recordBoth (0x0800 + n.c.val) cls (mem + 256 * n.c.val) 0 (nibPlace n mem a)

/-- Whether a nib subscribes a source (R229). -/
def Nib.subscribes (x : Nib) (src : Nat) : Bool := x.subs.any (fun u => decide (u.first ≤ src ∧ src ≤ u.last))

/-- An input reaches a cluster's stream unit and is held (R228, R233): it takes the source's next sequence number. A message to one
nib is an input only where that nib subscribes its sender (R229, R241). -/
def State.streamHold (s : State) (d : Die) (c src stamp : Nat) (payload : List Byte) (err : Bool) (msg : Option (Nat × Nat)) :
    State :=
  let x := s.cl d c
  let named := decide (src = 0x600 ∨ src = 0x601) || (match msg with
    | some m => (x.nib m.1).subscribes src
    | none => x.nibs.any (fun e => e.2.subscribes src))
  if s.alive d && named && decide (3 ≤ s.clState d c ∧ s.clState d c ≤ 5) then
    let q := tget 0 x.seqs src
    s.updCl d c (fun x => { x with
      held := x.held ++ [{ src := src, seq := q, stamp := stamp, payload := payload, err := err, msg := msg,
                           late := x.excluded.contains src }],
      seqs := tset 0 x.seqs src ((q + 1) % 65536) })
  else s

/-- An input for every nib that subscribes its source. -/
def State.streamIn (s : State) (d : Die) (c src stamp : Nat) (payload : List Byte) (err : Bool) : State :=
  s.streamHold d c src stamp payload err none

/-- The same internal input on both dies (R250). -/
def State.streamBoth (s : State) (c src : Nat) (payload : List Byte) : State :=
  (s.streamIn 0 c src (s.ns 0) payload false).streamIn 1 c src (s.ns 1) payload false

/-- A nib halts in handler mode (R247): the first exception's registers stay, NBC_nEXC records the new cause. When its
twin has halted with the same cause and PC the fault is a program fault: it counts against neither slot (R255), and with NIBACT = 1 a
control entry restarts the nib on both dies, at most once per hour (R738). -/
def State.nibHalt (s : State) (n : NibId) (cause eaddr : Nat) (ds : Bool) : State :=
  let x := s.nib n
  let tw := s.nib (twinOf n)
  let same := decide (tw.run = .haltedExc ∧ tw.haltCause = cause ∧ tw.pc = x.pc)
  let s0 := s.updNib n (fun x => { x with
    run := .haltedExc, haltCause := cause, mset := .none,
    haltTimes := if same then x.haltTimes else x.haltTimes ++ [s.ns n.d] })
  let s1 := if same then s0.updNib (twinOf n) (fun t => { t with haltTimes := t.haltTimes.dropLast }) else s0
  let s2 := s1.nibExcRegs n cause x.pc true ds
  let s3 := if cause = 6 ∨ 0x10 ≤ cause ∨ cause = 4 then s2 else s2.nibRecord n cause x.pc eaddr true 0
  let fresh : Bool := match x.restartAt with | some r => decide (r + 3600000000000 ≤ s.ns n.d) | none => true
  if same && decide (s.fld n.d FLT_CFG FLT_CFG__NIBACT = 1) && fresh then
    s3.streamBoth n.c.val 0x601 [2#8, BitVec.ofNat 8 n.k.val]
  else s3

/-- Taking an exception or an event (R245): EPC and DS as given, ECAUSE and EADDR, MP cleared, MODE and BANK 1, the
watchdog reloaded, execution at VBASE + cause × 16. In handler mode the nib halts instead (R247). Cause 0x04 is
recorded as class 0x08, TRAP and events not at all, the others as class 0x05. -/
def State.nibTake (s : State) (n : NibId) (cause eaddr epc : Nat) (ds : Bool) (mem : Nat) : State :=
  let x := s.nib n
  let s0 := if cause = 4 then
      (s.nibEcc n 0x08 mem eaddr).updNib n
        (fun x => { x with eccTimes := x.eccTimes ++ [s.ns n.d] })
    else s
  if x.mode then s0.nibHalt n cause eaddr ds
  else
    let s1 := s0.updNib n (fun x => { x with
      epc := epc % 2 ^ 13, ecause := cause, eaddr := BitVec.ofNat 32 eaddr, ds := ds, mset := .none, mode := true,
      bank := true, wdogHit := false, slotOf := .none, run := .running, pc := x.vbase + cause * 16 })
    if cause = 6 ∨ 0x10 ≤ cause then s1
    else
      let s2 := s1.nibExcRegs n cause (epc % 2 ^ 13) false ds
      if cause = 4 then s2 else s2.nibRecord n cause (epc % 2 ^ 13) eaddr false 0

/-- The address the nib would execute next in sequence: the target of a taken branch in whose delay slot it stands,
or the next word. -/
def Nib.nextPc (x : Nib) : Nat :=
  match x.slotOf with
  | some sl => sl.target.getD (x.pc + 4)
  | none => x.pc + 4

/-- Raising a cause at the present instruction, with EPC and DS by the table of R245. For an MSET in a delay slot R218 names the MSET and
that table the branch: the model takes the branch with DS = 1 (log entry 110). -/
def State.nibRaise (s : State) (n : NibId) (cause eaddr mem : Nat) : State :=
  let x := s.nib n
  let inSlot := x.slotOf.isSome
  if cause = 6 ∨ 0x10 ≤ cause then s.nibTake n cause eaddr x.nextPc inSlot mem
  else match x.slotOf, x.mset with
    | some sl, _ => s.nibTake n cause eaddr sl.branch true mem
    | none, some m => s.nibTake n cause eaddr m.addr false mem
    | none, none => s.nibTake n cause eaddr x.pc false mem

/-- The return from an exception (R216): PC from EPC, MODE, BANK and DS 0. -/
def Nib.eret (x : Nib) : Nib := { x with mode := false, bank := false, ds := false }

/-! ### The loop-end check (R225) -/

/-- The level whose end is the present instruction, when the check runs: task mode and an active level. -/
def Nib.loopEnd (x : Nib) : Option Bool :=
  if x.mode then none
  else if x.lc1 ≠ 0 ∧ x.pc = x.le1 then some true
  else if x.lc0 ≠ 0 ∧ x.pc = x.le0 then some false
  else none

/-- Where execution goes on after the present instruction completes in sequence, the loop-end check included. -/
def Nib.seqPc (x : Nib) : Nat :=
  match x.loopEnd with
  | some true => if 1 < x.lc1 then x.ls1 else x.nextPc
  | some false => if 1 < x.lc0 then x.ls0 else x.nextPc
  | none => x.nextPc

/-- The loop counters after the check, from the values before the instruction (R307): a count that MTS writes there is lost to the
check (log entry 77). -/
def Nib.loopCount (old x : Nib) : Nib :=
  match old.loopEnd with
  | some true => { x with lc1 := old.lc1 - 1 }
  | some false => { x with lc0 := old.lc0 - 1 }
  | none => x

/-- A taken branch leaves every active loop its target lies outside of (R226). -/
def Nib.leaveLoops (x : Nib) (target : Nat) : Nib :=
  let x0 := if x.lc0 ≠ 0 ∧ ¬(x.ls0 ≤ target ∧ target ≤ x.le0) then { x with lc0 := 0 } else x
  if x0.lc1 ≠ 0 ∧ ¬(x0.ls1 ≤ target ∧ target ≤ x0.le1) then { x0 with lc1 := 0 } else x0

/-! ### The frame of one instruction -/

/-- How a nib instruction is told apart and what it must leave 0 (R266 to R268). -/
structure NibOp where
  mask : Nat
  val : Nat
  zero : Nat
  deriving DecidableEq, Repr

/-- Whether a word is this instruction. -/
def NibOp.isOp (o : NibOp) (w : Word) : Bool := decide (w &&& BitVec.ofNat 32 o.mask = BitVec.ofNat 32 o.val)

/-- Whether a word leaves the unused fields 0. -/
def NibOp.clean (o : NibOp) (w : Word) : Bool := decide (w &&& BitVec.ofNat 32 o.zero = 0#32)

/-- Fields of a word: rd, rs, rt, flags, pos, len, imm18. -/
def wRd (w : Word) : Nat := w.toNat / 2 ^ 22 % 16
def wRs (w : Word) : Nat := w.toNat / 2 ^ 18 % 16
def wRt (w : Word) : Nat := w.toNat / 2 ^ 14 % 16
def wFn (w : Word) : Nat := w.toNat / 16 % 1024
def wFlags (w : Word) : Nat := w.toNat % 16
def wPos (w : Word) : Nat := w.toNat / 2 ^ 12 % 64
def wLen (w : Word) : Nat := w.toNat / 64 % 64
def wImm (w : Word) : Nat := w.toNat % 2 ^ 18
def wSimm (w : Word) : Int := toSigned 18 w.toNat
def wEnd (w : Word) : Nat := w.toNat % 2048

/-- Format A: major, fn, which of rd, rs and rt are used, and the flags bits defined. -/
def opA (maj fn : Nat) (d s t : Bool) (fl : Nat) : NibOp :=
  ⟨0xFC003FF0, maj * 2 ^ 26 + fn * 16,
   (if d then 0 else 0x03C00000) + (if s then 0 else 0x003C0000) + (if t then 0 else 0x0003C000) + (15 - fl)⟩

/-- Format X: major, fn, which of rd and rs are used. -/
def opX (maj fn : Nat) (d s : Bool) : NibOp :=
  ⟨0xFC00003F, maj * 2 ^ 26 + fn, (if d then 0 else 0x03C00000) + (if s then 0 else 0x003C0000)⟩

/-- Formats told apart by the major opcode alone, with the bits that must be 0. -/
def opM (maj unused : Nat) : NibOp := ⟨0xFC000000, maj * 2 ^ 26, unused⟩

/-- The kind of an instruction for the rules of delay slots and shadows: plain, a branch or jump (with a delay slot), or
one of LOOP, LOOPR, TRAP, WAIT, ERET and MSET. -/
inductive NibKind where
  | plain | branch | special | mset
  deriving DecidableEq, Repr

/-- What an instruction does from a state: it raises a cause, completes in sequence, branches (with a target when
taken), goes on at an address without a delay slot, or holds where it stands (blocked or halted). -/
inductive NibDo where
  | raise (t : State) (cause eaddr mem : Nat)
  | done (t : State)
  | jump (t : State) (target : Option Nat)
  | goto (t : State) (pc : Nat)
  | hold (t : State)

/-- Whether a nib may meet a word at its PC: the IMEM word there, or within 8 instructions of a patch the word it
replaced (R252). -/
def State.fetches (s : State) (n : NibId) (w : Word) : Bool :=
  let x := s.nib n
  decide (s.leAt n.d (imemAddr n.c.val n.k.val (x.pc / 4)) 4 = w.toNat) ||
    x.patched.any (fun e => decide (e.1 = x.pc / 4 ∧ e.2.1 = w ∧ 0 < e.2.2))

/-- Whether a nib executes: its die runs, and it runs or is blocked at the instruction that blocked it. -/
def State.nibRuns (s : State) (n : NibId) : Bool :=
  s.alive n.d && decide ((s.nib n).run = .running ∨ (s.nib n).run = .inGet ∨ (s.nib n).run = .inWait)

/-- The count of R252 goes down with each instruction executed. -/
def Nib.agePatches (x : Nib) : Nib :=
  { x with patched := (x.patched.map (fun e => (e.1, e.2.1, e.2.2 - 1))).filter (fun e => decide (0 < e.2.2)) }

/-- An instruction that ends in a cause: it counts as executed for R252. -/
def State.nibFail (s : State) (n : NibId) (cause eaddr mem : Nat) : State :=
  (s.updNib n Nib.agePatches).nibRaise n cause eaddr mem

/-- The waiting watchdog exception, taken at the first boundary outside a branch-and-slot and an MSET-and-shadow pair
(R245). -/
def State.nibBoundary (s : State) (n : NibId) : State :=
  let x := s.nib n
  if x.wdogHit ∧ x.slotOf = .none ∧ x.mset = .none then s.nibTake n 7 0 x.pc false 0 else s

/-- An instruction that completes: loop counters, MSET commit after its shadow (R217), the next address. -/
def State.nibEnd (s : State) (n : NibId) (old : Nib) (pc : Nat) (slot : Option InSlot) : State :=
  (s.updNib n (fun x =>
    let x1 := (old.loopCount x).agePatches
    let x2 := match old.mset with
      | some m => { x1 with mode := m.mode, bank := m.bank, ie := m.ie, mset := .none }
      | none => x1
    { x2 with pc := pc, slotOf := slot, run := .running })).nibBoundary n

/-- The end address of an active level at which a control instruction, or its delay slot, may not stand (R227). -/
def Nib.loopForm (x : Nib) (k : NibKind) : Option Nat :=
  let at0 := decide (x.lc0 ≠ 0 ∧ (x.pc = x.le0 ∨ (k = .branch ∧ x.pc + 4 = x.le0)))
  let at1 := decide (x.lc1 ≠ 0 ∧ (x.pc = x.le1 ∨ (k = .branch ∧ x.pc + 4 = x.le1)))
  if k = .plain then none else if at0 then some x.le0 else if at1 then some x.le1 else none

/-- One instruction of a nib. `known` says whether a word is some instruction of the set, `legal` holds the instruction's
own checks that raise cause 0x01, `body` its effect. Causes come in the order of R246: ECC on the fetch, illegal
instruction, loop form, then those of the body, of which the end of IMEM (R286) comes before data ECC, mailbox
overflow and TRAP. -/
def State.nibInstr (s : State) (n : NibId) (w : Word) (ecc : EccFind) (op : NibOp) (k : NibKind) (known : Bool)
    (legal : Nib → Bool) (body : State → NibDo) : State :=
  let x := s.nib n
  if !(s.nibRuns n && s.fetches n w && (op.isOp w || !known)) then s
  else
    let s0 := if ecc = .corrected then s.nibEcc n 0x07 5 x.pc else s
    if ecc = .badFetch then s0.nibFail n 4 x.pc 5
    else if !(op.isOp w && op.clean w && legal x) ∨ (x.slotOf.isSome ∧ (k = .branch ∨ k = .mset)) ∨
        (x.mset.isSome ∧ k ≠ .plain) then s0.nibFail n 1 w.toNat 0
    else match x.loopForm k with
      | some e => s0.nibFail n 5 e 0
      | none =>
        match body s0 with
        | .raise t cause eaddr mem =>
          if 0x1FFC < x.seqPc ∧ (cause = 4 ∨ cause = 8 ∨ cause = 6) then t.nibFail n 3 0x2000 0
          else t.nibFail n cause eaddr mem
        | .done t => if 0x1FFC < x.seqPc then s0.nibFail n 3 0x2000 0 else t.nibEnd n x x.seqPc .none
        | .goto t pc => if 0x1FFC < pc then s0.nibFail n 3 0x2000 0 else t.nibEnd n x pc .none
        | .jump t target =>
          match target with
          | some a =>
            if a % 4 ≠ 0 then s0.nibFail n 2 a 0
            else if 0x2000 ≤ a ∨ x.pc = 0x1FFC then s0.nibFail n 3 (if 0x2000 ≤ a then a else 0x2000) 0
            else (t.updNib n (fun y => y.leaveLoops a)).nibEnd n x (x.pc + 4) (some ⟨x.pc, some a⟩)
          | none => if x.pc = 0x1FFC then s0.nibFail n 3 0x2000 0 else t.nibEnd n x (x.pc + 4) (some ⟨x.pc, none⟩)
        | .hold t => t

/-- A body that only changes the nib itself. -/
def State.nibSelf (s : State) (n : NibId) (f : Nib → Nib) : NibDo := .done (s.updNib n f)

end Sys2Proof.Machine
end

