-- ==== Sys2Proof/Machine/Operands.lean ====
section
/-! DEFINITION. The operand forms of the nib instruction set: which words are which instruction (R266 to R268, R273 to
R304), bit-field positions (R280, R281), clamping and rounding (R276, R277, R295), CRC steps (R304, R305). -/

namespace Sys2Proof.Machine

/-! ### Words -/

/-- The instructions of format A: name, major, fn, use of rd, rs, rt, flags bits defined. -/
def aluRR (fn : Nat) : NibOp := opA 0x01 fn true true true 1
def opAbs : NibOp := opA 0x01 0x010 true true false 1
def opClz : NibOp := opA 0x01 0x011 true true false 1
def opCmp : NibOp := opA 0x01 0x020 false true true 0
def opTst : NibOp := opA 0x01 0x021 false true true 0
def opImm (maj : Nat) : NibOp := opM maj 0
def opCmpi : NibOp := opM 0x0D 0x03C00000
def opLui : NibOp := opM 0x0E 0x003FC000
def opXar (fn : Nat) : NibOp := opX 0x03 fn true true
def opRnd : NibOp := opX 0x03 0x10 true false
def opMacs (fn : Nat) : NibOp := opA 0x02 fn false true true 3
def opMulas (fn : Nat) : NibOp := opA 0x02 fn false true true 1
def opMfas (fn : Nat) : NibOp := opA 0x02 fn true false false 1
def opAclr : NibOp := opA 0x02 0x00B false false false 1
def opField (fn : Nat) : NibOp := opX 0x04 fn true true
def opFieldA (fn : Nat) : NibOp := opX 0x04 fn true false
def opFieldI (fn : Nat) : NibOp := opX 0x04 fn false true
def opBal : NibOp := opM 0x19 0x03FC0000
def opLoopr : NibOp := opM 0x1B 0x01C3F800
def opTrap : NibOp := opM 0x1C 0x03FC0000
def opSys (fn : Nat) (d s t : Bool) (fl : Nat) : NibOp := opA 0x1D fn d s t fl
def opSig (fn : Nat) (d s t : Bool) : NibOp := opA 0x20 fn d s t 0
def opSns : NibOp := opM 0x21 0x003C0000
def opTio (fn : Nat) (s : Bool) : NibOp := opA 0x22 fn true s s 0
def opCrc : NibOp := opM 0x23 0x0003FF08

/-- Every instruction of the set. -/
def nibOps : List NibOp :=
  (List.range 16).map aluRR ++ [opAbs, opClz, opCmp, opTst] ++
  [0x08, 0x09, 0x0A, 0x0B, 0x0C].map opImm ++ [opCmpi, opLui] ++
  [0x00, 0x01, 0x02, 0x03, 0x08, 0x09].map opXar ++ [opRnd] ++
  [0, 1, 2].map opMacs ++ [3, 4, 10].map opMulas ++ [8, 9].map opMfas ++ [opAclr] ++
  [0x00, 0x01, 0x02, 0x03, 0x04, 0x06].map opField ++ [0x10, 0x11, 0x12, 0x13].map opFieldA ++
  [0x14, 0x16].map opFieldI ++
  [0x10, 0x11, 0x12, 0x14, 0x15, 0x16].map opImm ++ [opImm 0x18, opBal, opImm 0x1A, opLoopr, opTrap] ++
  [0, 1, 2, 3].map (opSys · false false false 0) ++ [opSys 4 false false false 7, opSys 8 true false true 0,
    opSys 9 false true true 0, opSys 0x10 false true false 0, opSys 0x11 true true false 0] ++
  [opSig 0 true true false, opSig 1 true true false, opSig 2 true true true, opSig 3 true true true,
    opSig 8 false true false, opSig 9 false true false, opSig 0x10 false true false, opSig 0x11 false true false,
    opSig 0x12 false true true, opSig 0x13 false true true, opSig 0x20 true false false, opSig 0x21 false true true] ++
  [opSns, opTio 0 false, opTio 1 false, opTio 0x10 true, opTio 0x11 true, opCrc]

/-- Whether a word is some instruction of the set; every other word is an undefined one and raises cause 0x01 (R267,
R268). -/
def nibKnown (w : Word) : Bool := nibOps.any (fun o => o.isOp w)

/-! ### Bit fields (R280, R281) -/

/-- The MSB-first walk: the positions from the most significant bit of the value down. -/
def msbWalk : Nat → Nat → List Nat
  | 0, _ => []
  | l + 1, p => p :: msbWalk l (if p % 8 = 0 then p + 15 else p - 1)

/-- The positions of a field, least significant value bit first. -/
def fieldPos (msb : Bool) (pos l : Nat) : List Nat :=
  if msb then (msbWalk l pos).reverse else (List.range l).map (pos + ·)

/-- The value a list of positions holds. -/
def gather (bit : Nat → Bool) : List Nat → Nat
  | [] => 0
  | p :: ps => b2n (bit p) + 2 * gather bit ps

/-- A number with a value's bits put at a list of positions. -/
def scatter (dst v : Nat) : List Nat → Nat
  | [] => dst
  | p :: ps => scatter (withBit dst p (decide (v % 2 = 1))) (v / 2) ps

/-- Whether every position lies below a bound. -/
def inBounds (bound : Nat) (ps : List Nat) : Bool := ps.all (fun p => decide (p < bound))

/-- A `l`-bit value extended to 64 bits. -/
def extend64 (signed : Bool) (l v : Nat) : Nat := if signed then ofSigned 64 (toSigned l v) else v

/-! ### Clamping and rounding -/

/-- An integer held between two bounds. -/
def clampTo (lo hi x : Int) : Int := if x < lo then lo else if hi < x then hi else x

/-- `a / 2^n` to nearest, halves away from zero. -/
def roundAway (a : Int) (n : Nat) : Int :=
  let q : Int := (2 * a.natAbs + 2 ^ n) / 2 ^ (n + 1)
  if a < 0 then -q else q

/-- `a / 2^n` rounded by a mode of R277. -/
def roundMode (a : Int) (n mode : Nat) : Int :=
  match mode with
  | 0 => roundAway a n
  | 1 =>
    let f := a / 2 ^ n
    let r := a - f * 2 ^ n
    if 2 * r < 2 ^ n then f else if 2 ^ n < 2 * r then f + 1 else if f % 2 = 0 then f else f + 1
  | 2 => a / 2 ^ n
  | _ => Int.tdiv a (2 ^ n)

/-! ### CRC steps (R304, R305) -/

/-- The polynomial of a width code and a selection, in normal form; none where undefined. -/
def nibPoly (width sel : Nat) : Option Nat :=
  match width, sel with
  | 0, 0 => some 0x1D
  | 0, 1 => some 0x2F
  | 0, 2 => some 0x07
  | 0, 3 => some 0x9B
  | 1, 0 => some 0x1021
  | 1, 1 => some 0x8005
  | 1, 2 => some 0x3D65
  | 1, 3 => some 0x8BB7
  | 2, 0 => some 0x04C11DB7
  | 2, 1 => some 0xF4ACFB13
  | 2, 2 => some 0x1EDC6F41
  | _, _ => none

/-- The low `w` bits of a number in reverse order. -/
def revBits (w x : Nat) : Nat := gather (bitOf x) ((List.range w).reverse)

/-- `n` bit steps of a CRC of width `w`, normal processing. -/
def crcNormal (w poly : Nat) : Nat → Nat → Nat
  | 0, c => c
  | n + 1, c => crcNormal w poly n ((if bitOf c (w - 1) then Nat.xor (c * 2) poly else c * 2) % 2 ^ w)

/-- `n` bit steps, reflected processing. -/
def crcReflected (rpoly : Nat) : Nat → Nat → Nat
  | 0, c => c
  | n + 1, c => crcReflected rpoly n (if c % 2 = 1 then Nat.xor (c / 2) rpoly else c / 2)

/-- A CRC advanced by a list of bytes. -/
def crcStep (w poly : Nat) (refl : Bool) (c : Nat) (l : List Byte) : Nat :=
  l.foldl (fun c b => if refl then crcReflected (revBits w poly) 8 (Nat.xor c b.toNat)
                      else crcNormal w poly 8 (Nat.xor c (b.toNat * 2 ^ (w - 8)))) (c % 2 ^ w)

end Sys2Proof.Machine
end

