-- ==== Sys2Proof/Machine/NibAlu.lean ====
section
/-! DEFINITION. The arithmetic instructions of the nib: ALU, immediates, shifts by immediate, saturation and rounding,
accumulator and bit fields, and the CRC step (R273 to R282, R304). -/

namespace Sys2Proof.Machine

/-- An ALU instruction: result and flags from rs, rt and the flags; F or a compare updates the flags (R270, R273). -/
def State.nibAlu (s : State) (n : NibId) (w : Word) (ecc : EccFind) (op : NibOp) (cmp : Bool)
    (f : Word → Word → NibFlags → Word × NibFlags) : State :=
  s.nibInstr n w ecc op .plain (nibKnown w) (fun _ => true) (fun s => s.nibSelf n (fun x =>
    let r := f (x.reg (wRs w)) (x.reg (wRt w)) x.flags
    let x1 := if cmp then x else x.setReg (wRd w) r.1
    if cmp || decide (wFlags w % 2 = 1) then x1.setFlags r.2 else x1))

/-- An instruction that writes rd from rs and its immediate and may clamp (R275, R276). -/
def State.nibImm (s : State) (n : NibId) (w : Word) (ecc : EccFind) (op : NibOp) (legal : Bool)
    (f : Nib → Word × Bool) : State :=
  s.nibInstr n w ecc op .plain (nibKnown w) (fun _ => legal) (fun s => s.nibSelf n (fun x =>
    (x.setReg (wRd w) (f x).1).clampS (f x).2))

/-- An accumulator instruction: the new acc, its V and whether it clamped; F sets Z, N and V from acc (R278, R279). -/
def State.nibAcc (s : State) (n : NibId) (w : Word) (ecc : EccFind) (op : NibOp)
    (f : BitVec 64 → Word → Word → BitVec 64 × Bool × Bool) (rd : BitVec 64 → Option Word) : State :=
  s.nibInstr n w ecc op .plain (nibKnown w) (fun _ => true) (fun s => s.nibSelf n (fun x =>
    let r := f x.acc (x.reg (wRs w)) (x.reg (wRt w))
    let x1 := { x with acc := r.1 }
    let x2 := match rd r.1 with
      | some v => x1.setReg (wRd w) v
      | none => x1
    let x3 := x2.clampS r.2.2
    if wFlags w % 2 = 1 then x3.setFlags (x3.flags.accZnv r.1 r.2.1) else x3))

/-- The sum of a multiply-accumulate: exact, clamped to the range when SAT, else wrapping (R279). -/
def accSum (sat : Bool) (lo hi x : Int) : BitVec 64 × Bool × Bool :=
  let out := decide (x < lo ∨ hi < x)
  (BitVec.ofInt 64 (if sat then clampTo lo hi x else x), out, sat && out)

/-- A bit-field instruction that extracts (R281, R282). -/
def State.nibExtract (s : State) (n : NibId) (w : Word) (ecc : EccFind) (op : NibOp) (acc msb signed : Bool) : State :=
  let l := wLen w + 1
  let ps := fieldPos msb (wPos w) l
  s.nibInstr n w ecc op .plain (nibKnown w) (fun _ => inBounds (if acc then 64 else 32) ps) (fun s => s.nibSelf n (fun x =>
    let src := if acc then x.acc.toNat else (x.reg (wRs w)).toNat
    x.setReg (wRd w) (BitVec.ofNat 32 (extend64 signed l (gather (bitOf src) ps)))))

/-- A bit-field instruction that inserts (R281, R282). -/
def State.nibInsert (s : State) (n : NibId) (w : Word) (ecc : EccFind) (op : NibOp) (acc msb : Bool) : State :=
  let l := wLen w + 1
  let ps := fieldPos msb (wPos w) l
  s.nibInstr n w ecc op .plain (nibKnown w) (fun _ => inBounds (if acc then 64 else 32) ps) (fun s => s.nibSelf n (fun x =>
    let v := (x.reg (wRs w)).toNat
    if acc then { x with acc := BitVec.ofNat 64 (scatter x.acc.toNat (extend64 true 32 v) ps) }
    else x.setReg (wRd w) (BitVec.ofNat 32 (scatter (x.reg (wRd w)).toNat v ps))))

/-- The bits rotated right. -/
def rotr (a : Word) (n : Nat) : Word := a.rotateRight n

/-- ADD: rs + rt (R273). -/
def execAdd (n : NibId) (w : Word) (ecc : EccFind) (s : State) : Out :=
  .next (s.nibAlu n w ecc (aluRR 0x000) false (fun a b f => (a + b, f.ofAdd a b)))

/-- SUB: rs - rt (R273). -/
def execSub (n : NibId) (w : Word) (ecc : EccFind) (s : State) : Out :=
  .next (s.nibAlu n w ecc (aluRR 0x001) false (fun a b f => (a - b, f.ofSub a b)))

/-- AND (R273). -/
def execAnd (n : NibId) (w : Word) (ecc : EccFind) (s : State) : Out :=
  .next (s.nibAlu n w ecc (aluRR 0x002) false (fun a b f => (a &&& b, f.zn (a &&& b))))

/-- OR (R273). -/
def execOr (n : NibId) (w : Word) (ecc : EccFind) (s : State) : Out :=
  .next (s.nibAlu n w ecc (aluRR 0x003) false (fun a b f => (a ||| b, f.zn (a ||| b))))

/-- XOR (R273). -/
def execXor (n : NibId) (w : Word) (ecc : EccFind) (s : State) : Out :=
  .next (s.nibAlu n w ecc (aluRR 0x004) false (fun a b f => (a ^^^ b, f.zn (a ^^^ b))))

/-- SHL by rt bits 4:0; C is the last bit shifted out (R273, R274). -/
def execShl (n : NibId) (w : Word) (ecc : EccFind) (s : State) : Out :=
  .next (s.nibAlu n w ecc (aluRR 0x005) false (fun a b f => (a <<< (b.toNat % 32), f.ofShift (a <<< (b.toNat % 32)) (b.toNat % 32) (bitOf a.toNat (32 - b.toNat % 32)))))

/-- SHR by rt bits 4:0, zeros in (R273, R274). -/
def execShr (n : NibId) (w : Word) (ecc : EccFind) (s : State) : Out :=
  .next (s.nibAlu n w ecc (aluRR 0x006) false (fun a b f => (a >>> (b.toNat % 32), f.ofShift (a >>> (b.toNat % 32)) (b.toNat % 32) (bitOf a.toNat (b.toNat % 32 - 1)))))

/-- SAR by rt bits 4:0, sign in (R273, R274). -/
def execSar (n : NibId) (w : Word) (ecc : EccFind) (s : State) : Out :=
  .next (s.nibAlu n w ecc (aluRR 0x007) false (fun a b f => (a.sshiftRight (b.toNat % 32),
    f.ofShift (a.sshiftRight (b.toNat % 32)) (b.toNat % 32) (bitOf a.toNat (b.toNat % 32 - 1)))))

/-- ROR by rt bits 4:0; C is the new bit 31, unchanged by 0 (R273, R274). -/
def execRor (n : NibId) (w : Word) (ecc : EccFind) (s : State) : Out :=
  .next (s.nibAlu n w ecc (aluRR 0x008) false (fun a b f => (rotr a (b.toNat % 32), f.ofShift (rotr a (b.toNat % 32)) (b.toNat % 32) (rotr a (b.toNat % 32)).msb)))

/-- MUL: low 32 bits of the product; V when the signed product does not fit (R273). -/
def execMul (n : NibId) (w : Word) (ecc : EccFind) (s : State) : Out :=
  .next (s.nibAlu n w ecc (aluRR 0x009) false (fun a b f => (a * b, { f.zn (a * b) with v := noFit 32 (a.toInt * b.toInt) })))

/-- MULH: bits 63:32 of the signed product (R273). -/
def execMulh (n : NibId) (w : Word) (ecc : EccFind) (s : State) : Out :=
  .next (s.nibAlu n w ecc (aluRR 0x00A) false (fun a b f => 
    (BitVec.ofInt 32 (a.toInt * b.toInt / 2 ^ 32), f.zn (BitVec.ofInt 32 (a.toInt * b.toInt / 2 ^ 32)))))

/-- MULHU: bits 63:32 of the unsigned product (R273). -/
def execMulhu (n : NibId) (w : Word) (ecc : EccFind) (s : State) : Out :=
  .next (s.nibAlu n w ecc (aluRR 0x00B) false (fun a b f => 
    (BitVec.ofNat 32 (a.toNat * b.toNat / 2 ^ 32), f.zn (BitVec.ofNat 32 (a.toNat * b.toNat / 2 ^ 32)))))

/-- MIN, signed (R273). -/
def execMin (n : NibId) (w : Word) (ecc : EccFind) (s : State) : Out :=
  .next (s.nibAlu n w ecc (aluRR 0x00C) false (fun a b f => (if a.slt b then a else b, f.zn (if a.slt b then a else b))))

/-- MAX, signed (R273). -/
def execMax (n : NibId) (w : Word) (ecc : EccFind) (s : State) : Out :=
  .next (s.nibAlu n w ecc (aluRR 0x00D) false (fun a b f => (if a.slt b then b else a, f.zn (if a.slt b then b else a))))

/-- MINU, unsigned (R273). -/
def execMinu (n : NibId) (w : Word) (ecc : EccFind) (s : State) : Out :=
  .next (s.nibAlu n w ecc (aluRR 0x00E) false (fun a b f => (if a.ult b then a else b, f.zn (if a.ult b then a else b))))

/-- MAXU, unsigned (R273). -/
def execMaxu (n : NibId) (w : Word) (ecc : EccFind) (s : State) : Out :=
  .next (s.nibAlu n w ecc (aluRR 0x00F) false (fun a b f => (if a.ult b then b else a, f.zn (if a.ult b then b else a))))

/-- The magnitude of a signed word, saturating (R273). -/
def absSat (a : Word) : Word := if a = 0x80000000#32 then 0x7FFFFFFF#32 else if a.msb then -a else a

/-- ABS: the magnitude of rs; 0x8000_0000 gives 0x7FFF_FFFF and sets S, whatever F (R273, R271). -/
def execAbs (n : NibId) (w : Word) (ecc : EccFind) (s : State) : Out :=
  .next (s.nibInstr n w ecc opAbs .plain (nibKnown w) (fun _ => true) (fun s => s.nibSelf n (fun x =>
    let a := x.reg (wRs w)
    let x1 := (x.setReg (wRd w) (absSat a)).clampS (decide (a = 0x80000000#32))
    if wFlags w % 2 = 1 then
      x1.setFlags { x1.flags.zn (absSat a) with v := decide (a = 0x80000000#32) } else x1)))

/-- The leading zero bits of a word. -/
def leadZeros (a : Word) : Nat := if a = 0#32 then 32 else 31 - Nat.log2 a.toNat

/-- CLZ: leading zero bits of rs, 0 to 32 (R273). -/
def execClz (n : NibId) (w : Word) (ecc : EccFind) (s : State) : Out :=
  .next (s.nibAlu n w ecc opClz false (fun a _ f => (BitVec.ofNat 32 (leadZeros a), f.zn (BitVec.ofNat 32 (leadZeros a)))))

/-- CMP: the flags of rs - rt, always (R273). -/
def execCmp (n : NibId) (w : Word) (ecc : EccFind) (s : State) : Out :=
  .next (s.nibAlu n w ecc opCmp true (fun a b f => (0#32, f.ofSub a b)))

/-- TST: Z and N of rs AND rt, always (R273). -/
def execTst (n : NibId) (w : Word) (ecc : EccFind) (s : State) : Out :=
  .next (s.nibAlu n w ecc opTst true (fun a b f => (0#32, f.zn (a &&& b))))

/-- ADDI: rs + imm, signed (R275). -/
def execAddi (n : NibId) (w : Word) (ecc : EccFind) (s : State) : Out :=
  .next (s.nibImm n w ecc (opImm 0x08) true (fun x => (x.reg (wRs w) + BitVec.ofInt 32 (wSimm w), false)))

/-- SUBI: imm, signed, minus rs (R275). -/
def execSubi (n : NibId) (w : Word) (ecc : EccFind) (s : State) : Out :=
  .next (s.nibImm n w ecc (opImm 0x09) true (fun x => (BitVec.ofInt 32 (wSimm w) - x.reg (wRs w), false)))

/-- ANDI: rs AND imm, unsigned (R275). -/
def execAndi (n : NibId) (w : Word) (ecc : EccFind) (s : State) : Out :=
  .next (s.nibImm n w ecc (opImm 0x0A) true (fun x => (x.reg (wRs w) &&& BitVec.ofNat 32 (wImm w), false)))

/-- ORI: rs OR imm, unsigned (R275). -/
def execOri (n : NibId) (w : Word) (ecc : EccFind) (s : State) : Out :=
  .next (s.nibImm n w ecc (opImm 0x0B) true (fun x => (x.reg (wRs w) ||| BitVec.ofNat 32 (wImm w), false)))

/-- XORI: rs XOR imm, unsigned (R275). -/
def execXori (n : NibId) (w : Word) (ecc : EccFind) (s : State) : Out :=
  .next (s.nibImm n w ecc (opImm 0x0C) true (fun x => (x.reg (wRs w) ^^^ BitVec.ofNat 32 (wImm w), false)))

/-- CMPI: the flags of rs - imm, signed (R275). -/
def execCmpi (n : NibId) (w : Word) (ecc : EccFind) (s : State) : Out :=
  .next (s.nibInstr n w ecc opCmpi .plain (nibKnown w) (fun _ => true) (fun s => s.nibSelf n (fun x =>
    x.setFlags (x.flags.ofSub (x.reg (wRs w)) (BitVec.ofInt 32 (wSimm w))))))

/-- LUI: imm bits 13:0 shifted left by 18 (R275). -/
def execLui (n : NibId) (w : Word) (ecc : EccFind) (s : State) : Out :=
  .next (s.nibImm n w ecc opLui true (fun _ => (BitVec.ofNat 32 (wImm w % 2 ^ 14 * 2 ^ 18), false)))

/-- SHLI: rs shifted left by pos (R276). -/
def execShli (n : NibId) (w : Word) (ecc : EccFind) (s : State) : Out :=
  .next (s.nibImm n w ecc (opXar 0x00) (decide (wPos w < 32 ∧ wLen w = 0)) (fun x => (x.reg (wRs w) <<< wPos w, false)))

/-- SHRI: rs shifted right by pos, zeros in (R276). -/
def execShri (n : NibId) (w : Word) (ecc : EccFind) (s : State) : Out :=
  .next (s.nibImm n w ecc (opXar 0x01) (decide (wPos w < 32 ∧ wLen w = 0)) (fun x => (x.reg (wRs w) >>> wPos w, false)))

/-- SARI: rs shifted right by pos, sign in (R276). -/
def execSari (n : NibId) (w : Word) (ecc : EccFind) (s : State) : Out :=
  .next (s.nibImm n w ecc (opXar 0x02) (decide (wPos w < 32 ∧ wLen w = 0)) (fun x => ((x.reg (wRs w)).sshiftRight (wPos w), false)))

/-- RORI: rs rotated right by pos (R276). -/
def execRori (n : NibId) (w : Word) (ecc : EccFind) (s : State) : Out :=
  .next (s.nibImm n w ecc (opXar 0x03) (decide (wPos w < 32 ∧ wLen w = 0)) (fun x => (rotr (x.reg (wRs w)) (wPos w), false)))

/-- A signed value clamped between two bounds, with whether it was (R276). -/
def clampWord (lo hi x : Int) : Word × Bool := (BitVec.ofInt 32 (clampTo lo hi x), decide (x < lo ∨ hi < x))

/-- SATS: signed rs clamped to len + 1 bits signed (R276). -/
def execSats (n : NibId) (w : Word) (ecc : EccFind) (s : State) : Out :=
  .next (s.nibImm n w ecc (opXar 0x08) (decide (wPos w = 0 ∧ wLen w < 32)) (fun x => clampWord (-(2 ^ wLen w)) (2 ^ wLen w - 1) (x.reg (wRs w)).toInt))

/-- SATU: signed rs clamped to 0 and len + 1 bits unsigned (R276). -/
def execSatu (n : NibId) (w : Word) (ecc : EccFind) (s : State) : Out :=
  .next (s.nibImm n w ecc (opXar 0x09) (decide (wPos w = 0 ∧ wLen w < 32)) (fun x => clampWord 0 (2 ^ (wLen w + 1) - 1) (x.reg (wRs w)).toInt))

/-- RND: acc by 2^-pos, rounded by mode len, clamped to 32 bits signed (R276, R277). -/
def execRnd (n : NibId) (w : Word) (ecc : EccFind) (s : State) : Out :=
  .next (s.nibImm n w ecc opRnd (decide (wLen w < 4)) (fun x => 
    clampWord (-(2 ^ 31)) (2 ^ 31 - 1) (roundMode x.acc.toInt (wPos w) (wLen w))))

/-- MAC: acc + signed rs × signed rt (R278, R279). -/
def execMac (n : NibId) (w : Word) (ecc : EccFind) (s : State) : Out :=
  .next (s.nibAcc n w ecc (opMacs 0) (fun a x y => 
    accSum (decide (wFlags w / 2 % 2 = 1)) (-(2 ^ 63)) (2 ^ 63 - 1) (a.toInt + x.toInt * y.toInt)) (fun _ => none))

/-- MACU: acc + unsigned rs × unsigned rt; V is the carry out of bit 63 (R278, R279). -/
def execMacu (n : NibId) (w : Word) (ecc : EccFind) (s : State) : Out :=
  .next (s.nibAcc n w ecc (opMacs 1) (fun a x y => 
    accSum (decide (wFlags w / 2 % 2 = 1)) 0 (2 ^ 64 - 1) ((a.toNat + x.toNat * y.toNat : Nat) : Int)) (fun _ => none))

/-- MSU: acc - signed rs × signed rt (R278, R279). -/
def execMsu (n : NibId) (w : Word) (ecc : EccFind) (s : State) : Out :=
  .next (s.nibAcc n w ecc (opMacs 2) (fun a x y => 
    accSum (decide (wFlags w / 2 % 2 = 1)) (-(2 ^ 63)) (2 ^ 63 - 1) (a.toInt - x.toInt * y.toInt)) (fun _ => none))

/-- MULA: acc = signed product (R278). -/
def execMula (n : NibId) (w : Word) (ecc : EccFind) (s : State) : Out :=
  .next (s.nibAcc n w ecc (opMulas 3) (fun _ x y => (BitVec.ofInt 64 (x.toInt * y.toInt), false, false)) (fun _ => none))

/-- MULAU: acc = unsigned product (R278). -/
def execMulau (n : NibId) (w : Word) (ecc : EccFind) (s : State) : Out :=
  .next (s.nibAcc n w ecc (opMulas 4) (fun _ x y => (BitVec.ofNat 64 (x.toNat * y.toNat), false, false)) (fun _ => none))

/-- MFAL: rd = acc bits 31:0 (R278). -/
def execMfal (n : NibId) (w : Word) (ecc : EccFind) (s : State) : Out :=
  .next (s.nibAcc n w ecc (opMfas 8) (fun a _ _ => (a, false, false)) (fun a => some (a.setWidth 32)))

/-- MFAH: rd = acc bits 63:32 (R278). -/
def execMfah (n : NibId) (w : Word) (ecc : EccFind) (s : State) : Out :=
  .next (s.nibAcc n w ecc (opMfas 9) (fun a _ _ => (a, false, false)) (fun a => some ((a >>> 32).setWidth 32)))

/-- MTA: acc bits 63:32 from rs, bits 31:0 from rt (R278). -/
def execMta (n : NibId) (w : Word) (ecc : EccFind) (s : State) : Out :=
  .next (s.nibAcc n w ecc (opMulas 10) (fun _ x y => (x ++ y, false, false)) (fun _ => none))

/-- ACLR: acc = 0 (R278). -/
def execAclr (n : NibId) (w : Word) (ecc : EccFind) (s : State) : Out :=
  .next (s.nibAcc n w ecc opAclr (fun _ _ _ => (0#64, false, false)) (fun _ => none))

/-- EXT: the LSB-first field, zero-extended, of rs (R281). -/
def execExt (n : NibId) (w : Word) (ecc : EccFind) (s : State) : Out :=
  .next (s.nibExtract n w ecc (opField 0) false false false)

/-- EXT.A: the LSB-first field, zero-extended, of acc (R281, R282). -/
def execExtA (n : NibId) (w : Word) (ecc : EccFind) (s : State) : Out :=
  .next (s.nibExtract n w ecc (opFieldA 16) true false false)

/-- EXTS: the LSB-first field, sign-extended, of rs (R281). -/
def execExts (n : NibId) (w : Word) (ecc : EccFind) (s : State) : Out :=
  .next (s.nibExtract n w ecc (opField 1) false false true)

/-- EXTS.A: the LSB-first field, sign-extended, of acc (R281, R282). -/
def execExtsA (n : NibId) (w : Word) (ecc : EccFind) (s : State) : Out :=
  .next (s.nibExtract n w ecc (opFieldA 17) true false true)

/-- EXTB: the MSB-first field, zero-extended, of rs (R281). -/
def execExtb (n : NibId) (w : Word) (ecc : EccFind) (s : State) : Out :=
  .next (s.nibExtract n w ecc (opField 2) false true false)

/-- EXTB.A: the MSB-first field, zero-extended, of acc (R281, R282). -/
def execExtbA (n : NibId) (w : Word) (ecc : EccFind) (s : State) : Out :=
  .next (s.nibExtract n w ecc (opFieldA 18) true true false)

/-- EXTBS: the MSB-first field, sign-extended, of rs (R281). -/
def execExtbs (n : NibId) (w : Word) (ecc : EccFind) (s : State) : Out :=
  .next (s.nibExtract n w ecc (opField 3) false true true)

/-- EXTBS.A: the MSB-first field, sign-extended, of acc (R281, R282). -/
def execExtbsA (n : NibId) (w : Word) (ecc : EccFind) (s : State) : Out :=
  .next (s.nibExtract n w ecc (opFieldA 19) true true true)

/-- INS: the LSB-first field of rd from rs (R281). -/
def execIns (n : NibId) (w : Word) (ecc : EccFind) (s : State) : Out :=
  .next (s.nibInsert n w ecc (opField 4) false false)

/-- INSB: the MSB-first field of rd from rs (R281). -/
def execInsb (n : NibId) (w : Word) (ecc : EccFind) (s : State) : Out :=
  .next (s.nibInsert n w ecc (opField 6) false true)

/-- INS.A: the LSB-first field of acc from rs (R281, R282). -/
def execInsA (n : NibId) (w : Word) (ecc : EccFind) (s : State) : Out :=
  .next (s.nibInsert n w ecc (opFieldI 0x14) true false)

/-- INSB.A: the MSB-first field of acc from rs (R281, R282). -/
def execInsbA (n : NibId) (w : Word) (ecc : EccFind) (s : State) : Out :=
  .next (s.nibInsert n w ecc (opFieldI 0x16) true true)

/-- CRC step: rd advanced by 1 to 4 bytes of rs, by width, polynomial and REFL of the word (R304, R305). -/
def execCrcStep (n : NibId) (w : Word) (ecc : EccFind) (s : State) : Out :=
  let width := wFn w / 4 % 4
  let poly := nibPoly width (wFlags w % 4)
  .next (s.nibInstr n w ecc opCrc .plain (nibKnown w) (fun _ => decide (wFn w < 16) && poly.isSome) (fun s => s.nibSelf n (fun x =>
    let data := (toLE 4 (x.reg (wRs w)).toNat).take (wFn w % 4 + 1)
    x.setReg (wRd w) (BitVec.ofNat 32
      (crcStep (8 * 2 ^ width) (poly.getD 0) (decide (wFlags w / 4 % 2 = 1)) (x.reg (wRd w)).toNat data)))))

end Sys2Proof.Machine
end

