-- ==== Sys2Proof/Machine/NibFlow.lean ====
section
/-! DEFINITION. Control flow and system instructions of the nib: branches, jumps, hardware loops, TRAP, ERET, WAIT,
SYNC, MSET, special registers (R216 to R218, R224 to R227, R244, R248, R272, R284 to R290). -/

namespace Sys2Proof.Machine

/-! ### The head of the stream -/

/-- The first entry of a queue that is not silent. -/
def firstTaken : List StreamEntry → Option StreamEntry
  | [] => none
  | e :: q => if e.silent then firstTaken q else some e

/-- The entries after the first one that is not silent. -/
def afterTaken : List StreamEntry → List StreamEntry
  | [] => []
  | e :: q => if e.silent then afterTaken q else q

/-- One silent entry applied (R229, R239, R241): a sample goes into the FIFO of its source, 16 newest kept; a credit comes
back to its mailbox. -/
def Nib.applySilent (x : Nib) (e : StreamEntry) : Nib :=
  if e.src = 0x600 then
    let m := u8 e.payload 1
    { x with boxes := tupd {} x.boxes m (fun b => { b with held := b.held + 1 }) }
  else { x with fifos := tupd [] x.fifos e.src (fun l => (BitVec.ofNat 16 (u16 e.payload 0) :: l).take 16) }

/-- The silent entries ahead of the first other entry applied (R238). -/
def applySilents : Nib → List StreamEntry → Nib
  | x, [] => x
  | x, e :: q => if e.silent then applySilents (x.applySilent e) q else x

/-- What an authority nib sends to its rejoining twin at the cut (R254): registers, acc, NSTAT, loop registers, sense
FIFOs, credits and current entry; what the gateway program keeps in its DMEM goes with them. A nib without a slot stays halted
(R256). -/
def Nib.sendTo (x t : Nib) : Nib :=
  { t with
    due := x.due, notices := x.notices, reports := x.reports, stale := x.stale, lastTick := x.lastTick,
    regs := x.regs, acc := x.acc, flags0 := x.flags0, flags1 := x.flags1, mode := x.mode, bank := x.bank, ie := x.ie,
    ds := x.ds, mset := x.mset, epc := x.epc, ecause := x.ecause, eaddr := x.eaddr, lc0 := x.lc0, ls0 := x.ls0,
    le0 := x.le0, lc1 := x.lc1, ls1 := x.ls1, le1 := x.le1, vbase := x.vbase, pc := x.pc, slotOf := x.slotOf,
    time := x.time, cur := x.cur, fifos := x.fifos, boxes := x.boxes, haltCause := x.haltCause,
    run := if t.run = .noSlot then .noSlot else x.run }

/-- The next delivered entry made current: silent entries ahead of it applied, stream time its stamp (R238). -/
def Nib.takeEntry (x : Nib) (e : StreamEntry) : Nib :=
  { applySilents x x.queue with queue := afterTaken x.queue, cur := some e, time := e.stamp }

/-- A protection nib blocked in MBX.GET takes every delivered entry up to a control entry; what its program does with them are the
meanings of the protection commands (log entry 76). -/
def Nib.drain : Nat → Nib → Nib
  | 0, x => x
  | f + 1, x =>
    match firstTaken x.queue with
    | some e => if e.src = 0x601 then x else Nib.drain f (x.takeEntry e)
    | none => x

/-- Whether a control entry with this payload is a halt, or a rejoin cut. -/
def isHalt (src : Nat) (payload : List Byte) : Bool := decide (src = 0x601 ∧ u8 payload 0 = 0)
def isCut (src : Nat) (payload : List Byte) : Bool := decide (src = 0x601 ∧ u8 payload 0 = 1)

/-- Whether a nib runs or is blocked, so that it can still meet a halt. -/
def Nib.canHalt (x : Nib) : Bool := decide (x.run = .running ∨ x.run = .inGet ∨ x.run = .inWait)

/-- The result of a halt, done on a die once no nib that can still meet one has it in its queue (R250, R259). -/
def State.haltDone (s : State) (d : Die) (c : Nat) : State :=
  if (s.cl d c).bistAsked || (s.cl d c).nibs.any (fun e => e.2.canHalt && e.2.queue.any (fun q => isHalt q.src q.payload)) then s
  else s.setF d (NBC_nCMDRES c) NBC_nCMDRES__RESULT 3

/-- Control entries at the head of the stream, met at MBX.GET or WAIT (R250, R254): the silent entries before one are
applied; a halt stops the nib, a rejoin cut sends its state to the twin. -/
def State.nibControl : Nat → State → NibId → State
  | 0, s, _ => s
  | f + 1, s, n =>
    let x := s.nib n
    match firstTaken x.queue with
    | some e =>
      if e.src ≠ 0x601 then s
      else
        let y := { applySilents x x.queue with queue := afterTaken x.queue }
        if u8 e.payload 0 = 0 then
          (s.updNib n (fun _ => { y with run := .haltedCmd, wdogHit := false })).haltDone n.d n.c.val
        else State.nibControl f ((s.updNib n (fun _ => y)).updNib (twinOf n) (fun t => y.sendTo t)) n
    | none => s

/-- The control entries at the head of a nib's queue met. -/
def State.meetControl (s : State) (n : NibId) : State := State.nibControl (s.nib n).queue.length s n

/-! ### Branches and jumps -/

/-- A branch target as an address; one below 0 lies far above IMEM. -/
def brTarget (pc : Nat) (w : Word) : Nat := ((pc : Int) + 4 * wSimm w).toNat + (if (pc : Int) + 4 * wSimm w < 0 then
  ofSigned 32 ((pc : Int) + 4 * wSimm w) else 0)

/-- BR: branches when its condition holds on the flags and registers before its delay slot (R272, R284). -/
def execBr (n : NibId) (w : Word) (ecc : EccFind) (s : State) : Out :=
  .next (s.nibInstr n w ecc (opImm 0x18) .branch (nibKnown w) (fun _ => decide (0xD < wRd w ∨ wRs w = 0)) (fun s =>
    let x := s.nib n
    .jump s (if condHolds (wRd w) x.flags (x.reg (wRs w)) then some (brTarget x.pc w) else none)))

/-- BAL: branches and writes w15 with its address plus 8 (R284). -/
def execBal (n : NibId) (w : Word) (ecc : EccFind) (s : State) : Out :=
  .next (s.nibInstr n w ecc opBal .branch (nibKnown w) (fun _ => true) (fun s =>
    let x := s.nib n
    .jump (s.updNib n (fun x => x.setReg 15 (BitVec.ofNat 32 (x.pc + 8)))) (some (brTarget x.pc w))))

/-- JR: continues at rs (R285). -/
def execJr (n : NibId) (w : Word) (ecc : EccFind) (s : State) : Out :=
  .next (s.nibInstr n w ecc (opSys 0x10 false true false 0) .branch (nibKnown w) (fun _ => true) (fun s =>
    .jump s (some ((s.nib n).reg (wRs w)).toNat)))

/-- JALR: writes rd with its address plus 8 and continues at rs; rd equal to rs is illegal (R224, R285). -/
def execJalr (n : NibId) (w : Word) (ecc : EccFind) (s : State) : Out :=
  .next (s.nibInstr n w ecc (opSys 0x11 true true false 0) .branch (nibKnown w) (fun _ => decide (wRd w ≠ wRs w)) (fun s =>
    .jump (s.updNib n (fun x => x.setReg (wRd w) (BitVec.ofNat 32 (x.pc + 8)))) (some ((s.nib n).reg (wRs w)).toNat)))

/-! ### Hardware loops -/

/-- Starting a loop level (R225, R227, R287). With count 0 the body is skipped; in the delay slot of a taken branch execution goes on at
the branch target, as after any instruction there (log entry 77). -/
def State.nibLoop (s : State) (n : NibId) (w : Word) (count : Nat) : NibDo :=
  let x := s.nib n
  let lvl1 := bitOf w.toNat 25
  let ls := x.pc + 4
  let le := 4 * wEnd w
  let bad := decide (le < ls) ||
    (if lvl1 then decide (x.lc1 ≠ 0) || (decide (x.lc0 ≠ 0) && !decide (x.ls0 ≤ ls ∧ ls ≤ le ∧ le < x.le0))
     else decide (x.lc0 ≠ 0) || decide (x.lc1 ≠ 0))
  if bad then .raise s 5 le 0
  else
    let t := s.updNib n (fun x => if lvl1 then { x with lc1 := count, ls1 := ls, le1 := le }
                                  else { x with lc0 := count, ls0 := ls, le0 := le })
    if count = 0 then
      .goto t (match x.slotOf with | some sl => sl.target.getD (le + 4) | none => le + 4)
    else .done t

/-- LOOP: a level with the count of its word; illegal in handler mode (R225, R287). -/
def execLoop (n : NibId) (w : Word) (ecc : EccFind) (s : State) : Out :=
  .next (s.nibInstr n w ecc (opImm 0x1A) .special (nibKnown w) (fun x => !x.mode) (fun s =>
    s.nibLoop n w (w.toNat / 2 ^ 11 % 2 ^ 14)))

/-- LOOPR: a level with the count of rs (R225, R287). -/
def execLoopr (n : NibId) (w : Word) (ecc : EccFind) (s : State) : Out :=
  .next (s.nibInstr n w ecc opLoopr .special (nibKnown w) (fun x => !x.mode) (fun s =>
    s.nibLoop n w ((s.nib n).reg (wRs w)).toNat))

/-! ### TRAP and the system instructions -/

/-- TRAP: raises cause 0x06 with its immediate (R288). -/
def execTrap (n : NibId) (w : Word) (ecc : EccFind) (s : State) : Out :=
  .next (s.nibInstr n w ecc opTrap .special (nibKnown w) (fun _ => true) (fun s => .raise s 6 (wImm w) 0))

/-- NOP (R289). -/
def execNop (n : NibId) (w : Word) (ecc : EccFind) (s : State) : Out :=
  .next (s.nibInstr n w ecc (opSys 0 false false false 0) .plain (nibKnown w) (fun _ => true) (fun s => .done s))

/-- ERET: PC from EPC, task mode, bank 0, DS 0; illegal in task mode; a misaligned EPC raises cause 0x02 (R216,
R290). -/
def execEret (n : NibId) (w : Word) (ecc : EccFind) (s : State) : Out :=
  .next (s.nibInstr n w ecc (opSys 1 false false false 0) .special (nibKnown w) (fun x => x.mode) (fun s =>
    let x := s.nib n
    if x.epc % 4 ≠ 0 then .raise s 2 x.epc 0 else .goto (s.updNib n Nib.eret) x.epc))

/-- WAIT: blocks until a delivered entry is queued; takes the event of that entry when IE = 1, and goes on otherwise; a
halt or cut entry at the head is met first (R248, R250). At 0x1FFC a WAIT that takes an event takes it, with EPC 0, rather than cause 0x03:
the model's choice (log entry 110). -/
def execWait (n : NibId) (w : Word) (ecc : EccFind) (s : State) : Out :=
  .next (s.nibInstr n w ecc (opSys 2 false false false 0) .special (nibKnown w) (fun _ => true) (fun s =>
    let t := s.meetControl n
    let x := t.nib n
    if x.run = .haltedCmd then .hold t
    else match firstTaken x.queue with
      | none => .hold (t.updNib n (fun x => { x with run := .inWait, wdogHit := false }))
      | some e =>
        match e.line with
        | some l => if x.ie then .raise t (0x10 + l) e.src 0 else .done t
        | none => .done t))

/-- SYNC: completes when every earlier posted operation has its completion response (R244); operations of this model
complete with the instruction that posts them. -/
def execSync (n : NibId) (w : Word) (ecc : EccFind) (s : State) : Out :=
  .next (s.nibInstr n w ecc (opSys 3 false false false 0) .plain (nibKnown w) (fun _ => true) (fun s => .done s))

/-- MSET: names MODE, BANK and IE to commit after its shadow (R217, R218). -/
def execMset (n : NibId) (w : Word) (ecc : EccFind) (s : State) : Out :=
  .next (s.nibInstr n w ecc (opSys 4 false false false 7) .mset (nibKnown w)
    (fun x => if x.mode then bitOf w.toNat 2 else !bitOf w.toNat 1 && !bitOf w.toNat 2) (fun s => s.nibSelf n (fun x =>
      { x with mset := some ⟨x.pc, bitOf w.toNat 2, bitOf w.toNat 1, bitOf w.toNat 0⟩ })))

/-- Whether a special-register number may be read or written in a mode at all (R213, R290). -/
def srLegal (x : Nib) (sr : Nat) : Bool := decide (sr < 0x0E) && (x.mode || !decide (1 ≤ sr ∧ sr ≤ 3))

/-- The value MFS reads from a special register other than CYC (R213). -/
def Nib.special (x : Nib) (n : NibId) (sr : Nat) : Nat :=
  match sr with
  | 0x00 => x.nstat
  | 0x01 => x.epc
  | 0x02 => x.ecause
  | 0x03 => x.eaddr.toNat
  | 0x04 => x.lc0
  | 0x05 => x.ls0
  | 0x06 => x.le0
  | 0x07 => x.lc1
  | 0x08 => x.ls1
  | 0x09 => x.le1
  | 0x0A => x.vbase
  | 0x0B => x.time
  | _ => nibNum n + 65536 * x.slot

/-- What MTS leaves (R213, R226, R290); writes to read-only registers are ignored. -/
def Nib.setSpecial (x : Nib) (sr v : Nat) : Nib :=
  match sr with
  | 0x00 => let y := x.setFlags (flagsOf v); if x.mode then { y with ds := bitOf v 3 } else y
  | 0x01 => { x with epc := v % 2 ^ 13 }
  | 0x04 => { x with lc0 := v }
  | 0x05 => { x with ls0 := v }
  | 0x06 => { x with le0 := v }
  | 0x07 => { x with lc1 := v }
  | 0x08 => { x with ls1 := v }
  | 0x09 => { x with le1 := v }
  | 0x0A => if x.mode then { x with vbase := v / 512 % 16 * 512 } else x
  | _ => x

/-- MFS: rd from a special register (R289, R290). CYC counts clock cycles, which the model leaves out: its value is a
free value. -/
def execMfs (n : NibId) (w : Word) (ecc : EccFind) (s : State) : Out :=
  .next (s.nibInstr n w ecc (opSys 8 true false true 0) .plain (nibKnown w) (fun x => srLegal x (wRt w)) (fun s =>
    if wRt w = 0x0C then
      .done (s.withFree (fun v s => s.updNib n (fun x => x.setReg (wRd w) (BitVec.ofNat 32 v))))
    else s.nibSelf n (fun x => x.setReg (wRd w) (BitVec.ofNat 32 (x.special n (wRt w))))))

/-- MTS: a special register from rs (R289, R290); a loop address must be one an instruction can have (R226). -/
def execMts (n : NibId) (w : Word) (ecc : EccFind) (s : State) : Out :=
  .next (s.nibInstr n w ecc (opSys 9 false true true 0) .plain (nibKnown w) (fun x => srLegal x (wRt w)) (fun s =>
    let v := ((s.nib n).reg (wRs w)).toNat
    let addr := decide (wRt w = 5 ∨ wRt w = 6 ∨ wRt w = 8 ∨ wRt w = 9)
    if addr && decide (v % 4 ≠ 0) then .raise s 2 v 0
    else if addr && decide (0x2000 ≤ v) then .raise s 3 v 0
    else s.nibSelf n (fun x => x.setSpecial (wRt w) v)))

end Sys2Proof.Machine
end

