-- ==== Sys2Proof/Machine/Signal.lean ====
section
/-! DEFINITION. The signal store (spec/08): its areas and entry fields (R308 to R316), tags (R310, R331), the descriptor
cache of a cluster (R221, R347). -/

namespace Sys2Proof.Machine

/-- Where entries lie (R308). -/
def descAddr (e : Nat) : Nat := 0x30000000 + 16 * e
def fanAddr (e : Nat) : Nat := 0x30400000 + 16 * e
def pduAddr (e : Nat) : Nat := 0x30800000 + 32 * e
def shadowAddr (e : Nat) : Nat := 0x30A00000 + 8 * e

/-- Bits `hi` down to `lo` of an entry. -/
def ebits (v hi lo : Nat) : Nat := v / 2 ^ lo % 2 ^ (hi + 1 - lo)

/-- Entries as numbers. -/
def State.desc (s : State) (d : Die) (e : Nat) : Nat := s.leAt d (descAddr e) 16
def State.fan (s : State) (d : Die) (e : Nat) : Nat := s.leAt d (fanAddr e) 16
def State.pdu (s : State) (d : Die) (e : Nat) : Nat := s.leAt d (pduAddr e) 32
def State.shadow (s : State) (d : Die) (e : Nat) : Nat := s.leAt d (shadowAddr e) 8

/-- Descriptor fields (R314). -/
def dSource (v : Nat) : Nat := ebits v 127 108
def dStart (v : Nat) : Nat := ebits v 107 94
def dLen (v : Nat) : Nat := ebits v 93 88 + 1
def dMsb (v : Nat) : Bool := bitOf v 87
def dSigned (v : Nat) : Bool := bitOf v 86
def dClass (v : Nat) : Nat := ebits v 85 84
def dM (v : Nat) : Int := toSigned 16 (ebits v 83 68)
def dE (v : Nat) : Int := toSigned 5 (ebits v 67 63)
def dO (v : Nat) : Int := toSigned 16 (ebits v 62 47)
def dFanout (v : Nat) : Nat := ebits v 46 27
def dFresh (v : Nat) : Nat := ebits v 26 15
def dPolicy (v : Nat) : Nat := ebits v 14 12
def dGen (v : Nat) : Nat := ebits v 11 4
def dAov (v : Nat) : Bool := bitOf v 0

/-- Fan-out entry fields (R316). -/
def fTarget (v : Nat) : Nat := ebits v 127 112
def fStart (v : Nat) : Nat := ebits v 111 98
def fLen (v : Nat) : Nat := ebits v 97 92 + 1
def fMsb (v : Nat) : Bool := bitOf v 91
def fSigned (v : Nat) : Bool := bitOf v 90
def fSat (v : Nat) : Bool := bitOf v 89
def fLast (v : Nat) : Bool := bitOf v 88
def fMt (v : Nat) : Int := toSigned 16 (ebits v 87 72)
def fEt (v : Nat) : Int := toSigned 5 (ebits v 71 67)
def fOt (v : Nat) : Int := toSigned 16 (ebits v 66 51)
def fSource (v : Nat) : Nat := ebits v 50 33
def fNext (v : Nat) : Nat := ebits v 32 15
def fKind (v : Nat) : Bool := bitOf v 14
def fAof (v : Nat) : Bool := bitOf v 0

/-- PDU entry fields (R311); word `i` holds bits 32 i to 32 i + 31. -/
def pDir (v : Nat) : Nat := ebits v 1 0
def pKind (v : Nat) : Nat := ebits v 3 2
def pPort (v : Nat) : Nat := ebits v 8 4
def pTrig (v : Nat) : Nat := ebits v 10 9
def pHandler (v : Nat) : Nat := ebits v 19 12
def pLength (v : Nat) : Nat := ebits v 31 20
def pIdent (v : Nat) : Nat := ebits v 60 32
def pIde (v : Nat) : Bool := bitOf v 61
def pFdf (v : Nat) : Bool := bitOf v 62
def pXlf (v : Nat) : Bool := bitOf v 63
def pBus (v : Nat) : Nat := ebits v 68 64
def pAcf (v : Nat) : Nat := ebits v 70 69
def pBrs (v : Nat) : Bool := bitOf v 71
def pFill (v : Nat) : Nat := ebits v 79 72
def pMinGap (v : Nat) : Nat := ebits v 95 80
def pCycle (v : Nat) : Nat := ebits v 119 96
def pOffset (v : Nat) : Nat := ebits v 127 120
def pFirst (v : Nat) : Nat := ebits v 145 128
def pCount (v : Nat) : Nat := ebits v 157 146
def pLastStamp (v : Nat) : Nat := ebits v 223 160
def pTxSeq (v : Nat) : Nat := ebits v 255 224

/-- The data lengths of CAN FD. -/
def fdLength (n : Nat) : Bool := decide (n ≤ 8) || [12, 16, 20, 24, 32, 48, 64].contains n

/-- The receive key of a PDU entry (R313). -/
def pKey (v : Nat) : Nat := pKind v * 2 ^ 42 + pPort v * 2 ^ 37 + pBus v * 2 ^ 32 + Nat.land (ebits v 63 32) 0xBFFFFFFF

/-- The tag of a shadow (R310). -/
def State.tag (s : State) (d : Die) (e : Nat) : Nat := tget 0 (s.vol.get d).gw.tags e

/-- The gateway state of a die changed. -/
def State.updGw (s : State) (d : Die) (f : GwSt → GwSt) : State := s.updVol d (fun v => { v with gw := f v.gw })

/-- A tag set. -/
def State.setTag (s : State) (d : Die) (e t : Nat) : State := s.updGw d (fun g => { g with tags := tset 0 g.tags e t })

/-- The microsecond stamp of a stream time. -/
def stampUs (t : Nat) : Nat := t / 1000 % 2 ^ 30

/-- A shadow stored: value, VALID, AGED clear, STAMPUS (R297, R310). -/
def State.storeShadow (s : State) (d : Die) (e v time : Nat) : State :=
  (s.putBytes d (shadowAddr e) (toLE 8 v)).setTag d e (2 ^ 31 + stampUs time)

/-- A shadow marked invalid: VALID cleared, the rest unchanged (R310). -/
def State.dropShadow (s : State) (d : Die) (e : Nat) : State := s.setTag d e (withBit (s.tag d e) 31 false)

/-- Whether a tag's signal is stale at a stream time (R331). -/
def tagStale (tag fresh time : Nat) : Bool :=
  bitOf tag 31 && decide (fresh ≠ 0) &&
    (bitOf tag 30 || decide (1000 * fresh < (stampUs time + 2 ^ 30 - tag % 2 ^ 30) % 2 ^ 30))

/-- The cache set of a descriptor index: 256 sets of four ways. -/
def cacheSet (e : Nat) : Nat := e % 256

/-- The way of a set that holds a descriptor. -/
def Cluster.cacheWay (x : Cluster) (e : Nat) : Option Nat :=
  (List.range 4).find? (fun w => match tget none x.cache (4 * cacheSet e + w) with
    | some l => decide (l.index = e)
    | none => false)

/-- The way a new line takes: an empty one, or the least recently used. -/
def Cluster.cacheVictim (x : Cluster) (e : Nat) : Nat :=
  let use := fun w => match tget none x.cache (4 * cacheSet e + w) with
    | some l => l.used + 1
    | none => 0
  (List.range 4).foldl (fun b w => if use w < use b then w else b) 0

/-- A descriptor read through a cluster's cache: the line when it holds one, else the store's entry, which then fills the
least recently used way (R221). -/
def State.descRead (s : State) (d : Die) (c e : Nat) : Nat × State :=
  let x := s.cl d c
  match x.cacheWay e with
  | some w =>
    let key := 4 * cacheSet e + w
    let v := match tget none x.cache key with | some l => l.data | none => 0
    (v, s.updCl d c (fun x => { x with cache := tput x.cache key (some ⟨e, v, x.clock + 1⟩), clock := x.clock + 1 }))
  | none =>
    let v := s.desc d e
    let key := 4 * cacheSet e + x.cacheVictim e
    (v, s.updCl d c (fun x => { x with cache := tput x.cache key (some ⟨e, v, x.clock + 1⟩), clock := x.clock + 1 }))

/-- A descriptor's lines removed from every cache of a die, or all lines (R344). -/
def State.dropLines (s : State) (d : Die) (which : Option Nat) : State :=
  (List.range 8).foldl (fun st c => st.updCl d c (fun x => { x with
    cache := x.cache.filter (fun l => match which, l.2 with
      | some e, some y => !decide (y.index = e)
      | some _, none => true
      | none, _ => false) })) s

end Sys2Proof.Machine
end

