-- ==== Sys2Proof/Machine/NibMem.lean ====
section
/-! DEFINITION. The data side of the nib (R219 to R222, R238, R241, R243, R283), its sense FIFOs (R239, R303), and the
timing lanes it programs (R242, R299 to R302). -/

namespace Sys2Proof.Machine

/-! ### Data side -/

/-- The tags of a nib's accesses (R540). -/
def nibTags (n : NibId) : Tags := { init := 1, part := n.k.val }

/-- The five words of the current entry header (R238). -/
def Nib.header (x : Nib) (i : Nat) : Nat :=
  match x.cur with
  | none => if i = 3 then 2 ^ 18 else 0
  | some e =>
    match i with
    | 0 => e.stamp % 2 ^ 32
    | 1 => e.stamp / 2 ^ 32 % 2 ^ 32
    | 2 => e.src % 2 ^ 16 + 2 ^ 16 * (e.seq % 2 ^ 16)
    | 3 => e.payload.length % 2 ^ 12 + 2 ^ 16 * b2n e.late + 2 ^ 17 * b2n e.err
    | _ => satTo 0xFFFF e.drops

/-- One byte of the current entry's payload: 0 past its length. -/
def Nib.payloadByte (x : Nib) (i : Nat) : Byte :=
  match x.cur with
  | some e => e.payload.getD i 0#8
  | none => 0#8

/-- One readable byte of the entry windows at 0xC000_0000: payload, header, staging buffer, credits (R219). -/
def Nib.entryByte (x : Nib) (a : Nat) : Option Byte :=
  let o := a - 0xC0000000
  if a < 0xC0000000 then none
  else if o < 0x800 then some (x.payloadByte o)
  else if o < 0x814 then some (BitVec.ofNat 8 (x.header ((o - 0x800) / 4) / 256 ^ (o % 4)))
  else if 0x1000 ≤ o ∧ o < 0x1800 then some (tget 0#8 x.staging (o - 0x1000))
  else if 0x2000 ≤ o ∧ o < 0x2040 then some (BitVec.ofNat 8 ((tget {} x.boxes ((o - 0x2000) / 4)).held / 256 ^ (o % 4)))
  else none

/-- What an ECC error in the descriptor cache leaves (R222): a corrected one is recorded; an uncorrectable one makes the access a miss, so
the line is dropped and the entry fetched again. -/
def State.cacheEcc (s : State) (n : NibId) (e : Nat) (ecc : EccFind) : State :=
  if ecc = .correctedData ∨ ecc = .correctedLine then s.nibEcc n 0x07 8 (descAddr e)
  else if ecc = .badData ∨ ecc = .badLine then s.updCl n.d n.c.val (fun x => { x with cache := x.cache.filter (fun l => match l.2 with
    | some y => !decide (y.index = e)
    | none => true) })
  else s

/-- An uncorrectable error in the signal store restored from the partner's copy (R350). -/
def State.storeRepair (s : State) (d : Die) (a : Nat) : State :=
  ((s.putBytes d a (s.bytesAt d.other a 8)).addSat d SGW_ECC SGW_ECC__REPAIR 1).recordBoth 0x0900 0x17 3 0 (6 + 256 * a)

/-- What an ECC error of the signal store leaves where a nib reads `a` (R350): a corrected one is counted, an uncorrectable one restored
from the partner where one shares the store; none where the access completes with an error. -/
def State.storeEcc (s : State) (n : NibId) (a : Nat) (ecc : EccFind) : Option State :=
  if ecc = .correctedData then some (s.addSat n.d SGW_ECC SGW_ECC__CORR 1)
  else if ecc ≠ .badData then some s
  else if s.joint n.d then some (s.storeRepair n.d (a / 8 * 8)) else none

/-- What an ECC error leaves where a nib reads data at `a` of its memory map (R222, R350); none where cause 0x04 is raised. -/
def State.dataEcc (s : State) (n : NibId) (a : Nat) (ecc : EccFind) : Option State :=
  if 0xC0000000 ≤ a then some s
  else if 0x80000000 ≤ a then
    let e := (a - 0x80000000) / 16
    if ((s.cl n.d n.c.val).cacheWay e).isSome then some (s.cacheEcc n e ecc) else s.storeEcc n (descAddr e) ecc
  else if ecc = .correctedData then some (s.nibEcc n 0x07 (nibMemCode a) a)
  else if ecc = .badData then none
  else some s

/-- A load: its value, or none for a guard violation, with the state after (a guard's count, a cache fill). -/
def State.nibLoad (s : State) (n : NibId) (a size : Nat) : Option Nat × State :=
  let x := s.nib n
  if a < 0x2000 then (some (s.leAt n.d (dmemAddr n.c.val n.k.val a) size), s)
  else if 0x40000000 ≤ a ∧ a < 0x40040000 then
    let o := a - 0x40000000
    if s.admits n.d (5 + n.c.val) o size (nibTags n) .read then (some (s.leAt n.d (poolAddr n.c.val o) size), s)
    else (none, s.guardRefuse n.d (5 + n.c.val) o (nibTags n) .read)
  else if 0x80000000 ≤ a ∧ a < 0x80400000 then
    let e := (a - 0x80000000) / 16
    let r := s.descRead n.d n.c.val e
    if ((s.cl n.d n.c.val).cacheWay e).isSome || s.admits n.d 3 (descAddr e) 16 (nibTags n) .read then
      (some (r.1 / 256 ^ (a % 16) % 256 ^ size), r.2)
    else (none, s.guardRefuse n.d 3 (descAddr e) (nibTags n) .read)
  else match x.entryByte a with
    | some _ => (some (leBytes ((List.range size).map (fun i => (x.entryByte (a + i)).getD 0#8)) 0 size), s)
    | none => (none, s)

/-- A word written to the link command port of switch die `sd` (R243): LATCH and RAMP from the protection nib only, BDIR
from any nib of the controlling cluster; without authority it is accepted and discarded. None where it raises cause
0x03. -/
def State.linkPort (s : State) (n : NibId) (sd v : Nat) : Option State :=
  let typ := v / 2 ^ 27
  let ch := v / 2 ^ 24 % 8
  let mine := decide (s.cluster n.d sd = n.c.val)
  if mine && (((decide (typ = 5 ∨ typ = 6)) && decide ((s.nib n).prog = .protection)) || decide (typ = 9)) then
    some (if s.hasAuth n.d n.c.val then s.sendCmd n.d sd typ ch (v / 256 % 4096) else s)
  else none

/-- A store: the state after, or none for a guard violation. -/
def State.nibStore (s : State) (n : NibId) (a size v : Nat) : Option State × State :=
  if a < 0x2000 then (some (s.nibPut n.d n.c.val (dmemAddr n.c.val n.k.val a) (toLE size v)), s)
  else if 0x40000000 ≤ a ∧ a < 0x40040000 then
    let o := a - 0x40000000
    if s.admits n.d (5 + n.c.val) o size (nibTags n) .write then
      (some (s.nibPut n.d n.c.val (poolAddr n.c.val o) (toLE size v)), s)
    else (none, s.guardRefuse n.d (5 + n.c.val) o (nibTags n) .write)
  else if 0xC0001000 ≤ a ∧ a < 0xC0001800 then
    (some (s.updNib n (fun x => { x with
      staging := (List.range size).foldl (fun t i => tset 0#8 t (a - 0xC0001000 + i) (BitVec.ofNat 8 (v / 256 ^ i)))
        x.staging })), s)
  else if 0xC0003000 ≤ a ∧ a < 0xC000304C ∧ size = 4 then (s.linkPort n ((a - 0xC0003000) / 4) v, s)
  else (none, s)

/-- The address of a load or store. -/
def nibAddr (x : Nib) (w : Word) : Nat := (x.reg (wRs w) + BitVec.ofInt 32 (wSimm w)).toNat

/-- A load instruction of `size` bytes (R220, R222, R283). -/
def State.nibLd (s : State) (n : NibId) (w : Word) (ecc : EccFind) (maj size : Nat) : State :=
  s.nibInstr n w ecc (opImm maj) .plain (nibKnown w) (fun _ => true) (fun s =>
    let a := nibAddr (s.nib n) w
    if a % size ≠ 0 then .raise s 2 a 0
    else match s.nibLoad n a size with
      | (none, t) => .raise t 3 a 0
      | (some _, t) =>
        match s.dataEcc n a ecc with
        | none => .raise t 4 a (nibMemCode a)
        | some u => match u.nibLoad n a size with
          | (none, t) => .raise t 3 a 0
          | (some v, t) => .done (t.updNib n (fun x => x.setReg (wRd w) (BitVec.ofNat 32 v))))

/-- A store instruction of `size` bytes (R220, R243, R283). -/
def State.nibSt (s : State) (n : NibId) (w : Word) (ecc : EccFind) (maj size : Nat) : State :=
  s.nibInstr n w ecc (opImm maj) .plain (nibKnown w) (fun _ => true) (fun s =>
    let a := nibAddr (s.nib n) w
    if a % size ≠ 0 then .raise s 2 a 0
    else match s.nibStore n a size ((s.nib n).reg (wRd w)).toNat with
      | (none, t) => .raise t 3 a 0
      | (some t, _) => .done t)

/-- LDW, LDH, LDB: a word, halfword or byte, zero-extended (R283). -/
def execLdw (n : NibId) (w : Word) (ecc : EccFind) (s : State) : Out := .next (s.nibLd n w ecc 0x10 4)
def execLdh (n : NibId) (w : Word) (ecc : EccFind) (s : State) : Out := .next (s.nibLd n w ecc 0x11 2)
def execLdb (n : NibId) (w : Word) (ecc : EccFind) (s : State) : Out := .next (s.nibLd n w ecc 0x12 1)

/-- STW, STH, STB: the register named in rd, or its low half or byte (R283). -/
def execStw (n : NibId) (w : Word) (ecc : EccFind) (s : State) : Out := .next (s.nibSt n w ecc 0x14 4)
def execSth (n : NibId) (w : Word) (ecc : EccFind) (s : State) : Out := .next (s.nibSt n w ecc 0x15 2)
def execStb (n : NibId) (w : Word) (ecc : EccFind) (s : State) : Out := .next (s.nibSt n w ecc 0x16 1)

/-! ### Sense FIFOs and stream time -/

/-- SNS.GET: the sample at a depth of a source's FIFO, 0xFFFF when it holds fewer; a source without a FIFO raises cause
0x03 (R239, R303). -/
def execSnsGet (n : NibId) (w : Word) (ecc : EccFind) (s : State) : Out :=
  .next (s.nibInstr n w ecc opSns .plain (nibKnown w) (fun _ => true) (fun s =>
    let x := s.nib n
    let src := wImm w % 2 ^ 14
    if src ≠ 0x600 ∧ x.subs.any (fun u => u.silent && decide (u.first ≤ src ∧ src ≤ u.last)) = true then
      s.nibSelf n (fun x => x.setReg (wRd w) ((((tget [] x.fifos src).getD (wImm w / 2 ^ 14) 0xFFFF#16).setWidth 32)))
    else .raise s 3 src 0))

/-- TGET.L and TGET.H: stream time (R214, R299). -/
def execTgetL (n : NibId) (w : Word) (ecc : EccFind) (s : State) : Out :=
  .next (s.nibInstr n w ecc (opTio 0 false) .plain (nibKnown w) (fun _ => true) (fun s =>
    s.nibSelf n (fun x => x.setReg (wRd w) (BitVec.ofNat 32 x.time))))
def execTgetH (n : NibId) (w : Word) (ecc : EccFind) (s : State) : Out :=
  .next (s.nibInstr n w ecc (opTio 1 false) .plain (nibKnown w) (fun _ => true) (fun s =>
    s.nibSelf n (fun x => x.setReg (wRd w) (BitVec.ofNat 32 (x.time / 2 ^ 32)))))

/-! ### Timing lanes -/

/-- A lane of a die. -/
def State.lane (s : State) (d : Die) (i : Nat) : Lane := tget {} (s.vol.get d).lanes i

/-- Whether pin MGPIOj is driven by its timing lane (R486), which no pin is before the first seal (R94). -/
def State.lanePin (s : State) (j : Nat) : Bool := s.cis.firstSeal && (s.vol.get s.anyDie).tim.pins.contains j

/-- The cluster that owns timing lane 80 + j (R260). -/
def State.pinCluster (s : State) (j : Nat) : Nat :=
  ((List.range 8).find? (fun c => bitOf (s.fld s.anyDie (NBC_nCFG c) NBC_nCFG__LANES) j)).getD 0

/-- The die whose lane drives a lane pin (R487): the authority, once the selector has followed the token as an input line does (R183). -/
def State.pinDie (s : State) (j : Nat) : Die :=
  let d := s.holder (s.pinCluster j)
  match tget none s.cis.pinPend j with
  | some (t, was) => if t + 1000000 ≤ s.ns d ∨ (s.lane d (80 + j)).out (s.ns d) ≠ was then d else d.other
  | none => d

/-- The level of a lane pin. -/
def State.pinOut (s : State) (j : Nat) : Bool := (s.lane (s.pinDie j) (80 + j)).out (s.ns (s.pinDie j))

/-- The level at a pin seen on both dies; an edge fires the pin's source (R613). -/
def State.pinLevel (s : State) (j : Nat) (l : Bool) : State :=
  let was := s.bit s.anyDie (WLD_PINj j) WLD_PINj__IN
  let s1 := s.setBoth (WLD_PINj j) WLD_PINj__IN (b2n l)
  if was = l then s1 else s1.fireBoth (0x180 + j)

/-- A lane pin at its present level; a selector change that an edge has made is no longer waited for. -/
def State.settlePin (s : State) (lane : Nat) : State :=
  let j := lane - 80
  if lane < 80 ∨ !s.lanePin j then s
  else
    let s1 := if s.pinDie j = s.holder (s.pinCluster j) then s.updCis (fun c => { c with pinPend := tset none c.pinPend j none }) else s
    s1.pinLevel j (s1.pinOut j)

/-- The selectors of a cluster's lane pins at a move of its token to a die (R183, R487): one whose two lanes agree changes at once. -/
def State.steerPins (s : State) (t : Nat) (d : Die) : State :=
  (List.range 16).foldl (fun st j =>
    if !st.lanePin j ∨ st.pinCluster j ≠ t then st
    else
      let at_ := fun (e : Die) => (st.lane e (80 + j)).out (st.ns e)
      st.updCis (fun c => { c with pinPend := tset none c.pinPend j (if at_ d = at_ d.other then none else some (st.ns d, at_ d)) })) s

/-- A lane changed. -/
def State.updLane (s : State) (d : Die) (i : Nat) (f : Lane → Lane) : State :=
  s.updVol d (fun v => { v with lanes := tupd {} v.lanes i f })

/-- Whether a cluster owns a lane (R242). -/
def State.ownsLane (s : State) (d : Die) (c i : Nat) : Bool :=
  if i < 80 then decide (s.cluster d (chSd i) = c)
  else decide (i < 96) && bitOf (s.fld d (NBC_nCFG c) NBC_nCFG__LANES) (i - 80)

/-- The shortest period of OCMP.PWM on a lane, ns (R302). -/
def laneMinPeriod (i : Nat) : Nat := if i < 8 then 1000000 else if i < 32 then 200000 else if i < 80 then 40000 else 16

/-- Whether a lane command switches the channel on: a high level, or PWM with a non-zero on time (R242). -/
def LaneCmd.turnsOn : LaneCmd → Bool
  | .level on _ => on
  | .pwm _ duty _ => decide (duty ≠ 0)

/-- A command reaching a lane (R300, R301): it replaces a pending one; a level whose time has passed applies at once to
a lane in level mode. A lane that has driven nothing yet is in level mode from its first command. -/
def Lane.take (l : Lane) (c : LaneCmd) (now : Nat) : Lane :=
  match c with
  | .level on t =>
    if !l.pwm ∧ t ≤ now then { l with driven := true, level := on, pend := none }
    else { l with driven := true, pend := some c }
  | .pwm _ _ _ => { l with driven := true, pend := some c }

end Sys2Proof.Machine
end

