-- ==== Sys2Proof/Machine/Tokens.lean ====
section
/-! DEFINITION. Cluster resets (R106, R254) and the moves of authority tokens (R183, R236, R258, R662). -/

namespace Sys2Proof.Machine

/-- Bytes of a die's memory outside MRAM made 0. -/
def State.clearBytes (s : State) (d : Die) (a n : Nat) : State :=
  { s with mem := tdrop s.mem (fun k => decide (memKey d a ≤ k ∧ k < memKey d (a + n))) }

/-- DMEM and IMEM of a nib written from an image, the rest of both zeroed (R104, R261). -/
def State.loadImage (s : State) (d : Die) (c k : Nat) (im : NibImage) : State :=
  let s1 := (s.clearBytes d (imemAddr c k 0) 0x2000).clearBytes d (dmemAddr c k 0) 0x2000
  (s1.putBytes d (imemAddr c k 0) (im.code.flatMap (fun w => toLE 4 w.toNat))).putBytes d (dmemAddr c k 0) im.dmem

/-- The wire-model state of a cluster's channels on one die lost with the cluster (R141). -/
def State.dropWires (s : State) (d : Die) (c : Nat) : State :=
  s.updVol d (fun v => { v with wires := tdrop v.wires (fun n => decide (s.cluster d (chSd n) = c)) })

/-- The CRCs of items of a cluster that wait for the twin's, forgotten on both dies: a twin that stands sends none (R340). -/
def State.dropCrcs (s : State) (c : Nat) : State :=
  let go := fun (st : State) (d : Die) => st.updGw d (fun g => { g with crcs := tdrop g.crcs (fun key => decide (key / 512 % 8 = c)) })
  go (go s 0) 1

/-- The cut entries of a rejoin that is abandoned, taken out of a cluster's order and queues (R258). -/
def State.dropCut (s : State) (d : Die) (c : Nat) : State :=
  s.updCl d c (fun x => { x with
    held := x.held.filter (fun e => !isCut e.src e.payload),
    nibs := x.nibs.map (fun e => (e.1, { e.2 with queue := e.2.queue.filter (fun q => !isCut q.src q.payload) })) })

/-- A cluster reset with its cause record (R106, R254 step 1): pool cleared (R104), IMEM and DMEM from the retained images, nibs at their
entry state and not running, held copies and orders dropped; the cluster rejoins, from step 1 where it was rejoining (R258). Counters
stay. -/
def State.clusterReset (s : State) (d : Die) (c cause req : Nat) : State :=
  let s0 := (((((s.causeRecord d (CIS_RSTNCn c) cause req).dropWires d c).clearBytes d (poolAddr c 0) 0x40000).dropCut d c).dropCut
    d.other c).dropCrcs c
  let x := s0.cl d c
  if x.nibs.all (fun e => decide (e.2.prog = .none)) then s0.setF d (NBC_nSTAT c) NBC_nSTAT__STATE 0
  else
    let s1 := (List.range 30).foldl (fun st k =>
      if (x.nib k).prog = .none then st else st.loadImage d c k (tget {} x.images k)) s0
    let s2 := s1.updCl d c (fun x => { x with
      nibs := x.nibs.map (fun e => (e.1, { e.2.start with run := if e.2.run = .noSlot then .noSlot else .unassigned })),
      held := [], orders := [], excluded := [], cache := [], rejoin := .reload })
    (s2.setF d (NBC_nSTAT c) NBC_nSTAT__LAGGING 0).setF d (NBC_nSTAT c) NBC_nSTAT__STATE 5

/-- Authority that moves to a rejoining cluster (R258): its rejoin is abandoned, nibs whose state had not come start at
their entry, and the former authority cluster is reset and rejoins from the new one. -/
def State.endRejoin (s : State) (d : Die) (c : Nat) : State :=
  if s.clState d c = 5 then
    let s1 := (s.updCl d c (fun x => { x with
      rejoin := .none,
      nibs := x.nibs.map (fun e => (e.1, if e.2.prog ≠ .none ∧ e.2.run = .unassigned then e.2.start else e.2)) })).setF d
        (NBC_nSTAT c) NBC_nSTAT__STATE 3
    if s.clState d.other c = 3 ∨ s.clState d.other c = 4 then s1.clusterReset d.other c 0x31 0 else s1
  else s

/-- STEER sent by a die to every switch die that a cluster controls (R183). -/
def State.steerAll (s : State) (d : Die) (c : Nat) : State :=
  (List.range 19).foldl (fun st sd =>
    if st.cluster d sd = c then st.sendCmd d sd 3 0 (2 * st.serial c + d.val) else st) s

/-- The arbiter's part of a move (R662): holder, serial, count, event. -/
def State.arbiterMove (s : State) (t : Nat) (d : Die) : State :=
  let s1 := s.setF 0 CIS_TOKEN CIS_TOKEN__DIE (withBit (s.fld 0 CIS_TOKEN CIS_TOKEN__DIE) t (decide (d = 1)))
  ((s1.incWrap 0 (CIS_TSERt t) CIS_TSERt__SERIAL).addSat 0 (CIS_TSERt t) CIS_TSERt__MOVES 1).setF 0 CIS_EVT CIS_EVT__TOKEN 1

/-- Every token granted to a die that has not started yet (R40). -/
def State.grantAll (s : State) (d : Die) : State :=
  (List.range 9).foldl (fun st t => if st.holder t = d then st else st.arbiterMove t d) s

/-! ### The field die's transmit selectors (R362 to R365) -/

/-- The transmit selector of an instance, and a change of it. -/
def State.fbSel (s : State) (i : Nat) : FbSel := tget {} s.field.sels i
def State.updFbSel (s : State) (i : Nat) (f : FbSel → FbSel) : State :=
  { s with field := { s.field with sels := tupd {} s.field.sels i f } }

/-- The transmit owner of an instance: whether a partition owns it, its cluster, its partition (R362). -/
def State.fbByPart (s : State) (d : Die) (i : Nat) : Bool :=
  if i < 16 then s.bit d (FBB_CcCFG i) FBB_CcCFG__TXOWN else s.bit d (FBB_CcCFG i) FBB_LlCFG__TXOWN
def State.fbCluster (s : State) (d : Die) (i : Nat) : Nat :=
  if i < 16 then s.fld d (FBB_CcCFG i) FBB_CcCFG__CLUSTER else s.fld d (FBB_CcCFG i) FBB_LlCFG__CLUSTER
def State.fbPart (s : State) (d : Die) (i : Nat) : Nat :=
  if i < 16 then s.fld d (FBB_CcCFG i) FBB_CcCFG__PART else s.fld d (FBB_CcCFG i) FBB_LlCFG__PART

/-- A steering request at the field die (R362, R364, R365): accepted only from the die it names; for a partition-owned controller by its
count, for a cluster-owned one from the holder of its cluster's token. The change waits for bus idle; a request for the die that is connected takes back one that
waits. -/
def State.fieldRequest (s : State) (i : Nat) (sender names : Die) (count : Nat) : State :=
  let d := s.anyDie
  let later := match (s.fbSel i).count with
    | none => true
    | some c0 => decide (1 ≤ (count + 65536 - c0) % 65536 ∧ (count + 65536 - c0) % 65536 ≤ 32767)
  let ask := fun (x : FbSel) => if x.die = names then none else some names
  if sender ≠ names ∨ !s.alive sender then s
  else if s.fbByPart d i then
    (if later then s.updFbSel i (fun x => { x with pend := ask x, count := some count }) else s)
  else if s.holder (s.fbCluster d i) = names then s.updFbSel i (fun x => { x with pend := ask x }) else s

/-- The steering requests for the controllers of a cluster whose token has moved to a die (R362, R364). -/
def State.steerField (s : State) (d : Die) (c : Nat) : State :=
  (List.range 28).foldl (fun st i =>
    if st.alive d && !st.fbByPart d i && decide (st.fbCluster d i = c) && decide ((st.fbSel i).pend.getD (st.fbSel i).die ≠ d) then st.fieldRequest i d d 0 else st) s

/-- A token moved to a die by the arbiter (R662): the serial rises by 1, the move is counted and reported, the
registers of both dies follow, the new authority steers its switch dies (R183) and tells its partner in class 3. With the
switch-core token the pulse selectors follow, those with a pulse high on a die that still runs excepted (R491). -/
def State.moveToken (s : State) (t : Nat) (d : Die) : State :=
  if s.holder t = d then s else
  let s3 := s.arbiterMove t d
  let ser := s3.serial t
  if t < 8 then
    let s4 := (s3.setF d (NBC_nSTAT t) NBC_nSTAT__AUTH 1).setF d.other (NBC_nSTAT t) NBC_nSTAT__AUTH 0
    let s5 := s4.setBoth (NBC_nSTAT t) NBC_nSTAT__SERIAL ser
    let s6 := if s5.fld d (NBC_nSTAT t) NBC_nSTAT__STATE = 4 then s5.setF d (NBC_nSTAT t) NBC_nSTAT__STATE 3 else s5
    let s7 := if s6.fld d.other (NBC_nSTAT t) NBC_nSTAT__STATE = 3 then
        s6.setF d.other (NBC_nSTAT t) NBC_nSTAT__STATE 4 else s6
    ((((s7.endRejoin d t).steerAll d t).steerField d t).steerPins t d).plNotice d 3 0 t
  else
    let was := d.other
    let busy := fun (k : Nat) => s3.alive was && (tget {} (s3.vol.get was).tim.pulses k).high
    let s3 := s3.updCis (fun c => { c with
      pps := (List.range 4).foldl (fun t k => if busy k then t else tset 0 t k d.val) c.pps })
    (s3.setBoth SWC_STAT SWC_STAT__SERIAL ser).plNotice d 3 0 t

/-- Every token moved to a die. -/
def State.moveAll (s : State) (d : Die) : State := (List.range 9).foldl (fun st t => st.moveToken t d) s

end Sys2Proof.Machine
end

