-- ==== Sys2Proof/Machine/Window.lean ====
section
/-! DEFINITION. The cluster window (R222, R223, R251, R252): what lies at its addresses, what a read of it returns and what a write
changes; the mirrored ports of IMEM and pool (R41); the free spares of a cluster (R255). -/

namespace Sys2Proof.Machine

/-- What lies at an address of the cluster windows (R222): IMEM and DMEM of a logical nib, the pool, a descriptor cache entry, and the
mirrored write ports of IMEM and pool, each with its offset. -/
inductive WinPlace where
  | imem (n : NibId) (o : Nat)
  | dmem (n : NibId) (o : Nat)
  | pool (c o : Nat)
  | cache (c e o : Nat)
  | imemBoth (n : NibId) (o : Nat)
  | poolBoth (c o : Nat)
  | none
  deriving DecidableEq, Repr

/-- The nib of numbers on a die. -/
def winNib (d : Die) (c k : Nat) : NibId := ⟨d, Fin.ofNat 8 c, Fin.ofNat 30 k⟩

/-- The place of a window address; none where it is unmapped (R223). -/
def winPlace (d : Die) (a : Nat) : WinPlace :=
  let c := (a - 0x40000000) / 0x1000000
  let o := a % 0x1000000
  if o < 0x3C000 then .imem (winNib d c (o / 0x2000)) (o % 0x2000)
  else if 0x40000 ≤ o ∧ o < 0x7C000 then .dmem (winNib d c ((o - 0x40000) / 0x2000)) (o % 0x2000)
  else if 0x80000 ≤ o ∧ o < 0xC0000 then .pool c (o - 0x80000)
  else if 0xC0000 ≤ o ∧ o < 0xC8000 then .cache c ((o - 0xC0000) / 32) (o % 32)
  else if 0x100000 ≤ o ∧ o < 0x13C000 then .imemBoth (winNib d c ((o - 0x100000) / 0x2000)) (o % 0x2000)
  else if 0x180000 ≤ o ∧ o < 0x1C0000 then .poolBoth c (o - 0x180000)
  else .none

/-- Whether a nib counts as halted (NBC_nHALT). -/
def Nib.halted (x : Nib) : Bool := decide (x.run = .haltedCmd ∨ x.run = .haltedExc ∨ x.run = .noSlot)

/-- Whether an initiator may write a nib's IMEM (R251): before the seal the loader of the die, after it a manager where the program
is PATCHABLE. -/
def State.imemOk (s : State) (n : NibId) (who : Initiator) : Bool :=
  if s.isSealed n.d then who.isManager && (s.nib n).patchable
  else match who with | .loader e => decide (e = n.d) | _ => false

/-- One IMEM word of one die written, with the retained copy when the write is mirrored; a running nib may meet the old
word for up to 8 instructions (R251, R252), a nib that does not run meets the new one only. -/
def State.imemPut (s : State) (n : NibId) (i : Nat) (v : Word) (keep : Bool) : State :=
  let a := imemAddr n.c.val n.k.val i
  let old := BitVec.ofNat 32 (s.leAt n.d a 4)
  let s1 := s.putBytes n.d a (toLE 4 v.toNat)
  let s2 := s1.updNib n (fun x =>
    if x.run = .running ∨ x.run = .inGet ∨ x.run = .inWait then { x with patched := x.patched ++ [(i, old, 8)] }
    else { x with patched := x.patched.filter (fun e => decide (e.1 ≠ i)) })
  if keep then s2.updCl n.d n.c.val (fun x => { x with images := tupd {} x.images n.k.val (fun im =>
      { im with code := (im.code ++ List.replicate (i + 1 - im.code.length) 0#32).set i v }) }) else s2

/-- One IMEM word written through the mirrored port: on both dies, with their retained copies (R251). -/
def State.imemBoth (s : State) (n : NibId) (i : Nat) (v : Word) : State :=
  let s1 := s.imemPut n i v true
  if s1.joint n.d then s1.imemPut (twinOf n) i v true else s1

/-- One byte that a read of a window address returns: the memory there; a cache entry's descriptor, index and VALID, in the order of
sets and ways (log entry 82); 0 from a write-only port. -/
def State.windowByte (s : State) (d : Die) (a : Nat) : Byte :=
  match winPlace d a with
  | .cache c e o =>
    match tget none (s.cl d c).cache e with
    | some l => BitVec.ofNat 8 ((l.data % 2 ^ 128 + 2 ^ 128 * (l.index % 2 ^ 18) + 2 ^ 159) / 256 ^ o)
    | none => 0#8
  | .imemBoth _ _ | .poolBoth _ _ => 0#8
  | _ => s.byteAt d a

/-- A masked word at a window address, as it stands after a write. -/
def State.maskedWord (s : State) (d : Die) (a mask : Nat) (l : List Byte) : Word :=
  BitVec.ofNat 32 (leBytes ((List.range 4).map (fun i => if bitOf mask i then l.getD i 0#8 else s.byteAt d (a + i))) 0 4)

/-- A write at a window address (R222, R223, R251): to IMEM and, while the nib is halted, DMEM; to the pool; through the mirrored ports
to both dies. Any other is ignored. -/
def State.windowWrite (s : State) (d : Die) (who : Initiator) (a mask : Nat) (l : List Byte) : State :=
  match winPlace d a with
  | .imem n o => if s.imemOk n who then s.imemPut n (o / 4) (s.maskedWord d a mask l) false else s
  | .imemBoth n o =>
    if s.imemOk n who then s.imemBoth n (o / 4) (s.maskedWord d (imemAddr n.c.val n.k.val (o / 4)) mask l) else s
  | .dmem n _ => if (s.nib n).halted then s.putMasked d a mask l else s
  | .pool _ _ => s.putMasked d a mask l
  | .poolBoth c o =>
    let s1 := s.putMasked d (poolAddr c o) mask l
    if s1.joint d then s1.putMasked d.other (poolAddr c o) mask l else s1
  | _ => s

/-- The free spare slots of a cluster, lowest first (R255). -/
def State.freeSpares (s : State) (d : Die) (c : Nat) : List Nat :=
  [30, 31].filter (fun sl => !bitOf (s.rd d (NBC_nRETIRE c)).toNat sl &&
    !(if sl = 30 then s.bit d (NBC_nSPMAP c) NBC_nSPMAP__V30 else s.bit d (NBC_nSPMAP c) NBC_nSPMAP__V31))

end Sys2Proof.Machine
end

