-- ==== Sys2Proof/Machine/NibStream.lean ====
section
/-! DEFINITION. The stream unit of a nib cluster (R228 to R240), starting, halting, patching, rejoining and sparing nibs
(R250 to R259), and the Ductus records of range 0x03xx (R260 to R265). -/

namespace Sys2Proof.Machine

/-! ### Sources and subscriptions -/

/-- Whether a source number is listed (R228). -/
def isSource (n : Nat) : Bool :=
  decide (n < 0x1C ∨ (0x20 ≤ n ∧ n < 0xE3) ∨ (0x100 ≤ n ∧ n < 0x119) ∨ (0x200 ≤ n ∧ n < 0x220) ∨
    (0x300 ≤ n ∧ n < 0x310) ∨ (0x400 ≤ n ∧ n < 0x500) ∨ n = 0x600 ∨ n = 0x601)

/-- How a nib receives a source: none, silently, or delivered with the event line of a subscription that names one. A
delivered subscription outweighs a silent one of the same source. -/
def Nib.subOf (x : Nib) (src : Nat) : Option (Bool × Option Nat) :=
  let m := x.subs.filter (fun u => decide (u.first ≤ src ∧ src ≤ u.last))
  if src = 0x600 then some (true, none)
  else if m.isEmpty then none
  else match m.filter (fun u => !u.silent) with
    | [] => some (true, none)
    | l => some (false, (l.filterMap (·.line)).head?)

/-- The nibs an input is for, before full queues are left out: a credit goes to the nib it belongs to, with or without a subscription
(log entry 78), a control entry to the nib or nibs it names, a message of another nib to the nib its mailbox names where that one
subscribes the sender (R241), any other entry to its subscribers. -/
def Cluster.targets (x : Cluster) (e : HeldEntry) : List Nat :=
  (List.range 30).filter (fun k =>
    let y := x.nib k
    decide (y.prog ≠ .none) &&
      (if e.src = 0x600 then decide (u8 e.payload 0 = k)
       else if e.src = 0x601 then decide (u8 e.payload 1 = k ∨ u8 e.payload 1 = 0xFF)
       else (y.subOf e.src).isSome && (match e.msg with | some m => decide (m.1 = k) | none => true)))

/-- The delivered and silent entries in a nib's queue: control entries take none of its places (log entry 79). -/
def Nib.queued (x : Nib) : Nat := (x.queue.filter (fun e => decide (e.src ≠ 0x601))).length

/-- Whether a nib's queue is full (R237). -/
def Nib.full (x : Nib) : Bool := decide (x.depth ≤ x.queued)

/-- An entry put in a nib's queue, with the drops since the last delivered entry when it is itself delivered (R238). -/
def Nib.push (x : Nib) (h : HeldEntry) (stamp : Nat) (late : Bool) : Nib :=
  let e : StreamEntry :=
    { src := h.src, seq := h.seq, stamp := stamp, payload := h.payload, late := late, err := h.err, box := h.msg.map (·.2) }
  match x.subOf h.src with
  | some (true, _) => { x with queue := x.queue ++ [{ e with silent := true }] }
  | some (false, line) => { x with queue := x.queue ++ [{ e with line := line, drops := x.drops }], drops := 0 }
  | none => { x with queue := x.queue ++ [e] }

/-- The nib of numbers, for indices below their bounds. -/
def mkNib (d : Die) (c k : Nat) : NibId := ⟨d, Fin.ofNat 8 c, Fin.ofNat 30 k⟩

/-- A nib restarted in place by a control entry (R738): entry address, DMEM image, registers 0, empty queue; recorded as
class 0x05 with the detail code of "restart". -/
def State.nibRestart (s : State) (n : NibId) : State :=
  let c := n.c.val
  let im := tget {} (s.cl n.d c).images n.k.val
  let s1 := s.putBytes n.d (dmemAddr c n.k.val 0) (im.dmem ++ List.replicate (0x2000 - im.dmem.length) 0#8)
  let s2 := s1.updNib n (fun x => { x.start with restartAt := some (s.ns n.d) })
  s2.recordSev n.d (0x0800 + c) 0x05 0 (nibNum n) 0x0F 0

/-- A halted nib, or one without a slot, at a control entry of its queue: a halt changes nothing more, a cut sends its state with the
entries queued ahead of the cut, which it has not taken; a nib without a slot has no state to send, and its twin starts at its entry (log
entry 115). -/
def State.meetHalted (s : State) (n : NibId) : State :=
  let x := s.nib n
  let q := x.queue.filter (fun e => !isHalt e.src e.payload)
  let ahead := q.takeWhile (fun e => !isCut e.src e.payload)
  let s1 := s.updNib n (fun x => { x with queue := q.filter (fun e => !isCut e.src e.payload) })
  let s2 := if x.queue.any (fun e => isHalt e.src e.payload) then s1.haltDone n.d n.c.val else s1
  if q.all (fun e => !isCut e.src e.payload) then s2
  else s2.updNib (twinOf n) (fun t =>
    if x.run ≠ .noSlot then { x.sendTo t with queue := ahead ++ t.queue }
    else if t.run = .unassigned then { t.start with queue := t.queue } else t)

/-- A nib that is blocked, halted or without a slot meets the control entries of its queue (R250, R254); a blocked protection nib first
takes what is ahead of them. -/
def State.meetNow (s : State) (n : NibId) : State :=
  let s0 := s.updNib n (fun x => if x.prog = .protection ∧ x.run = .inGet then x.drain x.queue.length else x)
  let x := s0.nib n
  match x.run with
  | .inGet | .inWait => s0.meetControl n
  | .haltedCmd | .haltedExc | .noSlot => s0.meetHalted n
  | _ => s0

/-- An entry delivered with a stamp to the nibs of a mask; the other nibs it was for count a drop (R232, R237). A control entry may
halt a blocked nib at once, and a restart entry acts when it is delivered. Once the authority has delivered or dropped a partition's
item the SGW takes the next one (R338). -/
def State.deliver (s : State) (d : Die) (c : Nat) (h : HeldEntry) (stamp : Nat) (late : Bool) (mask : Nat) : State :=
  let all := (s.cl d c).targets h
  let s1 := all.foldl (fun st k =>
    let n := mkNib d c k
    if bitOf mask k then
      if h.src = 0x601 ∧ u8 h.payload 0 = 2 then st.nibRestart n
      else (st.updNib n (fun x => x.push h stamp late)).meetNow n
    else (st.updNib n (fun x => { x with drops := satInc 0xFFFF x.drops })).addSat d (NBC_nDROP c) NBC_nDROP__COUNT 1) s
  let s2 := if late then s1.addSat d (NBC_nLATE c) NBC_nLATE__COUNT 1 else s1
  if 0x200 ≤ h.src ∧ h.src < 0x220 ∧ s.ordersOwn d c = true then
    let free := fun (st : State) (e : Die) => st.updGw e (fun g => { g with taking := tset none g.taking (h.src - 0x200) none })
    free (free s2 0) 1
  else s2

/-- The cut released by the authority (R254 step 2): order entries go to the rejoining twin from now on, its pool and DMEM take the
authority's contents, and every later write of the authority's nibs goes to it too. The inputs that come from nibs or the cluster itself,
sources from 0x0400 on, the twin could not hold while its nibs stood: it takes the authority's held copies and sequence counts of them,
so that they match from the cut on (step 4; log entry 115). -/
def State.cutOut (s : State) (d : Die) (c : Nat) : State :=
  if s.joint d && decide (s.clState d.other c = 5) && decide ((s.cl d.other c).rejoin = .placed) then
    let y := s.cl d c
    (((s.copyRange d d.other (poolAddr c 0) (poolAddr c 0x40000)).copyRange d d.other (dmemAddr c 0 0) (dmemAddr c 30 0)).dropCrcs
      c).updCl d.other c (fun x => { x with
        rejoin := .cut, orders := [],
        held := x.held.filter (fun h => decide (h.src < 0x400)) ++ y.held.filter (fun h => decide (0x400 ≤ h.src)),
        seqs := y.seqs.foldl (fun t e => if 0x400 ≤ e.1 then tset 0 t e.1 e.2 else t)
          (tdrop x.seqs (fun k => decide (0x400 ≤ k))) })
  else s

/-! ### Order on the authority (R230 to R232) -/

/-- The next instant of a tick after a time (R240). -/
def nextTick (t : Tick) (now : Nat) : Nat := now + t.period - (now + t.period - t.phase) % t.period

/-- The watermark of a source: no later entry of it carries a lower stamp (R230). `receiving` gives, by port, the
earliest stamp of a frame being received; the frames of P25 that the fabric of the switch core holds count with it (R452). -/
def State.watermark (s : State) (d : Die) (c : Nat) (receiving : List (Fin 25 × BitVec 64)) (src : Nat) : Nat :=
  let now := s.ns d
  if src < 0xE3 then now - 2000
  else if 0x100 ≤ src ∧ src < 0x119 then
    (s.vol.get d).swc.fabric.foldl (fun w f => if f.ingress = src - 0x100 ∧ f.ports.contains 25 then min w f.stamp else w)
      (receiving.foldl (fun w r => if r.1.val = src - 0x100 ∧ r.2.toNat < w then r.2.toNat else w) (now - 2000))
  else if 0x300 ≤ src ∧ src < 0x310 then
    match tget none (s.cl d c).ticks (src - 0x300) with
    | some t => nextTick t now - 1
    | none => now
  else now

/-- The sources any nib of a cluster subscribes. -/
def Cluster.subscribed (x : Cluster) : List (Nat × Nat) := x.nibs.flatMap (fun e => e.2.subs.map (fun u => (u.first, u.last)))

/-- The sources whose watermarks differ from the plain rules, the P25 ports and ticks, and one of each plain kind. -/
def watchedSources : List Nat :=
  [0, 0x20, 0x200] ++ (List.range 25).map (0x100 + ·) ++ (List.range 16).map (0x300 + ·)

/-- The lowest watermark of the sources subscribed by any nib and not excluded. -/
def State.lowMark (s : State) (d : Die) (c : Nat) (receiving : List (Fin 25 × BitVec 64)) (excl : List Nat) : Nat :=
  let subs := (s.cl d c).subscribed
  let named := fun a b => subs.any (fun u => decide (u.1 ≤ b ∧ a ≤ u.2))
  let use := fun src =>
    !excl.contains src &&
      (if src = 0 then named 0 0x1F else if src = 0x20 then named 0x20 0xE2
       else if src = 0x200 then named 0x200 0x21F || named 0x400 0x4FF else named src src)
  (watchedSources.filter use).foldl (fun w src => min w (s.watermark d c receiving src)) (s.ns d)

/-- Whether one held entry comes before another: by stamp, source number, source sequence (R230). -/
def HeldEntry.before (a b : HeldEntry) : Bool :=
  decide (a.stamp < b.stamp ∨ (a.stamp = b.stamp ∧ (a.src < b.src ∨ (a.src = b.src ∧ a.seq < b.seq))))

/-- The first of a list of held entries in that order. -/
def firstHeld : List HeldEntry → Option HeldEntry
  | [] => none
  | e :: l => match firstHeld l with
    | some f => if f.before e then some f else some e
    | none => some e

/-- The excluded sources that have come back within the stall limit leave the exclusion (R231). -/
def State.stillExcluded (s : State) (d : Die) (c : Nat) (receiving : List (Fin 25 × BitVec 64)) : List Nat :=
  (s.cl d c).excluded.filter (fun src =>
    decide (s.watermark d c receiving src + 1000 * s.fld d (NBC_nSTALL c) NBC_nSTALL__LIMIT < s.ns d))

/-- The entry the authority cluster releases next, with its LATE flag: the first held entry of no excluded source at or
below the lowest watermark, else an entry of an excluded source. -/
def State.releasable (s : State) (d : Die) (c : Nat) (receiving : List (Fin 25 × BitVec 64)) (excl : List Nat) :
    Option (HeldEntry × Bool) :=
  let held := (s.cl d c).held
  match firstHeld (held.filter (fun e => !excl.contains e.src && decide (e.stamp ≤ s.lowMark d c receiving excl))) with
  | some e => some (e, e.late)
  | none => (firstHeld (held.filter (fun e => excl.contains e.src))).map (fun e => (e, true))

/-- ENTRY_RELEASE: the authority cluster releases the next entry of its order, leaves out the nibs whose queue is full,
and sends an order entry, which NBC_nFEED counts, to a twin that follows (R230 to R232, R259). An entry whose source was excluded when
it came is LATE too (R231). A new authority first delivers every order entry it has received (R236). How the twin learns LATE is the
model's choice: its order entry carries the flag beside the 16 bytes of R232 (log entry 114). -/
def execEntryRelease (d : Die) (c : Fin 8) (receiving : List (Fin 25 × BitVec 64)) (s : State) : Out :=
  .next (
    if !(s.clRuns d c.val && s.ordersOwn d c.val && (s.cl d c.val).orders.isEmpty) then s
    else
      let excl := s.stillExcluded d c.val receiving
      let s0 := s.updCl d c.val (fun x => { x with excluded := excl })
      match s.releasable d c.val receiving excl with
      | none => s0
      | some (e, late) =>
        let x := s0.cl d c.val
        let mask := maskOf ((x.targets e).filter (fun k => decide (e.src = 0x601) || !(x.nib k).full))
        let s1 := s0.updCl d c.val (fun x => { x with
          held := x.held.filter (fun h => decide (h ≠ e)), lastOut := max x.lastOut e.stamp })
        if isCut e.src e.payload then (s1.cutOut d c.val).deliver d c.val e e.stamp late mask
        else
          let s2 := s1.deliver d c.val e e.stamp late mask
          if s2.twinFollows d c.val then
            (s2.incWrap d (NBC_nFEED c.val) NBC_nFEED__COUNT).plSend d 1 (.order c.val ⟨e.stamp, e.src, e.seq, mask, late⟩)
          else s2)

/-- SOURCE_STALL: a source whose watermark lags present time by more than the stall limit is excluded (R231). -/
def execSourceStall (d : Die) (c : Fin 8) (src : BitVec 16) (mark : BitVec 64) (s : State) : Out :=
  .next (
    if s.clRuns d c.val && s.ordersOwn d c.val && isSource src.toNat &&
        decide (mark.toNat + 1000 * s.fld d (NBC_nSTALL c.val) NBC_nSTALL__LIMIT < s.ns d) &&
        !(s.cl d c.val).excluded.contains src.toNat then
      s.updCl d c.val (fun x => { x with excluded := x.excluded ++ [src.toNat] })
    else s)

/-- STREAM_ENTRY_ARRIVAL: an external input reaches a cluster's stream unit, stamped, and is held (R228). -/
def execStreamEntryArrival (d : Die) (c : Fin 8) (src : BitVec 16) (stamp : BitVec 64) (payload : List Byte) (err : Bool)
    (s : State) : Out :=
  .next (if isSource src.toNat && decide (payload.length ≤ 2048) && decide (src.toNat < 0x300) then
      s.streamIn d c.val src.toNat stamp.toNat payload err else s)

/-- CLUSTER_TICK: a tick instant produces an entry stamped exactly (R240). -/
def execClusterTick (d : Die) (c : Fin 8) (t : Fin 16) (time : BitVec 64) (s : State) : Out :=
  .next (match tget none (s.cl d c.val).ticks t.val with
    | some k =>
      if time.toNat % k.period = k.phase % k.period then s.streamIn d c.val (0x300 + t.val) time.toNat [] false else s
    | none => s)

/-! ### Order on the twin (R233 to R236) -/

/-- ORDER_ENTRY: the twin takes the oldest order entry and releases the matching copy with its stamp to the nibs of the
mask; while a queue of the mask is full it waits (R233, R235). -/
def execOrderEntry (d : Die) (c : Fin 8) (s : State) : Out :=
  .next (
    let x := s.cl d c.val
    if !(s.alive d && decide (s.clState d c.val = 4 ∨ s.clState d c.val = 5 ∨ s.clState d c.val = 3)) then s
    else match x.orders with
      | [] => s
      | o :: rest =>
        match x.held.find? (fun h => decide (h.src = o.src ∧ h.seq = o.seq)) with
        | none => s
        | some h =>
          if o.src ≠ 0x601 ∧ (x.targets h).any (fun k => bitOf o.mask k && (x.nib k).full) = true then s
          else
            let s1 := s.updCl d c.val (fun x => { x with
              orders := rest, held := x.held.filter (fun e => decide (e ≠ h)), lastOut := max x.lastOut o.stamp })
            (s1.deliver d c.val h o.stamp o.late o.mask).incWrap d (NBC_nFEED c.val) NBC_nFEED__COUNT)

/-- ORDER_ENTRY_UNMATCHED: 100 µs pass without a copy for the oldest order entry (R234): counted, recorded as class 0x06
by each Q-die, and the twin is reset and rejoins. A cluster that has become the authority meanwhile leaves the entry out and goes on
with the next step of R236 (log entry 80). -/
def execOrderEntryUnmatched (d : Die) (c : Fin 8) (s : State) : Out :=
  .next (
    let x := s.cl d c.val
    if !s.alive d then s
    else match x.orders with
      | [] => s
      | o :: rest =>
        if x.held.any (fun h => decide (h.src = o.src ∧ h.seq = o.seq)) then s
        else
          let s1 := (s.addSat d (NBC_nUNM c.val) NBC_nUNM__FEDONLY 1).recordBoth (0x0800 + c.val) 0x06 c.val 0 o.src
          if s.ordersOwn d c.val then s1.updCl d c.val (fun x => { x with orders := rest }) else s1.clusterReset d c.val 0x31 0)

/-- LOCAL_COPY_DISCARD: a copy no order entry has named is dropped and counted once the order entries have passed its stamp by 100 µs
(R234). -/
def execLocalCopyDiscard (d : Die) (c : Fin 8) (src seq : BitVec 16) (s : State) : Out :=
  .next (
    let x := s.cl d c.val
    let is := fun (h : HeldEntry) => decide (h.src = src.toNat ∧ h.seq = seq.toNat ∧ h.stamp + 100000 ≤ x.lastOut)
    if s.alive d && !s.ordersOwn d c.val && x.held.any is &&
        !x.orders.any (fun o => decide (o.src = src.toNat ∧ o.seq = seq.toNat)) then
      (s.updCl d c.val (fun x => { x with held := x.held.filter (fun h => !is h) })).addSat d (NBC_nUNM c.val)
        NBC_nUNM__LOCALONLY 1
    else s)

/-- TWIN_LAG: the twin's delivery stays 100 µs behind (R235): class 0x02 by each Q-die, reset and rejoin. -/
def execTwinLag (d : Die) (c : Fin 8) (lag : BitVec 16) (s : State) : Out :=
  .next (
    if s.alive d && !s.ordersOwn d c.val && !(s.cl d c.val).orders.isEmpty then
      ((s.setF d (NBC_nSTAT c.val) NBC_nSTAT__LAGGING 1).recordBoth (0x0800 + c.val) 0x02 (2 ^ 16 + c.val) 0
        lag.toNat).clusterReset d c.val 0x31 0
    else s)

/-! ### Starting (R253, R265) -/

/-- The physical slot that serves a logical nib: its own, or the spare mapped to it when its own is retired (R209,
R255); a retired spare serves none. -/
def State.slotFor (s : State) (d : Die) (c k : Nat) : Option Nat :=
  let out := fun (sl : Nat) => bitOf (s.rd d (NBC_nRETIRE c)).toNat sl
  if !out k then some k
  else if !out 30 ∧ s.bit d (NBC_nSPMAP c) NBC_nSPMAP__V30 ∧ s.fld d (NBC_nSPMAP c) NBC_nSPMAP__LOG30 = k then some 30
  else if !out 31 ∧ s.bit d (NBC_nSPMAP c) NBC_nSPMAP__V31 ∧ s.fld d (NBC_nSPMAP c) NBC_nSPMAP__LOG31 = k then some 31
  else none

/-- The subscriptions the loader gives a protection nib (R211): tick 15 and the status entries of the switch dies its cluster controls,
all delivered (log entry 76). -/
def State.protSubs (s : State) (d : Die) (c : Nat) : List Subscr :=
  ⟨0x30F, 0x30F, false, none⟩ :: ((List.range 19).filter (fun sd => decide (s.cluster d sd = c))).map (fun sd =>
    ⟨0xD0 + sd, 0xD0 + sd, false, none⟩)

/-- The protection nib of a cluster that controls a switch die (R211, R240). Its queue depth and watchdog are the model's choice (log
entry 76). -/
def State.addProtection (s : State) (d : Die) (c : Nat) : State :=
  if s.controls d c then
    (s.updNib (mkNib d c 29) (fun x => { x with
      prog := .protection, depth := 16, wdog := 1000, subs := s.protSubs d c })).updCl d c
      (fun x => { x with ticks := tset none x.ticks 15 (some ⟨100000, 0⟩) })
  else s

/-- NIB_START: step 4 of R64 on one cluster, once every record of step 3 is judged and a rejoining die has taken the copy of R349: every nib with a program starts at its entry
address, in authority, in shadow, or rejoining from a partner that already runs sealed. When the last cluster has started the
loader goes on to LATE records. -/
def execNibStart (d : Die) (c : Fin 8) (s : State) : Out :=
  .next (
    if !(s.alive d && decide (s.dstate d = 2) && !(s.cl d c.val).started && (s.todo d).all Rec.lateStep) || s.copyDue d then s
    else
      let s2 := s.addProtection d c.val
      let x := s2.cl d c.val
      let gated := s2.bit d (ISL_CLKn (4 + c.val)) ISL_CLKn__GATED
      let st := if gated then 1 else if x.nibs.all (fun e => decide (e.2.prog = .none)) then 0
        else if s2.hasAuth d c.val then 3
        else if s2.isSealed d.other && decide (s2.clState d.other c.val = 3) then 5 else 4
      let s3 := if st < 3 then s2 else
        s2.updCl d c.val (fun x => { x with
          rejoin := if st = 5 then .reload else .none,
          seqs := if st = 5 then (s2.cl d.other c.val).seqs else x.seqs,
          nibs := x.nibs.map (fun e => (e.1,
            if e.2.prog = .none then e.2 else match s2.slotFor d c.val e.1 with
              | some sl => { e.2.start with slot := sl, run := if st = 5 then .unassigned else e.2.start.run }
              | none => { e.2 with run := .noSlot })) })
      let s4 := (s3.setF d (NBC_nSTAT c.val) NBC_nSTAT__STATE st).updCl d c.val (fun x => { x with started := true })
      if (List.range 8).all (fun i => (s4.cl d i).started) then
        let s5 := (s4.restoreDue d).setF d UPD_DSTAT UPD_DSTAT__STATE 3
        s5.goOn d (s5.todo d)
      else s4)

/-- NIB_WATCHDOG_EXPIRY: in task mode cause 0x07, at the first boundary outside a branch-and-slot and an MSET-and-shadow
pair; in handler mode the nib halts (R247, R249). A blocked nib's watchdog does not count. -/
def execNibWatchdogExpiry (n : NibId) (s : State) : Out :=
  .next (
    if s.alive n.d && decide ((s.nib n).run = .running) then
      (s.updNib n (fun x => { x with wdogHit := true })).nibBoundary n
    else s)

/-! ### Halting, resuming, patching (R250 to R252, R259) -/

/-- The confirm value and writers of NBC_nCMD (R259). -/
def nbcOk (who : Initiator) (confirm : BitVec 16) : Bool := who.isManager && decide (confirm = 0x3B5A#16)

/-- The result of an NBC command, shown on both dies. -/
def State.nbcResult (s : State) (c : Nat) (r : Nat) : State := s.setBoth (NBC_nCMDRES c) NBC_nCMDRES__RESULT r

/-- Whether the result shown is that of a BIST request, noted on both dies. -/
def State.bistAsk (s : State) (c : Nat) (asked : Bool) : State :=
  (s.updCl 0 c (fun x => { x with bistAsked := asked })).updCl 1 c (fun x => { x with bistAsked := asked })

/-- A halt entered in the authority's order, for one nib or all (R250). -/
def State.nbcHalt (s : State) (c k : Nat) (ok : Bool) : State :=
  if ok then ((s.streamBoth c 0x601 [0#8, BitVec.ofNat 8 k]).nbcResult c 1).bistAsk c false else s.nbcResult c 2

/-- Whether a nib of a mask on either die that runs can be halted: a command on either die acts on the cluster of both (R259). -/
def State.haltable (s : State) (c : Nat) (p : Nat → Bool) : Bool :=
  let on := fun (d : Die) => s.alive d && (s.cl d c).nibs.any (fun e => p e.1 && e.2.canHalt)
  on 0 || on 1

/-- Whether a nib of a mask on either die that runs is halted by command. -/
def State.resumable (s : State) (c : Nat) (p : Nat → Bool) : Bool :=
  let on := fun (d : Die) => s.alive d && (s.cl d c).nibs.any (fun e => p e.1 && decide (e.2.run = .haltedCmd))
  on 0 || on 1

/-- NBC_HALT_NIB (R250, R259). -/
def execNbcHaltNib (d : Die) (who : Initiator) (confirm : BitVec 16) (c : Fin 8) (k : BitVec 5) (s : State) : Out :=
  .next (
    if !(nbcOk who confirm && s.alive d) then s
    else s.nbcHalt c.val k.toNat (decide (k.toNat < 30) && s.haltable c.val (fun i => decide (i = k.toNat))))

/-- NBC_HALT_ALL (R250, R259). -/
def execNbcHaltAll (d : Die) (who : Initiator) (confirm : BitVec 16) (c : Fin 8) (s : State) : Out :=
  .next (
    if !(nbcOk who confirm && s.alive d) then s
    else s.nbcHalt c.val 0xFF (s.haltable c.val (fun _ => true)))

/-- The halted nibs of a mask resume on one die, at the MBX.GET or WAIT where they stopped; a protection nib takes what has come
meanwhile. -/
def State.resumeOn (s : State) (d : Die) (c : Nat) (p : Nat → Bool) : State :=
  s.updCl d c (fun x => { x with nibs := x.nibs.map (fun e =>
    (e.1, if p e.1 && decide (e.2.run = .haltedCmd) then
        if e.2.prog = .protection then { e.2 with run := .inGet }.drain e.2.queue.length else { e.2 with run := .running }
      else e.2)) })

/-- NBC_RESUME_NIB: resumes a halted nib directly on both dies (R250). -/
def execNbcResumeNib (d : Die) (who : Initiator) (confirm : BitVec 16) (c : Fin 8) (k : BitVec 5) (s : State) : Out :=
  .next (
    if !(nbcOk who confirm && s.alive d) then s
    else if s.resumable c.val (fun i => decide (i = k.toNat)) then
      ((s.resumeOn 0 c.val (fun i => decide (i = k.toNat))).resumeOn 1 c.val (fun i => decide (i = k.toNat))).nbcResult
        c.val 3
    else s.nbcResult c.val 2)

/-- NBC_RESUME_ALL (R250). -/
def execNbcResumeAll (d : Die) (who : Initiator) (confirm : BitVec 16) (c : Fin 8) (s : State) : Out :=
  .next (
    if !(nbcOk who confirm && s.alive d) then s
    else if s.resumable c.val (fun _ => true) then
      ((s.resumeOn 0 c.val (fun _ => true)).resumeOn 1 c.val (fun _ => true)).nbcResult c.val 3
    else s.nbcResult c.val 2)

/-- Whether a die's cluster may run its BIST: its twin holds authority and runs, and 24 h have passed (R257). -/
def State.bistOk (s : State) (d : Die) (c : Nat) : Bool :=
  s.alive d && !s.hasAuth d c && s.clRuns d.other c && decide (s.clState d.other c = 3) && decide (s.clState d c = 4) &&
    (match (s.cl d c).lastBist with
     | some t => decide (t + 86400000000000 ≤ s.ns d)
     | none => true)

/-- NBC_REQUEST_BIST (R257, R259). -/
def execNbcRequestBist (d : Die) (who : Initiator) (confirm : BitVec 16) (c : Fin 8) (s : State) : Out :=
  .next (
    if !(nbcOk who confirm && s.alive d) then s
    else
      let ok := s.bistOk 0 c.val || s.bistOk 1 c.val
      (s.nbcResult c.val (if ok then 1 else 2)).bistAsk c.val ok)

/-- CLUSTER_BIST: the logic BIST through the reset path with cause 0x31, then a rejoin; `failed` names the slots that
fail (R257). -/
def execClusterBist (d : Die) (c : Fin 8) (failed : BitVec 32) (s : State) : Out :=
  .next (
    if s.bistOk d c.val then
      let s1 := (s.updCl d c.val (fun x => { x with
        lastBist := some (s.ns d), bistFailed := (List.range 32).filter (fun i => failed.getLsbD i) })).clusterReset d c.val
          0x31 0
      if (s.cl d c.val).bistAsked then (s1.nbcResult c.val 3).bistAsk c.val false else s1
    else s)

/-- IMEM_WRITE: after the seal a write is accepted when the nib is PATCHABLE and the writer is partition 0 or a management
core; before it only the loader writes. The mirrored port writes both dies and their retained copies (R251, R223). -/
def execImemWrite (who : Initiator) (n : NibId) (word : Fin 2048) (v : Word) (mirror : Bool) (s : State) : Out :=
  .next (
    if !(s.alive n.d && s.imemOk n who) then s
    else if mirror then s.imemBoth n word.val v else s.imemPut n word.val v false)

/-! ### Rejoining and spares (R254 to R256) -/

/-- RELOAD_COMPLETE: a rejoining cluster has its images; the authority places the cut entry for all its nibs in its order (R254). Both
dies count the entry, so later control entries match. -/
def execReloadComplete (d : Die) (c : Fin 8) (s : State) : Out :=
  .next (
    if s.alive d && decide (s.clState d c.val = 5) && decide ((s.cl d c.val).rejoin = .reload) &&
        s.clRuns d.other c.val && s.hasAuth d.other c.val && s.linkFlows then
      let s1 := s.streamIn d.other c.val 0x601 (s.ns d.other) [1#8, 0xFF#8] false
      s1.updCl d c.val (fun x => { x with
        rejoin := .placed, seqs := tset 0 x.seqs 0x601 (tget 0 (s1.cl d.other c.val).seqs 0x601) })
    else s)

/-- REJOIN_COMPLETE: every authority nib has passed the cut, and the cluster reports shadow (R254). -/
def execRejoinComplete (d : Die) (c : Fin 8) (s : State) : Out :=
  .next (
    if s.alive d && decide (s.clState d c.val = 5) && decide ((s.cl d c.val).rejoin = .cut) &&
        s.clRuns d.other c.val && !(s.cl d.other c.val).nibs.any (fun e => e.2.queue.any (fun q => isCut q.src q.payload)) then
      (s.updCl d c.val (fun x => { x with rejoin := .none })).setF d (NBC_nSTAT c.val) NBC_nSTAT__STATE 4
    else s)

/-- Whether a slot is to be replaced: it failed a BIST, or shows two uncorrectable errors or two halts in 24 h (R255). -/
def State.slotFails (s : State) (d : Die) (c slot : Nat) : Bool :=
  let x := s.cl d c
  let recent := fun (l : List Nat) => decide (2 ≤ (l.filter (fun t => decide (s.ns d < t + 86400000000000))).length)
  x.bistFailed.contains slot ||
    x.nibs.any (fun e => decide (e.2.slot = slot ∧ e.2.prog ≠ .none) && (recent e.2.eccTimes || recent e.2.haltTimes))

/-- SPARE_SUBSTITUTION: the token moves to a running twin first; the lowest free spare takes the slot's logical number
and the cluster is reset with cause 0x32 and rejoins; with no spare the logical nib stays halted with no slot. The slot
is retired either way, a spare among them no longer serving, and each Q-die writes class 0x17 (R255, R256, R745). A free spare that fails
serves no nib and is only retired (log entry 81). -/
def execSpareSubstitution (d : Die) (c : Fin 8) (slot : Fin 32) (s : State) : Out :=
  .next (
    let mine := s.hasAuth d c.val
    if !(s.alive d && s.slotFails d c.val slot.val) || (mine && !s.clRuns d.other c.val) then s
    else
      let serves := (List.range 30).find? (fun k => decide (s.slotFor d c.val k = some slot.val))
      let retire := fun (st : State) =>
        let t := st.setF d (NBC_nRETIRE c.val) NBC_nRETIRE__SLOT (withBit (st.rd d (NBC_nRETIRE c.val)).toNat slot.val true)
        let t1 := if slot.val = 30 then t.setF d (NBC_nSPMAP c.val) NBC_nSPMAP__V30 0
          else if slot.val = 31 then t.setF d (NBC_nSPMAP c.val) NBC_nSPMAP__V31 0 else t
        t1.updCl d c.val (fun x => { x with bistFailed := x.bistFailed.filter (fun i => decide (i ≠ slot.val)) })
      match serves with
      | none => retire s
      | some log =>
        let s1 := retire (if mine then s.moveToken c.val d.other else s)
        match s1.freeSpares d c.val with
        | sl :: _ =>
          let s2 := if sl = 30 then
              (s1.setF d (NBC_nSPMAP c.val) NBC_nSPMAP__LOG30 log).setF d (NBC_nSPMAP c.val) NBC_nSPMAP__V30 1
            else (s1.setF d (NBC_nSPMAP c.val) NBC_nSPMAP__LOG31 log).setF d (NBC_nSPMAP c.val) NBC_nSPMAP__V31 1
          let s3 := s2.recordBoth (0x0800 + c.val) 0x17 (nbcSubject d c.val log) 0 1
          (s3.updNib (mkNib d c.val log) (fun x => { x with slot := sl, eccTimes := [], haltTimes := [] })).clusterReset d
            c.val 0x32 0
        | [] =>
          (s1.updNib (mkNib d c.val log) (fun x => { x with run := .noSlot })).recordBoth (0x0800 + c.val) 0x17
            (nbcSubject d c.val log) 0 9)
where
  /-- The subject of a nib repair record: the nib number. -/
  nbcSubject (d : Die) (c k : Nat) : Nat := d.val * 256 + c * 32 + k

/-! ### Records of range 0x03xx -/

/-- The cluster a record of this range targets. -/
def recCluster (r : Rec) : Nat := r.inst

/-- Whether a record is a cluster record that keeps its own rules (R260). -/
def clusterForm (r : Rec) : Bool :=
  decide (r.typ.toNat = 0x0301 ∧ r.inst < 8 ∧ r.body.length = 8 ∧ 50 ≤ u16 r.body 2 ∧ u16 r.body 2 ≤ 5000) && zeroBytes r.body 4 4 &&
    r.headerOk false

/-- The cluster record that applies for a cluster: the last one still to be judged, else the last one judged (R59, R260). -/
def State.laneRecOf (s : State) (d : Die) (c : Nat) : Option Rec :=
  match ((s.todo d).filter (fun r => clusterForm r && decide (r.inst = c))).getLast? with
  | some r => some r
  | none => (s.cl d c).laneRec

/-- Whether a later cluster record replaces one for the same cluster. -/
def State.replaced (s : State) (d : Die) (r : Rec) : Bool := s.superseded d r || decide (s.laneRecOf d r.inst ≠ some r)

/-- Whether the applying record of another cluster names a lane that one names too (R260). -/
def State.lanesClash (s : State) (d : Die) (r : Rec) : Bool :=
  (List.range 8).any (fun o => decide (o ≠ r.inst) && (match s.laneRecOf d o with
    | some q => decide (Nat.land (u16 q.body 0) (u16 r.body 0) ≠ 0)
    | none => false))

/-- A cluster record that applies noted, for the comparison with the records of other clusters; it stays noted where it fails. -/
def State.noteLanes (s : State) (d : Die) (r : Rec) : State :=
  if s.loading d r && clusterForm r && !s.replaced d r then s.updCl d r.inst (fun x => { x with laneRec := some r }) else s

/-- CLUSTER_RECORD (R260, R265): lanes and stall limit are written, unless a later record for the cluster replaces this one. A lane
shared with the applying record of another cluster makes it malformed. -/
def execClusterRecord (d : Die) (r : Rec) (s : State) : Out :=
  .next ((s.noteLanes d r).applyRec d r 0 false 0x0301 (goodIf (clusterForm r && (s.replaced d r || !s.lanesClash d r)))
    (fun s => if s.replaced d r then s else
      (s.setF d (NBC_nCFG r.inst) NBC_nCFG__LANES (u16 r.body 0)).setF d (NBC_nSTALL r.inst) NBC_nSTALL__LIMIT (u16 r.body 2)))

/-- Whether a record may name a logical nib: 0 to 28, or 29 without a protection nib (R211, R262). -/
def State.nibNameOk (s : State) (d : Die) (c k : Nat) : Bool := decide (k < 29) || (decide (k = 29) && !s.controls d c)

/-- The depths of a cluster's queues in total, with some nibs set to a depth; 16 for a protection nib (R211, R261). -/
def State.depths (s : State) (d : Die) (c mask depth : Nat) : Nat :=
  ((List.range 30).map (fun k => if bitOf mask k then depth else
    if k = 29 ∧ s.controls d c = true then 16 else ((s.cl d c).nib k).depth)).sum

/-- The checks of a program record (R211, R256, R261). -/
def State.progJudge (s : State) (d : Die) (r : Rec) : Judged :=
  let b := r.body
  let mask := u32 b 0
  let n := u16 b 4
  let dl := u16 b 6
  let len := (24 + 4 * n + dl + 7) / 8 * 8
  if !(decide (r.inst < 8 ∧ b.length = len ∧ mask < 2 ^ 30 ∧ 1 ≤ n ∧ n ≤ 2048 ∧ dl ≤ 8192 ∧ dl % 4 = 0 ∧ u16 b 8 % 4 = 0 ∧
      u16 b 8 < 4 * n ∧ u16 b 10 % 0x200 = 0 ∧ u16 b 10 ≤ 0x1E00 ∧ 1 ≤ u16 b 12 ∧ u16 b 12 ≤ 1000 ∧ 16 ≤ u16 b 14 ∧
      u16 b 14 ≤ 512 ∧ u8 b 16 < 2) && zeroBytes b 17 7 && zeroBytes b (24 + 4 * n + dl) (len - (24 + 4 * n + dl)) &&
      !(bitOf mask 29 && s.controls d r.inst) && decide (s.depths d r.inst mask (u16 b 14) ≤ 4096)) then .malformed
  else if (List.range 30).any (fun k => bitOf mask k && (s.slotFor d r.inst k).isNone) then .notApplicable
  else .good

/-- Whether a nib of a cluster has a PATCHABLE program, as NBC_nCFG shows it (R265). -/
def State.showPatch (s : State) (d : Die) (c : Nat) : State :=
  s.setF d (NBC_nCFG c) NBC_nCFG__PATCH (b2n ((s.cl d c).nibs.any (fun e => e.2.patchable)))

/-- PROGRAM_RECORD: code and DMEM loaded into the nibs of the mask, with a copy retained; of two records naming one nib
the higher sequence number stands (R261, R265). -/
def execProgramRecord (d : Die) (r : Rec) (s : State) : Out :=
  .next (s.applyRec d r r.seq.toNat false 0x0302 (s.progJudge d r) (fun s =>
    let b := r.body
    let n := u16 b 4
    let im : NibImage := ⟨(List.range n).map (fun i => BitVec.ofNat 32 (u32 b (24 + 4 * i))),
      (b.drop (24 + 4 * n)).take (u16 b 6)⟩
    (((List.range 30).foldl (fun st k =>
      let x := (st.cl d r.inst).nib k
      if bitOf (u32 b 0) k ∧ (x.prog ≠ .record ∨ x.progSeq < r.seq.toNat) then
        let st1 := (st.loadImage d r.inst k im).updCl d r.inst (fun y => { y with images := tset {} y.images k im })
        let st2 := st1.updNib (mkNib d r.inst k) (fun x => { x with
          prog := .record, entry := u16 b 8, vbase0 := u16 b 10, wdog := u16 b 12, depth := u16 b 14,
          patchable := decide (u8 b 16 = 1), progSeq := r.seq.toNat })
        if x.prog = .gateway then st2.record d (0x0800 + r.inst) 0x12 k 0 0 else st2
      else st) s) : State).showPatch d r.inst))

/-- The silent sample sources of a nib with one more subscription. -/
def silentSources (l : List Subscr) : Nat :=
  ((List.range 0xB0).filter (fun i => l.any (fun u => u.silent && decide (u.first ≤ 0x20 + i ∧ 0x20 + i ≤ u.last)))).length

/-- SUBSCRIPTION_RECORD (R229, R239, R262). -/
def execSubscriptionRecord (d : Die) (r : Rec) (s : State) : Out :=
  let b := r.body
  let first := u16 b 4
  let last := u16 b 6
  let silent := decide (u8 b 1 % 2 = 1)
  let event := decide (u8 b 1 / 2 % 2 = 1)
  let u : Subscr := ⟨first, last, silent || decide (first = 0x600), if event then some (u8 b 2) else none⟩
  .next (s.applyRec d r r.seq.toNat false 0x0303
    (goodIf (decide (r.inst < 8 ∧ b.length = 8 ∧ u8 b 1 < 4 ∧ u8 b 3 = 0 ∧ first ≤ last ∧ last < 0x601) &&
      s.nibNameOk d r.inst (u8 b 0) && !(silent && event) && (if event then decide (u8 b 2 < 16) else decide (u8 b 2 = 0)) &&
      (List.range (last + 1 - first)).all (fun i => isSource (first + i)) && !(event && decide (last = 0x600)) &&
      (!silent || decide (first = 0x600) || decide (0x20 ≤ first ∧ last ≤ 0xCF)) &&
      decide (silentSources (((s.cl d r.inst).nib (u8 b 0)).subs ++ [u]) ≤ 32)))
    (fun s => s.updNib (mkNib d r.inst (u8 b 0)) (fun x => { x with subs := x.subs ++ [u] })))

/-- The rules of a tick record's body (R263). -/
def tickForm (r : Rec) : Bool :=
  let b := r.body
  decide (r.inst < 8 ∧ b.length = 16 ∧ u8 b 0 < 16 ∧ 10000 ≤ u32 b 4 ∧ u32 b 4 ≤ 1000000000 ∧ u32 b 8 < u32 b 4) &&
    zeroBytes b 1 3 && zeroBytes b 12 4

/-- The period that the tick records still to be judged give a cluster's tick, in ns; 0 where none names it (R59, R356). -/
def State.tickAhead (s : State) (d : Die) (c t : Nat) : Nat :=
  match ((s.todo d).filter (fun r => decide (r.typ.toNat = 0x0304 ∧ r.inst = c ∧ u8 r.body 0 = t) && r.headerOk false &&
      tickForm r)).getLast? with
  | some r => u32 r.body 4
  | none => 0

/-- TICK_RECORD (R240, R263). -/
def execTickRecord (d : Die) (r : Rec) (s : State) : Out :=
  let b := r.body
  .next (s.applyRec d r (u8 b 0) false 0x0304
    (goodIf (tickForm r && !(decide (u8 b 0 = 15) && s.controls d r.inst)))
    (fun s => s.updCl d r.inst (fun x => { x with ticks := tset none x.ticks (u8 b 0) (some ⟨u32 b 4, u32 b 8⟩) })))

/-- The credits of the kind-2 mailboxes of a die that target a CAN controller, one mailbox left out (R370). -/
def State.boxCredits (s : State) (d : Die) (target : Nat) (c k m : Nat) : Nat :=
  ((s.vol.get d).clusters.flatMap (fun x => x.2.nibs.flatMap (fun y => (y.2.boxes.filter (fun b =>
    decide (b.2.kind = 2 ∧ b.2.target = target) && !decide (x.1 = c ∧ y.1 = k ∧ b.1 = m))).map (fun b => b.2.size)))).sum

/-- MAILBOX_RECORD (R264, R370, R547). -/
def execMailboxRecord (d : Die) (r : Rec) (s : State) : Out :=
  let b := r.body
  let target := u16 b 4
  let ok := match u8 b 2 with
    | 1 => decide (target < 24)
    | 2 => decide (target < 28)
    | 3 => decide (1 ≤ target ∧ target < 32) && s.defined d target
    | 4 => decide (target < 256 ∧ target % 32 < 30)
    | _ => false
  .next (s.applyRec d r (u8 b 0 * 16 + u8 b 1) false 0x0305
    (goodIf (decide (r.inst < 8 ∧ b.length = 8 ∧ u8 b 1 < 16 ∧ u8 b 3 = 0 ∧ 1 ≤ u16 b 6 ∧ u16 b 6 ≤ 256) &&
      s.nibNameOk d r.inst (u8 b 0) && ok &&
      (decide (u8 b 2 ≠ 2 ∨ 16 ≤ target) || decide (s.boxCredits d target r.inst (u8 b 0) (u8 b 1) + u16 b 6 ≤ 32))))
    (fun s => s.updNib (mkNib d r.inst (u8 b 0)) (fun x => { x with
      boxes := tset {} x.boxes (u8 b 1) ⟨u8 b 2, target, u16 b 6, u16 b 6⟩ })))

end Sys2Proof.Machine
end

