-- ==== Sys2Proof/Machine/SwitchOps.lean ====
section
/-! DEFINITION. The switch core's shared operations (spec/11): the forwarding database and VLAN table, admission and charges
with back-pressure, the forwarding decision, queues, the feed, host rings; and the MAC state they act on (spec/10). -/

namespace Sys2Proof.Machine

/-! ### State access -/

/-- The switch core of a die, and a change of it. -/
def State.swc (s : State) (d : Die) : SwcSt := (s.vol.get d).swc
def State.updSwc (s : State) (d : Die) (f : SwcSt → SwcSt) : State := s.updVol d (fun v => { v with swc := f v.swc })

/-- The MAC of a port on a die, and a change of it. -/
def State.mac (s : State) (d : Die) (p : Nat) : MacSt := tget {} (s.vol.get d).mac p
def State.updMac (s : State) (d : Die) (p : Nat) (f : MacSt → MacSt) : State :=
  s.updVol d (fun v => { v with mac := tupd {} v.mac p f })

/-- A port of the port die, and a change of it. -/
def State.port (s : State) (p : Nat) : PortSel := tget {} s.ports p
def State.updPort (s : State) (p : Nat) (f : PortSel → PortSel) : State := { s with ports := tupd {} s.ports p f }

/-- Counter `i` of a MAC raised by 1, wrapping (R417); its half-range bit is set when bit 31 rises (R418). -/
def State.macCount (s : State) (d : Die) (p i : Nat) : State :=
  let old := s.rd d (MAC_CNT p i)
  let s1 := s.wr d (MAC_CNT p i) (old + 1#32)
  if old = 0x7FFFFFFF#32 then
    (if i < 32 then s1.setF d (MAC_HALF0 p) ⟨i, 1⟩ 1 else s1.setF d (MAC_HALF1 p) ⟨i - 32, 1⟩ 1).setF d (MAC_EVT p)
      MAC_EVT__HALF 1
  else s1

/-- The port kinds of R391. -/
def isMg (p : Nat) : Bool := decide (p < 2)
def isGe (p : Nat) : Bool := decide (2 ≤ p ∧ p < 10)
def isFe (p : Nat) : Bool := decide (10 ≤ p ∧ p < 18)
def isSb (p : Nat) : Bool := decide (18 ≤ p ∧ p < 24)

/-- The bit rate of a port in kb/s at a rate code (R391). -/
def portKbps (p rate : Nat) : Nat :=
  if isMg p then (match rate with | 2 => 10000000 | 1 => 5000000 | _ => 2500000)
  else if isGe p then 1000000 else if isFe p then 100000 else 10000

/-- Whether a die's core holds the switch-core token and runs, and whether it sends a feed (R457). -/
def State.swActive (s : State) (d : Die) : Bool := s.alive d && decide (s.holder 8 = d)
def State.feeds (s : State) (d : Die) : Bool := s.swActive d && s.joint d && s.isSealed d.other

/-- Whether an internal or external port honours back-pressure (R439). -/
def State.honours (s : State) (d : Die) (p : Nat) : Bool := decide (24 ≤ p) || s.bit d (SWC_PpCFG p) SWC_PpCFG__BP

/-! ### Forwarding database and VLANs (R431 to R437) -/

/-- Fields of an entry (SWC_FBUF0 to 3 as one number). -/
def fdbAddr (v : Nat) : Nat := v % 2 ^ 48
def fdbVid (v : Nat) : Nat := v / 2 ^ 48 % 2 ^ 12
def fdbMc (v : Nat) : Bool := bitOf v 60
def fdbStatic (v : Nat) : Bool := bitOf v 61
def fdbValid (v : Nat) : Bool := bitOf v 62
def fdbPort (v : Nat) : Nat := v / 2 ^ 64 % 32
def fdbPart (v : Nat) : Nat := v / 2 ^ 72 % 32
def fdbPmask (v : Nat) : Nat := v / 2 ^ 64 % 2 ^ 27
def fdbPartMask (v : Nat) : Nat := v / 2 ^ 96 % 2 ^ 32
def fdbAge (v : Nat) : Nat := v / 2 ^ 96 % 2 ^ 20

/-- A dynamic entry of age 0. -/
def fdbDyn (addr vid port part : Nat) : Nat :=
  addr + vid * 2 ^ 48 + 2 ^ 62 + port * 2 ^ 64 + part * 2 ^ 72

/-- An entry with its age set. -/
def fdbAged (v age : Nat) : Nat := v % 2 ^ 96 + age * 2 ^ 96

/-- The rules of an entry written (R463): no P26, AGE and the reserved bits 0, MC as the address says. Every value of PART names a
partition, 0 the root partition, so a unicast entry for P24 always has one. -/
def fdbRule (v : Nat) : Bool :=
  decide (1 ≤ fdbVid v ∧ fdbVid v ≤ 4094 ∧ v / 2 ^ 63 % 2 = 0) && (fdbMc v == bitOf (fdbAddr v) 0) &&
  (if fdbMc v then decide (v / 2 ^ 90 % 2 ^ 6 = 0)
   else decide (fdbPort v < 26 ∧ v / 2 ^ 96 = 0 ∧ v / 2 ^ 69 % 2 ^ 3 = 0 ∧ v / 2 ^ 77 % 2 ^ 19 = 0))

/-- The bucket of a key (R435). -/
def fdbBucket (addr vid : Nat) : Nat := crc32 (toLE 6 addr ++ toLE 1 (vid / 256) ++ toLE 1 vid) % 4096

/-- The index of a key's entry. -/
def SwcSt.fdbFind (x : SwcSt) (addr vid : Nat) : Option Nat :=
  ((List.range 4).map (fun w => 4 * fdbBucket addr vid + w)).find? (fun i =>
    let v := tget 0 x.fdb i
    fdbValid v && decide (fdbAddr v = addr ∧ fdbVid v = vid))

/-- The way a new entry takes: a free one, or the dynamic one of highest age; none when all four are static. -/
def SwcSt.fdbWay (x : SwcSt) (addr vid : Nat) : Option Nat :=
  let ways := (List.range 4).map (fun w => 4 * fdbBucket addr vid + w)
  match ways.find? (fun i => !fdbValid (tget 0 x.fdb i)) with
  | some i => some i
  | none =>
    match ways.filter (fun i => !fdbStatic (tget 0 x.fdb i)) with
    | [] => none
    | i :: l => some (l.foldl (fun b j => if fdbAge (tget 0 x.fdb b) < fdbAge (tget 0 x.fdb j) then j else b) i)

/-- The counts of entries shown. -/
def State.fdbCount (s : State) (d : Die) : State :=
  let t := (s.swc d).fdb.filter (fun e => fdbValid e.2)
  let n := (t.filter (fun e => fdbStatic e.2)).length
  (s.setF d SWC_FDBCNT SWC_FDBCNT__STATIC n).setF d SWC_FDBCNT SWC_FDBCNT__DYNAMIC (t.length - n)

/-- An entry set on a die. -/
def State.fdbSet (s : State) (d : Die) (i v : Nat) : State :=
  (s.updSwc d (fun x => { x with fdb := tset 0 x.fdb i v })).fdbCount d

/-- An entry set by the active core, and on the standby through the mirrored port (R436). -/
def State.fdbBoth (s : State) (d : Die) (i v : Nat) : State :=
  let s1 := s.fdbSet d i v
  if s1.joint d then s1.fdbSet d.other i v else s1

/-- The members and untag mask of a VID; without a VLAN block VID 1 has every port P0 to P25, untagged (R465). -/
def State.vlanOf (s : State) (d : Die) (vid : Nat) : Nat × Nat :=
  match tfind (s.swc d).vlan vid with
  | some m => m
  | none => if vid = 1 ∧ (s.swc d).vlanRec = false then (2 ^ 26 - 1, 2 ^ 26 - 1) else (0, 0)

/-- Source learning (R436). -/
def State.learn (s : State) (d : Die) (port part src vid : Nat) : State :=
  if !(s.swActive d && s.bit d (SWC_PpCFG port) SWC_PpCFG__LEARN) || bitOf src 0 then s
  else
    let x := s.swc d
    match x.fdbFind src vid with
    | some i => if fdbStatic (tget 0 x.fdb i) then s else s.fdbBoth d i (fdbDyn src vid port part)
    | none =>
      match x.fdbWay src vid with
      | some i => s.fdbBoth d i (fdbDyn src vid port part)
      | none => s.addSat d SWC_LEARNDROP ⟨0, 32⟩ 1

/-! ### Charges and back-pressure (R438 to R442) -/

/-- The charge class of a frame: under PFC a class of the mask has its own charge, every other shares class 8. -/
def State.chargeClass (s : State) (d : Die) (p cls : Nat) : Nat :=
  if p < 24 ∧ s.fld d (MAC_CFG p) MAC_CFG__FCMODE = 2 ∧ bitOf (s.fld d (MAC_FC p) MAC_FC__PFCMASK) cls = true then cls
  else 8

/-- The charge of a frame of `len` bytes: whole cells. -/
def cells (len : Nat) : Nat := (len + 63) / 64 * 64

/-- Whether a charge is subject to XOFF: the port honours back-pressure and, under PFC, the class is in the mask. -/
def State.backs (s : State) (d : Die) (p cc : Nat) : Bool :=
  s.honours d p && !(decide (p < 24) && decide (s.fld d (MAC_CFG p) MAC_CFG__FCMODE = 2) && decide (cc = 8))

/-- The XOFF bits of a charge: one class under PFC, all otherwise. -/
def xoffBits (cc : Nat) : Nat := if cc = 8 then 0xFF else 2 ^ cc

/-- XOFF of a port asserted or released for a charge: shown, and the MAC is to send a control frame, the later state
replacing one not sent yet (R411). -/
def State.setXoff (s : State) (d : Die) (p cc : Nat) (on : Bool) : State :=
  let old := s.fld d (SWC_PpOCC p) SWC_PpOCC__XOFF
  let bits := xoffBits cc
  let new := if on then Nat.lor old bits else Nat.land old (0xFF - bits)
  if old = new then s
  else
    let s1 := (s.setF d (SWC_PpOCC p) SWC_PpOCC__XOFF new)
    if p < 24 then
      let s2 := s1.setF d (MAC_PAUSEST p) MAC_PAUSEST__XOFF new
      if s.fld d (MAC_CFG p) MAC_CFG__FCMODE = 0 then s2
      else s2.updMac d p (fun m => { m with ctl := (m.ctl.map (fun e => (e.1 - Nat.land e.1 bits, e.2))).filter (fun e => decide (e.1 ≠ 0)) ++
          [(bits, on)] })
    else s1

/-- A charge changed, with the total shown. -/
def State.charge (s : State) (d : Die) (p cc : Nat) (f : Nat → Nat) : State :=
  let old := tget 0 (s.swc d).charges (p * 9 + cc)
  let new := f old
  (s.updSwc d (fun x => { x with charges := tset 0 x.charges (p * 9 + cc) new })).setF d (SWC_PpOCC p) SWC_PpOCC__BYTES
    (s.fld d (SWC_PpOCC p) SWC_PpOCC__BYTES + new - old)

/-- What P26 of a die holds reserved once no frame is on the pair link: the cells of the frames received (R442, R448). -/
def State.keepReserved (s : State) (d : Die) : State :=
  s.charge d 26 8 (fun _ => ((s.swc d).p26.map (fun f => cells (f.bytes.length + 4))).sum)

/-- The thresholds of a port in bytes. -/
def State.xoffAt (s : State) (d : Die) (p : Nat) : Nat := 256 * s.fld d (SWC_PpQUOTA p) SWC_PpQUOTA__XOFF
def State.xonAt (s : State) (d : Die) (p : Nat) : Nat := 256 * s.fld d (SWC_PpQUOTA p) SWC_PpQUOTA__XON

/-- A pause-violation discard (R439): counted, recorded at most once per port in 100 ms. -/
def State.pauseViolation (s : State) (d : Die) (p : Nat) : State :=
  let s1 := s.addSat d (SWC_PpPVD p) ⟨0, 32⟩ 1
  let now := s.ns d
  match tget none (s.swc d).pvdAt p with
  | some t => if now < t + 100000000 then s1 else
      (s1.updSwc d (fun x => { x with pvdAt := tset none x.pvdAt p (some now) })).record d 0x0C00 0x0A p 0
        (s1.rd d (SWC_PpPVD p)).toNat
  | none =>
      (s1.updSwc d (fun x => { x with pvdAt := tset none x.pvdAt p (some now) })).record d 0x0C00 0x0A p 0
        (s1.rd d (SWC_PpPVD p)).toNat

/-- Admission of a frame to the egress memory (R439, R441, R442): whether it is admitted, with the state after. -/
def State.admitFrame (s : State) (d : Die) (p cls len : Nat) : Bool × State :=
  let cc := s.chargeClass d p cls
  let now := tget 0 (s.swc d).charges (p * 9 + cc)
  let c := cells len
  let xoff := s.xoffAt d p
  if s.backs d p cc then
    if p < 24 ∧ xoff + s.fld d (SWC_PpHEAD p) SWC_PpHEAD__H < now + c then (false, s.pauseViolation d p)
    else
      let s1 := s.charge d p cc (· + c)
      (true, if xoff ≤ now + c then s1.setXoff d p cc true else s1)
  else if xoff < now + c then (false, s.addSat d (SWC_PpQD p) ⟨0, 32⟩ 1)
  else (true, s.charge d p cc (· + c))

/-- A stored frame's memory freed: its charge falls, and XOFF ends where the charge is subject to it and stands at XON or below (R438,
R439). A field-bus frame leaves its pool (R449). -/
def State.freeFrame (s : State) (d : Die) (f : SwFrame) : State :=
  let s1 := s.updSwc d (fun x => { x with frames := x.frames.filter (fun g => decide (g.id ≠ f.id)) })
  if 32 ≤ f.ingress then s1.updSwc d (fun x => { x with pool := x.pool - cells f.len })
  else
    let cc := s1.chargeClass d f.ingress f.cls
    let s2 := s1.charge d f.ingress cc (fun n => n - cells f.len)
    if s2.backs d f.ingress cc = true ∧ tget 0 (s2.swc d).charges (f.ingress * 9 + cc) ≤ s2.xonAt d f.ingress then
      s2.setXoff d f.ingress cc false
    else s2

/-- One reference of a stored frame given up (R426). -/
def State.unref (s : State) (d : Die) (id : Nat) : State :=
  match (s.swc d).frames.find? (fun f => decide (f.id = id)) with
  | none => s
  | some f =>
    if f.refs ≤ 1 then s.freeFrame d f
    else s.updSwc d (fun x => { x with frames := x.frames.map (fun g => if g.id = id then { g with refs := g.refs - 1 } else g) })

/-- A frame taken out of a queue and unreferenced; a positive credit of a queue that empties is 0 (R454). -/
def State.dequeue (s : State) (d : Die) (key id : Nat) : State :=
  let left := (tget [] (s.swc d).queues key).filter (fun i => decide (i ≠ id))
  (s.updSwc d (fun x => { x with
    queues := tset [] x.queues key left
    credits := if left = [] then tupd (0, 0) x.credits key (fun c => (min c.1 0, c.2)) else x.credits })).unref d id

/-- A frame with its stored number. -/
def State.frameOf (s : State) (d : Die) (id : Nat) : Option SwFrame :=
  (s.swc d).frames.find? (fun f => decide (f.id = id))

/-- The queue keys: port × 8 + class, and 256 + partition × 8 + ring for P24. -/
def portQ (p cls : Nat) : Nat := p * 8 + cls
def ringQ (part q : Nat) : Nat := 256 + part * 8 + q

/-- The rx queue of a frame: 7 for field-bus, control and bad frames, else its class (R430, R433, R449). -/
def SwFrame.ring (f : SwFrame) : Nat := if f.field then 7 else f.cls

/-! ### Forwarding (R430 to R434) -/

/-- A big-endian number of a frame's bytes. -/
def be (l : List Byte) (i n : Nat) : Nat := leBytes ((l.drop i).take n).reverse 0 n

/-- Addresses of a frame as little-endian numbers with byte 0 lowest, and its outer EtherType. -/
def dstOf (l : List Byte) : Nat := leBytes l 0 6
def srcOf (l : List Byte) : Nat := leBytes l 6 6
def etherOf (l : List Byte) : Nat := be l 12 2

/-- The bytes of a frame without its outer tag. -/
def untagged (l : List Byte) : List Byte := if etherOf l = 0x8100 then l.take 12 ++ l.drop 16 else l

/-- The EtherType behind at most one tag. -/
def innerEther (l : List Byte) : Nat := etherOf (untagged l)

/-- VLAN classification at a port (R431): VID and PCP, none for a frame the acceptance mode or membership refuses. -/
def State.classify (s : State) (d : Die) (p : Nat) (l : List Byte) : Option (Nat × Nat) :=
  let mode := s.fld d (SWC_PpCFG p) SWC_PpCFG__ACCEPT
  let tci := be l 14 2
  let isTag := decide (etherOf l = 0x8100)
  let vtag := isTag && decide (tci % 4096 ≠ 0)
  let vid := if vtag then tci % 4096 else s.fld d (SWC_PpCFG p) SWC_PpCFG__PVID
  let pcp := if isTag then tci / 8192 else s.fld d (SWC_PpCFG p) SWC_PpCFG__DPCP
  if vid = 4095 ∨ !bitOf (s.vlanOf d vid).1 p ∨ (mode = 1 ∧ vtag = false) ∨ (mode = 2 ∧ vtag = true) then none
  else some (vid, pcp)

/-- The class of a PCP at a port. -/
def State.classOf (s : State) (d : Die) (p pcp : Nat) : Nat := s.fld d (SWC_PpPCPMAP p) SWC_PpPCPMAP__MAP / 8 ^ pcp % 8

/-- Partitions whose host queue record sets FLOOD. -/
def State.flooded (s : State) (d : Die) : Nat :=
  maskOf ((List.range 32).filter (fun p => s.bit d (SWC_HpFLAGS p) SWC_HpFLAGS__FLOOD))

/-- The destinations of a frame (R433): ports and a partition mask, after the removals; P25 only when an entry names
it. -/
def State.destinations (s : State) (d : Die) (ingress : Nat) (dst vid : Nat) : List Nat × Nat :=
  let member := (s.vlanOf d vid).1
  let keep := fun (p : Nat) => decide (p ≠ ingress) && bitOf member p
  match (s.swc d).fdbFind dst vid with
  | some i =>
    let v := tget 0 (s.swc d).fdb i
    if fdbMc v then
      (((List.range 26).filter (fun p => decide (p ≠ 24) && bitOf (fdbPmask v) p && keep p)),
        if bitOf (fdbPmask v) 24 && keep 24 then fdbPartMask v else 0)
    else if fdbPort v = 24 then ([], if keep 24 then 2 ^ fdbPart v else 0)
    else (if keep (fdbPort v) then [fdbPort v] else [], 0)
  | none => ((List.range 24).filter keep, if keep 24 then s.flooded d else 0)

/-- Whether a partition has a receive ring. -/
def State.hasRing (s : State) (d : Die) (part q : Nat) : Bool := s.bit d (SWC_HpqGEOM part q) SWC_HpqGEOM__USED

/-- A frame given to the fabric with the next number of the core and of the sequence of its ingress (R424). -/
def State.toFabric (s : State) (d : Die) (f : SwFrame) : State :=
  s.updSwc d (fun x => { x with
    fabric := x.fabric ++ [{ f with id := x.next, seq := tget 0 x.seqs f.ingress }], next := x.next + 1
    seqs := tupd 0 x.seqs f.ingress (· + 1) })

/-- A frame admitted under its ingress port's quota and given to the fabric. -/
def State.intake (s : State) (d : Die) (f : SwFrame) : State :=
  let r := s.admitFrame d f.ingress f.cls f.len
  if r.1 then r.2.toFabric d f else r.2

/-- The bytes a MAC sends: padded to 60 before the FCS (R394). -/
def padded (l : List Byte) : List Byte := l ++ List.replicate (60 - l.length) 0#8

/-- A frame with its FCS as a MAC sends it. -/
def macFrame (l : List Byte) : MacFrame := { len := (padded l).length + 4, fcs := crc32 (padded l), bytes := padded l }

/-- A gPTP message of type `kind` queued for a port with a link. -/
def State.queueGptp (s : State) (d : Die) (p kind q : Nat) (fields : List Int) (follow : Option (Nat × Nat)) : State :=
  if !(s.port p).link then s
  else s.updMac d p (fun m => { m with unit := m.unit ++ [{ macFrame (Config.gptpFrame kind p q fields) with follow := follow }] })

/-- The sequence identifier of the next message of a type on a port, which the other die learns with the copy of the message (R472). -/
def State.nextGptp (s : State) (d : Die) (p kind : Nat) : Nat × State :=
  let key := p * 16 + kind
  let q := (tget 0 (s.vol.get d).tim.seqs key + 1) % 65536
  let put := fun (st : State) (e : Die) => st.updVol e (fun v => { v with tim := { v.tim with seqs := tset 0 v.tim.seqs key q } })
  let s1 := put s d
  (q, if s1.linkUp && s1.alive d.other then put s1 d.other else s1)

/-- A gPTP frame that the MAC hands to the time unit (R430 step 2). A Management message, and a path delay message of another domain, are
discarded and counted (R469); a Pdelay_Req of a T1 port is answered by the time-active die, with its ingress stamp at the MDI (R470, R471),
but on a port with state 0, which is no gPTP port (R496).
The other messages act by the commands of the time unit. -/
def State.gptpArrive (s : State) (d : Die) (p stamp : Nat) (l : List Byte) : State :=
  let kind := be l 14 1 % 16
  let delayMsg := decide (kind = 2 ∨ kind = 3 ∨ kind = 10)
  if kind = 13 ∨ (delayMsg = true ∧ be l 18 1 ≠ 0) then s.addSat d TIM_DISC ⟨0, 32⟩ 1
  else if kind = 2 ∧ !isSb p ∧ s.swActive d ∧ (tget {} (s.vol.get d).tim.ports p).state ≠ 0 then
    s.queueGptp d p 3 (be l 44 2) [(stamp : Int) - (s.rd d (MAC_DLY p)).toNat % 2 ^ 16] (some (10, be l 44 2))
  else s

/-- The steps 2 to 5 of R430 for a good frame of a port with its bytes without FCS; `part` is the sending partition of a
type 0 frame of P24. A partition without the ring of the frame's class is no destination (R465). -/
def State.forward (s : State) (d : Die) (p part stamp len fcs : Nat) (l : List Byte) (cls : Option Nat) : State :=
  let group := s.fld d ZGP_CFG ZGP_CFG__ETYPE
  if p < 24 ∧ etherOf l = 0x88F7 ∧ dstOf l = 0x0E0000C28001 then s.gptpArrive d p stamp l
  else if p < 24 ∧ dstOf l % 2 ^ 40 = 0x0000C28001 ∧ dstOf l / 2 ^ 40 < 16 then
    if !s.hasRing d (s.fld d (MAC_CFG p) MAC_CFG__PART) 7 then s.addSat d (SWC_PpFILT p) ⟨0, 32⟩ 1
    else s.intake d ⟨0, p, 7, stamp, len, fcs, 0, l, none, [], 2 ^ s.fld d (MAC_CFG p) MAC_CFG__PART, 0, true, 0⟩
  else if p < 24 ∧ group ≠ 0 ∧ innerEther l = group then s
  else match s.classify d p l with
    | none => s.addSat d (SWC_PpFILT p) ⟨0, 32⟩ 1
    | some (vid, pcp) =>
      let s1 := s.learn d p part (srcOf l) vid
      let c := cls.getD (s.classOf d p pcp)
      let acf := decide (p < 24) && decide (innerEther l = 0x22F0) && s.bit d (SGW_AkCFG p) SGW_AkCFG__RXEN
      let all := s1.destinations d p (dstOf l) vid
      let dst := (all.1, maskOf ((List.range 32).filter (fun k => bitOf all.2 k && s1.hasRing d k c)))
      let ports := if acf && !dst.1.contains 25 then dst.1 ++ [25] else dst.1
      let s2 := if dst.1 = [] ∧ dst.2 = 0 then s1.addSat d (SWC_PpFILT p) ⟨0, 32⟩ 1 else s1
      if ports = [] ∧ dst.2 = 0 then s2
      else s2.intake d ⟨0, p, c, stamp, len, fcs, 0, untagged l, some (vid, pcp), ports, dst.2, 0, false, 0⟩

/-- The bytes of a frame as it leaves a port (R434): one tag unless the VID's untag mask has the port. -/
def State.egressBytes (s : State) (d : Die) (p : Nat) (f : SwFrame) : List Byte :=
  match f.tag with
  | none => f.bytes
  | some (vid, pcp) =>
    if bitOf (s.vlanOf d vid).2 p then f.bytes
    else f.bytes.take 12 ++ toBE 2 0x8100 ++ toBE 2 (pcp * 8192 + vid) ++ f.bytes.drop 12

/-- Whether a frame exceeds 2,000 bytes once it is tagged for a port (R434). -/
def State.oversize (s : State) (d : Die) (p : Nat) (f : SwFrame) : Bool :=
  f.tag.isSome && decide (2000 < (s.egressBytes d p f).length + 4)

/-! ### Host port (R446 to R450) -/

/-- The ring index distance. -/
def ringGap (head tail : Word) : Nat := (tail - head).toNat

/-- The type code of a stored frame: 2 for a field-bus frame. -/
def SwFrame.hostType (f : SwFrame) : Nat := if 32 ≤ f.ingress then 2 else 0

/-- A bad frame delivered is counted (R416). -/
def State.badDelivered (s : State) (d : Die) (f : SwFrame) : State :=
  if f.ingress < 24 ∧ f.err ≠ 0 then s.macCount d f.ingress 21 else s

/-- A frame written into a partition's receive ring of one die (R449): header and data, RXTAIL, its event. A slot the
guard refuses sets DENY. -/
def State.hostWrite (s : State) (d : Die) (part q : Nat) (f : SwFrame) : State :=
  let geom := s.rd d (SWC_HpqGEOM part q)
  let slot := 2 ^ SWC_HpqGEOM__RXS.get geom
  let tail := (s.rd d (SWC_HpqRXTAIL part q)).toNat
  let a := (s.rd d (SWC_HpqRXB part q)).toNat * 4096 + tail % 2 ^ SWC_HpqGEOM__RXN.get geom * slot
  let data := s.egressBytes d 24 f
  let kept := data.take (slot - 32)
  let trunc := if slot - 32 < data.length then 16 else 0
  let n := tget 0 (s.swc d).written (part * 8 + q)
  let hdr := toLE 2 kept.length ++ toLE 1 f.hostType ++ toLE 1 (Nat.lor f.err trunc) ++ toLE 1 f.ingress ++ toLE 1 f.cls ++
    toLE 2 data.length ++ toLE 8 f.stamp ++ toLE 4 n ++ List.replicate 12 0#8
  let t : Tags := { init := 3, part := part }
  if s.memAdmits d a (32 + kept.length) t .write then
    ((((s.dmaPut d a (hdr ++ kept)).wr d (SWC_HpqRXTAIL part q) (BitVec.ofNat 32 (tail + 1))).updSwc d (fun x =>
      { x with written := tset 0 x.written (part * 8 + q) ((n + 1) % 2 ^ 32) })).fire d (0x200 + 8 * part + q)).badDelivered d f
  else (s.memRefuse d a t .write).setF d (SWC_HpqSTAT part q) SWC_HpqSTAT__DENY 1

/-- Whether a partition's receive ring has a free slot. -/
def State.ringFree (s : State) (d : Die) (part q : Nat) : Bool :=
  s.hasRing d part q &&
    decide (ringGap (s.rd d (SWC_HpqRXHEAD part q)) (s.rd d (SWC_HpqRXTAIL part q)) <
      2 ^ s.fld d (SWC_HpqGEOM part q) SWC_HpqGEOM__RXN)

/-! ### The feed (R457, R458) -/

/-- A feed entry sent to the standby; the frame it names waits for the acknowledgement. -/
def State.sendFeed (s : State) (d : Die) (port part ring : Nat) (f : SwFrame) : State :=
  let e : FeedEntry := ⟨port, part, ring, f.cls, f.ingress, f.len, f.fcs, s.serial 8, f.id, false⟩
  ((s.updSwc d (fun x => { x with awaiting := x.awaiting ++ [e] })).incWrap d SWC_FEED ⟨0, 32⟩).plSend d 3 (.feed e)

/-- Whether a feed entry of the core that was active before names a port of this die and has not been taken: the port is not selected
for (R460). -/
def State.feedDue (s : State) (d : Die) (p : Nat) : Bool :=
  (s.swc d).feedIn.any (fun e => decide (e.port = p)) ||
    (s.link.get d.other).waiting.any (fun f => match f.body with | .feed e => decide (e.port = p) | _ => false)

/-- Waiting frames of a partition's ring: the active core feeds the first and writes it when the feed is acknowledged, or, while no feed
is sent, writes as many as find a free slot and waits for no acknowledgement (R450, R457). `n` bounds the frames. -/
def State.hostTry (s : State) (d : Die) (part q : Nat) : Nat → State
  | 0 => s
  | n + 1 =>
    let mine := fun (e : FeedEntry) => decide (e.port = 24 ∧ e.part = part ∧ e.ring = q)
    match (tget [] (s.swc d).queues (ringQ part q)).head?.bind (s.frameOf d) with
    | none => s
    | some f =>
      if !(s.swActive d && s.ringFree d part q) || s.feedDue d 24 then s
      else if s.feeds d then (if (s.swc d).awaiting.any mine then s else s.sendFeed d 24 part q f)
      else (((s.updSwc d (fun x => { x with awaiting := x.awaiting.filter (fun e => !mine e) })).hostWrite d part q f).dequeue d
        (ringQ part q) f.id).hostTry d part q n

/-- Every frame that can move into a partition's ring moves. -/
def State.hostMove (s : State) (d : Die) (part q : Nat) : State :=
  s.hostTry d part q (tget [] (s.swc d).queues (ringQ part q)).length

/-! ### Placing frames (R425, R445, R452) -/

/-- A frame of P25 given to the nib streams of its die (R452): the frame without FCS. -/
def State.toNibs (s : State) (d : Die) (f : SwFrame) : State :=
  let src := if f.ingress = 24 then 0x118 else 0x100 + f.ingress
  (List.range 8).foldl (fun st c => st.streamIn d c src f.stamp (s.egressBytes d 25 f) (decide (f.err ≠ 0))) (s.badDelivered d f)

/-- A complete frame placed in the queue of every destination: an egress port without link counts it, an oversize one
too, P25 takes it into the stream, each receiving partition's ring takes one. -/
def State.place (s : State) (d : Die) (f : SwFrame) : State :=
  let outs := f.ports ++ (if f.parts = 0 then [] else [24])
  let bad := fun (p : Nat) => (decide (p < 24) && !(s.port p).link) || s.oversize d p f
  let s0 := if f.ports.contains 25 && !bad 25 then s.toNibs d f else s
  let s1 := (outs.filter bad).foldl (fun st p => st.addSat d (SWC_PpLD p) ⟨0, 32⟩ 1) s0
  let go := f.ports.filter (fun p => decide (p < 24) && !bad p)
  let rings := (List.range 32).filter (fun p => bitOf f.parts p && s.hasRing d p f.ring && !bad 24)
  let n := go.length + rings.length
  if n = 0 then s1.freeFrame d f
  else
    let s2 := s1.updSwc d (fun x => { x with frames := x.frames ++ [{ f with refs := n }] })
    let push := fun (st : State) (key : Nat) => st.updSwc d (fun x => { x with
      queues := tupd [] x.queues key (fun l => l ++ [f.id]) })
    let now := s.ns d
    let wake := fun (st : State) (key : Nat) =>
      if tget [] (st.swc d).queues key = [] then st.updSwc d (fun x => { x with
        credits := tupd (0, 0) x.credits key (fun c => (c.1, max c.2 now)) }) else st
    let s3 := go.foldl (fun st p => push (wake st (portQ p f.cls)) (portQ p f.cls)) s2
    let s4 := rings.foldl (fun st p => push st (ringQ p f.ring)) s3
    rings.foldl (fun st p => st.hostMove d p f.ring) s4

/-! ### Frames of nibs (R321, R322, R451) -/

/-- The MAC address of a port as six bytes. -/
def State.portAddr (s : State) (d : Die) (p : Nat) : List Byte :=
  toLE 4 (s.rd d (MAC_ADDRL p)).toNat ++ toLE 2 (s.rd d (MAC_ADDRH p)).toNat

/-- An ACF message (R322; layouts of IEEE 1722-2016) of a PDU entry with its payload and stamp. -/
def acfBuild (v stamp : Nat) (data : List Byte) : List Byte :=
  let fill := (4 - data.length % 4) % 4
  let flagsCan := fill * 64 + 32 + 8 * b2n (pIde v) + 4 * b2n (pBrs v) + 2 * b2n (pFdf v)
  let len := fun (h : Nat) => (h + data.length + fill) / 4
  let tail := data ++ List.replicate fill 0#8
  match pAcf v with
  | 0 => toBE 2 (1 * 512 + len 16) ++ toBE 1 flagsCan ++ toBE 1 (pBus v) ++ toBE 8 stamp ++ toBE 4 (pIdent v) ++ tail
  | 1 => toBE 2 (2 * 512 + len 8) ++ toBE 1 (flagsCan - 32) ++ toBE 1 (pBus v) ++ toBE 4 (pIdent v) ++ tail
  | _ => toBE 2 (3 * 512 + len 12) ++ toBE 1 (fill * 64 + 32 + pBus v) ++ toBE 1 (pIdent v) ++ toBE 8 stamp ++ tail

/-- The Ethernet frame of an ACF PDU (R322): addresses, an optional tag, one NTSCF or TSCF header and one message. -/
def State.acfFrame (s : State) (d : Die) (v seq stamp : Nat) (data : List Byte) : List Byte :=
  let p := pPort v
  let dst := toBE 2 (s.fld d (SGW_AkDAH p) SGW_AkDAH__DA) ++ toBE 4 (s.rd d (SGW_AkDAL p)).toNat
  let vid := s.fld d (SGW_AkDAH p) SGW_AkDAH__VID
  let tag := if vid = 0 then [] else toBE 2 0x8100 ++ toBE 2 (s.fld d (SGW_AkDAH p) SGW_AkDAH__PCP * 8192 + vid)
  let sid := toBE 4 (s.rd d (SGW_AkSIDH p)).toNat ++ toBE 4 (s.rd d (SGW_AkSIDL p)).toNat
  let msg := acfBuild v stamp data
  let hdr := if s.bit d (SGW_AkCFG p) SGW_AkCFG__TSCF then
      toBE 1 0x05 ++ toBE 1 0x81 ++ toBE 1 seq ++ toBE 1 0 ++ sid ++ toBE 4 (stamp % 2 ^ 32) ++ toBE 4 0 ++
        toBE 2 msg.length ++ toBE 2 0
    else toBE 1 0x82 ++ toBE 2 (0x8000 + msg.length) ++ toBE 1 seq ++ sid
  dst ++ s.portAddr d p ++ tag ++ toBE 2 0x22F0 ++ hdr ++ msg

/-- The PCP of a frame's tag, or the default of P25. -/
def State.nibClass (s : State) (d : Die) (l : List Byte) : Nat :=
  s.classOf d 25 (if etherOf l = 0x8100 then be l 14 2 / 8192 else s.fld d (SWC_PpCFG 25) SWC_PpCFG__DPCP)

/-- A kind-1 item as a frame for its port (R451, R322): its class and bytes, none for a layout that is broken. -/
def State.nibFrame (s : State) (d : Die) (i : TxItem) : Option (Nat × List Byte) :=
  match i.pdu with
  | some v =>
    let l := s.acfFrame d v (pTxSeq v % 256) i.stamp (i.bytes.drop 4)
    some (s.nibClass d l, l)
  | none =>
    let w := u32 i.bytes 0
    let len := w % 2048
    if 14 ≤ len ∧ len ≤ 1996 ∧ w / 2 ^ 14 = 0 ∧ i.bytes.length = 4 + len then some (w / 2 ^ 11 % 8, i.bytes.drop 4)
    else none

/-- A credit returned to the nib that sent an item, as a silent entry of source 0x0600 (R241). -/
def State.creditBack (s : State) (d : Die) (c k box : Nat) : State :=
  s.streamIn d c 0x600 (s.ns d) [BitVec.ofNat 8 k, BitVec.ofNat 8 box] false

/-- The core takes the oldest kind-1 items while its charge of P25 stays within XOFF; each credit returns (R442). A
broken item is discarded and counted. `n` bounds the items taken. -/
def State.takeNibItems (s : State) (d : Die) : Nat → State
  | 0 => s
  | n + 1 =>
    match (s.vol.get d).gw.items.find? (fun i => decide (i.kind = 1)) with
    | none => s
    | some i =>
      let drop := fun (st : State) =>
        (st.updVol d (fun v => { v with gw := { v.gw with items := v.gw.items.erase i } })).creditBack d i.cluster i.nib i.box
      match s.nibFrame d i with
      | none => ((drop s).addSat d SGW_BADITEM SGW_BADITEM__COUNT 1).takeNibItems d n
      | some (cls, l) =>
        let len := l.length + 4
        if s.xoffAt d 25 < tget 0 (s.swc d).charges (25 * 9 + 8) + cells len then s
        else ((drop s).intake d ⟨0, 25, cls, i.stamp, len, crc32 l, 0, l, none, [i.target], 0, 0, false, 0⟩).takeNibItems d n

end Sys2Proof.Machine
end

