-- ==== Sys2Proof/Machine/FieldOps.lean ====
section
/-! DEFINITION. Field-bus controllers (spec/09): who drives a transmit line, error state, queues, what the items of nibs and
partitions become, delivery to nibs and partitions, and the comparison a shadow controller makes. -/

namespace Sys2Proof.Machine

/-! ### State access -/

/-- A controller instance of a die (0 to 15 CAN, 16 to 27 LIN), and a change of it. -/
def State.fb (s : State) (d : Die) (i : Nat) : FbCtl := tget {} (s.vol.get d).fb i
def State.updFb (s : State) (d : Die) (i : Nat) (f : FbCtl → FbCtl) : State :=
  s.updVol d (fun v => { v with fb := tupd {} v.fb i f })

/-- A register field set on every running die. -/
def State.setAlive (s : State) (off : Nat) (f : Fld) (x : Nat) : State :=
  let s0 := if s.alive 0 then s.setF 0 off f x else s
  if s0.alive 1 then s0.setF 1 off f x else s0

/-- The deliveries an instance allows: bit 0 nibs, bit 1 partition. -/
def State.fbDeliv (s : State) (d : Die) (i : Nat) : Nat :=
  if i < 16 then s.fld d (FBB_CcCFG i) FBB_CcCFG__DELIV else s.fld d (FBB_CcCFG i) FBB_LlCFG__DELIV

/-- The die that an instance's owner is on, as die `d` boots: the holder of its cluster's token, or its partition's home, which is
`d` where the other die is absent (R42, R362). -/
def State.fbOwnerDie (s : State) (d : Die) (i : Nat) : Die :=
  if s.fbByPart d i then (if s.canRelease d.other then s.homeDie (s.fbPart d i) else d) else s.holder (s.fbCluster d i)

/-- Whether an initiator may command an instance (R388). -/
def State.mayField (s : State) (d : Die) (who : Initiator) (i : Nat) : Bool :=
  who.isManager || (s.fbByPart d i &&
    (match who with | .part p => decide (p.val = s.fbPart d i) | .sealed p => decide (p.val = s.fbPart d i) | _ => false))

/-- An item or frame dropped by a controller: counted, with its event bit. -/
def State.fbDrop (s : State) (d : Die) (i : Nat) : State :=
  (s.addSat d (FBB_CcDROP i) ⟨0, 32⟩ 1).setF d (FBB_CcEVT i) FBB_CcEVT__DROP 1

/-- The credit of a queued frame returned. -/
def State.fbCredit (s : State) (d : Die) (credit : Option (Nat × Nat × Nat)) : State :=
  match credit with
  | some (c, k, box) => s.creditBack d c k box
  | none => s

/-- A shadow controller restarted: its queues are discarded, and matching goes on with the next frame (R737). -/
def State.fbRestart (s : State) (d : Die) (i : Nat) : State :=
  (s.fb d i).nibQ.foldl (fun st x => st.fbCredit d x.credit) (s.updFb d i (fun x => { x with nibQ := [], partQ := [] }))

/-- A disagreement noted against an object of a die: whether it is the `n`th within 1 s, with which the count begins again (R737). -/
def State.nthMiss (s : State) (d : Die) (key n : Nat) : Bool × State :=
  let now := s.ns d
  let l := now :: (tget [] (s.vol.get d).flt.misses key).filter (fun t => decide (now < t + 1000000000))
  let hit := decide (n ≤ l.length)
  (hit, s.updVol d (fun v => { v with flt := { v.flt with misses := tset [] v.flt.misses key (if hit then [] else l) } }))

/-- A mismatch of a shadow controller: counted, with its event bit and a record of class 0x06 on each die (R363); the eighth within
1 s restarts the controller (R737). -/
def State.fbMismatch (s : State) (d : Die) (i : Nat) : State :=
  let q := s.nthMiss d i 8
  let s := if q.1 then q.2.fbRestart d i else q.2
  ((s.addSat d (FBB_CcMIS i) ⟨0, 32⟩ 1).setF d (FBB_CcEVT i) FBB_CcEVT__MISMATCH 1).recordBoth 0x0A00 0x06 i 0 0

/-! ### Error state of a CAN controller (R366) -/

/-- Whether a controller takes part in bus traffic: integrating, error active or error passive. -/
def State.canOn (s : State) (d : Die) (c : Nat) : Bool :=
  decide (1 ≤ s.fld d (FBB_CcSTAT c) FBB_CcSTAT__STATE ∧ s.fld d (FBB_CcSTAT c) FBB_CcSTAT__STATE ≤ 3)

/-- State, TEC and REC of a controller, which the field die forwards to both dies. -/
def State.setCan (s : State) (c st tec re : Nat) : State :=
  ((s.setAlive (FBB_CcSTAT c) FBB_CcSTAT__STATE st).setAlive (FBB_CcSTAT c) FBB_CcSTAT__TEC (satTo 255 tec)).setAlive
    (FBB_CcSTAT c) FBB_CcSTAT__REC (satTo 255 re)

/-- New counters of the connected controller: error passive above 127, which raises its event when it is reached. -/
def State.canCount (s : State) (c tec re : Nat) : State :=
  let d := (s.fbSel c).die
  let st := if 127 < tec ∨ 127 < re then 3 else 2
  let s1 := s.setCan c st tec re
  if st = 3 ∧ s.fld d (FBB_CcSTAT c) FBB_CcSTAT__STATE ≠ 3 then s1.setAlive (FBB_CcEVT c) FBB_CcEVT__EPASS 1 else s1

/-- The counters of the connected controller after a frame received or sent, well or in error (ISO 11898-1). -/
def State.canResult (s : State) (c : Nat) (sent good : Bool) : State :=
  let d := (s.fbSel c).die
  let tec := s.fld d (FBB_CcSTAT c) FBB_CcSTAT__TEC
  let re := s.fld d (FBB_CcSTAT c) FBB_CcSTAT__REC
  if sent then s.canCount c (if good then tec - 1 else tec + 8) re
  else s.canCount c tec (if good then (if 127 < re then 127 else re - 1) else re + 1)

/-! ### Items (R321, R322, R370, R374) -/

/-- Whether a CAN frame keeps the layout of R370 and fits the controller's mode. -/
def State.canFits (s : State) (d : Die) (c : Nat) (f : CanFrame) : Bool :=
  let mode := s.fld d (FBB_CcCFG c) FBB_CcCFG__MODE
  let n := f.data.length
  decide (mode ≠ 0) && (!f.fdf || decide (2 ≤ mode)) && (!f.xlf || (decide (mode = 3) && !f.ide)) &&
  decide (f.ident < if f.ide then 2 ^ 29 else 2 ^ 11) && (f.xlf || decide (f.af = 0)) &&
  (!f.fdf || fdLength n) && (!f.xlf || decide (1 ≤ n ∧ n ≤ 2040)) && (f.fdf || f.xlf || decide (n ≤ 8))

/-- The CAN frame of a PDU entry, SDT, VCID and acceptance field from the controller record (R322, R370). -/
def State.pduFrame (s : State) (d : Die) (c v : Nat) (data : List Byte) : CanFrame :=
  let x := pXlf v
  { ident := pIdent v, ide := pIde v, fdf := pFdf v, xlf := x, brs := pBrs v,
    sdt := if x then s.fld d (FBB_CcXDEF c) FBB_CcXDEF__SDT else 0,
    vcid := if x then s.fld d (FBB_CcXDEF c) FBB_CcXDEF__VCID else 0,
    af := if x then (s.rd d (FBB_CcXAF c)).toNat else 0, data := data }

/-- The CAN frame of a raw item; none where the layout of R370 is broken. -/
def rawCan (l : List Byte) : Option CanFrame :=
  let w0 := u32 l 0
  let w1 := u32 l 4
  if 12 ≤ l.length ∧ w0 < 2 ^ 31 ∧ l.length = 12 + w1 % 2 ^ 11 ∧ w1 / 2 ^ 13 % 8 = 0 then
    some { ident := w0 % 2 ^ 29, ide := bitOf w0 29, fdf := bitOf w0 30, xlf := bitOf w1 12, brs := bitOf w1 11,
           sdt := w1 / 2 ^ 16 % 256, vcid := w1 / 2 ^ 24, af := u32 l 8, data := l.drop 12 }
  else none

/-- The identifier and data of a raw LIN item; none where the layout of R374 is broken. -/
def rawLin (l : List Byte) : Option (Nat × List Byte) :=
  let n := u32 l 4
  if 8 ≤ l.length ∧ u32 l 0 < 64 ∧ 1 ≤ n ∧ n ≤ 8 ∧ l.length = 8 + n then some (u32 l 0, l.drop 8) else none

/-- A CAN frame queued for transmission, in the queue of nib items (with its credit) or of partition frames. -/
def State.canQueue (s : State) (d : Die) (c : Nat) (f : CanFrame) (credit : Option (Nat × Nat × Nat)) : State :=
  match credit with
  | some _ => s.updFb d c (fun x => { x with nibQ := x.nibQ ++ [⟨f, credit, x.queued⟩], queued := x.queued + 1 })
  | none =>
    if 16 ≤ (s.fb d c).partQ.length then s.fbDrop d c
    else s.updFb d c (fun x => { x with partQ := x.partQ ++ [⟨f, none, x.queued⟩], queued := x.queued + 1 })

/-- Response data of a LIN identifier written (R374). The response of a slot that runs is in `sending` and goes out whole. -/
def State.linWrite (s : State) (d : Die) (i ident : Nat) (data : List Byte) : State :=
  s.updFb d i (fun x => { x with resp := tset none x.resp ident (some data) })

/-- A kind-2 item of a nib reaches its controller (R321, R370, R374): a CAN frame waits with its credit, LIN data is
taken at once, and an item that breaks its layout or does not fit the mode is dropped. -/
def State.toController (s : State) (d : Die) (i : TxItem) : State :=
  let t := i.target
  let credit := some (i.cluster, i.nib, i.box)
  let drop := (s.fbDrop d t).fbCredit d credit
  if t < 16 then
    let f := match i.pdu with
      | some v => some (s.pduFrame d t v (i.bytes.drop 4))
      | none => rawCan i.bytes
    match f with
    | some f => if s.canFits d t f then s.canQueue d t f credit else drop
    | none => drop
  else if s.fld d (FBB_CcCFG t) FBB_LlCFG__BAUD = 0 then drop
  else
    let w := match i.pdu with
      | some v => some (pIdent v % 64, i.bytes.drop 4)
      | none => rawLin i.bytes
    match w with
    | some (ident, data) => (s.linWrite d t ident data).fbCredit d credit
    | none => drop

/-- A type 2 item of a partition reaches a controller of one die (R365, R446). -/
def State.partItem (s : State) (d : Die) (i : Nat) (bytes : List Byte) : State :=
  if i < 16 then
    match rawCan bytes with
    | some f => if s.canFits d i f then s.canQueue d i f none else s.fbDrop d i
    | none => s.fbDrop d i
  else
    match rawLin bytes with
    | some (ident, data) =>
      if s.fld d (FBB_CcCFG i) FBB_LlCFG__BAUD = 0 then s.fbDrop d i else s.linWrite d i ident data
    | none => s.fbDrop d i

/-! ### Arbitration (R370) -/

/-- The order of identifiers in arbitration: base identifier first, the standard frame before the extended one. -/
def CanFrame.rank (f : CanFrame) : Nat :=
  if f.ide then f.ident / 2 ^ 18 * 2 ^ 19 + 2 ^ 18 + f.ident % 2 ^ 18 else f.ident * 2 ^ 19

/-- The item of the lowest identifier, of equal ones the one queued first, in whichever queue. -/
def bestItem : List CanItem → Option CanItem
  | [] => none
  | x :: l =>
    match bestItem l with
    | some y =>
      if y.frame.rank < x.frame.rank ∨ (y.frame.rank = x.frame.rank ∧ y.order < x.order) then some y else some x
    | none => some x

/-- A queued item out of its queue. -/
def FbCtl.unqueue (y : FbCtl) (x : CanItem) : FbCtl :=
  if x.credit.isSome then { y with nibQ := y.nibQ.erase x } else { y with partQ := y.partQ.erase x }

/-- What of a frame is on the bus and in its CRC: SDT, VCID and acceptance field in a CAN XL frame alone, BRS in a CAN FD frame alone. -/
def CanFrame.wire (f : CanFrame) : CanFrame :=
  { f with brs := f.brs && f.fdf && !f.xlf, sdt := if f.xlf then f.sdt else 0, vcid := if f.xlf then f.vcid else 0,
           af := if f.xlf then f.af else 0 }

/-- Whether a frame on the bus is one that a controller's mode receives (R367; ISO 11898-1), and whether it has the form of its format. -/
def CanFrame.inMode (f : CanFrame) (mode : Nat) : Bool := (!f.fdf || decide (2 ≤ mode)) && (!f.xlf || decide (mode = 3))
def CanFrame.wellFormed (f : CanFrame) : Bool :=
  if f.xlf then decide (1 ≤ f.data.length ∧ f.data.length ≤ 2048) && !f.ide
  else if f.fdf then fdLength f.data.length else decide (f.data.length ≤ 8)

/-! ### Delivery (R318, R369, R376, R449) -/

/-- The payload of a delivered frame: data, zero bytes to a multiple of 8, trailer. -/
def fieldPayload (idw ctl : Nat) (data : List Byte) : List Byte :=
  data ++ List.replicate ((8 - data.length % 8) % 8) 0#8 ++ toLE 4 idw ++ toLE 4 ctl

/-- A frame delivered to a partition: to rx queue 7 of its ring, within the pool of 64 KB (R449); without that ring it is dropped and
counted too. -/
def State.fieldToHost (s : State) (d : Die) (i part stamp : Nat) (payload : List Byte) : State :=
  if 65536 < (s.swc d).pool + cells payload.length ∨ !s.hasRing d part 7 then s.fbDrop d i
  else (s.updSwc d (fun x => { x with pool := x.pool + cells payload.length })).toFabric d
    ⟨0, 32 + i, 7, stamp, payload.length, crc32 payload, 0, payload, none, [], 2 ^ part, 0, true, 0⟩

/-- A frame delivered as `act` says (bit 0 nibs, bit 1 partition), within what the controller allows. -/
def State.fieldDeliver (s : State) (d : Die) (i src stamp act : Nat) (payload : List Byte) (err : Bool) : State :=
  let ok := Nat.land act (s.fbDeliv d i)
  let s1 := if bitOf ok 0 ∧ payload.length ≤ 2048 then
      (List.range 8).foldl (fun st c => st.streamIn d c src stamp payload err) s else s
  if bitOf ok 1 then s1.fieldToHost d i (s1.fbPart d i) stamp payload else s1

/-- The action of the first enabled filter that a CAN frame meets (R369); none where no filter does. -/
def State.filterAct (s : State) (d : Die) (c : Nat) (ident : Nat) (ide xl : Bool) : Option Nat :=
  ((List.range 64).find? (fun f =>
    let a := s.rd d (FBB_CcFAf c f)
    s.bit d (FBB_CcFAf c f) FBB_CcFAf__EN && (s.bit d (FBB_CcFAf c f) FBB_CcFAf__IDE == ide) &&
      (s.bit d (FBB_CcFAf c f) FBB_CcFAf__XL == xl) &&
      decide (Nat.land (Nat.xor ident (FBB_CcFAf__ID.get a)) (s.fld d (FBB_CcFBf c f) FBB_CcFBf__MASK) = 0))).map
    (fun f => s.fld d (FBB_CcFBf c f) FBB_CcFBf__ACT)

/-- A shadow controller meets an OWN frame (R363): the oldest queued frame of its identifier and format is compared and
removed; a difference or no such frame is a mismatch. The frame counts as sent on this die too (R364). -/
def State.canOwn (s : State) (d : Die) (c : Nat) (f : CanFrame) : State :=
  let same := fun (x : CanItem) =>
    decide (x.frame.ident = f.ident ∧ x.frame.ide = f.ide ∧ x.frame.fdf = f.fdf ∧ x.frame.xlf = f.xlf)
  let s1 := s.addSat d (FBB_CcTX c) ⟨0, 32⟩ 1
  match bestItem (((s.fb d c).nibQ ++ (s.fb d c).partQ).filter same) with
  | some x =>
    let s2 := (s1.updFb d c (fun y => y.unqueue x)).fbCredit d x.credit
    if x.frame.wire = f.wire then s2 else s2.fbMismatch d c
  | none => s1.fbMismatch d c

end Sys2Proof.Machine
end

