-- ==== Sys2Proof/Machine/Mac.lean ====
section
/-! DEFINITION. The MACs' shared operations (spec/10) and the selection of frames for them (R453 to R458): counters, pause
state, link loss, steering, shapers and gates, sending and echo. -/

namespace Sys2Proof.Machine

/-! ### Counters (R417, R418) -/

/-- Several counters. -/
def State.macCounts (s : State) (d : Die) (p : Nat) (l : List Nat) : State := l.foldl (fun st i => st.macCount d p i) s

/-- The size counter of a received frame. -/
def sizeBin (n : Nat) : Nat :=
  if n ≤ 64 then 4 else if n ≤ 127 then 5 else if n ≤ 255 then 6 else if n ≤ 511 then 7 else if n ≤ 1023 then 8
  else if n ≤ 1518 then 9 else 10

/-- The offset of the unicast, multicast or broadcast counter of a destination. -/
def castOf (l : List Byte) : Nat := if dstOf l = 2 ^ 48 - 1 then 2 else if bitOf (dstOf l) 0 then 1 else 0

/-- Octets added to a 64-bit counter. -/
def State.addOctets (s : State) (d : Die) (lo hi n : Nat) : State := s.wr64 d lo hi ((s.rd64 d lo hi + n) % 2 ^ 64)

/-- A frame counted as sent (R401, R417): TXOK, its destination kind, PAUSE or PFC, octets. -/
def State.countSent (s : State) (d : Die) (p : Nat) (f : MacFrame) : State :=
  let s1 := s.macCounts d p [24, 25 + castOf f.bytes]
  let s2 := if etherOf f.bytes = 0x8808 then s1.macCount d p (if be f.bytes 14 2 = 1 then 28 else 29) else s1
  s2.addOctets d (MAC_TXOCTL p) (MAC_TXOCTH p) f.len

/-! ### Pause (R410, R411) -/

/-- The duration of a number of bits at a port's rate in ns. -/
def State.bitsNs (s : State) (d : Die) (p bits : Nat) : Nat :=
  bits * 1000000 / portKbps p (s.fld d (MAC_CFG p) MAC_CFG__RATE)

/-- Whether the pause time of a class runs. -/
def State.paused (s : State) (d : Die) (p c : Nat) : Bool :=
  match tfind (s.mac d p).pauseEnd c with
  | some t => decide (s.ns d < t)
  | none => false

/-- The paused classes shown: a class whose pause has ended leaves at once, one newly paused enters once no frame or fragment is being
sent (R410). -/
def State.showPause (s : State) (d : Die) (p : Nat) : State :=
  let now := maskOf ((List.range 8).filter (s.paused d p))
  s.setF d (MAC_PAUSEST p) MAC_PAUSEST__RXPAUSED
    (if (s.mac d p).tx.isSome then Nat.land (s.fld d (MAC_PAUSEST p) MAC_PAUSEST__RXPAUSED) now else now)

/-- A pause of a class set or, with time 0, ended. -/
def State.pauseClass (s : State) (d : Die) (p c quanta : Nat) : State :=
  s.updMac d p (fun m => { m with
    pauseEnd := if quanta = 0 then terase m.pauseEnd c
                else tput m.pauseEnd c (s.ns d + s.bitsNs d p (512 * quanta)) })

/-- A received PAUSE or PFC frame acts (R410). -/
def State.pauseAct (s : State) (d : Die) (p : Nat) (l : List Byte) : State :=
  let s1 := if s.fld d (MAC_CFG p) MAC_CFG__FCMODE = 1 then
      (List.range 8).foldl (fun st c => st.pauseClass d p c (be l 16 2)) s
    else (List.range 8).foldl (fun st c =>
      if bitOf (be l 16 2) c && bitOf (s.fld d (MAC_FC p) MAC_FC__PFCMASK) c then st.pauseClass d p c (be l (18 + 2 * c) 2)
      else st) s
  s1.showPause d p

/-- The PAUSE or PFC frame a MAC sends for classes (R411). -/
def State.ctlFrame (s : State) (d : Die) (p bits : Nat) (on : Bool) : MacFrame :=
  let q := if on then s.fld d (MAC_FC p) MAC_FC__QUANTA else 0
  let head := toBE 6 0x0180C2000001 ++ s.portAddr d p ++ toBE 2 0x8808
  let f := macFrame (if s.fld d (MAC_CFG p) MAC_CFG__FCMODE = 1 then head ++ toBE 2 1 ++ toBE 2 q
    else head ++ toBE 2 0x0101 ++ toBE 2 bits ++
      (List.range 8).flatMap (fun c => toBE 2 (if bitOf bits c then q else 0)))
  { f with ctl := some (bits, on) }

/-! ### Links (R396, R445) -/

/-- A frame discarded from a queue and counted in a register of the port. -/
def State.dropQueued (s : State) (d : Die) (key id off : Nat) : State := (s.dequeue d key id).addSat d off ⟨0, 32⟩ 1

/-- Every frame queued for a port discarded, counted in SWC_PpLD (R445). -/
def State.dropPort (s : State) (d : Die) (p : Nat) : State :=
  (List.range 8).foldl (fun st c =>
    (tget [] (st.swc d).queues (portQ p c)).foldl (fun q id => q.dropQueued d (portQ p c) id (SWC_PpLD p)) st) s

/-- One die's side of a link that drops: pause state, LPI and verification cleared, the frame being sent given up, the
queues discarded (R396, R445). -/
def State.macDown (s : State) (d : Die) (p : Nat) : State :=
  let m := s.mac d p
  let s1 := if m.tx.isSome || m.retry.isSome || m.preempted.isSome then s.macCount d p 41 else s
  let s2 := s1.updMac d p (fun _ => {})
  let s3 := ((s2.wr d (MAC_PAUSEST p) 0#32).setF d (MAC_STAT p) MAC_STAT__LPITX 0).setF d (MAC_STAT p) MAC_STAT__LPIRX 0
  let s4 := (s3.setF d (MAC_STAT p) MAC_STAT__PREACT 0).updSwc d (fun x => { x with
    awaiting := x.awaiting.filter (fun e => decide (e.port ≠ p)) })
  (s4.setF d (MAC_EVT p) MAC_EVT__LINKCHG 1).dropPort d p

/-- Preemption on a link that is up: active at once with VERIFYDIS, else verification starts (R414). -/
def State.macVerify (s : State) (d : Die) (p : Nat) : State :=
  let pre := s.bit d (MAC_CFG p) MAC_CFG__PREEN
  let dis := s.bit d (MAC_CFG p) MAC_CFG__VERIFYDIS
  (s.setF d (MAC_STAT p) MAC_STAT__PREACT (b2n (pre && dis))).updMac d p (fun m => { m with
    verify := if pre && !dis then some 0 else none })

/-- A command of the port that was accepted is done (R419). -/
def State.macCmdDone (s : State) (d : Die) (p : Nat) : State :=
  if s.fld d (MAC_CMDRES p) MAC_CMDRES__RESULT = 1 then s.setF d (MAC_CMDRES p) MAC_CMDRES__RESULT 3 else s

/-- A link that comes up (R395, R414); a retrain is done with it. -/
def State.macUp (s : State) (d : Die) (p : Nat) : State :=
  ((s.macVerify d p).macCmdDone d p).setF d (MAC_EVT p) MAC_EVT__LINKCHG 1

/-- An effect on the state of both running dies. -/
def State.onDies (s : State) (f : State → Die → State) : State :=
  let s0 := if s.alive 0 then f s 0 else s
  if s0.alive 1 then f s0 1 else s0

/-- The link of a port goes down on the port die. -/
def State.linkDown (s : State) (p : Nat) : State :=
  ((s.updPort p (fun x => { x with link := false, sqi := 0 })).onDies (fun st d => st.macDown d p))

/-! ### Sending -/

/-- The frame being sent completes: counted, the pause state takes effect. A frame of several fragments is noted for the echo of the
other die, whose MAC counts them with it (R401). -/
def State.finishTx (s : State) (d : Die) (p : Nat) : State :=
  let m := s.mac d p
  match m.tx with
  | none => s
  | some f =>
    let s1 := s.updMac d p (fun m => { m with
      tx := none, attempts := 0, lastEnd := m.sentAt + s.bitsNs d p (8 * (f.len + 8)),
      done := if f.pre then 0 else m.done, frags := if f.pre then 0 else m.frags })
    let s2 := if f.pre ∧ m.frags ≠ 0 ∧ s.alive d.other then
        s1.updMac d.other p (fun o => { o with fragged := o.fragged ++ [(f.len, f.fcs, m.frags)] }) else s1
    (s2.countSent d p f).showPause d p

/-- The selector of a port moved; the new MAC keeps the LPI of the transmit path (R421). -/
def State.portSwitch (s : State) (p : Nat) (d : Die) (auto : Bool) : State :=
  let e := (s.port p).die
  let lpi := s.fld e (MAC_STAT p) MAC_STAT__LPITX
  let s1 := if e = d then s
    else (s.setF e (MAC_STAT p) MAC_STAT__LPITX 0).setF d (MAC_STAT p) MAC_STAT__LPITX lpi
  (s1.updPort p (fun x => { x with die := d, pend := none, auto := auto })).onDies (fun st e => st.setF e (MAC_EVT p) MAC_EVT__STEER 1)

/-- Steering of a port accepted by the port die (R399): the change waits for a frame boundary, but in LPI it is made at once (R421). -/
def State.portSteer (s : State) (p : Nat) (sender names : Die) (serial : Nat) : State :=
  let x := s.port p
  let later : Bool := match x.serial with
    | none => true
    | some s0 => decide (1 ≤ (serial + 2048 - s0) % 2048 ∧ (serial + 2048 - s0) % 2048 ≤ 1023)
  if sender ≠ names then s
  else if later ∨ (x.serial = some serial ∧ x.die = names) then
    let s1 := s.updPort p (fun x => { x with serial := some serial, pend := if x.die = names then none else some names })
    if x.die ≠ names ∧ s.bit x.die (MAC_STAT p) MAC_STAT__LPITX then s1.portSwitch p names false else s1
  else s

/-- What a control frame that was cut off said and still holds is sent again first (R421): XOFF for the classes still in XOFF, or the XON
of those that are not; the new MAC may have the frame waiting already. -/
def State.sayAgain (s : State) (d : Die) (p bits : Nat) (on : Bool) : State :=
  let now := s.fld d (SWC_PpOCC p) SWC_PpOCC__XOFF
  let still := if on then Nat.land bits now else bits - Nat.land bits now
  if still = 0 ∨ (s.mac d p).ctl.contains (still, on) then s
  else s.updMac d p (fun m => { m with ctl := (still, on) :: m.ctl })

/-- The connected MAC falls silent: the other one is connected at once, a frame cut off, or lost after some of its fragments, is counted
(R400). -/
def State.portSilent (s : State) (p : Nat) : State :=
  let d := (s.port p).die
  let m := s.mac d p
  let lost := b2n m.tx.isSome + b2n m.preempted.isSome
  let s1 := s.onDies (fun st e => st.macCounts e p (List.replicate lost 39))
  let s2 := (s1.updMac d p (fun m => { m with
    tx := none, retry := none, attempts := 0, preempted := none, done := 0, frags := 0 })).onDies (fun st e =>
    st.setF e (MAC_EVT p) MAC_EVT__LINKCHG 1)
  let s3 := match m.tx.bind (·.ctl) with
    | some (bits, on) => s2.sayAgain d.other p bits on
    | none => s2
  s3.portSwitch p d.other true

/-! ### Gates and shapers (R453 to R455) -/

/-- The gate list of a port. -/
def State.gates (s : State) (d : Die) (p : Nat) : GateList := tget {} (s.swc d).gates p

/-- Whether the gate of a class is open. -/
def State.gateOpen (s : State) (d : Die) (p c : Nat) : Bool :=
  !s.bit d (SWC_PpGATE p) SWC_PpGATE__GCL || bitOf (s.fld d (SWC_PpGATE p) SWC_PpGATE__STATES) c

/-- The time in ns from the start of entry `i` until the gate of a class closes; none where it never closes. -/
def openRun (g : GateList) (c i : Nat) : Option Nat :=
  let n := g.entries.length
  let run := (List.range n).map (fun k => g.entries.getD ((i + k) % n) (0, 0))
  if run.all (fun e => bitOf e.1 c) then none
  else some ((run.takeWhile (fun e => bitOf e.1 c)).map (·.2)).sum

/-- The time left in ns before the gate of a class closes. -/
def State.gateLeft (s : State) (d : Die) (p c : Nat) : Option Nat :=
  if !s.bit d (SWC_PpGATE p) SWC_PpGATE__GCL then none
  else
    let g := s.gates d p
    (openRun g c (s.fld d (SWC_PpGATE p) SWC_PpGATE__ENTRY)).map (fun n => g.since + n - s.ns d)

/-- The time in ns until the gate of a class opens: 0 while it is open, none where no entry opens it. -/
def State.opensIn (s : State) (d : Die) (p c : Nat) : Option Nat :=
  if s.gateOpen d p c then some 0
  else
    let g := s.gates d p
    let n := g.entries.length
    let i := s.fld d (SWC_PpGATE p) SWC_PpGATE__ENTRY
    let run := (List.range n).map (fun k => g.entries.getD ((i + k) % n) (0, 0))
    if run.all (fun e => !bitOf e.1 c) then none
    else some (g.since + ((run.takeWhile (fun e => !bitOf e.1 c)).map (·.2)).sum - s.ns d)

/-- The longest window of a class in its gate cycle; none where its gate never closes. -/
def State.longestWindow (s : State) (d : Die) (p c : Nat) : Option Nat :=
  let g := s.gates d p
  if !s.bit d (SWC_PpGATE p) SWC_PpGATE__GCL then none
  else (List.range g.entries.length).foldl (fun m i => match m, openRun g c i with
    | some a, some b => some (max a b)
    | _, _ => none) (some 0)

/-- The time a head frame needs to fit: the whole frame, or the minimum fragment of a preemptable class (R453). -/
def State.fitNs (s : State) (d : Die) (p c len : Nat) : Nat :=
  let whole := !s.bit d (MAC_STAT p) MAC_STAT__PREACT || bitOf (s.fld d (MAC_PREEMPT p) MAC_PREEMPT__EXPRESS) c
  let n := if whole then len else min len (64 * (1 + s.fld d (MAC_PREEMPT p) MAC_PREEMPT__ADDFRAG))
  s.bitsNs d p (8 * (n + 8))

/-- The credit of a class brought up to the present (R454), in units of 10^-6 bits. -/
def State.settleCredit (s : State) (d : Die) (p c : Nat) : State :=
  let slope := (s.rd d (SWC_PpCBSc p c)).toNat
  let key := portQ p c
  let now := s.ns d
  let waits := decide (tget [] (s.swc d).queues key ≠ [])
  if slope = 0 then s
  else s.updSwc d (fun x => { x with credits := tupd (0, 0) x.credits key (fun e =>
    if e = (0, 0) then (0, now)
    else if !waits then (min e.1 0, max e.2 now)
    else (if s.gateOpen d p c ∧ e.2 < now then e.1 + ((slope * (now - e.2) : Nat) : Int) else e.1, max e.2 now)) })

/-- The length with FCS of a frame as it leaves a port. -/
def State.sentLen (s : State) (d : Die) (p : Nat) (f : SwFrame) : Nat := (padded (s.egressBytes d p f)).length + 4

/-- Head frames that can never leave discarded (R434, R453): too long once tagged, or too long for every window of their class; at most
`n`. -/
def State.dropUnfit (s : State) (d : Die) (p c : Nat) : Nat → State
  | 0 => s
  | n + 1 =>
    let key := portQ p c
    match (tget [] (s.swc d).queues key).head?.bind (s.frameOf d) with
    | none => s
    | some f =>
      if s.oversize d p f then (s.dropQueued d key f.id (SWC_PpLD p)).dropUnfit d p c n
      else match s.longestWindow d p c with
        | some w =>
          if w < s.fitNs d p c (s.sentLen d p f) then (s.dropQueued d key f.id (SWC_PpGD p)).dropUnfit d p c n else s
        | none => s

/-- Whether a frame or fragment of a class may start now: the class is not paused, its gate is open, and what must fit before the gate
closes fits (R410, R453). -/
def State.mayBegin (s : State) (d : Die) (p c len : Nat) : Bool :=
  !s.paused d p c && s.gateOpen d p c &&
    (match s.gateLeft d p c with
     | none => true
     | some t => decide (s.fitNs d p c len ≤ t))

/-- The head frame of a class when the class is eligible (R453). -/
def State.eligible (s : State) (d : Die) (p c : Nat) : Option SwFrame :=
  match (tget [] (s.swc d).queues (portQ p c)).head?.bind (s.frameOf d) with
  | none => none
  | some f =>
    let credit := (tget (0, 0) (s.swc d).credits (portQ p c)).1
    if s.mayBegin d p c (s.sentLen d p f) && (decide ((s.rd d (SWC_PpCBSc p c)).toNat = 0) || decide (0 ≤ credit)) then some f
    else none

/-- Whether frames of a class may be preempted: preemption is active and the class is not express (R413). -/
def State.preemptable (s : State) (d : Die) (p c : Nat) : Bool :=
  s.bit d (MAC_STAT p) MAC_STAT__PREACT && !bitOf (s.fld d (MAC_PREEMPT p) MAC_PREEMPT__EXPRESS) c

/-- The frame the core offers a MAC: the head of the highest eligible class; while a preempted frame waits, of the express classes. -/
def State.offer (s : State) (d : Die) (p : Nat) (express : Bool) : Option SwFrame :=
  ([7, 6, 5, 4, 3, 2, 1, 0].filter (fun c => !(express && s.preemptable d p c))).findSome? (s.eligible d p)

/-- The frame taken out of its queue, its credit brought up to the present and charged for the time it takes (R454). -/
def State.takeQueued (s0 : State) (d : Die) (p : Nat) (f : SwFrame) : State :=
  let s := s0.settleCredit d p f.cls
  let slope := (s.rd d (SWC_PpCBSc p f.cls)).toNat
  let key := portQ p f.cls
  let t := s.bitsNs d p (8 * (s.sentLen d p f + 8))
  let rate := portKbps p (s.fld d (MAC_CFG p) MAC_CFG__RATE)
  let s1 := if slope = 0 then s else s.updSwc d (fun x => { x with credits := tupd (0, 0) x.credits key (fun e =>
    (e.1 - (((rate - slope) * t : Nat) : Int), s.ns d + t)) })
  s1.dequeue d key f.id

/-- A frame of the core as a MAC sends it, with its class. -/
def State.ofCore (s : State) (d : Die) (p : Nat) (f : SwFrame) : MacFrame :=
  { macFrame (s.egressBytes d p f) with cls := some f.cls, pre := s.preemptable d p f.cls }

/-- The MAC starts a frame: it is stamped (R398), and the answer is its bytes with FCS. -/
def State.putOnWire (s : State) (d : Die) (p : Nat) (f : MacFrame) : State :=
  (s.updMac d p (fun m => { m with tx := some f, retry := none, sentAt := s.ns d, turn := m.turn + 1 })).reply
    (.bytes (f.bytes ++ toLE 4 f.fcs))

/-- The next fragment of a preempted frame starts, where its class may go on (R413, R415, R453): the answer is the rest of its bytes. A pause
holds back no frame that has started. -/
def State.resume (s : State) (d : Die) (p : Nat) : State :=
  let m := s.mac d p
  match m.preempted with
  | none => s
  | some f =>
    let c := f.cls.getD 0
    let fits := match s.gateLeft d p c with
      | none => true
      | some t => decide (s.fitNs d p c (f.len - m.done) ≤ t)
    if s.gateOpen d p c && fits then
      ((s.updMac d p (fun m => { m with tx := some f, preempted := none, frags := m.frags + 1 })).macCount d p 30).reply
        (.bytes ((f.bytes ++ toLE 4 f.fcs).drop m.done))
    else s

/-- The active core starts a queued frame of a port. -/
def State.startFrame (s : State) (d : Die) (p : Nat) (f : SwFrame) : State :=
  (s.takeQueued d p f).putOnWire d p (s.ofCore d p f)

/-- A mismatch of the unconnected MAC: counted, its event, a record of class 0x06 on each die. -/
def State.shadowMis (s : State) (d : Die) (p : Nat) : State :=
  ((s.macCount d p 38).setF d (MAC_EVT p) MAC_EVT__SHADOWMIS 1).recordBoth 0x0B00 0x06 p 0 0

/-- A frame dequeued by the standby for a port: it meets a waiting echo or waits for its own. With preemption an express frame's echo may
come before that of a frame dequeued earlier. -/
def State.dequeued (s : State) (d : Die) (p : Nat) (f : MacFrame) : State :=
  let m := s.mac d p
  let wait := s.updMac d p (fun m => { m with deq := m.deq ++ [f] })
  if m.echoes.head? = some (f.len, f.fcs) ∨ (s.bit d (MAC_STAT p) MAC_STAT__PREACT ∧ m.echoes.contains (f.len, f.fcs)) then
    (s.updMac d p (fun m => { m with echoes := m.echoes.erase (f.len, f.fcs) })).countSent d p f
  else if m.echoes = [] ∨ s.bit d (MAC_STAT p) MAC_STAT__PREACT then wait
  else (s.updMac d p (fun m => { m with echoes := m.echoes.tail })).shadowMis d p

/-- The time at the MDI of the frame a MAC began last (R398, R470). -/
def State.egressNs (s : State) (d : Die) (p : Nat) : Nat := (s.mac d p).sentAt + (s.rd d (MAC_DLY p)).toNat / 2 ^ 16

/-- What the message that follows an event message carries (R472, R474): after a Sync the origin and the correction, which for a relay are
the grandmaster's origin and the upstream correction plus the time since the upstream system sent, times the rate ratio; after a
Pdelay_Resp the egress stamp. -/
def State.followFields (s : State) (d : Die) (p kind : Nat) : List Int :=
  let out : Int := s.egressNs d p
  match (s.vol.get d).tim.upSync with
  | some (origin, corr, sent) =>
    if kind ≠ 8 then [out]
    else
      let slave := s.fld d TIM_STAT TIM_STAT__SLAVE
      let ratio := 2 ^ 32 + (s.rd d (TIM_GpRATIO slave)).toInt + Config.upstreamRate sent.toNat
      [origin, corr + (out - sent) * ratio * 2 ^ 16 / 2 ^ 32]
  | none => if kind ≠ 8 then [out] else [out, 0]

/-- A frame of a unit of the module starts: its copy waits on the other die for its echo (R472), and an event message has the message with its
egress stamp behind it. -/
def State.sendUnit (s : State) (d : Die) (p : Nat) (f : MacFrame) : State :=
  let s1 := s.putOnWire d p f
  let s2 := if s1.linkUp && s1.alive d.other then (s1.plNotice d 3 15 p).dequeued d.other p f else s1
  match f.follow with
  | none => s2
  | some (kind, q) => s2.updMac d p (fun m => { m with
      unit := macFrame (Config.gptpFrame kind p q (s2.followFields d p kind)) :: m.unit })

/-- What the queues of a port hold is put right before a frame is selected: frames that can never leave are dropped, credits settled. -/
def State.preparePort (s : State) (d : Die) (p : Nat) : State :=
  (List.range 8).foldl (fun st c =>
    (st.dropUnfit d p c (tget [] (st.swc d).queues (portQ p c)).length).settleCredit d p c) s

/-- The core's frame for a port, when no frame is fed and not yet started: of every class, or of the express ones while a preempted frame
waits, which otherwise goes on (R413, R453, R457, R460). -/
def State.selectFrame (s : State) (d : Die) (p : Nat) : State :=
  if !s.swActive d || !s.selects || s.feedDue d p then s.resume d p
  else
    let s1 := s.preparePort d p
    match s1.offer d p (s1.mac d p).preempted.isSome with
    | none => s1.resume d p
    | some f => if s1.feeds d then s1.sendFeed d p 0 0 f else s1.startFrame d p f

/-- A MAC begins its next transmission (R402, R411, R453, R457, R472): a control frame, a frame kept back by a collision, one of the time and
zone-group units, the frame that was fed, once it is acknowledged or no feed runs, or one the core selects. -/
def State.macSend (s : State) (d : Die) (p : Nat) : State :=
  let m := s.mac d p
  match m.ctl, m.retry, m.unit with
  | (bits, on) :: rest, _, _ => (s.updMac d p (fun m => { m with ctl := rest })).putOnWire d p (s.ctlFrame d p bits on)
  | [], some f, _ => s.putOnWire d p f
  | [], none, f :: rest => (s.updMac d p (fun m => { m with unit := rest })).sendUnit d p f
  | [], none, [] =>
    match (s.swc d).awaiting.find? (fun e => decide (e.port = p)) with
    | none => s.selectFrame d p
    | some e =>
      let s1 := s.updSwc d (fun x => { x with awaiting := x.awaiting.erase e })
      match s.frameOf d e.id with
      | none => s1
      | some f =>
        if (s.feeds d && !e.acked) || !s.mayBegin d p f.cls (s.sentLen d p f) then s else s1.startFrame d p f

/-- Whether a port has something to send. -/
def State.hasWork (s : State) (d : Die) (p : Nat) : Bool :=
  let m := s.mac d p
  decide (m.ctl ≠ []) || m.retry.isSome || decide (m.unit ≠ []) || m.preempted.isSome ||
    (List.range 8).any (fun c => decide (tget [] (s.swc d).queues (portQ p c) ≠ []))

/-! ### Low-power idle, forced collisions and PLCA -/

/-- The transmit wake time of a port in ns: MAC_EEEWAKE, at least the minimum of the PHY (R406, R407). -/
def State.wakeNs (s : State) (d : Die) (p : Nat) : Nat :=
  let least := if isMg p then (match s.fld d (MAC_CFG p) MAC_CFG__RATE with | 2 => 10 | 1 => 12 | _ => 15) else 12
  1000 * max least (s.fld d (MAC_EEEWAKE p) MAC_EEEWAKE__WAKE)

/-- Whether a frame is ready for a port in LPI: one of the MAC or the units, or of a class whose gate is open or opens within the wake
time (R406, R455). -/
def State.ready (s : State) (d : Die) (p : Nat) : Bool :=
  let m := s.mac d p
  decide (m.ctl ≠ []) || m.retry.isSome || decide (m.unit ≠ []) || m.preempted.isSome ||
    (List.range 8).any (fun c => decide (tget [] (s.swc d).queues (portQ p c) ≠ []) &&
      (s.opensIn d p c).any (fun t => decide (t ≤ s.wakeNs d p)))

/-- A port leaves LPI: the MAC waits the wake time in force now. -/
def State.leaveLpi (s : State) (d : Die) (p : Nat) : State :=
  (s.setF d (MAC_STAT p) MAC_STAT__LPITX 0).updMac d p (fun m => { m with wake := some (s.ns d + s.wakeNs d p) })

/-- Whether a PLCA port has no transmit opportunity (R405): its turn comes a TO timer after the BEACON for each node before it, and takes one
frame, and as many more as the burst count, each within the burst timer. -/
def State.plcaHolds (s : State) (d : Die) (p : Nat) : Bool :=
  let m := s.mac d p
  let f := fun (x : Fld) => s.fld d (MAC_PLCA p) x
  isSb p && decide (s.fld d (MAC_STAT p) MAC_STAT__PLCAST = 1) &&
    (match m.beacon with
     | none => true
     | some t =>
       if m.turn = 0 then decide (s.ns d < t + s.bitsNs d p (f MAC_PLCA__NODE * f MAC_PLCA__TO))
       else decide (s.fld d (MAC_PLCAB p) MAC_PLCAB__BURST < m.turn ∨ m.lastEnd + s.bitsNs d p (f MAC_PLCA__BTMR) < s.ns d))

/-- Whether the frame being sent may be preempted after `n` bytes of its present fragment (R413; IEEE 802.3br): a fragment with its mCRC and
the rest have the sizes preemption allows, and an express frame waits or the gate of its class has closed. -/
def State.mayPreempt (s : State) (d : Die) (p n : Nat) : Bool :=
  let m := s.mac d p
  match m.tx with
  | none => false
  | some f =>
    f.pre && decide (64 * (1 + s.fld d (MAC_PREEMPT p) MAC_PREEMPT__ADDFRAG) ≤ n + 4 ∧ m.done + n + 64 ≤ f.len) &&
      (decide (m.ctl ≠ []) || decide (m.unit ≠ []) || (s.swActive d && (s.offer d p true).isSome) ||
        (s.swc d).awaiting.any (fun e => decide (e.port = p)) || !s.gateOpen d p (f.cls.getD 0))

/-- The frame being sent is preempted: its rest waits, and the pause state takes effect (R410, R413). -/
def State.preempt (s : State) (d : Die) (p n : Nat) : State :=
  (s.updMac d p (fun m => { m with tx := none, preempted := m.tx, done := m.done + n })).showPause d p

/-! ### Echo (R401) and feed (R458) -/

/-- The echo of a frame of several fragments: the unconnected MAC counts those after the first, as the connected one did (R401, R415). -/
def State.echoFrags (s : State) (d : Die) (p len fcs : Nat) : State :=
  match (s.mac d p).fragged.find? (fun e => decide (e.1 = len ∧ e.2.1 = fcs)) with
  | some e => (s.updMac d p (fun m => { m with fragged := m.fragged.erase e })).macCounts d p (List.replicate e.2.2 30)
  | none => s

/-- An echo compared with the frame the unconnected MAC would have sent, or kept until that frame is dequeued: the control frame that is
next, or the oldest express or preemptable frame dequeued (R401, R413). -/
def State.echo (s0 : State) (d : Die) (p len fcs : Nat) : State :=
  let s := s0.echoFrags d p len fcs
  let m := s.mac d p
  let same := fun (f : MacFrame) => decide (f.len = len ∧ f.fcs = fcs)
  match m.ctl.head?.filter (fun e => same (s.ctlFrame d p e.1 e.2)) with
  | some e => (s.updMac d p (fun m => { m with ctl := m.ctl.tail })).countSent d p (s.ctlFrame d p e.1 e.2)
  | none =>
    let firsts := (m.deq.find? (fun f => f.pre)).toList ++ (m.deq.find? (fun f => !f.pre)).toList
    match firsts.find? same with
    | some f => (s.updMac d p (fun m => { m with deq := m.deq.erase f })).countSent d p f
    | none =>
      if m.deq = [] then s.updMac d p (fun m => { m with echoes := m.echoes ++ [(len, fcs)] })
      else (s.updMac d p (fun m => { m with deq := m.deq.tail })).shadowMis d p

/-- The queue a feed entry names. -/
def FeedEntry.key (e : FeedEntry) : Nat := if e.port = 24 then ringQ e.part e.ring else portQ e.port e.cls

/-- Whether a frame is the one a feed entry names. -/
def FeedEntry.names (e : FeedEntry) (f : SwFrame) : Bool := decide (f.ingress = e.ingress ∧ f.len = e.len ∧ f.fcs = e.fcs)

/-- Whether a frame of the fabric is one that a feed entry names for its port. -/
def FeedEntry.inFabric (e : FeedEntry) (f : SwFrame) : Bool :=
  e.names f && (f.ports.contains e.port || (decide (e.port = 24) && bitOf f.parts e.part))

/-- A feed entry acts on the standby (R458): the named frame leaves its queue, frames of its ingress ahead of it are skipped, an entry whose
frame is nowhere is missing. -/
def State.feedApply (s : State) (d : Die) (e : FeedEntry) : State :=
  let x := s.swc d
  let q := (tget [] x.queues e.key).filterMap (fun id => s.frameOf d id)
  let pop := s.updSwc d (fun x => { x with feedIn := x.feedIn.erase e, lastFeed := tset none x.lastFeed e.port (some e) })
  match q.find? e.names with
  | some f =>
    let ahead := (q.takeWhile (fun g => !e.names g)).filter (fun g => decide (g.ingress = e.ingress))
    let s1 := ahead.foldl (fun st g => (st.dequeue d e.key g.id).addSat d SWC_SHMIS SWC_SHMIS__SKIPPED 1) pop
    let s2 := (s1.incWrap d SWC_FEED ⟨0, 32⟩).setF d SWC_STAT SWC_STAT__INSTEP 1
    if e.port = 24 then (s2.hostWrite d e.part e.ring f).dequeue d e.key f.id
    else (s2.dequeue d e.key f.id).dequeued d e.port (s2.ofCore d e.port f)
  | none => (pop.addSat d SWC_SHMIS SWC_SHMIS__MISSING 1).recordBoth 0x0C00 0x06 e.port 0 0

/-- Whether a feed entry waits: its frame is still in the fabric, or an entry of its port before it waits (R462). -/
def State.feedWaits (s : State) (d : Die) (before : List FeedEntry) (e : FeedEntry) : Bool :=
  (s.swc d).fabric.any e.inFabric || before.any (fun b => decide (b.port = e.port))

/-- The oldest feed entry that need not wait, of a list behind the entries `before`. -/
def State.feedNext (s : State) (d : Die) (before : List FeedEntry) : List FeedEntry → Option FeedEntry
  | [] => none
  | e :: l => if s.feedWaits d before e then s.feedNext d (before ++ [e]) l else some e

/-- The standby takes the oldest feed entry that need not wait. -/
def State.feedTake (s : State) (d : Die) : State :=
  match s.feedNext d [] (s.swc d).feedIn with
  | some e => s.feedApply d e
  | none => s

/-- A frame that has been placed meets the feed entries that waited for it, each unless one of its port waits before it (R462). -/
def State.feedMeets (s : State) (d : Die) (f : SwFrame) : State :=
  (s.swc d).feedIn.foldl (fun st e =>
    let l := (st.swc d).feedIn
    if e.inFabric f && l.contains e && !(l.takeWhile (fun b => decide (b ≠ e))).any (fun b => decide (b.port = e.port)) then
      st.feedApply d e
    else st) s

end Sys2Proof.Machine
end

