-- ==== Sys2Proof/Machine/Status.lean ====
section
/-! DEFINITION. Conditions the module reports: the boot phase and SINGLE with its reasons (R102, R103), the FAULT_N conditions and
pin (R739), and the registers of the fault, debug and security blocks that show the present state. -/

namespace Sys2Proof.Machine

/-! ### SINGLE (R102) -/

/-- S_PARTNER of a die. -/
def State.sPartner (s : State) (d : Die) : Bool := !(s.alive d.other && s.isSealed d.other) || s.split

/-- S_LINK. -/
def State.sLink (s : State) : Bool := !s.linkUp

/-- S_SPARE: a non-sheddable partition without a synchronised spare; before the seal it reads 1 (R103). -/
def State.sSpare (s : State) (d : Die) : Bool :=
  !s.isSealed d || (List.range 32).any (fun p => s.defined d p && decide (s.ckState d p ≠ 0 ∧ s.ckState d p ≠ 3) &&
    !s.bit d (CKP_pSTAT p) CKP_pSTAT__SHED)

/-- S_NIB: a cluster with assigned nibs without a twin in shadow, or with a nib that has no slot (R256); before the seal it reads 1
(R103). -/
def State.sNib (s : State) (d : Die) : Bool :=
  !s.isSealed d || (List.range 8).any (fun c =>
    (s.cl d c).nibs.any (fun e => decide (e.2.prog ≠ .none)) &&
      (!decide ((s.clState d c = 3 ∧ s.clState d.other c = 4) ∨ (s.clState d c = 4 ∧ s.clState d.other c = 3)) ||
        [d, d.other].any (fun e => (s.cl e c).nibs.any (fun x => decide (x.2.run = .noSlot)))))

/-- The reasons of a die, as CIS_BOOT bits 12:9. -/
def State.reasons (s : State) (d : Die) : Nat :=
  b2n (s.sPartner d) + 2 * b2n s.sLink + 4 * b2n (s.sSpare d) + 8 * b2n (s.sNib d)

/-- SINGLE: reported on both dies while a die that runs has a reason. -/
def State.single (s : State) : Bool :=
  decide ((s.alive 0 = true ∧ s.reasons 0 ≠ 0) ∨ (s.alive 1 = true ∧ s.reasons 1 ≠ 0)) || !(s.alive 0 || s.alive 1)

/-- Whether a partition runs on a die. -/
def State.somePartRuns (s : State) (d : Die) : Bool :=
  (s.vol.get d).dux.any (fun e => e.2.cores.q0.run || e.2.cores.q1.run)

/-- The boot phase of a die in the codes of CIS_BOOT.PHASE. -/
def State.bootPhase (s : State) (d : Die) : Nat :=
  if !s.alive d then 0
  else if !(s.vol.get d).boot.loaderOk then (if s.fld d CIS_BOOT CIS_BOOT__LCODE = 0 then 0 else 8)
  else match s.dstate d with
    | 0 => 1
    | 3 => 3
    | 4 => if !s.somePartRuns d then 4 else if s.sSpare d then 5 else 6
    | 5 => 7
    | _ => 2

/-- CIS_BOOT as a die reads it (R9). -/
def State.liveBoot (s : State) (d : Die) (v : Word) : Word :=
  let other := if s.linkUp ∧ s.alive d.other = true then s.bootPhase d.other else 15
  BitVec.ofNat 32 (s.bootPhase d + 16 * other + 2 ^ 8 * b2n s.single + 2 ^ 9 * s.reasons d + 2 ^ 13 * CIS_BOOT__LDON.get v +
    2 ^ 16 * CIS_BOOT__LCODE.get v)

/-! ### FAULT_N (R739) -/

/-- One condition of R739 on a die. -/
def State.faultCond (s : State) (d : Die) (n : Nat) : Bool :=
  s.alive d && (match n with
    | 0 => s.single
    | 1 => (List.range 19).any (fun sd =>
        (tget {} s.sds sd).powered && tget false (s.vol.get d).flt.sdServed sd && decide ((tget {} s.sds sd).mode ≠ .service))
    | 2 => (List.range 19).any (fun sd => (List.range (sdChans sd)).any (fun k =>
        decide (s.fld d (PWR_CHkSTAT sd k) PWR_CHkSTAT__STATE = 3)))
    | 3 => decide (s.fld d WLD_STAT WLD_STAT__SSTATE = 2 ∨ s.fld d WLD_STAT WLD_STAT__SSTATE = 4)
    | 4 => s.isSealed d && (List.range 32).any (fun p => s.defined d p &&
        (decide (s.ckState d p < 2 ∨ s.ckState d p = 7) ||
          (tget false (s.vol.get d).flt.heldReset p && s.bit d (WLD_pSTAT p) WLD_pSTAT__RST)))
    | 5 => s.cis.sev5.get d
    | 6 => let st := s.fld d ZGP_STAT ZGP_STAT__STATE
           decide (4 ≤ st ∧ st ≤ 6)
    | _ => (s.vol.get d).flt.cond7)

/-- The conditions present on a die, as bits 7:0. -/
def State.faultConds (s : State) (d : Die) : Nat := maskOf ((List.range 8).filter (fun n => s.faultCond d n))

/-- Whether the Cistern drives FAULT_N low: before the first seal always, after it while a die shows a condition its policy names,
bit 7 always, and while both dies are in the no-structure state (R80, R94, R739); hi-Z without supply, in reset, DORMANT and SENTINEL. -/
def State.faultLow (s : State) : Bool :=
  s.cis.powered && s.cis.resetN && decide (s.fld 0 CIS_STAT CIS_STAT__STATE < 2) &&
    (!s.cis.firstSeal || decide (s.dstate 0 = 5 ∧ s.dstate 1 = 5) ||
      decide (Nat.land (s.faultConds 0) (Nat.lor 128 (s.fld 0 FLT_CFG FLT_CFG__FNMASK)) ≠ 0) ||
      decide (Nat.land (s.faultConds 1) (Nat.lor 128 (s.fld 1 FLT_CFG FLT_CFG__FNMASK)) ≠ 0))

/-- Whether WAKE_OUT is driven low: hi-Z without supply, in reset and until the first seal, then as firmware drives it, for which the
spec names no register (R94; log entry 83). -/
def State.wakeOutLow (s : State) : Bool := s.cis.powered && s.cis.resetN && s.cis.firstSeal && Config.wakeOut s.free

/-- The level of pin PPS_OUTk as the Cistern's selector passes it from a time unit, or none while it is hi-Z: without supply, in reset,
until the first seal, and while the output is neither armed nor high (R94, R491). -/
def State.ppsOut (s : State) (k : Nat) : Option Bool :=
  let x := tget {} (s.vol.get (if tget 0 s.cis.pps k = 1 then 1 else 0)).tim.pulses k
  if s.cis.powered && s.cis.resetN && s.cis.firstSeal && (x.armed || x.high) then some x.high else none

/-- FLT registers that show the present state: FLT_STAT, FLT_BLOT, FLT_BINFO (R757). -/
def State.liveFlt (s : State) (d : Die) (o : Nat) (v : Word) : Word :=
  if o = 0 then
    FLT_STAT__FN.set (FLT_STAT__COND.set v (Nat.lor (s.faultConds 0) (s.faultConds 1))) (b2n s.faultLow)
  else if o = 0x28 then
    FLT_BLOT__DRAMPEND.set v (((s.keep.get d).dramDumps.filter (fun e => match e.2 with
      | some x => !x.copied
      | none => false)).length)
  else if o = 0x30 then
    match tget none (s.keep.get d).bulkDumps (s.fld d FLT_BSEL FLT_BSEL__SLOT) with
    | some x => BitVec.ofNat 32 (x.cause + 2 ^ 8 * x.die.val + 2 ^ 9 * b2n x.trunc + 2 ^ 16 * ((x.length + 65535) / 65536))
    | none => 0#32
  else v

/-! ### Debug and security (R769, R774, R775) -/

/-- The effective limit of the debug scope (R769). -/
def State.debugLimit (s : State) (d : Die) : Nat :=
  match (s.vol.get d).sec.policy with
  | some n => min n Config.debugLimit.val
  | none => Config.debugLimit.val

/-- SEC_STAT shows the slots in use. -/
def State.liveSec (s : State) (d : Die) (o : Nat) (v : Word) : Word :=
  if o = 0 then SEC_STAT__SLOTS.set v (((s.vol.get d).sec.slots.filter (fun e => e.2.isSome)).length) else v

/-- DBG registers: limit, challenge, measurement, unique ID. -/
def State.liveDbg (s : State) (d : Die) (o : Nat) (v : Word) : Word :=
  if o = 0 then DBG_STAT__LIMIT.set v (s.debugLimit d)
  else if o = 0xA0 then BitVec.ofNat 32 (s.debugLimit d)
  else if 0x40 ≤ o ∧ o < 0x70 then
    BitVec.ofNat 32 (leBytes (toBE 48 (s.vol.get d).boot.bmr.toNat) (o - 0x40) 4)
  else if 0x90 ≤ o ∧ o < 0xA0 then BitVec.ofNat 32 ((Config.dieUid d).toNat / 2 ^ (8 * (o - 0x90)))
  else v

end Sys2Proof.Machine
end

