-- ==== Sys2Proof/Machine/ReadReg.lean ====
section
/-! DEFINITION. What a read of a register returns: the stored value, or a value computed from the state where the register
shows the present state of its block (R9 to R12, R33). -/

namespace Sys2Proof.Machine

/-- The index of a register offset within an array of `n` registers at a base and stride. -/
def arrIdx (base stride n off : Nat) : Option Nat :=
  if base ≤ off ∧ (off - base) % stride = 0 ∧ (off - base) / stride < n then some ((off - base) / stride) else none

/-- NBC_nNkST.STATE of a nib. -/
def Nib.code (x : Nib) : Nat :=
  match x.run with
  | .unassigned => 0
  | .running => if x.mode then 4 else 1
  | .inGet => 2
  | .inWait => 3
  | .haltedCmd => 5
  | .haltedExc => 6
  | .noSlot => 7

/-- The registers of a nib cluster that show its nibs and its twin: NBC_nSTAT, NBC_nHALT, NBC_nLAG, NBC_nNkST. -/
def State.liveNbc (s : State) (d : Die) (n o : Nat) (v : Word) : Word :=
  let c := s.cl d n
  if o = 0 then
    let t := s.clState d.other n
    let v1 := NBC_nSTAT__TWIN.set v (b2n (s.alive d.other && decide (t = 3 ∨ t = 4)))
    let v2 := NBC_nSTAT__SPARES.set (NBC_nSTAT__AUTH.set v1 (b2n (decide (s.holder n = d)))) (s.freeSpares d n).length
    if s.dstate d = 2 ∧ !c.started ∧ (s.todo d).all Rec.lateStep ∧ (s.controls d n || c.nibs.any (fun e => decide (e.2.prog ≠ .none)))
    then NBC_nSTAT__STATE.set v2 2 else v2
  else if o = 0x14 then
    BitVec.ofNat 32 (maskOf ((c.nibs.filter (fun e => decide (5 ≤ e.2.code))).map (·.1)))
  else if o = NBC_nLAG 0 - 0x80000 then
    match c.orders with
    | [] => 0#32
    | e :: l => BitVec.ofNat 32 (satTo 4096 (l.length + 1) + 2 ^ 16 * satTo 0xFFFF ((s.ns d - e.stamp) / 1000))
  else match arrIdx 0x100 4 30 o with
    | some k =>
      let x := c.nib k
      BitVec.ofNat 32 (x.code + 8 * x.slot + 2 ^ 8 * (x.pc / 4 % 2 ^ 11) + 2 ^ 20 * ((x.queue.filter (fun e => decide (e.src ≠ 0x601))).length % 1024))
    | none => v

/-- FBB status: which die drives the line of a controller that has its record (R362, R388). -/
def State.liveFbb (s : State) (d : Die) (o : Nat) (v : Word) : Word :=
  match arrIdx 0 0x800 28 o with
  | some i =>
    let t := (s.fbSel i).die
    if (if i < 16 then s.fld d (FBB_CcCFG i) FBB_CcCFG__MODE else s.fld d (FBB_CcCFG i) FBB_LlCFG__BAUD) = 0 then v else
    FBB_CcSTAT__TXDIE.set (FBB_CcSTAT__TXLINK.set v (b2n (decide (t = d)))) t.val
  | none => v

/-- MAC status: link, signal quality and steering from the port die, alike on both dies (R399, R419); the longest remaining pause
(R410). -/
def State.liveMac (s : State) (d : Die) (o : Nat) (v : Word) : Word :=
  let p := o / 0x1000
  if o % 0x1000 = 0 then
    let x := s.port p
    let v1 := MAC_STAT__AUTO.set (MAC_STAT__SQI.set (MAC_STAT__LINK.set v (b2n x.link)) x.sqi) (b2n x.auto)
    MAC_STAT__TXACT.set (MAC_STAT__TXDIE.set v1 x.die.val) (b2n (decide (x.die = d)))
  else if o % 0x1000 = 0x38 then
    let ends := ((s.mac d p).pauseEnd.map (·.2)).foldl max 0
    let rate := portKbps p (s.fld d (MAC_CFG p) MAC_CFG__RATE)
    BitVec.ofNat 32 (satTo 0xFFFF (((ends - s.ns d) * rate + 511999999) / 512000000))
  else v

/-- The cluster that owns a timing lane (R163, R486). -/
def State.laneCluster (s : State) (d : Die) (n : Nat) : Nat :=
  if n < 80 then s.cluster d (chSd n)
  else ((List.range 8).find? (fun c => bitOf (s.fld d (NBC_nCFG c) NBC_nCFG__LANES) (n - 80))).getD 0

/-- Time registers: group time, the time-active die, lanes (R463, R468, R488). -/
def State.liveTim (s : State) (d : Die) (o : Nat) (v : Word) : Word :=
  if o = 0 then TIM_STAT__ACTIVE.set v (b2n (s.alive d && decide (s.holder 8 = d)))
  else if o = 0x10 then BitVec.ofNat 32 (s.ns d)
  else if o = 0x14 then BitVec.ofNat 32 (s.ns d / 2 ^ 32)
  else if o = 0x18 then BitVec.ofNat 32 (s.now.get d / 2 ^ 16 % 2 ^ 16)
  else match arrIdx 0x400 4 96 o with
    | some n =>
      let l := tget {} (s.vol.get d).lanes n
      let m := if s.laneIdle d n then 0 else if l.ramp.isSome then 3 else if l.pwm then 2 else if l.driven then 1 else 0
      BitVec.ofNat 32 (m + 4 * b2n (!s.laneIdle d n && l.out (s.ns d)) + 8 * s.laneCluster d n) ||| (v &&& 0xFFFF0000#32)
    | none => v

/-- Retired instructions of the two cores apart. -/
def DuxSt.lag (x : DuxSt) : Nat := (x.cores.q0.count - x.cores.q1.count) + (x.cores.q1.count - x.cores.q0.count)

/-- Duplex registers: lag and the leading core (R505). -/
def State.liveDux (s : State) (d : Die) (o : Nat) (v : Word) : Word :=
  if o < 0x100 then v else
  let x := s.dux d ((o - 0x100) / 0x40)
  let k := (o - 0x100) % 0x40
  if k = 0 then DUX_dSTAT__LEADB.set v (b2n (decide (x.cores.q0.count < x.cores.q1.count)))
  else if k = 4 then DUX_dLAG__INSTR.set v (satTo 0xFFFF x.lag)
  else v

/-- Whether an epoch of a partition is open on a die: it runs on its home duplex. -/
def State.epochOpen (s : State) (d : Die) (p : Nat) : Bool :=
  let h := s.homeDie p
  decide (s.runningOn h (s.homeDux d p) = some p) && decide (1 ≤ s.ckState d p ∧ s.ckState d p ≤ 6)

/-- The watchdog count of a sealed call in ns (R560). -/
def State.callNs (s : State) (d : Die) (c : SealedCall) : Nat := s.ns d - c.since - c.idle

/-- Pending sources 32i to 32i + 31. -/
def State.pendWord (s : State) (d : Die) (i : Nat) : Nat :=
  maskOf ((List.range 32).filter (fun k => s.srcPending d (32 * i + k)))

/-- Event-controller registers; those of the self page act for a duplex (R622). -/
def State.liveEvc (s : State) (d : Die) (o : Nat) (dux : Option Nat) (v : Word) : Word :=
  match arrIdx 0x400 4 32 o with
  | some i => BitVec.ofNat 32 (s.pendWord d i)
  | none => match dux with
    | none => v
    | some x =>
      let p := (s.runningOn d x).getD 0
      if o = 0x18 then BitVec.ofNat 32 (s.thr d x p 0)
      else if o = 0x1C then BitVec.ofNat 32 (s.thr d x p 1)
      else if o = 0x20 then BitVec.ofNat 32 (s.thr d x p 2)
      else if o = 0x24 then
        BitVec.ofNat 32 ((s.stack d x p 0).length + 2 ^ 8 * (s.stack d x p 1).length + 2 ^ 16 * (s.stack d x p 2).length)
      else if o = 0x28 then BitVec.ofNat 32 (maskOf (s.guestPend d x))
      else v

/-- The value a mapped register shows now; a port whose loader found no gate list shows every gate open (R455). `dux` is the duplex of an application core that reads. -/
def State.liveReg (s : State) (d : Die) (off : Nat) (dux : Option Nat) : Word :=
  let v := s.rd d off
  if 0x20000 ≤ off ∧ off < 0x30000 then s.liveDux d (off - 0x20000) v
  else if 0x30000 ≤ off ∧ off < 0x40000 then
    match arrIdx 0x100 0x40 32 (off - 0x30000) with
    | some p => CKP_pSTAT__OPEN.set v (b2n (s.epochOpen d p))
    | none => v
  else if 0x40000 ≤ off ∧ off < 0x50000 then s.liveEvc d (off - 0x40000) dux v
  else if off = WLD_STAT then WLD_STAT__SRST24.set v (satTo 15 (s.restarts24 d))
  else if 0x50000 ≤ off ∧ off < 0x60000 then
    match arrIdx 0x40 4 12 (off - 0x50000) with
    | some x => match (s.dux d x).call with
      | some c => WLD_dSEAL__ELAPSED.set v (satTo 255 (s.callNs d c / 1000))
      | none => v
    | none => match arrIdx 0x2200 4 16 (off - 0x50000) with
      | some j => if s.lanePin j then WLD_PINj__IN.set v (b2n (s.pinOut j)) else v
      | none => v
  else if 0x80000 ≤ off ∧ off < 0x90000 then s.liveNbc d ((off - 0x80000) / 0x2000) ((off - 0x80000) % 0x2000) v
  else if off = SGW_STAT then SGW_STAT__PARTNER.set (SGW_STAT__COPY.set v (b2n (s.copyDue d))) (b2n (s.mirrorReach d))
  else if 0xA0000 ≤ off ∧ off < 0xAE000 then s.liveFbb d (off - 0xA0000) v
  else if 0xC0000 ≤ off ∧ off < 0xD8000 then s.liveMac d (off - 0xC0000) v
  else if off = SWC_STAT then
    SWC_STAT__ROLE.set (SWC_STAT__TOKEN.set v (s.holder 8).val) (if s.fld d SWC_STAT SWC_STAT__ROLE = 0 then 0
      else if s.holder 8 ≠ d then 2 else if s.linkUp && s.alive d.other then 1 else 3)
  else if (arrIdx (SWC_PpGATE 0) 0x80 27 off).isSome then
    if SWC_PpGATE__GCL.get v = 0 ∧ 3 ≤ s.dstate d then SWC_PpGATE__STATES.set v 0xFF else v
  else if 0xF0000 ≤ off ∧ off < 0x100000 then s.liveTim d (off - 0xF0000) v
  else if off = CIS_BOOT then s.liveBoot d v
  else if off = UPD_STAT then UPD_STAT__VSOK.set v (b2n (bitOf (s.fld d UPD_CFG UPD_CFG__MASK) (s.fld d UPD_VSTATE UPD_VSTATE__STATE) &&
    decide (s.fld d UPD_VSTATE UPD_VSTATE__STATE ≠ 0)))
  else if 0x130000 ≤ off ∧ off < 0x140000 then s.liveFlt d (off - 0x130000) v
  else if 0x140000 ≤ off ∧ off < 0x150000 then s.liveSec d (off - 0x140000) v
  else if 0x160000 ≤ off then s.liveDbg d (off - 0x160000) v
  else v

/-- A read of a register-space offset: its value, or all ones with an error response where it is unmapped (R33, R36). -/
def State.readReg (s : State) (d : Die) (off : Nat) (dux : Option Nat) : Word × Bool :=
  match regDef? off with
  | some _ => (s.liveReg d off dux, true)
  | none => (0xFFFFFFFF#32, false)

/-! ### 64-bit counters and times (R10) -/

/-- The low words of the 64-bit counters and times: base, stride and number of each. -/
def lowWords : List (Nat × Nat × Nat) :=
  [(CIS_RTCL, 4, 1), (CIS_FfQL 0, 0x20, 2), (CIS_FfEL 0, 0x20, 2), (CIS_BALL, 4, 1), (CIS_HARNL, 4, 1), (CIS_CHnEL 0, 8, 80),
   (MAC_RXOCTL 0, 0x1000, 24), (MAC_TXOCTL 0, 0x1000, 24), (MAC_RXBADOCTL 0, 0x1000, 24), (TIM_NOWL, 4, 1), (TIM_SNAPL, 4, 1),
   (CIS_ALARML, 4, 1), (TIM_PkSTARTL 0, 0x20, 4), (TIM_PkPERIODL 0, 0x20, 4), (EVC_TtCMPL 0, 8, 48), (UPD_DSTRUCTL, 4, 1),
   (SGW_TVALL, 4, 1), (UPD_PKGL, 4, 1)]

/-- Whether an offset is the low word of a 64-bit counter or time. -/
def isLow64 (off : Nat) : Bool := lowWords.any (fun e => (arrIdx e.1 e.2.1 e.2.2 off).isSome)

/-- The words that a read at an offset latches: of a low word the high word, of group time the fraction too (R484), of the first word
of the measurement the others (R775). -/
def latches (off : Nat) : List Nat :=
  if off = TIM_NOWL then [off + 4, TIM_NOWF]
  else if off = DBG_MEASi 0 then (List.range 11).map (fun i => DBG_MEASi (i + 1))
  else if isLow64 off then [off + 4] else []

/-- Whether an offset is a word that such a read latches. -/
def isLatched (off : Nat) : Bool :=
  (decide (4 ≤ off) && isLow64 (off - 4)) || decide (off = TIM_NOWF) || decide (DBG_MEASi 0 < off ∧ off ≤ DBG_MEASi 11)

/-- Whether a debug access at a scope or above is open on a die (R769). -/
def State.debugAt (s : State) (d : Die) (scope : Nat) : Bool := decide (scope ≤ s.fld d DBG_STAT DBG_STAT__SCOPE)

/-- Whether the block at an offset answers a read by an initiator (R769, R774, R775): the SEC block the sealed world, the DBG block the
managers, both the debug port at its scope. -/
def State.blockAnswers (s : State) (d : Die) (who : Initiator) (off : Nat) : Bool :=
  let b := off / 0x10000
  if who = .debug then decide (b = 0x16) || s.debugAt d (if b = 0x14 then 3 else 1)
  else if b = 0x14 then (match who with | .sealed _ => true | _ => false)
  else if b = 0x16 then who.isManager
  else true

/-- A read by an initiator, which latches what `latches` names; a latched word returns the latched value where there is one (R10). -/
def State.readAs (s : State) (d : Die) (who : Initiator) (off : Nat) (dux : Option Nat) : Word × State :=
  let v := (s.readReg d off dux).1
  let latch := fun (st : State) (o : Nat) => { st with held := tput st.held (heldKey d who o) (s.liveReg d o dux) }
  if isLatched off then ((tfind s.held (heldKey d who off)).getD v, s) else (v, (latches off).foldl latch s)

end Sys2Proof.Machine
end

