-- ==== Sys2Proof/Machine/Ethernet.lean ====
section
/-! DEFINITION. The commands of the Ethernet ports and MACs (spec/10). -/

namespace Sys2Proof.Machine

/-! ### Record (R420) -/

/-- The rules of a port record's body for port `p`. -/
def portBodyOk (p : Nat) (b : List Byte) : Bool :=
  let role := u8 b 1
  let fc := u8 b 2
  let fl := u8 b 3
  let pre := bitOf fl 3
  let eee := bitOf fl 2
  let plca := isSb p && decide (1 ≤ role)
  let fast := isMg p || isGe p
  decide (p < 24 ∧ b.length = 32 ∧ u8 b 0 % 2 = 1 ∧ u8 b 0 < 8 ∧ u8 b 0 / 2 ≤ (if isMg p then 2 else 0) ∧
    role ≤ (if isSb p then 2 else 1) ∧ fc ≤ (if isSb p then 0 else 2) ∧ fl < 64 ∧ u8 b 4 < 32) &&
  (fast || (!eee && !pre)) && (pre || !bitOf fl 4) && (!bitOf fl 5 || (isSb p && decide (role = 0))) &&
  decide (u8 b 5 ≤ (if pre then 3 else 0)) && (pre || decide (u8 b 6 = 0)) &&
  (decide (fc = 2) == decide (u8 b 7 ≠ 0)) && !bitOf (u8 b 8) 0 && decide (leBytes b 8 6 ≠ 0) &&
  (decide (fc ≠ 0) == decide (u16 b 0x0E ≠ 0)) &&
  (if eee then decide (1 ≤ u16 b 0x10 ∧ u16 b 0x10 ≤ 1000 ∧ u16 b 0x12 ≤ 1000) else decide (u16 b 0x10 = 0 ∧ u16 b 0x12 = 0)) &&
  (if isSb p ∧ role = 2 then decide (1 ≤ u8 b 0x14 ∧ u8 b 0x14 ≤ 254) else decide (u8 b 0x14 = 0)) &&
  (if isSb p ∧ role = 1 then decide (2 ≤ u8 b 0x15) else decide (u8 b 0x15 = 0)) &&
  (if plca then decide (1 ≤ u8 b 0x16 ∧ 1 ≤ u8 b 0x18) else decide (u8 b 0x16 = 0 ∧ u8 b 0x17 = 0 ∧ u8 b 0x18 = 0)) &&
  zeroBytes b 0x19 7

/-- What a port's record says of its ingress: the rate code, whether it honours back-pressure (R439), the classes under PFC. -/
structure PortPlan where
  rate : Nat := 0
  bp : Bool := false
  pfc : Nat := 0
  deriving DecidableEq, Repr

/-- The plan that the body of a port record gives. -/
def planOf (p : Nat) (b : List Byte) : PortPlan :=
  ⟨u8 b 0 / 2, if isSb p then decide (u8 b 1 = 0) && bitOf (u8 b 3) 5 else decide (u8 b 2 ≠ 0), if u8 b 2 = 2 then u8 b 7 else 0⟩

/-- The plan of a port: of its record that is still to be judged, which may be LATE, else of its registers. -/
def State.portPlan (s : State) (d : Die) (p : Nat) : PortPlan :=
  match lastRec (s.todo d) d 0x0601 p (fun r => portBodyOk p r.body) with
  | some r => planOf p r.body
  | none =>
    let mode := s.fld d (MAC_CFG p) MAC_CFG__FCMODE
    ⟨s.fld d (MAC_CFG p) MAC_CFG__RATE, s.bit d (MAC_CFG p) MAC_CFG__EN &&
      (if isSb p then decide (s.fld d (MAC_CFG p) MAC_CFG__ROLE = 0) && s.bit d (MAC_CFG p) MAC_CFG__FORCECOL
       else decide (mode ≠ 0)), if mode = 2 then s.fld d (MAC_FC p) MAC_FC__PFCMASK else 0⟩

/-- Whether a port honours back-pressure (R439). -/
def State.portBp (s : State) (d : Die) (p : Nat) : Bool := decide (24 ≤ p) || (s.portPlan d p).bp

/-- H_min of a port for a cable length in metres (R440). -/
def State.hMin (s : State) (d : Die) (p cable : Nat) : Nat :=
  let code := (s.portPlan d p).rate
  let dly := portDelay p code
  4064 + (portKbps p code * (10 * cable + dly % 2 ^ 16 + dly / 2 ^ 16) + 7999999) / 8000000

/-- The default headroom of an external port without a switch port record, 15 m of cable (R465). -/
def State.headDefault (s : State) (d : Die) (p : Nat) : State :=
  if (s.appliedSeq d ⟨0, 0x0702#16, 0#16, BitVec.ofNat 32 (0xC0000 + p), 0#32, []⟩ 0).isSome then s
  else s.setF d (SWC_PpHEAD p) SWC_PpHEAD__H (if s.portBp d p then s.hMin d p 15 else 0)

/-- The default XOFF of a port (R465). -/
def xoffDefault (p : Nat) : Nat :=
  if isMg p then 1024 else if isGe p then 384 else if isFe p then 128 else if isSb p then 64 else 2048

/-- XOFF in bytes plus headroom of a port: as its registers give it, its switch port record that is still to be judged, or the
defaults. -/
def State.portShare (s : State) (d : Die) (p : Nat) : Nat :=
  if s.rd d (SWC_PpQUOTA p) ≠ 0#32 then s.xoffAt d p + s.fld d (SWC_PpHEAD p) SWC_PpHEAD__H
  else match lastRec (s.todo d) d 0x0702 p (fun r => decide (r.body.length = 48)) with
    | some r => 256 * u16 r.body 8 + u16 r.body 12
    | none => 256 * xoffDefault p + (if p < 24 ∧ s.portBp d p = true then s.hMin d p 15 else 0)

/-- How often a port's share counts in the sum of R443: under PFC once per class of the mask and once more. -/
def State.portTimes (s : State) (d : Die) (p : Nat) : Nat :=
  1 + if p < 24 then ((List.range 8).filter (bitOf (s.portPlan d p).pfc)).length else 0

/-- Whether the egress memory holds every share, port `p` with the share `x` (R443). -/
def State.sharesOk (s : State) (d : Die) (p x : Nat) : Bool :=
  decide (((List.range 27).map (fun k => s.portTimes d k * (if k = p then x else s.portShare d k))).sum ≤ 4 * 2 ^ 20)

/-- PORT_RECORD (R420, R547): one that would overfill the egress memory is malformed (R443). The configuration is written, the rate and latency in force follow it, EEEWAKE takes the default, a
port without a gPTP record is a master until BMCA chooses (R469, R471, R496), and a PLCA coordinator is active while a follower waits for its BEACON. The headroom of a port
without a switch port record follows it (R465). Where the link is up already, for a die that comes back while its
partner runs, preemption starts as after link-up. -/
def execPortRecord (d : Die) (r : Rec) (s : State) : Out :=
  let b := r.body
  let p := r.inst
  let rate := u8 b 0 / 2
  .next (s.applyRec d r 0 false 0x0601 (goodIf (portBodyOk p b && s.sharesOk d 27 0 && s.defined d (u8 b 4))) (fun s =>
    let w := fun (st : State) (off x : Nat) => st.wr d off (BitVec.ofNat 32 x)
    let s1 := w (w (w s (MAC_ADDRL p) (u32 b 8)) (MAC_ADDRH p) (u16 b 12)) (MAC_CFG p)
      (u8 b 0 + 8 * u8 b 1 + 32 * u8 b 2 + 128 * u8 b 3 + 2 ^ 16 * u8 b 4)
    let s2 := w (w (w s1 (MAC_FC p) (u16 b 0x0E + 2 ^ 16 * u8 b 7)) (MAC_PREEMPT p) (u8 b 6 + 256 * u8 b 5)) (MAC_EEE p)
      (u16 b 0x10 + 2 ^ 16 * u16 b 0x12)
    let s3 := w (w (w s2 (MAC_EEEWAKE p) (u16 b 0x12)) (MAC_PLCA p)
      (u8 b 0x14 + 2 ^ 8 * u8 b 0x15 + 2 ^ 16 * u8 b 0x16 + 2 ^ 24 * u8 b 0x18)) (MAC_PLCAB p) (u8 b 0x17)
    let s4 := (w s3 (MAC_DLY p) (portDelay p rate)).setF d (MAC_STAT p) MAC_STAT__RATE rate
    let s5 := if isSb p then s4.setF d (MAC_STAT p) MAC_STAT__PLCAST (u8 b 1) else s4
    let s5 := if (tget {} (s5.vol.get d).tim.ports p).given then s5 else s5.setF d (TIM_GpSTAT p) TIM_GpSTAT__STATE 1
    let s6 := (s5.setF d (SWC_PpCFG p) SWC_PpCFG__BP (b2n (s5.portBp d p))).headDefault d p
    if (s6.port p).link then s6.macVerify d p else s6))

/-! ### Receiving (R394, R397, R409, R416, R417) -/

/-- Whether a MAC control frame is one the port's mode uses. -/
def State.ctlKnown (s : State) (d : Die) (p : Nat) (l : List Byte) : Bool :=
  let mode := s.fld d (MAC_CFG p) MAC_CFG__FCMODE
  (decide (be l 14 2 = 0x0001 ∧ mode = 1) && decide (l.take 6 = toBE 6 0x0180C2000001)) ||
    decide (be l 14 2 = 0x0101 ∧ mode = 2)

/-- The length of the receive FIFO of a MAC in bytes (R642). -/
def rxFifo : Nat := 32768

/-- A frame taken by the switch core: a good one forwarded, a bad one given to its receivers. -/
def State.coreFrame (s : State) (d : Die) (f : SwFrame) : State :=
  if f.err = 0 then s.forward d f.ingress 0 f.stamp f.len f.fcs f.bytes none else s.intake d f

/-- A frame given to the switch core by a MAC. In DROWSE it waits in the MAC's FIFO until the core runs (R642); one that finds no room
is lost. -/
def State.toCore (s : State) (d : Die) (f : SwFrame) : State :=
  if s.inRun then s.coreFrame d f
  else if ((s.mac d f.ingress).fifo.map (·.len)).sum + f.len ≤ rxFifo then
    s.updMac d f.ingress (fun m => { m with fifo := m.fifo ++ [f] })
  else s

/-- The frames that waited in the FIFOs of a die's MACs, taken by the switch core as it runs again. -/
def State.drainFifos (s : State) (d : Die) : State :=
  if !s.alive d then s else
  (List.range 24).foldl (fun st p =>
    (st.mac d p).fifo.foldl (fun st f => st.coreFrame d f) (st.updMac d p (fun m => { m with fifo := [] }))) s

/-- A good frame at a MAC: counted, and consumed as a control frame or forwarded by the switch core. -/
def State.macGood (s : State) (d : Die) (p stamp : Nat) (l : List Byte) (fcs : Nat) : State :=
  let n := l.length + 4
  let s1 := (s.macCounts d p [0, 1 + castOf l, sizeBin n]).addOctets d (MAC_RXOCTL p) (MAC_RXOCTH p) n
  if etherOf l = 0x8808 then
    if s.ctlKnown d p l then (s1.macCounts d p [17, if be l 14 2 = 1 then 18 else 19]).pauseAct d p l
    else s1.macCount d p 20
  else s1.toCore d ⟨0, p, 0, stamp, n, fcs, 0, l, none, [], 0, 0, false, 0⟩

/-- The counters of a bad frame. -/
def badCounts (n : Nat) (fcsOk sym reasm : Bool) : List Nat :=
  (if n < 64 then [if fcsOk then 11 else 12] else if 2000 < n then [if fcsOk then 13 else 14]
   else if fcsOk then [] else [15]) ++ (if sym then [16] else []) ++ (if reasm then [22] else [])

/-- A bad frame: counted, and given to the core for the host port, where the partition has ring 7, or the nibs as the port record says
(R416); each delivery is counted when it is made. -/
def State.macBad (s : State) (d : Die) (p stamp : Nat) (l : List Byte) (fcs : Nat) (n : Nat) (fcsOk sym reasm : Bool) : State :=
  let s1 := (s.macCounts d p (badCounts n fcsOk sym reasm)).addOctets d (MAC_RXBADOCTL p) (MAC_RXBADOCTH p) (min n 2000)
  let part := s.fld d (MAC_CFG p) MAC_CFG__PART
  let host := s.bit d (MAC_CFG p) MAC_CFG__BADHOST && s.hasRing d part 7
  let nib := s.bit d (MAC_CFG p) MAC_CFG__BADNIB
  if 14 ≤ n ∧ n ≤ 2000 ∧ (host ∨ nib) then
    let flags := b2n (!fcsOk) + 2 * b2n (decide (n < 64)) + 4 * b2n sym + 8 * b2n reasm
    s1.toCore d ⟨0, p, 7, stamp, n, fcs, flags, l, none, if nib then [25] else [], if host then 2 ^ part else 0, 0, true, 0⟩
  else s1

/-- A frame received at a MAC, FCS included. -/
def State.macReceive (s : State) (d : Die) (p stamp : Nat) (bytes : List Byte) (sym reasm : Bool) (frags : Nat) : State :=
  let n := bytes.length
  let l := bytes.take (n - 4)
  let fcs := u32 bytes (n - 4)
  let fcsOk := decide (4 ≤ n ∧ crc32 l = fcs)
  if !(s.alive d && s.bit d (MAC_CFG p) MAC_CFG__EN && (s.port p).link) then s
  else
    let s1 := s.macCounts d p (List.replicate frags 23)
    if 64 ≤ n ∧ n ≤ 2000 ∧ fcsOk ∧ sym = false ∧ reasm = false then s1.macGood d p stamp l fcs
    else s1.macBad d p stamp l fcs n fcsOk sym reasm

/-- MAC_FRAME_RECEIVE (R397). -/
def execMacFrameReceive (d : Die) (p : Fin 24) (bytes : List Byte) (sym reasm : Bool) (frags : BitVec 8)
    (stamp : BitVec 64) (s : State) : Out :=
  .next (s.macReceive d p stamp.toNat bytes sym reasm frags.toNat)

/-- PAUSE_RECEIVE (R410): the PAUSE or PFC frame with these fields is received good. -/
def execPauseReceive (d : Die) (p : Fin 24) (src : BitVec 48) (pfc : Bool) (enable : BitVec 8) (times : List (BitVec 16))
    (stamp : BitVec 64) (s : State) : Out :=
  let t := fun i => toBE 2 (times.getD i 0#16).toNat
  let l := padded (toBE 6 0x0180C2000001 ++ toBE 6 src.toNat ++ toBE 2 0x8808 ++
    (if pfc then toBE 2 0x0101 ++ toBE 2 enable.toNat ++ (List.range 8).flatMap t else toBE 2 1 ++ t 0))
  .next (s.macReceive d p stamp.toNat (l ++ toLE 4 (crc32 l)) false false 0)

/-- PAUSE_EXPIRY: a class's pause time ends (R410); a later pause time that replaced it goes on. -/
def execPauseExpiry (d : Die) (p : Fin 24) (cls : Fin 8) (s : State) : Out :=
  .next (if s.paused d p cls then s
    else (s.updMac d p (fun m => { m with pauseEnd := terase m.pauseEnd cls })).showPause d p)

/-- PAUSE_REPEAT: while XOFF holds, the frame is to be sent again (R411). -/
def execPauseRepeat (d : Die) (p : Fin 24) (s : State) : Out :=
  let bits := s.fld d (SWC_PpOCC p) SWC_PpOCC__XOFF
  .next (if bits = 0 ∨ s.fld d (MAC_CFG p) MAC_CFG__FCMODE = 0 ∨ (s.mac d p).ctl.contains (bits, true) then s
    else s.updMac d p (fun m => { m with ctl := m.ctl ++ [(bits, true)] }))

/-! ### Link and steering -/

/-- Whether a running die has the record of a port, which starts its PHY (R395). -/
def State.portOn (s : State) (p : Nat) : Bool :=
  (s.alive 0 && s.bit 0 (MAC_CFG p) MAC_CFG__EN) || (s.alive 1 && s.bit 1 (MAC_CFG p) MAC_CFG__EN)

/-- LINK_CHANGE (R395, R396, R414): only a port with a record has a link. -/
def execLinkChange (p : Fin 24) (up : Bool) (sqi : BitVec 3) (s : State) : Out :=
  .next (if up ∧ !s.portOn p then s
    else if (s.port p).link = up then s
    else if up then (s.updPort p (fun x => { x with link := true, sqi := sqi.toNat })).onDies (fun st d => st.macUp d p)
    else s.linkDown p)

/-- PORT_STEER_COMMAND (R399). -/
def execPortSteerCommand (p : Fin 24) (sender names : Die) (serial : BitVec 11) (s : State) : Out :=
  .next (s.portSteer p sender names serial.toNat)

/-- PORT_SELECTOR_CHANGE: at a frame boundary the waiting change is made; the frame being sent has completed (R400). The frame that the
core of the connected die has selected for the port is sent before it (R460), and so are the fragments of a preempted frame (R421). -/
def execPortSelectorChange (p : Fin 24) (s : State) : Out :=
  let e := (s.port p).die
  .next (match (s.port p).pend with
    | some d => if (s.mac e p).preempted.isSome || (s.swc e).awaiting.any (fun x => decide (x.port = p.val)) then s else (s.finishTx e p).portSwitch p d false
    | none => s)

/-- MAC_SILENT: the connected MAC has not driven for 2 µs, since its die does not run or its island 13 has stopped (R400). -/
def execMacSilent (p : Fin 24) (s : State) : Out :=
  let d := (s.port p).die
  .next (if s.alive d && s.clocked d 13 then s else s.portSilent p)

/-! ### Sending -/

/-- Whether the MAC of a die may send on a port: running, enabled, link up, connected. -/
def State.macConnected (s : State) (d : Die) (p : Nat) : Bool :=
  s.alive d && s.bit d (MAC_CFG p) MAC_CFG__EN && (s.port p).link && decide ((s.port p).die = d)

/-- A MAC that may send goes on (R402 to R406): a forced collision or another node's turn defers it, LPI ends and is waited out, and the next
frame or fragment starts. -/
def State.macNext (s : State) (d : Die) (p : Nat) : State :=
  let m := s.mac d p
  if s.bit d (MAC_STAT p) MAC_STAT__LPITX then (if s.ready d p then s.leaveLpi d p else s)
  else if m.wake.isSome || decide (s.ns d < m.holdTo) || s.plcaHolds d p then s
  else s.macSend d p

/-- MAC_TRANSMIT (R402, R403, R406): the frame before has completed and the MAC goes on, unless a busy medium defers it. With `frags` not 0
the frame being sent is preempted after 8 × `frags` bytes of its present fragment where that may be (R413), and what preempts it
starts. -/
def execMacTransmit (d : Die) (p : Fin 24) (busy : Bool) (frags : BitVec 8) (s : State) : Out :=
  .next (if !s.macConnected d p then s
    else if frags ≠ 0#8 then
      (if s.mayPreempt d p (8 * frags.toNat) then (s.preempt d p (8 * frags.toNat)).macNext d p else s)
    else
      let s1 := s.finishTx d p
      (if busy then (if isSb p ∧ s1.hasWork d p then s1.macCount d p 34 else s1) else s1.macNext d p).takeNibItems d 8)

/-- TRANSMIT_ECHO: the frame the connected MAC placed on the wire completes there, and the unconnected MAC of die `d`
compares its echo (R401). -/
def execTransmitEcho (d : Die) (p : Fin 24) (len : BitVec 16) (fcs : BitVec 32) (s : State) : Out :=
  .next (if (s.port p).die = d ∨ !s.alive d then s else (s.finishTx d.other p).echo d p len.toNat fcs.toNat)

/-- ECHO_TIMEOUT (R401). -/
def execEchoTimeout (d : Die) (p : Fin 24) (s : State) : Out :=
  .next (match (s.mac d p).echoes with
    | _ :: l => (s.updMac d p (fun m => { m with echoes := l })).shadowMis d p
    | [] => s)

/-- Whether a 10BASE-T1S port runs CSMA/CD: by its record, or fallen back from PLCA. -/
def State.csma (s : State) (d : Die) (p : Nat) : Bool :=
  isSb p && (decide (s.fld d (MAC_CFG p) MAC_CFG__ROLE = 0) || decide (s.fld d (MAC_STAT p) MAC_STAT__PLCAST = 2))

/-- The MAC gives up the frame being sent, and the copy of it that waits on the other die for its echo goes too. -/
def State.giveUp (s : State) (d : Die) (p : Nat) (f : MacFrame) : State :=
  (s.updMac d p (fun m => { m with tx := none, retry := none, attempts := 0 })).updMac d.other p (fun o => { o with
    deq := match o.deq.find? (fun g => decide (g.len = f.len ∧ g.fcs = f.fcs)) with | some g => o.deq.erase g | none => o.deq })

/-- COLLISION (R403): a late collision or the 16th attempt discards the frame, any other keeps it for its back-off. -/
def execCollision (d : Die) (p : Fin 24) (late : Bool) (s : State) : Out :=
  .next (match (s.mac d p).tx with
    | none => s
    | some f =>
      if !s.csma d p then s
      else
        let s1 := s.macCount d p 31
        let n := (s.mac d p).attempts + 1
        if late then (s1.giveUp d p f).macCount d p 32
        else if 16 ≤ n then (s1.giveUp d p f).macCount d p 33
        else s1.updMac d p (fun m => { m with tx := none, retry := some f, attempts := n }))

/-- FORCED_COLLISION (R404): the 32 bits of jam are counted, and the module's own frame, one that just starts too (R421), is deferred to the
end of the jammed frame and the inter-frame gap of 96 bits. -/
def execForcedCollision (d : Die) (p : Fin 24) (s : State) : Out :=
  .next (if s.macConnected d p ∧ isSb p ∧ s.fld d (MAC_CFG p) MAC_CFG__ROLE = 0 ∧ s.bit d (MAC_CFG p) MAC_CFG__FORCECOL ∧
      s.fld d (SWC_PpOCC p) SWC_PpOCC__XOFF ≠ 0 then
      let s1 := (s.macCount d p 35).updMac d p (fun m => { m with
        tx := none, retry := if m.tx.isSome then m.tx else m.retry, holdTo := s.ns d + s.bitsNs d p 128 })
      if s1.hasWork d p then s1.macCount d p 34 else s1
    else s)

/-- BEACON_LOSS: a follower that has seen no BEACON for 1,500 bit times falls back to CSMA/CD, after the frame it is sending (R405, R421). -/
def execBeaconLoss (p : Fin 24) (s : State) : Out :=
  .next (s.onDies (fun st d =>
    if isSb p ∧ st.fld d (MAC_CFG p) MAC_CFG__ROLE = 2 ∧ st.fld d (MAC_STAT p) MAC_STAT__PLCAST = 1 ∧
        (st.mac d p).beacon.all (fun t => decide (t + st.bitsNs d p 1500 ≤ st.ns d)) then
      ((((st.finishTx d p).updMac d p (fun m => { m with beacon := none })).setF d (MAC_STAT p) MAC_STAT__PLCAST 2).macCount d p 40).setF
        d (MAC_EVT p) MAC_EVT__PLCALOSS 1
    else st))

/-- Whether a PLCA cycle may start: for the coordinator, which sends the BEACON, once every node of its count has had its TO timer. -/
def State.beaconDue (s : State) (d : Die) (p : Nat) : Bool :=
  let nodes := if s.fld d (MAC_CFG p) MAC_CFG__ROLE = 1 then s.fld d (MAC_PLCA p) MAC_PLCA__COUNT else 0
  (s.mac d p).beacon.all (fun t => decide (t + s.bitsNs d p (nodes * s.fld d (MAC_PLCA p) MAC_PLCA__TO) ≤ s.ns d))

/-- BEACON: a PLCA cycle starts, by the module as coordinator or seen by it as follower; the port is active (R405). -/
def execBeacon (p : Fin 24) (s : State) : Out :=
  .next (s.onDies (fun st d =>
    if isSb p ∧ 1 ≤ st.fld d (MAC_CFG p) MAC_CFG__ROLE ∧ st.beaconDue d p = true then
      ((st.finishTx d p).updMac d p (fun m => { m with beacon := some (st.ns d), turn := 0 })).setF d (MAC_STAT p) MAC_STAT__PLCAST 1
    else st))

/-! ### Low-power idle (R406, R407) -/

/-- LPI_ENTRY: an idle port with EEE enters LPI. -/
def execLpiEntry (d : Die) (p : Fin 24) (s : State) : Out :=
  .next (if s.macConnected d p ∧ s.bit d (MAC_CFG p) MAC_CFG__EEEEN ∧ !s.bit d (MAC_STAT p) MAC_STAT__LPITX ∧ !s.hasWork d p then
      ((s.finishTx d p).setF d (MAC_STAT p) MAC_STAT__LPITX 1).macCount d p 36
    else s)

/-- LPI_WAKE_END: the wake time has passed and the MAC may send (R406). -/
def execLpiWakeEnd (d : Die) (p : Fin 24) (s : State) : Out :=
  .next (s.updMac d p (fun m => { m with wake := m.wake.filter (fun t => decide (s.ns d < t)) }))

/-- RECEIVE_LPI: on a link that is up the partner enters or leaves LPI; each entry is counted. -/
def execReceiveLpi (d : Die) (p : Fin 24) (enter : Bool) (s : State) : Out :=
  .next (if !(s.alive d && s.bit d (MAC_CFG p) MAC_CFG__EEEEN && (s.port p).link) then s
    else
      let s1 := s.setF d (MAC_STAT p) MAC_STAT__LPIRX (b2n enter)
      if enter ∧ !s.bit d (MAC_STAT p) MAC_STAT__LPIRX then s1.macCount d p 37 else s1)

/-- Whether an initiator may write a port's commands (R419). -/
def State.mayMac (s : State) (d : Die) (who : Initiator) (p : Nat) : Bool :=
  s.alive d && who.isOwner (s.fld d (MAC_CFG p) MAC_CFG__PART)

/-- EEEWAKE_WRITE (R407). -/
def execEeewakeWrite (d : Die) (who : Initiator) (p : Fin 24) (v : Word) (s : State) : Out :=
  .next (if s.mayMac d who p then s.setF d (MAC_EEEWAKE p) MAC_EEEWAKE__WAKE (v.toNat % 2 ^ 16) else s)

/-! ### Verification and commands (R414, R419) -/

/-- VERIFY_TIMEOUT: an answered verification makes preemption active; the third attempt without answer fails it. -/
def execVerifyTimeout (d : Die) (p : Fin 24) (answered : Bool) (s : State) : Out :=
  .next (match (s.mac d p).verify with
    | none => s
    | some n =>
      if answered then ((s.updMac d p (fun m => { m with verify := none })).setF d (MAC_STAT p) MAC_STAT__PREACT 1).macCmdDone d p
      else if n + 1 < 3 then s.updMac d p (fun m => { m with verify := some (n + 1) })
      else ((s.updMac d p (fun m => { m with verify := none })).setF d (MAC_EVT p) MAC_EVT__VERIFYFAIL 1).macCmdDone d p)

/-- MAC_RETRAIN: the port die takes the link down. -/
def execMacRetrain (d : Die) (who : Initiator) (p : Fin 24) (confirm : BitVec 8) (s : State) : Out :=
  .next (if s.mayMac d who p && decide (confirm = 0xC5#8) then
      (if (s.port p).link then s.linkDown p else s).setF d (MAC_CMDRES p) MAC_CMDRES__RESULT 1
    else s)

/-- MAC_REPEAT_VERIFY: the verification of the port starts from its first attempt, on the MACs of both dies, once the link is up;
refused without preemption. -/
def execMacRepeatVerify (d : Die) (who : Initiator) (p : Fin 24) (confirm : BitVec 8) (s : State) : Out :=
  .next (if s.mayMac d who p && decide (confirm = 0xC5#8) then
      if s.bit d (MAC_CFG p) MAC_CFG__PREEN then
        (s.onDies (fun st e => if (st.port p).link then
            (st.updMac e p (fun m => { m with verify := some 0 })).setF e (MAC_STAT p) MAC_STAT__PREACT 0 else st)).setF d (MAC_CMDRES p)
          MAC_CMDRES__RESULT 1
      else s.setF d (MAC_CMDRES p) MAC_CMDRES__RESULT 2
    else s)

end Sys2Proof.Machine
end

