-- ==== Sys2Proof/Machine/NibSig.lean ====
section
/-! DEFINITION. The stream, signal and mailbox instructions of the nib (R238, R241, R291 to R298), and what the gateway
does with an item a nib sends (R321, R339, R340). -/

namespace Sys2Proof.Machine

/-! ### Items -/

/-- Where slot `i` of a partition's inbound ring lies (R335). -/
def State.inSlotAddr (s : State) (d : Die) (p i : Nat) : Nat :=
  s.rd64 d (SGW_PpIBASEL p) (SGW_PpIBASEH p) +
    i % 2 ^ s.fld d (SGW_PpGEOM p) SGW_PpGEOM__ISLOTS * 2 ^ s.fld d (SGW_PpGEOM p) SGW_PpGEOM__ISLOT

/-- An item with the header fields the SGW fills: the sequence of items sent to the partition and the stream time of the
sending nib (R336). -/
def stampItem (bytes : List Byte) (seq time : Nat) : List Byte :=
  bytes.take 4 ++ toLE 4 seq ++ toLE 8 time ++ bytes.drop 16

/-- Whether a nib keeps step with its twin, so that both send the same items: its cluster is in authority or in shadow, or rejoins and the
nib has the state of the cut (R254, R340). -/
def State.nibFollows (s : State) (n : NibId) : Bool :=
  s.alive n.d && (decide (s.clState n.d n.c.val = 3 ∨ s.clState n.d n.c.val = 4) ||
    (decide (s.clState n.d n.c.val = 5) && decide ((s.nib n).run ≠ .unassigned)))

/-- One CRC of an item to a partition against the twin's (R340): kept until the twin sends its own; a difference is recorded as class
0x06 with the descriptor of the first record as subject. -/
def State.compareItem (s : State) (n : NibId) (box p crc first : Nat) : State :=
  let key := ((p * 8 + n.c.val) * 32 + n.k.val) * 16 + box
  match tget [] (s.vol.get n.d.other).gw.crcs key with
  | (c, _) :: rest =>
    let s1 := s.updGw n.d.other (fun g => { g with crcs := tset [] g.crcs key rest })
    if c = crc then s1 else s1.recordBoth 0x0900 0x06 first 0 0
  | [] => s.updGw n.d (fun g => { g with crcs := tupd [] g.crcs key (fun l => l ++ [(crc, first)]) })

/-- An item to a partition (R336, R340): the authority's is written into the inbound ring of each running die's copy of the
partition memory and counted in ITAIL; the first item since die reset carries Sequence 0, and an item longer than the inbound slot is dropped whole,
its credit returned (the model's choices, log entry 116); its place is noted on both dies, so the credit of either sender returns when IHEAD passes it. The
other cluster's item is only compared by CRC-32. A write the guard refuses drops the item and sets INDENY. -/
def State.inboundPut (s : State) (n : NibId) (box p : Nat) (bytes : List Byte) (time : Nat) : State :=
  let d := n.d
  let slot := 2 ^ s.fld d (SGW_PpGEOM p) SGW_PpGEOM__ISLOT
  let idx := (s.rd d (SGW_PpITAIL p)).toNat
  let seq := tget 0 (s.vol.get d).gw.sent p
  let s0 := if s.nibFollows n && s.nibFollows (twinOf n) then s.compareItem n box p (crc32 bytes) (u32 bytes 16) else s
  if !s.bit d (SGW_PpGEOM p) SGW_PpGEOM__USED ∨ slot < bytes.length then s0.creditBack d n.c.val n.k.val box
  else if !s.hasAuth d n.c.val then s0
  else if !s.memAdmits d (s.inSlotAddr d p idx) bytes.length { init := 3, part := p } .write then
    let back := fun (st : State) (e : Die) => if st.alive e then st.creditBack e n.c.val n.k.val box else st
    back (back ((s0.memRefuse d (s.inSlotAddr d p idx) { init := 3, part := p } .write).setF d (SGW_PpSTAT p)
      SGW_PpSTAT__INDENY 1) 0) 1
  else
    let put := fun (st : State) (e : Die) =>
      if st.alive e then
        (((st.dmaPut e (st.inSlotAddr e p idx) (stampItem bytes seq time)).wr e (SGW_PpITAIL p)
          (BitVec.ofNat 32 (idx + 1))).fire e (0x190 + p)).updGw e (fun g => { g with
            inItems := g.inItems ++ [⟨p, idx, n.c.val, n.k.val, box⟩], sent := tset 0 g.sent p ((seq + 1) % 2 ^ 32) })
      else st
    put (put s0 0) 1

/-- The PDU an item names, when it is a PDU item the SGW accepts (R321): a transmit entry of the mailbox's kind and target
and of the item's length; an ACF entry needs a port record (R358). -/
def State.pduItem (s : State) (d : Die) (kind target : Nat) (bytes : List Byte) : Option Nat :=
  let i := u32 bytes 0 - 2 ^ 31
  let v := s.pdu d i
  if i < 65536 ∧ pDir v = 2 ∧ bytes.length = 4 + pLength v ∧
      ((kind = 2 ∧ ((pKind v = 0 ∧ target = pPort v) ∨ (pKind v = 1 ∧ target = 16 + pPort v))) ∨
       (kind = 1 ∧ pKind v = 2 ∧ target = pPort v ∧ s.bit d (SGW_AkCFG (pPort v)) SGW_AkCFG__USED)) then some i else none

/-- LASTSTAMP and TXSEQ of a PDU after a send (R321). -/
def State.pduSent (s : State) (d : Die) (i time : Nat) : State :=
  s.putBytes d (pduAddr i + 20) (toLE 8 time ++ toLE 4 (pTxSeq (s.pdu d i) + 1))

/-- An item sent to a mailbox target (R241, R298, R321, R340). A message to another nib becomes an entry of that nib, and its credit
comes back when the nib takes it; items for controllers reach them at once, items for ports
wait until the switch core takes them. -/
def State.sendItem (s : State) (n : NibId) (box : Nat) (bytes : List Byte) : State :=
  let x := s.nib n
  let b := tget {} x.boxes box
  let d := n.d
  let put := fun (st : State) (pdu : Option Nat) =>
    let i : TxItem := ⟨b.kind, b.target, n.c.val, n.k.val, box, x.time, bytes, pdu⟩
    if b.kind = 2 then st.toController d i
    else (st.updGw d (fun g => { g with items := g.items ++ [i] })).takeNibItems d 1
  if b.kind = 4 then
    s.streamHold d (b.target / 32) (0x400 + n.c.val * 32 + n.k.val) (s.ns d) bytes false (some (b.target % 32, box))
  else if b.kind = 3 then s.inboundPut n box b.target bytes x.time
  else if 4 ≤ bytes.length ∧ 2 ^ 31 ≤ u32 bytes 0 then
    match s.pduItem d b.kind b.target bytes with
    | some i =>
      let t := s.pduSent d i x.time
      put t (some (t.pdu d i))
    | none => (s.addSat d SGW_BADITEM SGW_BADITEM__COUNT 1).creditBack d n.c.val n.k.val box
  else put s none

/-- The bytes of the staging buffer. -/
def Nib.staged (x : Nib) (len : Nat) : List Byte := (List.range len).map (fun i => tget 0#8 x.staging i)

/-- MBX.PUT: the first rs bytes of the staging buffer to mailbox m, for one credit; a length above 2,048 raises cause
0x03, no credit cause 0x08 (R241, R298). -/
def execMbxPut (n : NibId) (w : Word) (ecc : EccFind) (s : State) : Out :=
  .next (s.nibInstr n w ecc (opSig 0x21 false true true) .plain (nibKnown w) (fun _ => true) (fun s =>
    let x := s.nib n
    let len := (x.reg (wRs w)).toNat
    let m := wRt w
    if 2048 < len then .raise s 3 (0xC0001000 + len) 0
    else if (tget {} x.boxes m).held = 0 then .raise s 8 m 0
    else .done ((s.updNib n (fun x => { x with
      boxes := tupd {} x.boxes m (fun b => { b with held := b.held - 1 }) })).sendItem n m (x.staged len))))

/-! ### The stream -/

/-- The credit of a nib message that a nib of the die has taken, back to its sender (R241). -/
def State.msgTaken (s : State) (d : Die) (e : StreamEntry) : State :=
  match e.box with
  | some b => s.creditBack d ((e.src - 0x400) / 32) (e.src % 32) b
  | none => s

/-- MBX.GET: takes the next delivered entry and writes rd with its source, or blocks; a halt or cut entry at the head is
met first (R238, R250). -/
def State.mbxGet (s : State) (n : NibId) (rd : Nat) : NibDo :=
  let t := s.meetControl n
  let x := t.nib n
  if x.run = .haltedCmd then .hold t
  else match firstTaken x.queue with
    | none => .hold (t.updNib n (fun x => { x with run := .inGet, wdogHit := false }))
    | some e => .done ((t.updNib n (fun x => (x.takeEntry e).setReg rd (BitVec.ofNat 32 e.src))).msgTaken n.d e)

/-! ### Descriptors, shadows and fan-out entries -/

/-- Whether the signal store's guard admits a nib's access (R566). -/
def State.sigOk (s : State) (n : NibId) (a len : Nat) (k : AccKind) : Bool := s.admits n.d 3 a len (nibTags n) k

/-- Whether a nib may read a descriptor: from a cached line, or past the guard. -/
def State.descOk (s : State) (n : NibId) (i : Nat) : Bool :=
  ((s.cl n.d n.c.val).cacheWay i).isSome || s.sigOk n (descAddr i) 16 .read

/-- What an ECC error leaves where a SIG instruction reads entry `i` at `a` of the store (R222, R350): a cached descriptor's in the
cache, for DSC.LD.S too, which reads it beside the shadow; another read's in the store; none where cause 0x04 is raised. -/
def State.sigEcc (s : State) (n : NibId) (a i : Nat) (k : AccKind) (ecc : EccFind) : Option State :=
  let line := decide (a = descAddr i) || (decide (a = shadowAddr i ∧ k = .read) && decide (ecc = .correctedLine ∨ ecc = .badLine))
  if line && ((s.cl n.d n.c.val).cacheWay i).isSome then some (s.cacheEcc n i ecc)
  else if k = .write then some s
  else s.storeEcc n a ecc

/-- The frame of a SIG instruction whose rs holds an index below a bound; beyond it cause 0x03 is raised with the value
(R291). Of several reasons for cause 0x03, EADDR shows the rs index first, then the guard's address, then the rt offset: the model's order
(log entry 110). `addr` is the store address it reads or writes, `k` how and `ok` whether the guard admits it (R566); `pre` is a check of cause
0x03 that comes before data ECC (R246). An error in a cached descriptor or in the store is handled as R222 and R350 say. -/
def State.nibSig (s : State) (n : NibId) (w : Word) (ecc : EccFind) (op : NibOp) (bound : Nat) (addr : Nat → Nat)
    (k : AccKind) (ok : State → Nat → Bool) (body : State → Nat → NibDo) (pre : State → Nat → Option Nat := fun _ _ => none) :
    State :=
  s.nibInstr n w ecc op .plain (nibKnown w) (fun _ => true) (fun s =>
    let i := ((s.nib n).reg (wRs w)).toNat
    if bound ≤ i then .raise s 3 i 0
    else if !ok s i then .raise (s.guardRefuse n.d 3 (addr i) (nibTags n) k) 3 (addr i) 0
    else match pre s i with
      | some a => .raise s 3 a 0
      | none =>
        match s.sigEcc n (addr i) i k ecc with
        | none => .raise s 4 (addr i) 3
        | some t => if !ok t i then .raise (t.guardRefuse n.d 3 (addr i) (nibTags n) k) 3 (addr i) 0 else body t i)

/-- A payload bit of the current entry (R292). -/
def Nib.payloadBit (x : Nib) (p : Nat) : Bool := bitOf (x.payloadByte (p / 8)).toNat (p % 8)

/-- The length of the current entry's payload. -/
def Nib.payloadLen (x : Nib) : Nat := match x.cur with | some e => e.payload.length | none => 0

/-- DSC.LD.U: acc = the descriptor's field of the current entry, rd = its fan-out index; Z all ones, C past LEN (R291,
R292). -/
def execDscLdU (n : NibId) (w : Word) (ecc : EccFind) (s : State) : Out :=
  .next (s.nibSig n w ecc (opSig 0 true true false) 262144 descAddr .read
    (fun s i => s.descOk n i) (fun s i =>
    let r := s.descRead n.d n.c.val i
    let v := r.1
    let ps := fieldPos (dMsb v) (dStart v) (dLen v)
    .done (r.2.updNib n (fun x =>
      let raw := gather x.payloadBit ps
      let x1 := { x with acc := BitVec.ofNat 64 (extend64 (dSigned v) (dLen v) raw) }
      (x1.setReg (wRd w) (BitVec.ofNat 32 (dFanout v))).setFlags { x.flags with
        z := decide (raw = 2 ^ dLen v - 1), c := !inBounds (8 * x.payloadLen) ps }))))

/-- The status word of a shadow (R293): VALID, STALE. -/
def State.shadowStatus (s : State) (d : Die) (i fresh time : Nat) : Bool × Bool :=
  (bitOf (s.tag d i) 31, tagStale (s.tag d i) fresh time)

/-- DSC.LD.S: acc = the shadow value, rd = its status, Z when not usable (R293). -/
def execDscLdS (n : NibId) (w : Word) (ecc : EccFind) (s : State) : Out :=
  .next (s.nibSig n w ecc (opSig 1 true true false) 262144 shadowAddr .read
    (fun s i => s.descOk n i && s.sigOk n (shadowAddr i) 8 .read) (fun s i =>
    let r := s.descRead n.d n.c.val i
    let st := s.shadowStatus n.d i (dFresh r.1) (s.nib n).time
    .done (r.2.updNib n (fun x =>
      let x1 := { x with acc := BitVec.ofNat 64 (s.shadow n.d i) }
      (x1.setReg (wRd w) (BitVec.ofNat 32 (b2n st.1 + 2 * b2n st.2))).setFlags { x.flags with z := !st.1 || st.2 }))))

/-- DSC.LD.P: one word of a PDU entry (R291). -/
def execDscLdP (n : NibId) (w : Word) (ecc : EccFind) (s : State) : Out :=
  .next (s.nibSig n w ecc (opSig 2 true true true) 65536 pduAddr .read
    (fun s i => s.sigOk n (pduAddr i) 32 .read) (fun s i =>
    s.nibSelf n (fun x => x.setReg (wRd w)
      (BitVec.ofNat 32 (s.leAt n.d (pduAddr i + 4 * ((x.reg (wRt w)).toNat % 8)) 4)))))

/-- DSC.LD.F: one word of a fan-out entry (R291). -/
def execDscLdF (n : NibId) (w : Word) (ecc : EccFind) (s : State) : Out :=
  .next (s.nibSig n w ecc (opSig 3 true true true) 262144 fanAddr .read
    (fun s i => s.sigOk n (fanAddr i) 16 .read) (fun s i =>
    s.nibSelf n (fun x => x.setReg (wRd w)
      (BitVec.ofNat 32 (s.leAt n.d (fanAddr i + 4 * ((x.reg (wRt w)).toNat % 4)) 4)))))

/-- The physical value of a raw value under a class 1 descriptor, and whether it clamped (R294). -/
def scaleIn (desc : Nat) (raw : Int) : Int × Bool :=
  let phys := (raw * dM desc + dO desc) * 2 ^ (32 + dE desc).toNat
  (clampTo (-(2 ^ 63)) (2 ^ 63 - 1) phys, decide (phys < -(2 ^ 63) ∨ 2 ^ 63 - 1 < phys))

/-- The range step of R295 on a value: the value kept in the field's range, whether it clamped, whether it wrapped. -/
def rangeStep (fan : Nat) (q : Int) : Int × Bool × Bool :=
  let l := fLen fan
  let lo : Int := if fSigned fan then -(2 ^ (l - 1)) else 0
  let hi : Int := if fSigned fan then 2 ^ (l - 1) - 1 else 2 ^ l - 1
  if lo ≤ q ∧ q ≤ hi then (q, false, false)
  else if fSat fan then (clampTo lo hi q, true, false)
  else ((if fSigned fan then toSigned l (ofSigned l q) else (ofSigned l q : Int)), false, true)

/-- The target raw value of a physical value under a fan-out entry (R295). -/
def scaleOut (fan : Nat) (phys : Int) : Int × Bool × Bool :=
  rangeStep fan (roundAway (phys * fMt fan) (32 - fEt fan).toNat + fOt fan)

/-- SCL.I: class 1 scales acc, sets V and S when it clamps and clears C; other classes leave acc, set C and clear V
(R294). -/
def execSclI (n : NibId) (w : Word) (ecc : EccFind) (s : State) : Out :=
  .next (s.nibSig n w ecc (opSig 8 false true false) 262144 descAddr .read
    (fun s i => s.descOk n i) (fun s i =>
    let r := s.descRead n.d n.c.val i
    .done (r.2.updNib n (fun x =>
      if dClass r.1 = 1 then
        let p := scaleIn r.1 x.acc.toInt
        let a := BitVec.ofInt 64 p.1
        let x1 := { x with acc := a }.clampS p.2
        x1.setFlags { x1.flags.accZnv a p.2 with c := false }
      else x.setFlags { x.flags.accZnv x.acc false with c := true }))))

/-- SCL.O: acc as the target raw value of a fan-out entry; V and S when it saturates, C when it wraps (R295). -/
def execSclO (n : NibId) (w : Word) (ecc : EccFind) (s : State) : Out :=
  .next (s.nibSig n w ecc (opSig 9 false true false) 262144 fanAddr .read
    (fun s i => s.sigOk n (fanAddr i) 16 .read) (fun s i =>
    let p := scaleOut (s.fan n.d i) (s.nib n).acc.toInt
    s.nibSelf n (fun x =>
      let a := BitVec.ofInt 64 p.1
      let x1 := { x with acc := a }.clampS p.2.1
      x1.setFlags { x1.flags.accZnv a p.2.1 with c := p.2.2 })))

/-- DSC.ST.S: acc stored as the shadow value on the nib's own die, valid and stamped with stream time (R297, R310). -/
def execDscStS (n : NibId) (w : Word) (ecc : EccFind) (s : State) : Out :=
  .next (s.nibSig n w ecc (opSig 0x10 false true false) 262144 shadowAddr .write
    (fun s i => s.sigOk n (shadowAddr i) 8 .write) (fun s i =>
    .done (s.storeShadow n.d i (s.nib n).acc.toNat (s.nib n).time)))

/-- DSC.ST.X: the shadow marked invalid (R297, R310). -/
def execDscStX (n : NibId) (w : Word) (ecc : EccFind) (s : State) : Out :=
  .next (s.nibSig n w ecc (opSig 0x11 false true false) 262144 shadowAddr .write
    (fun s i => s.sigOk n (shadowAddr i) 8 .write) (fun s i => .done (s.dropShadow n.d i)))

/-- A field put into a byte buffer at a byte offset (R296). -/
def putField (t : Table Byte) (off v : Nat) (ps : List Nat) : Table Byte :=
  let rec go (t : Table Byte) (v : Nat) : List Nat → Table Byte
    | [] => t
    | p :: ps =>
      let i := off + p / 8
      go (tset 0#8 t i (BitVec.ofNat 8 (withBit (tget 0#8 t i).toNat (p % 8) (decide (v % 2 = 1))))) (v / 2) ps
  go t v ps

/-- A staging offset beyond the buffer, which raises cause 0x03 (R296). -/
def State.stageOff (s : State) (n : NibId) (w : Word) : Option Nat :=
  let off := ((s.nib n).reg (wRt w)).toNat
  if 2048 ≤ off then some off else none

/-- The field of the staging buffer a fan-out entry names, written (R296). -/
def State.stageField (s : State) (n : NibId) (w : Word) (i v : Nat) : NibDo :=
  let f := s.fan n.d i
  let off := ((s.nib n).reg (wRt w)).toNat
  let ps := fieldPos (fMsb f) (fStart f) (fLen f)
  if !inBounds (8 * (2048 - off)) ps then .raise s 3 0xC0001800 0
  else s.nibSelf n (fun x => { x with staging := putField x.staging off v ps })

/-- DSC.ST.P: the low bits of acc into the field (R296). -/
def execDscStP (n : NibId) (w : Word) (ecc : EccFind) (s : State) : Out :=
  .next (s.nibSig n w ecc (opSig 0x12 false true true) 262144 fanAddr .read
    (fun s i => s.sigOk n (fanAddr i) 16 .read) (fun s i => s.stageField n w i (s.nib n).acc.toNat)
    (fun s _ => s.stageOff n w))

/-- DSC.ST.O: all ones into the field (R296). -/
def execDscStO (n : NibId) (w : Word) (ecc : EccFind) (s : State) : Out :=
  .next (s.nibSig n w ecc (opSig 0x13 false true true) 262144 fanAddr .read
    (fun s i => s.sigOk n (fanAddr i) 16 .read) (fun s i => s.stageField n w i (2 ^ 64 - 1))
    (fun s _ => s.stageOff n w))

end Sys2Proof.Machine
end

