-- ==== Sys2Proof/Machine/Gateway.lean ====
section
/-! DEFINITION. The signal gateway's commands (spec/08): block records and their entry rules (R311 to R317, R354 to R360),
partition rings (R335 to R340), table changes at run time (R342 to R347), scrub, copy and repair (R348 to R350). -/

namespace Sys2Proof.Machine

/-! ### Entry rules -/

/-- The rules of one PDU entry (R311, R312). -/
def pduRule (v : Nat) : Bool :=
  let tx := decide (pDir v = 2)
  decide (pDir v ≠ 3 ∧ pKind v ≠ 3 ∧ pTrig v ≠ 3 ∧ ebits v 11 11 = 0 ∧ ebits v 159 158 = 0) &&
  (decide (pDir v = 0) ||
    ((match pKind v with
      | 0 => decide (pPort v < 16 ∧ pBus v = 0 ∧ pAcf v = 0) &&
          (if pXlf v then decide (1 ≤ pLength v ∧ pLength v ≤ 2040) && !pIde v && decide (pIdent v < 0x800)
           else if tx && !pFdf v then decide (pLength v ≤ 8) else fdLength (pLength v))
      | 1 => decide (pPort v < 12 ∧ pBus v = 0 ∧ pAcf v = 0 ∧ 1 ≤ pLength v ∧ pLength v ≤ 8 ∧ pIdent v < 64) && !pXlf v
      | _ => decide (pPort v < 24 ∧ pAcf v ≠ 3) && !pXlf v &&
          (if pAcf v = 2 then decide (1 ≤ pLength v ∧ pLength v ≤ 8) else decide (pLength v ≤ 64))) &&
     (if tx then
        (if pTrig v = 0 then decide (pCycle v = 0 ∧ pOffset v = 0) else decide (1000 ≤ pCycle v)) &&
          decide (ebits v 255 160 = 0)
      else decide (pTrig v = 0 ∧ ebits v 95 72 = 0 ∧ ebits v 127 96 = 0 ∧ ebits v 255 160 = 0))))

/-- The rules of one descriptor against the PDU table of a die (R314, R315). -/
def State.descRule (s : State) (d : Die) (v : Nat) : Bool :=
  let src := dSource v
  decide (src < 65536 ∨ 0xFFFE0 ≤ src) && decide (dClass v ≠ 3 ∧ dPolicy v ≤ 2 ∧ ebits v 3 1 = 0) &&
  decide (dFanout v = 0xFFFFF ∨ dFanout v < 262144) &&
  (if src < 65536 then inBounds (8 * pLength (s.pdu d src)) (fieldPos (dMsb v) (dStart v) (dLen v)) else true) &&
  (match dClass v with
   | 0 => decide (dM v = 0 ∧ dE v = 0 ∧ dO v = 0)
   | 2 => decide (0 ≤ dM v ∧ 1 ≤ dO v ∧ dE v = 0 ∧ 8 * (dM v + dO v) ≤ 0x3F000)
   | _ => true)

/-- The single-entry rules of a fan-out entry (R316). -/
def fanRule (v : Nat) : Bool :=
  decide (ebits v 13 1 = 0) && (!fLast v || decide (fNext v = 0)) && (!fKind v || decide (fTarget v < 32))

/-- Table codes of SGW_ECMD: entry size, entry count, address, and the rule of an entry. -/
def tableSize (t : Nat) : Nat := if t = 2 then 32 else 16
def tableCount (t : Nat) : Nat := if t = 2 then 65536 else 262144
def tableAddr (t i : Nat) : Nat := if t = 0 then descAddr i else if t = 1 then fanAddr i else pduAddr i
def State.tableRule (s : State) (d : Die) (t v : Nat) : Bool :=
  if t = 0 then s.descRule d v else if t = 1 then fanRule v else pduRule v

/-- The table code of a mirrored port that is one of the gateway's tables (R41). -/
def portTable? : MirrorPort → Option Nat
  | .descriptor => some 0
  | .fanOut => some 1
  | .pdu => some 2
  | _ => none

/-- The mirrored port of a table code. -/
def tablePort (t : Nat) : MirrorPort := if t = 0 then .descriptor else if t = 1 then .fanOut else .pdu

/-- The table code of a port of the signal gateway's tables. -/
def portTable (p : MirrorPort) : Nat := (portTable? p).getD 2

/-! ### Block records -/

/-- Whether a rejoining die passes the write of a LATE record over (R66, R349). -/
def State.passedOver (s : State) (d : Die) (r : Rec) : Bool :=
  r.late && s.isSealed d.other && s.alive d.other && !s.apart

/-- An effect on the loader's own die, or on both dies when a LATE record goes through a mirrored port (R66). -/
def State.mirrorLate (s : State) (d : Die) (r : Rec) (f : State → Die → State) : State :=
  if s.passedOver d r then s
  else if r.late then
    let s1 := f s d
    if s1.joint d then f s1 d.other else s1
  else f s d

/-- The entry at place `i` of a block record. -/
def blockEntry (r : Rec) (size i : Nat) : List Byte := (r.body.drop (8 + size * i)).take size

/-- Whether the partition that an entry names is defined: the writer of a signal, the target of a report (R547). -/
def State.entryDefined (s : State) (d : Die) (t v : Nat) : Bool :=
  if t = 0 then decide (dSource v < 0xFFFE0) || s.defined d (dSource v % 32)
  else if t = 1 then !fKind v || s.defined d (fTarget v % 32)
  else true

/-- The judgement of a block record (R354): its form, and every entry's rules. -/
def State.blockJudge (s : State) (d : Die) (r : Rec) (t : Nat) : Judged :=
  let size := tableSize t
  let first := u32 r.body 0
  let count := u32 r.body 4
  goodIf (decide (r.inst = 0 ∧ 1 ≤ count ∧ first + count ≤ tableCount t ∧ r.body.length = 8 + count * size) &&
    (List.range count).all (fun i =>
      let v := leBytes (blockEntry r size i) 0 size
      s.tableRule d t v && s.entryDefined d t v))

/-- A block record writes each entry that none of a higher sequence number has written, a LATE descriptor record with a mirrored
invalidation of each (R354, R360). -/
def State.blockWrite (s : State) (d : Die) (r : Rec) (t : Nat) : State :=
  let first := u32 r.body 0
  (List.range (u32 r.body 4)).foldl (fun st i => st.putEntry d r (first + i) (fun st => st.mirrorLate d r (fun st e =>
    let st1 := st.putBytes e (tableAddr t (first + i)) (blockEntry r (tableSize t) i)
    if t = 0 ∧ r.late then st1.dropLines e (some (first + i)) else st1))) s

/-- The loader's check of the receive entries (R313, R355): the first receive index whose key does not exceed the one before, or that
lies past an index that is none; looked for up to a bound. -/
def State.keyOrder (s : State) (d : Die) : Nat → Nat → Option Nat
  | 0, _ => none
  | n + 1, i =>
    if pDir (s.pdu d i) = 1 ∧ 0 < i ∧ (pDir (s.pdu d (i - 1)) ≠ 1 ∨ pKey (s.pdu d i) ≤ pKey (s.pdu d (i - 1))) then some i
    else s.keyOrder d n (i + 1)

/-- The record of a key out of order, class 0x12 with the index as subject (R355). -/
def State.checkKeys (s : State) (d : Die) : State :=
  match s.keyOrder d 65536 0 with
  | some i => s.record d 0x0900 0x12 i 0 0
  | none => s

/-- DESCRIPTOR_BLOCK_RECORD, FAN_OUT_BLOCK_RECORD, PDU_BLOCK_RECORD (R354). -/
def execDescriptorBlockRecord (d : Die) (r : Rec) (s : State) : Out :=
  .next (s.applyRec d r r.seq.toNat false 0x0401 (s.blockJudge d r 0) (fun s => s.blockWrite d r 0))
def execFanOutBlockRecord (d : Die) (r : Rec) (s : State) : Out :=
  .next (s.applyRec d r r.seq.toNat false 0x0402 (s.blockJudge d r 1) (fun s => s.blockWrite d r 1))
def execPduBlockRecord (d : Die) (r : Rec) (s : State) : Out :=
  .next (s.applyRec d r r.seq.toNat false 0x0403 (s.blockJudge d r 2) (fun s => s.blockWrite d r 2)
    |>.afterLast s d r (fun q => decide (q.typ.toNat = 0x0403) && !q.lateStep) (fun t => t.checkKeys d))

/-- GATEWAY_RECORD: the nibs of the mask run the gateway program; the tick it names must have a tick record of 100 to 1,000 µs,
which is still to be judged (R356). A nib a program record names runs that program. -/
def execGatewayRecord (d : Die) (r : Rec) (s : State) : Out :=
  let b := r.body
  .next (s.applyRec d r 0 false 0x0404
    (goodIf (decide (r.inst < 8 ∧ b.length = 16 ∧ u32 b 0 < 2 ^ 30 ∧ u8 b 4 < 15 ∧ u8 b 5 = 0 ∧ 16 ≤ u16 b 6 ∧
      u16 b 6 ≤ 512 ∧ 1 ≤ u16 b 8 ∧ u16 b 8 ≤ 1000) && !r.late && zeroBytes b 10 6 &&
      !(bitOf (u32 b 0) 29 && s.controls d r.inst) && decide (s.depths d r.inst (u32 b 0) (u16 b 6) ≤ 4096) &&
      decide (100000 ≤ s.tickAhead d r.inst (u8 b 4) ∧ s.tickAhead d r.inst (u8 b 4) ≤ 1000000)))
    (fun s => s.updCl d r.inst (fun x => { x with
      gwTick := some (u8 b 4),
      nibs := (List.range 30).foldl (fun t k =>
        if bitOf (u32 b 0) k then tupd {} t k (fun y =>
          if y.prog = .record then y else { y with prog := .gateway, depth := u16 b 6, wdog := u16 b 8 })
        else tupd {} t k (fun y => if y.prog = .gateway then { y with prog := .none, depth := 0 } else y)) x.nibs })))

/-- The size of a ring. -/
def ringSize (slot slots : Nat) : Nat := 2 ^ (slot + slots)

/-- Whether DRAM holds a range and a guard region grants it to a partition's duplex (R357). -/
def State.ringOk (s : State) (d : Die) (p base size : Nat) : Bool :=
  decide (base % size = 0 ∧ 0x100000000 ≤ base ∧ base + size ≤ 0x300000000) &&
    (s.admits d 0 base size { init := 0, part := p } .read || s.admits d 0 base size { init := 0, part := p, hyp := true } .read)

/-- PARTITION_MAILBOX_RECORD (R357, R547). -/
def execPartitionMailboxRecord (d : Die) (r : Rec) (s : State) : Out :=
  let b := r.body
  .next (s.applyRec d r 0 false 0x0405
    (goodIf (decide (r.inst < 32 ∧ b.length = 24) && s.defined d r.inst && decide (6 ≤ u8 b 16 ∧ u8 b 16 ≤ 11 ∧ 4 ≤ u8 b 17 ∧ u8 b 17 ≤ 12 ∧ 6 ≤ u8 b 18 ∧
      u8 b 18 ≤ 11 ∧ 4 ≤ u8 b 19 ∧ u8 b 19 ≤ 12) && !r.late && zeroBytes b 20 4 &&
      s.ringOk d r.inst (u64 b 0) (ringSize (u8 b 16) (u8 b 17)) && s.ringOk d r.inst (u64 b 8) (ringSize (u8 b 18) (u8 b 19))))
    (fun s =>
      let p := r.inst
      ((s.wr64 d (SGW_PpOBASEL p) (SGW_PpOBASEH p) (u64 b 0)).wr64 d (SGW_PpIBASEL p) (SGW_PpIBASEH p) (u64 b 8)).wr d
        (SGW_PpGEOM p) (BitVec.ofNat 32 (u8 b 16 + 16 * u8 b 17 + 256 * u8 b 18 + 4096 * u8 b 19 + 65536))))

/-- ACF_PORT_RECORD (R358). -/
def execAcfPortRecord (d : Die) (r : Rec) (s : State) : Out :=
  let b := r.body
  let da := leBytes (b.take 6).reverse 0 6
  .next (s.applyRec d r 0 false 0x0406
    (goodIf (decide (r.inst < 24 ∧ b.length = 24 ∧ u16 b 6 < 2 ^ 15 ∧ u16 b 6 % 2 ^ 12 ≠ 4095 ∧ u8 b 16 < 2 ∧ u8 b 17 < 2) &&
      zeroBytes b 18 6))
    (fun s => s.mirrorLate d r (fun s e =>
      let k := r.inst
      (((s.wr e (SGW_AkDAL k) (BitVec.ofNat 32 da)).wr e (SGW_AkDAH k)
        (BitVec.ofNat 32 (da / 2 ^ 32 + 2 ^ 16 * (u16 b 6 % 2 ^ 12) + 2 ^ 28 * (u16 b 6 / 2 ^ 12)))).wr64 e (SGW_AkSIDL k)
        (SGW_AkSIDH k) (u64 b 8)).wr e (SGW_AkCFG k) (BitVec.ofNat 32 (1 + 2 * u8 b 16 + 4 * u8 b 17)))))

/-- VALUE_TABLE_RECORD: Q32.32 values into a cluster pool (R359). -/
def execValueTableRecord (d : Die) (r : Rec) (s : State) : Out :=
  let b := r.body
  .next (s.applyRec d r r.seq.toNat false 0x0407
    (goodIf (decide (r.inst < 8 ∧ u32 b 0 % 8 = 0 ∧ 1 ≤ u32 b 4 ∧ b.length = 8 + 8 * u32 b 4 ∧
      u32 b 0 + 8 * u32 b 4 ≤ 0x3F000)))
    (fun s => (List.range (u32 b 4)).foldl (fun st i => st.putEntry d r (2 ^ 20 * r.inst + u32 b 0 / 8 + i) (fun st =>
      st.mirrorLate d r (fun st e => st.putBytes e (poolAddr r.inst (u32 b 0 + 8 * i)) ((b.drop (8 + 8 * i)).take 8)))) s))

/-! ### Ageing and partition rings -/

/-- SHADOW_AGEING_PASS: sets AGED on each valid tag older than 8,192,000 µs (R332). -/
def execShadowAgeingPass (d : Die) (s : State) : Out :=
  .next (if s.alive d then s.updGw d (fun g => { g with tags := g.tags.map (fun e =>
      (e.1, if bitOf e.2 31 ∧ 8192000 < (stampUs (s.ns d) + 2 ^ 30 - e.2 % 2 ^ 30) % 2 ^ 30 then withBit e.2 30 true
            else e.2)) }) else s)

/-- Whether an initiator is a partition itself. -/
def isPart (who : Initiator) (p : Nat) : Bool := match who with | .part q => decide (q.val = p) | _ => false

/-- OTAIL_WRITE: the partition's outbound producer index; one that overfills the ring is ignored and sets BADOUT (R335,
R353). -/
def execOtailWrite (d : Die) (who : Initiator) (p : Fin 32) (v : Word) (s : State) : Out :=
  .next (
    if !(s.alive d && isPart who p.val) then s
    else if 2 ^ s.fld d (SGW_PpGEOM p.val) SGW_PpGEOM__OSLOTS < (v - s.rd d (SGW_PpOHEAD p.val)).toNat then
      s.setF d (SGW_PpSTAT p.val) SGW_PpSTAT__BADOUT 1
    else s.wr d (SGW_PpOTAIL p.val) v)

/-- OUTBOUND_ITEM: the SGW of the home die takes the partition's next outbound item. OHEAD advances on both dies; an item
whose sequence is not later than the last accepted one is a duplicate; an accepted one enters the stream of both dies'
clusters that subscribe it, one at a time: the next when an authority cluster has delivered it. The partner takes part while the pair
link carries the item (R338). -/
def execOutboundItem (p : Fin 32) (s : State) : Out :=
  .next (
    let d := s.homeDie p.val
    let i := (s.rd d (SGW_PpOHEAD p.val)).toNat
    if !(s.alive d && s.bit d (SGW_PpGEOM p.val) SGW_PpGEOM__USED) || decide (s.rd d (SGW_PpOTAIL p.val) = s.rd d (SGW_PpOHEAD p.val)) ||
        (tget none (s.vol.get d).gw.taking p.val).isSome then s
    else
      let slot := 2 ^ s.fld d (SGW_PpGEOM p.val) SGW_PpGEOM__OSLOT
      let a := s.rd64 d (SGW_PpOBASEL p.val) (SGW_PpOBASEH p.val) + i % 2 ^ s.fld d (SGW_PpGEOM p.val) SGW_PpGEOM__OSLOTS * slot
      let len := 16 + s.leAt d a 2
      let seq := s.leAt d (a + 4) 4
      let next := BitVec.ofNat 32 (i + 1)
      let s1 := (s.wr d (SGW_PpOHEAD p.val) next).fire d (0x1B0 + p.val)
      let s1 := if s1.joint d then (s1.wr d.other (SGW_PpOHEAD p.val) next).fire d.other (0x1B0 + p.val) else s1
      let both := fun (st : State) (f : State → Die → State) =>
        let st1 := f st d
        if s.joint d then f st1 d.other else st1
      let age := (seq + 2 ^ 32 - (s.rd d (SGW_PpSEQ p.val)).toNat) % 2 ^ 32
      if slot < len then s1.setF d (SGW_PpSTAT p.val) SGW_PpSTAT__BADOUT 1
      else if age = 0 ∨ 2 ^ 31 ≤ age then both s1 (fun st e => st.addSat e (SGW_PpSTAT p.val) SGW_PpSTAT__DUP 1)
      else
        let bytes := s.bytesAt d a len
        let named := (List.range 8).filter (fun c => (s.cl d c).nibs.any (fun e =>
          decide (e.2.prog ≠ .none) && ((e.2.subOf (0x200 + p.val)).isSome)))
        let s2 := both s1 (fun st e =>
          let st1 := st.wr e (SGW_PpSEQ p.val) (BitVec.ofNat 32 seq)
          let st2 := named.foldl (fun q c => q.streamIn e c (0x200 + p.val) (st.ns e) bytes false) st1
          if named.isEmpty then st2 else st2.updGw e (fun g => { g with taking := tset none g.taking p.val (some seq) }))
        s2.plNotice d 1 2 p.val)

/-- IHEAD_WRITE: the partition's inbound consumer index; credits of the items it passes return to their nibs on both dies
(R340, R353). -/
def execIheadWrite (d : Die) (who : Initiator) (p : Fin 32) (v : Word) (s : State) : Out :=
  .next (
    if !(s.alive d && isPart who p.val) then s
    else
      let passed := fun (i : InItem) => decide (i.part = p.val ∧ (v.toNat + 2 ^ 32 - 1 - i.index % 2 ^ 32) % 2 ^ 32 < 2 ^ 31)
      let items := ((s.vol.get 0).gw.inItems ++ (s.vol.get 1).gw.inItems).dedup
      let go := fun (st : State) (e : Die) =>
        if !st.alive e then st else
        (items.filter passed).foldl (fun q i => q.creditBack e i.cluster i.nib i.box)
          ((st.wr e (SGW_PpIHEAD p.val) v).updGw e (fun g => { g with inItems := g.inItems.filter (fun i => !passed i) }))
      go (go s d) d.other)

/-! ### Changing tables at run time -/

/-- The result of an entry command. -/
def State.ecmdDone (s : State) (d : Die) (st partner reason : Nat) : State :=
  ((s.setF d SGW_ERES SGW_ERES__STATE st).setF d SGW_ERES SGW_ERES__PARTNER partner).setF d SGW_ERES SGW_ERES__REASON reason

/-- The writers of SGW_ECMD, SGW_INVAL and SGW_TIDX (R342, R353). -/
def State.sgwOk (s : State) (d : Die) (who : Initiator) : Bool := s.alive d && who.isManager

/-- ECMD_READ: an entry into SGW_EBUF (R342). -/
def execEcmdRead (d : Die) (who : Initiator) (table : BitVec 2) (index : BitVec 18) (s : State) : Out :=
  let t := table.toNat
  .next (
    if !s.sgwOk d who || decide (s.fld d SGW_ERES SGW_ERES__STATE = 1) then s
    else if t = 3 then s.ecmdDone d 3 0 3
    else if tableCount t ≤ index.toNat then s.ecmdDone d 3 0 1
    else ((List.range (tableSize t / 4)).foldl (fun st i =>
      st.wr d (SGW_EBUFi i) (BitVec.ofNat 32 (s.leAt d (tableAddr t index.toNat + 4 * i) 4))) s).ecmdDone d 2 0 0)

/-- The entry SGW_EBUF holds for a table: four words, or five for a PDU, whose words 5 to 7 are 0 in the check. -/
def State.ebuf (s : State) (d : Die) (t : Nat) : List Byte :=
  (List.range (if t = 2 then 5 else 4)).flatMap (fun i => toLE 4 (s.rd d (SGW_EBUFi i)).toNat)

/-- The bytes of an entry put into a table of one die; CLRSHADOW on a descriptor clears VALID there (R343). -/
def State.ecmdPut (s : State) (d : Die) (t i : Nat) (b : List Byte) (clear : Bool) : State :=
  let s1 := s.putBytes d (tableAddr t i) b
  if t = 0 ∧ clear then s1.dropShadow d i else s1

/-- A write of SGW_ECMD: the entry in SGW_EBUF is checked and written whole; PDU words 5 to 7 are kept. One with MIRROR that reaches the
partner is busy until MIRRORED_WRITE_COMPLETE (R342, R343). -/
def State.ecmdWrite (s : State) (d : Die) (t i : Nat) (mirror clear : Bool) : State :=
  if t = 3 then s.ecmdDone d 3 0 3
  else if tableCount t ≤ i then s.ecmdDone d 3 0 1
  else
    let b := s.ebuf d t
    if !s.tableRule d t (leBytes b 0 (tableSize t)) then s.ecmdDone d 3 0 2
    else
      let s1 := s.ecmdPut d t i b clear
      if mirror && s.mirrorReach d then
        ((s1.plSend d 1 .mirror (s1.pairCipher d [(tableAddr t i, b)])).updVol d (fun v => { v with
          mirror := v.mirror ++ [⟨tablePort t, i, (List.range (b.length / 4)).map (fun k => BitVec.ofNat 32 (u32 b (4 * k))), false, true,
            clear⟩] })).ecmdDone d 1 0 0
      else s1.ecmdDone d 2 0 0

/-- ECMD_WRITE (R342, R343). -/
def execEcmdWrite (d : Die) (who : Initiator) (table : BitVec 2) (index : BitVec 18) (mirror clear : Bool) (s : State) : Out :=
  .next (
    if !s.sgwOk d who || decide (s.fld d SGW_ERES SGW_ERES__STATE = 1) then s
    else s.ecmdWrite d table.toNat index.toNat mirror clear)

/-- A descriptor-cache invalidation on one die or both (R344). -/
def State.invalidate (s : State) (d : Die) (which : Option Nat) (mirror : Bool) : State :=
  let s1 := (s.dropLines d which).setF d SGW_INVRES SGW_INVRES__STATE 1
  if mirror && s1.joint d then s1.dropLines d.other which else s1

/-- INVALIDATE_ONE and INVALIDATE_ALL (R344). -/
def execInvalidateOne (d : Die) (who : Initiator) (index : BitVec 18) (mirror : Bool) (s : State) : Out :=
  .next (if s.sgwOk d who then s.invalidate d (some index.toNat) mirror else s)
def execInvalidateAll (d : Die) (who : Initiator) (mirror : Bool) (s : State) : Out :=
  .next (if s.sgwOk d who then s.invalidate d none mirror else s)

/-- INVALIDATION_COMPLETE (R344). -/
def execInvalidationComplete (d : Die) (s : State) : Out :=
  .next (if s.alive d && decide (s.fld d SGW_INVRES SGW_INVRES__STATE = 1) then s.setF d SGW_INVRES SGW_INVRES__STATE 2 else s)

/-- GENERATION_SWEEP: every valid line whose GEN differs from the store's is evicted and counted (R347). -/
def execGenerationSweep (d : Die) (c : Fin 8) (s : State) : Out :=
  .next (
    if !s.alive d then s
    else
      let old := fun (l : Nat × Option CacheLine) => match l.2 with
        | some y => decide (dGen y.data ≠ dGen (s.desc d y.index))
        | none => false
      let n := ((s.cl d c.val).cache.filter old).length
      (s.updCl d c.val (fun x => { x with cache := x.cache.filter (fun l => !old l) })).addSat d SGW_EVICT SGW_EVICT__COUNT n)

/-- MIRROR_SCRUB_BLOCK: the dies compare one 4 KB block of a table; each differing entry is counted, named and recorded
as class 0x06 by each die with table and index as subject; words 5 to 7 of PDU entries take no part. A block that a mirrored write is
on its way to waits for it (R348, R352). -/
def execMirrorScrubBlock (table : Fin 3) (block : Fin 1024) (s : State) : Out :=
  let t := table.val
  let per := 4096 / tableSize t
  .next (
    if !(s.alive 0 && s.joint 0) then
      let stop := fun (st : State) (d : Die) => if st.alive d then st.setF d SGW_STAT SGW_STAT__SCRUB 2 else st
      stop (stop s 0) 1
    else if ((s.vol.get 0).mirror ++ (s.vol.get 1).mirror).any (fun m => decide (portTable? m.port = some t ∧ m.index / per = block.val)) then s
    else
      let s0 := ((s.setBoth SGW_STAT SGW_STAT__SCRUB 1).plNotice 0 0 11 block.val).plNotice 1 0 11 block.val
      let width := if t = 2 then 20 else 16
      ((List.range per).map (· + block.val * per)).foldl (fun st i =>
        if tableCount t ≤ i ∨ s.leAt 0 (tableAddr t i) width = s.leAt 1 (tableAddr t i) width then st
        else
          let mark := fun (q : State) (d : Die) =>
            (q.addSat d SGW_MIRCNT SGW_MIRCNT__COUNT 1).wr d SGW_MIRLAST (BitVec.ofNat 32 (i + t * 2 ^ 30))
          (mark (mark st 0) 1).recordBoth 0x0900 0x06 (i + t * 2 ^ 30) 0 0) s0)

/-- SIGNAL_STORE_COPY: a rejoining die takes the four areas, the tags and the pools of the gateway clusters from its
sealed partner, once, after step 3 and before step 4 (R349), and the VLAN table and forwarding database with them (R66). -/
def execSignalStoreCopy (d : Die) (s : State) : Out :=
  .next (
    if s.copyDue d && s.linkFlows then
      let s1 := (s.plNotice d.other 0 12 0).copyRange d.other d 0x30000000 0x30C00000
      let s2 := s1.updGw d (fun g => { g with tags := (s.vol.get d.other).gw.tags, copied := true })
      let s3 := (List.range 8).foldl (fun st c =>
        if (s.cl d c).nibs.any (fun e => decide (e.2.prog = .gateway)) then
          st.copyRange d.other d (poolAddr c 0) (poolAddr c 0x40000) else st) s2
      let o := (s.vol.get d.other).swc
      let s4 := s3.updVol d (fun v => { v with swc := { v.swc with fdb := o.fdb, vlan := o.vlan, vlanRec := o.vlanRec } })
      s4.wr d SWC_FDBCNT (s.rd d.other SWC_FDBCNT)
    else s)

/-- SIGNAL_STORE_ECC_ERROR: a corrected error is counted; an uncorrectable one is restored from the partner and recorded as
class 0x17, or with the partner absent the access completes with all ones and each die writes class 0x08 (R350). -/
def execSignalStoreEccError (d : Die) (addr : BitVec 32) (corrected : Bool) (s : State) : Out :=
  let a := addr.toNat / 8 * 8
  .next (
    if !(s.alive d && decide (0x30000000 ≤ a ∧ a < 0x30C00000)) then s
    else if corrected then s.addSat d SGW_ECC SGW_ECC__CORR 1
    else if s.joint d then
      s.storeRepair d a
    else (s.reply (.errorBytes (List.replicate 8 0xFF#8))).recordBoth 0x0900 0x08 3 0 a)

/-- TIDX_WRITE: latches a shadow's tag and value together (R353). -/
def execTidxWrite (d : Die) (who : Initiator) (index : BitVec 18) (s : State) : Out :=
  .next (
    if s.sgwOk d who then
      ((s.wr d SGW_TIDX (index.setWidth 32)).wr d SGW_TAG (BitVec.ofNat 32 (s.tag d index.toNat))).wr64 d SGW_TVALL SGW_TVALH
        (s.shadow d index.toNat)
    else s)

end Sys2Proof.Machine
end

