-- ==== Sys2Proof/Machine/SwitchCore.lean ====
section
/-! DEFINITION. The commands of the switch core (spec/11): records and defaults, reassembly and intermediate buffers, the
host port, gates, shadow forwarding and failover, and the firmware commands. -/

namespace Sys2Proof.Machine

/-! ### Records (R440, R443, R454, R455, R464, R465) -/

/-- SWITCH_RECORD: AGETIME 0, or 10 to 1,000,000 s. -/
def execSwitchRecord (d : Die) (r : Rec) (s : State) : Out :=
  let b := r.body
  let t := u32 b 0
  .next (s.applyRec d r 0 false 0x0701
    (goodIf (decide (r.inst = 0 ∧ b.length = 8 ∧ (t = 0 ∨ (10 ≤ t ∧ t ≤ 1000000))) && !r.late && zeroBytes b 4 4))
    (fun s => s.setF d SWC_CFG SWC_CFG__AGETIME t))

/-- The rate of a switch port in kb/s: of an internal port the capacity of its lanes (R391, R423). -/
def State.portRate (s : State) (d : Die) (p : Nat) : Nat :=
  if p < 24 then portKbps p (s.portPlan d p).rate else if p = 24 then 40000000 else if p = 25 then 10000000 else 20000000

/-- The rules of a switch port record's body. -/
def State.switchPortOk (s : State) (d : Die) (p : Nat) (b : List Byte) : Bool :=
  let bp := decide (p < 24) && s.portBp d p
  decide (p < 27 ∧ b.length = 48 ∧ 1 ≤ u16 b 0 ∧ u16 b 0 ≤ 4094 ∧ u8 b 2 < 8 ∧ u8 b 3 < 8 ∧ u8 b 3 % 4 ≤ 2 ∧ u32 b 4 < 2 ^ 24 ∧
    16 ≤ u16 b 8 ∧ u16 b 8 ≤ 16384 ∧ u16 b 10 < u16 b 8 ∧ u8 b 14 ≤ 40 ∧ u8 b 15 = 0) &&
  (if bp then decide (s.hMin d p (u8 b 14) ≤ u16 b 12) else decide (u16 b 12 = 0)) &&
  s.sharesOk d p (256 * u16 b 8 + u16 b 12) &&
  decide (4 * ((List.range 8).map (fun c => u32 b (16 + 4 * c))).sum ≤ 3 * s.portRate d p)

/-- The lk registers of a switch port written. -/
def State.putPort (s : State) (d : Die) (p pvid dpcp accept learn map xoff xon head cable : Nat) : State :=
  let w := fun (st : State) (off x : Nat) => st.wr d off (BitVec.ofNat 32 x)
  w (w (w (w s (SWC_PpCFG p) (pvid + 2 ^ 12 * dpcp + 2 ^ 15 * accept + 2 ^ 17 * learn + 2 ^ 18 * b2n (s.portBp d p)))
    (SWC_PpPCPMAP p) map) (SWC_PpQUOTA p) (xoff + 2 ^ 16 * xon)) (SWC_PpHEAD p) (head + 2 ^ 16 * cable)

/-- SWITCH_PORT_RECORD (R464). -/
def execSwitchPortRecord (d : Die) (r : Rec) (s : State) : Out :=
  let b := r.body
  let p := r.inst
  .next (s.applyRec d r 0 false 0x0702 (goodIf (s.switchPortOk d p b && !r.late)) (fun s =>
    let s1 := s.putPort d p (u16 b 0) (u8 b 2) (u8 b 3 % 4) (u8 b 3 / 4) (u32 b 4) (u16 b 8) (u16 b 10) (u16 b 12) (u8 b 14)
    (List.range 8).foldl (fun st c => st.wr d (SWC_PpCBSc p c) (BitVec.ofNat 32 (u32 b (16 + 4 * c)))) s1))

/-- The defaults of R465, which the loader writes where no record was given, before the nibs start. -/
def State.swcDefaults (s : State) (d : Die) : State :=
  let s1 := (List.range 27).foldl (fun st p =>
    if st.rd d (SWC_PpQUOTA p) = 0#32 then
      st.putPort d p 1 0 0 (b2n (decide (p < 25))) 0xFAC681 (xoffDefault p) (xoffDefault p / 2)
        (if p < 24 ∧ st.portBp d p = true then st.hMin d p 15 else 0) 15
    else st) s
  if (s1.appliedSeq d ⟨0, 0x0701#16, 0#16, 0x000C0000#32, 0#32, []⟩ 0).isNone then s1.setF d SWC_CFG SWC_CFG__AGETIME 300
  else s1

/-- VLAN_BLOCK_RECORD: replaces the table (R59, R464). -/
def execVlanBlockRecord (d : Die) (r : Rec) (s : State) : Out :=
  let b := r.body
  let first := u32 b 0
  let n := u32 b 4
  .next (s.applyRec d r 0 false 0x0703
    (goodIf (decide (r.inst = 0 ∧ b.length = 8 + 8 * n ∧ 1 ≤ first ∧ first ≤ 4094 ∧ first + n ≤ 4095) &&
      (List.range (2 * n)).all (fun i => decide (u32 b (8 + 4 * i) < 2 ^ 26))))
    (fun s => s.mirrorLate d r (fun st e => st.updSwc e (fun x => { x with
      vlan := (List.range n).map (fun i => (first + i, (u32 b (8 + 8 * i), u32 b (12 + 8 * i)))), vlanRec := true }))))

/-- An entry put in its bucket by key, in a free way, or in the way of the oldest dynamic entry. -/
def SwcSt.fdbPut (x : SwcSt) (v : Nat) : Option (Nat × SwcSt) :=
  match (match x.fdbFind (fdbAddr v) (fdbVid v) with | some i => some i | none => x.fdbWay (fdbAddr v) (fdbVid v)) with
  | some i => some (i, { x with fdb := tset 0 x.fdb i v })
  | none => none

/-- Whether the partitions that an entry names on P24 are defined (R547). -/
def State.fdbDefined (s : State) (d : Die) (v : Nat) : Bool :=
  if fdbMc v then !bitOf (fdbPmask v) 24 || s.maskDefined d (fdbPartMask v)
  else decide (fdbPort v ≠ 24) || s.defined d (fdbPart v)

/-- STATIC_ENTRIES_RECORD: replaces the static entries (R59, R464). -/
def execStaticEntriesRecord (d : Die) (r : Rec) (s : State) : Out :=
  let b := r.body
  let n := u32 b 0
  let entry := fun i => leBytes b (8 + 16 * i) 16
  let fill := fun (x : SwcSt) => (List.range n).foldl (fun (o : Option SwcSt) i => match o with
    | some y => (y.fdbPut (entry i)).map (·.2)
    | none => none) (some { x with fdb := x.fdb.filter (fun e => !fdbStatic e.2) })
  .next (s.applyRec d r 0 false 0x0704
    (goodIf (decide (r.inst = 0 ∧ 1 ≤ n ∧ n ≤ 16384 ∧ b.length = 8 + 16 * n) && zeroBytes b 4 4 &&
      (List.range n).all (fun i => fdbRule (entry i) && fdbStatic (entry i) && fdbValid (entry i) && s.fdbDefined d (entry i)) && (fill (s.swc d)).isSome))
    (fun s => s.mirrorLate d r (fun st e => (st.updSwc e (fun x => (fill x).getD x)).fdbCount e)))

/-- GATE_LIST_RECORD (R455). -/
def execGateListRecord (d : Die) (r : Rec) (s : State) : Out :=
  let b := r.body
  let n := u32 b 12
  let cyc := u32 b 8
  let ivl := fun i => u32 b (20 + 8 * i)
  .next (s.applyRec d r 0 false 0x0705
    (goodIf (decide (r.inst < 24 ∧ 1 ≤ n ∧ n ≤ 64 ∧ b.length = 16 + 8 * n ∧ 1000 ≤ cyc ∧ cyc ≤ 1000000000) && !r.late &&
      (List.range n).all (fun i => zeroBytes b (17 + 8 * i) 3 && decide (100 ≤ ivl i ∧ ivl i ≤ 1000000000)) &&
      decide (((List.range n).map ivl).sum = cyc)))
    (fun s =>
      let g : GateList := { base := u64 b 0, cycle := cyc, entries := (List.range n).map (fun i => (u8 b (16 + 8 * i), ivl i)) }
      s.updSwc d (fun x => { x with gates := tput x.gates r.inst g })))

/-- Whether a host ring lies in DRAM and is granted to its partition (R465). -/
def State.hostRingOk (s : State) (d : Die) (p base size : Nat) : Bool :=
  decide (0x100000000 ≤ base ∧ base + size ≤ 0x300000000) &&
    (s.admits d 0 base size { init := 0, part := p } .read || s.admits d 0 base size { init := 0, part := p, hyp := true } .read)

/-- HOST_QUEUES_RECORD (R464, R547): the fields of an unused queue fit their registers and are written too (R59). -/
def execHostQueuesRecord (d : Die) (r : Rec) (s : State) : Out :=
  let b := r.body
  let p := r.inst
  let o := fun q => 8 + 16 * q
  let qOk := fun q =>
    if u8 b (o q + 11) = 0 then decide (u8 b (o q + 8) < 16 ∧ u8 b (o q + 9) < 16 ∧ u8 b (o q + 10) < 16)
    else decide (u8 b (o q + 11) = 1 ∧ 4 ≤ u8 b (o q + 8) ∧ u8 b (o q + 8) ≤ 12 ∧ 4 ≤ u8 b (o q + 9) ∧ u8 b (o q + 9) ≤ 12 ∧
        7 ≤ u8 b (o q + 10) ∧ u8 b (o q + 10) ≤ 12) &&
      s.hostRingOk d p (4096 * u32 b (o q)) (32 * 2 ^ u8 b (o q + 8)) &&
      s.hostRingOk d p (4096 * u32 b (o q + 4)) (2 ^ (u8 b (o q + 9) + u8 b (o q + 10)))
  .next (s.applyRec d r 0 false 0x0706
    (goodIf (decide (p < 32 ∧ b.length = 136 ∧ u32 b 0 < 2) && s.defined d p && !r.late && zeroBytes b 4 4 &&
      (List.range 8).all (fun q => zeroBytes b (o q + 12) 4 && qOk q)))
    (fun s => (List.range 8).foldl (fun st q =>
        ((st.wr d (SWC_HpqTXB p q) (BitVec.ofNat 32 (u32 b (o q)))).wr d (SWC_HpqRXB p q)
          (BitVec.ofNat 32 (u32 b (o q + 4)))).wr d (SWC_HpqGEOM p q)
          (BitVec.ofNat 32 (u8 b (o q + 8) + 16 * u8 b (o q + 9) + 256 * u8 b (o q + 10) + 4096 * u8 b (o q + 11))))
      (s.setF d (SWC_HpFLAGS p) SWC_HpFLAGS__FLOOD (u32 b 0))))

/-! ### Reassembly and buffers (R425, R428, R429) -/

/-- The lanes of a port, in both directions (R423); none for an ingress code that is no port. -/
def portLanes (p : Nat) : List Nat :=
  if p = 0 then [0, 1] else if p = 1 then [2, 3] else if p < 10 then [3 + p / 2] else if p < 24 then [8]
  else if p = 24 then [9, 10, 11, 12] else if p = 25 then [13] else if p = 26 then [14, 15] else []

/-- The ports that share the lanes of a port. -/
def laneGroup (p : Nat) : List Nat := (List.range 27).filter (fun q => decide (portLanes q = portLanes p))

/-- The output lane of a frame (R425): the lowest lane of its lowest port for several destinations, else a lane of its egress port, which its
frames take in turn (R423). -/
def SwFrame.outLane (f : SwFrame) : Nat :=
  let dests := f.ports ++ (if f.parts = 0 then [] else [24])
  let outs := portLanes (dests.foldl min 26)
  if dests.length = 1 then outs.getD (f.id % max 1 outs.length) 0 else outs.headD 0

/-- Whether a frame of the fabric still waits for its lane. -/
def SwcSt.waits (x : SwcSt) (f : SwFrame) : Bool := decide (tget none x.flights f.id = none)

/-- The oldest frame of a port that waits for its lane. -/
def SwcSt.atLane (x : SwcSt) (p : Nat) : Option SwFrame := x.fabric.find? (fun f => decide (f.ingress = p) && x.waits f)

/-- A frame's cells put on the lanes of its ingress, spread over all of them in cell order (R423, R424); a field-bus frame, whose controller
has no lane, is in the egress memory at once. -/
def SwcSt.launch (x : SwcSt) (f : SwFrame) : SwcSt :=
  let n := cells f.len / 64
  let ins := portLanes f.ingress
  let all := List.range n
  if ins = [] then { x with flights := tset none x.flights f.id (some { cells := n, got := all }) }
  else
    { x with
      flights := tset none x.flights f.id (some { cells := n })
      lanes := all.foldl (fun t i => tupd [] t (ins.getD (i % ins.length) 0) (fun l => l ++ [⟨f.id, i, f.outLane⟩])) x.lanes }

/-- A port's turn at its lanes: where they are free, the next of the ports that share them, round-robin, has a frame launched (R423). -/
def SwcSt.serve (x : SwcSt) (p : Nat) : SwcSt :=
  let lanes := portLanes p
  let lane := lanes.headD 0
  let last := tget 63 x.turns lane
  let g := laneGroup p
  if lanes.any (fun l => decide (tget [] x.lanes l ≠ [])) then x
  else match ((g.filter (fun q => decide (last < q))) ++ g.filter (fun q => decide (q ≤ last))).findSome? x.atLane with
    | some f => { x.launch f with turns := tset 63 x.turns lane f.ingress }
    | none => x

/-- Every free lane takes its next frame; field-bus frames are launched as they come. -/
def SwcSt.serveAll (x : SwcSt) : SwcSt :=
  let y := (x.fabric.filter (fun f => decide (portLanes f.ingress = []) && x.waits f)).foldl (fun z f => z.launch f) x
  [0, 1, 2, 4, 6, 8, 10, 24, 25, 26].foldl (fun z p => z.serve p) y

/-- An intermediate buffer's slot: it delivers the head cell of the output lane it meets to the egress memory (R422, R425). -/
def SwcSt.bufferOut (x : SwcSt) (j : Nat) : SwcSt :=
  let key := j * 16 + (j + x.slot) % 16
  match tget [] x.bufCells key with
  | [] => x
  | c :: l => { x with
      bufCells := tset [] x.bufCells key l
      flights := tupd none x.flights c.id (fun o => o.map (fun y => { y with got := y.got ++ [c.idx] })) }

/-- An input lane's slot: its head cell enters the intermediate buffer it meets, where that is not skipped and has room in the queue of the
cell's output lane; otherwise the lane waits for its next slot (R422, R424, R428). -/
def SwcSt.laneIn (x : SwcSt) (now i : Nat) : SwcSt :=
  let j := (i + x.slot) % 16
  match tget [] x.lanes i with
  | [] => x
  | c :: l =>
    let key := j * 16 + c.out
    if (tget {} x.bufs j).skipped || decide (256 ≤ (tget [] x.bufCells key).length) then x
    else { x with
      lanes := tset [] x.lanes i l
      bufCells := tupd [] x.bufCells key (fun q => q ++ [c])
      flights := tupd none x.flights c.id (fun o => o.map (fun y => { y with first := if y.first.isNone then some now else y.first })) }

/-- One slot of the fabric (R422): the buffers but those of `stuck` deliver, every lane sends, and free lanes take their next frames. -/
def SwcSt.slotStep (x : SwcSt) (now : Nat) (stuck : List Nat) : SwcSt :=
  let y := x.serveAll
  let z := ((List.range 16).filter (fun j => !stuck.contains j)).foldl (fun w j => w.bufferOut j) y
  let w := (List.range 16).foldl (fun w i => w.laneIn now i) z
  { w with slot := (x.slot + 1) % 16 }

/-- Whether the egress memory has every cell of a frame. -/
def SwcSt.whole (x : SwcSt) (f : SwFrame) : Bool := (tget none x.flights f.id).any (fun y => decide (y.got.length = y.cells))

/-- Slots of the fabric until the egress memory has a frame whole; at most `n`. -/
def SwcSt.runTo (x : SwcSt) (now : Nat) (f : SwFrame) : Nat → SwcSt
  | 0 => x
  | n + 1 => if x.whole f then x else (x.slotStep now []).runTo now f n

/-- The slots that suffice for what the fabric holds: each cell enters and leaves a buffer within a pattern cycle of its turn. -/
def SwcSt.slotsLeft (x : SwcSt) : Nat := 32 * (1 + (x.fabric.map (fun f => cells f.len / 64)).sum)

/-- The oldest frame of an ingress in the fabric. -/
def SwcSt.oldest (x : SwcSt) (ingress : Nat) : Option SwFrame := x.fabric.find? (fun f => decide (f.ingress = ingress))

/-- A frame and its cells out of the fabric. -/
def SwcSt.drop (x : SwcSt) (f : SwFrame) : SwcSt :=
  let rest := fun (l : List FabCell) => l.filter (fun c => decide (c.id ≠ f.id))
  { x with
    fabric := x.fabric.erase f, flights := terase x.flights f.id
    lanes := (x.lanes.map (fun e => (e.1, rest e.2))).filter (fun e => decide (e.2 ≠ []))
    bufCells := (x.bufCells.map (fun e => (e.1, rest e.2))).filter (fun e => decide (e.2 ≠ [])) }

/-- FRAME_REASSEMBLED: the slots pass until the egress memory has the last cell of the oldest frame of an ingress; the frame is placed in the
queue of every destination (R425), where a feed entry may wait for it (R462); nib items that waited for room are taken. -/
def execFrameReassembled (d : Die) (ingress : Fin 60) (s : State) : Out :=
  .next (match (s.swc d).oldest ingress with
    | none => s
    | some f =>
      let s1 := s.updSwc d (fun x => x.runTo (s.ns d) f x.slotsLeft)
      if (s1.swc d).whole f then
        (((s1.updSwc d (fun x => x.drop f)).place d f).feedMeets d f).takeNibItems d 8
      else s1)

/-- The state of an intermediate buffer, and a change of it. -/
def State.laneBuf (s : State) (d : Die) (b : Nat) : LaneBuf := tget {} (s.swc d).bufs b
def State.updBuf (s : State) (d : Die) (b : Nat) (f : LaneBuf → LaneBuf) : State :=
  s.updSwc d (fun x => { x with bufs := tupd {} x.bufs b f })

/-- The slots of 64 pattern cycles in which a buffer lags: it delivers none of its cells (R428). -/
def SwcSt.lagging (x : SwcSt) (now b : Nat) : Nat → SwcSt
  | 0 => x
  | n + 1 => if x.lanes = [] ∧ x.fabric.all (fun f => !x.waits f) then x else (x.slotStep now [b]).lagging now b n

/-- BUFFER_SKIP: a buffer that lagged for 64 pattern cycles is skipped and tested (R428, R429). -/
def execBufferSkip (d : Die) (b : Fin 16) (testOk : Bool) (s : State) : Out :=
  .next (if (s.laneBuf d b).skipped then s
    else
      let s0 := s.updSwc d (fun x => x.lagging (s.ns d) b 1024)
      let s1 := s0.updBuf d b (fun x => { x with skipped := true, tested := testOk, skips := x.skips ++ [s.ns d] })
      ((s1.setF d SWC_LANESKIP ⟨b.val, 1⟩ 1).setF d SWC_LANESKIP ⟨16 + b.val, 1⟩ 1).recordBoth 0x0C00 0x09 b.val 0
        (s.rd d SWC_REASMTO).toNat)

/-- Whether a skipped buffer holds a cell of a frame. -/
def SwcSt.heldIn (x : SwcSt) (f : SwFrame) : List Nat :=
  (List.range 16).filter (fun j => (tget {} x.bufs j).skipped &&
    (List.range 16).any (fun o => (tget [] x.bufCells (j * 16 + o)).any (fun c => decide (c.id = f.id))))

/-- REASSEMBLY_TIMEOUT: a frame of which a skipped buffer holds a cell 1 ms after its first cell was sent is discarded and counted; the count
goes to the detail of the record of class 0x09 (R429). -/
def execReassemblyTimeout (d : Die) (ingress : Fin 60) (s : State) : Out :=
  .next (match (s.swc d).oldest ingress with
    | none => s
    | some f =>
      let due := ((tget none (s.swc d).flights f.id).bind (·.first)).any (fun t => decide (t + 1000000 ≤ s.ns d))
      match (s.swc d).heldIn f with
      | [] => s
      | j :: _ =>
        if !due then s
        else
          let s1 := ((s.updSwc d (fun x => x.drop f)).freeFrame d f).addSat d SWC_REASMTO ⟨0, 32⟩ 1
          (s1.recordBoth 0x0C00 0x09 j 0 (s1.rd d SWC_REASMTO).toNat).takeNibItems d 8)

/-- Whether a buffer was skipped a second time within 24 h. -/
def LaneBuf.twice (x : LaneBuf) : Bool :=
  x.skips.any (fun a => x.skips.any (fun b => decide (a < b ∧ b < a + 86400000000000)))

/-- Whether a skipped buffer may be readmitted. -/
def State.readmitOk (s : State) (d : Die) (b : Nat) : Bool :=
  let x := s.laneBuf d b
  x.skipped && x.tested && !x.twice

/-- A buffer readmitted. -/
def State.readmit (s : State) (d : Die) (b : Nat) : State :=
  (s.updBuf d b (fun x => { x with skipped := false })).setF d SWC_LANESKIP ⟨b, 1⟩ 0

/-- BUFFER_READMIT: after 1,024 test cycles in its slot (R429). -/
def execBufferReadmit (d : Die) (b : Fin 16) (s : State) : Out :=
  .next (if s.readmitOk d b then s.readmit d b else s)

/-! ### Ageing (R437) -/

/-- FDB_AGEING_PASS: the active core ages dynamic entries and removes the old ones, on the standby too. -/
def execFdbAgeingPass (d : Die) (s : State) : Out :=
  let limit := s.fld d SWC_CFG SWC_CFG__AGETIME
  let pass := fun (x : SwcSt) => { x with fdb := (x.fdb.map (fun e =>
    (e.1, if fdbValid e.2 && !fdbStatic e.2 then fdbAged e.2 (fdbAge e.2 + 1) else e.2))).filter (fun e =>
    fdbStatic e.2 || !decide (limit ≤ fdbAge e.2)) }
  .next (if !s.swActive d || decide (limit = 0) then s
    else
      let s1 := (s.updSwc d pass).fdbCount d
      if s1.joint d then (s1.updSwc d.other pass).fdbCount d.other else s1)

/-! ### Host port (R446 to R450) -/

/-- Whether an initiator is the partition of a host page (R463). -/
def Initiator.isPage (who : Initiator) (p : Nat) : Bool :=
  match who with | .part q => decide (q.val = p) | .sealed q => decide (q.val = p) | _ => false

/-- TXTAIL_WRITE (R446): a tail beyond the ring is ignored and sets BADTX; the index reads alike on both dies. -/
def execTxtailWrite (d : Die) (who : Initiator) (part : Fin 32) (q : Fin 8) (v : Word) (s : State) : Out :=
  .next (if !(s.alive d && Initiator.isPage who part && s.bit d (SWC_HpqGEOM part q) SWC_HpqGEOM__USED) then s
    else if 2 ^ s.fld d (SWC_HpqGEOM part q) SWC_HpqGEOM__TXN < ringGap (s.rd d (SWC_HpqTXHEAD part q)) v then
      s.setF d (SWC_HpqSTAT part q) SWC_HpqSTAT__BADTX 1
    else s.onDies (fun st e => st.wr e (SWC_HpqTXTAIL part q) v))

/-- Whether the partner takes host frames over P26. -/
def State.pairPort (s : State) (d : Die) : Bool := s.joint d && s.isSealed d.other

/-- TXHEAD moved past a descriptor on both dies, which read alike (R447), with its event. -/
def State.txAdvance (s : State) (d : Die) (part q : Nat) (head : Word) : State :=
  let later := fun (e : Die) => decide (1 ≤ (head - s.rd e (SWC_HpqTXHEAD part q)).toNat ∧
    (head - s.rd e (SWC_HpqTXHEAD part q)).toNat < 2 ^ 31)
  let move := fun (st : State) (e : Die) =>
    if st.alive e && later e then (st.wr e (SWC_HpqTXHEAD part q) head).fire e (0x1D0 + part) else st
  if s.pairPort d then move (move s d) d.other else move s d

/-- Whether a descriptor keeps the rules of R446. -/
def State.txDescOk (s : State) (d : Die) (part len typ cls port : Nat) (reserved : Bool) : Bool :=
  reserved && decide (cls < 8) &&
  (match typ with
   | 0 => decide (14 ≤ len ∧ len ≤ 1996 ∧ port = 0)
   | 1 => decide (14 ≤ len ∧ len ≤ 1996 ∧ (port < 24 ∨ port = 25))
   | 2 => decide (port < 28) && s.fbByPart d port && decide (s.fbPart d port = part) &&
       (if port < 16 then decide (12 ≤ len ∧ len ≤ 12 + 2040) else decide (9 ≤ len ∧ len ≤ 16))
   | _ => false)

/-- A host frame admitted by a core as P24 ingress (R448), or given to its field-bus controller (R365). -/
def State.hostAdmit (s : State) (d : Die) (f : PairFrame) : State :=
  let len := f.bytes.length + 4
  match f.typ with
  | 0 => s.forward d 24 f.part f.stamp len (crc32 f.bytes) f.bytes (some f.cls)
  | 1 => s.intake d ⟨0, 24, f.cls, f.stamp, len, crc32 f.bytes, 0, f.bytes, none, [f.port], 0, 0, false, 0⟩
  | _ => s.partItem d f.port f.bytes

/-- Whether memory stands at an address and admits a host port access (R446): a region guard is in front of every byte a ring or buffer may
have. -/
def State.hostAdmits (s : State) (d : Die) (a len : Nat) (t : Tags) (k : AccKind) : Bool :=
  (guardOf a).isSome && s.memAdmits d a len t k

/-- HOST_DESCRIPTOR_READ (R446 to R448): the home SWC reads the next descriptor while P24's charge stays within XOFF and the partner can
reserve the frame's cells, which it charges to P26 (R442); it accepts the descriptor by its output sequence, admits its frame and passes
it over P26 with its ingress sequence. -/
def execHostDescriptorRead (d : Die) (part : Fin 32) (q : Fin 8) (s : State) : Out :=
  let p := part.val
  let geom := s.rd d (SWC_HpqGEOM p q)
  let head := s.rd d (SWC_HpqTXHEAD p q)
  let t : Tags := { init := 3, part := p }
  let a := (s.rd d (SWC_HpqTXB p q)).toNat * 4096 + head.toNat % 2 ^ SWC_HpqGEOM__TXN.get geom * 32
  let b := s.bytesAt d a 32
  let buf := u64 b 0
  let len := u16 b 8
  let next := head + 1#32
  let seq := BitVec.ofNat 32 (u32 b 16)
  let gap := (seq - s.rd d (SWC_HpSEQ p)).toNat
  .next (if !(s.alive d && decide (s.homeDie p = d) && bitOf geom.toNat 12) ||
        decide (head = s.rd d (SWC_HpqTXTAIL p q)) ||
        decide (s.xoffAt d 24 < tget 0 (s.swc d).charges (24 * 9 + 8) + cells (len + 4)) ||
        (s.pairPort d && decide (s.xoffAt d.other 26 < tget 0 (s.swc d.other).charges (26 * 9 + 8) + cells (len + 4))) then s
    else if !s.hostAdmits d a 32 t .read then
      ((s.memRefuse d a t .read).setF d (SWC_HpqSTAT p q) SWC_HpqSTAT__DENY 1).txAdvance d p q next
    else if !s.txDescOk d p len (u8 b 10) (u8 b 11) (u8 b 12) (zeroBytes b 13 3 && zeroBytes b 20 12) then
      (s.setF d (SWC_HpqSTAT p q) SWC_HpqSTAT__BADTX 1).txAdvance d p q next
    else if gap = 0 ∨ 2 ^ 31 ≤ gap then (s.addSat d (SWC_HpDUP p) ⟨0, 32⟩ 1).txAdvance d p q next
    else if !s.hostAdmits d buf len t .read then
      ((s.memRefuse d buf t .read).setF d (SWC_HpqSTAT p q) SWC_HpqSTAT__DENY 1).txAdvance d p q next
    else
      let f : PairFrame := ⟨p, q.val, next, seq, u8 b 10, u8 b 11, u8 b 12, s.ns d, tget 0 (s.swc d).seqs 24,
        s.bytesAt d buf len⟩
      let s1 := ((s.wr d (SWC_HpSEQ p) seq).txAdvance d p q next).hostAdmit d f
      if s1.pairPort d then (s1.charge d.other 26 8 (· + cells (len + 4))).plSend d 0 (.frame f) else s1)

/-- PAIR_PORT_FRAME: the partner admits the oldest frame received over P26 with the same ingress sequence in place of its reservation, and
follows its indices (R447, R448). -/
def execPairPortFrame (d : Die) (s : State) : Out :=
  .next (match (s.swc d).p26 with
    | [] => s
    | f :: l =>
      let s1 := s.updSwc d (fun x => { x with p26 := l, seqs := tset 0 x.seqs 24 f.iseq })
      (((s1.charge d 26 8 (· - cells (f.bytes.length + 4))).wr d (SWC_HpSEQ f.part) f.seq).txAdvance d f.part f.ring f.head).hostAdmit d f)

/-- RXHEAD_WRITE (R449): the partition frees slots and waiting frames move on (R450). -/
def execRxheadWrite (d : Die) (who : Initiator) (part : Fin 32) (q : Fin 8) (v : Word) (s : State) : Out :=
  .next (if s.alive d && Initiator.isPage who part then
      s.onDies (fun st e => ((st.wr e (SWC_HpqRXHEAD part q) v).hostMove e part q).takeNibItems e 8)
    else s)

/-- HOST_QUEUE_TIMEOUT: the frame at the head of a ring's queue is discarded (R450). -/
def execHostQueueTimeout (d : Die) (part : Fin 32) (q : Fin 8) (s : State) : Out :=
  .next (match tget [] (s.swc d).queues (ringQ part q) with
    | [] => s
    | id :: _ => ((s.dequeue d (ringQ part q) id).addSat d (SWC_HpqSTAT part q) SWC_HpqSTAT__RXDROP 1).takeNibItems d 8)

/-! ### Gates (R455) -/

/-- The entry of a gate list in force at a distance `o` from the start of its cycle: its index, and the start of it in the cycle. -/
def GateList.at (g : GateList) (o : Nat) : Nat × Nat :=
  (List.range g.entries.length).foldl (fun r i =>
    let t := ((g.entries.take i).map (·.2)).sum
    if t ≤ o then (i, t) else r) (0, 0)

/-- The entry and its start that a gate list comes to: the first entry in force of one that starts, which it does from its base time on a
whole number of cycles later, or the next entry once the interval of the present one has passed; none while neither is due (R455). -/
def State.gateDue (s : State) (d : Die) (p : Nat) : Option (Nat × Nat) :=
  let g := s.gates d p
  let now := s.ns d
  if g.entries = [] then none
  else if s.bit d (SWC_PpGATE p) SWC_PpGATE__GCL then
    let i := s.fld d (SWC_PpGATE p) SWC_PpGATE__ENTRY
    let at_ := g.since + (g.entries.getD i (0, 0)).2
    if now < at_ then none else some ((i + 1) % g.entries.length, at_)
  else if now < g.base then none
  else
    let o := (now - g.base) % max 1 g.cycle
    some ((g.at o).1, now - o + (g.at o).2)

/-- GATE_ENTRY_CHANGE: the list starts, or moves to its next entry, at the instant it is due (R455); credits are settled under the old gates.
A port in LPI with a frame queued for a gate that opens ends its LPI; the core ends it one wake time before, where the MAC asks for its
next frame then. -/
def execGateEntryChange (d : Die) (p : Fin 24) (s : State) : Out :=
  .next (match s.gateDue d p with
    | none => s
    | some (i, since) =>
      let g := s.gates d p
      let s1 := (List.range 8).foldl (fun st c => st.settleCredit d p c) s
      let open_ := (g.entries.getD i (0, 0)).1
      let s2 := s1.wr d (SWC_PpGATE p) (BitVec.ofNat 32 (open_ + 2 ^ 8 * i + 2 ^ 14))
      let s3 := s2.updSwc d (fun x => { x with gates := tput x.gates p { g with since := since } })
      if s3.bit d (MAC_STAT p) MAC_STAT__LPITX && (List.range 8).any (fun c =>
          bitOf open_ c && decide (tget [] (s3.swc d).queues (portQ p c) ≠ [])) then s3.leaveLpi d p
      else s3)

/-! ### Shadow forwarding (R457 to R461) -/

/-- FEED_ENTRY (R458): room that it frees lets nib items in (R442). -/
def execFeedEntry (d : Die) (s : State) : Out := .next ((s.feedTake d).takeNibItems d 8)

/-- The acknowledged frame of a ring is written, and the next that can moves. -/
def State.ringStart (s : State) (d : Die) (e : FeedEntry) : State :=
  let s1 := s.updSwc d (fun x => { x with awaiting := x.awaiting.erase e })
  match s.frameOf d e.id with
  | some f => ((s1.hostWrite d e.part e.ring f).dequeue d (ringQ e.part e.ring) f.id).hostMove d e.part e.ring
  | none => s1

/-- FEED_ACK: the oldest unacknowledged entry of the active core is acknowledged and its frame may start (R457): into the ring at once; on the
wire where the MAC is free, else with its next transmission. A 10BASE-T1S port senses its medium first. -/
def execFeedAck (d : Die) (s : State) : Out :=
  .next (match (s.swc d).awaiting.find? (fun e => !e.acked) with
    | none => s
    | some e =>
      if e.port = 24 then (s.ringStart d e).takeNibItems d 8
      else
        let s1 := s.updSwc d (fun x => { x with awaiting := x.awaiting.map (fun a => if a = e then { a with acked := true } else a) })
        if s1.macConnected d e.port && !isSb e.port && (s1.mac d e.port).tx.isNone then (s1.macNext d e.port).takeNibItems d 8 else s1)

/-- SHADOW_FRAME_DISCARD: a standby frame that the feed has passed is discarded (R458); `k` is the class, or the ring of
partition `part` for P24. -/
def execShadowFrameDiscard (d : Die) (p : Fin 25) (part : Fin 32) (k : Fin 8) (s : State) : Out :=
  let key := if p.val = 24 then ringQ part k else portQ p k
  .next (if s.swActive d then s
    else match tget [] (s.swc d).queues key with
      | [] => s
      | id :: _ => ((s.dequeue d key id).addSat d SWC_SHMIS SWC_SHMIS__SKIPPED 1).takeNibItems d 8)

/-- The steering commands a die sends for every port with the present serial (R399, R459). -/
def State.steerPorts (s : State) (d : Die) : State :=
  (List.range 24).foldl (fun st p => st.portSteer p d d (st.serial 8)) s

/-- Every feed entry received that need not wait acts. -/
def State.drainFeed (s : State) (d : Die) : State :=
  (List.range (s.swc d).feedIn.length).foldl (fun st _ => st.feedTake d) s

/-- A port's share in a frame of the fabric given up: the frame goes on to its other destinations, or is freed without any. -/
def State.leaveOut (s : State) (d : Die) (e : FeedEntry) (f : SwFrame) : State :=
  let g := { f with
    ports := f.ports.filter (fun p => decide (p ≠ e.port))
    parts := if e.port = 24 then maskOf ((List.range 32).filter (fun k => bitOf f.parts k && decide (k ≠ e.part))) else f.parts }
  if g.ports = [] ∧ g.parts = 0 then (s.updSwc d (fun x => x.drop f)).freeFrame d f
  else s.updSwc d (fun x => { x with fabric := x.fabric.map (fun h => if h = f then g else h) })

/-- The new active core drops what the feed named and starts selecting (R459): entries received act, a frame named and still in the fabric
leaves that port out, so no frame is sent twice. On each port at most one frame, the last named, is lost: one dequeued and not echoed, or
one still in the fabric. Entries still on the pair link are gone, and shaper credits start at 0. -/
def State.coreTakes (s : State) (d : Die) : State :=
  let s1 := s.drainFeed d
  let left := (s1.swc d).feedIn
  let s2 := left.foldl (fun st e => match (st.swc d).fabric.find? e.inFabric with
    | some f => st.leaveOut d e f
    | none => st) s1
  let s3 := (List.range 25).foldl (fun st p =>
    let lost := (decide (p < 24) && decide ((st.mac d p).deq ≠ [])) || left.any (fun e => decide (e.port = p))
    let st1 := if lost then st.addSat d (SWC_PpLOST p) ⟨0, 32⟩ 1 else st
    if p < 24 then st1.updMac d p (fun m => { m with deq := [], echoes := [], fragged := [] }) else st1) s2
  let now := s.ns d
  let s4 := s3.updSwc d (fun x => { x with
    feedIn := [], lastFeed := [], credits := x.queues.foldl (fun t e => tset (0, 0) t e.1 (0, now)) [] })
  { s4 with link := s4.link.upd d.other (fun l => { l with
      waiting := l.waiting.filter (fun f => match f.body with | .feed _ => false | _ => true) }) }.setF d SWC_STAT SWC_STAT__INSTEP 0

/-- SWITCH_CORE_FAILOVER: a fault in the active core of die `d` (R459). -/
def execSwitchCoreFailover (d : Die) (s : State) : Out :=
  let e := d.other
  .next (if s.holder 8 ≠ d ∨ !s.alive e then s
    else
      let s1 := (List.range 24).foldl (fun st p => if (st.port p).die = d then st.portSilent p else st) s
      let s2 := (s1.updSwc d (fun x => { x with awaiting := [] })).moveToken 8 e
      (s2.steerPorts e).coreTakes e)

/-- STANDBY_RESTART: a failed standby core discards its queues and resumes matching (R461). -/
def execStandbyRestart (d : Die) (s : State) : Out :=
  .next (if s.swActive d || !s.alive d then s
    else
      let s1 := s.updSwc d (fun x => { x with
        fabric := [], flights := [], lanes := [], bufCells := [], turns := [], frames := [], queues := [], charges := [], feedIn := [],
        lastFeed := [], pool := 0 })
      let s2 := (List.range 27).foldl (fun st p => st.wr d (SWC_PpOCC p) 0#32) s1
      let s3 := (List.range 24).foldl (fun st p => st.updMac d p (fun m => { m with deq := [], echoes := [], fragged := [] })) s2
      s3.setF d SWC_STAT SWC_STAT__INSTEP 0)

/-! ### Firmware commands (R435, R463) -/

/-- Dynamic entries of a die that meet a condition removed. -/
def State.flush (s : State) (d : Die) (p : Nat → Bool) : State :=
  (s.updSwc d (fun x => { x with fdb := x.fdb.filter (fun e => fdbStatic e.2 || !p e.2) })).fdbCount d

/-- A write to SWC_CMD: from partition 0 or a management core, with its CONFIRM. -/
def State.swcCmd (s : State) (d : Die) (who : Initiator) (confirm : BitVec 8) (act : State → State) : State :=
  if s.alive d && who.isManager && decide (confirm = 0x6B#8) then act s else s

/-- FLUSH_ALL: on both cores, as every change of dynamic entries (R436). -/
def execFlushAll (d : Die) (who : Initiator) (confirm : BitVec 8) (s : State) : Out :=
  .next (s.swcCmd d who confirm (fun s => (s.onDies (fun st e => if e = d ∨ st.joint d = true then st.flush e (fun _ => true) else st)).setF d
    SWC_CMDRES SWC_CMDRES__RESULT 3))

/-- FLUSH_PORT. -/
def execFlushPort (d : Die) (who : Initiator) (confirm : BitVec 8) (port : BitVec 5) (s : State) : Out :=
  .next (s.swcCmd d who confirm (fun s =>
    if 24 < port.toNat then s.setF d SWC_CMDRES SWC_CMDRES__RESULT 2
    else (s.onDies (fun st e => if e = d ∨ st.joint d = true then st.flush e (fun v => decide (fdbPort v = port.toNat)) else st)).setF d
      SWC_CMDRES SWC_CMDRES__RESULT 3))

/-- READMIT_BUFFER (R429). -/
def execReadmitBuffer (d : Die) (who : Initiator) (confirm : BitVec 8) (b : Fin 16) (s : State) : Out :=
  .next (s.swcCmd d who confirm (fun s =>
    if s.readmitOk d b then (s.readmit d b).setF d SWC_CMDRES SWC_CMDRES__RESULT 3
    else s.setF d SWC_CMDRES SWC_CMDRES__RESULT 2))

/-- The entry buffer as one number, and set from one. -/
def State.fbuf (s : State) (d : Die) : Nat :=
  (List.range 4).foldl (fun n i => n + (s.rd d (SWC_FBUFi i)).toNat * 2 ^ (32 * i)) 0
def State.setFbuf (s : State) (d : Die) (v : Nat) : State :=
  (List.range 4).foldl (fun st i => st.wr d (SWC_FBUFi i) (BitVec.ofNat 32 (v / 2 ^ (32 * i)))) s

/-- The result of a forwarding-database command: state 2 done or 3 refused, reason, index, whether it reached the
partner. -/
def State.fres (s : State) (d : Die) (state reason index : Nat) (partner : Bool) : State :=
  s.wr d SWC_FRES (BitVec.ofNat 32 (state + 4 * b2n partner + 16 * reason + 256 * index))

/-- FDB_READ_BY_KEY. -/
def execFdbReadByKey (d : Die) (who : Initiator) (s : State) : Out :=
  let v := s.fbuf d
  .next (if !(s.alive d && who.isManager) then s
    else match (s.swc d).fdbFind (fdbAddr v) (fdbVid v) with
      | some i => (s.setFbuf d (tget 0 (s.swc d).fdb i)).fres d 2 0 i false
      | none => s.fres d 3 1 0 false)

/-- FDB_READ_BY_INDEX. -/
def execFdbReadByIndex (d : Die) (who : Initiator) (i : BitVec 14) (s : State) : Out :=
  .next (if !(s.alive d && who.isManager) then s
    else (s.setFbuf d (tget 0 (s.swc d).fdb i.toNat)).fres d 2 0 i.toNat false)

/-- A change of a table on one die, or through the mirrored port on both. -/
def State.mirrorDo (s : State) (d : Die) (mirror : Bool) (f : State → Die → State) : State :=
  let s1 := f s d
  if mirror && s1.joint d then f s1 d.other else s1

/-- FDB_WRITE: VALID and STATIC are set; refused when the entry breaks its rules or its bucket holds four static
entries. -/
def execFdbWrite (d : Die) (who : Initiator) (mirror : Bool) (s : State) : Out :=
  let v0 := s.fbuf d
  let v := withBit (withBit v0 61 true) 62 true
  let reach := mirror && s.joint d
  .next (if !(s.alive d && who.isManager) then s
    else if !fdbRule v then s.fres d 3 3 0 false
    else match (s.swc d).fdbPut v with
      | none => s.fres d 3 2 0 false
      | some (i, _) => (s.mirrorDo d mirror (fun st e =>
          (st.updSwc e (fun x => match x.fdbPut v with | some (_, y) => y | none => x)).fdbCount e)).fres d 2 0 i reach)

/-- FDB_DELETE: by the key in the entry buffer. -/
def execFdbDelete (d : Die) (who : Initiator) (mirror : Bool) (s : State) : Out :=
  let v := s.fbuf d
  let reach := mirror && s.joint d
  .next (if !(s.alive d && who.isManager) then s
    else match (s.swc d).fdbFind (fdbAddr v) (fdbVid v) with
      | none => s.fres d 3 1 0 false
      | some i => (s.mirrorDo d mirror (fun st e =>
          match (st.swc e).fdbFind (fdbAddr v) (fdbVid v) with
          | some j => st.fdbSet e j 0
          | none => st)).fres d 2 0 i reach)

/-- VLAN_READ: a VID without an entry reads as its default (R465). -/
def execVlanRead (d : Die) (who : Initiator) (vid : BitVec 12) (s : State) : Out :=
  let m := s.vlanOf d vid.toNat
  .next (if !(s.alive d && who.isManager) then s
    else if vid.toNat = 0 ∨ vid.toNat = 4095 then s.setF d SWC_VRES SWC_VRES__STATE 3
    else ((s.wr d SWC_VBUF0 (BitVec.ofNat 32 m.1)).wr d SWC_VBUF1 (BitVec.ofNat 32 m.2)).setF d SWC_VRES SWC_VRES__STATE 2)

/-- VLAN_WRITE: refused for a VID outside 1 to 4,094 or a mask that names P26. -/
def execVlanWrite (d : Die) (who : Initiator) (mirror : Bool) (vid : BitVec 12) (s : State) : Out :=
  let m := (s.rd d SWC_VBUF0).toNat
  let u := (s.rd d SWC_VBUF1).toNat
  .next (if !(s.alive d && who.isManager) then s
    else if vid.toNat = 0 ∨ vid.toNat = 4095 ∨ 2 ^ 26 ≤ m ∨ 2 ^ 26 ≤ u then s.setF d SWC_VRES SWC_VRES__STATE 3
    else (s.mirrorDo d mirror (fun st e => st.updSwc e (fun x => { x with vlan := tput x.vlan vid.toNat (m, u) }))).setF d
      SWC_VRES SWC_VRES__STATE 2)

end Sys2Proof.Machine
end

