-- ==== Sys2Proof/Machine/TimeUnit.lean ====
section
/-! DEFINITION. The time unit (spec/12): the servo, BMCA, steps, agreement of the dies, reading time, pulses and lane pins. -/

namespace Sys2Proof.Machine

/-! ### State access -/

/-- The time unit of a die, and a change of it. -/
def State.tim (s : State) (d : Die) : TimeSt := (s.vol.get d).tim
def State.updTim (s : State) (d : Die) (f : TimeSt → TimeSt) : State := s.updVol d (fun v => { v with tim := f v.tim })

/-- A gPTP port of a die; without a record a 10BASE-T1S port is a master, a T1 port is chosen by BMCA, or a master under an
external configuration (R496). -/
def State.gport (s : State) (d : Die) (p : Nat) : GptpPort :=
  let g := tget {} (s.tim d).ports p
  if g.given then g
  else { g with state := if isSb p ∨ s.bit d TIM_CFG TIM_CFG__EXTCFG then 1 else 3 }

/-- Whether a die is time-active (R468). -/
def State.timeActive (s : State) (d : Die) : Bool := s.alive d && decide (s.holder 8 = d)

/-- Whether a die proposes steps for itself: time-active, or the pair link is down (R478). -/
def State.timeAlone (s : State) (d : Die) : Bool := s.alive d && (s.timeActive d || !s.linkUp)

/-- A signed register value. -/
def State.rdSigned (s : State) (d : Die) (off : Nat) : Int := toSigned 32 (s.rd d off).toNat

/-- A signed value shown in a register, saturating at 32 bits. -/
def State.wrSigned (s : State) (d : Die) (off : Nat) (x : Int) : State :=
  s.wr d off (BitVec.ofNat 32 (ofSigned 32 (max (-2 ^ 31) (min x (2 ^ 31 - 1)))))

/-! ### Records (R492, R495, R496) -/

/-- TIME_RECORD. -/
def execTimeRecord (d : Die) (r : Rec) (s : State) : Out :=
  let b := r.body
  let thr := u32 b 8
  let hold := u16 b 12
  .next (s.applyRec d r 0 false 0x0801
    (goodIf (decide (r.inst = 0 ∧ b.length = 16 ∧ u8 b 0 < 2 ∧ u8 b 3 = 0 ∧ 100 ≤ thr ∧ thr ≤ 1000000 ∧ 1 ≤ hold ∧
      hold ≤ 16383 ∧ u16 b 14 = 0) && !r.late))
    (fun s =>
      ((s.wr d TIM_CFG (BitVec.ofNat 32 (u8 b 0 + 2 * b2n (decide (u8 b 1 < 255)) + 4 * u8 b 1 + 2 ^ 10 * u8 b 2 +
        2 ^ 18 * hold))).wr d TIM_SERVO (BitVec.ofNat 32 (u16 b 6 + 2 ^ 16 * u16 b 4))).wr d TIM_STEPTHR (BitVec.ofNat 32 thr)))

/-- The settings without a time record, which the loader writes before the nibs start: BMCA, priority1 255, clockClass 248, a
holdover limit of 600 s (R469, R496). -/
def State.timeDefaults (s : State) (d : Die) : State :=
  if s.fld d TIM_CFG TIM_CFG__HOLDLIM = 0 then s.wr d TIM_CFG (BitVec.ofNat 32 (4 * 255 + 2 ^ 10 * 248 + 2 ^ 18 * 600)) else s

/-- PHASE_PLAN_RECORD. -/
def execPhasePlanRecord (d : Die) (r : Rec) (s : State) : Out :=
  let b := r.body
  .next (s.applyRec d r 0 false 0x0802
    (goodIf (decide (r.inst = 0 ∧ b.length = 328) && !r.late && zeroBytes b 4 4))
    (fun s => s.updVol d (fun v => { v with plan :=
      { stride := u32 b 0, base := (List.range 80).foldl (fun t n => tset 0 t n (u32 b (8 + 4 * n))) [] } })))

/-- Whether the applying time record, still to be judged or judged, chooses an external configuration (R59, R495). -/
def State.extCfg (s : State) (d : Die) : Bool :=
  match lastRec (s.todo d) d 0x0801 0 (fun r => decide (r.body.length = 16 ∧ u8 r.body 0 < 2)) with
  | some r => decide (u8 r.body 0 = 1)
  | none => s.bit d TIM_CFG TIM_CFG__EXTCFG

/-- GPTP_PORT_RECORD: a state of 2 on more than one port makes each of the records malformed (R496). -/
def execGptpPortRecord (d : Die) (r : Rec) (s : State) : Out :=
  let b := r.body
  let p := r.inst
  let st := u8 b 0
  let i8 := fun i => toSigned 8 (u8 b i)
  let ext := s.extCfg d
  let stOk := if isSb p then decide (st ≤ 1)
    else decide (st ≤ 3) && (!(decide (st = 1) || decide (st = 2)) || ext) && (decide (st ≠ 3) || !ext)
  let twoSlaves := decide (st = 2) && ((s.tim d).ports.any (fun e => decide (e.1 ≠ p ∧ e.2.state = 2)) ||
    (List.range 24).any (fun q => decide (q ≠ p) &&
      (lastRec (s.vol.get d).boot.recs d 0x0803 q (fun _ => true)).any (fun r => decide (u8 r.body 0 = 2))))
  .next (s.applyRec d r 0 false 0x0803
    (goodIf (decide (p < 24 ∧ b.length = 8 ∧ -7 ≤ i8 1 ∧ i8 1 ≤ 0 ∧ -3 ≤ i8 2 ∧ i8 2 ≤ 3 ∧ -3 ≤ i8 3 ∧ i8 3 ≤ 3 ∧ 2 ≤ u8 b 4 ∧
      u8 b 4 ≤ 10 ∧ 2 ≤ u8 b 5 ∧ u8 b 5 ≤ 10 ∧ 5 ≤ u16 b 6 ∧ u16 b 6 ≤ 1000) && stOk && !twoSlaves && !r.late))
    (fun s =>
      let g : GptpPort := ⟨true, st, i8 1, i8 2, i8 3, u8 b 4, u8 b 5, 10 * u16 b 6⟩
      let s1 := (s.updTim d (fun x => { x with ports := tset {} x.ports p g })).setF d (TIM_GpSTAT p) TIM_GpSTAT__STATE
        (if st = 3 then 1 else st)
      if st = 2 then s1.setF d TIM_STAT TIM_STAT__SLAVE p else s1))

/-- PULSE_OUTPUT_RECORD (R547). -/
def execPulseOutputRecord (d : Die) (r : Rec) (s : State) : Out :=
  .next (s.applyRec d r 0 false 0x0804
    (goodIf (decide (r.inst < 4 ∧ r.body.length = 8 ∧ u8 r.body 0 < 32) && s.defined d (u8 r.body 0) && zeroBytes r.body 1 7 && !r.late))
    (fun s => s.updTim d (fun x => { x with pulses := tupd {} x.pulses r.inst (fun k => { k with owner := some (u8 r.body 0) }) })))

/-- LANE_PIN_RECORD: one that assigns the pin needs an applying cluster record that names lane 80 + j (R260, R496), and no
assignment entry may name the pin (R546). -/
def execLanePinRecord (d : Die) (r : Rec) (s : State) : Out :=
  let named := (List.range 8).any (fun c => (s.laneRecOf d c).any (fun q => bitOf (u16 q.body 0) r.inst))
  .next (s.applyRec d r 0 false 0x0805
    (goodIf (decide (r.inst < 16 ∧ r.body.length = 8 ∧ u8 r.body 0 < 2) && zeroBytes r.body 1 7 && !r.late &&
      (decide (u8 r.body 0 = 0) || (named && !(s.vol.get d).boot.recs.any (assignsPin r.inst)))))
    (fun s => s.updTim d (fun x => { x with
      pins := x.pins.filter (fun j => decide (j ≠ r.inst)) ++ (if u8 r.body 0 = 1 then [r.inst] else []) })))

/-! ### The servo (R475 to R477) -/

/-- 250 ppm and 1,000 ppm in units of 2^-32. -/
def ppm250 : Int := 1073741
def ppm1000 : Int := 4294967

/-- A value held within ±250 ppm. -/
def clamp250 (x : Int) : Int := max (-ppm250) (min x ppm250)

/-- The adjustment set, kept among the last 16. -/
def State.setAdj (s : State) (d : Die) (adj : Int) : State :=
  (s.updTim d (fun x => { x with adjs := (x.adjs ++ [adj]).drop ((x.adjs.length + 1) - 16) })).wrSigned d TIM_FREQ adj

/-- The mean of the last adjustments. -/
def meanAdj (l : List Int) : Int := if l = [] then 0 else l.sum / (l.length : Int)

/-- The servo's computation for one offset in ns at a Sync interval of `ns` ns (R475, R479): integral and proportional
terms within the step threshold; beyond it a forward step is wanted when the local time is behind, a slew when it is
ahead, or a step back before the nibs start. -/
def State.servo (s : State) (d : Die) (theta : Int) (ns : Int) : State :=
  let ki : Int := s.fld d TIM_SERVO TIM_SERVO__KI
  let kp : Int := s.fld d TIM_SERVO TIM_SERVO__KP
  let thr : Int := s.fld d TIM_STEPTHR TIM_STEPTHR__THR
  if theta ≤ thr ∧ -thr ≤ theta then
    let i := clamp250 ((s.tim d).integ + ki * theta * 65536 / ns)
    ((s.updTim d (fun x => { x with integ := i, want := none })).setAdj d (clamp250 (-(kp * theta * 65536 / ns) - i))).setF d
      TIM_STAT TIM_STAT__SLEW 0
  else if theta < 0 ∨ s.dstate d < 3 then
    (s.updTim d (fun x => { x with want := some (-theta) })).setF d TIM_STAT TIM_STAT__SLEW 0
  else ((s.updTim d (fun x => { x with want := none })).setAdj d (-ppm1000)).setF d TIM_STAT TIM_STAT__SLEW 1

/-- The servo's state after a Sync: ACQUIRE from FREE or HOLDOVER, LOCKED after 8 offsets within 100 ns (R476). -/
def State.servoState (s : State) (d : Die) (theta : Int) : State :=
  let st := s.fld d TIM_STAT TIM_STAT__STATE
  let good := if theta ≤ 100 ∧ -100 ≤ theta then (s.tim d).good + 1 else 0
  let s1 := (if st = 0 ∨ st = 3 then (s.setF d TIM_STAT TIM_STAT__STATE 1).setF d TIM_STAT TIM_STAT__LOST 0 else s).updTim d
    (fun x => { x with good := good })
  if 8 ≤ good ∧ st ≠ 2 then (s1.setF d TIM_STAT TIM_STAT__STATE 2).setF d TIM_EVT TIM_EVT__LOCK 1 else s1

/-- Whether the grandmaster in force is the clock that a SLOW member's heartbeats carry (R681). -/
def State.slowClock (s : State) (d : Die) : Bool :=
  (s.vol.get d).zg.members.any (fun e => bitOf (s.rd d (ZGP_SLOWw (e.1 / 32))).toNat (e.1 % 32) &&
    decide (e.2.clock = s.rd64 d TIM_GMIDL TIM_GMIDH))

/-- SYNC_RECEIVE: a Sync with its Follow_Up, origin in ns, correction in units of 2^-16 ns, interval 2^-log s, and the
ingress stamp (R470, R475). A message of another domain is discarded and counted; the Sync of a SLOW member's clock counts as absent
(R681). What a relay passes on of it is kept (R474). -/
def execSyncReceive (d : Die) (p : Fin 24) (domain : BitVec 8) (origin : BitVec 64) (corr : BitVec 64) (log : Fin 8)
    (stamp : BitVec 64) (s : State) : Out :=
  .next (if !s.alive d then s
    else if domain ≠ 0#8 then s.addSat d TIM_DISC ⟨0, 32⟩ 1
    else if s.fld d TIM_STAT TIM_STAT__SLAVE ≠ p.val ∨ s.slowClock d = true then s
    else
      let rx : Int := (stamp.toNat : Int) - (s.rd d (MAC_DLY p)).toNat % 2 ^ 16
      let gm : Int := (origin.toNat : Int) + toSigned 64 corr.toNat / 65536 + (s.rd d (TIM_GpDELAY p)).toNat
      let theta := rx - gm
      let sent := rx - (s.rd d (TIM_GpDELAY p)).toNat
      let s1 := ((s.servoState d theta).wrSigned d TIM_OFFSET theta).updTim d (fun x => { x with
        upSync := some (origin.toNat, toSigned 64 corr.toNat, sent), syncAt := some (stamp.toNat, 1000000000 / 2 ^ log.val) })
      s1.servo d theta (1000000000 / 2 ^ log.val))

/-- HOLDOVER entered: the adjustment frozen at the mean of its last 16 values; Sync goes on from the own time, without a correction for the
grandmaster that is lost (R474). -/
def State.holdover (s : State) (d : Die) : State :=
  ((s.updTim d (fun x => { x with good := 0, want := none, upSync := none, holdAt := some (s.ns d) })).wrSigned d TIM_FREQ (meanAdj (s.tim d).adjs)).setF d TIM_STAT
    ⟨0, 3⟩ 3

/-- SYNC_RECEIPT_TIMEOUT: as many Sync intervals as the slave port's timeout have passed since the last Sync (R476). -/
def execSyncReceiptTimeout (d : Die) (s : State) : Out :=
  let st := s.fld d TIM_STAT TIM_STAT__STATE
  let slave := s.fld d TIM_STAT TIM_STAT__SLAVE
  let waits := (s.tim d).syncAt.any (fun e => decide (s.ns d < e.1 + (s.gport d slave).syncTimeout * e.2))
  .next (if (st = 1 ∨ st = 2) ∧ waits = false then
      ((s.holdover d).setF d TIM_STAT TIM_STAT__SLEW 0).setF d TIM_EVT TIM_EVT__HOLD 1 else s)

/-- HOLDOVER_LIMIT: FREE with LOST set, the adjustment as in HOLDOVER (R476), once HOLDOVER has lasted longer than the limit. -/
def execHoldoverLimit (d : Die) (s : State) : Out :=
  let waits := (s.tim d).holdAt.any (fun t => decide (s.ns d < t + s.fld d TIM_CFG TIM_CFG__HOLDLIM * 1000000000))
  .next (if s.fld d TIM_STAT TIM_STAT__STATE = 3 ∧ waits = false then
      (s.setF d TIM_STAT TIM_STAT__STATE 0).setF d TIM_STAT TIM_STAT__LOST 1 else s)

/-! ### BMCA (R469, R477; IEEE 802.1AS-2020) -/

/-- The system identity of a clock as one number, the better the lower. -/
def sysIdentity (prio1 cls quality prio2 id : Nat) : Nat :=
  prio1 * 2 ^ 104 + cls * 2 ^ 96 + quality * 2 ^ 72 + prio2 * 2 ^ 64 + id

/-- The module's own system identity. -/
def State.ownSystem (s : State) (d : Die) : Nat :=
  sysIdentity (s.fld d TIM_CFG TIM_CFG__PRIO1) (s.fld d TIM_CFG TIM_CFG__CLASS) (Config.clockQuality.toNat / 256)
    (Config.clockQuality.toNat % 256) Config.clockIdentity.toNat

/-- A priority vector: system identity, steps removed, source port identity, receiving port. -/
def prioVector (sys steps src port : Nat) : Nat := sys * 2 ^ 104 + steps * 2 ^ 88 + src * 2 ^ 8 + port

/-- The system identity and the grandmaster's clock identity of a vector. -/
def vecSystem (v : Nat) : Nat := v / 2 ^ 104
def vecId (v : Nat) : Nat := v / 2 ^ 104 % 2 ^ 64

/-- The grandmaster identity shown; a change passes through HOLDOVER for zero time and is an event (R477). -/
def State.setGm (s : State) (d : Die) (id : Nat) : State :=
  let lo := BitVec.ofNat 32 (leBytes (toBE 4 (id / 2 ^ 32)) 0 4)
  let hi := BitVec.ofNat 32 (leBytes (toBE 4 (id % 2 ^ 32)) 0 4)
  if s.rd d TIM_GMIDL = lo ∧ s.rd d TIM_GMIDH = hi then s
  else
    let s1 := ((s.wr d TIM_GMIDL lo).wr d TIM_GMIDH hi).setF d TIM_EVT TIM_EVT__GMCHG 1
    if s1.fld d TIM_STAT TIM_STAT__STATE = 0 then s1 else s1.holdover d

/-- The state of one port under BMCA: slave, passive where its vector beats the one the module would send on it, else
master. -/
def State.bmcaPort (s : State) (d : Die) (p : Nat) (best : Option (Nat × Nat)) : Nat :=
  match best with
  | some (q, v) =>
    if q = p then 2
    else match tfind (s.tim d).anns p with
      | some w => if w < prioVector (vecSystem v) (v / 2 ^ 88 % 2 ^ 16 + 1) (Config.clockIdentity.toNat * 2 ^ 16 + p) p then 3
                  else 1
      | none => 1
  | none => 1

/-- BMCA chooses again on a die: slave port, grandmaster, port states. A module that has no better vector is grandmaster
where its priority1 is below 255. Without a slave port the servo is FREE, with no adjustment (R476). -/
def State.bmca (s : State) (d : Die) : State :=
  if s.bit d TIM_CFG TIM_CFG__EXTCFG then s
  else
    let own := s.ownSystem d
    let cap := s.bit d TIM_CFG TIM_CFG__GMCAP
    let cand := (s.tim d).anns.filter (fun e => decide ((s.gport d e.1).state = 3) && (!cap || decide (vecSystem e.2 < own)))
    let best := cand.foldl (fun (b : Option (Nat × Nat)) e => match b with
      | some (q, v) => if e.2 < v then some e else some (q, v)
      | none => some e) none
    let s1 := (List.range 24).foldl (fun st p =>
      if (st.gport d p).state = 3 ∧ st.bit d (MAC_CFG p) MAC_CFG__EN then
        st.setF d (TIM_GpSTAT p) TIM_GpSTAT__STATE (st.bmcaPort d p best) else st) s
    match best with
    | some (q, v) => ((s1.setF d TIM_STAT TIM_STAT__SLAVE q).setF d TIM_STAT TIM_STAT__GM 0).setGm d (vecId v)
    | none =>
      let s2 := (s1.setF d TIM_STAT TIM_STAT__SLAVE 0x1F).setF d TIM_STAT TIM_STAT__GM (b2n cap)
      let s2 := s2.updTim d (fun x => { x with upSync := none })
      (((if cap then s2.setGm d Config.clockIdentity.toNat else s2).setF d TIM_STAT TIM_STAT__STATE 0).wrSigned d TIM_FREQ 0).setF d
        TIM_STAT TIM_STAT__SLEW 0

/-- ANNOUNCE_RECEIVE: an Announce of domain 0 on a gPTP port, from another clock that can be grandmaster, feeds BMCA; under
an external configuration the one on the slave port names the grandmaster. -/
def execAnnounceReceive (d : Die) (p : Fin 24) (domain : BitVec 8) (gm : Announce) (s : State) : Out :=
  .next (if !s.alive d then s
    else if domain ≠ 0#8 then s.addSat d TIM_DISC ⟨0, 32⟩ 1
    else if gm.prio1 = 255#8 ∨ 255 ≤ gm.steps.toNat ∨ gm.src.toNat / 2 ^ 16 = Config.clockIdentity.toNat then s
    else if s.bit d TIM_CFG TIM_CFG__EXTCFG then
      (if s.fld d TIM_STAT TIM_STAT__SLAVE = p.val then s.setGm d gm.id.toNat else s)
    else if (s.gport d p).state ≠ 3 then s
    else
      let v := prioVector (sysIdentity gm.prio1.toNat gm.cls.toNat gm.quality.toNat gm.prio2.toNat gm.id.toNat) gm.steps.toNat
        gm.src.toNat p.val
      (s.updTim d (fun x => { x with anns := tput x.anns p v, annHeard := tset none x.annHeard p (some (s.ns d)) })).bmca d)

/-- A message interval of 2^l s in ns. -/
def logNs (l : Int) : Nat := if l < 0 then 1000000000 / 2 ^ (-l).toNat else 1000000000 * 2 ^ l.toNat

/-- ANNOUNCE_RECEIPT_TIMEOUT: the port has heard no Announce for its timeout; what it heard is forgotten and BMCA chooses again. -/
def execAnnounceReceiptTimeout (d : Die) (p : Fin 24) (s : State) : Out :=
  let g := s.gport d p
  let waits := (tget none (s.tim d).annHeard p).any (fun t => decide (s.ns d < t + g.annTimeout * logNs g.logAnn))
  .next (if s.alive d ∧ waits = false then (s.updTim d (fun x => { x with anns := terase x.anns p })).bmca d else s)

/-- One interval of a message interval request: −128 keeps it, a value in range is taken, any other is ignored. -/
def askInterval (old : Int) (lo hi : Int) (v : BitVec 8) : Int :=
  if lo ≤ v.toInt ∧ v.toInt ≤ hi then v.toInt else old

/-- SIGNALING_RECEIVE: a message interval request TLV is honoured within the ranges; other TLVs are ignored (R469). -/
def execSignalingReceive (d : Die) (p : Fin 24) (domain : BitVec 8) (request : Bool) (sync pdelay ann : BitVec 8) (s : State) :
    Out :=
  .next (if !s.alive d then s
    else if domain ≠ 0#8 then s.addSat d TIM_DISC ⟨0, 32⟩ 1
    else if !request then s
    else
      let g := s.gport d p
      let g1 := { g with
        given := true, logSync := askInterval g.logSync (-7) 0 sync, logPdelay := askInterval g.logPdelay (-3) 3 pdelay,
        logAnn := askInterval g.logAnn (-3) 3 ann }
      s.updTim d (fun x => { x with ports := tset {} x.ports p g1 }))

/-! ### Messages sent and path delay (R469 to R474) -/

/-- PDELAY_EXCHANGE: on an enabled T1 gPTP port of the time-active die, which sends the Pdelay_Req; the values go to the other die, which keeps the last
ones while the pair link is down (R471, R473). asCapable holds while the delay is within the port's threshold. -/
def execPdelayExchange (d : Die) (p : Fin 24) (delay ratio : BitVec 32) (s : State) : Out :=
  let put := fun (st : State) (e : Die) =>
    ((st.wr e (TIM_GpDELAY p) delay).wr e (TIM_GpRATIO p) ratio).setF e (TIM_GpSTAT p) TIM_GpSTAT__ASCAP
      (b2n (decide (delay.toNat ≤ (st.gport e p).thresh)))
  .next (if isSb p || !s.timeActive d || decide ((s.gport d p).state = 0) || !s.bit d (MAC_CFG p) MAC_CFG__EN then s
    else
      let r := s.nextGptp d p 2
      let s1 := put (r.2.queueGptp d p 2 r.1 [] none) d
      if s1.linkUp && s1.alive d.other then put s1 d.other else s1)

/-- What an Announce of the module tells (R469): the system identity of its grandmaster and the steps to it. -/
def State.announceFields (s : State) (d : Die) : List Int :=
  match tfind (s.tim d).anns (s.fld d TIM_STAT TIM_STAT__SLAVE) with
  | some v => [vecSystem v, v / 2 ^ 88 % 2 ^ 16 + 1]
  | none => [s.ownSystem d, 0]

/-- Announce on a master port when its interval has passed since the last one (R469). -/
def State.announce (s : State) (d : Die) (p : Nat) : State :=
  if (tget none (s.tim d).annAt p).any (fun t => decide (s.ns d < t + logNs (s.gport d p).logAnn)) then s
  else
    let r := s.nextGptp d p 11
    (r.2.queueGptp d p 11 r.1 (s.announceFields d) none).updTim d (fun x => { x with annAt := tset none x.annAt p (some (s.ns d)) })

/-- SYNC_TRANSMIT: Sync on a master port, with the Follow_Up of the same sequence identifier behind it, which carries its egress stamp and
correction (R471, R472, R474), and Announce when that is due. -/
def execSyncTransmit (d : Die) (p : Fin 24) (s : State) : Out :=
  .next (if s.timeActive d ∧ s.fld d (TIM_GpSTAT p) TIM_GpSTAT__STATE = 1 then
      let r := s.nextGptp d p 0
      (r.2.queueGptp d p 0 r.1 [] (some (8, r.1))).announce d p
    else s)

/-! ### Steps (R478 to R480) -/

/-- STEP_PROPOSAL: the time-active die (each die while the pair link is down) proposes the step its servo wants, for an
instant at least 200 µs away, and not within 1 s of the last one. -/
def execStepProposal (d : Die) (ts : BitVec 64) (s : State) : Out :=
  let x := s.tim d
  let soon := match x.stepped with
    | some t => decide (s.ns d < t + 1000000000)
    | none => false
  .next (match x.want with
    | some delta =>
      if !s.timeAlone d || x.step.isSome || soon || decide (ts.toNat < s.ns d + 200000) then s
      else
        let put := fun (st : State) (e : Die) => (st.updTim e (fun x => { x with step := some (delta, ts.toNat), want := none })).setF e
          TIM_STAT TIM_STAT__STEPPEND 1
        let s1 := put s d
        if s1.linkUp && s1.alive d.other then put s1 d.other else s1
    | none => s)

/-- The gate list of a port at the entry a group time falls in (R480). -/
def State.gateSeek (s : State) (d : Die) (p : Nat) : State :=
  let g := s.gates d p
  let now := s.ns d
  if !s.bit d (SWC_PpGATE p) SWC_PpGATE__GCL ∨ now < g.base ∨ g.cycle = 0 then s
  else
    let o := (now - g.base) % g.cycle
    let r := g.at o
    (s.wr d (SWC_PpGATE p) (BitVec.ofNat 32 ((g.entries.getD r.1 (0, 0)).1 + 2 ^ 8 * r.1 + 2 ^ 14))).updSwc d (fun x => { x with
      gates := tput x.gates p { g with since := now - o + r.2 } })

/-- The instants of a die's cluster ticks in an interval open below and closed above (R480). -/
def State.ticksIn (s : State) (d : Die) (lo hi : Nat) : Nat :=
  let upTo := fun (t : Tick) (x : Nat) => if t.period = 0 ∨ x < t.phase then 0 else (x - t.phase) / t.period + 1
  (((s.vol.get d).clusters.flatMap (fun c => c.2.ticks.filterMap (·.2))).map (fun t => upTo t hi - upTo t lo)).sum

/-- A lane carried over a step of group time (R172): the period and the ramp that run end on the old time base, so their start and the
arrival of a waiting command keep their distance from the present. -/
def Lane.stepped (l : Lane) (old new : Nat) : Lane :=
  let at_ := fun (t : Nat) => t + new - old
  { l with
    start := at_ l.start, moved := true, ramp := l.ramp.map (fun r => (at_ r.1, r.2)),
    pend := match l.pend with | some (.pwm p on arr) => some (.pwm p on (at_ arr)) | c => c }

/-- A pulse output over a step from `old` to `new` (R490, R493): a once pulse whose time the step passes is late, a periodic output skips
the instants the step jumps over, and one that falls on the instant of the step rises after it. A pulse that is high keeps its width. -/
def Pulse.stepped (x : Pulse) (old new : Nat) : Pulse :=
  let x := { x with fallAt := x.fallAt + new - old }
  if !x.armed then x
  else if !x.periodic then { x with late := x.late || (decide (old ≤ x.start) && decide (x.start < new)) }
  else if x.next = old then { x with next := new }
  else if x.next < new then { x with next := x.next + (new - x.next + x.period - 1) / x.period * x.period }
  else x

/-- STEP_APPLY: at the apply instant the die adds the step (R478, R480); one backward is dropped once the nibs start (R479). The step and
the skipped ticks are counted, gate lists continue at the new time, pulse outputs as R490 gives, lanes as R172; what the servo wanted of the
old base is forgotten. -/
def execStepApply (d : Die) (s : State) : Out :=
  .next (match (s.tim d).step with
    | none => s
    | some (delta, ts) =>
      if s.ns d < ts then s
      else if delta < 0 ∧ 3 ≤ s.dstate d then (s.updTim d (fun x => { x with step := none })).setF d TIM_STAT TIM_STAT__STEPPEND 0
      else
      let old := s.ns d
      let t := ((s.now.get d : Int) + delta * 2 ^ 32).toNat
      let s1 := { s with now := s.now.set d t }
      let new := s1.ns d
      let s2 := s1.updTim d (fun x => { x with
        step := none, want := none, stepped := some new, pulses := x.pulses.map (fun e => (e.1, e.2.stepped old new)),
        syncAt := x.syncAt.map (fun e => (e.1 + new - old, e.2)), holdAt := x.holdAt.map (· + new - old) })
      let s2 := s2.updVol d (fun v => { v with lanes := v.lanes.map (fun e => (e.1, e.2.stepped old new)) })
      let s3 := ((s2.setF d TIM_STAT TIM_STAT__STEPPEND 0).setF d TIM_EVT TIM_EVT__STEP 1).addSat d TIM_STEPS ⟨0, 32⟩ 1
      let s4 := s3.addSat d TIM_TICKSKIP ⟨0, 32⟩ (s3.ticksIn d old new)
      (List.range 24).foldl (fun st p => st.gateSeek d p) s4)

/-! ### Agreement, RTC and reading (R481 to R484) -/

/-- A time unit that takes the time from its partner: it returns from die reset or is restarted (R482, R737). -/
def State.timeFromPartner (s : State) (d : Die) : State :=
  let s1 := ({ s with now := s.now.set d (s.now.get d.other) }).updTim d (fun x => { x with apart := 0 })
  (s1.wr d TIM_DIEOFS 0#32).setF d TIM_STAT TIM_STAT__STATE (if s.fld d.other TIM_STAT TIM_STAT__STATE = 0 then 0 else 1)

/-- The die at fault when the time units disagree (R737): the one with the larger offset, in FREE the one that is not time-active. -/
def State.timeFault (s : State) : Die :=
  let off := fun (d : Die) => (s.rd d TIM_OFFSET).toInt.natAbs
  let free := decide (s.fld 0 TIM_STAT TIM_STAT__STATE = 0 ∨ s.fld 1 TIM_STAT TIM_STAT__STATE = 0)
  if free || decide (off 0 = off 1) then (s.holder 8).other else if off 0 < off 1 then 1 else 0

/-- DIE_OFFSET_EXCHANGE: the partner's offset in ns. A die that returns takes the partner's time before its nibs start
(R482); exchanges stop for 1 ms after a step; 8 in a row beyond 100 ns are a disagreement, recorded by each die (R483), and the time
unit at fault is restarted (R737). -/
def execDieOffsetExchange (d : Die) (offset : BitVec 32) (s : State) : Out :=
  let o := offset.toInt
  let quiet := match (s.tim d).stepped with
    | some t => decide (s.ns d < t + 1000000)
    | none => false
  .next (if !(s.alive d && s.alive d.other && s.linkFlows) || quiet then s
    else if s.dstate d < 3 ∧ s.isSealed d.other = true then s.timeFromPartner d
    else
      let n := if 100 < o ∨ o < -100 then (s.tim d).apart + 1 else 0
      let s1 := (s.wr d TIM_DIEOFS offset).updTim d (fun x => { x with apart := if 8 ≤ n then 0 else n })
      if 8 ≤ n then
        (((s1.onDies (fun st e => (st.updTim e (fun x => { x with apart := 0 })).setF e TIM_EVT TIM_EVT__DIEOFS 1)).recordBoth 0x0D00
          0x06 d.val 0 0).timeFromPartner s1.timeFault)
      else s1)

/-- RTC_SET: while the time-active die is LOCKED, the RTC takes its group time in units of 2^-15 s (R481). -/
def execRtcSet (d : Die) (s : State) : Out :=
  .next (if s.timeActive d ∧ s.fld d TIM_STAT TIM_STAT__STATE = 2 then
      let v := s.ns d * 2 ^ 15 / 1000000000
      (s.wr64 0 CIS_RTCL CIS_RTCH v).updCis (fun c => { c with rtcFrac := 0, rtcSetAt := v })
    else s)

/-- The 16-bit fraction of a ns of a die's group time. -/
def State.frac (s : State) (d : Die) : Nat := s.now.get d % 2 ^ 32 / 2 ^ 16

/-- NOW_READ: the low word is answered, the high word and the fraction are latched for the initiator (R484). -/
def execNowRead (d : Die) (who : Initiator) (s : State) : Out :=
  .next (({ s with
    held := tput (tput s.held (heldKey d who TIM_NOWH) (BitVec.ofNat 32 (s.ns d / 2 ^ 32))) (heldKey d who TIM_NOWF)
      (BitVec.ofNat 32 (s.frac d)) }).reply (.value (s.ns d % 2 ^ 32)))

/-- SNAP: group time captured (R484). -/
def execSnap (d : Die) (who : Initiator) (confirm : BitVec 8) (s : State) : Out :=
  .next (if s.alive d && who.isManager && decide (confirm = 0x7D#8) then
      (s.wr64 d TIM_SNAPL TIM_SNAPH (s.ns d)).wr d TIM_SNAPF (BitVec.ofNat 32 (s.frac d))
    else s)

/-! ### Pulses and lane pins (R487 to R491) -/

/-- A pulse output, and a change of it. -/
def State.pulse (s : State) (d : Die) (k : Nat) : Pulse := tget {} (s.tim d).pulses k
def State.updPulse (s : State) (d : Die) (k : Nat) (f : Pulse → Pulse) : State :=
  s.updTim d (fun x => { x with pulses := tupd {} x.pulses k f })

/-- Whether an initiator may program a pulse output. -/
def State.mayPulse (s : State) (d : Die) (who : Initiator) (k : Nat) : Bool :=
  s.alive d && (who.isManager || match (s.pulse d k).owner with | some p => who.isOwner p | none => false)

/-- PULSE_ARM: a write to TIM_PkCFG (R489, R490). A width of 0, or a period outside 2,000 ns to 1,000 s or not above the
width, arms nothing. A periodic output starts at the first instant of its grid that has not passed. -/
def execPulseArm (d : Die) (who : Initiator) (k : Fin 4) (v : Word) (s : State) : Out :=
  let periodic := bitOf v.toNat 1
  let width := v.toNat / 2 ^ 16
  let start := s.rd64 d (TIM_PkSTARTL k) (TIM_PkSTARTH k)
  let period := s.rd64 d (TIM_PkPERIODL k) (TIM_PkPERIODH k)
  let ok := decide (1 ≤ width) && (!periodic || decide (2000 ≤ period ∧ period ≤ 1000000000000 ∧ 1000 * width < period))
  let now := s.ns d
  let next := if periodic ∧ start < now ∧ period ≠ 0 then start + (now - start + period - 1) / period * period else start
  .next (if !s.mayPulse d who k then s
    else
      let s1 := s.wr d (TIM_PkCFG k) (v &&& 0xFFFF0003#32)
      if bitOf v.toNat 0 ∧ ok then
        (s1.updPulse d k (fun x => { x with periodic := periodic, width := width, start := start, period := period,
                                            armed := true, next := next,
                                            late := !periodic && decide (start < now) })).setF d (TIM_PkSTAT k) TIM_PkSTAT__ARMED 1
      else (s1.updPulse d k (fun x => { x with armed := false })).setF d (TIM_PkSTAT k) TIM_PkSTAT__ARMED 0)

/-- PERIODL_WRITE: held until PERIODH is written (R489). -/
def execPeriodlWrite (d : Die) (who : Initiator) (k : Fin 4) (v : Word) (s : State) : Out :=
  .next (if s.mayPulse d who k then s.updPulse d k (fun x => { x with heldLow := some v }) else s)

/-- The write of PERIODH takes both words together. -/
def State.periodHigh (s : State) (d : Die) (k : Nat) (v : Word) : State :=
  match (s.pulse d k).heldLow with
  | some lo => ((s.wr d (TIM_PkPERIODL k) lo).wr d (TIM_PkPERIODH k) v).updPulse d k (fun x => { x with heldLow := none })
  | none => s.wr d (TIM_PkPERIODH k) v

/-- PULSE_RISE: an armed output rises at its time, within 4 ns (R489, R490); a once pulse whose time has passed is late, and the output
is then disarmed. -/
def execPulseRise (d : Die) (k : Fin 4) (s : State) : Out :=
  let x := s.pulse d k
  .next (if !(s.alive d && x.armed) || x.high || decide (s.ns d + 4 < x.next) then s
    else
      let after := x.start + ((x.next - x.start) / x.period + 1) * x.period
      let s1 := (s.updPulse d k (fun x => { x with
          high := true, armed := x.periodic, next := after, fallAt := s.ns d + 1000 * x.width })).fire d
        (0xA1 + k.val)
      if x.periodic then s1
      else
        let s2 := s1.setF d (TIM_PkSTAT k) TIM_PkSTAT__ARMED 0
        if x.late then (s2.setF d (TIM_PkSTAT k) TIM_PkSTAT__LATE 1).setF d TIM_EVT TIM_EVT__PULSELATE 1
        else s2.setF d (TIM_PkSTAT k) TIM_PkSTAT__LATE 0)

/-- PULSE_FALL: the pulse ends after its width, and a selector change that waited for it is made (R489, R491). -/
def execPulseFall (d : Die) (k : Fin 4) (s : State) : Out :=
  let x := s.pulse d k
  .next (if x.high ∧ s.ns d + 4 < x.fallAt then s
    else (s.updPulse d k (fun x => { x with high := false })).updCis (fun c => { c with pps := tset 0 c.pps k (s.holder 8).val }))

/-- LANE_PIN_MISMATCH: a pin assigned to lane 80 + j differs for 500 ns (R487). -/
def execLanePinMismatch (j : Fin 16) (s : State) : Out :=
  let off := TIM_LnST (80 + j.val)
  .next (if (s.tim s.anyDie).pins.contains j.val then
      (s.onDies (fun st d => st.addSat d off TIM_LnST__MIS 1)).recordBoth 0x0D00 0x06 (80 + j.val) 0 0
    else s)

end Sys2Proof.Machine
end

