-- ==== Sys2Proof/Machine/RegWrite.lean ====
section
/-! DEFINITION. A write to a register field that has no command of its own (R7, R8): who may write each block, and what the
access codes do with the value. -/

namespace Sys2Proof.Machine

/-- Whether an initiator may write the plain fields of the register at an offset. Registers with a command of their own are
not among them. -/
def State.mayWrite (s : State) (d : Die) (who : Initiator) (off : Nat) : Bool :=
  let mgr := who.isManager
  if who = .debug ∧ off < 0x160000 then s.debugAt d (if off / 0x10000 = 0x14 then 3 else 2)
  else if off < 0x10000 then
    if CIS_RETENTION 0 ≤ off ∧ off < CIS_RETENTION 0 + 0x800 then false
    else if CIS_ERRBUFi 0 ≤ off ∧ off < CIS_ERRBUFi 4 then
      mgr || (match who with
        | .part p => bitOf (s.rd d CIS_GMASK).toNat p.val
        | _ => false)
    else if off = CIS_ALARML ∨ off = CIS_ALARMH then false
    else mgr
  else if off < 0x20000 then mgr
  else if 0x40000 ≤ off ∧ off < 0x50000 then decide (off = EVC_ERR)
  else if 0x60000 ≤ off ∧ off < 0x70000 then mgr
  else if 0x90000 ≤ off ∧ off < 0xA0000 then
    if off < SGW_PpOTAIL 0 then mgr && decide (off ≠ SGW_TIDX)
    else decide (SGW_PpSTAT 0 ≤ off ∧ (off - SGW_PpSTAT 0) % 0x40 = 0) && who.isOwner ((off - SGW_PpSTAT 0) / 0x40)
  else if 0xA0000 ≤ off ∧ off < 0xB0000 then
    if (off - 0xA0000) / 0x800 < 28 then s.mayField d who ((off - 0xA0000) / 0x800) else mgr
  else if 0xB0000 ≤ off ∧ off < 0xC0000 then mgr
  else if 0xC0000 ≤ off ∧ off < 0xD8000 then
    decide (off % 0x1000 ≠ MAC_EEEWAKE 0 % 0x1000) && who.isOwner (s.fld d (MAC_CFG ((off - 0xC0000) / 0x1000)) MAC_CFG__PART)
  else if 0xE0000 ≤ off ∧ off < 0xF0000 then
    if off < SWC_HpqTXB 0 0 then mgr
    else decide (off % 0x20 = 0x1C) && who.isOwner ((off - SWC_HpqTXB 0 0) / 0x200)
  else if TIM_PkCFG 0 ≤ off ∧ off < TIM_PkCFG 4 then
    decide ((off - TIM_PkCFG 0) % 0x20 ≠ 0 ∧ (off - TIM_PkCFG 0) % 0x20 ≠ TIM_PkPERIODL 0 - TIM_PkCFG 0) && s.mayPulse d who ((off - TIM_PkCFG 0) / 0x20)
  else if 0xF0000 ≤ off ∧ off < 0x100000 then mgr
  else if 0x100000 ≤ off ∧ off < 0x109800 then
    let sd := (off - 0x100000) / 0x800
    let o := off % 0x800
    if o = 0x24 then false
    else if 0x100 ≤ o then s.mayChannel d who (sdFirst sd + (o - 0x100) / 0x80) else mgr
  else if 0x120000 ≤ off ∧ off < 0x130000 then who.isOwner (s.fld d UPD_CFG UPD_CFG__PART)
  else if 0x130000 ≤ off ∧ off < 0x140000 then mgr
  else if 0x140000 ≤ off ∧ off < 0x150000 then (match who with | .sealed _ => true | _ => false)
  else if 0x150000 ≤ off ∧ off < 0x160000 then mgr
  else if 0x160000 ≤ off then decide (who = .debug ∨ who = .part 0)
  else false

/-- The value of a register after a write: rw fields take the written value, before the seal lk fields too, a 1 clears a w1c bit,
the rest stays (R7). -/
def regAfter (r : RegDef) (unsealed : Bool) (old v : Word) : Word :=
  let rw := BitVec.ofNat 32 r.rw ||| (if unsealed then BitVec.ofNat 32 r.lk else 0#32)
  let w1c := BitVec.ofNat 32 r.w1c
  ((old &&& ~~~rw) ||| (v &&& rw)) &&& ~~~(v &&& w1c)

/-- A write to the plain fields of a mapped register: ignored from an initiator that may not make it (R8). A write to the high
word of a pulse period applies both words (R489). The loader of the die writes the lk fields until the seal (R7, R76), those of
the Cistern until the first seal of either die (R666). -/
def State.regWrite (s : State) (d : Die) (who : Initiator) (off : Nat) (v : Word) : State :=
  match regDef? off with
  | none => s
  | some r =>
    if who = .loader d then
      if s.isSealed d ∨ (off < 0x10000 ∧ s.cis.firstSeal = true) then s else s.wr d off (regAfter { r with rw := 0, w1c := 0 } true (s.rd d off) v)
    else if s.mayWrite d who off then
      match arrIdx (TIM_PkPERIODH 0) 0x20 4 off with
      | some k => s.periodHigh d k v
      | none => s.wr d off (regAfter r false (s.rd d off) v)
    else s

end Sys2Proof.Machine
end

