-- ==== Sys2Proof/Machine/Translate.lean ====
section
/-! DEFINITION. Address translation of the application cores (R581 to R583, R595 to R597): page-table walks of both stages and
the TLB. The layout of a PTE and of satp and hgatp is that of the RISC-V privileged architecture (log entry 11). -/

namespace Sys2Proof.Machine

/-- What a translation comes to: a physical address, a page fault, a guest page fault or an access fault. -/
inductive Xlate where
  | ok (pa : Nat)
  | pageFault
  | guestFault
  | accessFault
  deriving DecidableEq, Repr

/-- The three kinds of access as a translation sees them. -/
abbrev XKind := AccKind

/-- The VMID of a core: the low 5 bits of the field in hgatp (R539). -/
def CoreSt.vmid (c : CoreSt) : Nat := (tget 0#64 c.csr 0x680).toNat / 2 ^ 44 % 32

/-- A byte of a core's view of memory: its own written copy, else memory. -/
def State.coreByte (s : State) (d : Die) (c : AppCore) (a : Nat) : Byte := (tfind c.dirty a).getD (s.byteAt d a)

/-- `n` bytes of a core's view of memory. -/
def State.coreBytes (s : State) (d : Die) (c : AppCore) (a : Nat) : Nat → List Byte
  | 0 => []
  | n + 1 => s.coreByte d c a :: s.coreBytes d c (a + 1) n

/-- Whether PTE flags grant an access (bit 1 R, 2 W, 3 X, 4 U): a user access needs U, a supervisor one needs U clear unless SUM
is set and it is no fetch; MXR makes executable pages readable. -/
def pteGrants (flags : Nat) (k : XKind) (user sum mxr : Bool) : Bool :=
  (match k with
   | .read => bitOf flags 1 || (mxr && bitOf flags 3)
   | .write => bitOf flags 2
   | .fetch => bitOf flags 3) &&
  (if bitOf flags 4 then user || (sum && decide (k ≠ .fetch)) else !user)

/-- What a leaf PTE at a level comes to (R581 to R583): access fault with PPN bits 43:36 set, page fault where the
permission, A, D or the alignment of a large page is missing. -/
def leafXlate (pte level va : Nat) (k : XKind) (user sum mxr : Bool) : Xlate :=
  let ppn := pte / 2 ^ 10 % 2 ^ 44
  let span := 2 ^ (9 * level)
  if !pteGrants (pte % 256) k user sum mxr || ppn % span ≠ 0 || !bitOf pte 6 || (decide (k = .write) && !bitOf pte 7) then
    .pageFault
  else if 2 ^ 36 ≤ ppn then .accessFault
  else .ok ((ppn / span * span) * 4096 + va % (4096 * span))

/-- Whether a page-table page may be walked: it lies in a class J region that the walk's tags match and that grants writes
(R596). -/
def State.walkable (s : State) (d : Die) (t : Tags) (pa : Nat) : Bool :=
  match guardOf pa with
  | some (g, o) => match s.guardDecides d g o 8 t .read with
    | some (r, ok) => ok && decide (s.rgCtl d g r RGD_g_rCTL__CLASS = 0 ∧ s.rgCtl d g r RGD_g_rCTL__W = 1)
    | none => false
  | none => false

/-- The second stage: a walk of the tables that hgatp names over a guest physical address. `n` counts the levels left;
the root level has 11 index bits. A walk reads what the core sees of memory (R596). -/
def State.walkG (s : State) (d : Die) (t : Tags) (c : AppCore) (k : XKind) (gpa : Nat) (root : Bool) : Nat → Nat → Xlate
  | _, 0 => .guestFault
  | base, n + 1 =>
    let idx := gpa / 2 ^ (12 + 9 * n) % (if root then 2 ^ 11 else 2 ^ 9)
    let a := base * 4096 + 8 * idx
    if !s.walkable d t a then .accessFault else
    let pte := u64 (s.coreBytes d c a 8) 0
    if pte % 2 = 0 || (bitOf pte 2 && !bitOf pte 1) || 2 ^ 54 ≤ pte then .guestFault
    else if pte / 2 % 8 = 0 then s.walkG d t c k gpa false (pte / 2 ^ 10 % 2 ^ 44) n
    else match leafXlate pte n gpa k true false false with
      | .pageFault => .guestFault
      | r => r

/-- The levels of a translation mode field: 0 for Bare. -/
def modeLevels (m : Nat) : Nat := if m = 8 then 3 else if m = 9 then 4 else 0

/-- A guest physical address through the second stage of a core. -/
def State.guestXlate (s : State) (d : Die) (t : Tags) (c : AppCore) (k : XKind) (gpa : Nat) : Xlate :=
  let g := (tget 0#64 c.regs.csr 0x680).toNat
  let n := modeLevels (g / 2 ^ 60)
  if n = 0 then .ok (gpa % 2 ^ 48)
  else if 2 ^ (14 + 9 * n) ≤ gpa then .guestFault
  else s.walkG d t c k gpa true (g % 2 ^ 44) n

/-- The first stage: a walk over a virtual address; with `virt` every table address is a guest physical one. -/
def State.walk1 (s : State) (d : Die) (t : Tags) (c : AppCore) (k : XKind) (virt user sum mxr : Bool) (va : Nat) :
    Nat → Nat → Xlate
  | _, 0 => .pageFault
  | base, n + 1 =>
    let idx := va / 2 ^ (12 + 9 * n) % 2 ^ 9
    let ga := base * 4096 + 8 * idx
    match (if virt then s.guestXlate d t c .read ga else .ok ga) with
    | .ok a =>
      if !s.walkable d t a then .accessFault else
      let pte := u64 (s.coreBytes d c a 8) 0
      if pte % 2 = 0 || (bitOf pte 2 && !bitOf pte 1) || 2 ^ 54 ≤ pte then .pageFault
      else if pte / 2 % 8 = 0 then s.walk1 d t c k virt user sum mxr va (pte / 2 ^ 10 % 2 ^ 44) n
      else leafXlate pte n va k user sum mxr
    | r => r

/-- The mode an access is made in: mstatus.MPRV gives loads and stores of M mode the mode of MPP and MPV. -/
def CoreSt.accessMode (c : CoreSt) (k : XKind) : Nat × Bool :=
  let m := (tget 0#64 c.csr 0x300).toNat
  if c.priv = 3 ∧ k ≠ .fetch ∧ bitOf m 17 = true then
    let p := m / 2 ^ 11 % 4
    (p, p ≠ 3 && bitOf m 39)
  else (c.priv, c.virt)

/-- A translation by walks of both stages. -/
def State.xlateWalk (s : State) (d : Die) (t : Tags) (c : AppCore) (k : XKind) (va : Nat) : Xlate :=
  let m := c.regs.accessMode k
  if m.1 = 3 then .ok (va % 2 ^ 48) else
  let atp := (tget 0#64 c.regs.csr (if m.2 then 0x280 else 0x180)).toNat
  let st := (tget 0#64 c.regs.csr (if m.2 then 0x200 else 0x300)).toNat
  let n := modeLevels (atp / 2 ^ 60)
  let top := 2 ^ (11 + 9 * n)
  let first : Xlate :=
    if n = 0 then .ok va
    else if va / top ≠ 0 ∧ va / top ≠ 2 ^ 64 / top - 1 then .pageFault
    else s.walk1 d t c k m.2 (decide (m.1 = 0)) (bitOf st 18) (bitOf st 19) va (atp % 2 ^ 44) n
  match first with
  | .ok a => if m.2 then s.guestXlate d t c k a else .ok (a % 2 ^ 48)
  | r => r

/-- Whether a TLB entry serves an access of a core in a mode. -/
def TlbEntry.hits (e : TlbEntry) (c : CoreSt) (m : Nat × Bool) (va : Nat) : Bool :=
  let atp := (tget 0#64 c.csr (if m.2 then 0x280 else 0x180)).toNat
  decide (e.virt = m.2) && (!e.virt || decide (e.vmid = c.vmid)) && (e.glob || decide (e.asid = atp / 2 ^ 44 % 2 ^ 16)) &&
  decide (va / 4096 = e.vpage)

/-- A translation by a core, with its TLB after it. An entry that serves the access may still be there or may have been
replaced: which of the two, the spec leaves open (R597), so a free value decides; an entry that grants a kind of access
is kept under it (`flags`: 0 read, 1 write, 2 fetch). In the sealed world there is no translation (R554). -/
def State.xlate (s : State) (d : Die) (t : Tags) (c : AppCore) (k : XKind) (va : Nat) : Xlate × List TlbEntry × State :=
  let m := c.regs.accessMode k
  if c.sealed ∨ m.1 = 3 then (.ok (va % 2 ^ 48), c.tlb, s)
  else
    let s1 := { s with free := s.free + 1 }
    let keep : Bool := decide ((Config.freeWord s.free).toNat % 2 = 1)
    match c.tlb.find? (fun e => e.hits c.regs m va && decide (e.flags = k.code)), keep with
    | some e, true => (.ok (e.ppage * 4096 + va % 4096), c.tlb, s1)
    | _, _ =>
      let atp := (tget 0#64 c.regs.csr (if m.2 then 0x280 else 0x180)).toNat
      match s.xlateWalk d t c k va with
      | .ok pa =>
        let e : TlbEntry := ⟨c.regs.vmid, atp / 2 ^ 44 % 2 ^ 16, false, m.2, va / 4096, pa / 4096, 0, k.code⟩
        (.ok pa, e :: c.tlb.filter (fun e => !(e.hits c.regs m va && decide (e.flags = k.code))), s1)
      | r => (r, c.tlb, s1)

end Sys2Proof.Machine
end

