-- ==== Sys2Proof/Machine/CoreOps.lean ====
section
/-! DEFINITION. What an application core does (spec/13, spec/15): registers and CSRs, traps, retiring, its accesses by memory
class, the transactions it puts at the duplex egress, the input log, the deliveries it takes. -/

namespace Sys2Proof.Machine

/-! ### Cores of a duplex -/

/-- Core A (0) or B (1) of a duplex, and a change of it. -/
def State.core (s : State) (d : Die) (x : Nat) (b : Die) : AppCore := (s.dux d x).cores.get b
def State.updCore (s : State) (d : Die) (x : Nat) (b : Die) (f : AppCore → AppCore) : State :=
  s.updDux d x (fun u => { u with cores := u.cores.upd b f })

/-- The state of a duplex in the codes of DUX_dSTAT.STATE. -/
def State.duxState (s : State) (d : Die) (x : Nat) : Nat := s.fld d (DUX_dSTAT x) DUX_dSTAT__STATE

/-- The role of a duplex in the codes of DUX_dSTAT.ROLE. -/
def State.duxRole (s : State) (d : Die) (x : Nat) : Nat := s.fld d (DUX_dSTAT x) DUX_dSTAT__ROLE

/-- Whether a core is in WFI. -/
def State.coreWfi (s : State) (d : Die) (x : Nat) (b : Die) : Bool :=
  s.bit d (DUX_dSTAT x) (if b = 0 then DUX_dSTAT__WFIA else DUX_dSTAT__WFIB)

/-- A core put in or taken out of WFI. -/
def State.setWfi (s : State) (d : Die) (x : Nat) (b : Die) (v : Bool) : State :=
  s.setF d (DUX_dSTAT x) (if b = 0 then DUX_dSTAT__WFIA else DUX_dSTAT__WFIB) (b2n v)

/-- Whether a core leads its duplex; core A where the counts are equal. -/
def State.leads (s : State) (d : Die) (x : Nat) (b : Die) : Bool :=
  let u := s.dux d x
  if b = 0 then decide (u.cores.q1.count ≤ u.cores.q0.count) else decide (u.cores.q0.count < u.cores.q1.count)

/-- The leading core's count of retired instructions. -/
def DuxSt.lead (u : DuxSt) : Nat := max u.cores.q0.count u.cores.q1.count

/-- Whether a core may execute its next instruction: it is out of reset and not stopped, its duplex runs or re-executes, it
waits for nothing at the egress, the end count of the epoch lies ahead, it is not in WFI; in a lag stall only the lagging
core runs (R505). -/
def State.canRun (s : State) (d : Die) (x : Nat) (b : Die) : Bool :=
  let u := s.dux d x
  let c := u.cores.get b
  let st := s.duxState d x
  s.alive d && s.inRun && c.run && !c.stopped && !u.failed && c.wait.isNone && c.offer.isNone && !s.coreWfi d x b &&
  (match u.endAt with
   | some e => decide (c.count < e)
   | none => true) &&
  (decide (st = 1 ∨ st = 2) || (decide (st = 3) && !s.leads d x b))

/-- The tags of a core's transactions (R540). -/
def AppCore.tags (c : AppCore) : Tags :=
  { init := 0, part := c.regs.vmid, hyp := !c.regs.virt && !c.sealed, sealed := c.sealed }

/-! ### CSRs (R581 to R586, R605 to R608) -/

/-- Whether the spec gives a CSR its value; every other CSR is the architecture's (log entry 11). -/
def moduleCsr (n : Nat) : Bool :=
  decide (n = 0x301 ∨ (0xF11 ≤ n ∧ n ≤ 0xF14) ∨ (0x3A0 ≤ n ∧ n < 0x3F0) ∨ n = 0x7C0 ∨ (0xCC0 ≤ n ∧ n ≤ 0xCC2) ∨
    n = 0xC00 ∨ n = 0xC01 ∨ n = 0xC02 ∨ n = 0xB00 ∨ n = 0xB02 ∨ (0xC03 ≤ n ∧ n ≤ 0xC1F) ∨ (0xB03 ≤ n ∧ n ≤ 0xB1F) ∨
    (0x323 ≤ n ∧ n ≤ 0x33F))

/-- The value of a CSR that the spec gives (R582, R584, R605, R606, R608). cycle is a free value; so is a performance counter, and
whether its OF bit has come, while it counts an event whose count this machine does not keep (log entry 84). -/
def State.csrValue (s : State) (d : Die) (x : Nat) (b : Die) (n : Nat) : Nat :=
  let c := s.core d x b
  let own := (tget 0#64 c.regs.csr n).toNat
  let p := c.regs.vmid
  if n = 0x301 then 0x80000000003411AD
  else if n = 0xF13 then 0x728000E1
  else if n = 0xF14 then d.val * 12 + x
  else if n = 0xF11 ∨ n = 0xF12 ∨ (0x3A0 ≤ n ∧ n < 0x3F0) then 0
  else if n = 0x7C0 then own
  else if n = 0xCC0 then c.count % 2 ^ 40
  else if n = 0xCC1 then
    match (s.ck (s.homeDie p) p).released with
    | some q => q + 2 ^ 63
    | none => 0
  else if n = 0xCC2 then x + 16 * d.val + 2 ^ 8 * p
  else if n = 0xC01 then s.ns d
  else if n = 0xC02 ∨ n = 0xB02 then (tget 0#64 c.regs.csr 0xB02).toNat
  else if 0x323 ≤ n ∧ n ≤ 0x33F then
    if perfExact (own % 256) then own else withBit own 63 (bitOf own 63 || bitOf (Config.freeWord s.free).toNat 63)
  else if n % 32 ≠ 0 ∧ perfExact (c.regs.get (.csr (0x320 + n % 32)) % 256) = true then c.regs.get (.csr (0xB00 + n % 32))
  else (Config.freeWord s.free).toNat

/-- Whether a CSR of the list above may be written: mzcfg, the machine-mode counters and mhpmevent3-31. -/
def csrWritable (n : Nat) : Bool := decide (n = 0x7C0 ∨ n = 0xB00 ∨ (0xB02 ≤ n ∧ n ≤ 0xB1F) ∨ (0x323 ≤ n ∧ n ≤ 0x33F))

/-- A writable CSR of the list above written. A counter whose event was not counted exactly keeps, when its mhpmevent is
written, the value `got` it had then, a free value (log entry 84). -/
def CoreSt.csrPut (r : CoreSt) (n v got : Nat) : CoreSt :=
  if n = 0x7C0 then r.set (.csr n) (v % 4)
  else if 0x323 ≤ n ∧ n ≤ 0x33F then
    (if perfExact (r.get (.csr n) % 256) then r else r.set (.csr (0xB00 + n % 32)) got).set (.csr n) (Nat.land v mhpmMask)
  else r.set (.csr n) v

/-- Registers after an event of a core counted by its counters, which stand still in a sealed call (R555). -/
def AppCore.counted (c : AppCore) (code : Nat) (r : CoreSt) : CoreSt := if c.sealed then r else r.countEvent code

/-! ### Traps and retiring -/

/-- The instruction's length in bytes. -/
def insnLen (w : Word) : Nat := if w.toNat % 4 = 3 then 4 else 2

/-- Whether a core has taken a delivery: it has passed its count, or stands at it where no epoch ends there (R511, R533). One whose
count fell inside a sealed call waits for the end of the call (R556). -/
def AppCore.took (c : AppCore) (endAt : Option Nat) (v : Deliv) : Bool :=
  if v.bit = 64 then decide (v.count ≤ c.count)
  else !c.sealed && decide (v.count < c.count ∨ (v.count = c.count ∧ endAt ≠ some c.count))

/-- Deliveries that both cores have taken are dropped. -/
def State.settleDeliv (s : State) (d : Die) (x : Nat) : State :=
  s.updDux d x (fun u => { u with
    deliv := u.deliv.filter (fun v => !(u.cores.q0.took u.endAt v && u.cores.q1.took u.endAt v)) })

/-- A lag stall ends when the lag has fallen below half of each limit (R505); a lag in time, when the lagging core has caught up (log entry
121). -/
def State.easeLag (s : State) (d : Die) (x : Nat) : State :=
  let lag := (s.dux d x).lag
  if s.duxState d x = 3 ∧ lag < 4096 ∧ (s.fld d (DUX_dLAG x) DUX_dLAG__TIME ≤ 20 ∨ lag = 0) then
    ((s.setF d (DUX_dSTAT x) DUX_dSTAT__STATE (if (s.dux d x).replay.isSome then 2 else 1)).setF d (DUX_dLAG x) DUX_dLAG__TIME 0).updDux d x (fun u => { u with
      stallEnd := some (s.ns d), call := u.call.map (fun k => { k with idle := k.idle + (s.ns d - u.waitAt.getD (s.ns d)) }), waitAt := none })
  else s

/-! ### The input log (R515) -/

/-- The length of a log record in bytes, and its bytes. -/
def LogRec.size (r : LogRec) : Nat := 8 + (r.body.length + 7) / 8 * 8
def LogRec.bytes (r : LogRec) : List Byte :=
  toLE 5 r.count ++ toLE 1 r.typ ++ toLE 1 (r.size / 8) ++ toLE 1 0 ++ r.body ++
    List.replicate (r.size - 8 - r.body.length) 0#8

/-- The length of a stretch of log. -/
def logBytes (l : List LogRec) : Nat := (l.map LogRec.size).sum

/-- The spare duplex that shadows a home duplex of a die (R498), on the other die. -/
def State.spareOf (s : State) (d : Die) (x : Nat) : Option Nat :=
  (List.range 12).find? (fun y => decide (s.duxRole d.other y = 2) &&
    decide (s.fld d.other (DUX_dSTAT y) DUX_dSTAT__SERVES = x))

/-- Whether the inputs of a partition homed on die `d` are logged: it is shadowed or being synchronised. -/
def State.logged (s : State) (d : Die) (p : Nat) : Bool :=
  (decide (s.ckState d p = 2 ∨ s.ckState d p = 3)) && s.linkUp && s.alive d.other

/-- A record made while a duplex runs a partition, sent to its spare in class 2 (R31, R515); nothing is logged while it
re-executes. -/
def State.logOn (s : State) (d : Die) (x : Nat) (typ count : Nat) (body : List Byte) : State :=
  let r : LogRec := ⟨count, typ, body⟩
  match s.runningOn d x, (s.dux d x).replay, s.spareOf d x with
  | some p, none, some y =>
    if !s.logged d p then s else
    let s1 := s.updDux d x (fun u => { u with logMade := u.logMade + r.size })
    s1.plSend d 2 (.log y r)
      (if typ = 1 ∨ typ = 4 then s1.pairCipher d [(u64 body 0, body.drop 8)] else [])
  | _, _, _ => s

/-- The deliveries that a core's count reaches, or that waited for the end of its sealed call (`back`, R556): interrupt-pending bits set
or cleared in mip before its next instruction (R511). The first core to take one logs it at that count. -/
def State.reachDeliv (s : State) (d : Die) (x : Nat) (b : Die) (back : Bool) : State :=
  let c := s.core d x b
  let due := fun (v : Deliv) => decide (v.bit ≠ 64) && c.took (s.dux d x).endAt v && (back || decide (v.count = c.count))
  let l := (s.dux d x).deliv.filter due
  if l.isEmpty then s else
  let s1 := (l.filter (fun v => !v.body.isEmpty)).foldl (fun st v => st.logOn d x 0x03 c.count v.body) s
  (s1.updDux d x (fun u => { u with deliv := u.deliv.map (fun v => if due v then { v with body := [] } else v) })).updCore d x b
    (fun c => { c with regs := l.foldl (fun r v => r.set (.csr 0x344) (withBit (r.get (.csr 0x344)) v.bit v.on)) c.regs })

/-- A log record that reaches the spare, which stores it and follows a claim it tells of (R515, R629). -/
def State.logIn (s : State) (d : Die) (y : Nat) (r : LogRec) : State :=
  let s1 := s.updDux d y (fun u => { u with stored := u.stored ++ [r], storedPos := u.storedPos + r.size })
  let a := u64 r.body 0
  if r.typ = 1 ∧ (a = 0x50000000 + EVC_CLAIMM ∨ a = 0x50000000 + EVC_CLAIMS ∨ a = 0x50000000 + EVC_CLAIMV) then
    s1.shadowClaim d (u32 r.body 8)
  else s1

/-- The caller's state restored from the save slot (R557, R559): x1 to x31 or all but x10 to x17, f0 to f31, fcsr, pc, mode. -/
def restoreCall (r : CoreSt) (slot : List Byte) (keepArgs : Bool) : CoreSt :=
  let xs := (List.range 31).foldl (fun r i =>
    if keepArgs && decide (10 ≤ i + 1 ∧ i + 1 ≤ 17) then r else r.set (.x (i + 1)) (u64 slot (8 * i))) r
  let fs := (List.range 32).foldl (fun r i => r.set (.f i) (u64 slot (0xF8 + 8 * i))) xs
  let m := u64 slot 0x208
  { fs.set (.csr 3) (u64 slot 0x1F8) with
    pc := BitVec.ofNat 64 (u64 slot 0x200), priv := m % 4, virt := bitOf m 2 }

/-- The line of an address. -/
def lineOf64 (a : Nat) : Nat := a / 64 * 64

/-- Bytes of J lines written by a core: its copies change, and the lines join the bitmap of the open epoch (R513). -/
def State.coreWrite (s : State) (d : Die) (x : Nat) (b : Die) (a : Nat) (l : List Byte) : State :=
  let s1 := s.updCore d x b (fun c => { c with
    dirty := (List.range l.length).foldl (fun t i => tput t (a + i) (l.getD i 0#8)) c.dirty })
  let lines := (List.range ((lineOf64 (a + l.length - 1) - lineOf64 a) / 64 + 1)).map (fun i => lineOf64 a + 64 * i)
  s1.updDux d x (fun u => { u with dirty := lines.foldl (fun t a => if t.contains a then t else a :: t) u.dirty })

/-- The save slot of a partition (WLD_pSAVEL, WLD_pSAVEH). -/
def State.saveSlot (s : State) (d : Die) (p : Nat) : Nat :=
  s.rd64 d (WLD_pSAVEL p) (WLD_pSAVEH p) / 1024 * 1024

/-- A sealed call marked in progress or ended in the registers that show it. -/
def State.showCall (s : State) (d : Die) (x p : Nat) (gate : Option Nat) : State :=
  let s1 := s.setF d (WLD_pSTAT p) WLD_pSTAT__INCALL (b2n gate.isSome)
  match gate with
  | some g => s1.wr d (WLD_dSEAL x) (BitVec.ofNat 32 (1 + 2 * g + 2 ^ 9 * p))
  | none => s1.wr d (WLD_dSEAL x) 0#32

/-- A core back in the open world, where it takes what came due inside the call (R556); when both are, the call of the duplex is over. -/
def State.leaveCall (s : State) (d : Die) (x : Nat) (b : Die) : State :=
  let s1 := (s.updCore d x b (fun c => { c with sealed := false, entry := false })).reachDeliv d x b true
  match (s1.dux d x).call with
  | some k =>
    if (s1.core d x (Die.other b)).sealed then s1
    else
      let due := (s1.dux d x).lead + 33
      (s1.updDux d x (fun u => { u with
        call := none, deliv := u.deliv.filter (fun v => !decide (v.bit = 64 ∧ v.count < due)) })).showCall d x k.part none
  | none => s1

/-- SEALED_UNAVAILABLE, SEALED_DENIED and SEALED_FAULT (R551). -/
def sealedUnavailable : Nat := 2 ^ 64 - 1
def sealedDenied : Nat := 2 ^ 64 - 2
def sealedFault : Nat := 2 ^ 64 - 3

/-- A core's sealed call ended without WRET (R559): the caller's state restored, a0 the code, a1 to a7 zero. -/
def State.abortCore (s : State) (d : Die) (x : Nat) (b : Die) (code : Nat) : State :=
  let c := s.core d x b
  if !c.sealed then s else
  let slot := s.coreBytes d c (s.saveSlot d c.regs.vmid) 528
  let r := restoreCall c.regs slot false
  let r1 := ((List.range 7).foldl (fun r i => r.set (.x (11 + i)) 0) r).set (.x 10) code
  (s.updCore d x b (fun c => { c with regs := r1, wait := none, offer := none })).leaveCall d x b

/-- The first instruction of a partition that a cut-over starts; that of the last one fixes UPD_CUTUS in µs (R717). -/
def State.cutRun (s : State) (d : Die) (p : Nat) : State :=
  match (s.vol.get d).upd.cut with
  | none => s
  | some (t, ps) =>
    let rest := ps.filter (fun q => decide (q ≠ p))
    if rest = [] then
      (s.wr d UPD_CUTUS (BitVec.ofNat 32 (satTo 0xFFFFFFFF ((s.ns d - t) / 1000)))).updUpd d (fun u => { u with cut := none })
    else s.updUpd d (fun u => { u with cut := some (t, rest) })

/-- mip after an instruction: MEIP, SEIP, VSEIP, MTIP, STIP and MSIP are set and cleared by the event controller only, LCOFIP is set by it
(R585), whatever the instruction writes; SSIP and VSSIP take effect at the instruction. -/
def CoreSt.keepPending (old new : CoreSt) : CoreSt :=
  let o := old.get (.csr 0x344)
  let n := new.get (.csr 0x344)
  if o = n then new else new.set (.csr 0x344) (Nat.lor (Nat.land o 0xFFFFDFF9) (Nat.lor (Nat.land n 0x6) (Nat.land (Nat.land o n) 0x2000)))

/-- One instruction retired by a core: registers written, the pc, the counts (instret stands still in a sealed call, R555),
the deliveries it reaches; a delivery of bit 64 ends a sealed call with its code (R559, R561). -/
def State.retire (s : State) (d : Die) (x : Nat) (b : Die) (regs : CoreSt) : State :=
  let l := (s.dux d x).deliv
  let s1 := s.updCore d x b (fun c =>
    let k := c.regs.keepPending regs
    let r := if c.sealed ∨ bitOf (k.get (.csr 0x320)) 2 = true then k
             else k.set (.csr 0xB02) (k.get (.csr 0xB02) + 1)
    { c with regs := r, count := c.count + 1, wait := none, offer := none })
  let c := s1.core d x b
  let s2 := match (if c.sealed then l.find? (fun v => decide (v.bit = 64 ∧ v.count ≤ c.count)) else none) with
    | some v => s1.abortCore d x b (u64 v.body 0)
    | none => s1.reachDeliv d x b false
  ((s2.settleDeliv d x).easeLag d x).cutRun d c.regs.vmid

/-- The fault record of a call that sealed code ended by an exception (R559): class 0x11, detail "fault", once per call. -/
def State.sealedFaultRecord (s : State) (d : Die) (x : Nat) (b : Die) (cause tval : Nat) : State :=
  match (s.dux d x).call with
  | some k =>
    if (s.core d x (Die.other b)).sealed then
      ((s.recordBoth 0x0600 0x11 (k.gate + 2 ^ 8 * k.part) 0x0D (cause % 256 + 2 ^ 8 * (tval % 2 ^ 48))).addSat d WLD_SABORT
        WLD_SABORT__OTHER 1).logOn d x 0x07 (s.core d x b).count (toLE 8 sealedFault)
    else s
  | none => s

/-- An exception or interrupt taken by a core. In the sealed world it ends the call with SEALED_FAULT (R559). -/
def State.trap (s : State) (d : Die) (x : Nat) (b : Die) (cause tval : Nat) : State :=
  if (s.core d x b).sealed then (s.sealedFaultRecord d x b cause tval).abortCore d x b sealedFault
  else s.updCore d x b (fun c => { c with regs := Config.rvTrap c.regs cause tval, wait := none })

/-- The causes of the architecture (log entry 11). -/
def illegalInsn : Nat := 2
def virtualInsn : Nat := 22
def accessCause (k : XKind) : Nat := match k with | .fetch => 1 | .read => 5 | .write => 7
def misalignCause (k : XKind) : Nat := match k with | .fetch => 0 | .read => 4 | .write => 6
def pageCause (k : XKind) : Nat := match k with | .fetch => 12 | .read => 13 | .write => 15
def guestCause (k : XKind) : Nat := match k with | .fetch => 20 | .read => 21 | .write => 23

/-- An instruction of a core: nothing where the core may not run; in the sealed world before WENTRY it ends the call (R553); a
guest fetch of a partition whose reset is not acknowledged faults (R548); an interrupt that is enabled is taken first; else
the instruction's own effect. -/
def State.insn (s : State) (d : Die) (x : Nat) (b : Die) (f : State → State) : State :=
  let c := s.core d x b
  if !s.canRun d x b then s
  else if c.sealed && c.entry then s.trap d x b illegalInsn 0
  else if !c.sealed && c.regs.virt && s.bit d (WLD_pSTAT c.regs.vmid) WLD_pSTAT__RST then s.trap d x b 1 c.regs.pc.toNat
  else match (if c.sealed then none else Config.rvInterrupt c.regs) with
    | some cause => s.trap d x b (2 ^ 63 + cause) 0
    | none => f s

/-- Logged deliveries at the head of the log become deliveries of the duplex (R510, R511), logged ends of sealed calls those of
bit 64 (R561). -/
def pullDeliv (d : Die) (s : State) : List LogRec → List Deliv × List LogRec
  | [] => ([], [])
  | r :: l =>
    if r.typ = 3 then
      let q := pullDeliv d s l
      (⟨r.count, lineBit (s.lineOf d (u16 r.body 0)), true, []⟩ :: q.1, q.2)
    else if r.typ = 7 then
      let q := pullDeliv d s l
      (⟨r.count, 64, true, r.body⟩ :: q.1, q.2)
    else ([], r :: l)

/-- The first record of the log of a re-executing duplex, events set aside. -/
def State.replayHead (s : State) (d : Die) (x : Nat) : Option LogRec :=
  match (s.dux d x).replay with
  | some (r :: _) => some r
  | _ => none

/-- The first record of the log taken; deliveries that follow are scheduled. -/
def State.replayPop (s : State) (d : Die) (x : Nat) : State :=
  match (s.dux d x).replay with
  | some (_ :: l) =>
    let q := pullDeliv d s l
    s.updDux d x (fun u => { u with replay := some q.2, deliv := u.deliv ++ q.1 })
  | _ => s

/-! ### Places a core can reach (R32, R587) -/

/-- What lies at a physical address. -/
inductive Place where
  | dram | sram | mram | signal | window | regs | partner | bridge | none
  deriving DecidableEq, Repr

/-- The place of an address. The boot ROM answers an application core with an error (R587). -/
def placeOf (a : Nat) : Place :=
  if 0x100000000 ≤ a ∧ a < 0x300000000 then .dram
  else if 0x20000000 ≤ a ∧ a < 0x20800000 then .sram
  else if inMram a then .mram
  else if 0x30000000 ≤ a ∧ a < 0x30C00000 then .signal
  else if 0x40000000 ≤ a ∧ a < 0x48000000 ∧ winPlace 0 a ≠ .none then .window
  else if 0x50000000 ≤ a ∧ a < 0x50170000 then .regs
  else if 0x800000000 ≤ a ∧ a < 0x1000000000 then .partner
  else if 0x1000000000 ≤ a ∧ a < 0x1800000000 then .bridge
  else .none

/-- A read of `n` bytes at an address of the partner through the diagnostic window; none where it completes with an error
response (R34, R571). -/
def State.partnerRead (s : State) (d : Die) (who : Initiator) (t : Tags) (a n : Nat) : Option (List Byte) :=
  if !s.linkUp || s.windowLate d || !s.alive d.other || s.sealedAt d.other a n || !s.memAdmits d a n t .read then none
  else match placeOf a with
    | .regs =>
      let off := a - 0x50000000
      let byte := fun (o : Nat) => BitVec.ofNat 8 ((s.readReg d.other (o / 4 * 4) none).1.toNat / 256 ^ (o % 4))
      if off / 0x10000 ≠ 0x14 ∧ s.blockAnswers d.other who off = true ∧ selfPage off = false ∧ (List.range n).all (fun i => (regDef? ((off + i) / 4 * 4)).isSome) = true then
        some (if n = 4 ∧ off % 4 = 0 then toLE 4 (s.readAs d.other who off none).1.toNat
          else (List.range n).map (fun i => byte (off + i)))
      else none
    | .partner | .bridge => none
    | .none => if a + n ≤ 0x10000 then some (s.bytesAt d.other a n) else none
    | .window => some ((List.range n).map (fun i => s.windowByte d.other (a + i)))
    | _ => some (s.bytesAt d.other a n)

/-- What a read of the partner's registers leaves there: a word read as a low word latches the high one (R10). -/
def State.partnerLatch (s : State) (d : Die) (who : Initiator) (a n : Nat) : State :=
  if placeOf a = .regs ∧ n = 4 ∧ a % 4 = 0 then (s.readAs d.other who (a - 0x50000000) none).2 else s

/-- The initiator of an application core's access, by its tags. -/
def Tags.initiator (t : Tags) : Initiator := if t.sealed then .sealed (Fin.ofNat 32 t.part) else .part (Fin.ofNat 32 t.part)

/-- Registers whose reads have side effects (R502, R601, R622, R774). -/
def joinedReg (off : Nat) : Bool :=
  decide (off = EVC_CLAIMM ∨ off = EVC_CLAIMS ∨ off = EVC_CLAIMV ∨ off = EVC_GPEND ∨ off = SEC_CMDRES)

/-- Registers of the self page whose writes act at the egress at once (R622). -/
def promptReg (off : Nat) : Bool :=
  decide (off = EVC_EOIM ∨ off = EVC_EOIS ∨ off = EVC_EOIV ∨ off = EVC_THRM ∨ off = EVC_THRS ∨ off = EVC_THRV)

/-- Whether an address of bridge space is in a peer-module window (R689). -/
def isPeer (a : Nat) : Bool := decide (0x1100000000 ≤ a ∧ a < 0x1500000000)

/-- The member, and the offset in its window, of a peer-window address. -/
def peerOf (a : Nat) : Nat := (a - 0x1100000000) / 0x1000000
def peerOff (a : Nat) : Nat := a % 0x1000000

/-- Whether a die's bridge space is mapped at an address (R380, R689): satellite buses, and the windows of other modules. -/
def State.bridgeMapped (s : State) (d : Die) (a : Nat) : Bool :=
  decide (0x1000000000 ≤ a ∧ a < 0x1004000000) ||
    (isPeer a && decide (peerOf a ≠ s.fld d UPD_DMODID UPD_DMODID__MODID ∧ a % 0x800000 < 0x170000))

/-- What an access may do. -/
inductive Verdict where
  | ok (cls : Nat)
  | fault
  | misaligned
  deriving DecidableEq, Repr

/-- The verdict on a core's access to a physical address: guards (R567 to R570), attributes (R587 to R590) and the memory
class (R499): 0 J, 1 H, 2 P, 3 I. Writes to registers and bridge space are class H (log entry 12). -/
def State.verdict (s : State) (d : Die) (t : Tags) (a n : Nat) (k : XKind) (vector atomic : Bool) : Verdict :=
  let aligned := decide (a % n = 0)
  let guarded : Option Nat := match guardOf a with
    | some (g, o) => match s.guardDecides d g o n t k with
      | some (r, ok) =>
        let c := s.rgCtl d g r RGD_g_rCTL__CLASS
        if ok && !(decide (k = .write) && decide (c = 3)) then some c else none
      | none => none
    | none => if placeOf a = .window then some 1 else none
  match placeOf a with
  | .dram | .sram =>
    match guarded with
    | some 0 => .ok 0
    | some c =>
      if k = .fetch then .fault
      else if atomic && decide (c = 1) then .fault
      else if !aligned && !vector then .misaligned else .ok c
    | none => .fault
  | .mram =>
    if k = .fetch ∨ vector = true then .fault else
    match guarded with
    | some c => if atomic && decide (c = 1) then .fault else if aligned then .ok (max c 1) else .misaligned
    | none => .fault
  | .signal =>
    if k ≠ .read ∨ vector = true ∨ atomic = true then .fault else
    match guarded with
    | some c => if aligned then .ok (max c 1) else .misaligned
    | none => .fault
  | .window =>
    if k = .fetch ∨ vector = true ∨ atomic = true then .fault
    else match guarded with
    | some c => if !aligned then .misaligned else if n = 4 then .ok (max c 1) else .fault
    | none => .fault
  | .regs =>
    if k = .fetch ∨ vector = true ∨ atomic = true then .fault
    else if !aligned then .misaligned
    else if n = 4 ∧ (regDef? (a - 0x50000000)).isSome = true ∧
        (k = .write ∨ s.blockAnswers d t.initiator (a - 0x50000000) = true) then
      .ok (if k = .read ∧ joinedReg (a - 0x50000000) = true then 3 else 1)
    else .fault
  | .partner =>
    if k ≠ .read ∨ vector = true ∨ atomic = true then .fault
    else if !aligned then .misaligned else if (s.partnerRead d t.initiator t (a - 0x800000000) n).isSome then .ok 1 else .fault
  | .bridge =>
    if k = .fetch ∨ vector = true then .fault
    else if !aligned || !s.bridgeMapped d a then .fault
    else if isPeer a ∧ (n ≠ 4 ∨ t.part ≠ 0) then .fault
    else if !isPeer a && !s.ownsSat d t.initiator (satSelect a) then .fault
    else .ok (if (k = .read ∧ isPeer a = true) ∨ atomic = true then 3 else 1)
  | .none => .fault

/-- What a sampled or joined read by a duplex returns now. A read of bridge space returns what its bus or peer answers: a
free value, since the answer comes with a command of its own (log entry 13). -/
def State.readNow (s : State) (d : Die) (x : Nat) (t : Tags) (a n : Nat) : List Byte × State :=
  match placeOf a with
  | .regs =>
    let r := s.readAs d t.initiator (a - 0x50000000) (some x)
    (toLE n r.1.toNat, r.2)
  | .partner =>
    let o := a - 0x800000000
    ((s.partnerRead d t.initiator t o n).getD (List.replicate n 0xFF#8),
      ((s.plNotice d 0 9 o).plNotice d.other 0 10 o).partnerLatch d t.initiator o n)
  | .bridge => (toLE n (Config.freeWord s.free).toNat, { s with free := s.free + 1 })
  | .window => ((List.range n).map (fun i => s.windowByte d (a + i)), s)
  | _ => (s.bytesAt d a n, s)

/-- A transaction put at the egress by a core. -/
def State.present (s : State) (d : Die) (x : Nat) (b : Die) (t : EgTx) : State :=
  s.updCore d x b (fun c => { c with out := c.out ++ [t] })

/-- A transaction of a core with its tags. -/
def AppCore.tx (c : AppCore) (k : EgKind) (a n : Nat) (data : List Byte) (w : Word) (op : Nat := 0) : EgTx :=
  { kind := k, op := op, addr := a, size := n, mask := 2 ^ n - 1, data := data, part := c.regs.vmid,
    hyp := !c.regs.virt && !c.sealed, sealed := c.sealed, insn := w }

/-- The major opcode and funct3 of a word. -/
def opOf (w : Word) : Nat := w.toNat % 128
def funct3 (w : Word) : Nat := w.toNat / 2 ^ 12 % 8

/-- Whether a word is a vector instruction: OP-V, or a load or store of a vector width. -/
def vectorInsn (w : Word) : Bool :=
  decide (opOf w = 0x57) || ((decide (opOf w = 0x07 ∨ opOf w = 0x27)) && decide (funct3 w = 0 ∨ 5 ≤ funct3 w))

/-- The registers after an instruction that retires with the bytes it read (log entry 11); a vector instruction is counted. -/
def AppCore.retired (c : AppCore) (w : Word) (got : List Byte) : CoreSt :=
  let r : CoreSt := { c.regs.setAll (Config.rvRetire c.regs w got) with pc := Config.rvNext c.regs w }
  if vectorInsn w then c.counted 0x0F r else r

/-- A J line a core does not hold is filled: the request is compared at the egress (R502). -/
def State.fill (s : State) (d : Die) (x : Nat) (b : Die) (a : Nat) (w : Word) : State :=
  let c := s.core d x b
  let l := lineOf64 a
  if c.lines.contains l then s
  else (s.updCore d x b (fun c => { c with lines := l :: c.lines })).present d x b (c.tx .read l 64 [] w)

/-- An access of class J: within the duplex as a normal access (R503), atomic ones among them. -/
def State.accessJ (s : State) (d : Die) (x : Nat) (b : Die) (w : Word) (q : RvAccess) (a : Nat) : State :=
  let s1 := (s.fill d x b a w).fill d x b (a + q.size - 1) w
  let c := s1.core d x b
  let old := s1.coreBytes d c a q.size
  match q.kind with
  | .load => s1.retire d x b (c.retired w old)
  | .store => (s1.coreWrite d x b a q.data).retire d x b (c.retired w [])
  | .amo => (s1.coreWrite d x b a (Config.rvAtomic w old q.data)).retire d x b (c.retired w old)
  | .lr => (s1.updCore d x b (fun c => { c with resv := some a })).retire d x b (c.retired w old)
  | .sc =>
    let ok := decide (c.resv = some a)
    let s2 := s1.updCore d x b (fun c => { c with resv := none })
    (if ok then s2.coreWrite d x b a q.data else s2).retire d x b (c.retired w (toLE 8 (b2n (!ok))))

/-- An access of another class (R501 to R503): a write goes to the egress and retires, a sampled read is made at once for
this core and compared later, a joined read or an atomic access waits for the other core. -/
def State.accessOut (s : State) (d : Die) (x : Nat) (b : Die) (w : Word) (q : RvAccess) (a cls : Nat) : State :=
  let c := s.core d x b
  let wait := fun (k : EgKind) (op : Nat) =>
    (s.present d x b (c.tx k a q.size q.data w op)).updCore d x b (fun c => { c with wait := some w })
  match q.kind with
  | .store => (s.present d x b (c.tx .write a q.size q.data w)).retire d x b (c.retired w [])
  | .load =>
    if cls = 3 then wait .read 0
    else
      let got := s.readNow d x c.tags a q.size
      (got.2.present d x b (c.tx .read a q.size [] w)).retire d x b (c.retired w got.1)
  | .amo => wait .atomic 0
  | .lr => wait .atomic 1
  | .sc => wait .atomic 2

end Sys2Proof.Machine
end

