-- ==== Sys2Proof/Machine/PartReset.lean ====
section
/-! DEFINITION. Partition reset (R104, R108, R548, R631) and the release of outputs (R519 to R522). -/

namespace Sys2Proof.Machine

/-! ### Releasing outputs -/

/-- Who an output's write acts for, by its tags (R540). -/
def Output.who (o : Output) : Initiator := if o.sealed then .sealed (Fin.ofNat 32 o.part) else .part (Fin.ofNat 32 o.part)

/-- An output released by a die (R500, R519): a DRAM write, whose copy for the partner's DRAM goes over the pair link in class 1, a
register write on the die, with the sequence noted as the last released. A write to a command register or to bridge space acts as the command it is, which
comes as a command of its own (log entry 13). -/
def State.release (s : State) (d : Die) (o : Output) : State :=
  let s1 := match placeOf o.addr with
    | .dram =>
      let t := s.dmaMasked d o.addr o.mask o.data
      if s.alive d.other then t.plSend d 1 (.write o.addr o.mask o.data) else t
    | .regs => s.regWrite d o.who (o.addr - 0x50000000) (BitVec.ofNat 32 (u32 o.data 0))
    | .sram | .mram => s.dmaMasked d o.addr o.mask o.data
    | .window => s.windowWrite d o.who o.addr o.mask o.data
    | _ => s
  s1.updCk d o.part (fun k => { k with released := some o.seq })

/-- The held outputs of a partition up to an epoch released in sequence order (R519, R522). -/
def State.releaseHeld (s : State) (d : Die) (x p epoch : Nat) : State :=
  let go := fun (o : Output) => decide (o.part = p ∧ o.epoch ≤ epoch)
  let l := (s.dux d x).held.filter go
  l.foldl (fun st o => st.release d o) (s.updDux d x (fun u => { u with held := u.held.filter (fun o => !go o) }))

/-- The prompt outputs whose log records are acknowledged, or all when no spare is in step, released in order (R519). -/
def State.releasePrompt (s : State) (d : Die) (x : Nat) : State :=
  let go := fun (e : Output × Nat) => !s.logged d e.1.part || decide (e.2 ≤ (s.dux d x).logAcked)
  let l := (s.dux d x).prompt
  (l.filter go).foldl (fun st e => st.release d e.1)
    (s.updDux d x (fun u => { u with prompt := l.filter (fun e => !go e) }))

/-! ### Partition reset -/

/-- The host-port queue pairs of a partition cleared on a die: indices 0, queued frames dropped. -/
def State.clearHostQueues (s : State) (d : Die) (p : Nat) : State :=
  (List.range 8).foldl (fun st q =>
    let ids := tget [] (st.swc d).queues (ringQ p q)
    let s1 := ids.foldl (fun st id => st.dequeue d (ringQ p q) id) st
    (((s1.wr d (SWC_HpqTXTAIL p q) 0#32).wr d (SWC_HpqTXHEAD p q) 0#32).wr d (SWC_HpqRXTAIL p q) 0#32).wr d
      (SWC_HpqRXHEAD p q) 0#32) s

/-- The gateway mailboxes of a partition cleared on a die. -/
def State.clearMailboxes (s : State) (d : Die) (p : Nat) : State :=
  let s1 := s.updVol d (fun v => { v with gw := { v.gw with
    inItems := v.gw.inItems.filter (fun i => decide (i.part ≠ p)), taking := tset none v.gw.taking p none,
    crcs := tdrop v.gw.crcs (fun k => decide (k / 4096 = p)) } })
  (((s1.wr d (SGW_PpOTAIL p) 0#32).wr d (SGW_PpOHEAD p) 0#32).wr d (SGW_PpITAIL p) 0#32).wr d (SGW_PpIHEAD p) 0#32

/-- The shadow of a binding dropped on one of its duplexes: journals, log (R518, R525). -/
def DuxSt.dropShadow (u : DuxSt) : DuxSt :=
  { u with
    journal := none, sent := false, logMade := 0, logAcked := 0, stored := [], storedPos := 0, arriving := none,
    asked := false, last := none, mayRelease := false }

/-- The partitions homed on a duplex. -/
def State.homed (s : State) (d : Die) (x : Nat) : List Nat := (List.range 32).filter (fun p => s.homedAt d p x)

/-- CKP_pSTAT.STATE set for a partition on both dies. -/
def State.setCk (s : State) (p st : Nat) : State := s.setBoth (CKP_pSTAT p) CKP_pSTAT__STATE st

/-- A home left without a synchronised spare (R522): both shadows dropped, the states shown, its held outputs of ended
epochs released; a seal wait ends. -/
def State.goAlone (s : State) (d : Die) (x st : Nat) : State :=
  let s1 := (s.homed d x).foldl (fun s p =>
    if s.ckState d p = 2 ∨ s.ckState d p = 3 ∨ s.ckState d p = 5 then s.setCk p st else s) s
  let s2 := match (s1.dux d x).journal with
    | some j => s1.releaseHeld d x j.part j.epoch
    | none => s1
  let s3 := s2.updDux d x DuxSt.dropShadow
  let s4 := match s3.spareOf d x with
    | some y => s3.updDux d.other y DuxSt.dropShadow
    | none => s3
  let s5 := if s4.duxState d x = 4 then s4.setF d (DUX_dSTAT x) DUX_dSTAT__STATE 1 else s4
  s5.releasePrompt d x

/-- The epoch state, log, journal and unreleased outputs of a partition cleared on a die (R104). Where the partition runs, the
shadow of its binding goes with them and its spare is to be synchronised anew. -/
def State.clearEpochs (s : State) (d : Die) (p : Nat) : State :=
  let s1 := (s.updCk d p (fun k => { k with released := none, swap := false })).updVol d (fun v => { v with
    dux := v.dux.map (fun e => (e.1, { e.2 with
      held := e.2.held.filter (fun o => decide (o.part ≠ p)),
      prompt := e.2.prompt.filter (fun o => decide (o.1.part ≠ p)) })) })
  (List.range 12).foldl (fun st x => if st.runningOn d x = some p then st.goAlone d x 4 else st) s1

/-- The sealed call of a partition ended by its reset on a die (R548, R559): SEALED_UNAVAILABLE at a count chosen as for an
event, logged (R561); the sealed world is not marked hung. Bit 64 of a delivery ends the call. -/
def State.endCallOf (s : State) (d : Die) (x : Nat) : State :=
  let n := (s.dux d x).lead + 32
  (s.updDux d x (fun u => { u with deliv := u.deliv ++ [⟨n, 64, true, toLE 8 sealedUnavailable⟩] })).logOn d x 0x07 n (toLE 8 sealedUnavailable)

/-- The duplexes of a die that are in a sealed call that meets a condition. -/
def State.inCall (s : State) (d : Die) (p : SealedCall → Bool) : List Nat :=
  (List.range 12).filter (fun x => match (s.dux d x).call with
    | some k => p k
    | none => false)

/-- A partition reset begins on a die (R548, R631). -/
def State.partResetOn (s : State) (d : Die) (p : Nat) : State :=
  if !s.alive d then s else
  let s1 := (s.inCall d (fun k => decide (k.part = p))).foldl (fun st x =>
    (st.endCallOf d x).addSat d WLD_SABORT WLD_SABORT__OTHER 1) s
  let s2 := (((s1.clearEpochs d p).clearHostQueues d p).clearMailboxes d p).evcPartReset d p
  let s3 := s2.holdReset d p
  if 1 ≤ p then s3.fire d (0x050 + p) else s3

/-- A partition reset with its cause record (R104, R109): on both dies; deferred while the partition fails over (R108), with
its cause and requester kept. Partition 0 keeps no cause record (CIS_RSTPT0 reads 0). -/
def State.partReset (s : State) (p cause req : Nat) : State :=
  if s.ckState s.anyDie p = 6 then
    s.updCis (fun c => { c with deferredParts := c.deferredParts ++ [p + 32 * cause + 2 ^ 16 * req] })
  else
    let s1 := s.updCis (fun c => { c with pw := { c.pw with tags := tdrop c.pw.tags (fun k => decide (k % 64 = p + 1)) } })
    let forget := fun (st : State) (d : Die) => st.updVol d (fun v => { v with tags := tdrop v.tags (fun k => decide (k % 64 = p + 1)) })
    let s2 := forget (forget s1 0) 1
    ((if p = 0 then s2 else s2.causeRecord 0 (CIS_RSTPTn p) cause req).partResetOn 0 p).partResetOn 1 p

/-- The deferred resets of a partition carried out once its failover is complete; two requests are one reset (R108). -/
def State.partResetDue (s : State) (p : Nat) : State :=
  match s.cis.deferredParts.filter (fun e => decide (e % 32 = p)) with
  | [] => s
  | e :: _ =>
    let s1 := s.updCis (fun c => { c with deferredParts := c.deferredParts.filter (fun e => decide (e % 32 ≠ p)) })
    s1.partReset p (e / 32 % 256) (e / 2 ^ 16)

end Sys2Proof.Machine
end

