-- ==== Sys2Proof/Machine/Egress.lean ====
section
/-! DEFINITION. The duplex egress (R501 to R505), AGREE (R508) and event delivery (R511), and the failing of a duplex. -/

namespace Sys2Proof.Machine

/-! ### A duplex fails (R504, R505, R523 step 1, R526, R528) -/

/-- A partition that no spare can take over is reset by the fault policy, with cause 0x21 (R528). -/
def State.faultReset (s : State) (p : Nat) : State :=
  (if s.ckState s.anyDie p = 6 then s.setCk p 4 else s).partReset p 0x21 0

/-- What becomes of the partitions homed on a duplex that fails: those of a shadowed binding fail over, others are reset. -/
def State.homesFail (s : State) (d : Die) (x : Nat) : State :=
  let t := s.ns (if s.alive d then d else d.other)
  (s.homed d x).foldl (fun s p =>
    if s.ckState s.anyDie p = 3 ∧ (s.spareOf d x).isSome = true then
      (s.setCk p 6).updCk d.other p (fun k => { k with lostAt := some t })
    else s.faultReset p) s

/-- A duplex fails: its egress is blocked, outputs not released are discarded, its fault records are written, its partitions fail
over; where it is a spare, its home goes on alone. -/
def State.duxFails (s : State) (d : Die) (x : Nat) (records : State → State) : State :=
  let s1 := (s.setF d (DUX_dSTAT x) DUX_dSTAT__STATE 6).updDux d x (fun u => { u with
    failed := true, fails := s.ns d :: u.fails, held := [], prompt := [], endAt := none, deliv := [], replay := none })
  let s2 := (records s1).plNotice d 3 1 x
  match s.duxRole d x with
  | 1 => s2.homesFail d x
  | 2 => (s2.goAlone d.other (s.fld d (DUX_dSTAT x) DUX_dSTAT__SERVES) 4).homesFail d x
  | _ => s2

/-- A duplex declared failed with a kind of DUX_dMIS and an address. -/
def State.failDux (s : State) (d : Die) (x kind addr : Nat) : State :=
  let us := s.fld d (DUX_dLAG x) DUX_dLAG__TIME
  let a := if kind = 5 ∨ kind = 7 ∨ kind = 8 then 0 else addr
  let s1 := ((s.addSat d (DUX_dMIS x) DUX_dMIS__COUNT 1).setF d (DUX_dMIS x) DUX_dMIS__KIND kind).setF d (DUX_dMIS x)
    DUX_dMIS__VALID 1
  let s2 := (s1.wr d (DUX_dMISADDRL x) (BitVec.ofNat 32 a)).wr d (DUX_dMISADDRH x) (BitVec.ofNat 32 (a / 2 ^ 32 % 2 ^ 16))
  s2.duxFails d x (fun s => s.recordBoth (0x0300 + x) (if kind = 8 then 2 else 1) (x + 2 ^ 8 * d.val) 0
    (if kind = 8 then us else kind + 2 ^ 8 * a))

/-- Whether a duplex takes part in anything: its die runs and it has not failed. -/
def State.duxUp (s : State) (d : Die) (x : Nat) : Bool := s.alive d && !(s.dux d x).failed

/-- STOPPED_CORE (R504): one core retires nothing for 5 µs while the other waits for it at the egress, neither in WFI. -/
def execStoppedCore (d : Die) (dux : Fin 12) (core : Die) (s : State) : Out :=
  .next (
    let x := dux.val
    let o := s.core d x core.other
    let waits := o.wait.isSome || o.offer.isSome || decide ((s.core d x core).out.length < o.out.length)
    if s.duxUp d x && decide (s.duxState d x = 1 ∨ s.duxState d x = 2) && waits && !s.coreWfi d x 0 && !s.coreWfi d x 1 then
      s.failDux d x 7 0
    else s)

/-- LAG_STALL (R505): the lag exceeds 8,192 instructions or 20 µs and the leading core stalls. A seal wait governs (R533). -/
def execLagStall (d : Die) (dux : Fin 12) (us : BitVec 16) (s : State) : Out :=
  .next (
    let x := dux.val
    let u := s.dux d x
    if s.duxUp d x && decide (s.duxState d x = 1 ∨ s.duxState d x = 2) && decide (8192 < u.lag ∨ 20 < us.toNat) then
      let goesOn : Bool := match u.stallAt, u.stallEnd with
        | some _, some t => decide (s.ns d < t + 1000)
        | _, _ => false
      (((s.setF d (DUX_dSTAT x) DUX_dSTAT__STATE 3).addSat d (DUX_dSTALLS x) DUX_dSTALLS__COUNT 1).setF d (DUX_dLAG x)
        DUX_dLAG__TIME us.toNat).updDux d x (fun u => { u with
          stallAt := if goesOn then u.stallAt else some (s.ns d), waitAt := some (s.ns d) })
    else s)

/-- SLOW_COPY (R505): lag stalls have gone on for 200 µs without a break of 1 µs. -/
def execSlowCopy (d : Die) (dux : Fin 12) (s : State) : Out :=
  .next (
    let x := dux.val
    match (s.dux d x).stallAt with
    | some t =>
      if s.duxUp d x && decide (s.duxState d x = 3) && decide (t + 200000 ≤ s.ns d) then s.failDux d x 8 0 else s
    | none => s)

/-! ### Transactions (R501 to R503, R519) -/

/-- Why a matched pair disagrees, as a kind of DUX_dMIS; none where it agrees. -/
def egMismatch (a b : EgTx) : Option Nat :=
  let same := decide (a.kind = b.kind ∧ a.addr = b.addr ∧ a.size = b.size ∧ a.mask = b.mask ∧ a.part = b.part ∧
    a.hyp = b.hyp ∧ a.sealed = b.sealed ∧ a.op = b.op)
  match a.kind with
  | .read => if same then none else some 3
  | .writeBack => if same && decide (a.data = b.data) then none else some 4
  | _ => if !same then some 1 else if a.data = b.data then none else some 2

/-- An output sequence recorded in the MRAM of both dies (R107). -/
def State.recordSeq (s : State) (p seq : Nat) : State :=
  let put := fun (k : DieKeep) => { k with seqRec := tset 0 k.seqRec p seq }
  (s.updKeep 0 put).updKeep 1 put

/-- An output numbered with the next sequence of its partition (R519); a sequence that reaches a multiple of 65,536 is
recorded in MRAM (R521). A prompt output waits for the log, a held one for its epoch's seal. Both cores count it (R606). -/
def State.emit (s : State) (d : Die) (x : Nat) (t : EgTx) (prompt : Bool) : State :=
  let seq := s.fld d (CKP_pSEQ t.part) CKP_pSEQ__SEQ
  let o : Output := ⟨t.part, seq, (s.ck d t.part).epoch, t.addr, t.mask, t.data, t.sealed⟩
  let nxt := (seq + 1) % 2 ^ 32
  let count := fun (c : AppCore) => { c with regs := c.counted (if prompt then 0x0D else 0x0C) c.regs }
  let s1 := ((s.updCore d x 0 count).updCore d x 1 count).setBoth (CKP_pSEQ t.part) CKP_pSEQ__SEQ nxt
  let s2 := if nxt % 65536 = 0 then s1.recordSeq t.part nxt
    else s1
  if prompt then
    (s2.updDux d x (fun u => { u with prompt := u.prompt ++ [(o, u.logMade)] })).releasePrompt d x
  else s2.updDux d x (fun u => { u with held := u.held ++ [o] })

/-- A write to the self page of the event controller, which acts at the egress (R622). A threshold is passed to the
partner (R627). -/
def State.selfWrite (s : State) (d : Die) (x off v : Nat) : State :=
  let p := (s.runningOn d x).getD 0
  let lvl := if off = EVC_EOIM ∨ off = EVC_THRM then 0 else if off = EVC_EOIS ∨ off = EVC_THRS then 1 else 2
  if off = EVC_EOIM ∨ off = EVC_EOIS ∨ off = EVC_EOIV then s.eoi d x lvl (v % 1024)
  else
    (s.setThr d x p lvl (v % 64)).passEvc d (2 + lvl) (if lvl = 2 then p else x) (v % 64)

/-- A joined read performed once (R502): claims act, other reads do not. -/
def State.joinedRead (s : State) (d : Die) (x : Nat) (t : Tags) (a n : Nat) : List Byte × State :=
  let off := a - 0x50000000
  if placeOf a = .regs ∧ (off = EVC_CLAIMM ∨ off = EVC_CLAIMS ∨ off = EVC_CLAIMV) then
    let r := s.claim d x (if off = EVC_CLAIMM then 0 else if off = EVC_CLAIMS then 1 else 2)
    (toLE n r.1, r.2)
  else s.readNow d x t a n

/-- Bytes written by an atomic access outside class J: for the partner's copy of DRAM over the pair link in class 1 (R500). -/
def State.atomicPut (s : State) (d : Die) (a : Nat) (l : List Byte) : State :=
  let t := s.dmaPut d a l
  if placeOf a = .dram ∧ s.alive d.other = true then t.plSend d 1 (.write a (2 ^ l.length - 1) l) else t

/-- An atomic access executed once at the egress (R503): its result and the state after. -/
def State.atomicOnce (s : State) (d : Die) (x : Nat) (t : EgTx) : List Byte × State :=
  if placeOf t.addr = .bridge then
    (toLE t.size (Config.freeWord s.free).toNat, { s with free := s.free + 1 })
  else
    let old := s.bytesAt d t.addr t.size
    let both := fun (st : State) (r : Option Nat) =>
      (st.updCore d x 0 (fun c => { c with resv := r })).updCore d x 1 (fun c => { c with resv := r })
    match t.op with
    | 0 => (old, s.atomicPut d t.addr (Config.rvAtomic t.insn old t.data))
    | 1 => (old, both s (some t.addr))
    | _ =>
      if (s.core d x 0).resv = some t.addr then (toLE 8 0, (both s none).atomicPut d t.addr t.data)
      else (toLE 8 1, both s none)

/-- A result given to both cores, which retire the instruction that waited for it, a joined read (R503, R606). -/
def State.giveBoth (s : State) (d : Die) (x : Nat) (got : List Byte) : State :=
  let one := fun (st : State) (b : Die) =>
    let c := st.core d x b
    match c.wait with
    | some w => st.retire d x b (c.counted 0x0A (c.retired w got))
    | none => st
  one (one s 0) 1

/-- The pieces of a range that lie within one 64-byte line each (R590). -/
def linePieces : Nat → Nat → Nat → List (Nat × Nat)
  | 0, _, _ => []
  | fuel + 1, a, n =>
    if n = 0 then []
    else
      let k := min n (64 - a % 64)
      (a, k) :: linePieces fuel (a + k) (n - k)

/-- The logged bytes of pieces taken from the log in order. -/
def State.replayTake (s : State) (d : Die) (x : Nat) : List (Nat × Nat) → List Byte × State
  | [] => ([], s)
  | p :: l =>
    match s.replayHead d x with
    | some r =>
      let q := (s.replayPop d x).replayTake d x l
      ((r.body.drop 8).take p.2 ++ q.1, q.2)
    | none => (List.replicate p.2 0#8, s)

/-- A joined read or atomic access of both cores: from the input log while the duplex re-executes and the log lasts (R510),
else live and logged. -/
def State.joined (s : State) (d : Die) (x : Nat) (t : EgTx) : State :=
  let typ := if t.kind = .atomic then 4 else 1
  let pieces := if typ = 4 then [(t.addr, t.size)] else linePieces (t.size + 1) t.addr t.size
  match s.replayHead d x with
  | some _ =>
    let taken := s.replayTake d x pieces
    let got := taken.1
    let s := taken.2
    let off := t.addr - 0x50000000
    let s1 := if typ = 1 ∧ off = EVC_CLAIMM then s.claimLogged d x 0 (leBytes got 0 4)
      else if typ = 1 ∧ off = EVC_CLAIMS then s.claimLogged d x 1 (leBytes got 0 4)
      else if typ = 1 ∧ off = EVC_CLAIMV then s.claimLogged d x 2 (leBytes got 0 4) else s
    s1.giveBoth d x got
  | none =>
    let n := (s.core d x 0).count
    let q := if typ = 4 then s.atomicOnce d x t else s.joinedRead d x { init := 0, part := t.part, hyp := t.hyp, sealed := t.sealed } t.addr t.size
    (pieces.foldl (fun st p => st.logOn d x typ n (toLE 8 p.1 ++ (q.1.drop (p.1 - t.addr)).take p.2)) q.2).giveBoth d x q.1

/-- A matched pair forwarded (R501, R502, R519). -/
def State.forwardPair (s : State) (d : Die) (x : Nat) (t : EgTx) : State :=
  let g : Tags := { init := 0, part := t.part, hyp := t.hyp, sealed := t.sealed }
  match t.kind with
  | .read => if (s.core d x 0).wait.isSome && (s.core d x 1).wait.isSome then s.joined d x t else s
  | .atomic => s.joined d x t
  | .write =>
    if placeOf t.addr = .regs ∧ promptReg (t.addr - 0x50000000) = true then
      s.selfWrite d x (t.addr - 0x50000000) (u32 t.data 0)
    else s.emit d x t (decide (s.verdict d g t.addr t.size .write false false = .ok 2))
  | .writeBack => s

/-- Whether some region still makes a line class J and writable. -/
def State.jLine (s : State) (d : Die) (a : Nat) : Bool :=
  match guardOf a with
  | some (g, o) => (List.range 64).any (fun r => s.regionHas d g r o 64 &&
      decide (s.rgCtl d g r RGD_g_rCTL__CLASS = 0 ∧ s.rgCtl d g r RGD_g_rCTL__W = 1))
  | none => false

/-- A J line written back by both cores (R501): their copies are compared; equal, they go to memory, and neither core holds
the line any more. Where no region makes it J any more, the guard refuses it and both cores take an access fault (R612). -/
def State.writeBack (s : State) (d : Die) (x a : Nat) : State :=
  let l := lineOf64 a
  let ca := s.core d x 0
  let cb := s.core d x 1
  let dirty := (ca.dirty ++ cb.dirty).any (fun e => decide (lineOf64 e.1 = l))
  let drop := fun (c : AppCore) => { c with
    dirty := tdrop c.dirty (fun k => decide (lineOf64 k = l)), lines := c.lines.filter (fun k => decide (k ≠ l)) }
  if !dirty then (s.updCore d x 0 drop).updCore d x 1 drop
  else if ca.count ≠ cb.count then s
  else if !s.jLine d l then
    ((((s.updCore d x 0 drop).updCore d x 1 drop).trap d x 0 7 l).trap d x 1 7 l)
  else
    let va := s.coreBytes d ca l 64
    if va = s.coreBytes d cb l 64 then ((s.putBytes d l va).updCore d x 0 drop).updCore d x 1 drop
    else s.failDux d x 4 l

/-- EGRESS_TRANSACTION (R501): the oldest transactions of both cores are matched and forwarded, or the line named is written
back. The egress waits while one core has presented nothing. -/
def execEgressTransaction (d : Die) (dux : Fin 12) (line : Option (BitVec 48)) (s : State) : Out :=
  .next (
    let x := dux.val
    if !s.duxUp d x then s else
    match line with
    | some a => s.writeBack d x a.toNat
    | none =>
      match (s.core d x 0).out, (s.core d x 1).out with
      | a :: _, b :: _ =>
        match egMismatch a b with
        | some k => s.failDux d x k a.addr
        | none =>
          ((s.updCore d x 0 (fun c => { c with out := c.out.drop 1 })).updCore d x 1 (fun c => { c with
            out := c.out.drop 1 })).forwardPair d x a
      | _, _ => s)

/-! ### AGREE (R508, R510) -/

/-- AGREE: a core offers rs1 and waits; when both have reached it, both take core A's value, or the logged one. -/
def execAgree (d : Die) (dux : Fin 12) (core : Die) (rd rs1 : Fin 32) (s : State) : Out :=
  .next (
    let x := dux.val
    s.insn d x core (fun s =>
    let v := BitVec.ofNat 64 ((s.core d x core).regs.get (.x rs1.val))
    let s1 := s.updCore d x core (fun c => { c with offer := some (rd.val, v) })
    match (s1.core d x 0).offer, (s1.core d x 1).offer with
    | some (ra, va), some (rb, vb) =>
      let logged := s.replayHead d x
      let res := match logged with
        | some r => u64 r.body 0
        | none => va.toNat
      let n := (s1.core d x 0).count
      let s2 := s1.incWrap d (DUX_dAGREE x) DUX_dAGREE__COUNT
      let s3 := if va = vb then s2 else s2.addSat d (DUX_dAGREE x) DUX_dAGREE__DIFF 1
      let put := fun (st : State) (b : Die) (r : Nat) =>
        let c := st.core d x b
        st.retire d x b (c.counted 0x0B { c.regs.set (.x r) res with pc := c.regs.pc + 4#64 })
      let s4 := put (put s3 0 ra) 1 rb
      if logged.isSome then s4.replayPop d x else s4.logOn d x 0x02 n (toLE 8 res)
    | _, _ => s1))

/-! ### Event delivery (R511, R618) -/

/-- Whether a line's bit is set in the cores or by a delivery to come. -/
def State.lineSet (s : State) (d : Die) (x bit : Nat) : Bool :=
  match (s.dux d x).deliv.reverse.find? (fun v => decide (v.bit = bit)) with
  | some v => v.on
  | none => bitOf ((s.core d x 0).regs.get (.csr 0x344)) bit

/-- A delivery scheduled at the leading core's count plus 32, or at once for cores in WFI (R511); `body` is what its log record says. -/
def State.schedule (s : State) (d : Die) (x bit : Nat) (on : Bool) (body : List Byte := []) : State :=
  let n := if s.inWfi d x then (s.dux d x).lead else (s.dux d x).lead + 32
  let s1 := s.updDux d x (fun u => { u with deliv := u.deliv ++ [⟨n, bit, on, body⟩] })
  ((s1.reachDeliv d x 0 false).reachDeliv d x 1 false).settleDeliv d x

/-- EVENT_DELIVERY: a line's bit is set while a source is eligible on it and cleared when none is, at the delivery count.
Nothing is delivered while a duplex re-executes (R510) or is in a sealed call (R556), nor at or past the end count of the
open epoch, which the delivery then follows (R533). -/
def execEventDelivery (d : Die) (dux : Fin 12) (line : Fin 6) (s : State) : Out :=
  .next (
    let x := dux.val
    let u := s.dux d x
    let bit := lineBit line.val
    if !s.duxUp d x || u.replay.isSome || u.call.isSome || u.endAt.isSome || (s.runningOn d x).isNone then s
    else match s.urgentOn d x line.val with
      | some (n, pr) =>
        if s.lineSet d x bit then s
        else s.schedule d x bit true (toLE 2 n ++ toLE 1 pr ++ toLE 5 0)
      | none => if s.lineSet d x bit then s.schedule d x bit false else s)

end Sys2Proof.Machine
end

