-- ==== Sys2Proof/Machine/Duplex.lean ====
section
/-! DEFINITION. Duplexes, epochs and failover (spec/13): the records, epoch ends and journals, seals, failover, sync passes, role
swaps, BIST and retirement. -/

namespace Sys2Proof.Machine

/-! ### Records (R536 to R538) -/

/-- The role of a duplex of either die, and the home it serves, by the duplex records of the image that a die boots from, or without one
by the defaults (R536, R538); the present one where the die holds no image. -/
def State.plannedDux (s : State) (d e : Die) (x : Nat) : Nat × Nat :=
  let l := (s.vol.get d).boot.recs
  let home := decide ((e = 0 ∧ x < 6) ∨ (e = 1 ∧ 6 ≤ x))
  if l = [] then (s.duxRole e x, s.fld e (DUX_dSTAT x) DUX_dSTAT__SERVES)
  else if bitOf (s.rd e DUX_RETIRE).toNat x then (3, 15)
  else match lastRec l e 0x0901 x (fun r => decide (r.body.length = 8 ∧ u8 r.body 0 ≤ 2)) with
    | some r => (u8 r.body 0, if u8 r.body 2 < 12 then u8 r.body 2 else 15)
    | none => if home then (1, 15) else (2, x)

/-- DUPLEX_RECORD (R536): the duplex that a spare serves is judged by every duplex record of the image. -/
def execDuplexRecord (d : Die) (r : Rec) (s : State) : Out :=
  let b := r.body
  let x := r.inst
  let serves := u8 b 2
  let otherHome := (s.plannedDux d d.other serves).1
  let taken := (List.range 12).any (fun y => decide (y ≠ x) && decide (s.plannedDux d d y = (2, serves)))
  let ok := decide (x < 12 ∧ b.length = 8 ∧ u8 b 0 ≤ 2 ∧ u8 b 1 ≤ 168 ∧ r.block = 3) && zeroBytes b 3 5 && !r.late &&
    (if u8 b 0 = 2 then decide (serves = 0xFF) || (decide (serves < 12) && !taken && decide (otherHome = 1))
     else decide (serves = 0xFF))
  let j := if !ok then Judged.malformed
    else if bitOf (s.rd d DUX_RETIRE).toNat x then .notApplicable else .good
  .next (s.applyRec d r 0 true 0x0901 j (fun s =>
    let s1 := s.wr d (DUX_dCFG x) (BitVec.ofNat 32 (u8 b 0 + 2 ^ 8 * (if u8 b 1 = 0 then 24 else u8 b 1)))
    (s1.setF d (DUX_dSTAT x) DUX_dSTAT__ROLE (u8 b 0)).setF d (DUX_dSTAT x) DUX_dSTAT__SERVES
      (if serves < 12 then serves else 15)))

/-- Without a record, duplexes 0 to 5 of die 0 and 6 to 11 of die 1 are home and every other duplex serves the one of its
number (R536); a retired duplex keeps that role. The loader sets these before the records. -/
def State.duxDefaults (s : State) (d : Die) : State :=
  (List.range 12).foldl (fun st x =>
    let home := decide ((d = 0 ∧ x < 6) ∨ (d = 1 ∧ 6 ≤ x))
    if bitOf (st.rd d DUX_RETIRE).toNat x then st.setF d (DUX_dSTAT x) DUX_dSTAT__ROLE 3
    else
      let s1 := st.wr d (DUX_dCFG x) (BitVec.ofNat 32 ((if home then 1 else 2) + 2 ^ 8 * 24))
      (s1.setF d (DUX_dSTAT x) DUX_dSTAT__ROLE (if home then 1 else 2)).setF d (DUX_dSTAT x) DUX_dSTAT__SERVES
        (if home then 15 else x)) s

/-- The journal rate of a partition in bit/s from its epoch length and line limit (R532). -/
def journalRate (epoch lines : Nat) : Nat := (53248 + 72 * lines) * 8 * 1000000 / epoch

/-- The budget sums of a die as the home side (R532): over its home duplexes, the largest journal rate and the largest log
rate (10 Mb/s units) among the non-sheddable partitions with an epoch record. -/
def State.budget (s : State) (d : Die) (h : Nat) : Nat × Nat :=
  let parts := (List.range 32).filter (fun p =>
    decide (s.fld d (CKP_pCFG p) CKP_pCFG__EPOCH ≠ 0 ∧ s.fld d (CKP_pCFG p) CKP_pCFG__SHED = 0 ∧
      s.fld d (CKP_pCFG p) CKP_pCFG__HOMEDIE = h))
  let most := fun (x : Nat) (f : Nat → Nat) =>
    ((parts.filter (fun p => decide (s.fld d (CKP_pCFG p) CKP_pCFG__HOMEDUX = x))).map f).foldl max 0
  let sum := fun (f : Nat → Nat) => ((List.range 12).map (fun x => most x f)).sum
  (sum (fun p => journalRate (s.fld d (CKP_pCFG p) CKP_pCFG__EPOCH) (s.fld d (CKP_pLIM p) CKP_pLIM__LINES)),
    sum (fun p => s.fld d (CKP_pLIM p) CKP_pLIM__LOGRATE))

/-- The fields of an epoch record written. -/
def State.putEpochRec (s : State) (d : Die) (p : Nat) (b : List Byte) : State :=
  let spare := if u8 b 2 < 12 then u8 b 2 else 15
  let s1 := (s.wr d (CKP_pCFG p) (BitVec.ofNat 32 (u16 b 4 + 2 ^ 14 * (u8 b 3 % 2) + 2 ^ 15 * u8 b 0 + 2 ^ 16 * u8 b 1 +
    2 ^ 20 * spare))).wr d (CKP_pLIM p) (BitVec.ofNat 32 (u16 b 6 + 2 ^ 16 * u16 b 8))
  let s2 := s1.wr d (CKP_pSTAT p) (BitVec.ofNat 32 (1 + 8 * u8 b 0 + 2 ^ 4 * u8 b 1 + 2 ^ 8 * spare + 2 ^ 12 * (u8 b 3 % 2)))
  let q := s2.budget d d.val
  s2.wr d CKP_RATE (BitVec.ofNat 32 (satTo 0xFFFF (q.1 / 10000000) + 2 ^ 16 * satTo 0xFFFF q.2))

/-- The transmit selectors of field-bus controllers that a partition of a die owns and no controller's move has set yet: connected
to the partition's home die, or to this one where the other is absent (R42, R362). -/
def State.ownSelectors (s : State) (d : Die) (p h : Nat) : State :=
  (List.range 28).foldl (fun st i =>
    if st.fbByPart d i && decide (st.fbPart d i = p) && (st.fbSel i).count.isNone then
      st.updFbSel i (fun x => { x with die := if !s.canRelease d.other then d else if h = 1 then 1 else 0 })
    else st) s

/-- EPOCH_RECORD (R537, R538). -/
def execEpochRecord (d : Die) (r : Rec) (s : State) : Out :=
  let b := r.body
  let p := r.inst
  let hd : Die := if u8 b 0 = 1 then 1 else 0
  let shed := decide (u8 b 3 = 1)
  let role := (s.plannedDux d hd (u8 b 1)).1
  let form := decide (p < 32 ∧ b.length = 16 ∧ r.block = 4 ∧ u8 b 0 ≤ 1 ∧ u8 b 1 < 12 ∧ u8 b 3 ≤ 1 ∧ 50 ≤ u16 b 4 ∧
      u16 b 4 ≤ 10000 ∧ 64 ≤ u16 b 6 ∧ u16 b 6 ≤ 16384 ∧ u16 b 8 ≤ 2000) && zeroBytes b 10 6 && !r.late &&
    (if shed then decide (u8 b 2 = 0xFF) else decide (u8 b 2 < 12))
  let place := if shed then decide (role = 2)
    else decide (role = 1) && decide (s.plannedDux d hd.other (u8 b 2) = (2, u8 b 1))
  let q := (s.putEpochRec d p b).budget d hd.val
  let ok := form && place && s.bit d (WLD_pCFG p) WLD_pCFG__DEFINED && decide (q.1 ≤ 80000000000 ∧ q.2 ≤ 2000)
  .next (s.applyRec d r 0 false 0x0902 (goodIf ok) (fun s => (s.putEpochRec d p b).ownSelectors d p (u8 b 0)))

/-! ### Journals (R506, R514) -/

/-- The privileged CSRs in ascending number, counters and their configuration excluded (R506; numbers of the architecture,
log entry 11). -/
def signedCsrs : List Nat :=
  [0x100, 0x104, 0x105, 0x106, 0x10A, 0x140, 0x141, 0x142, 0x143, 0x144, 0x180, 0x200, 0x204, 0x205, 0x240, 0x241, 0x242,
    0x243, 0x244, 0x280, 0x300, 0x301, 0x302, 0x303, 0x304, 0x305, 0x306, 0x30A, 0x340, 0x341, 0x342, 0x343, 0x344,
    0x34A, 0x34B, 0x600, 0x602, 0x603, 0x604, 0x605, 0x606, 0x607, 0x60A, 0x643, 0x644, 0x645, 0x64A, 0x680, 0x7C0]

/-- The architectural state in the order of R506. -/
def CoreSt.bytes (c : CoreSt) : List Byte :=
  (List.range 31).flatMap (fun i => toLE 8 (c.get (.x (i + 1)))) ++
  (List.range 32).flatMap (fun i => toLE 8 (c.get (.f i))) ++ toLE 8 (c.get (.csr 3)) ++
  (List.range 32).flatMap (fun i => toLE 32 (c.get (.v i))) ++
  [0xC21, 0xC20, 8].flatMap (fun n => toLE 8 (c.get (.csr n))) ++
  signedCsrs.flatMap (fun n => toLE 8 (c.get (.csr n)))

/-- The signature of a core at an epoch end (R506). -/
def CoreSt.signature (c : CoreSt) : Nat := crc64 c.bytes

/-- A held output as a record (R519). -/
def Output.bytes (o : Output) : List Byte := toLE 8 o.addr ++ toLE 4 o.seq ++ toLE 4 o.mask ++ o.data

/-- A journal's bytes before its CRC (R514). -/
def Journal.bytes (j : Journal) : List Byte :=
  let held := j.held.flatMap Output.bytes
  let st := j.state.bytes
  [0x4A, 0x52, 0x4E, 0x4C].map (BitVec.ofNat 8) ++ toLE 1 j.part ++ toLE 1 (128 * j.die.val + j.dux) ++ toLE 2 0 ++
    toLE 8 j.epoch ++ toLE 8 j.endCount ++ toLE 8 j.logPos ++ toLE 4 j.nextSeq ++ toLE 4 j.lines.length ++
    toLE 4 held.length ++ toLE 4 0 ++ st ++ List.replicate (4048 - st.length) 0#8 ++
    j.lines.flatMap (fun l => toLE 8 l.1 ++ l.2) ++ held

/-- The magic of a journal as a little-endian word ("JRNL"). -/
def journalMagic : Word := 0x4C4E524A#32

/-- The bytes of held outputs of a duplex. -/
def DuxSt.heldBytes (u : DuxSt) : Nat := (u.held.map (fun o => 16 + o.data.length)).sum

/-! ### Epoch ends (R499, R506, R507, R512, R513, R522) -/

/-- Whether the open epoch of the running partition is due to end (R512); while a duplex re-executes, the log says where. -/
def State.epochDue (s : State) (d : Die) (x p : Nat) : Bool :=
  let u := s.dux d x
  match u.replay with
  | some l => (match l with | r :: _ => decide (r.typ = 5) | [] => false)
  | none =>
    decide (u.began + 1000 * s.fld d (CKP_pCFG p) CKP_pCFG__EPOCH ≤ s.ns d) || u.ckpt || u.next.isSome ||
    (decide (s.fld d (CKP_pLIM p) CKP_pLIM__LINES ≤ u.dirty.length) && decide (s.ckState d p ≠ 2)) ||
    decide (49152 ≤ u.heldBytes)

/-- The J lines of the epoch whose copies differ between the cores. -/
def State.lineDiffers (s : State) (d : Die) (x : Nat) : Option Nat :=
  let u := s.dux d x
  u.dirty.find? (fun a => decide (s.coreBytes d u.cores.q0 a 64 ≠ s.coreBytes d u.cores.q1 a 64))

/-- The journal of the epoch that ends (R514). -/
def State.mkJournal (s : State) (d : Die) (x p e : Nat) : Journal :=
  let u := s.dux d x
  let rising : Table Unit := u.dirty.foldl (fun t a => tput t a ()) []
  let lines := rising.map (fun e => (e.1, s.coreBytes d u.cores.q0 e.1 64))
  { part := p, die := d, dux := x, epoch := (s.ck d p).epoch, endCount := e, logPos := u.logMade,
    nextSeq := s.fld d (CKP_pSEQ p) CKP_pSEQ__SEQ, state := u.cores.q0.regs, call := u.call, lines := lines,
    held := u.held.filter (fun o => decide (o.part = p)) }

/-- The number of the open epoch of a partition set, and shown (CKP_pEPOCH). -/
def State.setEpoch (s : State) (p n : Nat) : State :=
  ((s.updCk 0 p (fun k => { k with epoch := n })).updCk 1 p (fun k => { k with epoch := n })).setBoth (CKP_pEPOCH p)
    CKP_pEPOCH__EPOCH n

/-- The number of the last sealed epoch of a partition set, and shown (CKP_pSEALED). -/
def State.setSealed (s : State) (p n : Nat) : State :=
  ((s.updCk 0 p (fun k => { k with sealedNo := n })).updCk 1 p (fun k => { k with sealedNo := n })).setBoth (CKP_pSEALED p)
    CKP_pSEALED__EPOCH n

/-- The new epoch at instruction E: counts and deliveries start anew (R512, R533), an overflow of the ended epoch's last cycles is
delivered at count 0 (R612), the partition that follows runs. -/
def State.newEpoch (s : State) (d : Die) (x p e : Nat) : State :=
  let u := s.dux d x
  let q := u.next.getD p
  let n := (s.ck d p).epoch
  let s1 := s.logOn d x 0x05 e (toLE 8 (n + 1))
  let cut := fun (c : AppCore) => { c with count := c.count - e }
  let s2 := s1.updDux d x (fun u => { u with
    cores := ⟨cut u.cores.q0, cut u.cores.q1⟩,
    deliv := u.deliv.map (fun v => { v with count := v.count - e }) ++ (if u.overflow then [⟨0, 13, true, toLE 2 (0x040 + x) ++ toLE 6 0⟩] else []),
    endAt := none, ckpt := false, ckptBy := none, next := none, began := s.ns d, dirty := [], overflow := false })
  let s3 := if u.replay.isSome then s2.replayPop d x else s2
  let s4 := ((s3.reachDeliv d x 0 false).reachDeliv d x 1 false).settleDeliv d x
  let s5 := (s4.setEpoch p (n + 1)).setF d (DUX_dSTAT x) DUX_dSTAT__PART q
  if q = p then s5 else s5.setEpoch q ((s5.ck d q).epoch)

/-- Whether a role swap of a binding is waiting for the epoch's end. -/
def State.swapPending (s : State) (d : Die) (x : Nat) : Bool := (s.homed d x).any (fun p => (s.ck d p).swap)

/-- A line of an epoch that ends in the split, sent to Q-die 1 in class 0 and applied there as it arrives (R713). -/
def State.splitLine (s : State) (d : Die) (a : Nat) (l : List Byte) : State :=
  if s.split && decide (d = 0) && s.alive 1 then s.plSend 0 0 (.write a (2 ^ l.length - 1) l) (s.pairCipher 0 [(a, l)]) else s

/-- The end of an epoch, both cores at E: signatures and J lines compared, then the journal built, or without a spare the held
outputs released (R507, R512, R522). With a role swap pending the home starts no new epoch (R531): it stands in a seal
wait until the spare takes over. -/
def State.endEpoch (s : State) (d : Die) (x p e : Nat) : State :=
  let u := s.dux d x
  if u.cores.q0.regs.signature ≠ u.cores.q1.regs.signature then s.failDux d x 5 0
  else match s.lineDiffers d x with
  | some a => s.failDux d x 6 a
  | none =>
    if s.logged d p && u.replay.isNone then
      let j := s.mkJournal d x p e
      let s1 := s.updDux d x (fun u => { u with journal := some j, sent := false, endedAt := s.ns d })
      let s2 := s1.setBoth (CKP_pJRNL p) CKP_pJRNL__LINES (satTo 0xFFFF j.lines.length)
      let s3 := s2.setBoth (CKP_pJRNL p) CKP_pJRNL__HELD (satTo 0xFFFF (j.held.flatMap Output.bytes).length)
      if s3.swapPending d x then
        (s3.setF d (DUX_dSTAT x) DUX_dSTAT__STATE 4).updDux d x (fun u => { u with waitAt := some (s.ns d) })
      else s3.newEpoch d x p e
    else
      let s1 := ((((u.dirty.foldl (fun st a => st.splitLine d a (st.coreBytes d u.cores.q0 a 64)) s).releaseHeld d x p
        (s.ck d p).epoch).releasePrompt d x).newEpoch d x p e)
      if s.updPhase = 7 then (s1.updCore d x 0 (fun c => { c with run := false })).updCore d x 1 (fun c => { c with run := false })
      else s1

/-- EPOCH_END: where an epoch is due, its end count is set; where both cores have reached it, the epoch ends. While the epoch
before is unsealed its end waits, so that at most one epoch and the 30 µs of R517 are unsealed. -/
def execEpochEnd (d : Die) (dux : Fin 12) (s : State) : Out :=
  .next (
    let x := dux.val
    let u := s.dux d x
    let a := u.cores.q0
    let b := u.cores.q1
    match s.runningOn d x with
    | none => s
    | some p =>
      if !s.duxUp d x then s else
      match u.endAt with
      | none =>
        if s.updPhase ≠ 7 ∧ s.epochDue d x p = true then
          let e := match s.replayHead d x with
            | some r => r.count
            | none => if s.inWfi d x then u.lead else u.lead + 32
          s.updDux d x (fun u => { u with endAt := some e })
        else s
      | some e =>
        let there := decide (a.count = b.count) && (decide (a.count = e) || s.inWfi d x)
        if there && u.journal.isNone && a.wait.isNone && b.wait.isNone then s.endEpoch d x p a.count else s)

/-! ### Journals and seals (R514 to R519) -/

/-- JOURNAL_SEND (R514, R519, R628): once the held outputs of the epoch before are released, the journal crosses in class 1
with the event controller's snapshot. -/
def execJournalSend (d : Die) (dux : Fin 12) (s : State) : Out :=
  .next (
    let x := dux.val
    match (s.dux d x).journal, s.spareOf d x with
    | some j, some y =>
      let done := (s.dux d x).held.all (fun o => decide (o.part ≠ j.part ∨ j.epoch ≤ o.epoch))
      if s.duxUp d x && s.linkUp && s.alive d.other && !(s.dux d x).sent && done then
        (s.updDux d x (fun u => { u with sent := true, acked := false })).plSend d 1 (.journal y x j (s.evcSnapshot d x))
          (s.pairCipher d j.lines)
      else s
    | _, _ => s)

/-- The input log of a spare cut at the seal of an epoch: what follows the epoch-start record of the next one stays. -/
def logAfter (epoch : Nat) : List LogRec → List LogRec
  | [] => []
  | r :: l => if r.typ = 5 ∧ u64 r.body 0 = epoch + 1 then l else logAfter epoch l

/-- The input log up to the end of an epoch. -/
def logUntil (epoch : Nat) : List LogRec → List LogRec
  | [] => []
  | r :: l => if r.typ = 5 ∧ u64 r.body 0 = epoch + 1 then [] else r :: logUntil epoch l

/-- A duplex takes over a binding's partition with the state of a journal (R523 steps 3 to 5, R531, R598): TLBs and L1I are
empty, the counts at 0, what the cores held of J lines is gone. -/
def State.takeOver (s : State) (d : Die) (x : Nat) (j : Journal) (log : Option (List LogRec)) : State :=
  let core : AppCore := { regs := j.state, run := true, sealed := j.call.isSome }
  let q := match log with
    | some l => let r := pullDeliv d s l; (r.1, some r.2)
    | none => ([], none)
  let s1 := s.updDux d x (fun u => { u with
    cores := ⟨core, core⟩, deliv := q.1, endAt := none, ckpt := false, ckptBy := none, next := none, began := s.ns d,
    dirty := [], held := [], prompt := [], failed := false, replay := q.2, call := j.call })
  let keep := (s.rd d (DUX_dSTAT x)) &&& 0xFFFFE000#32
  s1.wr d (DUX_dSTAT x) (keep ||| BitVec.ofNat 32 (1 + 4 * (if log.isSome then 2 else 1) + 2 ^ 5 * j.part + 2 ^ 10 + 2 ^ 14 * 15) &&& 0x0003FFFF#32)

/-- The home of the partitions of a binding shown on both dies: duplex `x` of die `d`, with a spare or 0xF, in a state. -/
def State.setHome (s : State) (ps : List Nat) (d : Die) (x spare st : Nat) : State :=
  ps.foldl (fun s p =>
    ((((s.setBoth (CKP_pSTAT p) CKP_pSTAT__HOMEDIE d.val).setBoth (CKP_pSTAT p) CKP_pSTAT__HOMEDUX x).setBoth (CKP_pSTAT p)
      CKP_pSTAT__SPAREDUX spare).setCk p st)) s

/-- The pins of a partition are driven by its home die, as that die's registers say (R546). -/
def State.drivePins (s : State) (d : Die) (p : Nat) : State :=
  (List.range 16).foldl (fun st j =>
    let w := st.rd d (WLD_PINj j)
    if WLD_PINj__VALID.get w = 1 ∧ WLD_PINj__SEALED.get w = 0 ∧ WLD_PINj__PART.get w = p ∧ WLD_PINj__OE.get w = 1 ∧
      st.cis.firstSeal = true then st.pinLevel j (decide (WLD_PINj__OUT.get w = 1)) else st) s

/-- The home of a partition has moved to a die: its count is raised on both dies, the new home die asks the field die for every
controller that the partition owns (R365), and drives the partition's pins (R546). -/
def State.homeMoves (s : State) (d : Die) (p : Nat) : State :=
  let n := ((s.ck d p).moves + 1) % 65536
  ((List.range 28).foldl (fun st i => if st.fbByPart d i && decide (st.fbPart d i = p) then st.fieldRequest i d d n else st)
    ((s.updCk 0 p (fun k => { k with moves := n })).updCk 1 p (fun k => { k with moves := n }))).drivePins d p

/-- A duplex's role and the home it serves. -/
def State.setRole (s : State) (d : Die) (x role serves : Nat) : State :=
  (s.setF d (DUX_dSTAT x) DUX_dSTAT__ROLE role).setF d (DUX_dSTAT x) DUX_dSTAT__SERVES serves

/-- A duplex idle: nothing runs on it. -/
def State.idleDux (s : State) (d : Die) (x : Nat) : State :=
  let s1 := s.updDux d x (fun u => { fails := u.fails, lastBist := u.lastBist, bistCmd := u.bistCmd })
  (s1.setF d (DUX_dSTAT x) DUX_dSTAT__STATE 0).setF d (DUX_dSTAT x) DUX_dSTAT__PVALID 0

/-- The sheddable partitions on a duplex stopped and reset with cause 0x21 (R527). -/
def State.stopSheddable (s : State) (d : Die) (x : Nat) : State :=
  (s.homed d x).foldl (fun s p =>
    if s.bit d (CKP_pSTAT p) CKP_pSTAT__SHED then s.partReset p 0x21 0 else s) s

/-- A role swap completed when the spare has sealed the home's last journal (R531): it runs from count 0 of the next epoch, and
the former home, which keeps current J regions, is its synchronised spare. -/
def State.finishSwap (s : State) (d : Die) (x y : Nat) (j : Journal) : State :=
  let ps := s.homed d x
  let s1 := (s.stopSheddable d.other y).takeOver d.other y j none
  let s2 := ((s1.idleDux d x).setRole d x 2 y).setRole d.other y 1 15
  let s3 := s2.setHome ps d.other y x 3
  let s4 := ps.foldl (fun s p =>
    ((s.updCk 0 p (fun k => { k with swap := false })).updCk 1 p (fun k => { k with swap := false })).homeMoves d.other p) s3
  let s5 := (s4.loadSnapshot d.other y (tget {} (s4.vol.get d.other).evc.snaps x)).setEpoch j.part (j.epoch + 1)
  ((s5.updDux d x (fun u => { u with last := some j })).updDux d.other y (fun u => { u with
    began := s.ns d.other, stored := [], storedPos := 0, logMade := 0, logAcked := 0 })).setBoth CKP_CMDRES CKP_CMDRES__RESULT 3

/-- An epoch sealed by the spare (R516): the lines applied, the log up to E discarded, the snapshot applied, the state kept. -/
def State.sealEpoch (s : State) (d : Die) (y x : Nat) (j : Journal) : State :=
  let s1 := j.lines.foldl (fun st l => st.dmaPut d l.1 l.2) s
  let s2 := s1.updDux d y (fun u => { u with
    stored := logAfter j.epoch u.stored, arriving := none, asked := false, last := some j, mayRelease := true })
  let s3 := (s2.setSealed j.part j.epoch).updVol d (fun v => { v with
    evc := { v.evc with snaps := tset {} v.evc.snaps x (tget {} v.evc.snapNext x) } })
  let s4 := if s3.ckState d j.part = 2 then (s3.homed d.other x).foldl (fun s p => s.setCk p 3) s3 else s3
  s4.plSend d 3 (.ack x j.epoch)

/-- A seal acknowledged at the home (R519, R517): the epoch's held outputs go out in sequence order, the seal latency is
shown, a seal wait ends. -/
def State.sealAck (s : State) (d : Die) (x : Nat) (j : Journal) : State :=
  let u := s.dux d x
  let us := (s.ns d - u.endedAt) / 1000
  let s1 := (s.releaseHeld d x j.part j.epoch).updDux d x (fun u => { u with
    journal := none, sent := false, acked := false, waitAt := none,
    call := if s.duxState d x = 4 then
        u.call.map (fun k => { k with idle := k.idle + (s.ns d - u.waitAt.getD (s.ns d)) }) else u.call })
  let s2 := s1.setBoth (CKP_pSLAT j.part) CKP_pSLAT__LAST (satTo 0xFFFF us)
  let s3 := s2.setBoth (CKP_pSLAT j.part) CKP_pSLAT__MAX (max (s2.fld d (CKP_pSLAT j.part) CKP_pSLAT__MAX) (satTo 0xFFFF us))
  if s3.duxState d x = 4 then s3.setF d (DUX_dSTAT x) DUX_dSTAT__STATE 1 else s3

/-- JOURNAL_RECEIVE (R516), on spare duplex `dux` of die `d`: the magic and the CRC as they arrive, the epoch number and the
log position checked; a first failure asks for the journal again, a second makes the spare lagging. -/
def execJournalReceive (d : Die) (dux : Fin 12) (magic : Word) (crc : BitVec 64) (s : State) : Out :=
  .next (
    let y := dux.val
    let u := s.dux d y
    let x := s.fld d (DUX_dSTAT y) DUX_dSTAT__SERVES
    match u.arriving with
    | none => s
    | some j =>
      if !s.duxUp d y then s else
      let pos := u.storedPos - logBytes u.stored + logBytes (logUntil j.epoch u.stored)
      if decide (magic = journalMagic ∧ j.epoch = (s.ck d j.part).sealedNo + 1 ∧ j.logPos = pos ∧
          crc.toNat = crc64 j.bytes) then
        let s1 := s.sealEpoch d y x j
        if s1.swapPending d.other x && decide (s1.duxState d.other x = 4) then
          (s1.sealAck d.other x j).finishSwap d.other x y j
        else s1
      else if u.asked then (s.goAlone d.other x 5).recordBoth (0x0400 + j.part) 0x03 j.part 0 (j.epoch % 2 ^ 32)
      else (s.updDux d y (fun u => { u with arriving := none, asked := true })).updDux d.other x (fun u => { u with
        sent := false }))

/-- SEAL_ACK (R519): the acknowledgement that the spare has sealed the home's journal is taken. -/
def execSealAck (d : Die) (dux : Fin 12) (s : State) : Out :=
  .next (
    let x := dux.val
    match (s.dux d x).journal with
    | some j => if s.duxUp d x && (s.dux d x).acked then s.sealAck d x j else s
    | none => s)

/-- SEAL_WAIT (R517): 30 µs after the end of an epoch that is still unsealed, the home stalls. -/
def execSealWait (d : Die) (dux : Fin 12) (s : State) : Out :=
  .next (
    let x := dux.val
    let u := s.dux d x
    match u.journal, s.runningOn d x with
    | some _, some p =>
      if s.duxUp d x && decide (s.duxState d x = 1 ∨ s.duxState d x = 3) && decide (u.endedAt + 30000 ≤ s.ns d) then
        ((s.setF d (DUX_dSTAT x) DUX_dSTAT__STATE 4).addSat d (CKP_pWAIT p) CKP_pWAIT__COUNT 1).updDux d x (fun u => { u with
          waitAt := some (s.ns d) })
      else s
    | _, _ => s)

/-- SPARE_LAG_TIMEOUT (R518): an epoch unsealed two epoch lengths after its end; the spare is lagging. -/
def execSpareLagTimeout (d : Die) (dux : Fin 12) (s : State) : Out :=
  .next (
    let x := dux.val
    match (s.dux d x).journal with
    | some j =>
      let lim := 2000 * s.fld d (CKP_pCFG j.part) CKP_pCFG__EPOCH
      if s.duxUp d x && decide ((s.dux d x).endedAt + lim ≤ s.ns d) then
        (s.goAlone d x 5).recordBoth (0x0400 + j.part) 0x03 j.part 0 (j.epoch % 2 ^ 32)
      else s
    | none => s)

/-- LOG_ACK (R515): the spare acknowledges a log position it has stored; prompt outputs before it go out. -/
def execLogAck (d : Die) (dux : Fin 12) (pos : BitVec 64) (s : State) : Out :=
  .next (
    let x := dux.val
    match s.spareOf d x with
    | some y =>
      if s.duxUp d x && s.linkFlows && decide (pos.toNat ≤ (s.dux d.other y).storedPos) &&
          decide ((s.dux d x).logAcked ≤ pos.toNat) then
        (s.updDux d x (fun u => { u with logAcked := pos.toNat })).releasePrompt d x
      else s
    | none => s)

/-! ### Failover (R523 to R528) -/

/-- The count to re-execute of each unsealed epoch in a log, oldest first: the largest count logged in it. -/
def epochCounts : Nat → List LogRec → List Nat
  | c, [] => [c]
  | c, r :: l => if r.typ = 5 then r.count :: epochCounts 0 l else epochCounts (max c r.count) l

/-- FAILOVER (R523 steps 2 to 5), on spare duplex `dux` of die `d` whose home has failed: records of class 0x03 for the
unsealed epochs, sheddable partitions stopped, the last sealed state loaded, its held outputs released again where they
may not all have been, re-execution from count 0 against the log. -/
def execFailover (d : Die) (dux : Fin 12) (s : State) : Out :=
  .next (
    let y := dux.val
    let x := s.fld d (DUX_dSTAT y) DUX_dSTAT__SERVES
    let ps := (s.homed d.other x).filter (fun p => decide (s.ckState d p = 6))
    match (s.dux d y).last with
    | none => s
    | some j =>
      if !s.duxUp d y || decide (s.duxRole d y ≠ 2) || decide (ps = []) then s else
      let log := (s.dux d y).stored
      let again := (s.dux d y).mayRelease
      let counts := epochCounts 0 log
      let s1 := (List.range counts.length).foldl (fun st i =>
        st.recordBoth (0x0400 + j.part) 0x03 j.part 0
          ((j.epoch + 1 + i) % 2 ^ 32 + 2 ^ 32 * satTo 0xFFFFFF (counts.getD i 0))) s
      let s2 := (s1.stopSheddable d y).takeOver d y j (some log)
      let s3 := ((s2.setRole d y 1 15).setRole d.other x (s2.duxRole d.other x) 15).setHome ps d y 15 6
      let s4 := (s3.setBoth (CKP_pSEQ j.part) CKP_pSEQ__SEQ j.nextSeq).setEpoch j.part (j.epoch + 1)
      let s5 := if again then j.held.foldl (fun st o => st.release d o) s4 else s4
      (s5.loadSnapshot d y (tget {} (s5.vol.get d).evc.snaps x)).updDux d y (fun u => { u with
        stored := [], storedPos := 0, arriving := none, last := none, mayRelease := false }))

/-- LOG_EXHAUSTED (R523 step 6): the spare is the home and runs live; events are handed over (R629), the failover event fires,
and a deferred partition reset follows. -/
def execLogExhausted (d : Die) (dux : Fin 12) (s : State) : Out :=
  .next (
    let x := dux.val
    match (s.dux d x).replay with
    | some [] =>
      if !s.duxUp d x then s else
      let ps := (s.homed d x).filter (fun p => decide (s.ckState d p = 6))
      let s1 := (s.updDux d x (fun u => { u with replay := none })).setF d (DUX_dSTAT x) DUX_dSTAT__STATE 1
      ps.foldl (fun st p =>
        let us := (st.ns d - (st.ck d p).lostAt.getD (st.ns d)) / 1000
        let a := (st.setCk p 4).setBoth (CKP_pFOVER p) CKP_pFOVER__COUNT
          (satTo 0xFFFF (st.fld d (CKP_pFOVER p) CKP_pFOVER__COUNT + 1))
        let b := (a.setBoth (CKP_pFOVER p) CKP_pFOVER__LAST (satTo 0xFFFF us)).updCk d p (fun k => { k with lostAt := none })
        (((b.homeMoves d p).handOver d p).fireBoth (0x070 + p)).partResetDue p) s1
    | _ => s)

/-- Every home of a die goes on without its spare (R525). -/
def State.homesAlone (s : State) (d : Die) : State :=
  (List.range 12).foldl (fun st x => if st.duxRole d x = 1 then st.goAlone d x 4 else st) s

/-- What the loss of die `d` does to its partitions: they fail over where their spare is synchronised, any other runs no more; those
of the partner go on without a spare (R525, R526). -/
def State.losePartitions (s : State) (d : Die) : State :=
  let s1 := (List.range 12).foldl (fun st x =>
    (st.homed d x).foldl (fun st p =>
      if st.ckState d.other p = 3 ∧ (st.spareOf d x).isSome = true then
        (st.setCk p 6).updCk d.other p (fun k => { k with lostAt := some (st.ns d.other) })
      else st.setCk p 7) st) s
  s1.homesAlone d.other

/-! ### Restoring redundancy (R529 to R531) -/

/-- The J regions of a die that partitions may write through a duplex: address ranges (first byte, end). -/
def State.jRanges (s : State) (d : Die) (ps : List Nat) : List (Nat × Nat) :=
  [0, 1].flatMap (fun g => (List.range 64).filterMap (fun r =>
    let ctl := fun f => s.rgCtl d g r f
    let parts := (s.rd d (RGD_g_rPART g r)).toNat
    if ctl RGD_g_rCTL__VALID = 1 ∧ ctl RGD_g_rCTL__CLASS = 0 ∧ ctl RGD_g_rCTL__W = 1 ∧ bitOf (ctl RGD_g_rCTL__INIT) 0 = true ∧
        ps.any (fun p => bitOf parts p) = true then
      some ((s.rd d (RGD_g_rBASE g r)).toNat * 4096, ((s.rd d (RGD_g_rLIMIT g r)).toNat + 1) * 4096)
    else none))

/-- SYNC_PASS (R529): the home of a binding makes the spare's J regions like its own, in class 1; what is still in its cores' caches joins
the lines of the epoch, whose journal completes the pass. Epochs are numbered from 1. -/
def execSyncPass (d : Die) (dux : Fin 12) (s : State) : Out :=
  .next (
    let x := dux.val
    let ps := (s.homed d x).filter (fun p => !s.bit d (CKP_pSTAT p) CKP_pSTAT__SHED)
    let st := fun p => s.ckState d p
    match s.spareOf d x with
    | none => s
    | some y =>
      let ok := s.duxUp d x && s.duxUp d.other y && s.linkFlows && s.joint d && s.isSealed d.other && (s.dux d x).replay.isNone &&
        decide (ps ≠ []) && ps.all (fun p => decide (st p = 1 ∨ st p = 2 ∨ st p = 4 ∨ st p = 5))
      if !ok then s else
      let s1 := (s.jRanges d ps).foldl (fun t r => (t.dropCopies d.other r.1 (r.2 - r.1)).copyRange d d.other r.1 r.2) (s.plNotice d 1 14 x)
      let s2 := (s1.updDux d x DuxSt.dropShadow).updDux d.other y DuxSt.dropShadow
      let s3 := s2.updDux d x (fun u => { u with
        dirty := u.cores.q0.dirty.foldl (fun t e => if t.contains (lineOf64 e.1) then t else lineOf64 e.1 :: t) u.dirty })
      ps.foldl (fun t p =>
        (((t.setBoth (CKP_pSTAT p) CKP_pSTAT__SPAREDUX y).setCk p 2).setEpoch p 1).setSealed p 0) s3)

/-- A duplex retired (R530): shown, recorded in MRAM, with a class 0x17 record of kind 2. -/
def State.retireDux (s : State) (d : Die) (x : Nat) : State :=
  let s1 := s.wr d DUX_RETIRE (BitVec.ofNat 32 (withBit (s.rd d DUX_RETIRE).toNat x true))
  ((s1.idleDux d x).setRole d x 3 15).recordBoth (0x0300 + x) 0x17 (x + 2 ^ 8 * d.val) 0 2

/-- The lowest-numbered free spare of a die (R530). -/
def State.freeSpare (s : State) (d : Die) : Option Nat :=
  (List.range 12).find? (fun y => decide (s.duxRole d y = 2) && decide (s.fld d (DUX_dSTAT y) DUX_dSTAT__SERVES = 15) &&
    !(s.dux d y).failed && !bitOf (s.rd d DUX_RETIRE).toNat y)

/-- The home on the other die that has no spare and whose binding, by its epoch records, a duplex belongs to. -/
def State.lonelyHome (s : State) (d : Die) (x : Nat) : Option Nat :=
  (List.range 12).find? (fun h => decide (s.duxRole d.other h = 1) && decide ((s.spareOf d.other h).isNone = true) &&
    (s.homed d.other h).any (fun p =>
      let cfg := s.rd d.other (CKP_pCFG p)
      let hd := CKP_pCFG__HOMEDIE.get cfg
      !s.bit d.other (CKP_pSTAT p) CKP_pSTAT__SHED &&
        (if hd = d.val then decide (CKP_pCFG__HOMEDUX.get cfg = x) else decide (CKP_pCFG__SPAREDUX.get cfg = x))))

/-- A duplex made the spare of a home on the other die, unsynchronised. -/
def State.giveSpare (s : State) (d : Die) (y h : Nat) : State :=
  (s.homed d.other h).foldl (fun st p =>
    if st.bit d.other (CKP_pSTAT p) CKP_pSTAT__SHED then st else st.setBoth (CKP_pSTAT p) CKP_pSTAT__SPAREDUX y)
    (s.setRole d y 2 h)

/-- A BIST asked for by DUX_CMD is done (R534). -/
def State.bistDone (s : State) (d : Die) (x : Nat) : State :=
  if s.fld d DUX_CMDRES DUX_CMDRES__RESULT = 1 ∧ (s.dux d x).bistCmd = true then
    (s.setF d DUX_CMDRES DUX_CMDRES__RESULT 3).updDux d x (fun u => { u with bistCmd := false })
  else s

/-- DUPLEX_BIST (R530, R531): the result of a duplex's BIST. A duplex that passes is the spare of its binding, or returns to what it
was; one that fails, or has failed twice within 24 h, is retired and the binding takes the lowest free spare of its die. -/
def execDuplexBist (d : Die) (dux : Fin 12) (passed : Bool) (s : State) : Out :=
  .next (
    let x := dux.val
    let st := s.duxState d x
    if !s.alive d || !(decide (st = 5) || decide (st = 6)) then s else
    let s0 := (s.bistDone d x).updDux d x (fun u => { u with lastBist := s.ns d })
    let day := 86400000000000
    let twice := decide (2 ≤ ((s.dux d x).fails.filter (fun t => decide (s.ns d < t + day))).length)
    let home := s.lonelyHome d x
    if passed && !(decide (st = 6) && twice) then
      let s1 := s0.idleDux d x
      if st = 6 then
        match home with
        | some h => s1.giveSpare d x h
        | none => s1
      else s1
    else
      let serves := s.fld d (DUX_dSTAT x) DUX_dSTAT__SERVES
      let lost := if s.duxRole d x = 2 ∧ serves < 12 then some serves else home
      let s1 := match lost with
        | some h => (s0.goAlone d.other h 4)
        | none => s0
      let s2 := (s1.stopSheddable d x).retireDux d x
      match lost, s2.freeSpare d with
      | some h, some y =>
        ((s2.stopSheddable d y).giveSpare d y h).recordBoth (0x0300 + y) 0x17 (y + 2 ^ 8 * d.val) 0 3
      | some h, none =>
        ((s2.homed d.other h).foldl (fun st p => st.setBoth (CKP_pSTAT p) CKP_pSTAT__SPAREDUX 15) s2).recordBoth (0x0300 + x) 0x17
          (x + 2 ^ 8 * d.val) 0 9
      | none, _ => s2)

/-- Whether a role swap of the binding homed on a duplex can be made (R531): its spare is synchronised and no partition of it
fails over. -/
def State.canSwap (s : State) (d : Die) (x : Nat) : Bool :=
  let ps := s.homed d x
  s.duxUp d x && s.linkUp && (s.spareOf d x).isSome && decide (ps ≠ []) && ps.all (fun p => decide (s.ckState d p = 3))

/-- A role swap of a binding asked for, to be made at the next epoch end. -/
def State.askSwap (s : State) (d : Die) (x : Nat) : State :=
  (s.homed d x).foldl (fun st p =>
    (st.updCk 0 p (fun k => { k with swap := true })).updCk 1 p (fun k => { k with swap := true })) s

/-- BIST_INTERVAL (R531, R533): a spare whose interval has passed is tested, unless it re-executes; a home is swapped first. -/
def execBistInterval (d : Die) (dux : Fin 12) (s : State) : Out :=
  .next (
    let x := dux.val
    let u := s.dux d x
    let hours := s.fld d (DUX_dCFG x) DUX_dCFG__BISTINT
    if s.duxUp d x && decide (0 < hours) && decide (u.lastBist + hours * 3600000000000 ≤ s.ns d) then
      if s.duxRole d x = 2 ∧ u.replay.isNone = true then (s.stopSheddable d x).setF d (DUX_dSTAT x) DUX_dSTAT__STATE 5
      else if s.duxRole d x = 1 ∧ s.canSwap d x = true then s.askSwap d x
      else s
    else s)

/-- Whether a command of DUX or CKP is heard (R534, R535): its writer, its CONFIRM. -/
def State.duxHears (s : State) (d : Die) (who : Initiator) (confirm : BitVec 8) (want : Nat) : Bool :=
  s.alive d && who.isManager && decide (confirm.toNat = want)

/-- The result of a CKP command, shown on both dies. -/
def State.ckpResult (s : State) (r : Nat) : State := s.setBoth CKP_CMDRES CKP_CMDRES__RESULT r

/-- CKP_ROLE_SWAP_PARTITION (R531). -/
def execCkpRoleSwapPartition (d : Die) (who : Initiator) (confirm : BitVec 8) (p : Fin 32) (s : State) : Out :=
  .next (
    let h := s.homeDie p.val
    let x := s.homeDux d p.val
    if !s.duxHears d who confirm 0x4E then s
    else if s.homedAt h p.val x && s.canSwap h x then (s.askSwap h x).ckpResult 1 else s.ckpResult 2)

/-- CKP_ROLE_SWAP_DIE (R531): every binding homed on a die; refused where one of them cannot be swapped. -/
def execCkpRoleSwapDie (d : Die) (who : Initiator) (confirm : BitVec 8) (die : Die) (s : State) : Out :=
  .next (
    let xs := (List.range 12).filter (fun x => decide (s.duxRole die x = 1) && decide (s.homed die x ≠ []))
    if !s.duxHears d who confirm 0x4E then s
    else if decide (xs ≠ []) && xs.all (fun x => s.canSwap die x) then
      (xs.foldl (fun st x => st.askSwap die x) s).ckpResult 1
    else s.ckpResult 2)

/-- CKP_RESYNC (R535): the spare of a partition is to be synchronised anew; a sync pass follows. -/
def execCkpResync (d : Die) (who : Initiator) (confirm : BitVec 8) (p : Fin 32) (s : State) : Out :=
  .next (
    let h := s.homeDie p.val
    let x := s.homeDux d p.val
    let st := s.ckState d p.val
    if !s.duxHears d who confirm 0x4E then s
    else if s.linkUp && (s.spareOf h x).isSome && decide (st = 3 ∨ st = 4 ∨ st = 5) &&
        !s.bit d (CKP_pSTAT p.val) CKP_pSTAT__SHED then
      ((s.goAlone h x 2).setCk p.val 2).ckpResult 1
    else s.ckpResult 2)

/-- DUX_RUN_BIST (R534): with a role swap first when the duplex is home. -/
def execDuxRunBist (d : Die) (who : Initiator) (confirm : BitVec 8) (dux : BitVec 4) (s : State) : Out :=
  .next (
    let x := dux.toNat
    let res := fun (st : State) (r : Nat) => st.setF d DUX_CMDRES DUX_CMDRES__RESULT r
    if !s.duxHears d who confirm 0x3D then s
    else if 12 ≤ x ∨ s.duxUp d x = false then res s 2
    else if s.duxRole d x = 1 then
      if s.canSwap d x then
        res ((s.askSwap d x).updDux d x (fun u => { u with lastBist := 0, bistCmd := true })) 1
      else res s 2
    else if s.duxRole d x = 2 ∧ (s.dux d x).replay.isNone = true then
      res (((s.stopSheddable d x).setF d (DUX_dSTAT x) DUX_dSTAT__STATE 5).updDux d x (fun u => { u with bistCmd := true })) 1
    else res s 2)

/-- DUX_RETIRE (R534): refused for a home duplex, whose partitions no rule moves. -/
def execDuxRetire (d : Die) (who : Initiator) (confirm : BitVec 8) (dux : BitVec 4) (s : State) : Out :=
  .next (
    let x := dux.toNat
    let res := fun (st : State) (r : Nat) => st.setF d DUX_CMDRES DUX_CMDRES__RESULT r
    if !s.duxHears d who confirm 0x3D then s
    else if 12 ≤ x ∨ s.duxRole d x = 1 ∨ s.duxRole d x = 3 then res s 2
    else
      let serves := s.fld d (DUX_dSTAT x) DUX_dSTAT__SERVES
      let s1 := if s.duxRole d x = 2 ∧ serves < 12 then s.goAlone d.other serves 4 else s
      res ((s1.stopSheddable d x).retireDux d x) 3)

end Sys2Proof.Machine
end

