-- ==== Sys2Proof/Machine/World.lean ====
section
/-! DEFINITION. Sealed world, open world and partitions (spec/14): the world records, sealed calls, the restart of the sealed
world, partition reset, pins, region-guard commands. -/

namespace Sys2Proof.Machine

/-- The sealed-world state of a die, and a change of it. -/
def State.wld (s : State) (d : Die) : WldSt := (s.vol.get d).wld
def State.updWld (s : State) (d : Die) (f : WldSt → WldSt) : State := s.updVol d (fun v => { v with wld := f v.wld })

/-! ### Records (R578 to R580) -/

/-- Whether the words of a region keep its order and its reserved bits. `c` is the CTL word. -/
def regionForm (g base limit c : Nat) : Bool :=
  decide (base ≤ limit ∧ Fld.get ⟨18, 13⟩ (BitVec.ofNat 32 c) = 0) && (decide (g < 4) || decide (limit < 64))

/-- Whether the CTL word of a region keeps R570 to R572. -/
def regionClass (c : Nat) : Bool :=
  let f := fun (x : Fld) => x.get (BitVec.ofNat 32 c)
  let on := fun (x : Fld) => decide (f x = 1)
  !(decide (f RGD_g_rCTL__CLASS = 3) && on RGD_g_rCTL__W && bitOf (f RGD_g_rCTL__INIT) 0) &&
  (!on RGD_g_rCTL__SEALW || (on RGD_g_rCTL__SEALED && !on RGD_g_rCTL__OPEN && on RGD_g_rCTL__EXCL && on RGD_g_rCTL__LOCK)) &&
  (!on RGD_g_rCTL__X || decide (f RGD_g_rCTL__INIT = 1))

/-- Whether a record is an epoch record of a partition. -/
def epochOf (r : Rec) (p : Nat) : Bool := decide (r.typ.toNat = 0x0902 ∧ r.inst = p ∧ r.body.length = 16)

/-- The binding of a partition by its epoch record, one still to be judged included: home die and duplex; none for a sheddable
partition or without a record. -/
def State.bindingOf (s : State) (d : Die) (p : Nat) : Option (Nat × Nat) :=
  match ((s.todo d).filter (fun r => epochOf r p)).getLast? with
  | some r => if u8 r.body 3 = 1 then none else some (u8 r.body 0, u8 r.body 1)
  | none =>
  let c := s.rd d (CKP_pCFG p)
  if CKP_pCFG__EPOCH.get c = 0 ∨ CKP_pCFG__SHED.get c = 1 then none
  else some (CKP_pCFG__HOMEDIE.get c, CKP_pCFG__HOMEDUX.get c)

/-- Whether the partitions of a mask belong to at most one binding (R500). -/
def State.oneBinding (s : State) (d : Die) (mask : Nat) : Bool :=
  let l := ((List.range 32).filter (fun p => bitOf mask p)).filterMap (fun p => s.bindingOf d p)
  match l with
  | [] => true
  | e :: l => l.all (fun x => decide (x = e))

/-- Whether a J region grants writing through duplexes to partitions of two bindings (R500). -/
def State.jSplit (s : State) (d : Die) (mask c : Nat) : Bool :=
  let f := fun (x : Fld) => x.get (BitVec.ofNat 32 c)
  decide (f RGD_g_rCTL__VALID = 1 ∧ f RGD_g_rCTL__CLASS = 0 ∧ f RGD_g_rCTL__W = 1) && bitOf (f RGD_g_rCTL__INIT) 0 &&
    !s.oneBinding d mask

/-- A valid region of the guard over an address that contains a range and meets a condition on its PART and CTL words. -/
def State.regionWith (s : State) (d : Die) (a n : Nat) (ok : Nat → Nat → Bool) : Bool :=
  match guardOf a with
  | some (g, o) => (List.range 64).any (fun r => s.regionHas d g r o n && ok (s.rd d (RGD_g_rPART g r)).toNat
      (s.rd d (RGD_g_rCTL g r)).toNat)
  | none => false

/-- A valid region that contains a range and meets a condition on its CTL word. -/
def State.someRegion (s : State) (d : Die) (a n : Nat) (ok : Nat → Bool) : Bool := s.regionWith d a n (fun _ c => ok c)

/-- Whether an assignment register names a partition that is not defined: a channel, a pin or a chip select of the open world. -/
def State.assignedWell (s : State) (d : Die) (off : Nat) (valid : Nat) : Bool :=
  let v := s.rd d off
  !bitOf v.toNat valid || bitOf v.toNat 5 || s.defined d (v.toNat % 32)

/-- The world as a whole (R580), judged once every record of range 0x01xx is applied: the rules of regions, J regions, gate entries,
save slots, destinations of sealed code, owners. -/
def State.worldOk (s : State) (d : Die) : Bool :=
  let on := fun (c : Nat) (x : Fld) => decide (x.get (BitVec.ofNat 32 c) = 1)
  let sealedX := fun (c : Nat) => on c RGD_g_rCTL__SEALW && on c RGD_g_rCTL__X
  (List.range 13).all (fun g => (List.range 64).all (fun r =>
    let c := (s.rd d (RGD_g_rCTL g r)).toNat
    !s.jSplit d (s.rd d (RGD_g_rPART g r)).toNat c && (!on c RGD_g_rCTL__VALID || regionClass c))) &&
  (List.range 256).all (fun i =>
    !s.bit d (WLD_GATEiH i) WLD_GATEiH__VALID ||
      (let a := s.rd64 d (WLD_GATEiL i) (WLD_GATEiH i) % 2 ^ 48
       s.someRegion d a 4 sealedX && decide (s.leAt d a 4 = 0x300B) && s.maskDefined d (s.rd d (WLD_GATEiP i)).toNat)) &&
  (List.range 32).all (fun p =>
    let a := s.saveSlot d p
    decide (a = 0) || s.regionWith d a 1024 (fun m c => bitOf m p && on c RGD_g_rCTL__SEALW && on c RGD_g_rCTL__W &&
      decide (RGD_g_rCTL__CLASS.get (BitVec.ofNat 32 c) = 0))) &&
  (s.wld d).codes.all (fun e => s.someRegion d e.2.1 e.2.2.length sealedX) &&
  (List.range 80).all (fun n => s.assignedWell d (WLD_CHOWNn n) 31) && (List.range 16).all (fun j =>
    s.assignedWell d (WLD_PINj j) 6 && s.assignedWell d (WLD_SATOWNs j) 31)

/-- The check of the world as a whole after the last record of range 0x01xx; where it fails, that record fails (R580). -/
def State.worldEnd (t s : State) (d : Die) (r : Rec) : State :=
  t.afterLast s d r (fun q => decide (q.range = 1)) (fun t => if t.worldOk d then t else t.recordFails d r 0x0C)

/-- PARTITION_RECORD. A way mask of 0 gives 0xFFFC (R594); a ROAMING partition needs a roaming record, which is still to be judged
(R697). -/
def execPartitionRecord (d : Die) (r : Rec) (s : State) : Out :=
  let b := r.body
  let p := r.inst
  .next ((s.applyRec d r 0 false 0x0101
    (goodIf (decide (p < 32 ∧ b.length = 24 ∧ r.block = 6 ∧ u8 b 0 ≤ 1 ∧ u8 b 1 = 0 ∧ u64 b 8 % 1024 = 0 ∧ u64 b 8 < 2 ^ 48) &&
      zeroBytes b 4 4 && zeroBytes b 16 8 &&
      (decide (u8 b 0 = 0) || (s.todo d).any (fun q => decide (q.typ.toNat = 0x0B03 ∧ q.inst = p)))))
    (fun s =>
      let ways := if u16 b 2 = 0 then 0xFFFC else u16 b 2
      (s.wr d (WLD_pCFG p) (BitVec.ofNat 32 (1 + 2 * u8 b 0 + 2 ^ 16 * ways))).wr64 d (WLD_pSAVEL p) (WLD_pSAVEH p) (u64 b 8))).worldEnd s d r)

/-- GATE_BLOCK_RECORD. -/
def execGateBlockRecord (d : Die) (r : Rec) (s : State) : Out :=
  let b := r.body
  let first := u32 b 0
  let n := u32 b 4
  let e := fun i => 8 + 16 * i
  let entryOk := fun i =>
    decide (u64 b (e i) < 2 ^ 48 ∧ u64 b (e i) % 4 = 0 ∧ u8 b (e i + 12) < 16 ∧ u8 b (e i + 13) ≤ 1 ∧ u16 b (e i + 14) = 0)
  .next ((s.applyRec d r r.seq.toNat false 0x0102
    (goodIf (decide (r.inst = 0 ∧ r.block = 6 ∧ first ≤ 255 ∧ 1 ≤ n ∧ first + n ≤ 256 ∧ b.length = 8 + 16 * n) &&
      (List.range n).all entryOk))
    (fun s => (List.range n).foldl (fun st i => st.putEntry d r (first + i) (fun st =>
      let g := first + i
      let a := u64 b (e i)
      ((st.wr d (WLD_GATEiL g) (BitVec.ofNat 32 a)).wr d (WLD_GATEiH g) (BitVec.ofNat 32 (a / 2 ^ 32 + 2 ^ 16 * u8 b (e i + 12) +
        2 ^ 31 * u8 b (e i + 13)))).wr d (WLD_GATEiP g) (BitVec.ofNat 32 (u32 b (e i + 8))))) s)).worldEnd s d r)

/-- The register that shows an assignment: channel owner, pin, chip-select owner. -/
def assignReg (kind idx : Nat) : Nat := if kind = 0 then WLD_CHOWNn idx else if kind = 1 then WLD_PINj idx else WLD_SATOWNs idx

/-- ASSIGNMENT_BLOCK_RECORD. A pin that a lane pin record of the image enables may not be assigned too (R546). -/
def execAssignmentBlockRecord (d : Die) (r : Rec) (s : State) : Out :=
  let b := r.body
  let n := u32 b 0
  let e := fun i => 8 + 8 * i
  let entryOk := fun i =>
    let kind := u8 b (e i)
    let idx := u16 b (e i + 2)
    let w := u8 b (e i + 1)
    decide (kind ≤ 2 ∧ w ≤ 1 ∧ idx < (if kind = 0 then 80 else 16)) && zeroBytes b (e i + 5) 3 &&
      (if w = 1 then decide (u8 b (e i + 4) = 0) else decide (u8 b (e i + 4) < 32)) &&
      !(decide (kind = 1) && (s.vol.get d).boot.recs.any (fun q => lanePinRec idx q && q.forDie d))
  .next ((s.applyRec d r r.seq.toNat false 0x0103
    (goodIf (decide (r.inst = 0 ∧ r.block = 6 ∧ 1 ≤ n ∧ n ≤ 112 ∧ u32 b 4 = 0 ∧ b.length = 8 + 8 * n) &&
      (List.range n).all entryOk))
    (fun s => (List.range n).foldl (fun st i =>
      let kind := u8 b (e i)
      let idx := u16 b (e i + 2)
      st.putEntry d r (kind * 256 + idx) (fun st =>
        st.wr d (assignReg kind idx) (BitVec.ofNat 32 (u8 b (e i + 4) + 2 ^ 5 * u8 b (e i + 1) +
          (if kind = 1 then 2 ^ 6 else 2 ^ 31))))) s)).worldEnd s d r)

/-- SEALED_WORLD_RECORD. -/
def execSealedWorldRecord (d : Die) (r : Rec) (s : State) : Out :=
  let b := r.body
  .next ((s.applyRec d r 0 false 0x0104
    (goodIf (decide (r.inst = 0 ∧ r.block = 6 ∧ b.length = 8 ∧ u8 b 0 ≤ 1 ∧ 1 ≤ u8 b 1 ∧ u8 b 1 ≤ 15) && zeroBytes b 2 6))
    (fun s => s.wr d WLD_SCFG (BitVec.ofNat 32 (1 + 2 * u8 b 0 + 4 * u8 b 1)))).worldEnd s d r)

/-- The code bodies in ascending sequence order (R563). -/
def codeBodies (l : List (Nat × Nat × List Byte)) : List (List Byte) :=
  let t : Table (List Byte) := l.foldl (fun t e => tput t e.1 e.2.2) []
  t.map (·.2)

/-- The rules of a sealed code record by itself. -/
def sealedCodeForm (r : Rec) : Bool :=
  let n := u32 r.body 8
  decide (r.typ.toNat = 0x0105 ∧ r.inst = 0 ∧ r.block = 6 ∧ 8 ≤ n ∧ n ≤ 4194304 ∧ n % 8 = 0 ∧ u32 r.body 12 = 0 ∧
    r.body.length = 16 + n)

/-- SEALED_CODE_RECORD: the code copied to its destination, the code digest taken anew (R565). -/
def execSealedCodeRecord (d : Die) (r : Rec) (s : State) : Out :=
  let b := r.body
  let a := u64 b 0
  let n := u32 b 8
  let code := (b.drop 16).take n
  let overlap := (s.wld d).codes.any (fun e => decide (a < e.2.1 + e.2.2.length ∧ e.2.1 < a + n)) ||
    (s.todo d).any (fun q => sealedCodeForm q && decide (q ≠ r ∧ a < u64 q.body 0 + u32 q.body 8 ∧ u64 q.body 0 < a + n))
  .next ((s.applyRec d r r.seq.toNat false 0x0105
    (goodIf (sealedCodeForm r && !overlap))
    (fun s =>
      let s1 := s.updWld d (fun w => { w with codes := w.codes ++ [(r.seq.toNat, a, code)] })
      (s1.updWld d (fun w => { w with digest := some (Config.sha384 (codeBodies w.codes).flatten) })).putBytes d a code)).worldEnd s d r)

/-- Whether a region would let an initiator other than the management cores write the fault ring (R732). -/
def ringOpen (g base limit c : Nat) : Bool :=
  let f := fun (x : Fld) => x.get (BitVec.ofNat 32 c)
  decide (g = 1 ∧ base ≤ 0x207FF ∧ 0x207E0 ≤ limit ∧ f RGD_g_rCTL__VALID = 1 ∧ f RGD_g_rCTL__W = 1 ∧ f RGD_g_rCTL__INIT ≠ 4 ∧
    f RGD_g_rCTL__INIT ≠ 0)

/-- The four words of a region written. -/
def State.putRegion (s : State) (d : Die) (g r w0 w1 w2 w3 : Nat) : State :=
  (((s.wr d (RGD_g_rBASE g r) (BitVec.ofNat 32 w0)).wr d (RGD_g_rLIMIT g r) (BitVec.ofNat 32 w1)).wr d (RGD_g_rPART g r)
    (BitVec.ofNat 32 w2)).wr d (RGD_g_rCTL g r) (BitVec.ofNat 32 w3)

/-- REGION_BLOCK_RECORD. -/
def execRegionBlockRecord (d : Die) (r : Rec) (s : State) : Out :=
  let b := r.body
  let g := r.inst
  let first := u32 b 0
  let n := u32 b 4
  let w := fun i k => u32 b (8 + 16 * i + 4 * k)
  .next ((s.applyRec d r r.seq.toNat false 0x0110
    (goodIf (decide (g < 13 ∧ r.block = 7 ∧ first ≤ 63 ∧ 1 ≤ n ∧ first + n ≤ 64 ∧ b.length = 8 + 16 * n) &&
      (List.range n).all (fun i => regionForm g (w i 0) (w i 1) (w i 3) && !ringOpen g (w i 0) (w i 1) (w i 3))))
    (fun s => (List.range n).foldl (fun st i =>
      st.putEntry d r (g * 64 + first + i) (fun st => st.putRegion d g (first + i) (w i 0) (w i 1) (w i 2) (w i 3))) s)).worldEnd s d r)

/-! ### The state of the sealed world (R562) -/

/-- The sealed world's state set on a die; the change is sent to the partner in class 3, and the event fires. -/
def State.setSealedState (s : State) (d : Die) (st : Nat) : State :=
  let s1 := (s.setF d WLD_STAT WLD_STAT__SSTATE st).fire d 0x090
  if s1.alive d.other then s1.plSend d 3 (.world st) else s1

/-- Every sealed call of a die ended by a restart (R559, R563 step 1), and every open epoch ended as with CKPT (step 2). -/
def State.endCalls (s : State) (d : Die) : State :=
  if !s.alive d then s else
  let s1 := (s.inCall d (fun _ => true)).foldl (fun st x =>
    (st.endCallOf d x).addSat d WLD_SABORT WLD_SABORT__OTHER 1) s
  s1.updVol d (fun v => { v with dux := v.dux.map (fun e => (e.1, { e.2 with ckpt := true })) })

/-- The restart of the sealed world begun (R563 steps 1 and 2) on both dies; while the pair link is down, on the die whose own state
it is (R562). -/
def State.beginRestart (s : State) (d : Die) : State :=
  let s1 := s.setSealedState d 3
  let s2 := (s1.updWld d (fun w => { w with restartAt := s1.ns d })).endCalls d
  if s2.joint d then s2.endCalls d.other else s2

/-- Whether another restart is within the limit of the record. -/
def State.mayRestart (s : State) (d : Die) : Bool := decide (s.restarts24 d < s.fld d WLD_SCFG WLD_SCFG__LIMIT)

/-- SEALED_WATCHDOG_EXPIRY (R559, R560, R563): a call has run 200 µs. It ends with SEALED_UNAVAILABLE and the sealed world is HUNG; a
restart follows at once where the record permits it, FAILED where the limit is reached. -/
def execSealedWatchdogExpiry (d : Die) (dux : Fin 12) (s : State) : Out :=
  .next (
    let x := dux.val
    match (s.dux d x).call with
    | none => s
    | some k =>
      let st := s.duxState d x
      if !s.duxUp d x || (s.dux d x).replay.isSome || decide (st = 3 ∨ st = 4) || decide (s.callNs d k < 200000) then s else
      let s1 := (s.endCallOf d x).addSat d WLD_SABORT WLD_SABORT__HANG 1
      let s2 := (s1.recordBoth 0x0600 0x11 (k.gate + 2 ^ 8 * k.part) 0x0E 0).updDux d x (fun u => { u with
        call := u.call.map (fun k => { k with since := s.ns d, idle := 0 }) })
      if s2.fld d WLD_STAT WLD_STAT__SSTATE ≠ 1 then s2
      else
        let s3 := s2.setSealedState d 2
        if !s3.mayRestart d then s3.setSealedState d 4
        else if s3.bit d WLD_SCFG WLD_SCFG__RESTART then s3.beginRestart d else s3)

/-- SEALED_STATE_NOTICE (R562): a die takes the partner's change. -/
def execSealedStateNotice (d : Die) (s : State) : Out :=
  .next (match (s.wld d).notice with
    | some st =>
      if s.alive d then
        ((s.updWld d (fun w => { w with notice := none, restartAt := s.ns d })).setF d WLD_STAT WLD_STAT__SSTATE st).fire d 0x090
      else s
    | none => s)

/-- WLD_RESTART (R563, R576): a restart of a hung sealed world, within the limit. -/
def execWldRestart (d : Die) (who : Initiator) (confirm : BitVec 8) (s : State) : Out :=
  .next (if !s.duxHears d who confirm 0x9E then s
    else if s.fld d WLD_STAT WLD_STAT__SSTATE = 2 then
      if s.mayRestart d then (s.beginRestart d).setF d WLD_CMDRES WLD_CMDRES__RESULT 1
      else (s.setSealedState d 4).setF d WLD_CMDRES WLD_CMDRES__RESULT 2
    else s.setF d WLD_CMDRES WLD_CMDRES__RESULT 2)

/-- Bytes of a stretch of memory of a die made 0. -/
def State.zeroRange (s : State) (d : Die) (a n : Nat) : State :=
  let s := s.dropCopies d a n
  if inMram a then s.putBytes d a (List.replicate n 0#8)
  else { s with mem := tdrop s.mem (fun k => decide (memKey d a ≤ k ∧ k < memKey d (a + n))) }

/-- The regions with CLR zeroed on a die (R563 step 3), the Ductus slot apart (R46). -/
def State.zeroClr (s : State) (d : Die) : State :=
  (List.range 13).foldl (fun st g => (List.range 64).foldl (fun st r =>
    if s.rgCtl d g r RGD_g_rCTL__VALID = 1 ∧ s.rgCtl d g r RGD_g_rCTL__CLR = 1 ∧ g ≠ 4 then
      let lo := (s.rd d (RGD_g_rBASE g r)).toNat * 4096
      let n := ((s.rd d (RGD_g_rLIMIT g r)).toNat + 1) * 4096 - lo
      if g = 2 then (st.zeroRange d lo (min (lo + n) 0x10800000 - lo)).zeroRange d (max lo 0x11800000) (lo + n - max lo 0x11800000)
      else st.zeroRange d (if g < 4 then lo else 0x40080000 + (g - 5) * 0x1000000 + lo) n
    else st) st) s

/-- The boot measurement register extended with a block of bytes' digest (R563 step 6). -/
def State.extendBmr (s : State) (d : Die) (block : List Byte) : State :=
  s.updVol d (fun v => { v with boot := { v.boot with
    bmr := Config.sha384 (toBE 48 v.boot.bmr.toNat ++ toBE 48 (Config.sha384 block).toNat) } })

/-- The restart completed on a die with the code bodies it read from its Ductus slot (R563 steps 3 to 6, R564, R774): FAILED
where their digest is not the one of boot. -/
def State.reload (s : State) (d : Die) (bodies : List (List Byte)) : State :=
  if !s.alive d then s else
  let w := s.wld d
  let s1 := s.zeroClr d
  let dests := (w.codes.foldl (fun (t : Table Nat) e => tput t e.1 e.2.1) []).map (·.2)
  let s2 := (dests.zip bodies).foldl (fun st e => st.dmaPut d e.1 e.2) s1
  let dig := Config.sha384 bodies.flatten
  if some dig ≠ w.digest then (s2.setF d WLD_STAT WLD_STAT__SSTATE 4).fire d 0x090
  else
    let n := satInc 255 (s.fld d WLD_STAT WLD_STAT__SRST)
    let s3 := s2.extendBmr d ([0x53, 0x52, 0x53, 0x54].map (BitVec.ofNat 8) ++ toLE 4 n ++ toBE 48 dig.toNat)
    let s4 := ((s3.updWld d (fun w => { w with restarts := s.ns d :: w.restarts })).updVol d (fun v => { v with
      sec := { v.sec with slots := [], op := none } })).wr d SEC_CMDRES (if (s3.vol.get d).sec.op.isSome then 0#32 else s3.rd d SEC_CMDRES)
    let s5 := ((s4.setF d WLD_STAT WLD_STAT__SSTATE 1).setF d WLD_STAT WLD_STAT__SRST n).setF d WLD_CMDRES WLD_CMDRES__RESULT
      (if s4.fld d WLD_CMDRES WLD_CMDRES__RESULT = 1 then 3 else s4.fld d WLD_CMDRES WLD_CMDRES__RESULT)
    let s6 := s5.setF d WLD_STAT WLD_STAT__SRST24 (satTo 15 (s5.restarts24 d))
    (s6.recordSev d 0x0600 0x11 0 0 0x0F (n % 256)).fire d 0x090

/-- SEALED_RESTART_RELOAD (R563): every open epoch acknowledged, or 10 ms after the restart began, when a spare that has not
acknowledged is lagging. The bodies of the sealed code records are those the Ductus slots give. -/
def execSealedRestartReload (codes0 codes1 : List (List Byte)) (s : State) : Out :=
  .next (
    let late := s.onDies (fun st d => if (st.wld d).restartAt + 10000000 ≤ st.ns d then
        (List.range 12).foldl (fun st x => if (st.dux d x).journal.isSome then st.goAlone d x 5 else st) st
      else st)
    let busy := fun (d : Die) => late.alive d && (List.range 12).any (fun x => (late.dux d x).journal.isSome || (late.dux d x).ckpt) &&
      decide (late.ns d < (late.wld d).restartAt + 10000000)
    let on := fun (d : Die) => late.alive d && decide (late.fld d WLD_STAT WLD_STAT__SSTATE = 3)
    let here := fun (d : Die) => on d || (on d.other && late.joint d)
    if !(on 0 || on 1) || (here 0 && busy 0) || (here 1 && busy 1) then s
    else
      let s1 := if here 0 then late.reload 0 codes0 else late
      if here 1 then s1.reload 1 codes1 else s1)

/-! ### Sealed calls (R550 to R558) -/

/-- A core's privilege as a bit of a gate's mask: U or VU, VS, HS, M. -/
def CoreSt.privBit (c : CoreSt) : Nat := if c.priv = 3 then 3 else if c.priv = 0 then 0 else if c.virt then 1 else 2

/-- The status a WGATE is refused with (R551, checks 2 to 6); none where it is admitted. During re-execution a refusal with
SEALED_UNAVAILABLE is the one logged at its count (R561). -/
def State.gateDenied (s : State) (d : Die) (x : Nat) (b : Die) (imm : Nat) : Option Nat :=
  let c := s.core d x b
  let p := c.regs.vmid
  let h := s.rd d (WLD_GATEiH imm)
  if WLD_GATEiH__VALID.get h = 0 then some sealedDenied
  else if !bitOf (s.rd d (WLD_GATEiP imm)).toNat p then some sealedDenied
  else if !bitOf (WLD_GATEiH__PRIV.get h) c.regs.privBit then some sealedDenied
  else if s.saveSlot d p = 0 then some sealedDenied
  else if (s.dux d x).replay.isSome then
    ((s.dux d x).deliv.find? (fun v => decide (v.bit = 64 ∧ v.count = c.count))).map (fun v => u64 v.body 0)
  else if s.fld d WLD_STAT WLD_STAT__SSTATE ≠ 1 then some sealedUnavailable
  else none

/-- The caller's state in the layout of the save slot (R552). -/
def CoreSt.slotBytes (c : CoreSt) : List Byte :=
  (List.range 31).flatMap (fun i => toLE 8 (c.get (.x (i + 1)))) ++ (List.range 32).flatMap (fun i => toLE 8 (c.get (.f i))) ++
    toLE 8 (c.get (.csr 3)) ++ toLE 8 (c.pc.toNat + 4) ++ toLE 8 (c.priv + 4 * b2n c.virt)

/-- WGATE (R551, R552, R555, R561). -/
def execWgate (d : Die) (dux : Fin 12) (core : Die) (imm : BitVec 8) (s : State) : Out :=
  .next (
    let x := dux.val
    let g := imm.toNat
    s.insn d x core (fun s =>
      let c := s.core d x core
      let p := c.regs.vmid
      if c.sealed then s.trap d x core illegalInsn 0
      else match s.gateDenied d x core g with
      | some code =>
        let s1 := if core = 0 then s.addSat d WLD_SDENY WLD_SDENY__COUNT 1 else s
        let s2 := if core = 0 ∧ code = sealedUnavailable then s1.logOn d x 0x07 c.count (toLE 8 code) else s1
        s2.retire d x core { c.regs.set (.x 10) code with pc := c.regs.pc + 4#64 }
      | none =>
        let a := s.rd64 d (WLD_GATEiL g) (WLD_GATEiH g) % 2 ^ 48
        let s1 := (s.coreWrite d x core (s.saveSlot d p) c.regs.slotBytes).retire d x core { c.regs with pc := BitVec.ofNat 64 a }
        let s2 := s1.updCore d x core (fun c => { c with sealed := true, entry := true })
        if (s2.dux d x).call.isSome then s2
        else (s2.updDux d x (fun u => { u with call := some ⟨g, p, s.ns d, 0⟩ })).showCall d x p (some g)))

/-- WENTRY (R553): the first instruction of a call; anywhere else an illegal instruction. -/
def execWentry (d : Die) (dux : Fin 12) (core : Die) (s : State) : Out :=
  .next (
    let x := dux.val
    let c := s.core d x core
    if !s.canRun d x core then s
    else if c.sealed && c.entry then
      (s.updCore d x core (fun c => { c with entry := false })).retire d x core { c.regs with pc := c.regs.pc + 4#64 }
    else s.insn d x core (fun s => s.trap d x core illegalInsn 0x300B))

/-- WRET (R557): the caller's state restored but for a0 to a7; a negative a0 becomes SEALED_FAULT. -/
def execWret (d : Die) (dux : Fin 12) (core : Die) (s : State) : Out :=
  .next (
    let x := dux.val
    s.insn d x core (fun s =>
      let c := s.core d x core
      if !c.sealed then s.trap d x core illegalInsn 0x400B
      else
        let slot := s.coreBytes d c (s.saveSlot d c.regs.vmid) 528
        let r := restoreCall c.regs slot true
        let r1 := if 2 ^ 63 ≤ c.regs.get (.x 10) then
            ((List.range 7).foldl (fun r i => r.set (.x (11 + i)) 0) r).set (.x 10) sealedFault else r
        let s1 := (s.retire d x core r1).leaveCall d x core
        if (s1.dux d x).call.isNone then s1.incWrap d WLD_SCALLS WLD_SCALLS__COUNT else s1))

/-- HGATP_WRITE (R499, R539, R541): a core writes hgatp. A new VMID must name a partition that is home on this duplex; it ends the
open epoch at this instruction. A refused write is an illegal-instruction exception and leaves hgatp as it was. -/
def execHgatpWrite (d : Die) (dux : Fin 12) (core : Die) (v : BitVec 64) (s : State) : Out :=
  .next (
    let x := dux.val
    s.insn d x core (fun s =>
      let c := s.core d x core
      let old := c.regs.get (.csr 0x680)
      let q := v.toNat / 2 ^ 44 % 32
      let mode := v.toNat / 2 ^ 60
      let m := if mode = 0 ∨ mode = 8 ∨ mode = 9 then mode else old / 2 ^ 60
      let new := m * 2 ^ 60 + q * 2 ^ 44 + v.toNat % 2 ^ 44
      if c.sealed ∨ c.regs.priv = 0 then s.trap d x core (if c.regs.virt ∧ c.sealed = false then virtualInsn else illegalInsn) 0
      else if c.regs.virt then s.trap d x core virtualInsn 0
      else if q = c.regs.vmid then s.retire d x core { c.regs.set (.csr 0x680) new with pc := c.regs.pc + 4#64 }
      else if s.defined d q && s.homedAt d q x && decide (s.ckState d q ≠ 6) then
        let s1 := s.updDux d x (fun u => { u with next := some q, endAt := some (c.count + 1) })
        s1.retire d x core { c.regs.set (.csr 0x680) new with pc := c.regs.pc + 4#64 }
      else
        (if core = 0 then s.addSat d WLD_VMIDREF WLD_VMIDREF__COUNT 1 else s).trap d x core illegalInsn 0))

/-! ### Partitions and pins -/

/-- PARTITION_RESET (R548): begun by the hypervisor or by the fault policy. -/
def execPartitionReset (p : Fin 32) (policy : Bool) (s : State) : Out :=
  .next (s.partReset p.val (if policy then 0x21 else 0x20) 0)

/-- WLD_RESET_ACK (R548): RST clears on both dies; refused where no reset waits, or for a roaming partition that is not granted to
this module (R686, R687). -/
def execWldResetAck (d : Die) (who : Initiator) (confirm : BitVec 8) (p : Fin 32) (s : State) : Out :=
  .next (if !s.duxHears d who confirm 0x9E then s
    else if s.bit d (WLD_pSTAT p) WLD_pSTAT__RST && decide (s.fld d (ZGP_RpSTAT p) ZGP_RpSTAT__ROLE = 0 ∨
        s.fld d (ZGP_RpSTAT p) ZGP_RpSTAT__STATE = 1) then
      (s.setBoth (WLD_pSTAT p) WLD_pSTAT__RST 0).setF d WLD_CMDRES WLD_CMDRES__RESULT 3
    else s.setF d WLD_CMDRES WLD_CMDRES__RESULT 2)

/-- Whether an initiator owns a pin (R544, R546). -/
def State.ownsPin (s : State) (d : Die) (who : Initiator) (j : Nat) : Bool :=
  let w := s.rd d (WLD_PINj j)
  decide (WLD_PINj__VALID.get w = 1) && (match who with
    | .part p => decide (WLD_PINj__SEALED.get w = 0 ∧ p.val = WLD_PINj__PART.get w)
    | .sealed _ => decide (WLD_PINj__SEALED.get w = 1)
    | _ => false)

/-- PIN_WRITE (R546): the owner writes OE and OUT; the pin is driven by the home die of its owner, or for the sealed world by
the die written. Before the first seal every pin stays hi-Z (R94). -/
def execPinWrite (d : Die) (who : Initiator) (pin : Fin 16) (oe out : Bool) (s : State) : Out :=
  .next (
    let j := pin.val
    if s.alive d && s.ownsPin d who j then
      let s1 := (s.setF d (WLD_PINj j) WLD_PINj__OE (b2n oe)).setF d (WLD_PINj j) WLD_PINj__OUT (b2n out)
      let drives : Bool := match who with
        | .part p => decide (s.homeDie p.val = d)
        | _ => true
      if drives && oe && s.cis.firstSeal then s1.pinLevel j out else s1
    else s)

/-! ### Region-guard commands (R573, R574, R577) -/

/-- RGD_CMDRES set: STATE, PARTNER, REASON. -/
def State.rgdResult (s : State) (d : Die) (st partner reason : Nat) : State :=
  s.wr d RGD_CMDRES (BitVec.ofNat 32 (st + 4 * partner + 16 * reason))

/-- RGD_READ. -/
def execRgdRead (d : Die) (who : Initiator) (confirm : BitVec 8) (guard : BitVec 4) (region : Fin 64) (s : State) : Out :=
  .next (
    let g := guard.toNat
    let r := region.val
    if !s.duxHears d who confirm 0xA7 then s
    else if 13 ≤ g then s.rgdResult d 3 0 5
    else ((((s.wr d (RGD_BUFi 0) (s.rd d (RGD_g_rBASE g r))).wr d (RGD_BUFi 1) (s.rd d (RGD_g_rLIMIT g r))).wr d (RGD_BUFi 2)
      (s.rd d (RGD_g_rPART g r))).wr d (RGD_BUFi 3) (s.rd d (RGD_g_rCTL g r))).rgdResult d 2 0 0)

/-- Why a region write is refused (RGD_CMDRES.REASON); 0 where it is not. -/
def State.rgdReason (s : State) (d : Die) (g r w0 w1 w2 w3 : Nat) : Nat :=
  let on := fun (x : Fld) => decide (x.get (BitVec.ofNat 32 w3) = 1)
  if 13 ≤ g then 5
  else if s.rgCtl d g r RGD_g_rCTL__LOCK = 1 then 1
  else if on RGD_g_rCTL__SEALW || on RGD_g_rCTL__SEALED || on RGD_g_rCTL__LOCK then 2
  else if s.jSplit d w2 w3 then 3
  else if !(regionForm g w0 w1 w3 && regionClass w3) then 4
  else 0

/-- RGD_WRITE. -/
def execRgdWrite (d : Die) (who : Initiator) (confirm : BitVec 8) (mirror : Bool) (guard : BitVec 4) (region : Fin 64)
    (s : State) : Out :=
  .next (
    let g := guard.toNat
    let r := region.val
    let w := fun i => (s.rd d (RGD_BUFi i)).toNat
    if !s.duxHears d who confirm 0xA7 then s else
    let why := s.rgdReason d g r (w 0) (w 1) (w 2) (w 3)
    if why ≠ 0 then s.rgdResult d 3 0 why
    else
      let s1 := s.putRegion d g r (w 0) (w 1) (w 2) (w 3)
      if mirror && s.joint d then
        (s1.putRegion d.other g r (w 0) (w 1) (w 2) (w 3)).rgdResult d 2 1 0
      else s1.rgdResult d 2 0 0)

end Sys2Proof.Machine
end

