-- ==== Sys2Proof/Machine/AppCores.lean ====
section
/-! DEFINITION. Application cores (spec/15): open images, the start of duplexes, CKPT, WFI, cache errors, and the retiring of a
RISC-V instruction under the module's rules. -/

namespace Sys2Proof.Machine

/-- The form of an open image record: its body, with a destination and a length (R609). -/
def openImageForm (r : Rec) : Bool :=
  let n := u32 r.body 8
  decide (r.typ.toNat = 0x0903 ∧ r.inst = 0 ∧ r.block = 3 ∧ u64 r.body 0 % 8 = 0 ∧ 8 ≤ n ∧ n ≤ 8388608 ∧ n % 8 = 0 ∧
    u32 r.body 12 ≤ 1 ∧ r.body.length = 16 + n)

/-- OPEN_IMAGE_RECORD (R609): of two records of the image whose destinations overlap each is malformed. -/
def execOpenImageRecord (d : Die) (r : Rec) (s : State) : Out :=
  let b := r.body
  let a := u64 b 0
  let n := u32 b 8
  let w := s.wld d
  let overlap := w.images.any (fun e => decide (a < e.1 + e.2 ∧ e.1 < a + n)) || (s.vol.get d).boot.recs.any (fun q =>
    openImageForm q && decide (q.index ≠ r.index ∧ a < u64 q.body 0 + u32 q.body 8 ∧ u64 q.body 0 < a + n))
  let entry := decide (u32 b 12 = 1)
  .next (s.applyRec d r r.seq.toNat false 0x0903
    (goodIf (openImageForm r && !r.late && !overlap && !(entry && w.entry.isSome) &&
      decide ((0x20000000 ≤ a ∧ a + n ≤ 0x20800000) ∨ (0x100000000 ≤ a ∧ a + n ≤ 0x300000000)) &&
      s.someRegion d a n (fun c => decide (RGD_g_rCTL__CLASS.get (BitVec.ofNat 32 c) = 0 ∧ RGD_g_rCTL__X.get (BitVec.ofNat 32 c) = 1) &&
        bitOf c 0)))
    (fun s => (s.updWld d (fun w => { w with
      images := (a, n) :: w.images, entry := if entry then some a else w.entry })).putBytes d a ((b.drop 16).take n)))

/-- The registers of a core that leaves reset for a partition (R610). -/
def startRegs (entry hart p : Nat) : CoreSt :=
  { (((({} : CoreSt).set (.x 10) hart).set (.x 11) 0x10800000).set (.csr 0x680) (p * 2 ^ 44)) with pc := BitVec.ofNat 64 entry }

/-- DUPLEX_START (R610): a duplex with a partition leaves reset at the entry address, both cores alike; without an ENTRY record
none starts and a class 0x12 record is written. -/
def execDuplexStart (d : Die) (dux : Fin 12) (s : State) : Out :=
  .next (
    let x := dux.val
    let shed := fun p => s.bit d (CKP_pSTAT p) CKP_pSTAT__SHED
    let role := s.duxRole d x
    let ps := (s.homed d x).filter (fun p => s.defined d p && decide (if shed p = true then role = 2 else role = 1))
    match ps with
    | [] => s
    | p :: _ =>
      if !s.alive d || !s.isSealed d || decide (s.duxState d x ≠ 0) || (s.apart && decide (d = 1)) then s
      else match (s.wld d).entry with
      | none => if (s.wld d).noEntry then s else (s.record d 0x0300 0x12 0 0 0).updWld d (fun w => { w with noEntry := true })
      | some e =>
        let core : AppCore := { regs := startRegs e (d.val * 12 + x) p, run := true }
        let s1 := s.updDux d x (fun u => { u with cores := ⟨core, core⟩, began := s.ns d })
        let s2 := ((s1.setF d (DUX_dSTAT x) DUX_dSTAT__STATE 1).setF d (DUX_dSTAT x) DUX_dSTAT__PART p).setF d (DUX_dSTAT x)
          DUX_dSTAT__PVALID 1
        ps.foldl (fun st q => if shed q ∨ st.linkUp = false ∨ st.alive d.other = false then st.setF d (CKP_pSTAT q) CKP_pSTAT__STATE 4 else st) s2)

/-- CKPT (R512, R604): the epoch ends when both cores have retired it. -/
def execCkpt (d : Die) (dux : Fin 12) (core : Die) (s : State) : Out :=
  .next (
    let x := dux.val
    s.insn d x core (fun s =>
      let c := s.core d x core
      let cfg := c.regs.get (.csr 0x7C0)
      if c.sealed then s.trap d x core illegalInsn 0x100B
      else if c.regs.virt && bitOf cfg 1 then s.trap d x core virtualInsn 0x100B
      else if c.regs.priv = 0 ∧ c.regs.virt = false ∧ bitOf cfg 0 = true then s.trap d x core illegalInsn 0x100B
      else
        let s1 := s.retire d x core { c.regs with pc := c.regs.pc + 4#64 }
        s1.updDux d x (fun u => match u.ckptBy with
          | some o => if o = core then u else { u with ckpt := true }
          | none => { u with ckptBy := some core })))

/-- Whether an enabled interrupt is pending in a core (mie and mip, log entry 11). -/
def CoreSt.wakes (c : CoreSt) : Bool := decide (Nat.land (c.get (.csr 0x344)) (c.get (.csr 0x304)) ≠ 0)

/-- WFI_WAKE (R510, R611): a core in WFI wakes on an event, or by the log while it re-executes; the wake is logged. -/
def execWfiWake (d : Die) (dux : Fin 12) (core : Die) (s : State) : Out :=
  .next (
    let x := dux.val
    let c := s.core d x core
    if !s.duxUp d x || !s.coreWfi d x core then s
    else match s.replayHead d x with
    | some r =>
      if r.typ = 6 ∧ r.count = c.count then
        let s1 := s.setWfi d x core false
        if s.coreWfi d x core.other then s1 else s1.replayPop d x
      else if c.regs.wakes then s.setWfi d x core false else s
    | none =>
      if c.regs.wakes then
        let s1 := s.setWfi d x core false
        if core = 0 then s1.logOn d x 0x06 c.count (toLE 8 (s.ns d)) else s1
      else s)

/-- COUNTER_OVERFLOW (R607): a counter of core A overflows; LCOFIP is delivered to both cores like an event, source 0x040 + d.
None is raised in a sealed call (R555), nor while the duplex re-executes; one that comes with the end of the epoch is delivered at
count 0 of the new one (R612). -/
def execCounterOverflow (d : Die) (dux : Fin 12) (s : State) : Out :=
  .next (
    let x := dux.val
    let u := s.dux d x
    if !s.duxUp d x || u.call.isSome || u.replay.isSome || s.lineSet d x 13 || (s.runningOn d x).isNone then s
    else if u.endAt.isSome then s.updDux d x (fun u => { u with overflow := true })
    else s.schedule d x 13 true (toLE 2 (0x040 + x) ++ toLE 6 0))

/-- CACHE_ECC_ERROR (R593): kind 0 a corrected error in L1D or L2, 1 a parity error in L1I, 2 an uncorrectable one in a clean line,
3 one in a dirty line, which stops the core. -/
def execCacheEccError (d : Die) (dux : Fin 12) (core : Die) (kind : Fin 4) (line : BitVec 48) (s : State) : Out :=
  .next (
    let x := dux.val
    if !s.duxUp d x then s
    else
      let rec7 := fun (st : State) (m : Nat) => st.recordBoth (0x0300 + x) 0x07 (m + 256 * (2 * x + core.val)) 0 line.toNat
      match kind with
      | 0 => rec7 s 0x09
      | 1 => rec7 s 0x0A
      | 2 => rec7 (s.updCore d x core (fun c => { c with lines := c.lines.filter (fun a => decide (a ≠ lineOf64 line.toNat)) })) 0x09
      | 3 => s.updCore d x core (fun c => { c with stopped := true }))

/-! ### A RISC-V instruction (R554, R581 to R592, R595 to R602, R611) -/

/-- Whether a word is one of the module instructions (R602). -/
def moduleInsn (w : Word) : Bool :=
  let n := w.toNat
  decide (opOf w = 0x0B) &&
  (match funct3 w with
   | 0 => decide (n / 2 ^ 20 = 0)
   | 1 => decide (n = 0x100B)
   | 2 => decide (n / 2 ^ 28 = 0 ∧ n / 2 ^ 7 % 32 = 0 ∧ n / 2 ^ 15 % 32 = 0)
   | 3 => decide (n = 0x300B)
   | 4 => decide (n = 0x400B)
   | _ => false)

/-- Whether a word is a CSR instruction, and the CSR it names. -/
def csrInsn (w : Word) : Bool := decide (opOf w = 0x73 ∧ funct3 w % 4 ≠ 0)
def csrOf (w : Word) : Nat := w.toNat / 2 ^ 20

/-- Whether a CSR instruction writes: CSRRW always, CSRRS and CSRRC when rs1 or the immediate is not 0. -/
def csrWrites (w : Word) : Bool := decide (funct3 w % 4 = 1 ∨ w.toNat / 2 ^ 15 % 32 ≠ 0)

/-- Fences that name translation: SFENCE.VMA, HFENCE.VVMA, HFENCE.GVMA. -/
def tlbFence (w : Word) : Bool :=
  decide (opOf w = 0x73 ∧ funct3 w = 0 ∧ (w.toNat / 2 ^ 25 = 0x09 ∨ w.toNat / 2 ^ 25 = 0x11 ∨ w.toNat / 2 ^ 25 = 0x31))

/-- WFI. -/
def isWfi (w : Word) : Bool := decide (w = 0x10500073#32)

/-- Whether an instruction raises a sealed exception in the sealed world (R554): every CSR access but reads and writes of
fflags, frm and fcsr and reads of time, vector instructions, and every SYSTEM instruction that is no CSR access. -/
def sealedForbids (w : Word) : Bool :=
  if csrInsn w then
    let n := csrOf w
    !(decide (1 ≤ n ∧ n ≤ 3) || (decide (n = 0xC01) && !csrWrites w))
  else vectorInsn w || decide (opOf w = 0x73)

/-- A CSR instruction on a CSR whose value the spec gives: it reads the value and writes what may be written, after the
privilege check of the architecture. A free value is taken for a counter. -/
def State.csrAccess (s : State) (d : Die) (x : Nat) (b : Die) (w : Word) : State :=
  let c := s.core d x b
  let n := csrOf w
  let rd := w.toNat / 2 ^ 7 % 32
  let src := w.toNat / 2 ^ 15 % 32
  let v := if funct3 w < 4 then c.regs.get (.x src) else src
  let old := s.csrValue d x b n
  let writes := csrWrites w
  if c.regs.priv < n / 2 ^ 8 % 4 ∨ (writes = true ∧ n / 2 ^ 10 = 3) then s.trap d x b illegalInsn w.toNat
  else match (if c.sealed then none else c.regs.counterCause n) with
  | some cause => s.trap d x b cause w.toNat
  | none =>
    let new := match funct3 w % 4 with
      | 1 => v
      | 2 => Nat.lor old v
      | _ => old - Nat.land old v
    let r1 := if writes && csrWritable n then c.regs.csrPut n new (Config.freeWord s.free).toNat else c.regs
    { s with free := s.free + 1 }.retire d x b { r1.set (.x rd) old with pc := c.regs.pc + 4#64 }

/-- A translation that failed, as the trap of its access. -/
def State.xlateTrap (s : State) (d : Die) (x : Nat) (b : Die) (k : XKind) (va : Nat) (r : Xlate) : State :=
  match r with
  | .pageFault => s.trap d x b (pageCause k) va
  | .guestFault => s.trap d x b (guestCause k) va
  | _ => s.trap d x b (accessCause k) va

/-- A memory access of an instruction: translated, judged by guards and attributes, then made by its class. A refusal is
counted by its guard (R569), or for a satellite chip select of another owner by its bus (R545). -/
def State.coreAccess (s : State) (d : Die) (x : Nat) (b : Die) (w : Word) (q : RvAccess) : State :=
  let c := s.core d x b
  let k : XKind := match q.kind with | .load => .read | .lr => .read | _ => .write
  let atomic := match q.kind with | .load => false | .store => false | _ => true
  let t := s.xlate d c.tags c k q.addr.toNat
  let s1 := t.2.2.updCore d x b (fun c => { c with tlb := t.2.1 })
  match t.1 with
  | .ok pa =>
    match s1.verdict d c.tags pa q.size k q.vector atomic with
    | .ok 0 => s1.accessJ d x b w q pa
    | .ok cls => s1.accessOut d x b w q pa cls
    | .fault =>
      let pg := if placeOf pa = .partner ∧ k = .read then pa - 0x800000000 else pa
      (if placeOf pa = .bridge ∧ s1.bridgeMapped d pa = true ∧ isPeer pa = false then
          if s1.ownsSat d c.tags.initiator (satSelect pa) then s1 else s1.satCount d (satSelect pa / 4)
        else if s1.memAdmits d pg q.size c.tags k then s1 else s1.memRefuse d pg c.tags k).trap d x b (accessCause k) q.addr.toNat
    | .misaligned => s1.trap d x b (misalignCause k) q.addr.toNat
  | r => s1.xlateTrap d x b k q.addr.toNat r

/-- What an instruction does once it is fetched. -/
def State.coreInsn (s : State) (d : Die) (x : Nat) (b : Die) (w : Word) : State :=
  let c := s.core d x b
  if opOf w = 0x0B ∧ insnLen w = 4 then s.trap d x b illegalInsn w.toNat
  else if c.sealed && sealedForbids w then s.trap d x b illegalInsn w.toNat
  else if csrInsn w && moduleCsr (csrOf w) then s.csrAccess d x b w
  else match Config.rvCause c.regs w with
  | some cause => s.trap d x b cause w.toNat
  | none =>
    if opOf w = 0x0F then (if c.out = [] then s.retire d x b { c.regs with pc := c.regs.pc + 4#64 } else s)
    else if tlbFence w then
      (s.updCore d x b (fun c => { c with tlb := [] })).retire d x b { c.regs with pc := c.regs.pc + 4#64 }
    else if isWfi w then
      let s1 := s.retire d x b { c.regs with pc := c.regs.pc + 4#64 }
      if (s1.core d x b).regs.wakes then s1 else s1.setWfi d x b true
    else match Config.rvAccess c.regs w with
      | some q => s.coreAccess d x b w q
      | none => s.retire d x b (c.retired w [])

/-- APPLICATION_CORE_INSTRUCTION: the word a core has fetched is executed, after the fetch is translated and judged (R587: only
class J regions that grant X). A module instruction, and a write of hgatp, is a command of its own. -/
def execApplicationCoreInstruction (d : Die) (dux : Fin 12) (core : Die) (w : Word) (s : State) : Out :=
  .next (
    let x := dux.val
    if moduleInsn w || (csrInsn w && decide (csrOf w = 0x680) && csrWrites w) then s
    else s.insn d x core (fun s =>
      let c := s.core d x core
      let va := c.regs.pc.toNat
      let t := s.xlate d c.tags c .fetch va
      let s1 := t.2.2.updCore d x core (fun c => { c with tlb := t.2.1 })
      match t.1 with
      | .ok pa =>
        if s1.verdict d c.tags pa (insnLen w) .fetch false false = .ok 0 then s1.coreInsn d x core w
        else
          (if s1.memAdmits d pa (insnLen w) c.tags .fetch then s1 else s1.memRefuse d pa c.tags .fetch).trap d x core 1 va
      | r => s1.xlateTrap d x core .fetch va r))

end Sys2Proof.Machine
end

