-- ==== Sys2Proof/Machine/EventCtl.lean ====
section
/-! DEFINITION. The commands of the event controller (spec/16): its records, firings, claims and ends of interrupt, thresholds,
software sources, timers, and writes passed by the partner. -/

namespace Sys2Proof.Machine

/-! ### Records (R636, R637) -/

/-- Whether a source may have a route: it is neither reserved nor one of the fixed sources. -/
def routable (n : Nat) : Bool := (isEdgeSrc n || isLevelSrc n) && decide (n ≠ guestWait)

/-- Whether a line is permitted for a source (R616). -/
def lineOk (n l : Nat) : Bool :=
  decide (l ≤ 2) || (decide (l = 3 ∨ l = 4) && decide (0x010 ≤ n ∧ n < 0x040)) || (decide (l = 5) && decide (n < 0x010))

/-- ROUTE_BLOCK_RECORD. -/
def execRouteBlockRecord (d : Die) (r : Rec) (s : State) : Out :=
  let b := r.body
  let first := u32 b 0
  let n := u32 b 4
  let e := fun i => 8 + 8 * i
  let entryOk := fun i =>
    let src := first + i
    let mod := decide (u8 b (e i + 3) = 1)
    routable src && decide (u8 b (e i) < 32) && s.defined d (u8 b (e i)) && lineOk src (u8 b (e i + 1)) &&
      decide (u8 b (e i + 2) ≤ 63 ∧ u8 b (e i + 3) ≤ 1 ∧ u8 b (e i + 5) = 0) &&
      (if mod then isEdgeSrc src && decide (1 ≤ u8 b (e i + 4)) else decide (u8 b (e i + 4) = 0 ∧ u16 b (e i + 6) = 0))
  .next ((s.applyRec d r r.seq.toNat false 0x0120
    (goodIf (decide (r.inst = 0 ∧ r.block = 5 ∧ first ≤ 1023 ∧ first + n ≤ 1024 ∧ b.length = 8 + 8 * n) &&
      (List.range n).all entryOk))
    (fun s => (List.range n).foldl (fun st i => st.putEntry d r (first + i) (fun st =>
      (st.wr d (EVC_sROUTE (first + i)) (BitVec.ofNat 32 (u8 b (e i) + 2 ^ 5 * u8 b (e i + 1) + 2 ^ 8 * u8 b (e i + 2) +
        2 ^ 14 * u8 b (e i + 3)))).wr d (EVC_sMOD (first + i)) (BitVec.ofNat 32 (u8 b (e i + 4) + 2 ^ 16 * u16 b (e i + 6))))) s)).worldEnd s d r)

/-- CONTROLLER_RECORD. -/
def execControllerRecord (d : Die) (r : Rec) (s : State) : Out :=
  let b := r.body
  .next ((s.applyRec d r 0 false 0x0121
    (goodIf (decide (r.inst = 0 ∧ r.block = 5 ∧ b.length = 8 ∧ u8 b 0 ≤ 63) && zeroBytes b 1 7))
    (fun s => s.setF d EVC_CFG EVC_CFG__GWPRI (u8 b 0))).worldEnd s d r)

/-- SOFTWARE_SETTERS_RECORD. -/
def execSoftwareSettersRecord (d : Die) (r : Rec) (s : State) : Out :=
  let b := r.body
  .next ((s.applyRec d r 0 false 0x0122
    (goodIf (decide (r.inst = 0 ∧ r.block = 5 ∧ b.length = 64) &&
      (List.range 16).all (fun i => s.maskDefined d (u32 b (4 * i)))))
    (fun s => (List.range 16).foldl (fun st i => st.wr d (EVC_SWMASKi i) (BitVec.ofNat 32 (u32 b (4 * i)))) s)).worldEnd s d r)

/-! ### Firings -/

/-- SOURCE_FIRE (R614): an edge source fires. The condition of a level source is that of its block (R613), which nothing is
added to here. -/
def execSourceFire (d : Die) (src : Fin 1024) (s : State) : Out :=
  .next (if s.alive d && isEdgeSrc src.val && decide (src.val ≠ guestWait) then s.fire d src.val else s)

/-- MODERATION_TIMEOUT (R623): the time limit of a pending moderated source has passed since its first firing. -/
def execModerationTimeout (d : Die) (src : Fin 1024) (s : State) : Out :=
  .next (
    let n := src.val
    if s.alive d && (s.src d n).pending && s.bit d (EVC_sROUTE n) EVC_sROUTE__MOD && s.bit d (EVC_sMOD n) EVC_sMOD__TIME &&
        decide ((s.src d n).firstAt + 1000 * s.fld d (EVC_sMOD n) EVC_sMOD__TIME ≤ s.ns d) then
      s.updSrc d n (fun e => { e with ripe := true })
    else s)

/-! ### Claims and ends of interrupt (R619, R620, R622) -/

/-- A claim of a duplex that runs: from its input log while it re-executes, else live and logged as a joined read (R502). -/
def State.claimRow (s : State) (d : Die) (x lvl off : Nat) : State :=
  if !s.duxUp d x || (s.runningOn d x).isNone then s.reply .error
  else
    let a := 0x50000000 + off
    match s.replayHead d x with
    | some _ =>
      let taken := s.replayTake d x [(a, 4)]
      let w := leBytes taken.1 0 4
      (taken.2.claimLogged d x lvl w).reply (.value w)
    | none =>
      let r := s.claim d x lvl
      (r.2.logOn d x 0x01 (s.core d x 0).count (toLE 8 a ++ toLE 4 r.1)).reply (.value r.1)

/-- CLAIM_M. -/
def execClaimM (d : Die) (dux : Fin 12) (s : State) : Out := .next (s.claimRow d dux.val 0 EVC_CLAIMM)

/-- CLAIM_S. -/
def execClaimS (d : Die) (dux : Fin 12) (s : State) : Out := .next (s.claimRow d dux.val 1 EVC_CLAIMS)

/-- CLAIM_V. -/
def execClaimV (d : Die) (dux : Fin 12) (s : State) : Out := .next (s.claimRow d dux.val 2 EVC_CLAIMV)

/-- An end of interrupt by a duplex that runs. -/
def State.eoiRow (s : State) (d : Die) (x lvl n : Nat) : State :=
  if !s.duxUp d x || (s.runningOn d x).isNone then s else s.eoi d x lvl n

/-- EOI_M. -/
def execEoiM (d : Die) (dux : Fin 12) (src : Fin 1024) (s : State) : Out := .next (s.eoiRow d dux.val 0 src.val)

/-- EOI_S. -/
def execEoiS (d : Die) (dux : Fin 12) (src : Fin 1024) (s : State) : Out := .next (s.eoiRow d dux.val 1 src.val)

/-- EOI_V. -/
def execEoiV (d : Die) (dux : Fin 12) (src : Fin 1024) (s : State) : Out := .next (s.eoiRow d dux.val 2 src.val)

/-! ### Thresholds, software sources, timers (R622, R625 to R627) -/

/-- THRESHOLD_WRITE. -/
def execThresholdWrite (d : Die) (dux : Fin 12) (level : Fin 3) (thr : BitVec 6) (s : State) : Out :=
  .next (
    if !s.duxUp d dux.val || (s.runningOn d dux.val).isNone then s
    else s.selfWrite d dux.val (match level with | 0 => EVC_THRM | 1 => EVC_THRS | 2 => EVC_THRV) thr.toNat)

/-- The sources of a mask that an initiator may set (R625). -/
def State.settable (s : State) (d : Die) (who : Initiator) (m : Nat) : Nat :=
  maskOf ((List.range 16).filter (fun i => bitOf m i && (who.isManager ||
    (match who with
     | .part p => bitOf (s.rd d (EVC_SWMASKi i)).toNat p.val
     | _ => false))))

/-- SOFTWARE_SET. -/
def execSoftwareSet (d : Die) (who : Initiator) (set : BitVec 16) (s : State) : Out :=
  .next (
    let m := s.settable d who set.toNat
    if !s.alive d || decide (m = 0) then s else (s.fireMask d m).passEvc d 0 0 m)

/-- Whether an initiator may write a timer's compare (R626). -/
def Initiator.mayTimer (who : Initiator) (t : Nat) : Bool := if t < 32 then who.isOwner t else who.isManager

/-- TIMER_COMPARE_WRITE: the low word is held until the high word, and the two then apply together. -/
def execTimerCompareWrite (d : Die) (who : Initiator) (t : Fin 48) (high : Bool) (v : Word) (s : State) : Out :=
  .next (
    let k := t.val
    if !s.alive d || !(Initiator.mayTimer who k) then s
    else if high then
      let low := (tget none (s.vol.get d).evc.heldLow k).getD (s.rd d (EVC_TtCMPL k))
      let s1 := s.updVol d (fun u => { u with evc := { u.evc with heldLow := tset none u.evc.heldLow k none } })
      ((s1.wr d (EVC_TtCMPL k) low).wr d (EVC_TtCMPH k) v).passEvc d 1 k (low.toNat + 2 ^ 32 * v.toNat)
    else s.updVol d (fun u => { u with evc := { u.evc with heldLow := tset none u.evc.heldLow k (some v) } }))

/-- TIMER_EXPIRY: a timer source is pending while group time is at or above its compare (R626), so nothing is stored; the
answer says whether it is. -/
def execTimerExpiry (d : Die) (t : Fin 48) (s : State) : Out :=
  .next (s.reply (.value (b2n (s.srcPending d (0x010 + t.val)))))

/-- PARTNER_EVC_WRITE (R627): the oldest write of the partner that its flit brought is applied. -/
def execPartnerEvcWrite (d : Die) (s : State) : Out :=
  .next (
    match (s.vol.get d).evcIn with
    | [] => s
    | (kind, idx, v) :: l =>
      let s1 := s.updVol d (fun u => { u with evcIn := l })
      if kind = 0 then s1.fireMask d v
      else if kind = 1 then s1.wr64 d (EVC_TtCMPL idx) (EVC_TtCMPH idx) v
      else s1.setThr d idx idx (kind - 2) v)

end Sys2Proof.Machine
end

