-- ==== Sys2Proof/Machine/FieldBus.lean ====
section
/-! DEFINITION. The field-bus commands (spec/09): records, CAN and LIN controllers, transmit selectors, satellite buses and
sense inputs. -/

namespace Sys2Proof.Machine

/-! ### Records (R389, R390) -/

/-- Word `i` of a list of words in a body, from byte offset `o`. -/
def bodyWord (r : Rec) (o i : Nat) : Word := BitVec.ofNat 32 (u32 r.body (o + 4 * i))

/-- The nominal bit timing rule (R367, R368): 125 kb/s to 1 Mb/s, SJW within TSEG1 and TSEG2. -/
def nbtOk (w : Word) : Bool :=
  let t1 := FBB_CcNBT__TSEG1.get w + 1
  let t2 := FBB_CcNBT__TSEG2.get w + 1
  let sjw := FBB_CcNBT__SJW.get w + 1
  let q := (FBB_CcNBT__BRP.get w + 1) * (1 + t1 + t2)
  decide (w.toNat < 2 ^ 27 ∧ 160 ≤ q ∧ q ≤ 1280 ∧ sjw ≤ t1 ∧ sjw ≤ t2)

/-- A data-phase timing rule: at most `mbps` Mb/s, SJW within TSEG1 and TSEG2. -/
def dbtOk (w : Word) (mbps : Nat) : Bool :=
  let t1 := FBB_CcDBT__TSEG1.get w + 1
  let t2 := FBB_CcDBT__TSEG2.get w + 1
  let sjw := FBB_CcDBT__SJW.get w + 1
  let q := (FBB_CcDBT__BRP.get w + 1) * (1 + t1 + t2)
  decide (w.toNat / 2 ^ 28 % 8 = 0 ∧ 160 ≤ q * mbps ∧ sjw ≤ t1 ∧ sjw ≤ t2)

/-- The state word of the connected controller of a running die, forwarded to another die's controller (R366): the field die does so at
every bus idle, here when that controller goes on bus and when the selector leaves it (log entry 117). -/
def State.canForward (s : State) (c : Nat) (d : Die) : State :=
  let e := (s.fbSel c).die
  if e = d ∨ !s.alive e ∨ s.fld e (FBB_CcSTAT c) FBB_CcSTAT__STATE = 0 ∨ s.fld d (FBB_CcSTAT c) FBB_CcSTAT__STATE = 0 then s
  else
    let put := fun (st : State) (f : Fld) => st.setF d (FBB_CcSTAT c) f (s.fld e (FBB_CcSTAT c) f)
    put (put (put s FBB_CcSTAT__STATE) FBB_CcSTAT__TEC) FBB_CcSTAT__REC

/-- CAN_CONTROLLER_RECORD (R368, R372, R389, R547). The controller goes on bus, its selector to its owner's die. -/
def execCanControllerRecord (d : Die) (r : Rec) (s : State) : Out :=
  let c := r.inst
  let w := bodyWord r 0
  let cfg := w 3
  let mode := FBB_CcCFG__MODE.get cfg
  let wakes := (List.range 16).filter (fun k => decide (k ≠ c) && s.bit d (FBB_CcCFG k) FBB_CcCFG__DWAKE)
  let ok := decide (c < 16 ∧ r.body.length = 24 ∧ cfg.toNat < 2 ^ 24 ∧ (w 4).toNat < 2 ^ 16) && !r.late && nbtOk (w 0) &&
    (if 2 ≤ mode then dbtOk (w 1) 8 else decide (w 1 = 0#32)) && (if mode = 3 then dbtOk (w 2) 20 else decide (w 2 = 0#32)) &&
    s.defined d (FBB_CcCFG__PART.get cfg) && (decide (FBB_CcCFG__PART.get cfg ≠ 0) || !(bitOf cfg.toNat 2 || bitOf cfg.toNat 12)) &&
    !(bitOf cfg.toNat 23 && decide (4 ≤ wakes.length))
  .next (s.applyRec d r 0 false 0x0501 (goodIf ok) (fun s =>
    let s1 := (((((s.wr d (FBB_CcNBT c) (w 0)).wr d (FBB_CcDBT c) (w 1)).wr d (FBB_CcXBT c) (w 2)).wr d (FBB_CcCFG c)
      cfg).wr d (FBB_CcXDEF c) (w 4)).wr d (FBB_CcXAF c) (w 5)
    let s2 := if mode = 0 then s1.setF d (FBB_CcSTAT c) FBB_CcSTAT__STATE 0
      else (s1.setF d (FBB_CcSTAT c) FBB_CcSTAT__STATE 1).canForward c d
    let s3 := s2.updFbSel c (fun x => { x with die := if x.count.isNone then s2.fbOwnerDie d c else x.die })
    { s3 with field := { s3.field with
      dwake := s3.field.dwake.filter (fun k => decide (k ≠ c)) ++ (if bitOf cfg.toNat 23 then [c] else []) } }))

/-- CAN_FILTERS_RECORD (R389, R390). -/
def execCanFiltersRecord (d : Die) (r : Rec) (s : State) : Out :=
  let first := u32 r.body 0
  let n := u32 r.body 4
  .next (s.applyRec d r r.seq.toNat false 0x0502
    (goodIf (decide (r.inst < 16 ∧ r.body.length = 8 + 8 * n ∧ first < 64 ∧ first + n ≤ 64) &&
      (List.range n).all (fun i => decide (bitOf (bodyWord r 12 (2 * i)).toNat 29 = false))))
    (fun s => (List.range n).foldl (fun st i =>
      st.putEntry d r (64 * r.inst + first + i) (fun st =>
        (st.wr d (FBB_CcFAf r.inst (first + i)) (bodyWord r 8 (2 * i))).wr d (FBB_CcFBf r.inst (first + i)) (bodyWord r 12 (2 * i)))) s))

/-- LIN_CONTROLLER_RECORD (R389, R547). -/
def execLinControllerRecord (d : Die) (r : Rec) (s : State) : Out :=
  let cfg := bodyWord r 0 0
  let baud := FBB_LlCFG__BAUD.get cfg
  .next (s.applyRec d r 0 false 0x0503
    (goodIf (decide (16 ≤ r.inst ∧ r.inst < 28 ∧ r.body.length = 8 ∧ 1000 ≤ baud ∧ baud ≤ 20000 ∧
        FBB_LlCFG__BREAK.get cfg ≤ 13) && !r.late && zeroBytes r.body 4 4 && s.defined d (FBB_LlCFG__PART.get cfg) &&
      (decide (FBB_LlCFG__PART.get cfg ≠ 0) || !(bitOf cfg.toNat 16 || bitOf cfg.toNat 26))))
    (fun s =>
      let s1 := (s.wr d (FBB_CcCFG r.inst) cfg).setF d (FBB_CcSTAT r.inst) FBB_LlSTAT__STATE 2
      s1.updFbSel r.inst (fun x => { x with die := if x.count.isNone then s1.fbOwnerDie d r.inst else x.die })))

/-- The body of a LIN table record: First, Count, then words padded to 8 bytes. -/
def linTableOk (r : Rec) (word : Word → Bool) : Bool :=
  let n := u32 r.body 4
  decide (16 ≤ r.inst ∧ r.inst < 28 ∧ r.body.length = 8 + (4 * n + 7) / 8 * 8 ∧ u32 r.body 0 + n ≤ 64) && !r.late &&
    zeroBytes r.body (8 + 4 * n) ((8 - 4 * n % 8) % 8) && (List.range n).all (fun i => word (bodyWord r 8 i))

/-- LIN_FRAME_TABLE_RECORD (R374, R389). The diagnostic identifiers 0x3C and 0x3D are classic whatever the entry says (R373). -/
def execLinFrameTableRecord (d : Die) (r : Rec) (s : State) : Out :=
  .next (s.applyRec d r r.seq.toNat false 0x0504
    (goodIf (linTableOk r (fun w => decide (w.toNat < 2 ^ 7 ∧ FBB_LlFRMi__DIR.get w ≠ 3 ∧ 1 ≤ FBB_LlFRMi__LEN.get w ∧
      FBB_LlFRMi__LEN.get w ≤ 8))))
    (fun s => (List.range (u32 r.body 4)).foldl (fun st i =>
      let k := u32 r.body 0 + i
      st.wr d (FBB_LlFRMi (r.inst - 16) k) (if k = 0x3C ∨ k = 0x3D then FBB_LlFRMi__CHK.set (bodyWord r 8 i) 0 else bodyWord r 8 i)) s))

/-- LIN_SCHEDULE_RECORD: slots, and the whole range the schedule runs without a command (R375, R389). -/
def execLinScheduleRecord (d : Die) (r : Rec) (s : State) : Out :=
  let first := u32 r.body 0
  let n := u32 r.body 4
  .next (s.applyRec d r r.seq.toNat false 0x0505
    (goodIf (linTableOk r (fun w => decide (w.toNat < 2 ^ 16 ∧ w.toNat / 64 % 4 = 0 ∧ 1 ≤ FBB_LlSCHs__TIME.get w)) &&
      s.bit d (FBB_CcCFG r.inst) FBB_LlCFG__MASTER))
    (fun s =>
      let s1 := (List.range n).foldl (fun st i => st.wr d (FBB_LlSCHs (r.inst - 16) (first + i)) (bodyWord r 8 i)) s
      s1.updFb d r.inst (fun x =>
        let lo := if x.count = 0 then first else min x.first first
        let hi := if x.count = 0 then first + n else max (x.first + x.count) (first + n)
        { x with first := lo, count := hi - lo })))

/-- The rules of a sense entry (R384, R390). -/
def senseOk (cfg thr : Word) : Bool :=
  decide (cfg.toNat < 2 ^ 17 ∧ FBB_SNSCFGn__WET.get cfg ≠ 3 ∧ FBB_SNSCFGn__RATE.get cfg ≤ 4) &&
  !(bitOf cfg.toNat 4 && decide (1 < FBB_SNSCFGn__RATE.get cfg)) &&
  (decide (FBB_SNSCFGn__MODE.get cfg = 0) || decide (FBB_SNSTHRn__LO.get thr < FBB_SNSTHRn__HI.get thr))

/-- SENSE_INPUTS_RECORD (R390). -/
def execSenseInputsRecord (d : Die) (r : Rec) (s : State) : Out :=
  let first := u32 r.body 0
  let n := u32 r.body 4
  .next (s.applyRec d r r.seq.toNat false 0x0506
    (goodIf (decide (r.inst = 0 ∧ r.body.length = 8 + 8 * n ∧ first + n ≤ 96) && !r.late &&
      (List.range n).all (fun i => senseOk (bodyWord r 8 (2 * i)) (bodyWord r 12 (2 * i)))))
    (fun s => (List.range n).foldl (fun st i =>
      (st.wr d (FBB_SNSCFGn (first + i)) (bodyWord r 8 (2 * i))).wr d (FBB_SNSTHRn (first + i)) (bodyWord r 12 (2 * i))) s))

/-- SATELLITE_BUS_RECORD (R378, R389). -/
def execSatelliteBusRecord (d : Die) (r : Rec) (s : State) : Out :=
  let cfg := bodyWord r 0 0
  let n := FBB_SATbCFG__N.get cfg
  .next (s.applyRec d r 0 false 0x0507
    (goodIf (decide (r.inst < 4 ∧ r.body.length = 24 ∧ cfg.toNat < 2 ^ 10 ∧ cfg.toNat / 128 % 2 = 0 ∧ 2 ≤ n ∧ n ≤ 64) &&
      bitOf cfg.toNat 9 && !r.late && zeroBytes r.body 20 4 &&
      (List.range 4).all (fun c => decide ((bodyWord r 4 c).toNat < 2 ^ 27 ∧ FBB_SATbPRc__WSIZE.get (bodyWord r 4 c) ≠ 3))))
    (fun s => (List.range 4).foldl (fun st c => st.wr d (FBB_SATbPRc r.inst c) (bodyWord r 4 c))
      (s.wr d (FBB_SATbCFG r.inst) cfg)))

/-! ### CAN frames -/

/-- The CAN frame of a receive trailer's words. -/
def trailerFrame (idw ctl af : Nat) (data : List Byte) : CanFrame :=
  { ident := idw % 2 ^ 29, ide := bitOf idw 29, fdf := bitOf idw 30, xlf := bitOf idw 31, brs := bitOf ctl 11,
    sdt := ctl / 2 ^ 16 % 256, vcid := ctl / 2 ^ 24, af := af, data := data }

/-- CAN_FRAME_RECEIVE (R318, R363, R367, R369): an OWN frame is matched by the shadow controller; a frame in error is
counted; a remote frame or one that no filter takes is rejected; any other is delivered. A frame of a format that the controller's
mode does not take changes nothing (log entry 117); one without the form of its format is in error. `ctl` gives BRS, ESI, SDT and
VCID as the trailer's second word does. -/
def State.canReceive (s : State) (d : Die) (c : Nat) (own good remote : Bool) (idw ctl af : Nat) (data : List Byte)
    (stamp : Nat) : State :=
  let sel := decide ((s.fbSel c).die = d)
  let f := trailerFrame idw ctl af data
  let ctl1 := data.length % 2 ^ 11 + ctl / 2 ^ 11 % 4 * 2 ^ 11 + (if f.xlf then ctl / 2 ^ 16 * 2 ^ 16 else 0)
  if !s.alive d || !s.canOn d c || !f.inMode (s.fld d (FBB_CcCFG c) FBB_CcCFG__MODE) then s
  else if own then (if sel then s else s.canOwn d c f)
  else if !good || !f.wellFormed then
    let s1 := s.addSat d (FBB_CcERR c) ⟨0, 32⟩ 1
    if sel then s1.canResult c false false else s1
  else
    let s1 := if sel then s.canResult c false true else s
    let act := if remote then 0 else (s1.filterAct d c f.ident f.ide f.xlf).getD 0
    if Nat.land act (s1.fbDeliv d c) = 0 then s1.addSat d (FBB_CcREJ c) ⟨0, 32⟩ 1
    else (s1.addSat d (FBB_CcRX c) ⟨0, 32⟩ 1).fieldDeliver d c c stamp act (fieldPayload idw ctl1 data) false

def execCanFrameReceive (d : Die) (c : Fin 16) (own good remote : Bool) (idw ctl af : BitVec 32) (data : List Byte)
    (stamp : BitVec 64) (s : State) : Out :=
  .next (s.canReceive d c own good remote idw.toNat ctl.toNat af.toNat data stamp.toNat)

/-- SHADOW_FRAME_TIMEOUT: the oldest frame a shadow controller holds in a queue is dropped (R363). -/
def execShadowFrameTimeout (d : Die) (c : Fin 16) (part : Bool) (s : State) : Out :=
  .next (if (s.fbSel c).die = d then s
    else match (if part then (s.fb d c).partQ else (s.fb d c).nibQ) with
      | [] => s
      | x :: _ =>
        let s1 := s.updFb d c (fun y => if part then { y with partQ := y.partQ.drop 1 } else { y with nibQ := y.nibQ.drop 1 })
        (s1.fbDrop d c).fbCredit d x.credit)

/-- CAN_FRAME_SENT (R364, R370): the connected controller's frame of lowest identifier is sent and leaves its queue with
its credit, or ends in error and stays. -/
def execCanFrameSent (c : Fin 16) (good : Bool) (s : State) : Out :=
  let d := (s.fbSel c).die
  .next (if !s.alive d || !s.canOn d c then s
    else match bestItem ((s.fb d c).nibQ ++ (s.fb d c).partQ) with
      | none => s
      | some x =>
        if !good then (s.addSat d (FBB_CcERR c) ⟨0, 32⟩ 1).canResult c true false
        else
          let s1 := s.updFb d c (fun y => y.unqueue x)
          ((s1.addSat d (FBB_CcTX c) ⟨0, 32⟩ 1).fbCredit d x.credit).canResult c true true)

/-! ### Transmit selectors (R364, R365) -/

/-- FIELD_BUS_STEER_REQUEST (R365). -/
def execFieldBusSteerRequest (i : Fin 28) (sender names : Die) (count : BitVec 16) (s : State) : Out :=
  .next (s.fieldRequest i.val sender names count.toNat)

/-- The selector of an instance moved: the new controller starts from the last state word it received, which both dies
hold. -/
def State.fbSwitch (s : State) (i : Nat) (d : Die) : State := s.updFbSel i (fun x => { x with die := d, pend := none })

/-- SELECTOR_CHANGE: at bus idle the state word is forwarded and the waiting change is made (R364, R366). -/
def execSelectorChange (i : Fin 28) (s : State) : Out :=
  .next (match (s.fbSel i).pend with
    | some d => (if i.val < 16 then s.canForward i d else s).fbSwitch i d
    | none => s)

/-- CONTROLLER_SILENT: the connected controller stops answering, since its die does not run or its island 15 has stopped, and the other
one is connected at once (R364, R366); its state word is the last forwarded. -/
def execControllerSilent (i : Fin 28) (s : State) : Out :=
  let d := (s.fbSel i).die
  .next (if s.alive d && s.clocked d 15 then s else s.fbSwitch i d.other)

/-! ### CAN bus state (R371, R372, R388) -/

/-- BUS_OFF: state, counter and event on both dies; queues stay and no credit returns (R371). -/
def execBusOff (c : Fin 16) (s : State) : Out :=
  let d := (s.fbSel c).die
  .next (if s.canOn d c then
      ((s.setCan c 4 255 (s.fld d (FBB_CcSTAT c) FBB_CcSTAT__REC)).addSat d (FBB_CcERR c) ⟨0, 32⟩ 1).setAlive (FBB_CcEVT c)
        FBB_CcEVT__BUSOFF 1
    else s)

/-- A controller rejoins the bus with its error counters cleared (ISO 11898-1). -/
def State.canRejoin (s : State) (c : Nat) : State := s.setCan c 2 0 0

/-- BUS_OFF_RECOVERY (R371): the recovery sequence ends; with AUTOREC = 1 the controller holds off RECOV × 10 ms (none
where RECOV = 0) and rejoins when the command comes again, with AUTOREC = 0 it waits for RESTART. -/
def execBusOffRecovery (c : Fin 16) (s : State) : Out :=
  let d := (s.fbSel c).die
  let st := s.fld d (FBB_CcSTAT c) FBB_CcSTAT__STATE
  let auto := s.bit d (FBB_CcCFG c) FBB_CcCFG__AUTOREC
  .next (if st = 4 then
      (if auto ∧ s.fld d (FBB_CcCFG c) FBB_CcCFG__RECOV = 0 then s.canRejoin c
       else s.setAlive (FBB_CcSTAT c) FBB_CcSTAT__STATE 5)
    else if st = 5 ∧ auto then s.canRejoin c else s)

/-- CAN_WAKE_PATTERN: a transceiver in standby raises the wake event where WAKEEN = 1; in DROWSE and DORMANT a receiver that a
controller record assigned latches its wake source (R372, R642). -/
def execCanWakePattern (c : Fin 16) (s : State) : Out :=
  let d := s.anyDie
  .next (
    let s1 := if s.fld d (FBB_CcSTAT c) FBB_CcSTAT__STATE = 6 ∧ s.bit d (FBB_CcCFG c) FBB_CcCFG__WAKEEN then
        s.setAlive (FBB_CcEVT c) FBB_CcEVT__WAKE 1 else s
    match s.field.dwake.findIdx? (fun k => decide (k = c.val)) with
    | some r => if s.fld 0 CIS_STAT CIS_STAT__STATE = 3 then s1 else s1.latchWake (2 ^ (2 + r))
    | none => s1)

/-- A command write to a controller: accepted from its owner with CONFIRM = 0x5A, acting on both dies (R388). -/
def State.fbCommand (s : State) (d : Die) (who : Initiator) (i : Nat) (confirm : BitVec 8) (act : State → State) : State :=
  if s.alive d && s.mayField d who i && decide (confirm = 0x5A#8) then act s else s

/-- CAN_RESTART: a controller whose recovery sequence has ended rejoins (R371). -/
def execCanRestart (d : Die) (who : Initiator) (c : Fin 16) (confirm : BitVec 8) (s : State) : Out :=
  .next (s.fbCommand d who c confirm (fun s =>
    if s.fld d (FBB_CcSTAT c) FBB_CcSTAT__STATE = 5 then s.canRejoin c else s))

/-- CAN_STANDBY (R388): an off controller stays off. -/
def execCanStandby (d : Die) (who : Initiator) (c : Fin 16) (confirm : BitVec 8) (s : State) : Out :=
  .next (s.fbCommand d who c confirm (fun s =>
    if s.fld d (FBB_CcSTAT c) FBB_CcSTAT__STATE = 0 then s else s.setAlive (FBB_CcSTAT c) FBB_CcSTAT__STATE 6))

/-- CAN_NORMAL: a controller in standby integrates on the bus (R388). -/
def execCanNormal (d : Die) (who : Initiator) (c : Fin 16) (confirm : BitVec 8) (s : State) : Out :=
  .next (s.fbCommand d who c confirm (fun s =>
    if s.fld d (FBB_CcSTAT c) FBB_CcSTAT__STATE = 6 then s.setAlive (FBB_CcSTAT c) FBB_CcSTAT__STATE 1 else s))

/-! ### LIN (R374 to R377) -/

/-- An effect on the controllers of both running dies. -/
def State.onBoth (s : State) (f : State → Die → State) : State :=
  let s0 := if s.alive 0 then f s 0 else s
  if s0.alive 1 then f s0 1 else s0

/-- LIN_RUN_RANGE: the range waits for the next slot boundary; where no slot runs, the first slot begins at the first
whole millisecond at least 100 µs later (R375). A range outside 1 to 64 slots of the table is ignored. -/
def execLinRunRange (d : Die) (who : Initiator) (l : Fin 12) (first : BitVec 6) (count : BitVec 7) (confirm : BitVec 8)
    (s : State) : Out :=
  let i := 16 + l.val
  let at0 := (s.ns d + 100000 + 999999) / 1000000 * 1000000
  .next (s.fbCommand d who i confirm (fun s =>
    if s.bit d (FBB_CcCFG i) FBB_LlCFG__MASTER ∧ 1 ≤ count.toNat ∧ first.toNat + count.toNat ≤ 64 then
      s.onBoth (fun st e => st.updFb e i (fun x => { x with
        range := some (first.toNat, count.toNat), nextAt := if x.nextAt.isSome then x.nextAt else some at0 }))
    else s))

/-- LIN_GO_TO_SLEEP: a master sends the go-to-sleep command and the bus sleeps (R377). -/
def execLinGoToSleep (d : Die) (who : Initiator) (l : Fin 12) (confirm : BitVec 8) (s : State) : Out :=
  let i := 16 + l.val
  .next (s.fbCommand d who i confirm (fun s =>
    if s.bit d (FBB_CcCFG i) FBB_LlCFG__MASTER ∧ s.fld d (FBB_CcSTAT i) FBB_LlSTAT__STATE = 2 then
      (s.setAlive (FBB_CcSTAT i) FBB_LlSTAT__STATE 1).onBoth (fun st e => st.addSat e (FBB_CcTX i) ⟨0, 32⟩ 1)
    else s))

/-- LIN_SEND_WAKEUP: the wake-up signal makes the bus active (R377). -/
def execLinSendWakeup (d : Die) (who : Initiator) (l : Fin 12) (confirm : BitVec 8) (s : State) : Out :=
  let i := 16 + l.val
  .next (s.fbCommand d who i confirm (fun s =>
    if s.fld d (FBB_CcSTAT i) FBB_LlSTAT__STATE = 0 then s else s.setAlive (FBB_CcSTAT i) FBB_LlSTAT__STATE 2))

/-- A slot begins on one die's controller: a waiting range takes over, else the next slot of the range follows. -/
def State.linSlot (s : State) (d : Die) (i : Nat) : State :=
  let x := s.fb d i
  let go := fun (slot first count : Nat) =>
    let t := s.fld d (FBB_LlSCHs (i - 16) slot) FBB_LlSCHs__TIME
    let start := x.nextAt.getD ((s.ns d + 999999) / 1000000 * 1000000)
    (s.updFb d i (fun x => { x with slot := some slot, first := first, count := count, range := none,
                                    nextAt := some (start + t * 1000000) })).setF d (FBB_CcSTAT i) FBB_LlSTAT__SLOT slot
  match x.range with
  | some (f, n) => go f f n
  | none =>
    if x.count = 0 then s
    else go (match x.slot with
      | some k => if k + 1 < x.first + x.count then k + 1 else x.first
      | none => x.first) x.first x.count

/-- The response of the running slot's identifier, which is sent whole whatever is written meanwhile (R374). -/
def State.linBegin (s : State) (d : Die) (i : Nat) : State :=
  s.updFb d i (fun x => { x with sending := x.slot.bind (fun k =>
    let ident := s.fld d (FBB_LlSCHs (i - 16) k) FBB_LlSCHs__ID
    (tget none x.resp ident).map (fun l => (ident, l))) })

/-- LIN_SLOT_START: both dies' controllers run the schedule in step (R375). -/
def execLinSlotStart (l : Fin 12) (s : State) : Out :=
  let i := 16 + l.val
  .next (s.onBoth (fun st e =>
    if st.bit e (FBB_CcCFG i) FBB_LlCFG__MASTER ∧ st.fld e (FBB_CcSTAT i) FBB_LlSTAT__STATE = 2 then (st.linSlot e i).linBegin e i else st))

/-- The identifier of the header a master would have sent in its running slot. -/
def State.linHeader (s : State) (d : Die) (i : Nat) : Option Nat :=
  if s.bit d (FBB_CcCFG i) FBB_LlCFG__MASTER then
    ((s.fb d i).slot).map (fun k => s.fld d (FBB_LlSCHs (i - 16) k) FBB_LlSCHs__ID) else none

/-- The protected identifier: the identifier with its two parity bits (ISO 17987). -/
def linPid (ident : Nat) : Nat :=
  let b := fun (k : Nat) => bitOf ident k
  ident + 64 * b2n (b 0 != (b 1 != (b 2 != b 4))) + 128 * b2n (!(b 1 != (b 3 != (b 4 != b 5))))

/-- The checksum of a response (R373; ISO 17987): the inverted sum with carry of its bytes, of the protected identifier too where it is
enhanced. -/
def linSum (enhanced : Bool) (ident : Nat) (l : List Byte) : Byte :=
  BitVec.ofNat 8 (255 - l.foldl (fun a b => let t := a + b.toNat; if 255 < t then t - 255 else t) (if enhanced then linPid ident else 0))

/-- The checksum by the frame table. -/
def State.linCheck (s : State) (d : Die) (i ident : Nat) (l : List Byte) : Byte :=
  linSum (s.bit d (FBB_LlFRMi (i - 16) ident) FBB_LlFRMi__CHK) ident l

/-- The bytes of the response a controller would have sent for an identifier, its checksum last. -/
def State.linResponse (s : State) (d : Die) (i ident : Nat) : Option (List Byte) :=
  let x := s.fb d i
  let l := match x.sending with
    | some (k, l) => if k = ident then some l else tget none x.resp ident
    | none => tget none x.resp ident
  if s.fld d (FBB_LlFRMi (i - 16) ident) FBB_LlFRMi__DIR = 1 then
    l.map (fun l =>
      let m := l.take (s.fld d (FBB_LlFRMi (i - 16) ident) FBB_LlFRMi__LEN)
      m ++ [s.linCheck d i ident m])
  else none

/-- Whether the bytes of a response are whole: as many as the length, and then the right checksum. -/
def linWhole (enhanced : Bool) (ident len : Nat) (bytes : List Byte) : Bool :=
  decide (bytes.length = len + 1 ∧ bytes.getLast? = some (linSum enhanced ident (bytes.take len)))

/-- LIN_FRAME_RECEIVE (R363, R376): the shadow controller compares what the module's line sent; a frame of a subscribed or
published identifier is delivered; a frame in error is counted, and delivered with ERR where ERRDELIV = 1. `data` are the response bytes
on the bus, the checksum last; `good` says that none had a framing error. A go-to-sleep command puts a slave to sleep (R377). -/
def State.linReceive (s : State) (d : Die) (i : Nat) (ownHeader ownResponse good : Bool) (ident : Nat) (data : List Byte)
    (stamp : Nat) : State :=
  if !s.alive d || decide (s.fld d (FBB_CcSTAT i) FBB_LlSTAT__STATE ≠ 2) then s
  else
    let shadow := decide ((s.fbSel i).die ≠ d)
    let bad := shadow && ((ownHeader && decide (s.linHeader d i ≠ some ident)) ||
      (ownResponse && decide (s.linResponse d i ident ≠ some data)))
    let s1 := if bad then s.fbMismatch d i else s
    let s2 := if ownResponse then s1.addSat d (FBB_CcTX i) ⟨0, 32⟩ 1 else s1
    let dir := s2.fld d (FBB_LlFRMi (i - 16) ident) FBB_LlFRMi__DIR
    let len := s2.fld d (FBB_LlFRMi (i - 16) ident) FBB_LlFRMi__LEN
    let body := data.take len
    let s3 :=
      if dir = 0 then s2
      else if good && linWhole (s2.bit d (FBB_LlFRMi (i - 16) ident) FBB_LlFRMi__CHK) ident len data then
        (s2.addSat d (FBB_CcRX i) ⟨0, 32⟩ 1).fieldDeliver d i i stamp 3 (fieldPayload ident body.length body) false
      else
        let s3 := s2.addSat d (FBB_CcERR i) ⟨0, 32⟩ 1
        if s3.bit d (FBB_CcCFG i) FBB_LlCFG__ERRDELIV then
          s3.fieldDeliver d i i stamp 3 (fieldPayload ident body.length body) true else s3
    let s4 := s3.updFb d i (fun x => { x with sending := none })
    if good ∧ ident = 0x3C ∧ linWhole false ident 8 data = true ∧ u8 data 0 = 0 ∧ s4.bit d (FBB_CcCFG i) FBB_LlCFG__MASTER = false then
      s4.setF d (FBB_CcSTAT i) FBB_LlSTAT__STATE 1
    else s4

def execLinFrameReceive (d : Die) (l : Fin 12) (ownHeader ownResponse good : Bool) (ident : BitVec 6) (data : List Byte)
    (stamp : BitVec 64) (s : State) : Out :=
  .next (s.linReceive d (16 + l.val) ownHeader ownResponse good ident.toNat (data.take 9) stamp.toNat)

/-- LIN_WAKE: a sleeping bus shows a dominant level: it is awake and the wake event is raised (R377; log entry 42). -/
def execLinWake (l : Fin 12) (s : State) : Out :=
  let i := 16 + l.val
  .next (if s.fld s.anyDie (FBB_CcSTAT i) FBB_LlSTAT__STATE = 1 then
      (s.setAlive (FBB_CcEVT i) FBB_LlEVT__WAKE 1).setAlive (FBB_CcSTAT i) FBB_LlSTAT__STATE 2 else s)

/-! ### Satellite buses (R378 to R383) -/

/-- A satellite bus, and a change of it. -/
def State.sat (s : State) (b : Nat) : SatBus := tget {} s.field.buses b
def State.updSat (s : State) (b : Nat) (f : SatBus → SatBus) : State :=
  { s with field := { s.field with buses := tupd {} s.field.buses b f } }

/-- An error response: with all ones in every byte that the access reads (R382, R383). -/
def satError (read : Bool) (n : Nat) : Answer := if read then .errorBytes (List.replicate n 0xFF#8) else .error

/-- Whether an access reads: a read, or one of an exclusive or atomic sequence, whose result is read. -/
def SatAcc.reads (a : SatAcc) : Bool := !a.write || decide (a.lock ≠ .none)

/-- A failed access: counted, with the bus's event. -/
def State.satFail (s : State) (d : Die) (b : Nat) (read : Bool) (n : Nat) : State := (s.satCount d b).reply (satError read n)

/-- Whether a bus is locked by a load-reserved access of a die and initiator to one satellite address: the one a store-conditional
matches. -/
def SatBus.lockedBy (x : SatBus) (d : Die) (who cs addr : Nat) : Bool :=
  match x.lock with
  | some a => decide (a.die = d ∧ a.who = who ∧ a.cs = cs ∧ a.addr = addr)
  | none => false

/-- The lock state shown on both dies. -/
def State.satLock (s : State) (b : Nat) (l : Option SatAcc) : State :=
  let s1 := s.updSat b (fun x => { x with lock := l })
  match l with
  | some a => ((s1.setAlive (FBB_SATbSTAT b) FBB_SATbSTAT__LOCKED 1).setAlive (FBB_SATbSTAT b) FBB_SATbSTAT__LOCKDIE
      a.die.val).setAlive (FBB_SATbSTAT b) FBB_SATbSTAT__LOCKCS a.cs
  | none => s1.setAlive (FBB_SATbSTAT b) ⟨0, 4⟩ 0

/-- SATELLITE_ACCESS (R379, R380, R383). A broken access, or an atomic one that names no operation, completes with an error and sends
nothing, and one to a chip select that the requester does not own is counted too (R545); a store-conditional that matches no lock
fails. -/
def execSatelliteAccess (d : Die) (who : Initiator) (addr : BitVec 40) (n : Fin 9) (write : Bool) (lock : LockOp)
    (data : BitVec 32) (s : State) : Out :=
  let o := addr.toNat - 0x1000000000
  let b := o / 0x1000000
  let c := o % 0x1000000 / 0x400000
  let pr := s.rd d (FBB_SATbPRc b c)
  let w := 2 ^ FBB_SATbPRc__WSIZE.get pr
  let a := o % 0x400000 / w
  let x := s.sat b
  let reads := !write || decide (lock ≠ .none)
  let named := match lock with
    | .atomic fn => (amo (8 * w) fn.toNat 0 0).isSome
    | _ => true
  .next (if !s.alive d || decide (addr.toNat < 0x1000000000 ∨ 4 ≤ b) then s.reply (satError reads n.val)
    else if !s.ownsSat d who (satSelect addr.toNat) || !s.bit d (FBB_SATbCFG b) FBB_SATbCFG__USED || !bitOf pr.toNat 25 then
      s.satFail d b reads n.val
    else if n.val ≠ w ∨ o % w ≠ 0 ∨ 256 ^ FBB_SATbPRc__ADDRB.get pr ≤ a ∨ named = false then s.reply (satError reads n.val)
    else if x.forced then (s.updSat b (fun x => { x with forced := false })).reply (satError reads n.val)
    else if lock = .conditional ∧ x.lockedBy d who.num c a = false then s.reply (.value 1)
    else s.updSat b (fun x => { x with
      waiting := x.waiting ++ [⟨d, who.num, c, decide (lock = .conditional) || (write && decide (lock = .none)), a, toLE w data.toNat, lock,
        none⟩] }))

/-- CRC-8 of a satellite transaction: polynomial 0x1D, initial value and final exclusive-or 0xFF. -/
def satCrc (l : List Byte) : Nat :=
  Nat.xor (l.foldl (fun c b => (List.range 8).foldl (fun c _ =>
    if 128 ≤ c then Nat.xor (c * 2 % 256) 0x1D else c * 2 % 256) (Nat.xor c b.toNat)) 0xFF) 0xFF

/-- The bytes the module sends for a read or write: opcode, address, and for a write the data and its CRC (R380). -/
def satBytes (pr : Word) (x : SatAcc) : List Byte :=
  let op := if x.write then FBB_SATbPRc__WROP.get pr else FBB_SATbPRc__RDOP.get pr
  let head := toLE 1 op ++ toBE (FBB_SATbPRc__ADDRB.get pr) x.addr
  if x.write then
    let l := head ++ (if bitOf pr.toNat 26 then x.data else x.data.reverse)
    if bitOf pr.toNat 24 then l ++ toLE 1 (satCrc l) else l
  else head

/-- The parts of a transaction (R380): what the module sends, and for a read the idle clocks and the bytes the satellite returns, its
CRC among them. -/
def SatAcc.sent (pr : Word) (x : SatAcc) : List SatPart :=
  if x.write then [.send (satBytes pr x)]
  else [.send (satBytes pr x), .idle (FBB_SATbPRc__DUMMY.get pr), .take (x.data.length + b2n (bitOf pr.toNat 24))]

/-- The write with which an atomic operation goes on, in the same chip-select frame, once its value `v` is read (R383). -/
def SatAcc.modify (x : SatAcc) (v : Nat) : SatAcc :=
  match x.lock with
  | .atomic fn =>
    let w := x.data.length
    { x with write := true, got := some v, data := toLE w ((amo (8 * w) fn.toNat v (leBytes x.data 0 w)).getD v) }
  | _ => x

/-- SATELLITE_BUS_GRANT: the bus goes to one waiting access, round-robin between the dies, to the holder of a lock alone
while it is held (R381, R383). Answers the parts of the transaction. -/
def execSatelliteBusGrant (b : Fin 4) (s : State) : Out :=
  let x := s.sat b
  let may := x.waiting.filter (fun a => match x.lock with
    | some l => decide (a.die = l.die ∧ a.who = l.who)
    | none => true)
  let first := match may.find? (fun a => decide (a.die ≠ x.last)) with
    | some a => some a
    | none => may.head?
  .next (if x.running.isSome then s else match first with
    | none => s
    | some a => (s.updSat b (fun x => { x with waiting := x.waiting.erase a, running := some a, last := a.die })).reply
        (.transaction (a.sent (s.rd a.die (FBB_SATbPRc b a.cs)))))

/-- The field die lost its supply (R365, R382, R797): every access to a satellite bus that waits or runs fails, and the selectors are
connected anew after its power-up. -/
def State.loseField (s : State) : State :=
  let s1 := (List.range 4).foldl (fun st b =>
    ((s.sat b).running.toList ++ (s.sat b).waiting).foldl (fun q a => q.satFail a.die b a.reads a.data.length) st) s
  { s1 with field := { s1.field with sels := [], buses := [] } }

/-- SATELLITE_BUS_TIMEOUT: the oldest waiting access of a die fails (R381). -/
def execSatelliteBusTimeout (b : Fin 4) (d : Die) (s : State) : Out :=
  .next (match (s.sat b).waiting.find? (fun a => decide (a.die = d)) with
    | some a => (s.updSat b (fun x => { x with waiting := x.waiting.erase a })).satFail d b a.reads a.data.length
    | none => s)

/-- SATELLITE_TRANSACTION_END: the running access completes with the data the satellite returned, in wire order, and its
CRC where the profile has one (R380, R382, R383). An atomic operation that has read goes on with its write, which ends it. -/
def execSatelliteTransactionEnd (b : Fin 4) (data : List Byte) (crc : BitVec 8) (s : State) : Out :=
  .next (match (s.sat b).running with
    | none => s
    | some a =>
      let pr := s.rd a.die (FBB_SATbPRc b a.cs)
      let bad := !a.write && (decide (data.length ≠ a.data.length) ||
        (bitOf pr.toNat 24 && decide (satCrc (satBytes pr a ++ data) ≠ crc.toNat)))
      let v := leBytes (if bitOf pr.toNat 26 then data else data.reverse) 0 data.length
      let s1 := s.updSat b (fun x => { x with running := none })
      if bad then s1.satFail a.die b a.reads a.data.length
      else match a.lock, a.got with
        | .none, _ => s1.reply (if a.write then .none else .value v)
        | .reserved, _ => (s1.satLock b (some a)).reply (.value v)
        | .conditional, _ => (s1.satLock b none).reply (.value 0)
        | .atomic _, some old => s1.reply (.value old)
        | .atomic _, none =>
          let m := a.modify v
          (s.updSat b (fun x => { x with running := some m })).reply (.transaction (m.sent pr)))

/-- SATELLITE_LOCK_TIMEOUT: a lock is released by force; the access pending from its holder, or the next to arrive,
completes with an error; counted and recorded on each die (R383). `age` is the lock's age in µs. -/
def execSatelliteLockTimeout (b : Fin 4) (age : BitVec 16) (s : State) : Out :=
  .next (match (s.sat b).lock with
    | none => s
    | some l =>
      let held := fun (a : SatAcc) => decide (a.die = l.die ∧ a.who = l.who)
      let x := s.sat b
      let pend := (x.running.toList ++ x.waiting).find? held
      let s1 := s.satLock b none
      let s2 := match pend with
        | some a => (s1.updSat b (fun x => { x with
            running := if x.running = some a then none else x.running, waiting := x.waiting.erase a })).reply
              (satError a.reads a.data.length)
        | none => s1.updSat b (fun x => { x with forced := true })
      let s3 := s2.onBoth (fun st e => (st.addSat e (FBB_SATbERR b) FBB_SATbERR__LOCKTO 1).fire e (0xB8 + b))
      s3.recordBoth 0x0A00 0x15 (4 * b + l.cs) 0 age.toNat)

/-! ### Sense inputs (R385, R386) -/

/-- SENSE_SAMPLE: the sample is shown and reaches the nibs of both dies. The stamp is in the time of Q-die 0; each die stamps the
sample from its own time unit (R39). -/
def execSenseSample (n : Fin 96) (mv : BitVec 16) (stamp : BitVec 64) (s : State) : Out :=
  .next (s.onBoth (fun st e =>
    if st.fld e (FBB_SNSCFGn n) FBB_SNSCFGn__MODE = 0 then st
    else (List.range 8).foldl (fun q c => q.streamIn e c (0x20 + n) ((stamp.toNat + s.ns e + 2 ^ 64 - s.ns 0) % 2 ^ 64) (toLE 2 mv.toNat)
        false)
      (st.wr e (FBB_SNSVn n) (BitVec.ofNat 32 mv.toNat))))

/-- SENSE_DEBOUNCE_EXPIRY: the state bit takes the level the last sample shows beyond its threshold (R386). -/
def execSenseDebounceExpiry (n : Fin 96) (high : Bool) (s : State) : Out :=
  let i := n.val / 32
  let f : Fld := ⟨n.val % 32, 1⟩
  .next (s.onBoth (fun st e =>
    let v := (st.rd e (FBB_SNSVn n)).toNat
    let there := if high then decide (st.fld e (FBB_SNSTHRn n) FBB_SNSTHRn__HI ≤ v)
                 else decide (v ≤ st.fld e (FBB_SNSTHRn n) FBB_SNSTHRn__LO)
    if st.fld e (FBB_SNSCFGn n) FBB_SNSCFGn__MODE ≠ 0 ∧ there = true ∧ st.fld e (FBB_SNSSTi i) f ≠ b2n high then
      (st.setF e (FBB_SNSSTi i) f (b2n high)).setF e (FBB_SNSCHGi i) f 1
    else st))

end Sys2Proof.Machine
end

