-- ==== Sys2Proof/Machine/SwitchDie.lean ====
section
/-! DEFINITION. The inside of a switch die (spec/04, spec/05, R83 to R92): the fail-safe table, the events it reports, what
a channel's mode calls for and what its output does, latches, line changes, modes, acknowledgements of commands. -/

namespace Sys2Proof.Machine

/-! ### The fail-safe table (R194, R195, R207) -/

/-- The table in force, empty for an unprogrammed die. -/
def SwitchDie.tbl (x : SwitchDie) : List Byte := if x.nvmFault then [] else x.table

/-- Hold time and watchdog timeout, ms; feed setting, true for 48 V; TESTOK. -/
def SwitchDie.tblHold (x : SwitchDie) : Nat := u8 x.tbl 4
def SwitchDie.tblWdog (x : SwitchDie) : Nat := if x.tbl = [] then 2 else u8 x.tbl 5
def SwitchDie.set48 (x : SwitchDie) : Bool := decide (u8 x.tbl 6 = 1)
def SwitchDie.testOk (x : SwitchDie) : Bool := decide (u8 x.tbl 7 = 1)

/-- The entry of channel k: action and LIMP byte, of the table the fail-safe states come from; hold threshold in percent. -/
def SwitchDie.action (x : SwitchDie) (k : Nat) : Nat := u8 x.live (0x11 + 8 * k)
def SwitchDie.limpOf (x : SwitchDie) (k : Nat) : Nat := u8 x.live (0x12 + 8 * k)
def SwitchDie.thresh (x : SwitchDie) (k : Nat) : Nat := if x.tbl = [] then 50 else u8 x.tbl (0x13 + 8 * k)

/-- The fail-safe trip current of channel k in 10 mA units: in START that of the table the fail-safe states come from. -/
def SwitchDie.tripAt (x : SwitchDie) (sd k : Nat) : Nat :=
  let t := if x.mode = .start then x.live else x.tbl
  if t = [] then sdAmps sd else u16 t (0x14 + 8 * k)

/-- The rules of a fail-safe entry body (R207). -/
def entryOk (sd : Nat) (b : List Byte) : Bool :=
  decide (b.length = 8 ∧ u8 b 0 < sdChans sd ∧ u8 b 1 ≤ 2 ∧ u8 b 2 / 4 % 32 = 0 ∧ (u8 b 1 = 2 ∨ u8 b 2 = 0) ∧
    u8 b 3 ≤ 100 ∧ 1 ≤ u16 b 4 ∧ u16 b 4 ≤ sdAmps sd ∧ u16 b 6 = 0)

/-- Whether a table image is valid for a switch die (R194). -/
def tableOk (sd : Nat) (b : List Byte) : Bool :=
  let n := sdChans sd
  decide (b.length = 0x14 + 8 * n ∧ u16 b 0 = 0x5346 ∧ u8 b 2 = 1 ∧ u8 b 3 = n ∧ u8 b 4 ≤ 50 ∧ 1 ≤ u8 b 5 ∧ u8 b 5 ≤ 20 ∧
    u8 b 6 ≤ 1 ∧ u8 b 7 ≤ 1 ∧ u8 b 8 ≤ 7) && zeroBytes b 9 7 &&
  (List.range n).all (fun k => entryOk sd ((b.drop (0x10 + 8 * k)).take 8) && decide (u8 b (0x10 + 8 * k) = k)) &&
  decide (u32 b (0x10 + 8 * n) = crc32 (b.take (0x10 + 8 * n)))

/-- The digest of a table: its CRC-32, 0 for none (R176, R195). -/
def tableDigest (b : List Byte) : Nat := if b = [] then 0 else u32 b (b.length - 4)

/-! ### Events (R203) -/

/-- An event of a channel, or of the die with channel 0: counted, and one EVT frame waits on each link. -/
def State.sdEvent (s : State) (sd k code : Nat) : State :=
  let f := mkFrame 0x1A k code
  let put := fun (l : List Word) => if l.contains f then l else l ++ [f]
  s.updSd sd (fun x => { x with
    evtCount := tset 0 x.evtCount (code * 8 + k) ((tget 0 x.evtCount (code * 8 + k) + 1) % 256),
    waiting := ⟨put x.waiting.q0, put x.waiting.q1⟩ })

/-- A frame that waits on both links. -/
def State.sdWait (s : State) (sd : Nat) (f : Word) : State :=
  s.updSd sd (fun x => { x with waiting := ⟨x.waiting.q0 ++ [f], x.waiting.q1 ++ [f]⟩ })

/-- The acknowledgement of a command on the link it came on (R176, R177): result 0 done, 1 refused, 2 repeat. -/
def State.sdAck (s : State) (d : Die) (sd typ ch tag result : Nat) : State :=
  s.updSd sd (fun x => { x with
    waiting := x.waiting.upd d (fun l => l ++ [mkFrame 0x1B ch (tag * 4096 + result * 256 + typ)]) })

/-! ### Channels -/

/-- Whether a switch die carries channel k and works. -/
def State.sdHas (s : State) (sd k : Nat) : Bool := (s.sd sd).started && decide (k < sdChans sd)

/-- The global number of a channel. -/
def gch (sd k : Nat) : Nat := sdFirst sd + k

/-- The line a channel follows: during a line change the earlier one until the change completes (R183). -/
def State.chanLine (s : State) (sd k : Nat) : Die :=
  if (s.chan sd k).linePend then (s.sd sd).line.other else (s.sd sd).line

/-- The level of one line of a channel. -/
def Chan.line (c : Chan) (d : Die) : LineLevel := if d = 0 then c.lineA else c.lineB

/-- The level of the line a channel follows. -/
def State.followed (s : State) (sd k : Nat) : LineLevel := (s.chan sd k).line (s.chanLine sd k)

/-- A setting of a channel record as the switch die has it: as it stood at the last accepted SVCENT, before that as the die whose
line the switch die follows holds it (log entry 24). -/
def State.chSet (s : State) (sd k : Nat) (f : Fld) : Nat :=
  f.get ((s.chan sd k).cfg.getD (s.rd (s.sd sd).line (PWR_CHkCFG sd k)))

/-- Whether the feed holds the die's channels off (R121). -/
def SwitchDie.feedHolds (x : SwitchDie) : Bool := x.uvOff || x.ovOff

/-- The fail-safe state of a channel (R84 to R86). -/
def State.failSafe (s : State) (sd k : Nat) : Bool :=
  let x := s.sd sd
  match x.action k with
  | 1 => x.feedOk
  | 2 => s.cis.limp.getLsbD (x.limpOf k % 4) == bitOf (x.limpOf k) 7
  | _ => false

/-- A switch die's own time in ns, in steps of its service cycle. -/
def SwitchDie.time (x : SwitchDie) : Nat := 100000 * x.cycles

/-- The level of a flywheeling channel: the last period and duty repeated on a PWM channel, the last level on a static one (R189). -/
def Chan.fly (c : Chan) (now : Nat) : Bool :=
  if c.flywheel && c.pwm && decide (0 < c.period) then decide ((now - c.flyFrom) % c.period < c.duty) else c.want

/-- The level that the mode calls for (R84, R123, R158, R161, R166, R188, R189, R191): in START nothing during the hold time and the
fail-safe state after it; elsewhere off for a channel without a record, the forced level, the level of a last-state hold, or the
followed line, where an edge of it does not wait; the flywheel while that line is absent. -/
def State.calls (s : State) (sd k : Nat) : Bool :=
  let x := s.sd sd
  let c := s.chan sd k
  if x.standby then c.held.getD false
  else if x.mode = .start then !x.holding && s.failSafe sd k
  else if s.chSet sd k PWR_CHkCFG__USED = 0 then false
  else match c.forced, c.held with
    | some b, _ => b
    | none, some b => b
    | none, none =>
      if c.deferred then c.want
      else match s.followed sd k with
        | .high => true
        | .low => false
        | .absent => c.fly c.flyAt

/-- Whether a channel has been off for 100 ms, or since the power-up or reset of its die (R129). -/
def Chan.longOff (c : Chan) (cycles : Nat) : Bool :=
  match c.offAt with
  | none => true
  | some t => decide (t + 1000 ≤ cycles)

/-- A calibration capture in progress on a channel aborted (R150). -/
def State.abortCapture (s : State) (sd k : Nat) : State :=
  let cap := (s.sd sd).capture
  if cap.busy.isSome ∧ cap.ch = k then
    (s.updSd sd (fun x => { x with capture := { x.capture with busy := none, state := 6 } })).setBoth
      (PWR_CALRES sd) PWR_CALRES__STATE 6
  else s

/-- A channel's output set. Switching on aborts an off-state test, whose finding is discarded, and, in lamp mode after 100 ms off, opens
the warm window (R129, R133); a change aborts a capture (R150). A bridge switched off recirculates first (R116). -/
def State.setOn (s : State) (sd k : Nat) (b : Bool) : State :=
  let c := s.chan sd k
  if c.on = b then s else
  let x := s.sd sd
  let s1 := s.abortCapture sd k
  if b then
    let opens := decide (s.chSet sd k PWR_CHkCFG__MODE = 1) && c.longOff x.cycles
    s1.updChan sd k (fun c => { c with on := true, offTest := false, recirc := none, clamping := false,
                                       warmOpen := opens || c.warmOpen, retries := if opens then 0 else c.retries })
  else s1.updChan sd k (fun c => { c with
    on := false, inLimit := false, offAt := some x.cycles, recirc := if sdType sd = 4 then some x.cycles else none })

/-- The four switches of a bridge as they are driven: high and low side of output a, high and low side of output b (R116). Driven in
one direction while on, both low sides while the current recirculates, else all off. -/
def Chan.bridge (c : Chan) : Bool × Bool × Bool × Bool :=
  if c.on then (if c.dirBA then (false, true, true, false) else (true, false, false, true))
  else if c.recirc.isSome then (false, true, false, true)
  else (false, false, false, false)

/-- The end of a bridge's recirculation: the current is below 0.5 A, or 20 ms have passed (R116). -/
def Chan.recircStep (c : Chan) (cycles : Nat) (ua : Option Int) : Chan :=
  match c.recirc with
  | none => c
  | some t =>
    let small := match ua with | some i => decide (-500000 < i ∧ i < 500000) | none => false
    if small || decide (t + 200 ≤ cycles) then { c with recirc := none } else c

/-- The level called for at a channel noted at a time in ns, which begins an on or off time (R166). -/
def Chan.wants (c : Chan) (b : Bool) (t : Nat) : Chan :=
  if c.want = b then c
  else { c with want := b, changedAt := some t, roseAt := if b then some t else c.roseAt, wasChanged := c.changedAt, wasRose := c.roseAt }

/-- A channel brought at a time to what its mode, latch and feed call for. A ramp goes on by itself (R147), a lamp retry waits. -/
def State.settleAt (s : State) (sd k t : Nat) : State :=
  let c := s.chan sd k
  let want := s.calls sd k
  let s1 := s.updChan sd k (fun c => c.wants want t)
  if c.ramping then s1
  else s1.setOn sd k (want && !c.latched && !(s.sd sd).feedHolds && !c.lampRetry)

/-- A channel brought to it in the present service cycle. -/
def State.settle (s : State) (sd k : Nat) : State := s.settleAt sd k (s.sd sd).time

/-- Every channel of a die settled. -/
def State.settleAll (s : State) (sd : Nat) : State := (List.range (sdChans sd)).foldl (fun st k => st.settle sd k) s

/-- A force on a channel ended, with its event (R188). -/
def State.endForce (s : State) (sd k : Nat) : State :=
  if (s.chan sd k).forced = none then s
  else (s.updChan sd k (fun c => { c with forced := none })).sdEvent sd k 0x0A

/-- A channel turned off and latched (R126 to R128, R147): its ramp, retry and force end. -/
def State.latch (s : State) (sd k : Nat) (trip : Bool) : State :=
  let now := (s.sd sd).cycles
  let limited := (s.chan sd k).inLimit
  let refused := decide ((s.chan sd k).restartCyc = some now)
  let s1 := (s.setOn sd k false).updChan sd k (fun c => { c with
    latched := true, latchCyc := some now, limitAt := if limited then some now else c.limitAt, latchPend := false, ramping := false, rampSelf := false, offTest := false,
    lampRetry := false, trips := if trip then satInc 0xFFFF c.trips else c.trips })
  let s2 := s1.endForce sd k
  if refused then s2.sdEvent sd k 0x2A else s2

/-- The end of a ramp at 0 % duty (R147): off, SOFTOFF, and a latch that waited for it. -/
def State.rampDone (s : State) (sd k : Nat) : State :=
  let c := s.chan sd k
  let s1 := ((s.updChan sd k (fun c => { c with ramping := false, rampSelf := false, want := false })).setOn sd k
    false).sdEvent sd k 0x28
  if c.latchPend then s1.latch sd k true else s1

/-- All channels of a die hard off by its feed (R121, R155): a ramp ends without SOFTOFF, a waiting latch takes effect. -/
def State.feedOff (s : State) (sd : Nat) : State :=
  (List.range (sdChans sd)).foldl (fun st k =>
    let c := st.chan sd k
    let s1 := (st.setOn sd k false).updChan sd k (fun c => { c with
      ramping := false, rampSelf := false, offTest := false, lampRetry := false })
    if c.latchPend then s1.latch sd k true else s1) s

/-! ### Modes, lines, holds -/

/-- The code of a mode (PWR_DSTAT.MODE). -/
def SdMode.code : SdMode → Nat
  | .start => 0
  | .service => 1
  | .test => 2
  | .recovery => 3

/-- A change of mode (R185): forces end (R188), channels take what the new mode calls for. -/
def State.sdMode (s : State) (sd : Nat) (m : SdMode) : State :=
  let s1 := (List.range (sdChans sd)).foldl (fun st k => st.endForce sd k) s
  (s1.updSd sd (fun x => { x with mode := m })).settleAll sd

/-- Fail-safe states forced (R186): ramps end hard, a bridge is driven from a to b (R201), the entries are those of the table in force
now (R198); then START without a hold time. -/
def State.forceFailSafe (s : State) (sd : Nat) : State :=
  let s1 := (List.range (sdChans sd)).foldl (fun st k =>
    let c := st.chan sd k
    let t := st.updChan sd k (fun c => { c with
      ramping := false, rampSelf := false, held := none, flywheel := false, linePend := false, deferred := false,
      dirBA := false, dirPend := none, dirEdge := false })
    if c.latchPend then t.latch sd k true else t) s
  (s1.updSd sd (fun x => { x with holding := false, lastHold := false, live := x.tbl })).sdMode sd .start

/-- A line change accepted (R183): channels whose lines agree change at once, the others at the next edge of the named
line or after 1 ms. It ends flywheeling. A BDIR that waits then waits for a falling edge of the new line (R204). -/
def State.steerTo (s : State) (sd : Nat) (d : Die) : State :=
  let was := (s.sd sd).line
  let s1 := s.updSd sd (fun x => { x with line := d, steerCyc := if was = d then x.steerCyc else some x.cycles })
  let s2 := (List.range (sdChans sd)).foldl (fun st k =>
    st.updChan sd k (fun c => { c with
      dirEdge := if was = d then c.dirEdge else c.dirEdge || c.dirPend.isSome,
      linePend := if (s.sd sd).lastHold ∨ (s.sd sd).mode = .start then false else if was = d then c.linePend
                  else if c.linePend then false else decide (c.lineA ≠ c.lineB),
      flywheel := if was = d then c.flywheel else false })) s1
  if (s.sd sd).mode = .start ∨ (s.sd sd).lastHold = true then s2 else s2.settleAll sd

/-- The entry into the last-state hold (R191): a PWM channel is held on when its duty is at or above its threshold, a
static one at its last level; ramps run to their end and leave the channel off. -/
def State.enterHold (s : State) (sd : Nat) : State :=
  let x := s.sd sd
  let s1 := (List.range (sdChans sd)).foldl (fun st k =>
    st.updChan sd k (fun c => { c with
      held := some (!c.ramping && (if c.pwm then decide (x.thresh k * c.period ≤ 100 * c.duty) else c.want)),
      rampSelf := c.ramping, flywheel := false, linePend := false, deferred := false })) s
  ((s1.updSd sd (fun x => { x with lastHold := true, holdFrom := x.cycles })).settleAll sd).sdEvent sd 0 0x04

/-- The last-state hold ended by an accepted SVCENT, with its length (R192). -/
def State.endHold (s : State) (sd : Nat) : State :=
  s.updSd sd (fun x => if x.lastHold then { x with lastHold := false, holdLen := x.cycles - x.holdFrom } else x)

/-! ### Commands on a serial link -/

/-- What a downstream frame type is: known (R176). -/
def isDown (t : Nat) : Bool := decide (1 ≤ t ∧ t ≤ 0x0F)
def isUp (t : Nat) : Bool := decide (0x10 ≤ t ∧ t ≤ 0x1E)

/-- The first occurrence of a frame taken off a lane. -/
def takeFrame (f : Word) : List Word → List Word
  | [] => []
  | x :: l => if x = f then l else x :: takeFrame f l

/-- A TAG noted as executed: the last 15 of a link, TYPE and CH, so that the sixteenth may use the oldest anew (R177). -/
def SwitchDie.tagged (x : SwitchDie) (key tag : Nat) : SwitchDie :=
  let l := tget [] x.lastTag key
  if l.contains tag then x else { x with lastTag := tset [] x.lastTag key ((tag :: l).take 15) }

/-- A downstream frame reaching the switch die on one link (R175): a failing or wrongly directed one is discarded and
counted; a valid one of the type `typ` ends the link's silence and is handed on. -/
def State.downFrame (s : State) (d : Die) (sd : Nat) (f : Word) (typ : Nat) (act : State → State) : State :=
  let s0 := s.updQsd d sd (fun q => { q with down := takeFrame f q.down })
  if !(s.sd sd).started then s0
  else if !(frameOk f && isDown (frameType f)) then
    let s1 := s0.addSat d (PWR_DLINK sd) PWR_DLINK__DNERR 1
    if frameOk f then s1 else s1.setF d (PWR_DFLT sd) PWR_DFLT__LINKERR 1
  else if frameType f = typ then
    act (s0.updSd sd (fun x => { x with links := x.links.upd d (fun l => { l with silent := false }) }))
  else s0

/-- What a command does when the switch die decides on it: nothing at all (discarded, R89), refused, or done. -/
inductive Decided where
  | discard
  | refuse
  | done (eff : State → State)

/-- A tagged command on one link (R177, R181, R88): a repeat is acknowledged with result 2; a command on the link of the
die not followed is refused unless its type is accepted on either link, in START where `startOk`. `decideCmd` says
what the switch die does with it. Answering a SVCENT or STEER acknowledges the link's Q-die (R179). -/
def State.command (s : State) (d : Die) (sd : Nat) (f : Word) (typ : Nat) (either startOk : Bool)
    (decideCmd : State → Decided) : State :=
  s.downFrame d sd f typ (fun s =>
    let x := s.sd sd
    let ch := frameCh f
    let tag := frameTag f
    let key := d.val * 256 + typ * 8 + ch
    let entry := decide (typ = 2 ∨ typ = 3)
    let note := fun (st : State) => st.updSd sd (fun x => { x.tagged key tag with
      links := x.links.upd d (fun l => { l with acked := l.acked || entry }) })
    if (tget [] x.lastTag key).contains tag then (note s).sdAck d sd typ ch tag 2
    else if x.mode = .start && !startOk then (note s).sdAck d sd typ ch tag 1
    else if !either && x.mode != .start && x.line != d then (note s).sdAck d sd typ ch tag 1
    else match decideCmd s with
      | .discard => s
      | .refuse => (note s).sdAck d sd typ ch tag 1
      | .done eff => (note (eff s)).sdAck d sd typ ch tag 0)

end Sys2Proof.Machine
end

