-- ==== Sys2Proof/Machine/Clamp.lean ====
section
/-! DEFINITION. The arithmetic of the protection nib (R117, R135 to R147): sense samples, the wire model, the inductance
estimate, clamp energy and the soft switch-off; and what a timing lane does at a level command and at a period start
(R163, R169 to R171, R300, R301, R492). -/

namespace Sys2Proof.Machine

/-- The channel type of a switch die's samples: normal-range LSB in µA (R117). -/
def sdLsb (sd : Nat) : Nat := match sdType sd with | 1 => 4000 | 2 => 1000 | 3 => 500 | _ => 2000

/-- A sense sample in µA (R117). -/
def sampleUA (sd : Nat) (w : Nat) : Int :=
  match sdType sd with
  | 3 => if bitOf w 15 then ((w % 2 ^ 15 * 10 : Nat) : Int) else ((w * 500 : Nat) : Int)
  | 4 => toSigned 16 w * 2000
  | _ => ((w * sdLsb sd : Nat) : Int)

/-- A quotient rounded to the nearest integer, halves away from zero (R117). -/
def roundHalf (n : Int) (d : Nat) : Int :=
  if 0 ≤ n then (2 * n + d) / (2 * d) else -((2 * (-n) + d) / (2 * d))

/-- The normal-range LSB in µA of a range of a channel: 10 µA for the L low range (R117). -/
def rangeLsb (sd : Nat) (low : Bool) : Nat := if low then 10 else sdLsb sd

/-- A current calibrated before its sample leaves the switch die, in units of 2^-32 µA: the factory gain and offset of the channel and
range with the compensation for the junction temperature (R149), then the field calibration in force (R152). `ua` is the current in µA as the sense amplifier gives it. -/
def Chan.calibrate (c : Chan) (sd k : Nat) (low : Bool) (ua : Int) : Int :=
  let f := Config.factoryCal (sdFirst sd + k) low
  let g := if low then c.lowGain else c.calGain
  let o := if low then c.lowOffs else c.calOffs
  (ua * (f.1 + Config.tempComp (sdFirst sd + k) low c.tj) + f.2 * 65536) * (65536 + g) + o * rangeLsb sd low * 2 ^ 32

/-- The sample word of a calibrated current: rounded to the nearest step of the LSB, halves away from zero, and saturated at the ends
of the range (R117). -/
def senseWord (sd : Nat) (low : Bool) (i : Int) : Nat :=
  let code := roundHalf i (rangeLsb sd low * 2 ^ 32)
  match sdType sd with
  | 3 => if low then 0x8000 + (clampTo 0 4000 code).toNat else (clampTo 0 0x7FFF code).toNat
  | 4 => ofSigned 16 (clampTo (-0x8000) 0x7FFF code)
  | _ => (clampTo 0 0xFFFF code).toNat

/-- The range of a channel's next sample (R118): an L channel in LED mode leaves the low range with the first sample that would exceed
40.00 mA, and returns to it after 1 ms, ten samples, at or below 36 mA; any other channel has the normal range only. -/
def Chan.nextRange (c : Chan) (sd k : Nat) (led : Bool) (ua : Int) : Chan :=
  if !(led && decide (sdType sd = 3)) then { c with lowRange := false, lowCount := 0 }
  else if c.lowRange then
    if 4000 < roundHalf (c.calibrate sd k true ua) (10 * 2 ^ 32) then { c with lowRange := false, lowCount := 0 } else c
  else if c.calibrate sd k false ua ≤ 36000 * 2 ^ 32 then
    if 10 ≤ c.lowCount then { c with lowRange := true, lowCount := 0 } else { c with lowCount := c.lowCount + 1 }
  else { c with lowCount := 0 }

/-- The least current limit of a channel's switch in µA, its figure of R114 less 15 %. -/
def limitUA (sd : Nat) : Int :=
  match sdType sd with
  | 1 => 170000000 | 2 => 51000000 | 3 => 12750000 | _ => 85000000

/-- A channel in limit after a sample of its current: one below the least limit shows that it is in limit no more (R126; log
entry 99). -/
def Chan.limitStep (c : Chan) (sd : Nat) (ua : Int) : Chan :=
  if -limitUA sd < ua ∧ ua < limitUA sd then { c with inLimit := false } else c

/-- A voltage in µV as a frame carries it: LSB 1.25 mV, 0 where it is negative, 0xFFFF above the range (R119); rounded to the nearest
step (log entry 71). -/
def voltCode (uv : Int) : Nat := (clampTo 0 0xFFFF (roundHalf uv 1250)).toNat

/-- The wire state of a channel on a die. -/
def State.wire (s : State) (d : Die) (n : Nat) : Wire := tget {} (s.vol.get d).wires n

/-- The wire state of a channel changed. -/
def State.updWire (s : State) (d : Die) (n : Nat) (f : Wire → Wire) : State :=
  s.updVol d (fun v => { v with wires := tupd {} v.wires n f })

/-! ### The wire model -/

/-- Wire parameters (R136): resistance in nΩ per metre; C_c, R_ci, C_i in hundredths; R_ia in tenths. -/
def wireParams (gauge : Nat) : Int × Int × Int × Int × Int :=
  match gauge with
  | 0 => (136000000, 45, 90, 25, 140)
  | 1 => (84800000, 76, 80, 35, 125)
  | 2 => (52000000, 121, 70, 45, 110)
  | 3 => (37100000, 173, 60, 60, 100)
  | 4 => (24700000, 259, 55, 80, 90)
  | 5 => (18500000, 345, 50, 100, 85)
  | 6 => (12700000, 518, 45, 130, 75)
  | 7 => (7600000, 863, 40, 190, 65)
  | 8 => (4710000, 1380, 35, 260, 56)
  | 9 => (3140000, 2070, 30, 340, 48)
  | 10 => (1820000, 3450, 25, 500, 39)
  | _ => (1160000, 5520, 20, 720, 32)

/-- T_lim of an insulation class in degC (R136). -/
def classLimit (c : Nat) : Int :=
  match c with | 0 => 85 | 1 => 100 | 2 => 125 | 3 => 150 | 4 => 175 | _ => 200

/-- A temperature in units of 10^-9 degC. -/
def degC (t : Int) : Int := t * 1000000000

/-- The code of a temperature with LSB 0.125 degC. -/
def eighths (t : Int) : Nat := ofSigned 16 (t / 125000000)

/-- The ambient the model uses (R138). -/
def State.tamb (s : State) (d : Die) (sd k : Nat) : Int :=
  let amb := degC (toSigned 8 (s.fld d (PWR_CHkPRM sd k) PWR_CHkPRM__AMB))
  let sub := toSigned 16 (s.fld d (PWR_DTEMP sd) PWR_DTEMP__TSUB) * 125000000
  if s.bit d (PWR_CHkPRM sd k) PWR_CHkPRM__AMBTRK && decide (amb < sub) then sub else amb

/-- Conductor resistance in nΩ per metre at a temperature (R137). -/
def wireRes (res20 tc : Int) : Int := res20 * (100000000000000 + 393 * (tc - degC 20)) / 100000000000000

/-- Power in nW per metre for a mean square in squared LSB units. -/
def wirePower (sd msq : Nat) (rw : Int) : Int := (msq * sdLsb sd * sdLsb sd : Nat) * rw / 1000000000000

/-- One step of the wire model: the new tc and ti (R137). -/
def wireStep (gauge sd msq : Nat) (tamb tc ti : Int) : Int × Int :=
  let (res, cc, rci, ci, ria) := wireParams gauge
  let p := wirePower sd msq (wireRes res tc)
  let qci := (tc - ti) * 100 / rci
  let qia := (ti - tamb) * 10 / ria
  (tc + (p - qci) / (cc * 100), ti + (qci - qia) / (ci * 100))

/-- Whether a channel is on as its die sees it: on, in current limit, ramping, or about to be retried (PWR_CHkSTAT.STATE). -/
def State.chanOn (s : State) (d : Die) (sd k : Nat) : Bool :=
  let st := s.fld d (PWR_CHkSTAT sd k) PWR_CHkSTAT__STATE
  decide (st = 1 ∨ st = 2 ∨ st = 4 ∨ st = 7)

/-- The wire state at the start of the model or after its loss (R141): a live twin's state, else the starting values. -/
def State.wireStart (s : State) (d : Die) (sd k : Nat) : Wire :=
  let w := s.wire d (gch sd k)
  let other := s.wire d.other (gch sd k)
  if w.live then w
  else if other.live && s.alive d.other then { other with energy := w.energy, lossSum := w.lossSum }
  else
    let amb := s.tamb d sd k
    let lim := degC (classLimit (s.fld d (PWR_CHkCFG sd k) PWR_CHkCFG__CLASS))
    let t := if !s.chanOn d sd k then amb else amb + (lim - amb) / 2
    { live := true, tc := t, ti := t, energy := w.energy, lossSum := w.lossSum }

/-! ### Inductance and clamp energy -/

/-- The declared inductance, µH. -/
def State.ldecl (s : State) (d : Die) (sd k : Nat) : Nat := s.fld d (PWR_CHkLDECL sd k) PWR_CHkLDECL__LDECL

/-- The feed voltage in µV as the last FEED frame gave it. -/
def State.vfeedUV (s : State) (d : Die) (sd : Nat) : Int := (s.fld d (PWR_DFEED sd) PWR_DFEED__VFEED * 1250 : Nat)

/-- Clamp ratings in µJ (R143): single pulse, repetitive to 1, 10 and 100 Hz, and the ramp dissipation. -/
def clampRatings (sd : Nat) : Int × Int × Int × Int × Int :=
  match sdType sd with
  | 1 => (1500000, 600000, 250000, 40000, 8000000)
  | 2 => (400000, 150000, 60000, 10000, 2500000)
  | _ => (90000, 35000, 15000, 2500, 500000)

/-- A rating that falls linearly to 0 at 150 degC above a knee, for a junction temperature with LSB 0.125 degC, in units
of 10^-18 J. -/
def derate (rating tj knee : Int) : Int :=
  let full := rating * 1000000000000
  if tj ≤ 8 * knee then full
  else if 1200 ≤ tj then 0
  else full * (1200 - tj) / (1200 - 8 * knee)

/-- E_perm of a channel now, in units of 10^-18 J (R145). -/
def State.ePerm (s : State) (d : Die) (sd k : Nat) : Int :=
  let now := s.ns d
  let times := (s.wire d (gch sd k)).clampTimes
  let (single, r1, r10, r100, _) := clampRatings sd
  let tj := toSigned 16 (tget 0 (s.qsd d sd).tjs k)
  let n := (times.filter (fun t => decide (now < t + 1000000000))).length + 1
  if (times.filter (fun t => decide (now < t + 10000000000))).isEmpty then derate single tj 125
  else if n ≤ 1 then derate r1 tj 105
  else if n ≤ 10 then derate r10 tj 105
  else if n ≤ 100 then derate r100 tj 105
  else 0

/-- E_pred of a channel now, in units of 10^-18 J (R145); none when the feed is at the clamp voltage or above. -/
def State.ePred (s : State) (d : Die) (sd k : Nat) : Option Int :=
  let v := s.vfeedUV d sd
  let i := sampleUA sd (s.fld d (PWR_CHkI sd k) PWR_CHkI__ISAMP)
  let l : Int := ((s.wire d (gch sd k)).lest.getD (s.ldecl d sd k) : Nat)
  if 75000000 ≤ v then none else some (l * i * i * 75000000 / (2 * (75000000 - v)))

/-- E_ramp of a channel now, in units of 10^-18 J (R146). -/
def State.eRamp (s : State) (d : Die) (sd k : Nat) : Int :=
  let v := s.vfeedUV d sd
  let i := sampleUA sd (s.fld d (PWR_CHkI sd k) PWR_CHkI__ISAMP)
  let w := s.wire d (gch sd k)
  let l : Int := (w.lest.getD (s.ldecl d sd k) : Nat)
  let t : Int := (s.fld d (PWR_CHkPRM sd k) PWR_CHkPRM__RAMP : Nat)
  t * v * i * 500 + l * i * i / 2 - t * (w.rest : Int) * i * i / 3

/-- An energy in mJ. -/
def toMJ (e : Int) : Nat := satTo 0xFFFFFF (e / 1000000000000000).toNat

/-- A switch-off due on the lane of a channel with clamp prediction (R145 to R147): hard when the predicted energy is
permitted, else a protection ramp of the channel's ramp time that starts 20 µs on; the die with authority sends RAMP. -/
def State.switchOff (s : State) (d : Die) (n : Nat) : State :=
  let sd := chSd n
  let k := n - sdFirst sd
  if s.bit d (PWR_CHkCFG sd k) PWR_CHkCFG__CLPRED then
    let ep := s.ePred d sd k
    let permitted := match ep with | some e => decide (e ≤ s.ePerm d sd k) | none => false
    let er := s.eRamp d sd k
    let rampLim := (clampRatings sd).2.2.2.2 * 1000000000000
    let s1 := s.updWire d n (fun w => { w with
      ePred := match ep with | some e => toMJ e | none => 0xFFFFFF, eRamp := toMJ er,
      overRamp := decide (rampLim < er),
      rampFrom := (sampleUA sd (s.fld d (PWR_CHkI sd k) PWR_CHkI__ISAMP) / 1000).toNat })
    if permitted then s1.updLane d n (fun l => { l with level := false, pwm := false })
    else
      let ms := s.fld d (PWR_CHkPRM sd k) PWR_CHkPRM__RAMP
      let s2 := s1.updLane d n (fun l => { l with
        pwm := true, level := true, period := laneMinPeriod n, duty := laneMinPeriod n,
        ramp := some (s.ns d + 20000, ms * 1000000) })
      if s.driver d sd = d then s2.sendCmd d sd 6 k ms else s2
  else s.updLane d n (fun l => { l with level := false, pwm := false })

/-! ### Lanes -/

/-- The phase offset of a lane at a period (R170, R492). -/
def State.phase (s : State) (d : Die) (lane period : Nat) : Nat :=
  if lane < 80 then
    let id := if s.bit d UPD_DMODID UPD_DMODID__IDVALID then s.fld d UPD_DMODID UPD_DMODID__MODID else 0
    (tget 0 (s.vol.get d).plan.base lane + (s.vol.get d).plan.stride * id) % period
  else 0

/-- Whether a group time is a period start of a lane for a period (R170). -/
def State.onGrid (s : State) (d : Die) (lane period time : Nat) : Bool :=
  decide (period ≠ 0) && decide (time % period = s.phase d lane period)

/-- What an input line of a channel shows: the level of the timing lane that drives it, absent while its Q-die does not run or its lane
is held idle or drives nothing (R91, R163, R164). -/
def State.lineShown (s : State) (sd k : Nat) (d : Die) : LineLevel :=
  let n := sdFirst sd + k
  let l := s.lane d n
  if s.alive d && !s.laneIdle d n && l.driven then (if l.out (s.ns d) then .high else .low) else .absent

/-- The minimum on and off time of a channel at its input line in ns (R166). -/
def minEdgeTime (sd : Nat) : Nat := match sdType sd with | 1 => 40000 | 2 => 16000 | 3 => 3000 | _ => 1000

/-- Whether a period of a lane may start at a time: the period before has ended (R171), and where group time stepped under it the off
time before it keeps the minimum of the channel (R172). -/
def State.mayStart (s : State) (d : Die) (lane t : Nat) : Bool :=
  let l := s.lane d lane
  !l.pwm || (decide (l.start + l.period ≤ t) &&
    (!l.moved || decide (t = l.start + l.period ∨ l.period ≤ l.duty ∨ 80 ≤ lane) ||
      decide (l.start + l.duty + minEdgeTime (chSd lane) ≤ t)))

/-- A lane command of a nib (R242): while the protection nib ramps the channel, other nibs' commands are discarded, but one that
switches on ends the ramp: the authority sends RAMP with time 0, and the lane stands at full on until it takes the command at the next
period start (R147). A level that goes low at once is a switch-off (R145). -/
def State.laneCmd (s : State) (n : NibId) (i : Nat) (c : LaneCmd) : State :=
  let l := s.lane n.d i
  if l.ramp.isSome ∧ (s.nib n).prog ≠ .protection then
    if c.turnsOn then
      let t := s.updLane n.d i (fun l => { l with
        ramp := none, pend := some c, level := true,
        duty := l.period + (match c with | .pwm p _ _ => p | .level _ _ => l.period) })
      if s.hasAuth n.d n.c.val then t.sendCmd n.d (chSd i) 6 (i - sdFirst (chSd i)) 0 else t
    else s
  else
    match c with
    | .level on t =>
      if !l.pwm && !on && l.level && decide (t ≤ s.ns n.d ∧ i < 80) then
        (s.updLane n.d i (fun l => { l with driven := true, pend := none })).switchOff n.d i
      else s.updLane n.d i (fun l => l.take c (s.ns n.d))
    | .pwm _ _ _ => s.updLane n.d i (fun l => l.take c (s.ns n.d))

/-- OCMP.LVL: lane rd takes level rs bit 0 at stream time + rt (R300, R302). -/
def execOcmpLvl (n : NibId) (w : Word) (ecc : EccFind) (s : State) : Out :=
  .next (s.nibInstr n w ecc (opTio 0x10 true) .plain (nibKnown w) (fun _ => true) (fun s =>
    let x := s.nib n
    let i := (x.reg (wRd w)).toNat
    if s.ownsLane n.d n.c.val i then
      .done (s.laneCmd n i (.level (x.reg (wRs w)).toNat.bodd (x.time + (x.reg (wRt w)).toNat)))
    else .raise s 3 i 0))

/-- OCMP.PWM: lane rd runs PWM with period rs and on time rt in ns (R301, R302). A lane not owned is reported before a bad period or
on time (log entry 110). -/
def execOcmpPwm (n : NibId) (w : Word) (ecc : EccFind) (s : State) : Out :=
  .next (s.nibInstr n w ecc (opTio 0x11 true) .plain (nibKnown w) (fun _ => true) (fun s =>
    let x := s.nib n
    let i := (x.reg (wRd w)).toNat
    let p := (x.reg (wRs w)).toNat
    let on := (x.reg (wRt w)).toNat
    if !s.ownsLane n.d n.c.val i then .raise s 3 i 0
    else if p % 2 ≠ 0 ∨ on % 2 ≠ 0 ∨ p < on ∨ p < laneMinPeriod i ∨ 1000000000 < p then .raise s 3 (0x80000000 + i) 0
    else .done (s.laneCmd n i (.pwm p on (s.ns n.d)))))

/-- LANE_LEVEL_APPLY: group time reaches the instant of a pending level (R300): a lane in level mode takes it. Going low
from high is a switch-off. A lane in PWM mode changes at its first period start from then on (PWM_PERIOD_START). -/
def execLaneLevelApply (d : Die) (lane : Fin 96) (s : State) : Out :=
  .next (match (s.lane d lane.val).pend with
    | some (.level on t) =>
      let l := s.lane d lane.val
      if s.alive d && !l.pwm && decide (t ≤ s.ns d) then
        let s1 := s.updLane d lane.val (fun l => { l with pend := none })
        if !on && l.level && decide (lane.val < 80) then s1.switchOff d lane.val
        else (s1.updLane d lane.val (fun l => { l with level := on })).settlePin lane.val
      else s
    | _ => s)

/-- A ramp lane at a period start: its duty falls linearly to 0 over the ramp, which then ends (R147); a command that arrives before
the next period start waits for it (R258). -/
def State.rampPeriod (s : State) (d : Die) (lane t0 len time : Nat) : State :=
  if t0 + len ≤ time then
    s.updLane d lane (fun l => { l with level := false, ramp := none, duty := 0, start := time, ending := true })
  else
    let dt := (laneMinPeriod lane * (t0 + len - time) / len) / 2 * 2
    s.updLane d lane (fun l => { l with duty := dt, level := decide (dt ≠ 0), start := time })

/-- A lane reaches a period start of its grid (R170 to R172, R300, R301). A period and on time written at least 1 µs
before take effect, a new period not before the end of the one that runs, which is not repeated meanwhile; a level that waits for
this time or an earlier one ends PWM. A ramp lane runs on the grid of its ramp. -/
def State.periodStart (s : State) (d : Die) (lane t : Nat) : State :=
  let l := s.lane d lane
  match l.ramp with
  | some (t0, len) =>
    if t0 ≤ t ∧ (t - t0) % laneMinPeriod lane = 0 then s.rampPeriod d lane t0 len t else s
  | none =>
    let own := l.pwm && s.onGrid d lane l.period t && s.mayStart d lane t
    let run := fun (s : State) => s.updLane d lane (fun l => { l with
      pwm := !(l.ending && l.pend.isNone), level := decide (l.duty ≠ 0), start := t, moved := false,
      ending := l.ending && l.pend.isSome })
    match l.pend with
    | some (.pwm p on arr) =>
      if arr + 1000 ≤ t ∧ s.onGrid d lane p t = true ∧ s.mayStart d lane t = true then
        s.updLane d lane (fun l => { l with
          pwm := true, period := p, duty := on, level := decide (on ≠ 0), pend := none, start := t, moved := false,
          ending := false })
      else if own && decide (p = l.period) then run s else s
    | some (.level on t0) =>
      if own ∧ t0 ≤ t then
        let full := decide (l.duty = l.period)
        let s1 := s.updLane d lane (fun l => { l with
          pend := none, start := t, moved := false, ending := false })
        if !on && full && decide (lane < 80) then s1.switchOff d lane
        else s1.updLane d lane (fun l => { l with pwm := false, level := on })
      else if own then run s else s
    | none => if own then run s else s

/-- PWM_PERIOD_START: a lane of a running die at a period start; the pin of a lane that drives one follows (R487). -/
def execPwmPeriodStart (d : Die) (lane : Fin 96) (time : BitVec 64) (s : State) : Out :=
  .next (if !s.alive d then s else ((s.settlePin lane.val).periodStart d lane.val time.toNat).settlePin lane.val)

end Sys2Proof.Machine
end

