-- ==== Sys2Proof/Machine/Power.lean ====
section
/-! DEFINITION. Power stage and channel protection (spec/04): feeds, current limit and trips, junction temperature, lamp mode,
open load, the wire model, soft switch-off, calibration, the commands of R156 and the records of R157 to R160. -/

namespace Sys2Proof.Machine

/-! ### Records -/

/-- The gauge a channel type needs at least, its modes and its open-load threshold range (R131, R157). -/
def channelOk (sd : Nat) (b : List Byte) : Bool :=
  let typ := sdType sd
  let mode := u8 b 1
  let amb := toSigned 8 (u8 b 6)
  let pred := decide (u8 b 7 / 4 % 2 = 1)
  let (lo, hi) := match typ with
    | 1 => (100, 4000)
    | 2 => (20, 1000)
    | 3 => if mode = 2 then (50, 2000) else (5, 500)
    | _ => (50, 2000)
  decide (b.length = 24 ∧ u8 b 0 < sdChans sd) &&
  (match typ with
   | 1 => decide (mode = 0)
   | 2 => decide (mode ≤ 1)
   | 3 => decide (mode ≤ 2)
   | _ => decide (mode = 3)) &&
  decide (u8 b 2 ≤ 11 ∧ (match typ with | 1 => 7 | 2 => 2 | 3 => 0 | _ => 4) ≤ u8 b 2 ∧ u8 b 3 ≤ 5 ∧ 10 ≤ u16 b 4 ∧
    u16 b 4 ≤ 5000 ∧ -40 ≤ amb ∧ amb ≤ 125 ∧ u8 b 7 < 8 ∧ lo ≤ u16 b 8 ∧ u16 b 8 ≤ hi ∧ 10 ≤ u16 b 0xA ∧ u16 b 0xA ≤ 1000) &&
  !(pred && decide (typ = 4)) &&
  (if mode = 1 then decide (5 ≤ u8 b 0xC ∧ u8 b 0xC ≤ 250) else decide (u8 b 0xC = 0)) &&
  (if pred then decide (2 ≤ u8 b 0xD ∧ u8 b 0xD ≤ 50 ∧ 1 ≤ u16 b 0xE) else decide (u8 b 0xD = 0 ∧ u16 b 0xE = 0)) &&
  zeroBytes b 0x10 8

/-- CHANNEL_RECORD (R157, R158): the lk fields of one channel. -/
def execChannelRecord (d : Die) (r : Rec) (s : State) : Out :=
  let b := r.body
  .next (s.applyRec d r (u8 b 0) false 0x0201 (goodIf (decide (r.inst < 19) && channelOk r.inst b)) (fun s =>
    let sd := r.inst
    let k := u8 b 0
    let cfg := u8 b 1 + 4 * (u8 b 7 / 2 % 2) + 8 * (u8 b 7 / 4 % 2) + 16 + 256 * u8 b 2 + 4096 * u8 b 3 + 65536 * u16 b 4
    let prm := u8 b 6 + 256 * (u8 b 7 % 2) + 65536 * u8 b 0xC + 2 ^ 24 * u8 b 0xD
    (((s.wr d (PWR_CHkCFG sd k) (BitVec.ofNat 32 cfg)).wr d (PWR_CHkPRM sd k) (BitVec.ofNat 32 prm)).wr d
      (PWR_CHkOL sd k) (BitVec.ofNat 32 (u16 b 8 + 65536 * u16 b 0xA))).wr d (PWR_CHkLDECL sd k)
        (BitVec.ofNat 32 (u16 b 0xE))))

/-- FEED_RECORD (R159): the setting of each feed, for every switch die on it. -/
def execFeedRecord (d : Die) (r : Rec) (s : State) : Out :=
  let b := r.body
  .next (s.applyRec d r 0 false 0x0202
    (goodIf (decide (r.inst = 0 ∧ b.length = 8 ∧ u8 b 0 ≤ 1 ∧ u8 b 1 ≤ 1) && zeroBytes b 2 6)) (fun s =>
    (List.range 19).foldl (fun st sd =>
      st.setF d (PWR_DCFG sd) PWR_DCFG__SETTING (if sdFeedB sd then u8 b 1 else u8 b 0)) s))

/-! ### Feeds (R121 to R124) -/

/-- UNDERVOLTAGE_TURN_OFF: below 5.5 V ±0.15 V or 24 V ±0.4 V (LSB 1.25 mV). -/
def execUndervoltageTurnOff (sd : Fin 19) (volt : BitVec 16) (s : State) : Out :=
  .next (
    let x := s.sd sd.val
    if x.started && decide (volt.toNat < if x.set48 then 19520 else 4520) then
      (s.updSd sd.val (fun x => { x with uvOff := true, feedOk := false })).feedOff sd.val
    else s)

/-- UNDERVOLTAGE_RESTART: at or above the restart threshold for 1 ms. -/
def execUndervoltageRestart (sd : Fin 19) (s : State) : Out :=
  .next (if (s.sd sd.val).started then
      (s.updSd sd.val (fun x => { x with uvOff := false, feedOk := true })).settleAll sd.val
    else s)

/-- OVERVOLTAGE_TURN_OFF: above 60 V ±1 V. -/
def execOvervoltageTurnOff (sd : Fin 19) (volt : BitVec 16) (s : State) : Out :=
  .next (if (s.sd sd.val).started && decide (47200 < volt.toNat) then
      (s.updSd sd.val (fun x => { x with ovOff := true })).feedOff sd.val
    else s)

/-- OVERVOLTAGE_RESTART: below 58 V for 100 µs. -/
def execOvervoltageRestart (sd : Fin 19) (s : State) : Out :=
  .next (if (s.sd sd.val).started then
      (s.updSd sd.val (fun x => { x with ovOff := false })).settleAll sd.val
    else s)

/-- SETTING_MISMATCH: a 12 V die above 20 V ±0.5 V, a 48 V die from 6.0 V ±0.15 V to 20 V ±0.5 V, for 10 ms. -/
def execSettingMismatch (sd : Fin 19) (volt : BitVec 16) (s : State) : Out :=
  .next (
    let x := s.sd sd.val
    let v := volt.toNat
    if x.started && (if x.set48 then decide (4680 ≤ v ∧ v < 16400) else decide (15600 < v)) then
      s.updSd sd.val (fun x => { x with mismatch := true })
    else s)

/-- SETTING_MISMATCH_CLEAR: out of the flagged range for 10 ms. -/
def execSettingMismatchClear (sd : Fin 19) (s : State) : Out :=
  .next (s.updSd sd.val (fun x => { x with mismatch := false }))

/-! ### Current limit, trips, temperature, lamp mode (R126 to R130) -/

/-- CURRENT_LIMIT: an on channel reaches its limit; a sample below the limit shows that it has left it. -/
def execCurrentLimit (sd : Fin 19) (k : Fin 8) (s : State) : Out :=
  .next (if s.sdHas sd.val k.val && (s.chan sd.val k.val).on then
      s.updChan sd.val k.val (fun c => { c with inLimit := true })
    else s)

/-- OVERCURRENT_TRIP: in limit for the limit time: off and latched, but inside an open lamp window turned off for a retry,
up to 64 times, unless a latch of the wire model waits; together with a junction shutdown of the same cycle it is reported beside it
(R155). -/
def execOvercurrentTrip (sd : Fin 19) (k : Fin 8) (s : State) : Out :=
  .next (
    let c := s.chan sd.val k.val
    let shut := c.latched && decide (c.limitAt = some (s.sd sd.val).cycles)
    if s.sdHas sd.val k.val && (c.inLimit || shut) then
      let s1 := s.sdEvent sd.val k.val 0x20
      if shut then s1.updChan sd.val k.val (fun c => { c with limitAt := none })
      else if c.warmOpen && !c.latchPend then
        if c.retries < 64 then
          (s1.setOn sd.val k.val false).updChan sd.val k.val (fun c => { c with
            lampRetry := true, ramping := false, rampSelf := false })
        else (s1.latch sd.val k.val true).sdEvent sd.val k.val 0x29
      else s1.latch sd.val k.val true
    else s)

/-- JUNCTION_WARNING: 150 degC reached; nothing changes but the report. -/
def execJunctionWarning (sd : Fin 19) (k : Fin 8) (temp : BitVec 16) (s : State) : Out :=
  .next (if s.sdHas sd.val k.val && decide (1200 ≤ temp.toInt) then
      (s.updChan sd.val k.val (fun c => { c with tj := temp.toInt })).sdEvent sd.val k.val 0x24
    else s)

/-- THERMAL_SHUTDOWN: 175 degC reached: off, latched, TSD. -/
def execThermalShutdown (sd : Fin 19) (k : Fin 8) (temp : BitVec 16) (s : State) : Out :=
  .next (if s.sdHas sd.val k.val && decide (1400 ≤ temp.toInt) then
      ((s.updChan sd.val k.val (fun c => { c with tj := temp.toInt })).latch sd.val k.val
        (!(s.chan sd.val k.val).latched)).sdEvent sd.val k.val 0x23
    else s)

/-- LAMP_RETRY: 0.4 ms after a trip inside the window the channel is turned on again. -/
def execLampRetry (sd : Fin 19) (k : Fin 8) (s : State) : Out :=
  .next (if s.sdHas sd.val k.val && (s.chan sd.val k.val).lampRetry then
      (s.updChan sd.val k.val (fun c => { c with lampRetry := false, retries := c.retries + 1 })).settle sd.val k.val
    else s)

/-- WARM_WINDOW_END: the warm time ends. -/
def execWarmWindowEnd (sd : Fin 19) (k : Fin 8) (s : State) : Out :=
  .next (s.updChan sd.val k.val (fun c => { c with warmOpen := false }))

/-! ### Open load (R131 to R134) -/

/-- OPEN_LOAD_ON: the current of an on channel has stayed below its threshold for the filter time, or at or above it. -/
def execOpenLoadOn (sd : Fin 19) (k : Fin 8) (below : Bool) (s : State) : Out :=
  .next (
    let c := s.chan sd.val k.val
    if s.sdHas sd.val k.val && c.on then
      if below then
        if c.ol = 1 then s
        else (s.updChan sd.val k.val (fun c => { c with ol := 1 })).sdEvent sd.val k.val 0x25
      else if c.ol = 1 then s.updChan sd.val k.val (fun c => { c with ol := 0 })
      else s
    else s)

/-- OFF_STATE_TEST: an off channel with off-state testing on, off for 5 ms or asked for by OLTEST, is measured: above the
feed voltage less 1.0 V it is short to feed, which the completed test reports (R133); the pull-up source is applied. In standby the
die has no open-load detection on an off channel (R115). -/
def execOffStateTest (sd : Fin 19) (k : Fin 8) (vout vfeed : BitVec 16) (s : State) : Out :=
  .next (
    let c := s.chan sd.val k.val
    let x := s.sd sd.val
    let rested := match c.offAt with | none => true | some t => decide (t + 50 ≤ x.cycles)
    if s.sdHas sd.val k.val && decide (s.chSet sd.val k.val PWR_CHkCFG__OLOFF = 1) && !c.on && !x.standby &&
        (rested || c.testAsked) then
      s.updChan sd.val k.val (fun c => { c with
        offTest := true, testAsked := false, offFind := if vfeed.toNat < vout.toNat + 800 then 3 else 0 })
    else s)

/-- OFF_STATE_TEST_COMPLETE: every completed test reports what it found: short to feed in step 1, else open load in the off state where
the output is still above 2.5 V or 10 V after 2 ms. Short to feed masks what step 3 finds (log entry 72). -/
def execOffStateTestComplete (sd : Fin 19) (k : Fin 8) (vout : BitVec 16) (s : State) : Out :=
  .next (
    let c := s.chan sd.val k.val
    if s.sdHas sd.val k.val && c.offTest then
      let open_ := decide ((if (s.sd sd.val).set48 then 8000 else 2000) < vout.toNat)
      let found := if c.offFind = 3 then 3 else if open_ then 2 else 0
      let s1 := s.updChan sd.val k.val (fun c => { c with offTest := false, offFind := 0, ol := found })
      if found = 3 then s1.sdEvent sd.val k.val 0x27 else if found = 2 then s1.sdEvent sd.val k.val 0x26 else s1
    else s)

/-! ### The protection program (R135 to R147) -/

/-- Whether the protection program of a die models a channel now (R135): its nib stands at MBX.GET, so it is not halted. -/
def State.modelled (s : State) (d : Die) (sd k : Nat) : Bool :=
  s.clRuns d (s.cluster d sd) && decide (((s.cl d (s.cluster d sd)).nib 29).run = .inGet) && decide (k < sdChans sd) && s.bit d (PWR_CHkCFG sd k) PWR_CHkCFG__USED &&
    decide (s.fld d (PWR_DSTAT sd) PWR_DSTAT__MODE ≠ 0) && !s.bit d (PWR_DCTLST sd) PWR_DCTLST__HOLD

/-- A wire-model trip (R139): the channel is switched off as R145 decides, the authority sends LATCH with cause 0x1 after
its RAMP, WTRIP is set and a record of class 0x0C written. -/
def State.wireTrip (s : State) (d : Die) (sd k : Nat) (w : Wire) : State :=
  let n := gch sd k
  let s1 := (s.setF d (PWR_CHkFLT sd k) PWR_CHkFLT__WTRIP 1).record d (0x0E00 + sd) 0x0C n 0
    (eighths w.tc + 65536 * eighths w.ti)
  let s2 := if (s1.lane d n).ramp.isSome then s1 else s1.switchOff d n
  if s.driver d sd = d then s2.sendCmd d sd 5 k 1 else s2

/-- L_est and R_est of a channel with clamp prediction shown: the declared inductance and no resistance where nothing has been estimated
since the model was started (R144). -/
def State.showEst (s : State) (d : Die) (sd k : Nat) : State :=
  if s.bit d (PWR_CHkCFG sd k) PWR_CHkCFG__CLPRED then
    let w := s.wire d (gch sd k)
    (s.setF d (PWR_CHkLEST sd k) PWR_CHkLEST__LEST (satTo 0xFFFE (w.lest.getD (s.ldecl d sd k)))).setF d (PWR_CHkLEST sd k)
      PWR_CHkLEST__REST (satTo 0xFFFE w.rest)
  else s

/-- WIRE_MODEL_STEP (R137 to R142). -/
def execWireModelStep (d : Die) (sd : Fin 19) (k : Fin 8) (s : State) : Out :=
  .next (
    if s.modelled d sd.val k.val then
      let n := gch sd.val k.val
      let w := s.wireStart d sd.val k.val
      let g := s.fld d (PWR_CHkCFG sd.val k.val) PWR_CHkCFG__GAUGE
      let msq := tget 0 (s.qsd d sd.val).msq k.val
      let res := (wireParams g).1
      let t := wireStep g sd.val msq (s.tamb d sd.val k.val) w.tc w.ti
      let lim := degC (classLimit (s.fld d (PWR_CHkCFG sd.val k.val) PWR_CHkCFG__CLASS))
      let len := s.fld d (PWR_CHkCFG sd.val k.val) PWR_CHkCFG__LENGTH
      let loss := (wirePower sd.val msq (wireRes res w.tc) * (len : Int) / 100000000).toNat
      let hot := decide (lim ≤ t.1)
      let warm := decide (lim - degC 10 ≤ t.1)
      let w1 : Wire := { w with
        tc := t.1, ti := t.2, tripped := hot, warned := warm, loss := loss, lossSum := w.lossSum + loss }
      let s0 := s.updWire d n (fun _ => w1)
      let s1 := if (s.wire d n).live then s0 else s0.showEst d sd.val k.val
      let s2 := s1.wr d (PWR_CHkWT sd.val k.val) (BitVec.ofNat 32 (eighths t.1 + 65536 * eighths t.2))
      let cool := decide (t.1 ≤ lim - degC 25 ∧ t.2 ≤ lim - degC 25)
      let s3 := s2.setF d (PWR_CHkSTAT sd.val k.val) PWR_CHkSTAT__RESTOK (b2n cool)
      let s4 := if warm && !w.warned then s3.setF d (PWR_CHkFLT sd.val k.val) PWR_CHkFLT__WWARN 1 else s3
      if hot && !w.tripped then s4.wireTrip d sd.val k.val w1 else s4
    else s)

/-- An inductance taken as the estimate and shown. -/
def State.declareL (s : State) (d : Die) (sd k l : Nat) : State :=
  (s.updWire d (gch sd k) (fun w => { w with lest := some l })).showEst d sd k

/-- INDUCTANCE_ESTIMATE (R144): from the samples at t1 and t2 after switch-on; a channel switched off before t2, or a
difference below 20 LSB of the normal range (log entry 73), gives the declared inductance. -/
def execInductanceEstimate (d : Die) (sd : Fin 19) (k : Fin 8) (i1 i2 : BitVec 16) (s : State) : Out :=
  .next (
    if s.modelled d sd.val k.val && s.bit d (PWR_CHkCFG sd.val k.val) PWR_CHkCFG__CLPRED then
      let w := s.wire d (gch sd.val k.val)
      let a := sampleUA sd.val i1.toNat
      let b := sampleUA sd.val i2.toNat
      let on := s.chanOn d sd.val k.val
      let dt : Int := if sdType sd.val = 3 then 400 else 200
      if on && decide (20 * (sdLsb sd.val : Int) ≤ b - a) then
        let drop := (a + b) * (w.rest : Int) / 2000
        let l := ((s.vfeedUV d sd.val - drop) * dt / (b - a)).toNat
        s.declareL d sd.val k.val l
      else s.declareL d sd.val k.val (s.ldecl d sd.val k.val)
    else s)

/-- RAMP_END (R147): the line has stayed low for a period at the maximum frequency, or the ramp time and 1 ms have
passed: off, SOFTOFF. -/
def execRampEnd (sd : Fin 19) (k : Fin 8) (s : State) : Out :=
  .next (if s.sdHas sd.val k.val && (s.chan sd.val k.val).ramping then s.rampDone sd.val k.val else s)

/-! ### Commands of R156 -/

/-- Whether an initiator may write the channel commands of a switch die: an owner of one of its channels for the die-wide
registers. -/
def State.mayDie (s : State) (d : Die) (who : Initiator) (sd : Nat) : Bool :=
  (List.range (sdChans sd)).any (fun k => s.mayChannel d who (gch sd k))

/-- A command sent on the link of the die that holds the controlling cluster's token, reached over the pair link in class
3 from the other die (R156). -/
def State.sendByHolder (s : State) (d : Die) (sd typ ch low : Nat) : State :=
  let h := s.driver d sd
  if h = d then s.sendCmd d sd typ ch low
  else if s.alive h then s.plSend d 3 (.serial sd typ ch low)
  else s

/-- A write to PWR_CHkCMD, unmapped beyond the channels of the die (R36, R156), sent as a command. -/
def State.chanCmd (s : State) (d : Die) (who : Initiator) (sd k typ : Nat) : State :=
  if !s.alive d then s
  else if sdChans sd ≤ k then s.reply .error
  else if s.mayChannel d who (gch sd k) then s.sendByHolder d sd typ k 0
  else s

/-- PWR_RESTART: RESTART written to PWR_CHkCMD. -/
def execPwrRestart (d : Die) (who : Initiator) (sd : Fin 19) (k : Fin 8) (s : State) : Out := .next (s.chanCmd d who sd.val k.val 7)

/-- PWR_OLTEST: OLTEST written to PWR_CHkCMD. -/
def execPwrOltest (d : Die) (who : Initiator) (sd : Fin 19) (k : Fin 8) (s : State) : Out := .next (s.chanCmd d who sd.val k.val 8)

/-- PWR_CALCMD_CAPTURE. -/
def execPwrCalcmdCapture (d : Die) (who : Initiator) (sd : Fin 19) (ch : Fin 8) (low : Bool) (point : Fin 4) (s : State) :
    Out :=
  .next (if s.alive d && s.mayChannel d who (gch sd.val ch.val) && decide (ch.val < sdChans sd.val) then
      s.sendByHolder d sd.val 0x0A 0 (ch.val + 8 * b2n low + 16 * point.val + 64)
    else s)

/-- PWR_CALCMD_COMMIT. -/
def execPwrCalcmdCommit (d : Die) (who : Initiator) (sd : Fin 19) (ch : Fin 8) (low : Bool) (s : State) : Out :=
  .next (if s.alive d && s.mayChannel d who (gch sd.val ch.val) && decide (ch.val < sdChans sd.val) then
      s.sendByHolder d sd.val 0x0A 0 (ch.val + 8 * b2n low + 128)
    else s)

/-- PWR_CALCMD_CANCEL. -/
def execPwrCalcmdCancel (d : Die) (who : Initiator) (sd : Fin 19) (ch : Fin 8) (low : Bool) (s : State) : Out :=
  .next (if s.alive d && s.mayChannel d who (gch sd.val ch.val) && decide (ch.val < sdChans sd.val) then
      s.sendByHolder d sd.val 0x0A 0 (ch.val + 8 * b2n low + 192)
    else s)

/-- PWR_CALREF_WRITE: sent as CALREF on the written die's own link. -/
def execPwrCalrefWrite (d : Die) (who : Initiator) (sd : Fin 19) (ref : BitVec 16) (s : State) : Out :=
  .next (if s.alive d && s.mayDie d who sd.val then
      (s.setF d (PWR_CALREF sd.val) PWR_CALREF__REF ref.toNat).sendFrame d sd.val 0x0B 0 ref.toNat
    else s)

/-! ### Downstream frames of the power stage -/

/-- LATCH (R147, R155, R176): cause 0x1 waits for the end of a ramp, and refuses a RESTART of its cycle all the same; cause 0x2 is hard
at once. -/
def execLatch (d : Die) (sd : Fin 19) (frame : Word) (s : State) : Out :=
  let k := frameCh frame
  .next (s.command d sd.val frame 5 false false (fun s =>
    if !s.sdHas sd.val k then .refuse
    else match frameData frame % 16 with
      | 1 => .done (fun s =>
        if (s.chan sd.val k).ramping then
          let now := (s.sd sd.val).cycles
          let s1 := s.updChan sd.val k (fun c => { c with latchPend := true, latchCyc := some now })
          if (s.chan sd.val k).restartCyc = some now then s1.sdEvent sd.val k 0x2A else s1
        else s.latch sd.val k true)
      | 2 => .done (fun s => s.latch sd.val k false)
      | _ => .refuse))

/-- RAMP (R147): a ramp of 2 to 50 ms on a channel that is on; time 0 ends a ramp at full on without SOFTOFF, but a latch of the wire
model that waits for its end takes effect then (R139). -/
def execRamp (d : Die) (sd : Fin 19) (frame : Word) (s : State) : Out :=
  let k := frameCh frame
  let ms := frameData frame % 64
  .next (s.command d sd.val frame 6 false false (fun s =>
    if !s.sdHas sd.val k then .refuse
    else if ms = 0 then .done (fun s =>
      let c := s.chan sd.val k
      if !c.ramping then s
      else if c.latchPend then s.latch sd.val k true
      else s.updChan sd.val k (fun c => { c with ramping := false, rampSelf := false, want := true }))
    else if 2 ≤ ms ∧ ms ≤ 50 then .done (fun s =>
      if (s.chan sd.val k).on then s.updChan sd.val k (fun c => { c with ramping := true, rampMs := ms, rampSelf := false })
      else s)
    else .refuse))

/-- RESTART (R128, R88, R204): clears the latch when the wire model permits restart (not asked in START), the channel is
below 150 degC, the feed does not hold it off and no trip or latch came in the same cycle; else RESTREF. -/
def execRestart (d : Die) (sd : Fin 19) (frame : Word) (s : State) : Out :=
  let k := frameCh frame
  .next (s.command d sd.val frame 7 false true (fun s =>
    let c := s.chan sd.val k
    let x := s.sd sd.val
    if !s.sdHas sd.val k then .refuse
    else
      let ok := (decide (x.mode = .start) || s.bit d (PWR_CHkSTAT sd.val k) PWR_CHkSTAT__RESTOK) &&
        decide (c.tj < 1200) && !x.feedHolds && decide (c.latchCyc ≠ some x.cycles)
      .done (fun s =>
        if !c.latched then
          let s1 := s.updChan sd.val k (fun c => { c with restartCyc := some x.cycles })
          if c.latchPend && decide (c.latchCyc = some x.cycles) then s1.sdEvent sd.val k 0x2A else s1
        else if ok then
          (s.updChan sd.val k (fun c => { c with latched := false, restartCyc := some x.cycles })).settle sd.val k
        else s.sdEvent sd.val k 0x2A)))

/-- OLTEST (R132): one off-state test of an off channel with off-state testing on; otherwise nothing. -/
def execOltest (d : Die) (sd : Fin 19) (frame : Word) (s : State) : Out :=
  let k := frameCh frame
  .next (s.command d sd.val frame 8 false true (fun s =>
    if !s.sdHas sd.val k then .refuse
    else .done (fun s =>
      if !(s.chan sd.val k).on && decide (s.chSet sd.val k PWR_CHkCFG__OLOFF = 1) then
        s.updChan sd.val k (fun c => { c with testAsked := true })
      else s)))

/-! ### Calibration (R150 to R152) -/

/-- The registers of a die's capture shown on both dies. -/
def State.showCapture (s : State) (sd : Nat) : State :=
  let cap := (s.sd sd).capture
  (s.setBoth (PWR_CALRES sd) PWR_CALRES__STATE cap.state).setBoth (PWR_CALRES sd) PWR_CALRES__NPTS cap.points.length

/-- A capture changed and shown. -/
def State.updCapture (s : State) (sd : Nat) (f : Capture → Capture) : State :=
  (s.updSd sd (fun x => { x with capture := f x.capture })).showCapture sd

/-- The points of another channel or range discarded. -/
def Capture.forChannel (c : Capture) (ch : Nat) (low : Bool) : Capture :=
  if c.ch = ch ∧ c.low = low then c else { c with ch := ch, low := low, points := [] }

/-- CALCMD frame with OP 0b01: an average of 10 ms begins, for the reference that stands now (R150). -/
def execCalcmdCapture (d : Die) (sd : Fin 19) (frame : Word) (s : State) : Out :=
  let v := frameData frame % 256
  .next (if v / 64 ≠ 1 then s else s.command d sd.val frame 0x0A false true (fun s =>
    if !s.sdHas sd.val (v % 8) then .refuse
    else .done (fun s => s.updCapture sd.val (fun c =>
      { c.forChannel (v % 8) (bitOf v 3) with busy := some (v / 16 % 4), busyRef := c.ref, state := 1 }))))

/-- CAPTURE_COMPLETE: the mean of 10 ms, without the field calibration (log entry 9), held as the point, or the capture aborted. -/
def execCaptureComplete (sd : Fin 19) (mean : BitVec 16) (aborted : Bool) (s : State) : Out :=
  let code := fun (v : Nat) => match sdType sd.val with
    | 3 => ((v % 2 ^ 15 : Nat) : Int)
    | 4 => toSigned 16 v
    | _ => (v : Int)
  .next (match (s.sd sd.val).capture.busy with
    | some p =>
      if aborted then s.updCapture sd.val (fun c => { c with busy := none, state := 6 })
      else s.updCapture sd.val (fun c => { c with
        busy := none, state := 2, points := tput c.points p (c.busyRef, code mean.toNat) })
    | none => s)

/-- The calibration range in sample units (R151). -/
def calRange (sd : Nat) (low : Bool) : Int := if low then 4000 else ((sdAmps sd * 10000 / sdLsb sd : Nat) : Int)

/-- The least-squares fit of reference = (1 + g) × reading + o: g in units of 2^-16 and o; none where the readings are
all alike (R151). -/
def calFit (pts : List (Int × Int)) : Option (Int × Int) :=
  let n : Int := pts.length
  let sx := (pts.map (·.2)).sum
  let sy := (pts.map (·.1)).sum
  let sxx := (pts.map (fun p => p.2 * p.2)).sum
  let sxy := (pts.map (fun p => p.1 * p.2)).sum
  let den := n * sxx - sx * sx
  if den = 0 then none
  else
    let num := n * sxy - sx * sy
    some ((num - den) * 65536 / den, (sy * den - num * sx) / (n * den))

/-- The mean of reference − (1 + g) × reading, for a gain g in units of 2^-16. -/
def calMean (g : Int) (pts : List (Int × Int)) : Int :=
  (pts.map (fun p => p.1 * 65536 - (65536 + g) * p.2)).sum / (65536 * pts.length)

/-- A calibration judged (R152): rejected beyond 3 % of gain or 2 % of range of offset, else in force and shown. -/
def State.calJudge (s : State) (sd ch : Nat) (low : Bool) (g o : Int) (offsetOnly : Bool) : State :=
  let n := gch sd ch
  let det := ofSigned 16 g + 65536 * ofSigned 16 o
  let bad := decide (3 * 65536 < 100 * g ∨ 100 * g < -(3 * 65536) ∨ 2 * calRange sd low < 100 * o ∨
    100 * o < -(2 * calRange sd low))
  if bad then
    (s.updCapture sd (fun c => { c with state := 5 })).recordBoth (0x0E00 + sd) 0x16 (n + 256 * b2n low) 0 det
  else
    let s1 := s.updChan sd ch (fun c => { c with
      calGain := if low then c.calGain else g, calOffs := if low then c.calOffs else o,
      lowGain := if low then g else c.lowGain, lowOffs := if low then o else c.lowOffs,
      calOffOnly := offsetOnly, calField := true, calSuspect := false, calLow := low })
    let v := ofSigned 16 g + 65536 * ofSigned 12 o + 2 ^ 28 * b2n offsetOnly + 2 ^ 29
    let s2 := ((s1.wr 0 (PWR_CHkCAL sd ch) (BitVec.ofNat 32 v)).wr 1 (PWR_CHkCAL sd ch) (BitVec.ofNat 32 v)).updCapture sd
      (fun c => { c with state := if offsetOnly then 4 else 3 })
    if offsetOnly then s2.recordBoth (0x0E00 + sd) 0x16 (n + 256 * b2n low) 0x08 det else s2

/-- A reference of PWR_CALREF in sample units: bit 15 excluded for L, two's complement for B (R150). -/
def calRef (sd v : Nat) : Int := match sdType sd with
  | 3 => ((v % 2 ^ 15 : Nat) : Int)
  | 4 => toSigned 16 v
  | _ => (v : Int)

/-- The held points evaluated (R151). Where the rule gives no result (no point held, or readings all alike), the value is
free (log entry 6). -/
def State.calCommit (s : State) (sd ch : Nat) (low : Bool) : State :=
  let pts := (s.sd sd).capture.points.map (fun e => (calRef sd e.2.1, e.2.2))
  let refs := pts.map (·.1)
  let hi := refs.foldl max (refs.headD 0)
  let lo := refs.foldl min (refs.headD 0)
  let g0 := if low then (s.chan sd ch).lowGain else (s.chan sd ch).calGain
  if 2 ≤ pts.length ∧ 40 * calRange sd low ≤ 100 * (hi - lo) then
    match calFit pts with
    | some (g, o) => s.calJudge sd ch low g o false
    | none => s.withFree (fun v s => s.calJudge sd ch low (toSigned 16 v) (toSigned 16 (v / 65536)) false)
  else if pts = [] then s.withFree (fun v s => s.calJudge sd ch low g0 (toSigned 16 v) true)
  else s.calJudge sd ch low g0 (calMean g0 pts) true

/-- CALCMD frame with OP 0b10. -/
def execCalcmdCommit (d : Die) (sd : Fin 19) (frame : Word) (s : State) : Out :=
  let v := frameData frame % 256
  .next (if v / 64 ≠ 2 then s else s.command d sd.val frame 0x0A false true (fun s =>
    if !s.sdHas sd.val (v % 8) then .refuse
    else .done (fun s =>
      (s.updCapture sd.val (fun c => c.forChannel (v % 8) (bitOf v 3))).calCommit sd.val (v % 8) (bitOf v 3))))

/-- CALCMD frame with OP 0b11: every held point discarded. -/
def execCalcmdCancel (d : Die) (sd : Fin 19) (frame : Word) (s : State) : Out :=
  let v := frameData frame % 256
  .next (if v / 64 ≠ 3 then s else s.command d sd.val frame 0x0A false true (fun s =>
    if !s.sdHas sd.val (v % 8) then .refuse
    else .done (fun s => s.updCapture sd.val (fun c => { c with points := [], busy := none, state := 0 }))))

/-- CALREF: the reference of the next capture, accepted on either link and in every mode. -/
def execCalref (d : Die) (sd : Fin 19) (frame : Word) (s : State) : Out :=
  .next (s.downFrame d sd.val frame 0x0B (fun s =>
    s.updSd sd.val (fun x => { x with capture := { x.capture with ref := frameData frame } })))

/-! ### Sense samples -/

/-- An upstream frame reaching a Q-die (R175, R179): a failing or wrongly directed one is discarded and counted; one of
the type `typ` is handed on. Frames back after an absence make the Q-die send SVCENT (in `back`). -/
def State.upFrame (s : State) (d : Die) (sd : Nat) (f : Word) (typ : Nat) (act : State → State) : State :=
  let s0 := s.updSd sd (fun x => { x with up := x.up.upd d (takeFrame f) })
  if !s.alive d then s0
  else if !(frameOk f && isUp (frameType f)) then
    let s1 := s0.addSat d (PWR_DLINK sd) PWR_DLINK__UPERR 1
    if frameOk f then s1 else s1.setF d (PWR_DFLT sd) PWR_DFLT__LINKERR 1
  else if frameType f = typ then act s0
  else s0

/-- The steady-current watch of R144: 1 ms after the sample it compares with, a change below 1 % refreshes R_est. -/
def State.steady (s : State) (d : Die) (sd k : Nat) (i : Int) : State :=
  let n := gch sd k
  let w := s.wire d n
  let now := s.ns d
  match w.lastSample with
  | none => s.updWire d n (fun w => { w with lastSample := some (now, i) })
  | some (t, j) =>
    if t + 1000000 ≤ now then
      let diff := if i ≤ j then j - i else i - j
      let still := decide (0 < j) && decide (0 < i) && decide (100 * diff * 1000000 < j * ((now - t : Nat) : Int))
      s.updWire d n (fun w => { w with
        lastSample := some (now, i), restSeen := w.restSeen || still,
        rest := if still then (s.vfeedUV d sd * 1000 / i).toNat else w.rest }) |>.showEst d sd k
    else s

/-- SNS (R117, R228): the sample shown, and an input of every cluster that subscribes to the channel's stream. -/
def execSns (d : Die) (sd : Fin 19) (frame : Word) (s : State) : Out :=
  let k := frameCh frame
  .next (s.upFrame d sd.val frame 0x10 (fun s =>
    if k < sdChans sd.val then
      let v := frameData frame
      let s1 := s.setF d (PWR_CHkI sd.val k) PWR_CHkI__ISAMP v
      let e := sampleUA sd.val v * (s.fld d (PWR_CHkV sd.val k) PWR_CHkV__VOUT : Nat) * (if sdType sd.val = 3 then 100 else 50 : Nat)
      let s1 := s1.updWire d (gch sd.val k) (fun w => { w with energy := w.energy + e })
      let s2 := if s.bit d (PWR_CHkCFG sd.val k) PWR_CHkCFG__CLPRED then s1.steady d sd.val k (sampleUA sd.val v) else s1
      (List.range 8).foldl (fun st c => st.streamIn d c (0x80 + gch sd.val k) (st.ns d) (toLE 2 v) false) s2
    else s))

end Sys2Proof.Machine
end

