-- ==== Sys2Proof/Machine/Steering.lean ====
section
/-! DEFINITION. Channel control, steering and fail-safe (spec/05): serial-link commands and the frames that answer them, the
modes of a switch die, loss of control, the fail-safe table and its transfer, channel events, the records of R206 and
R207. -/

namespace Sys2Proof.Machine

/-! ### Records -/

/-- Whether the body and instance of a switch-die control record keep its rules (R206). -/
def controlBodyOk (r : Rec) : Bool :=
  let b := r.body
  decide (r.inst < 19 ∧ b.length = 8 ∧ u8 b 0 ≤ 7 ∧ 1 ≤ u8 b 1 ∧ u8 b 1 ≤ 20 ∧ u8 b 2 ≤ 50 ∧ u8 b 3 ≤ 1) && zeroBytes b 4 4

/-- Whether a record is a switch-die control record that will apply (R206). -/
def controlRecOk (r : Rec) : Bool := decide (r.typ.toNat = 0x0203) && r.headerOk false && controlBodyOk r

/-- SWITCH_DIE_CONTROL_RECORD (R206). -/
def execSwitchDieControlRecord (d : Die) (r : Rec) (s : State) : Out :=
  let b := r.body
  .next (s.applyRec d r 0 false 0x0203 (goodIf (controlBodyOk r))
    (fun s => (s.wr d (PWR_DCCFG r.inst) (BitVec.ofNat 32 (u8 b 0 + 8 * u8 b 3 + 256 * u8 b 1 + 65536 * u8 b 2))).showProt d))

/-- FAIL_SAFE_ENTRY_RECORD (R207). -/
def execFailSafeEntryRecord (d : Die) (r : Rec) (s : State) : Out :=
  let b := r.body
  .next (s.applyRec d r (u8 b 0) false 0x0204 (goodIf (decide (r.inst < 19) && entryOk r.inst b)) (fun s =>
    s.wr d (PWR_CHkFS r.inst (u8 b 0)) (BitVec.ofNat 32
      (u8 b 1 + 4 * (u8 b 2 % 4) + 16 * (u8 b 2 / 128) + 256 * u8 b 3 + 65536 * u16 b 4))))

/-! ### Sending tables and service entry from a Q-die -/

/-- The table image of a switch die built from a die's registers (R194, R196). -/
def State.buildTable (s : State) (d : Die) (sd : Nat) : List Byte :=
  let entry := fun k =>
    let v := (s.rd d (PWR_CHkFS sd k)).toNat
    toLE 1 k ++ toLE 1 (v % 4) ++ toLE 1 (v / 4 % 4 + 128 * (v / 16 % 2)) ++ toLE 1 (v / 256) ++ toLE 2 (v / 65536) ++ toLE 2 0
  let body := toLE 2 0x5346 ++ toLE 1 1 ++ toLE 1 (sdChans sd) ++ toLE 1 (s.fld d (PWR_DCCFG sd) PWR_DCCFG__HOLD) ++
    toLE 1 (s.fld d (PWR_DCCFG sd) PWR_DCCFG__WDOG) ++ toLE 1 (s.fld d (PWR_DCFG sd) PWR_DCFG__SETTING) ++
    toLE 1 (s.fld d (PWR_DCCFG sd) PWR_DCCFG__TESTOK) ++ toLE 1 (s.cluster d sd) ++ toLE 7 0 ++
    (List.range (sdChans sd)).flatMap entry
  body ++ toLE 4 (crc32 body)

/-- The TBLDATA frames of an image (R176). -/
def tableFrames : List Byte → List Word
  | a :: b :: l => mkFrame 0x0D 0 (a.toNat + 256 * b.toNat) :: tableFrames l
  | [a] => [mkFrame 0x0D 0 a.toNat]
  | [] => []

/-- A whole table sent on a die's own link with a new TAG (R196, R197). -/
def State.sendTable (s : State) (d : Die) (sd : Nat) : State :=
  let img := s.buildTable d sd
  s.updQsd d sd (fun q =>
    let tag := tget 0 q.nextTag (0x0E * 8) % 16
    { q with
      tblImage := img, tblTag := tag, tblSends := q.tblSends + 1, tblAcked := false,
      nextTag := tset 0 q.nextTag (0x0E * 8) ((tag + 1) % 16),
      down := q.down ++ mkFrame 0x0C 0 img.length :: (tableFrames img ++ [mkFrame 0x0E 0 (tag * 4096)]) })

/-- A table sent on one of the occasions of R196: the count of transfers starts anew. -/
def State.firstTable (s : State) (d : Die) (sd : Nat) : State :=
  (s.updQsd d sd (fun q => { q with tblSends := 0, tblFailed := false })).sendTable d sd

/-- A transfer that was not acknowledged with result 0 (R197): sent again, four times in all, then recorded. -/
def State.tableAgain (s : State) (d : Die) (sd : Nat) : State :=
  if (s.qsd d sd).tblSends < 4 then s.sendTable d sd
  else (s.updQsd d sd (fun q => { q with tblFailed := true })).record d (0x0E00 + sd) 0x08 sd 0x03 0

/-- A SVCENT naming the die's own line (R89, R91, R179): with the token serial by the holder of the token, else with the
serial the switch die last reported, once that is defined. Nothing is sent before the seal, before the table is
acknowledged, or while one waits. -/
def State.sendEntry (s : State) (d : Die) (sd : Nat) : State :=
  let q := s.qsd d sd
  if !(s.alive d && s.isSealed d) || (s.apart && decide (d = 1)) || q.cmds.any (fun c => decide (c.typ = 2)) then s
  else if !q.tblAcked || q.tblFailed then s
  else if s.driver d sd = d then s.sendCmd d sd 2 0 (2 * s.serial (s.cluster d sd) + d.val)
  else if q.serDef then s.sendCmd d sd 2 0 (2 * q.ser + d.val)
  else s

/-! ### Mode requests (R205) -/

/-- A write to PWR_DCTL: REQ 1 enter TEST, 2 leave TEST, 3 enter RECOVERY. -/
def State.dctl (s : State) (d : Die) (who : Initiator) (sd : Nat) (confirm : BitVec 16) (mode : Nat) : State :=
  if !(s.alive d && who.isManager) then s
  else if confirm = 0x5C3A#16 ∧ s.driver d sd = d then
    (s.setF d (PWR_DCTLST sd) PWR_DCTLST__REQRES 1).sendCmd d sd 4 0 mode
  else s.setF d (PWR_DCTLST sd) PWR_DCTLST__REQRES 2

/-- DCTL_ENTER_TEST, DCTL_LEAVE_TEST, DCTL_ENTER_RECOVERY. -/
def execDctlEnterTest (d : Die) (who : Initiator) (sd : Fin 19) (confirm : BitVec 16) (s : State) : Out :=
  .next (s.dctl d who sd.val confirm 1)
def execDctlLeaveTest (d : Die) (who : Initiator) (sd : Fin 19) (confirm : BitVec 16) (s : State) : Out :=
  .next (s.dctl d who sd.val confirm 0)
def execDctlEnterRecovery (d : Die) (who : Initiator) (sd : Fin 19) (confirm : BitVec 16) (s : State) : Out :=
  .next (s.dctl d who sd.val confirm 2)

/-! ### Downstream frames -/

/-- A raw write to PWR_DCTL with REQ 0b00 asks for nothing, but one with a wrong CONFIRM, or on the die that does not hold the token, is
refused (R205). -/
def State.dctlNone (s : State) (d : Die) (who : Initiator) (sd : Nat) (v : Word) : State :=
  if who.isManager && decide (v.toNat % 4 = 0) && !decide (v.toNat / 65536 = 0x5C3A ∧ s.driver d sd = d) then
    s.setF d (PWR_DCTLST sd) PWR_DCTLST__REQRES 2
  else s

/-- CYC (R177 to R179): a Q-die starts its service cycle, its view of the switch die ages by one cycle (PWR_DSTAT.AGE), and it repeats
every command not acknowledged; the switch die takes the link as in step. -/
def execCyc (d : Die) (sd : Fin 19) (count : BitVec 16) (s : State) : Out :=
  .next (
    if s.alive d then
      let s1 := (s.addSat d (PWR_DSTAT sd.val) PWR_DSTAT__AGE 1).updQsd d sd.val (fun q => { q with
        down := (q.cmds.filter (fun c => decide (c.typ = 3))).map (fun c => mkFrame c.typ c.ch c.data) ++ q.down ++
          (q.cmds.filter (fun c => decide (c.typ ≠ 3))).map (fun c => mkFrame c.typ c.ch c.data) })
      if (s1.sd sd.val).started then
        s1.updSd sd.val (fun x => { x with
          links := x.links.upd d (fun l => { l with inStep := true, silent := false, cycle := count.toNat }) })
      else s1
    else s)

/-- Whether a SVCENT or STEER with a serial and a named line, arriving on a link, is accepted (R182). -/
def SwitchDie.accepts (x : SwitchDie) (d named : Die) (ser : Nat) : Bool :=
  decide (named = d) && (match x.s0 with
    | none => true
    | some s0 =>
      let diff := (ser + 2048 - s0.toNat) % 2048
      decide (1 ≤ diff ∧ diff ≤ 1023) || (decide (diff = 0) && decide (named = x.line)))

/-- The fields of SVCENT and STEER (R176). -/
def entrySerial (f : Word) : Nat := frameData f / 2 % 2048
def entryLine (f : Word) : Die := if frameData f % 2 = 1 then 1 else 0

/-- A line and its serial accepted; a SER frame waits (R178, R182, R183). -/
def State.takeLine (s : State) (d : Die) (sd ser : Nat) : State :=
  ((s.steerTo sd d).updSd sd (fun x => { x with s0 := some (BitVec.ofNat 11 ser), auto := false })).sdWait sd
    (mkFrame 0x1E 0 (2 ^ 15 + ser))

/-- The settings of a switch die's channels as an accepted SVCENT finds them on the Q-die it comes from (R158; log entry 24). -/
def State.takeSettings (s : State) (d : Die) (sd : Nat) : State :=
  (List.range (sdChans sd)).foldl (fun st k => st.updChan sd k (fun c => { c with cfg := some (s.rd d (PWR_CHkCFG sd k)) })) s

/-- What an accepted SVCENT does (R185, R192): from START or RECOVERY to SERVICE, or to RECOVERY with TBLDIFF or a faulty
table; it ends a last-state hold in every mode, and a channel without a record is held off from it on (R158). -/
def State.enterService (s : State) (d : Die) (sd ser : Nat) : State :=
  let x := s.sd sd
  let s1 := (((s.takeLine d sd ser).takeSettings d sd).endHold sd).updSd sd (fun x => { x with
    servCyc := if x.mode = .recovery ∨ x.mode = .start then some x.cycles else x.servCyc,
    servFrom := if x.mode = .recovery ∨ x.mode = .start then x.mode else x.servFrom })
  let sound := !x.tblDiff && !x.nvmFault
  match x.mode with
  | .start => s1.sdMode sd (if sound then .service else .recovery)
  | .recovery => if sound then s1.sdMode sd .service else s1.settleAll sd
  | .service => s1.settleAll sd
  | .test => s1.settleAll sd

/-- SVCENT (R89, R182, R185). In START it is discarded during the hold time, before a table is committed, and in the cycle of a watchdog
expiry (R204). -/
def execSvcent (d : Die) (sd : Fin 19) (frame : Word) (s : State) : Out :=
  .next (s.command d sd.val frame 2 true true (fun s =>
    let x := s.sd sd.val
    if x.mode = .start ∧ (x.holding = true ∨ x.committed = false ∨ x.wdogCyc = some x.cycles) then .discard
    else if x.accepts d (entryLine frame) (entrySerial frame) then
      .done (fun s => s.enterService d sd.val (entrySerial frame))
    else .refuse))

/-- STEER (R182, R183, R192): during a hold only the line and its serial are recorded. -/
def execSteer (d : Die) (sd : Fin 19) (frame : Word) (s : State) : Out :=
  .next (s.command d sd.val frame 3 true true (fun s =>
    if (s.sd sd.val).accepts d (entryLine frame) (entrySerial frame) then
      .done (fun s => s.takeLine d sd.val (entrySerial frame))
    else .refuse))

/-- A MODE frame with one request (R185): refused during a last-state hold or where the table of transitions has none. One with the
reserved request 0b11 matches no command and changes nothing, without an ACK (log entry 74). -/
def State.modeFrame (s : State) (d : Die) (sd : Nat) (f : Word) (req : Nat) (ok : SwitchDie → Bool) (m : SdMode) : State :=
  if frameOk f && decide (frameType f = 4) && decide (frameData f % 4 ≠ req) then s
  else s.command d sd f 4 false false (fun s =>
    if !(s.sd sd).lastHold && ok (s.sd sd) then .done (fun s => s.sdMode sd m) else .refuse)

/-- MODE enter TEST, leave TEST, enter RECOVERY. -/
def execModeEnterTest (d : Die) (sd : Fin 19) (frame : Word) (s : State) : Out :=
  .next (s.modeFrame d sd.val frame 1 (fun x => decide (x.mode = .service) && x.testOk) .test)
def execModeLeaveTest (d : Die) (sd : Fin 19) (frame : Word) (s : State) : Out :=
  .next (s.modeFrame d sd.val frame 0 (fun x => decide (x.mode = .test)) .service)
def execModeEnterRecovery (d : Die) (sd : Fin 19) (frame : Word) (s : State) : Out :=
  .next (s.modeFrame d sd.val frame 2 (fun x => decide (x.mode = .service ∨ x.mode = .test)) .recovery)

/-- BDIR (R167): a bridge's direction, from the next falling edge of the followed line or within a cycle while it is low; after a line
change in the same cycle only from a falling edge of the new line (R204). -/
def execBdir (d : Die) (sd : Fin 19) (frame : Word) (s : State) : Out :=
  let k := frameCh frame
  .next (s.command d sd.val frame 9 false false (fun s =>
    if s.sdHas sd.val k && decide (sdType sd.val = 4) then
      .done (fun s => s.updChan sd.val k (fun c => { c with
        dirPend := some (decide (frameData frame % 2 = 1)),
        dirEdge := decide ((s.sd sd.val).steerCyc = some (s.sd sd.val).cycles) }))
    else .refuse))

/-! ### The fail-safe table (R196 to R198) -/

/-- The state of the table shown on both dies (PWR_DTBL). -/
def State.showTable (s : State) (sd st : Nat) : State :=
  let x := s.sd sd
  (((s.updSd sd (fun x => { x with tblState := st })).setBoth (PWR_DTBL sd) PWR_DTBL__STATE st).setBoth (PWR_DTBL sd) PWR_DTBL__SRC x.tblSrc.val).setBoth (PWR_DTBL sd)
    PWR_DTBL__DIFF (b2n x.tblDiff)

/-- A transfer changed on one link. -/
def State.updRx (s : State) (d : Die) (sd : Nat) (f : TableRx → TableRx) : State :=
  s.updSd sd (fun x => { x with rx := x.rx.upd d f })

/-- TBLSTART: a transfer begins with its length. -/
def execTblstart (d : Die) (sd : Fin 19) (frame : Word) (s : State) : Out :=
  .next (s.downFrame d sd.val frame 0x0C (fun s =>
    (s.updRx d sd.val (fun r => { r with len := frameData frame, bytes := [], busy := true })).showTable sd.val 1))

/-- TBLDATA: the next two bytes. -/
def execTbldata (d : Die) (sd : Fin 19) (frame : Word) (s : State) : Out :=
  .next (s.downFrame d sd.val frame 0x0D (fun s => s.updRx d sd.val (fun r =>
    if r.busy then { r with bytes := r.bytes ++ toLE 2 (frameData frame) } else r)))

/-- TBLEND: the transfer is discarded when its length or image is wrong, acknowledged with result 1 and reported; else it
waits for the commit. -/
def execTblend (d : Die) (sd : Fin 19) (frame : Word) (s : State) : Out :=
  .next (s.downFrame d sd.val frame 0x0E (fun s =>
    let r := (s.sd sd.val).rx.get d
    let img := r.bytes.take r.len
    if r.busy && decide (r.len ≤ r.bytes.length ∧ r.bytes.length ≤ r.len + 1) && tableOk sd.val img then
      s.updRx d sd.val (fun r => { r with busy := false, tag := frameTag frame, done := some img })
    else
      (((s.updRx d sd.val (fun r => { r with busy := false, bytes := [] })).sdAck d sd.val 0x0E 0 (frameTag frame)
        1).sdEvent sd.val 0 0x07).showTable sd.val 4))

/-- The table in force from now on, with the acknowledgements of the transfers that led to it. Fail-safe states keep their entries until
they are next forced or START is next entered (R198). -/
def State.tableInForce (s : State) (sd : Nat) (img : List Byte) (written : Bool) : State :=
  let acks := (s.sd sd).writeAck
  let s1 := s.updSd sd (fun x => { x with
    table := img, nvmFault := false, writing := none, writeAck := ⟨none, none⟩, tblSrc := x.writeSrc })
  let s2 := match acks.q0 with | some t => s1.sdAck 0 sd 0x0E 0 t 0 | none => s1
  let s3 := match acks.q1 with | some t => s2.sdAck 1 sd 0x0E 0 t 0 | none => s2
  s3.showTable sd (if written then 2 else 3)

/-- TABLE_COMMIT (R198, R90): both links have delivered, or 5 ms have passed. Differing digests commit the followed die's
table and set TBLDIFF, which leads to RECOVERY; agreeing transfers of both clear it. NVM is written only when the
digest differs from that in force. -/
def execTableCommit (sd : Fin 19) (s : State) : Out :=
  .next (
    let x := s.sd sd.val
    let pick : Option (Die × List Byte × Option Bool) := match x.rx.q0.done, x.rx.q1.done with
      | some a, some b =>
        if tableDigest a = tableDigest b then some (x.line, a, some false)
        else some (x.line, if x.line = 0 then a else b, some true)
      | some a, none => some (0, a, none)
      | none, some b => some (1, b, none)
      | none, none => none
    match pick with
    | none => s
    | some (src, img, diff) =>
      let ack := fun (r : TableRx) => if r.done.isSome then some r.tag else none
      let s1 := s.updSd sd.val (fun x => { x with
        writeAck := ⟨ack x.rx.q0, ack x.rx.q1⟩, writeSrc := src, committed := true, tblDiff := diff.getD x.tblDiff,
        rx := ⟨{ x.rx.q0 with done := none }, { x.rx.q1 with done := none }⟩ })
      let s2 := if diff = some true then
          let t := s1.sdEvent sd.val 0 0x06
          if x.mode = .service ∨ x.mode = .test then t.sdMode sd.val .recovery else t
        else s1
      if x.tbl ≠ [] ∧ tableDigest img = tableDigest x.tbl then s2.tableInForce sd.val img false
      else s2.updSd sd.val (fun x => { x with writing := some img }))

/-! ### Force (R188) -/

/-- A FORCE frame with one request. -/
def State.forceFrame (s : State) (d : Die) (sd : Nat) (f : Word) (req : Nat) (eff : State → State) : State :=
  if frameOk f && decide (frameType f = 0x0F) && decide (frameData f % 4 ≠ req) then s
  else s.command d sd f 0x0F false false (fun s =>
    if s.sdHas sd (frameCh f) && decide ((s.sd sd).mode = .test) then .done eff else .refuse)

/-- A channel held on or off regardless of its line (R188); FORCED shows on both dies. A ramp ends at once, and with it a latch that
waited for its end takes effect, which ends the force. -/
def State.force (s : State) (sd k : Nat) (b : Bool) : State :=
  let c := s.chan sd k
  let s1 := (s.updChan sd k (fun c => { c with forced := some b, ramping := false, rampSelf := false })).setBoth (PWR_CHkMIS sd k)
    PWR_CHkMIS__FORCED 1
  if c.latchPend then s1.latch sd k true else s1.settle sd k

/-- FORCE release, off and on. -/
def execForceRelease (d : Die) (sd : Fin 19) (frame : Word) (s : State) : Out :=
  .next (s.forceFrame d sd.val frame 0 (fun s => (s.endForce sd.val (frameCh frame)).settle sd.val (frameCh frame)))
def execForceOff (d : Die) (sd : Fin 19) (frame : Word) (s : State) : Out :=
  .next (s.forceFrame d sd.val frame 1 (fun s => s.force sd.val (frameCh frame) false))
def execForceOn (d : Die) (sd : Fin 19) (frame : Word) (s : State) : Out :=
  .next (s.forceFrame d sd.val frame 2 (fun s => s.force sd.val (frameCh frame) true))

/-- FORCE_TIMEOUT: 10 s. -/
def execForceTimeout (sd : Fin 19) (k : Fin 8) (s : State) : Out :=
  .next (if s.sdHas sd.val k.val then (s.endForce sd.val k.val).settle sd.val k.val else s)

/-- TEST_TIMEOUT: 600 s in TEST. -/
def execTestTimeout (sd : Fin 19) (s : State) : Out :=
  .next (if (s.sd sd.val).mode = .test then s.sdMode sd.val .service else s)

/-- SERIAL_WATCHDOG_EXPIRY (R186): armed in START, TEST and RECOVERY, suspended in standby (R643). It wins over a SVCENT of the same cycle
that has led to SERVICE, and the die is in START again (R204). -/
def execSerialWatchdogExpiry (sd : Fin 19) (s : State) : Out :=
  .next (
    let x := s.sd sd.val
    if !x.started || x.standby then s
    else
      let s1 := (s.updSd sd.val (fun x => { x with wdogHit := true, wdogCyc := some x.cycles })).setBoth (PWR_DFLT sd.val)
        PWR_DFLT__WDOG 1
      match x.mode with
      | .service =>
        if x.servCyc ≠ some x.cycles then s
        else if x.servFrom = .start then s1.sdMode sd.val .start
        else (s1.forceFailSafe sd.val).sdEvent sd.val 0 0x09
      | .start => s1
      | _ => (s1.forceFailSafe sd.val).sdEvent sd.val 0 0x09)

/-! ### Self-tests and protection on its own -/

/-- SENSE_PATH_TEST (R202): a result outside ±3 % makes the calibration of a channel suspect that has been off for 5 ms. -/
def execSensePathTest (sd : Fin 19) (k : Fin 8) (outside : Bool) (s : State) : Out :=
  .next (
    let c := s.chan sd.val k.val
    let rested := match c.offAt with | none => true | some t => decide (t + 50 ≤ (s.sd sd.val).cycles)
    if s.sdHas sd.val k.val && !c.on && rested && outside then
      (s.updChan sd.val k.val (fun c => { c with calSuspect := true })).recordBoth (0x0E00 + sd.val) 0x16 (gch sd.val k.val)
        0x09 (ofSigned 16 c.calGain + 65536 * ofSigned 16 c.calOffs)
    else s)

/-- NVM_TABLE_CHECK (R199): a failing CRC makes the die unprogrammed, in RECOVERY from SERVICE or TEST; in START its fail-safe states are
those of R195. -/
def execNvmTableCheck (sd : Fin 19) (crcOk : Bool) (s : State) : Out :=
  .next (
    let x := s.sd sd.val
    if x.started && !crcOk && !x.nvmFault then
      let s1 := ((s.updSd sd.val (fun x => { x with nvmFault := true, live := [] })).sdEvent sd.val 0 0x08).showTable sd.val 5
      if x.mode = .service ∨ x.mode = .test then s1.sdMode sd.val .recovery
      else if x.mode = .start then s1.settleAll sd.val else s1
    else s)

/-- FAIL_SAFE_TRIP (R193): RMS current over 100 ms above the trip current, in START after the hold time or in a
last-state hold. -/
def execFailSafeTrip (sd : Fin 19) (k : Fin 8) (rms : BitVec 16) (s : State) : Out :=
  .next (
    let x := s.sd sd.val
    if s.sdHas sd.val k.val && (decide (x.mode = .start) && !x.holding || x.lastHold) &&
        decide (x.tripAt sd.val k.val < rms.toNat) then
      (s.latch sd.val k.val true).sdEvent sd.val k.val 0x05
    else s)

/-! ### Input lines (R164 to R168, R183, R189) -/

/-- A channel's line set. A difference of the two lines that was counted lasts while both are present and differ (R168). -/
def Chan.setLine (c : Chan) (d : Die) (l : LineLevel) : Chan :=
  let c1 := if d = 0 then { c with lineA := l } else { c with lineB := l }
  { c1 with misOpen := c.misOpen && decide (c1.lineA ≠ .absent ∧ c1.lineB ≠ .absent ∧ c1.lineA ≠ c1.lineB) }

/-- Whether the level that a lane in PWM mode takes lasts less than 100 ns, so that the switch die ignores it (R165). -/
def Lane.glitch (l : Lane) (level : Bool) : Bool :=
  l.pwm && decide (if level = true then l.duty < 100 else l.duty < l.period ∧ l.period < l.duty + 100)

/-- Whether an edge at a time ends a pulse shorter than 100 ns, whose two edges the switch die ignores (R165). -/
def Chan.glitch (c : Chan) (t : Nat) : Bool :=
  match c.changedAt with
  | some u => decide (u ≤ t ∧ t < u + 100)
  | none => false

/-- The ends of the minimum time and of the shortest period that an edge at a channel must keep (R166): 0 where it keeps them. -/
def Chan.minEnd (c : Chan) (sd t : Nat) : Nat :=
  match c.changedAt with | some u => if t < u + minEdgeTime sd then u + minEdgeTime sd else 0 | none => 0
def Chan.perEnd (c : Chan) (sd k t : Nat) : Nat :=
  match c.roseAt with | some u => if t < u + laneMinPeriod (gch sd k) then u + laneMinPeriod (gch sd k) else 0 | none => 0

/-- An edge taken by a channel of its followed line at a time of the switch die in ns: applied at once, or deferred to the end of the
minimum on or off time, a rising edge also to the end of the shortest period, with the events of the limits it meets (R166). One that
ends a pulse shorter than 100 ns undoes the edge before it (R165). -/
def State.takeEdge (s : State) (sd k : Nat) (level : Bool) (t : Nat) : State :=
  let c := s.chan sd k
  if c.want = level then s.settleAt sd k t
  else if c.glitch t then
    (s.updChan sd k (fun c => { c with want := level, deferred := false, changedAt := c.wasChanged, roseAt := c.wasRose })).settleAt sd k t
  else
    let m := c.minEnd sd t
    let p := if level then c.perEnd sd k t else 0
    if m = 0 ∧ p = 0 then (s.updChan sd k (fun c => { c with deferred := false })).settleAt sd k t
    else
      let s1 := s.updChan sd k (fun c => { c with deferred := true, dueAt := max m p })
      let s2 := if m = 0 then s1 else s1.sdEvent sd k 0x02
      if p = 0 then s2 else s2.sdEvent sd k 0x0B

/-- INPUT_LINE_EDGE (R163 to R166): the switch die sees the level of the lane that drives the line, unless its pulse is too short. An edge of the named line completes
a line change and ends a hold's level (R183, R192); a falling edge of the followed line takes a waiting BDIR. -/
def execInputLineEdge (sd : Fin 19) (k : Fin 8) (line : Die) (level : Bool) (time : BitVec 64) (s : State) : Out :=
  let now : LineLevel := if level then .high else .low
  .next (
    if !s.sdHas sd.val k.val || decide (s.lineShown sd.val k.val line ≠ now) || (s.lane line (gch sd.val k.val)).glitch level then s else
    let x := s.sd sd.val
    let s1 := s.updChan sd.val k.val (fun c => c.setLine line now)
    if x.mode = .start ∨ x.lastHold = true then s1
    else
      let s2 := if line = x.line then s1.updChan sd.val k.val (fun c => { c with linePend := false, held := none }) else s1
      if s2.chanLine sd.val k.val ≠ line then s2
      else
        let turn := !level && !(s2.chan sd.val k.val).linePend
        let s3 := s2.updChan sd.val k.val (fun c => { c with
          flywheel := false, rampSelf := false,
          dirBA := if turn then c.dirPend.getD c.dirBA else c.dirBA,
          dirPend := if turn then none else c.dirPend,
          dirEdge := c.dirEdge && !turn })
        s3.takeEdge sd.val k.val level time.toNat)

/-- DEFERRAL_END (R166): the channel takes the level the followed line shows now. -/
def execDeferralEnd (sd : Fin 19) (k : Fin 8) (s : State) : Out :=
  .next (if s.sdHas sd.val k.val && (s.chan sd.val k.val).deferred then
      (s.updChan sd.val k.val (fun c => { c with deferred := false })).settleAt sd.val k.val (s.chan sd.val k.val).dueAt
    else s)

/-- LINE_ABSENT (R164, R189): a line that no lane drives any more; when it is the followed one the channel flywheels, with the period
and duty of its last complete period if the silence time had one, else at its last level; a ramp goes on by itself. The repeated period
begins with its on time in the service cycle of the absence (log entry 111). -/
def execLineAbsent (sd : Fin 19) (k : Fin 8) (line : Die) (lastPeriod : Option (BitVec 32 × BitVec 32)) (s : State) : Out :=
  .next (
    if !s.sdHas sd.val k.val || decide (s.lineShown sd.val k.val line ≠ .absent) then s else
    let x := s.sd sd.val
    let followed := decide (s.chanLine sd.val k.val = line)
    let s1 := s.updChan sd.val k.val (fun c => c.setLine line .absent)
    if !followed || decide (x.mode = .start) || x.lastHold then s1
    else s1.updChan sd.val k.val (fun c =>
      let c1 := match lastPeriod with
        | some (p, on) => { c with pwm := true, period := p.toNat, duty := on.toNat, flyFrom := x.time, flyAt := x.time, deferred := false }
        | none => { c with pwm := false, deferred := false }
      if c1.ramping then { c1 with rampSelf := true } else { c1 with flywheel := true }))

/-- LINE_MISMATCH (R168): two present lines differ for more than 500 ns while both Q-dies are acknowledged; a difference that lasts is
counted once. -/
def execLineMismatch (sd : Fin 19) (k : Fin 8) (s : State) : Out :=
  .next (
    let c := s.chan sd.val k.val
    let x := s.sd sd.val
    if s.sdHas sd.val k.val && decide (c.lineA ≠ .absent ∧ c.lineB ≠ .absent ∧ c.lineA ≠ c.lineB) &&
        x.links.q0.acked && x.links.q1.acked && !c.misOpen then
      let n := satInc 0xFFFF c.misCount
      ((s.updChan sd.val k.val (fun c => { c with misCount := n, misOpen := true })).sdEvent sd.val k.val 0x01).sdWait sd.val
        (mkFrame 0x1D k.val n)
    else s)

/-- LINE_CHANGE_TIMEOUT (R183, R192): 1 ms with no edge on the named line: the channel takes its level, as an edge to it (R166). -/
def execLineChangeTimeout (sd : Fin 19) (k : Fin 8) (s : State) : Out :=
  .next (
    let c := s.chan sd.val k.val
    let x := s.sd sd.val
    if s.sdHas sd.val k.val && decide (x.mode ≠ .start) && !x.lastHold && (c.linePend || c.held.isSome) then
      let s1 := s.updChan sd.val k.val (fun c => { c with linePend := false, held := none })
      match s1.followed sd.val k.val with
      | .absent => s1.settle sd.val k.val
      | l => s1.takeEdge sd.val k.val (decide (l = .high)) x.time
    else s)

/-! ### Links (R179, R190, R191) -/

/-- Whether a link is active (R179). -/
def SdLink.active (l : SdLink) : Bool := l.inStep && l.acked

/-- LINK_SILENCE: a link has carried no valid frame for the silence time, which ends the acknowledgement, and the TAGs of the link are
forgotten, since its Q-die may have been reset (R177; log entry 112). In SERVICE the
die steers itself to the other line when that link is active, and enters the last-state hold when neither link is active
and no input line has been present for the silence time. -/
def execLinkSilence (sd : Fin 19) (link : Die) (linesAbsent : Bool) (s : State) : Out :=
  .next (
    if !(s.sd sd.val).started || (s.sd sd.val).standby then s else
    let s1 := s.updSd sd.val (fun x => { x with
      lastTag := tdrop x.lastTag (fun k => decide (k / 256 = link.val)),
      links := x.links.upd link (fun l => { l with silent := true, acked := false, inStep := false }) })
    let x := s1.sd sd.val
    if x.mode ≠ .service ∨ x.lastHold = true then s1
    else if x.line = link ∧ (x.links.get link.other).active = true then
      let s2 := (s1.steerTo sd.val link.other).updSd sd.val (fun x => { x with auto := true })
      (match x.s0 with
       | some v => s2.sdWait sd.val (mkFrame 0x1E 0 (2 ^ 15 + v.toNat))
       | none => s2).sdEvent sd.val 0 0x03
    else if !x.links.q0.active && !x.links.q1.active && linesAbsent then s1.enterHold sd.val
    else s1)

/-- LINK_OUT_OF_STEP: no valid CYC for 200 µs. -/
def execLinkOutOfStep (sd : Fin 19) (link : Die) (s : State) : Out :=
  .next (s.updSd sd.val (fun x => { x with links := x.links.upd link (fun l => { l with inStep := false }) }))

/-- UPSTREAM_FRAMES_ABSENT: a Q-die finds a switch die's frames absent for the silence time; once they return it sends
SVCENT. -/
def execUpstreamFramesAbsent (d : Die) (sd : Fin 19) (returned : Bool) (s : State) : Out :=
  .next (
    if !s.alive d then s
    else if !returned then s.updQsd d sd.val (fun q => { q with absent := true })
    else if (s.qsd d sd.val).absent then (s.updQsd d sd.val (fun q => { q with absent := false })).sendEntry d sd.val
    else s)

/-! ### The service cycle of a switch die (R178) -/

/-- PWR_CHkSTAT.STATE of a channel. -/
def SwitchDie.chState (x : SwitchDie) (c : Chan) : Nat :=
  if c.latched then 3 else if x.feedHolds then 5 else if c.ramping then 4 else if c.lampRetry then 7
  else if c.offTest then 6 else if c.on && c.inLimit then 2 else if c.on then 1 else 0

/-- The DATA of CHST and DSTAT (R176). RESTOK is the nib's and reads 0 here. -/
def State.chstData (s : State) (sd k : Nat) : Nat :=
  let c := s.chan sd k
  (s.sd sd).chState c + 8 * (s.chanLine sd k).val + 16 * b2n c.lowRange + 32 * c.ol + 256 * (c.retries % 256)

/-- DSTAT bits (R176). -/
def State.dstatData (s : State) (sd : Nat) : Nat :=
  let x := s.sd sd
  x.mode.code + 8 * x.line.val + 16 * b2n (x.feedOk && !x.ovOff) + 32 * b2n x.uvOff + 64 * b2n x.ovOff + 128 * b2n x.set48 +
    256 * s.cis.limp.toNat + 2 ^ 12 * b2n x.tblDiff + 2 ^ 13 * b2n x.lastHold + 2 ^ 14 * b2n x.auto + 2 ^ 15 * b2n x.mismatch

/-- An EVT frame with the count as it stands when it leaves (R203); another frame as it is. -/
def SwitchDie.leaving (x : SwitchDie) (f : Word) : Word :=
  if frameType f = 0x1A then
    mkFrame 0x1A (frameCh f) (frameData f % 256 + 256 * tget 0 x.evtCount (frameData f % 256 * 8 + frameCh f))
  else f

/-- The frames of one channel in a cycle (R178 step 3). -/
def State.chFrames (s : State) (sd : Nat) (even : Bool) (m : ChanMeas) : List Word :=
  let k := m.k.val
  let tjNow := decide (sdType sd ≠ 3) || (if even then decide (k < 4) else decide (4 ≤ k))
  let msq := satTo 0xFFFFFFFF m.msq.toNat
  [mkFrame 0x11 k msq, mkFrame 0x12 k (msq / 65536), mkFrame 0x13 k (voltCode m.vout.toInt)] ++
    (if sdType sd = 4 then [mkFrame 0x14 k (voltCode m.voutB.toInt)] else []) ++
    (if tjNow then [mkFrame 0x15 k m.tj.toNat] else []) ++ [mkFrame 0x16 k (s.chstData sd k)]

/-- A channel at a sample of its current in µA (R116 to R118, R126, R149, R152): its limit and range, where a change of range aborts a capture (R150),
and the word that leaves the die. -/
def State.sample (s : State) (sd k : Nat) (ua : Int) : State × Word :=
  let c := s.chan sd k
  let led := decide (s.chSet sd k PWR_CHkCFG__MODE = 2)
  let c1 := ((c.nextRange sd k led ua).limitStep sd ua).recircStep (s.sd sd).cycles (some ua)
  let s1 := s.updChan sd k (fun _ => c1)
  (if c1.lowRange = c.lowRange then s1 else s1.abortCapture sd k,
    mkFrame 0x10 k (senseWord sd c1.lowRange (c1.calibrate sd k c1.lowRange ua)))

/-- The samples of a cycle in order, with the frames that carry them. -/
def State.samples (s : State) (sd : Nat) : List (Fin 8 × BitVec 32) → State × List Word
  | [] => (s, [])
  | e :: l =>
    if e.1.val < sdChans sd then
      let r := s.sample sd e.1.val e.2.toInt
      let q := r.1.samples sd l
      (q.1, r.2 :: q.2)
    else s.samples sd l

/-- A clamp that the output voltage shows (R143, R145): on an off H, M or L channel the switch carries at least 72 V, the least clamp
voltage; each one is counted and reported once. In standby no monitor stands at an off channel (R115). -/
def State.watchClamp (s : State) (sd k : Nat) (feed vout : Int) : State :=
  let c := s.chan sd k
  let now := decide (sdType sd ≠ 4 ∧ 72000000 ≤ feed - vout) && !c.on && !(s.sd sd).standby
  let s1 := s.updChan sd k (fun c => { c with
    clamping := now, clamps := if now && !c.clamping then satInc 0xFFFF c.clamps else c.clamps })
  if now && !c.clamping then s1.sdEvent sd k 0x2B else s1

/-- What a service cycle does to a channel without a frame: a bridge's recirculation ends, a BDIR that waits at a low line is taken, a
flywheeling PWM channel repeats its period, looked at somewhere in the cycle (R189; log entry 111). -/
def State.cycleChan (s : State) (sd k : Nat) : State :=
  let c := s.chan sd k
  let turn := c.dirPend.isSome && !c.dirEdge && decide (s.followed sd k = .low)
  let s1 := s.updChan sd k (fun c =>
    let c1 := c.recircStep (s.sd sd).cycles none
    if turn then { c1 with dirBA := c1.dirPend.getD c1.dirBA, dirPend := none } else c1)
  if c.flywheel && c.pwm then
    s1.withFree (fun v t =>
      (t.updChan sd k (fun c => { c with flyAt := (s.sd sd).time + v % 100000 })).settleAt sd k ((s.sd sd).time + v % 100000))
  else s1

/-- SERVICE_CYCLE: the die samples and measures its channels; status, sense, channel and waiting frames go upstream on both lanes, in
50 slots, but none in standby (R643). `feed` is the feed voltage in signed µV, the samples mean currents in signed µA. -/
def execServiceCycle (sd : Fin 19) (feed : BitVec 32) (tsub : BitVec 16) (sns : List (Fin 8 × BitVec 32)) (meas : List ChanMeas)
    (s : State) : Out :=
  .next (
    if !(s.sd sd.val).started then s else
    let nch := sdChans sd.val
    let mine := meas.filter (fun m => decide (m.k.val < nch))
    let s1 := mine.foldl (fun st m => (st.updChan sd.val m.k.val (fun c => { c with tj := m.tj.toInt })).watchClamp sd.val m.k.val
      feed.toInt m.vout.toInt) s
    let q := s1.samples sd.val sns
    let s3 := (List.range nch).foldl (fun st k => st.cycleChan sd.val k) q.1
    let x := s3.sd sd.val
    if x.standby then s3.updSd sd.val (fun x => { x with cycles := x.cycles + 1 }) else
    let even := decide ((x.links.get x.line).cycle % 2 = 0)
    let fixed := [mkFrame 0x17 0 (s3.dstatData sd.val), mkFrame 0x18 0 (voltCode feed.toInt), mkFrame 0x19 0 tsub.toNat] ++ q.2 ++
      mine.flatMap (s3.chFrames sd.val even)
    let dig := tableDigest x.tbl
    let tail := if x.cycles % 16 = 0 then
        [mkFrame 0x1C 0 dig, mkFrame 0x1C 1 (dig / 65536),
          mkFrame 0x1E 0 (match x.s0 with | some v => 2 ^ 15 + v.toNat | none => 0)]
      else []
    let room := 50 - fixed.length
    let go := fun (l : List Word) => (l ++ tail).take room
    let stay := fun (l : List Word) => (l ++ tail).drop room
    s3.updSd sd.val (fun x => { x with
      up := ⟨x.up.q0 ++ fixed ++ (go x.waiting.q0).map x.leaving, x.up.q1 ++ fixed ++ (go x.waiting.q1).map x.leaving⟩,
      waiting := ⟨stay x.waiting.q0, stay x.waiting.q1⟩, cycles := x.cycles + 1 }))

/-! ### Upstream frames at a Q-die -/

/-- A status frame kept for the status entry of its cycle (R228, R238): the frame without its CRC. -/
def State.keepFrame (s : State) (d : Die) (sd : Nat) (f : Word) : State :=
  s.updQsd d sd (fun q => { q with cycleIn := q.cycleIn ++ [f &&& 0xFFFFFF00#32] })

/-- The status entry of the cycle before, given to the streams of the clusters that subscribe. -/
def State.statusEntry (s : State) (d : Die) (sd : Nat) : State :=
  let l := (s.qsd d sd).cycleIn
  if l = [] then s
  else
    (List.range 8).foldl (fun st c => st.streamIn d c (0xD0 + sd) (st.ns d) (l.flatMap (fun f => toLE 4 f.toNat)) false)
      (s.updQsd d sd (fun q => { q with cycleIn := [] }))

/-- A feed condition that DSTAT newly shows: its sticky bit and a record of class 0x0F (R121, R124). -/
def State.feedEvent (s : State) (d : Die) (sd : Nat) (was now : Bool) (f : Fld) (kind : Nat) : State :=
  if now && !was then
    (s.setF d (PWR_DFLT sd) f 1).record d (0x0E00 + sd) 0x0F (b2n (sdFeedB sd) + 256 * sd) 0
      (s.fld d (PWR_DFEED sd) PWR_DFEED__VFEED + 65536 * kind)
  else s

/-- The table state and the capture of a switch die as a die shows them, refreshed with its status (R156, R205). -/
def State.showDie (s : State) (d : Die) (sd : Nat) : State :=
  let x := s.sd sd
  (s.wr d (PWR_DTBL sd) (BitVec.ofNat 32 (x.tblState + 8 * x.tblSrc.val + 16 * b2n x.tblDiff))).wr d (PWR_CALRES sd)
    (BitVec.ofNat 32 (x.capture.state + 16 * x.capture.points.length))

/-- The one record of a last-state hold, with its duration in µs (R192; log entry 75), after which its event counts as seen. -/
def State.holdRecord (s : State) (d : Die) (sd : Nat) : State :=
  let x := s.sd sd
  (s.updQsd d sd (fun q => { q with evtSeen := tset 0 q.evtSeen 0x20 (tget 0 x.evtCount 0x20) })).record d (0x0E00 + sd) 0x08 sd 0x01
    (100 * x.holdLen)

/-- DSTAT: the die's view of the switch die (R156, R205). The end of a last-state hold is recorded. A holder of the token that sees a hold, or a sealed and
programmed die in START, sends SVCENT (R89, R192). -/
def execDstat (d : Die) (sd : Fin 19) (frame : Word) (s : State) : Out :=
  .next (s.upFrame d sd.val frame 0x17 (fun s =>
    let v := frameData frame
    let x := s.sd sd.val
    let was := fun f => s.bit d (PWR_DSTAT sd.val) f
    let uv := bitOf v 5
    let ov := bitOf v 6
    let mm := bitOf v 15
    let s0 := (s.statusEntry d sd.val).keepFrame d sd.val frame
    let s1 := s0.wr d (PWR_DSTAT sd.val) (BitVec.ofNat 32 (v % 8 + 8 * b2n x.links.q0.inStep + 16 * b2n x.links.q1.inStep +
      32 * (v / 16 % 8) + 256 * (v / 128 % 2) + 512 * b2n mm))
    let line := v / 8 % 2
    let s2 := ((((s1.setF d (PWR_DCTLST sd.val) PWR_DCTLST__LINE line).setF d (PWR_DCTLST sd.val) PWR_DCTLST__AUTO
      (b2n (bitOf v 14))).setF d (PWR_DCTLST sd.val) PWR_DCTLST__HOLD (b2n (bitOf v 13))).setF d (PWR_DCTLST sd.val)
        PWR_DCTLST__LIMP (v / 256 % 16)).setF d (PWR_DCTLST sd.val) PWR_DCTLST__FLYWHEEL
          (b2n (x.chans.any (fun e => e.2.flywheel)))
    let ended := s1.bit d (PWR_DCTLST sd.val) PWR_DCTLST__HOLD && !bitOf v 13
    let s3a := (s2.showDie d sd.val).setF d (PWR_DTBL sd.val) PWR_DTBL__DIFF (b2n (bitOf v 12))
    let s3 := if ended then s3a.holdRecord d sd.val else s3a
    let s4 := ((s3.feedEvent d sd.val (was PWR_DSTAT__UVOFF) uv PWR_DFLT__UV 0).feedEvent d sd.val (was PWR_DSTAT__OVOFF) ov
      PWR_DFLT__OV 1).feedEvent d sd.val (was PWR_DSTAT__MISMATCH) mm PWR_DFLT__MISMATCH 2
    let s5 := if v % 8 = 1 then s4.updVol d (fun w => { w with flt := { w.flt with sdServed := tset false w.flt.sdServed sd.val true } })
      else s4
    if (bitOf v 13 ∨ v % 8 = 0) ∧ s5.driver d sd.val = d then s5.sendEntry d sd.val else s5))

/-- The counts, the force and the calibration of a channel as the switch die has them shown on a die (R156, R205); of the two ranges of
an L channel PWR_CHkCAL shows the one committed last (log entry 113). -/
def State.showCounts (s : State) (d : Die) (sd k : Nat) : State :=
  let c := s.chan sd k
  let s1 := ((s.wr d (PWR_CHkCNT sd k) (BitVec.ofNat 32 (c.trips + 65536 * c.clamps))).setF d (PWR_CHkMIS sd k) PWR_CHkMIS__FORCED
    (b2n c.forced.isSome)).setF d (PWR_CHkMIS sd k) PWR_CHkMIS__MISCNT c.misCount
  s1.wr d (PWR_CHkCAL sd k) (BitVec.ofNat 32
    (ofSigned 16 (if c.calLow then c.lowGain else c.calGain) + 65536 * ofSigned 12 (if c.calLow then c.lowOffs else c.calOffs) +
      2 ^ 28 * b2n c.calOffOnly + 2 ^ 29 * b2n c.calField))

/-- Whether an overcurrent trip comes together with a junction shutdown of its channel (R155): that event is not seen yet, or came in
the same cycle. -/
def State.withShutdown (s : State) (d : Die) (sd k : Nat) : Bool :=
  let q := s.qsd d sd
  decide (tget 0 (s.sd sd).evtCount (0x23 * 8 + k) ≠ tget 0 q.evtSeen (0x23 * 8 + k)) ||
    q.cycleIn.any (fun f => decide (frameType f = 0x1A ∧ frameCh f = k ∧ frameData f % 256 = 0x23))

/-- What a Q-die does at an event of a switch die (R203): register bit and record; `n` occurrences. One taken up `late`, at the service
entry, changes no state that may have passed since: a hold that is over is recorded unless DSTAT will, a line and a table stay as they
are shown. -/
def State.onEvent (s : State) (d : Die) (sd k code n : Nat) (late : Bool := false) : State :=
  let src := 0x0E00 + sd
  let g := gch sd k
  let trips := (s.chan sd k).trips
  let showTrips := fun (st : State) => st.showCounts d sd k
  let bit := fun (st : State) => st.wr d (PWR_CHkFLT sd k) (st.rd d (PWR_CHkFLT sd k) ||| BitVec.ofNat 32 (2 ^ (code - 0x20)))
  match code with
  | 0x01 => (s.setF d (PWR_CHkMIS sd k) PWR_CHkMIS__MISCNT (s.chan sd k).misCount).record d src 0x06 g 0 0
  | 0x02 => s.setF d (PWR_CHkMIS sd k) PWR_CHkMIS__MINTIME 1
  | 0x03 =>
    let s1 := (s.setF d (PWR_DCTLST sd) PWR_DCTLST__AUTO (b2n (s.sd sd).auto)).record d src 0x08 sd 0x02 0
    if (s.sd sd).line = d ∧ (s.sd sd).auto = true then s1.moveToken (s1.cluster d sd) d else s1
  | 0x04 =>
    if !late || (s.sd sd).lastHold then s.setF d (PWR_DCTLST sd) PWR_DCTLST__HOLD 1
    else if s.bit d (PWR_DCTLST sd) PWR_DCTLST__HOLD then s
    else s.holdRecord d sd
  | 0x05 => (showTrips (s.setF d (PWR_CHkFLT sd k) PWR_CHkFLT__OCTRIP 1)).record d src 0x0B g 0x0C trips
  | 0x06 => (s.setF d (PWR_DTBL sd) PWR_DTBL__DIFF 1).record d src 0x06 sd 0 0
  | 0x07 => (if late then s else s.setF d (PWR_DTBL sd) PWR_DTBL__STATE 4).record d src 0x08 sd 0x03 0
  | 0x08 => (if late then s else s.setF d (PWR_DTBL sd) PWR_DTBL__STATE 5).record d src 0x08 sd 0x04 0
  | 0x09 => (s.setF d (PWR_DFLT sd) PWR_DFLT__WDOG 1).record d src 0x08 sd 0x05 0
  | 0x0A => s.setF d (PWR_CHkMIS sd k) PWR_CHkMIS__FORCED 0
  | 0x0B => s.setF d (PWR_CHkMIS sd k) PWR_CHkMIS__FASTEDGE 1
  | 0x20 =>
    if s.withShutdown d sd k then showTrips (bit s) else (showTrips (bit s)).record d src 0x0B g 0 trips
  | 0x23 => (showTrips (bit s)).record d src 0x10 g 0 (tget 0 (s.qsd d sd).tjs k)
  | 0x25 => (bit s).record d src 0x0D g 0 1
  | 0x26 => (bit s).record d src 0x0D g 0 2
  | 0x27 => (bit s).record d src 0x0D g 0x06 3
  | 0x28 =>
    let w := s.wire d g
    (bit s).record d src 0x0E g (if w.overRamp then 0x07 else 0) (w.ePred + 2 ^ 24 * w.eRamp)
  | 0x2B =>
    (s.showCounts d sd k).updWire d g (fun w => { w with
      clampTimes := w.clampTimes.filter (fun t => decide (s.ns d < t + 10000000000)) ++ List.replicate n (s.ns d) })
  | _ => if 0x20 ≤ code ∧ code ≤ 0x2A then bit s else s

/-- EVT (R203): the difference of counts is the number of occurrences. -/
def execEvt (d : Die) (sd : Fin 19) (frame : Word) (s : State) : Out :=
  .next (s.upFrame d sd.val frame 0x1A (fun s =>
    let k := frameCh frame
    let code := frameData frame % 256
    let key := code * 8 + k
    let n := (frameData frame / 256 + 256 - tget 0 (s.qsd d sd.val).evtSeen key) % 256
    let s1 := (s.keepFrame d sd.val frame).updQsd d sd.val (fun q => { q with
      evtSeen := tset 0 q.evtSeen key (frameData frame / 256) })
    if n = 0 then s1 else s1.onEvent d sd.val k code n))

/-- The events of a switch die that a die has not learned of, taken up at its service entry from the event counts (R203). After its own
reset a die has received no count, so each counts from 0 (log entry 92). -/
def State.catchUp (s : State) (d : Die) (sd : Nat) : State :=
  (s.sd sd).evtCount.foldl (fun st e =>
    let n := (e.2 + 256 - tget 0 (st.qsd d sd).evtSeen e.1) % 256
    if n = 0 then st
    else (st.updQsd d sd (fun q => { q with evtSeen := tset 0 q.evtSeen e.1 e.2 })).onEvent d sd (e.1 % 8) (e.1 / 8) n true) s

/-- ACK (R177, R91, R197): the command is no longer repeated; an answered SVCENT or STEER lets the die drive its lines, and at an
answered SVCENT it takes up the events it missed (R203); a table is acknowledged, and then the service entry is sent, or sent again. -/
def execAck (d : Die) (sd : Fin 19) (frame : Word) (s : State) : Out :=
  .next (s.upFrame d sd.val frame 0x1B (fun s =>
    let v := frameData frame
    let typ := v % 32
    let res := v / 256 % 16
    let tag := v / 4096
    let ch := frameCh frame
    let s1 := (s.keepFrame d sd.val frame).updQsd d sd.val (fun q => { q with
      cmds := q.cmds.filter (fun c => !decide (c.typ = typ ∧ c.ch = ch ∧ c.tag = tag)),
      proof := q.proof || decide (typ = 2 ∨ typ = 3) })
    let s1 := if typ = 2 then s1.catchUp d sd.val else s1
    let q := s1.qsd d sd.val
    if typ = 0x0E ∧ tag = q.tblTag ∧ q.tblAcked = false ∧ 0 < q.tblSends ∧ q.tblFailed = false then
      if res = 0 then (s1.updQsd d sd.val (fun q => { q with tblAcked := true })).sendEntry d sd.val
      else if res = 1 then s1.tableAgain d sd.val
      else s1
    else s1))

/-- SER: the last accepted token serial. A sealed die that does not hold the token obtains its acknowledgement by one
SVCENT with this serial (R91). -/
def execSer (d : Die) (sd : Fin 19) (frame : Word) (s : State) : Out :=
  .next (s.upFrame d sd.val frame 0x1E (fun s =>
    let v := frameData frame
    let s1 := s.keepFrame d sd.val frame
    if bitOf v 15 then
      let s2 := (s1.updQsd d sd.val (fun q => { q with serDef := true, ser := v % 2048 })).setF d (PWR_DCTLST sd.val)
        PWR_DCTLST__SERIAL v
      if s2.driver d sd.val ≠ d ∧ (s2.qsd d sd.val).proof = false then s2.sendEntry d sd.val else s2
    else s1))

/-- TBLDIG: the digest shows once both halves have arrived. -/
def execTbldig (d : Die) (sd : Fin 19) (frame : Word) (s : State) : Out :=
  .next (s.upFrame d sd.val frame 0x1C (fun s =>
    let v := frameData frame
    let s1 := (s.keepFrame d sd.val frame).updQsd d sd.val (fun q =>
      if frameCh frame = 0 then { q with digLow := some v } else { q with digHigh := some v })
    match (s1.qsd d sd.val).digLow, (s1.qsd d sd.val).digHigh with
    | some l, some h => s1.wr d (PWR_DTBLDIG sd.val) (BitVec.ofNat 32 (l + 65536 * h))
    | _, _ => s1))

/-- A frame about one channel: kept for the status entry and taken when the die carries the channel. -/
def State.chanFrame (s : State) (d : Die) (sd : Nat) (f : Word) (typ : Nat) (act : State → Nat → Nat → State) : State :=
  s.upFrame d sd f typ (fun s =>
    let s1 := s.keepFrame d sd f
    if frameCh f < sdChans sd then act s1 (frameCh f) (frameData f) else s1)

/-- MIS, MSQL, MSQH, VOUT, VOUTB, TJ, CHST (R176). -/
def execMis (d : Die) (sd : Fin 19) (frame : Word) (s : State) : Out :=
  .next (s.chanFrame d sd.val frame 0x1D (fun s k v => s.setF d (PWR_CHkMIS sd.val k) PWR_CHkMIS__MISCNT v))
def execMsql (d : Die) (sd : Fin 19) (frame : Word) (s : State) : Out :=
  .next (s.chanFrame d sd.val frame 0x11 (fun s k v =>
    s.updQsd d sd.val (fun q => { q with msqLow := tset 0 q.msqLow k v })))
def execMsqh (d : Die) (sd : Fin 19) (frame : Word) (s : State) : Out :=
  .next (s.chanFrame d sd.val frame 0x12 (fun s k v =>
    let m := tget 0 (s.qsd d sd.val).msqLow k + 65536 * v
    (s.updQsd d sd.val (fun q => { q with msq := tset 0 q.msq k m })).setF d (PWR_CHkI sd.val k) PWR_CHkI__IRMS (Nat.sqrt m)))
def execVout (d : Die) (sd : Fin 19) (frame : Word) (s : State) : Out :=
  .next (s.chanFrame d sd.val frame 0x13 (fun s k v => s.setF d (PWR_CHkV sd.val k) PWR_CHkV__VOUT v))
def execVoutb (d : Die) (sd : Fin 19) (frame : Word) (s : State) : Out :=
  .next (s.chanFrame d sd.val frame 0x14 (fun s k v =>
    if sdType sd.val = 4 then s.setF d (PWR_CHkV sd.val k) PWR_CHkV__VOUTB v else s))
def execTj (d : Die) (sd : Fin 19) (frame : Word) (s : State) : Out :=
  .next (s.chanFrame d sd.val frame 0x15 (fun s k v =>
    let s1 := s.updQsd d sd.val (fun q => { q with tjs := tput q.tjs k v })
    let top := (s1.qsd d sd.val).tjs.foldl (fun m e => max m (toSigned 16 e.2)) (toSigned 16 v)
    s1.setF d (PWR_DTEMP sd.val) PWR_DTEMP__TJMAX (ofSigned 16 top)))
def execChst (d : Die) (sd : Fin 19) (frame : Word) (s : State) : Out :=
  .next (s.chanFrame d sd.val frame 0x16 (fun s k v =>
    let ok := s.fld d (PWR_CHkSTAT sd.val k) PWR_CHkSTAT__RESTOK
    (s.wr d (PWR_CHkSTAT sd.val k) (BitVec.ofNat 32 (v - 128 * (v / 128 % 2) + 128 * ok))).showCounts d sd.val k))

/-- FEED and TSUB (R176). -/
def execFeed (d : Die) (sd : Fin 19) (frame : Word) (s : State) : Out :=
  .next (s.upFrame d sd.val frame 0x18 (fun s =>
    (s.keepFrame d sd.val frame).setF d (PWR_DFEED sd.val) PWR_DFEED__VFEED (frameData frame)))
def execTsub (d : Die) (sd : Fin 19) (frame : Word) (s : State) : Out :=
  .next (s.upFrame d sd.val frame 0x19 (fun s =>
    (s.keepFrame d sd.val frame).setF d (PWR_DTEMP sd.val) PWR_DTEMP__TSUB (frameData frame)))

/-- TABLE_ACK_TIMEOUT (R197): no ACK within 10 ms of TBLEND. -/
def execTableAckTimeout (d : Die) (sd : Fin 19) (s : State) : Out :=
  .next (
    let q := s.qsd d sd.val
    if s.alive d && decide (0 < q.tblSends) && !q.tblAcked && !q.tblFailed then s.tableAgain d sd.val else s)

end Sys2Proof.Machine
end

