-- ==== Sys2Proof/Machine/Resets.lean ====
section
/-! DEFINITION. The reset scopes (R104 to R109): what a module, die and switch-die reset clears and keeps, losing a die, standby
of the switch dies. -/

namespace Sys2Proof.Machine

/-! ### What a reset clears -/

/-- Whether a register-file key belongs to one die's own registers. -/
def ownKey (d : Die) (k : Nat) : Bool :=
  if k < 0x1000000 then decide (d = 0) && (decide (0x10000 ≤ k) || cisPerDie k) else decide (d = 1)

/-- Whether a die reset keeps a register: those the register table marks kept, and the debug scope with its lockout (R769, R770). -/
def keptReg (off : Nat) : Bool :=
  match regDef? off with
  | some r => r.kept || decide (off = DBG_STAT)
  | none => false

/-- The die number of a holding-register key (R10). -/
def heldDie (k : Nat) : Nat := k / 2 ^ 40

/-- Whether a memory key is a byte of a die that a die reset clears: all of it but DRAM, which stays in self-refresh (R104). -/
def clearedByte (d : Die) (k : Nat) : Bool := decide (k / 2 ^ 48 = d.val ∧ k % 2 ^ 48 < 2 ^ 32)

/-- Everything of a die that a die reset clears (R104). -/
def State.clearDie (s : State) (d : Die) : State :=
  { s with
    regs := tdrop s.regs (fun k => ownKey d k && !keptReg (k % 0x1000000))
    held := tdrop s.held (fun k => decide (heldDie k = d.val))
    mem := tdrop s.mem (clearedByte d)
    vol := s.vol.set d {} }

/-- The DRAM of a die without supply, with the dumps in it (R752). -/
def State.loseDram (s : State) (d : Die) : State :=
  { s.updKeep d (fun k => { k with dramDumps := [] }) with mem := tdrop s.mem (fun k => decide (k / 2 ^ 48 = d.val ∧ 2 ^ 32 ≤ k % 2 ^ 48)) }

/-- The pair link down on both dies. -/
def State.pairDown (s : State) : State :=
  let s1 := (s.updUpd 0 (fun u => { u with copied := false })).updUpd 1 (fun u => { u with copied := false })
  ({ ((s1.setBoth ISL_PLSTAT ISL_PLSTAT__STATE 0).setBoth ISL_PLSTAT ISL_PLSTAT__LANEOK 0) with link := ⟨{}, {}⟩ }.keepReserved
    0).keepReserved 1

/-- Every steered path that a die drives given to its partner (R42, R362, R399). -/
def State.takePaths (s : State) (lost : Die) : State :=
  (List.range 28).foldl (fun st i => if (st.fbSel i).die = lost then st.fbSwitch i lost.other else st)
    ((List.range 24).foldl (fun st p => if (st.port p).die = lost then st.portSilent p else st) s)

/-- What a die that stops leaves to its partner, where that runs: every token and every steered path (R42, R105). -/
def State.takeover (s : State) (d : Die) : State :=
  if !s.alive d.other then s
  else
    let s1 := (s.moveAll d.other).takePaths d
    if (s.holder 8) = d then (s1.steerPorts d.other).coreTakes d.other else s1

/-- A die stops: without supply, or held in reset with its DRAM in self-refresh (R105). A deferred reset of a partition homed on it is
abandoned (R108). -/
def State.stopDie (s : State) (d : Die) (run : DieRun) : State :=
  let s0 := s.updCis (fun c => { c with deferredParts := c.deferredParts.filter (fun e => decide (s.homeDie (e % 32) ≠ d)) })
  let s1 := (s0.updKeep d (fun k => { k with run := run, dramRefresh := decide (run = .held) })).takeover d
  (s1.clearDie d).pairDown

/-! ### Fatal failures (R750, R751) -/

/-- The RTC in its own units (R641) and in whole seconds. -/
def State.rtc (s : State) : Nat := s.rd64 0 CIS_RTCL CIS_RTCH
def State.rtcSec (s : State) : Nat := s.rtc / 32768 % 2 ^ 32

/-- The first free DRAM slot of the blotter. -/
def State.freeDump (s : State) (d : Die) : Option Nat :=
  (List.range 4).find? (fun i => match tget none (s.keep.get d).dramDumps i with
    | some m => m.copied
    | none => true)

/-- A die fails fatally: it stops with its state held for the dump, its tokens and paths move, the partner records the event
(R728; class, subject and detail are stated nowhere, free values: log entry 16). -/
def State.fatal (s : State) (d : Die) (cause : Nat) : State :=
  let slot := s.freeDump d
  let was := (s.ns d, s.rtc, (s.rd d FLT_WIDX).toNat)
  let s0 := if slot = none then s.addSat d FLT_BLOT FLT_BLOT__OVER 1 else s
  let s1 := (s0.updVol d (fun v => { v with flt := { v.flt with fatal := some cause, fatalAt := was, slot := slot } })).updKeep d
    (fun k => { k with run := .dumping })
  let s2 := (s1.takeover d).pairDown
  s2.withFree (fun v s => s.recordSev d.other 0 (1 + v % 23) 5 (v / 2 ^ 8 % 2 ^ 32) 0 (v / 2 ^ 40))

/-- The cause record of a die. -/
def rstDie (d : Die) : Nat := if d = 0 then CIS_RSTDIE0 else CIS_RSTDIE1

/-- The registers that a record of range 0x0Axx writes. -/
def cisRecordRegs (typ : Nat) : List Nat :=
  if typ = 0x0A01 then [CIS_CFG, CIS_GMASK, CIS_ETHWAKE] else if typ = 0x0A02 then [CIS_WAKECFG] else [CIS_WATCH]

/-- A record of the Cistern withdrawn with the boot of the die that wrote it (R78): it stands as the other die's where that has
applied it too, else its registers, the policy and the initial balance are as before it. -/
def State.withdrawRec (s : State) (d : Die) (typ : Nat) : State :=
  match tget none s.cis.pw.written typ with
  | none => s
  | some (e, b) =>
    if e ≠ d then s
    else if (s.vol.get d.other).boot.applied.any (fun a => decide (a.typ = typ)) then
      s.updPw (fun p => { p with written := tset none p.written typ (some (d.other, b)) })
    else
      let s1 := (cisRecordRegs typ).foldl (fun st off => st.wr 0 off (regReset off)) s
      let s2 := s1.updPw (fun p => { p with written := tset none p.written typ none })
      if typ ≠ 0x0A01 then s2
      else
        let s3 := s2.updPw (fun p => { p with policy := {} })
        if s3.cis.led.fresh then s3.wr64 0 CIS_BALL CIS_BALH (5000 * 1000) else s3

/-- Nothing that a boot applied survives a die reset before the first seal (R78). -/
def State.withdraw (s : State) (d : Die) : State :=
  if s.cis.firstSeal then s else ((s.withdrawRec d 0x0A01).withdrawRec d 0x0A02).withdrawRec d 0x0A03

/-- A result shown in CIS_SLEEPST. -/
def State.sleepResult (s : State) (r : Nat) : State := s.setF 0 CIS_SLEEPST CIS_SLEEPST__RESULT r

/-- The halted nibs of every cluster resume (R250). -/
def State.resumeNibs (s : State) : State :=
  (List.range 8).foldl (fun st c => (st.resumeOn 0 c (fun _ => true)).resumeOn 1 c (fun _ => true)) s

/-- An entry that ends before the commit point has passed: the module goes on. -/
def State.sleepOver (s : State) (r : Nat) : State :=
  (((s.setF 0 CIS_STAT CIS_STAT__PREP 0).sleepResult r).setF 0 CIS_EVT CIS_EVT__SLEEP 1).resumeNibs

/-- A die reset with its cause record (R104, R105, R109). It ends the entry to a sleep that is in preparation, with the result RESET
(R645). A die without supply is not reset; one that is still held in reset is
already (R108). -/
def State.dieReset (s : State) (d : Die) (cause req : Nat) : State :=
  if !(s.keep.get d).supplied || decide ((s.keep.get d).run = .held) then s
  else
    let s1 := if s.bit 0 CIS_STAT CIS_STAT__PREP then s.sleepOver 6 else s
    ((s1.causeRecord 0 (rstDie d) cause req).withdraw d).stopDie d .held

/-- Whether a CIS register is a cause record. -/
def isCauseReg (off : Nat) : Bool := decide (0x40C ≤ off ∧ off < 0x50C)

/-- The Cistern's own registers after a module reset: those not marked kept return to their reset values; a power-on clears every
one, a wake from SENTINEL the cause records too (R104, R651, R653, R664). -/
def State.clearCis (s : State) (cause : Nat) : State :=
  let gone := fun (k : Nat) =>
    decide (k % 0x1000000 < 0x10000) &&
      (if cause = 1 then true
       else if isCauseReg (k % 0x1000000) then decide (cause = 6)
       else !keptReg (k % 0x1000000))
  let c := s.cis
  { s with
    regs := tdrop s.regs gone
    cis := { c with
      straps := [], strapFault := false, strapValue := 0, deferredParts := [], firstSeal := false, sev5 := ⟨false, false⟩,
      zeroReports := ⟨false, false⟩, pps := [], dupId := false,
      pw := { levels := c.pw.levels }, led := if cause = 1 then { fresh := true } else c.led } }

/-- Sealed DRAM of a die after a module reset: its lines were encrypted under the boot nonce that is gone, so that what was written
there is unreadable, a free value (R764; log entry 56). -/
def State.nonceLost (s : State) (d : Die) : State :=
  let gone := fun (k : Nat) => decide (k / 2 ^ 48 = d.val ∧ 2 ^ 32 ≤ k % 2 ^ 48) && s.sealedAt d (k % 2 ^ 48) 1
  let l := (s.mem.map Prod.fst).filter gone
  if l = [] then s
  else l.foldl (fun st k => { st with mem := tset 0#8 st.mem k (Config.unwrittenByte (2 ^ 52 * (s.free + 1) + k)) })
    { s with free := s.free + 1 }

/-- A module reset with its cause record (R104, R109): both dies held, where they are supplied, tokens granted anew, selectors at
Q-die 0. From DORMANT and SENTINEL the regulator sets start, at once or with the release of RESET_N (R111), and VAUX is on again after
SENTINEL (R786). A request that comes before a die is released again is part of the same reset (R108). A power-on sets the balance to the initial balance of a module without a policy record (R653, R667). -/
def State.moduleReset (s : State) (cause req : Nat) : State :=
  let asleep := s.fld 0 CIS_STAT CIS_STAT__STATE
  let starts := fun (d : Die) =>
    decide (2 ≤ asleep) && s.cis.resetN && !s.bit 0 CIS_STAT (if d = 0 then CIS_STAT__REG0 else CIS_STAT__REG1)
  let hold := fun (st : State) (d : Die) =>
    ((st.updKeep d (fun k => { k with
      supplied := k.supplied || starts d, run := if k.supplied || starts d then .held else .off,
      dramRefresh := k.supplied, glitchStuck := false, attestOff := false })).clearDie d).wr d DBG_STAT 0#32
  let s0 := (s.nonceLost 0).nonceLost 1
  let s1 := (hold (hold s0 0) 1).pairDown
  let s2 := s1.clearCis cause
  let s3 := { s2 with ports := [], field := { s2.field with sels := [] } }
  let s4 := if cause = 1 then s3.wr64 0 CIS_BALL CIS_BALH (5000 * 1000) else s3
  (s4.causeAgain 0 CIS_RSTMOD cause req s.cis.resetting).updCis (fun c => { c with
    resetting := true, vaux := c.vaux || decide (asleep = 3) })

/-! ### Switch dies -/

/-- A channel of a switch die that has lost its logic state: what calibration put into NVM stays (R151). -/
def Chan.fresh (c : Chan) : Chan :=
  { calGain := c.calGain, calOffs := c.calOffs, calOffOnly := c.calOffOnly, calField := c.calField, lowGain := c.lowGain,
    lowOffs := c.lowOffs, calLow := c.calLow }

/-- A switch die that has lost its logic state: its NVM stays, with a fault of it, every channel is off (R83, R104). -/
def SwitchDie.fresh (x : SwitchDie) (powered : Bool) : SwitchDie :=
  { powered := powered, table := x.table, nvmFault := x.nvmFault, chans := x.chans.map (fun e => (e.1, e.2.fresh)) }

/-- What the Q-dies hold of a switch die that begins anew: no table received or acknowledged, no command waiting, no event seen. -/
def State.forgetSd (s : State) (sd : Nat) : State :=
  let one := fun (q : QSd) => { q with
    cmds := [], proof := q.proof, serDef := false, tblAcked := false, tblSends := 0, tblFailed := false, cycleIn := [], evtSeen := [] }
  (((s.updQsd 0 sd one).updQsd 1 sd one).wr 0 (PWR_DTBL sd) 0#32).wr 1 (PWR_DTBL sd) 0#32

/-- A switch-die reset with its cause record (R104, R109); START is entered 0.3 ms later (R83), and until then another request is part
of the same reset (R108). -/
def State.switchDieReset (s : State) (sd cause req : Nat) : State :=
  ((s.causeAgain 0 (CIS_RSTSWn sd) cause req (!(s.sd sd).started)).updSd sd (fun x => x.fresh x.powered)).forgetSd sd

/-- Standby of a switch die (R643): each kept channel holds its level, a PWM channel under the hold-threshold rule of R191, every
other one turns off, with it one that has no record since service entry (R158). -/
def State.enterStandby (s : State) (sd : Nat) : State :=
  let x := s.sd sd
  if !x.started then s else
  let s1 := (List.range (sdChans sd)).foldl (fun st k =>
    let n := gch sd k
    let kept := bitOf (st.rd 0 (CIS_KEEPi (n / 32))).toNat (n % 32)
    st.updChan sd k (fun c => { c with
      held := some (kept && (decide (x.mode = .start) || decide (st.chSet sd k PWR_CHkCFG__USED ≠ 0)) &&
        (if c.pwm && decide (x.mode ≠ .start) then decide (x.thresh k * c.period ≤ 100 * c.duty) else c.on)),
      ramping := false, rampSelf := false, flywheel := false, linePend := false, deferred := false, offTest := false })) s
  (s1.updSd sd (fun x => { x with standby := true, lastHold := true })).settleAll sd

/-- Standby released (R643): the last-state hold goes on until a SVCENT is accepted. -/
def State.leaveStandby (s : State) (sd : Nat) : State :=
  (s.updSd sd (fun x => { x with standby := false })).settleAll sd

end Sys2Proof.Machine
end

