-- ==== Sys2Proof/Machine/ZoneOps.lean ====
section
/-! DEFINITION. The shared operations of the zone-group unit (spec/18): frames, the view, the ledger, reports, roaming and remote
accesses. -/

namespace Sys2Proof.Machine

/-! ### The unit of a die -/

/-- The zone-group unit of a die. -/
def State.zg (s : State) (d : Die) : ZgSt := (s.vol.get d).zg
def State.updZg (s : State) (d : Die) (f : ZgSt → ZgSt) : State := s.updVol d (fun v => { v with zg := f v.zg })

/-- A change of the unit on both dies. -/
def State.updZgBoth (s : State) (f : ZgSt → ZgSt) : State := (s.updZg 0 f).updZg 1 f

/-- The module's own ID, as a die resolved it (R69). -/
def State.ownId (s : State) (d : Die) : Nat := s.fld d UPD_DMODID UPD_DMODID__MODID

/-- Whether a die's unit takes part in a zone group (R668). -/
def State.zgOn (s : State) (d : Die) : Bool :=
  s.alive d && s.isSealed d && s.bit d ZGP_CFG ZGP_CFG__USED && s.bit d UPD_DMODID UPD_DMODID__IDVALID

/-- ZGP_STAT.STATE, and the coordinator's ID. -/
def State.zgState (s : State) (d : Die) : Nat := s.fld d ZGP_STAT ZGP_STAT__STATE
def State.zgCoord (s : State) (d : Die) : Nat := s.fld d ZGP_STAT ZGP_STAT__COORD

/-- Whether a module is in the view, and marked SLOW in it. -/
def State.isMem (s : State) (d : Die) (m : Nat) : Bool := bitOf (s.rd d (ZGP_MEMw (m / 32))).toNat (m % 32)
def State.isSlow (s : State) (d : Die) (m : Nat) : Bool := bitOf (s.rd d (ZGP_SLOWw (m / 32))).toNat (m % 32)
def State.setMem (s : State) (d : Die) (m : Nat) (b : Bool) : State :=
  s.wr d (ZGP_MEMw (m / 32)) (BitVec.ofNat 32 (withBit (s.rd d (ZGP_MEMw (m / 32))).toNat (m % 32) b))
def State.setSlow (s : State) (d : Die) (m : Nat) (b : Bool) : State :=
  s.wr d (ZGP_SLOWw (m / 32)) (BitVec.ofNat 32 (withBit (s.rd d (ZGP_SLOWw (m / 32))).toNat (m % 32) b))

/-- The modules of the view. -/
def State.memList (s : State) (d : Die) : List Nat := (List.range 1024).filter (fun m => s.isMem d m)

/-- What a die knows of a module. -/
def State.zgMember (s : State) (d : Die) (m : Nat) : ZgMember := tget {} (s.zg d).members m
def State.updMember (s : State) (d : Die) (m : Nat) (f : ZgMember → ZgMember) : State :=
  s.updZg d (fun z => { z with members := tupd {} z.members m f })

/-- Whether this module is eligible (R677). -/
def State.selfElig (s : State) (d : Die) : Bool :=
  s.bit d ZGP_CFG ZGP_CFG__ELIG && !s.isSlow d (s.ownId d) && decide (s.zgState d ≠ 5)

/-- Whether a member is eligible, as its heartbeats say it (R677). -/
def State.eligId (s : State) (d : Die) (m : Nat) : Bool :=
  if m = s.ownId d then s.selfElig d else bitOf (s.zgMember d m).flags 0 && !s.isSlow d m

/-! ### Sending (R668 to R670) -/

/-- The header of a frame of a type (R669). -/
def zgHeader (typ own gid epoch len seq time : Nat) : List Byte :=
  toLE 1 1 ++ toLE 1 typ ++ toLE 2 own ++ toLE 4 gid ++ toLE 2 epoch ++ toLE 2 len ++ toLE 4 seq ++ toLE 8 time ++ toLE 8 0

/-- A frame built by the unit of the die that holds token 8 and put on every port of the mask with a link; the other die counts it by the
copy it is passed (R670). -/
def State.zgSend (s : State) (typ dst : Nat) (body : List Byte) : State :=
  let h := s.holder 8
  if !s.zgOn h then s
  else
    let z := s.zg h
    let seq := tget 0 z.seqs typ
    let load := zgHeader typ (s.ownId h) (s.rd h ZGP_GID).toNat (s.fld h UPD_DEPOCH UPD_DEPOCH__IFEPOCH) body.length seq (s.ns h) ++
      body
    let vid := z.vlan % 4096
    let tag := if vid = 0 then [] else toBE 2 0x8100 ++ toBE 2 (z.vlan / 4096 % 8 * 8192 + vid)
    let eth := toBE 2 (s.fld h ZGP_CFG ZGP_CFG__ETYPE)
    let s0 := s.updZg h (fun z => { z with seqs := tset 0 z.seqs typ ((seq + 1) % 2 ^ 32) })
    let s1 := if s0.linkUp && s0.alive h.other then s0.updZg h.other (fun z => { z with seqs := tset 0 z.seqs typ ((seq + 1) % 2 ^ 32) })
      else s0
    ((List.range 24).filter (fun p => bitOf z.mask p && (s.port p).link)).foldl (fun st p =>
      st.updMac h p (fun m => { m with unit := m.unit ++ [macFrame (toLE 6 dst ++ s.portAddr h p ++ tag ++ eth ++ load)] })) s1

/-- A frame that a die's unit has cause to send, with the time noted: only the unit of the die with token 8 builds it. -/
def State.zgTx (s : State) (d : Die) (typ dst : Nat) (body : List Byte) : State :=
  let s1 := s.updZg d (fun z => { z with sentAt := tset none z.sentAt typ (some (s.ns d)) })
  if d = s.holder 8 then s1.zgSend typ dst body else s1

/-- Whether a die's unit sent its last frame of a type at least so many ns ago. -/
def State.zgDue (s : State) (d : Die) (typ ns : Nat) : Bool :=
  match tget none (s.zg d).sentAt typ with
  | some t => decide (t + ns ≤ s.ns d)
  | none => true

/-- A multicast frame. -/
def State.zgCast (s : State) (d : Die) (typ : Nat) (body : List Byte) : State := s.zgTx d typ (s.zg d).addr body

/-! ### Receiving (R670) -/

/-- Whether a type's body length is one the type has (R669, R690, R714). -/
def zgLenOk (typ n : Nat) : Bool :=
  match typ with
  | 0x01 => decide (n = 16) | 0x02 => decide (n = 0) | 0x03 => decide (n = 8) | 0x04 => decide (n = 268)
  | 0x05 => decide (n = 8) | 0x06 => decide (n = 20) | 0x07 => decide (n = 20) | 0x08 => decide (n = 12)
  | 0x09 => decide (13 ≤ n ∧ n ≤ 1036) | 0x0A => decide (n = 12) | 0x0B => decide (n = 24) | 0x0C => decide (n = 8)
  | _ => false

/-- The sender's module ID. -/
def zgFrom (f : ZgFrame) : Nat := f.sender.toNat % 1024

/-- A received frame: ignored by a module outside every group, counted and discarded under R668 and R670, else processed. -/
def State.zgHear (s : State) (d : Die) (port : Nat) (f : ZgFrame) (typ : Nat) (act : State → State) : State :=
  if !s.zgOn d then s
  else if bitOf (s.zg d).mask port && decide (f.vers = 1#8 ∧ f.typ.toNat = typ ∧ f.group = s.rd d ZGP_GID ∧
      f.len.toNat = f.body.length) && zgLenOk typ f.body.length &&
      !decide (zgFrom f = s.ownId d ∧ f.src.toNat = leBytes (s.portAddr d port) 0 6) then act s
  else s.addSat d ZGP_CNT ZGP_CNT__DISC 1

/-! ### Reports and the ledger (R682 to R685) -/

/-- The slot of a subject for an observer, in µs (R682). -/
def reportSlot (own : Nat) (body : List Byte) : Nat := crc32 (toLE 2 own ++ body) % 4000

/-- The body of a report. -/
def reportPayload (subj kind detail : Nat) : List Byte := toLE 2 subj ++ toLE 1 kind ++ toLE 1 0 ++ toLE 4 detail

/-- A subject's open entry in a die's mirror. -/
def State.openEntry (s : State) (d : Die) (subj kind detail : Nat) : Option Nat :=
  (List.range 256).find? (fun e =>
    let w := s.rd d (ZGP_LEDe e 0)
    decide (ZGP_LEDe__OPEN.get w = 1 ∧ ZGP_LEDe__SUBJ.get w = subj ∧ ZGP_LEDe__KIND.get w = kind ∧
      (s.rd d (ZGP_LEDe e 1)).toNat = detail))

/-- The oldest of a list of entries. -/
def State.oldestOf (s : State) (d : Die) (l : List Nat) : Option Nat :=
  l.foldl (fun b e => match b with
    | some x => if (tget (0, 0) (s.zg d).led e).1 < (tget (0, 0) (s.zg d).led x).1 then some e else some x
    | none => some e) none

/-- The entry a new subject takes: the oldest closed one, or the oldest when all are open (R684). -/
def State.freeEntry (s : State) (d : Die) : Nat :=
  let closed := (List.range 256).filter (fun e => decide (ZGP_LEDe__OPEN.get (s.rd d (ZGP_LEDe e 0)) = 0))
  (s.oldestOf d (if closed = [] then List.range 256 else closed)).getD 0

/-- The 16 bytes of an entry. -/
def State.entryBytes (s : State) (d : Die) (e : Nat) : List Byte :=
  (List.range 4).flatMap (fun w => toLE 4 (s.rd d (ZGP_LEDe e w)).toNat)

/-- A new entry learned of: its record of class 0x14 and the event (R685). -/
def State.entryLearned (s : State) (d : Die) (e : Nat) : State :=
  let w := s.rd d (ZGP_LEDe e 0)
  (s.record d 0x1200 0x14 (ZGP_LEDe__SUBJ.get w + 2 ^ 16 * ZGP_LEDe__KIND.get w) 0
    ((s.rd d (ZGP_LEDe e 1)).toNat + 2 ^ 32 * e)).setF d ZGP_EVT ZGP_EVT__LEDGER 1

/-- ACK of an entry (R683). -/
def State.ackEntry (s : State) (d : Die) (e : Nat) : State := s.zgCast d 0x06 (toLE 2 e ++ toLE 2 0 ++ s.entryBytes d e)

/-- The coordinator opens an entry, or counts a further report of an open one (R683). `n` is 1 for a report, 0 for its own
observation. -/
def State.openLedger (s : State) (d : Die) (subj kind detail byId n : Nat) : State :=
  match s.openEntry d subj kind detail with
  | some e =>
    (s.addSat d (ZGP_LEDe e 3) ZGP_LEDe__COUNT n).updZg d (fun z => { z with
      led := tset (0, 0) z.led e ((tget (0, 0) z.led e).1, s.ns d) })
  | none =>
    let e := s.freeEntry d
    let w := fun (st : State) (i x : Nat) => st.wr d (ZGP_LEDe e i) (BitVec.ofNat 32 x)
    let s1 := w (w (w (w s 0 (subj % 1024 + 2 ^ 16 * (kind % 256) + 2 ^ 31)) 1 detail) 2 (s.ns d / 1000000)) 3 (n + 2 ^ 16 * byId)
    let s2 := s1.updZg d (fun z => { z with led := tset (0, 0) z.led e (s.ns d, s.ns d) })
    (s2.entryLearned d e).ackEntry d e

/-- The open entries of a kind about a subject close (R684). -/
def State.closeEntries (s : State) (d : Die) (subj kind : Nat) : State :=
  (List.range 256).foldl (fun st e =>
    let w := st.rd d (ZGP_LEDe e 0)
    if ZGP_LEDe__SUBJ.get w = subj ∧ ZGP_LEDe__KIND.get w = kind then st.setF d (ZGP_LEDe e 0) ZGP_LEDe__OPEN 0 else st) s

/-- An observation: the coordinator opens the entry, another observer waits for its slot (R682, R683). -/
def State.observe (s : State) (d : Die) (subj kind detail : Nat) : State :=
  if s.zgState d = 3 then s.openLedger d subj kind detail (s.ownId d) 0
  else if (s.zg d).obs.any (fun o => decide (o.subj = subj ∧ o.kind = kind ∧ o.detail = detail)) then s
  else
    let due := s.ns d + 1000 * reportSlot (s.ownId d) (reportPayload subj kind detail)
    s.updZg d (fun z => { z with obs := z.obs ++ [⟨subj, kind, detail, due, false, false⟩] })

/-- An observation changed. -/
def State.updObs (s : State) (d : Die) (subj kind detail : Nat) (f : ZgObs → ZgObs) : State :=
  s.updZg d (fun z => { z with
    obs := z.obs.map (fun o => if o.subj = subj ∧ o.kind = kind ∧ o.detail = detail then f o else o) })

/-! ### The view (R672, R677 to R681) -/

/-- The interface epochs of the view: smallest and largest. -/
def State.showSpan (s : State) (d : Die) : State :=
  let own := s.fld d UPD_DEPOCH UPD_DEPOCH__IFEPOCH
  let es := ((s.memList d).filter (fun m => m ≠ s.ownId d)).map (fun m => (s.zgMember d m).epoch)
  s.wr d ZGP_SPAN (BitVec.ofNat 32 (es.foldl min own + 2 ^ 16 * es.foldl max own))

/-- Status in a view: number, coordinator, backups; own state, rank and eligibility; the events; holdover where the grandmaster
has become SLOW. -/
def State.showView (s : State) (d : Die) (n coord b1 b2 : Nat) : State :=
  let own := s.ownId d
  let st := s.zgState d
  let inV := s.isMem d own
  let s1 := if (s.rd d ZGP_VIEW).toNat = n then s else s.setF d ZGP_EVT ZGP_EVT__VIEW 1
  let s2 := if s.zgCoord d = coord then s1 else s1.setF d ZGP_EVT ZGP_EVT__COORD 1
  let s3 := ((s2.wr d ZGP_VIEW (BitVec.ofNat 32 n)).setF d ZGP_STAT ZGP_STAT__COORD coord).wr d ZGP_BACKUP
    (BitVec.ofNat 32 (b1 + 2 ^ 16 * b2))
  let s4 := s3.setF d ZGP_STAT ZGP_STAT__RANK (if !inV then 0 else if own = b1 then 1 else if own = b2 then 2 else 0)
  let new := if st = 6 ∨ st = 7 then st else if inV then (if coord = own then 3 else 2)
    else if st = 4 ∨ st = 5 then st else 1
  let s5 := s4.setF d ZGP_STAT ZGP_STAT__STATE new
  let s6 := s5.setF d ZGP_STAT ZGP_STAT__ELIG (b2n (inV && s5.selfElig d))
  let s7 := (if inV then s6.updZg d (fun z => { z with viewAt := some (s.ns d) }) else s6).showSpan d
  if s7.slowClock d ∧ (s7.fld d TIM_STAT TIM_STAT__STATE = 1 ∨ s7.fld d TIM_STAT TIM_STAT__STATE = 2) then
    ((s7.holdover d).setF d TIM_STAT TIM_STAT__SLEW 0).setF d TIM_EVT TIM_EVT__HOLD 1
  else s7

/-- The eligible members in the order of their IDs. -/
def State.eligList (s : State) (d : Die) : List Nat := (s.memList d).filter (fun m => s.eligId d m)

/-- The bytes of a bitmap held in 32 registers. -/
def State.bitmap (s : State) (d : Die) (base : Nat) : List Byte :=
  (List.range 32).flatMap (fun w => toLE 4 (s.rd d (base + 4 * w)).toNat)

/-- The view sent, with the grants that stand (R672, R688). -/
def State.sendView (s : State) (d : Die) : State :=
  let body := toLE 4 (s.rd d ZGP_VIEW).toNat ++ toLE 2 (s.zgCoord d) ++ toLE 2 (s.fld d ZGP_BACKUP ZGP_BACKUP__B1) ++
    toLE 2 (s.fld d ZGP_BACKUP ZGP_BACKUP__B2) ++ toLE 2 0 ++ s.bitmap d (ZGP_MEMw 0) ++ s.bitmap d (ZGP_SLOWw 0)
  let s1 := s.zgCast d 0x04 body
  (s1.zg d).grants.foldl (fun st e => match e.2 with
    | some h => st.zgCast d 0x0A (toLE 1 1 ++ toLE 1 (e.1 % 32) ++ toLE 2 (e.1 / 32) ++ toLE 2 h ++ toLE 2 0 ++ toLE 4 0)
    | none => st) s1

/-- A new view of the coordinator: the next number, backups the next two eligible IDs (R672, R677). -/
def State.makeView (s : State) (d : Die) (coord : Nat) : State :=
  let l := (s.eligList d).filter (fun m => m ≠ coord)
  (s.showView d (((s.rd d ZGP_VIEW).toNat + 1) % 2 ^ 32) coord (l.getD 0 0x3FF) (l.getD 1 0x3FF)).sendView d

/-- The coordinator's view after a change: a lower eligible ID is named coordinator (R677). -/
def State.changeView (s : State) (d : Die) : State :=
  let own := s.ownId d
  let low := ((s.eligList d).head?).getD own
  s.makeView d (if low < own then low else own)

/-- A module removed from the view of a die, with its SLOW mark. -/
def State.dropMember (s : State) (d : Die) (m : Nat) : State :=
  let s1 := if s.isSlow d m then s.closeEntries d m 0x02 else s
  (s1.setMem d m false).setSlow d m false

/-- A new coordinator acknowledges the reports its mirror shows pending and opens entries for its own observations (R683). -/
def State.ackPending (s : State) (d : Die) : State :=
  let z := s.zg d
  let s2 := s.updZg d (fun z => { z with heard := [], obs := [] })
  let s3 := z.heard.foldl (fun st e => st.openLedger d e.1 e.2.1 e.2.2.1 e.2.2.2 1) s2
  z.obs.foldl (fun st o => st.openLedger d o.subj o.kind o.detail (st.ownId d) 0) s3

/-- Duties taken over (R678): the view is this module's. -/
def State.takeCharge (s : State) (d : Die) : State := ((s.setMem d (s.ownId d) true).makeView d (s.ownId d)).ackPending d

/-- A view received: its lists taken, entries of members admitted again and of marks cleared close (R672, R684); a module that it names
coordinator takes the duties up (R677, R683). -/
def State.adoptView (s : State) (d : Die) (b : List Byte) : State :=
  let s1 := (List.range 1024).foldl (fun st m =>
    let bit := fun (at0 : Nat) => bitOf (u8 b (at0 + m / 8)) (m % 8)
    let mem := bit 12
    let slow := bit 140
    let a := if mem && !st.isMem d m then (st.closeEntries d m 0x01).updMember d m (fun x => { x with lost := false, left := false })
      else st
    let c := if !slow && a.isSlow d m then a.closeEntries d m 0x02 else a
    if mem = c.isMem d m ∧ slow = c.isSlow d m then c else (c.setMem d m mem).setSlow d m slow) s
  let s2 := s1.showView d (u32 b 0) (u16 b 4 % 1024) (u16 b 6 % 1024) (u16 b 8 % 1024)
  if s2.zgState d = 3 then s2.ackPending d else s2

/-- A LEAVE sent (R676). -/
def State.sendLeave (s : State) (d : Die) (reason : Nat) : State := s.zgCast d 0x0C (toLE 1 reason ++ toLE 7 0)

/-- A module that has left is in no view: the unit of a die shows a state. -/
def State.outOfView (s : State) (d : Die) (st : Nat) : State :=
  if s.zgOn d then
    ((((List.range 1024).foldl (fun q k => if q.isMem d k then q.dropMember d k else q) s).setF d ZGP_STAT ZGP_STAT__STATE st).setF d
      ZGP_STAT ZGP_STAT__RANK 0).setF d ZGP_STAT ZGP_STAT__ELIG 0
  else s

/-- The LEAVE of a module that commits to sleep (R676), sent by the die that holds token 8 where the module takes part; it joins again
when it wakes. -/
def State.sleepLeave (s : State) : State :=
  let h := s.holder 8
  if s.zgOn h ∧ s.zgState h ≠ 6 ∧ s.zgState h ≠ 7 then ((s.sendLeave h 1).outOfView 0 1).outOfView 1 1 else s

/-! ### Roaming (R686 to R688) -/

/-- The key of a roaming partition: home module and home partition. -/
def roamKey (home part : Nat) : Nat := home * 32 + part

/-- The roaming record of a partition. -/
def State.roamOf (s : State) (d : Die) (p : Nat) : Option ZgRoam := tget none (s.zg d).roam p

/-- The states of a roaming partition shown on a die: state and holder. -/
def State.setRoam (s : State) (d : Die) (p st holder : Nat) : State :=
  (s.setF d (ZGP_RpSTAT p) ZGP_RpSTAT__STATE st).setF d (ZGP_RpSTAT p) ZGP_RpSTAT__HOLDER holder

/-- A roaming partition stopped by partition reset with cause 0x21, where it runs (R687). -/
def State.stopRoam (s : State) (d : Die) (p st holder : Nat) : State :=
  let ran := decide (s.fld d (ZGP_RpSTAT p) ZGP_RpSTAT__STATE = 1)
  let s1 := s.setRoam d p st holder
  if ran && !s.bit d (WLD_pSTAT p) WLD_pSTAT__RST then s1.partReset p 0x21 0 else s1

/-- A grant learned of: its holder's partition runs once the reset is acknowledged, any other copy is stopped or held (R687,
R688). -/
def State.applyGrant (s : State) (d : Die) (key holder : Nat) : State :=
  let own := s.ownId d
  let was := tget none (s.zg d).grants key
  let s1 := s.updZg d (fun z => { z with
    grants := tset none z.grants key (some holder), released := z.released.filter (fun k => k ≠ key) })
  (List.range 32).foldl (fun st p =>
    match st.roamOf d p with
    | some r =>
      if roamKey r.home r.part ≠ key then st
      else if holder = own then
        let s2 := st.setRoam d p 1 own
        if was = some holder then s2 else s2.setF d ZGP_EVT ZGP_EVT__ROAM 1
      else st.stopRoam d p 2 holder
    | none => st) s1

/-- The chunks of a state region, with their offsets. -/
def chunks1024 (l : List Byte) : List (Nat × List Byte) :=
  (List.range ((l.length + 1023) / 1024)).map (fun i => (1024 * i, (l.drop (1024 * i)).take 1024))

/-- A state region sent to a module as ROAMSTATE frames (R687). -/
def State.sendRegion (s : State) (d : Die) (r : ZgRoam) (snap m : Nat) : State :=
  (chunks1024 (s.bytesAt d r.base r.size)).foldl (fun st c =>
    st.zgSend 0x09 (st.zgMember d m).addr (toLE 1 r.part ++ toLE 3 0 ++ toLE 4 snap ++ toLE 4 c.1 ++ c.2)) s

/-! ### Tagged commands of a die's blocks (R666, R696) -/

/-- Whether the TAG of a write differs from the last executed to the register from the same requester. Registers: 0 ZGP_CMD,
1 ZGP_RpPUB, 2 UPD_CMD. -/
def State.tagNew (s : State) (d : Die) (reg : Nat) (who : Initiator) (tag : Nat) : Bool :=
  match who with
  | .mgmt _ => decide (tget none (s.vol.get d).tags (64 * reg) ≠ some tag)
  | .part p => decide (tget none (s.vol.get d).tags (64 * reg + p.val + 1) ≠ some tag)
  | _ => false

/-- The TAG of an executed write noted. -/
def State.tagNote (s : State) (d : Die) (reg : Nat) (who : Initiator) (tag : Nat) : State :=
  let q := match who with
    | .part p => p.val + 1
    | _ => 0
  s.updVol d (fun v => { v with tags := tset none v.tags (64 * reg + q) (some tag) })

/-- A ZGP_CMD write (R696): from partition 0 or a management core with CONFIRM 0x8C and a new TAG; its result. -/
def State.zgCmd (s : State) (d : Die) (who : Initiator) (confirm tag : BitVec 8) (act : State → State × Nat) : State :=
  if s.alive d && who.isManager && decide (confirm = 0x8C#8) && s.tagNew d 0 who tag.toNat then
    let r := act (s.tagNote d 0 who tag.toNat)
    r.1.setF d ZGP_CMDRES ZGP_CMDRES__RESULT r.2
  else s

/-! ### Remote accesses (R689 to R694) -/

/-- A failure recorded in ZGP_REMERR of a die (R692, R694). -/
def State.remErr (s : State) (d : Die) (m reason : Nat) : State :=
  (((s.setF d ZGP_REMERR ZGP_REMERR__PEER m).setF d ZGP_REMERR ZGP_REMERR__REASON reason).addSat d ZGP_REMERR
    ZGP_REMERR__COUNT 1).setF d ZGP_EVT ZGP_EVT__REMFAIL 1

/-- The completion of an access that fails: a read completes with all ones in every byte and an error response (R33, R694). -/
def State.remReply (s : State) (op size : Nat) : State :=
  s.reply (if op = 1 ∨ op = 3 then .errorBytes (List.replicate size 0xFF#8) else .error)

/-- An access that fails for a reason: a write shows reason 6 and reaches no core, any other completes with an error. -/
def State.remFail (s : State) (d : Die) (m op reason : Nat) : State :=
  if op = 2 then s.remErr d m 6 else (s.remErr d m reason).remReply op 4

/-- The body of a request. -/
def ZgReq.body (q : ZgReq) : List Byte :=
  toLE 2 q.tag ++ toLE 1 q.op ++ toLE 1 q.fn ++ toLE 4 q.off ++ toLE 4 q.data ++ toLE 1 q.part ++ toLE 3 0 ++ toLE 4 q.seq

/-- Requests to a member sent in order while fewer than eight are outstanding (R690); one still waiting fails where the member is no longer
in the view or this module isolated (R694). -/
def State.sendReqs (s : State) (d : Die) (m : Nat) : Nat → State
  | 0 => s
  | fuel + 1 =>
    let mine := (s.zg d).reqs.filter (fun q => decide (q.member = m))
    match mine.find? (fun q => q.sent.isNone) with
    | some q =>
      if !s.isMem d m || decide (s.zgState d ≠ 2 ∧ s.zgState d ≠ 3) then
        ((s.updZg d (fun z => { z with reqs := z.reqs.erase q })).remFail d m q.op 1).sendReqs d m fuel
      else if 8 ≤ (mine.filter (fun q => q.sent.isSome)).length then s
      else
        let s1 := s.updZg d (fun z => { z with
          reqs := z.reqs.map (fun x => if x.tag = q.tag then { x with sent := some (s.ns d) } else x) })
        (s1.zgSend 0x07 (s1.zgMember d m).addr q.body).sendReqs d m fuel
    | none => s

/-- The block instance a register of a die belongs to (R35), with the die. -/
def instOf (e : Die) (off : Nat) : Nat :=
  e.val * 0x4000 + (if 0xA0000 ≤ off ∧ off < 0xC0000 then 0x1000 + (off - 0xA0000) / 0x800
    else if 0xC0000 ≤ off ∧ off < 0xE0000 then 0x2000 + (off - 0xC0000) / 0x1000
    else if 0x100000 ≤ off ∧ off < 0x120000 then 0x3000 + (off - 0x100000) / 0x800 else off / 0x10000)

/-- The block ID of a register offset (R35). -/
def blockId (off : Nat) : Nat :=
  if off < 0x70000 then off / 0x10000 + 1
  else if 0x80000 ≤ off ∧ off < 0xA0000 then off / 0x10000
  else if 0xA0000 ≤ off ∧ off < 0xC0000 then 0x0A
  else if 0xC0000 ≤ off ∧ off < 0xE0000 then 0x0B
  else if 0xE0000 ≤ off ∧ off < 0x100000 then off / 0x10000 - 2
  else if 0x100000 ≤ off ∧ off < 0x120000 then 0x0E
  else if 0x120000 ≤ off ∧ off < 0x170000 then off / 0x10000 - 3
  else 0

/-- A reservation ended on both dies' units. -/
def State.endLock (s : State) (inst : Nat) : State :=
  s.updZgBoth (fun z => { z with locks := z.locks.filter (fun l => l.inst ≠ inst) })

/-- A request answered. -/
def State.answerReq (s : State) (d : Die) (f : ZgFrame) (st data : Nat) : State :=
  s.zgSend 0x08 (s.zgMember d (zgFrom f)).addr (toLE 2 (u16 f.body 0) ++ toLE 1 st ++ toLE 5 0 ++ toLE 4 data)

/-- Whether a request waits for another requester's reservation (R693): writes, and locking reads. -/
def State.reqWaits (s : State) (d : Die) (f : ZgFrame) : Bool :=
  let off := u32 f.body 4
  let e : Die := if 0x800000 ≤ off then 1 else 0
  decide (u8 f.body 2 ≠ 1) &&
    (s.zg d).locks.any (fun l => decide (l.inst = instOf e (off % 0x800000) ∧ l.member ≠ zgFrom f))

/-- The target performs or refuses a request (R691 to R693), by the unit of the die that holds token 8. -/
def State.serveReq (s : State) (d : Die) (f : ZgFrame) : State :=
  let b := f.body
  let m := zgFrom f
  let op := u8 b 2
  let wide := u32 b 4
  let e : Die := if 0x800000 ≤ wide then 1 else 0
  let off := wide % 0x800000
  let data := u32 b 8
  let part := u8 b 12
  let seq := u32 b 16
  let blk := blockId off
  let inst := instOf e off
  let ok := match (s.zg d).remote with
    | some (lo, hi, rm, wm) => decide (lo ≤ m ∧ m ≤ hi ∧ blk ≠ 0 ∧ blk ≠ 0x11 ∧ blk ≠ 0x13) &&
        bitOf (if op = 1 ∨ op = 3 then rm else wm) blk
    | none => false
  let locked := (s.zg d).locks.find? (fun l => decide (l.inst = inst ∧ l.member = m))
  let put := fun (st : State) (v : Nat) => st.regWrite e (.part 0) off (BitVec.ofNat 32 v)
  if !ok then s.answerReq d f 1 0
  else if (s.zg d).forced.contains (m, inst) then
    (s.updZgBoth (fun z => { z with forced := z.forced.filter (fun x => x ≠ (m, inst)) })).answerReq d f 3
      (if op = 4 then 1 else 2 ^ 32 - 1)
  else if !s.alive e || (regDef? off).isNone || selfPage off || decide (off % 4 ≠ 0 ∨ 0x170000 ≤ wide % 0x800000 ∨ 0x1000000 ≤ wide) then
    s.answerReq d f 2 0
  else
    let now := (s.readReg e off none).1.toNat
    match op with
    | 1 => s.answerReq d f 0 now
    | 2 =>
      let key := m * 256 + part
      let stale : Bool := match tget none (s.zg d).accepted key with
        | some s0 => decide (part ≠ 0xFF) && !decide (0 < (seq + 2 ^ 32 - s0) % 2 ^ 32 ∧ (seq + 2 ^ 32 - s0) % 2 ^ 32 < 2 ^ 31)
        | none => false
      if stale then s.answerReq d f 0 0
      else
        let s1 := if part = 0xFF then s
          else s.updZgBoth (fun z => { z with accepted := tset none z.accepted key (some seq) })
        (put s1 data).answerReq d f 0 0
    | 3 =>
      (s.updZgBoth (fun z => { z with
        locks := ⟨inst, off, m, s.ns d⟩ :: z.locks.filter (fun l => l.inst ≠ inst) })).answerReq d f 0 now
    | 4 =>
      match locked with
      | some l => if l.off = off then ((put s data).endLock inst).answerReq d f 0 0 else s.answerReq d f 0 1
      | none => s.answerReq d f 0 1
    | 5 =>
      match amo 32 (u8 b 3) now data with
      | some v => (put s v).answerReq d f 0 now
      | none => s.answerReq d f 2 0
    | _ => s.answerReq d f 2 0

/-- Requests that waited for a reservation served once it has ended, in the order they came. -/
def State.serveWaits (s : State) (d : Die) : Nat → State
  | 0 => s
  | fuel + 1 =>
    match (s.zg d).waits.find? (fun f => !s.reqWaits d f) with
    | some f => ((s.updZg d (fun z => { z with waits := z.waits.erase f })).serveReq d f).serveWaits d fuel
    | none => s

/-- A local write to a word ends the reservation on it, and what waited for it is served (R693). -/
def State.localWrite (s : State) (d : Die) (off : Nat) : State :=
  let s1 := s.updZgBoth (fun z => { z with locks := z.locks.filter (fun l => !decide (l.inst = instOf d off ∧ l.off = off)) })
  s1.serveWaits (s1.holder 8) (s1.zg (s1.holder 8)).waits.length

/-! ### The seal (R668, R686) -/

/-- The zone-group unit of a die that seals without a sealed partner: joining, or still out where its ID was found duplicate since module
reset (R674), with each roaming partition in its role. A taker's partition stands in partition reset. The sequences go on from those of
the other die where it runs (R669, R712). -/
def State.zgStart (s : State) (d : Die) : State :=
  let own := s.ownId d
  let s1 := (List.range 32).foldl (fun st p =>
    match st.roamOf d p with
    | some r =>
      if st.fld d (ZGP_RpSTAT p) ZGP_RpSTAT__ROLE = 1 then st.setRoam d p 1 own
      else (st.setRoam d p 0 r.home).holdReset d p
    | none => st) s
  if s1.bit d ZGP_CFG ZGP_CFG__USED && s1.bit d UPD_DMODID UPD_DMODID__IDVALID then
    (s1.setF d ZGP_STAT ZGP_STAT__STATE (if s.cis.dupId then 6 else 1)).updZg d (fun z => { z with
      anyView := s.ns d, seqs := if s.linkUp && s.alive d.other then (s.zg d.other).seqs else z.seqs })
  else s1

end Sys2Proof.Machine
end

