-- ==== Sys2Proof/Machine/Cistern.lean ====
section
/-! DEFINITION. The Cistern (spec/17): energy records, lanes and regulators, sleep and wake, metering and the energy ledger,
errands, load planning, the authority arbiter. -/

namespace Sys2Proof.Machine

/-! ### Shared parts -/

/-- 24 hours in units of the RTC. -/
def rtcDay : Nat := 86400 * 32768

/-- The present power state (CIS_STAT.STATE). -/
def State.pstate (s : State) : Nat := s.fld 0 CIS_STAT CIS_STAT__STATE

/-- The number under which the TAG of a requester is kept: the management cores of both dies count as one (R666). -/
def requester : Initiator → Option Nat
  | .mgmt _ => some 0
  | .part p => some (p.val + 1)
  | _ => none

/-- Whether a tagged write is executed: its TAG differs from the last one of the same requester. Registers: 0 CIS_SLEEP,
1 CIS_GRANT, 2 CIS_ERRCMD, 3 CIS_SWAP. -/
def State.newTag (s : State) (reg : Nat) (who : Initiator) (tag : Nat) : Bool :=
  match requester who with
  | some q => decide (tget none s.cis.pw.tags (64 * reg + q) ≠ some tag)
  | none => false

/-- The TAG of an executed write noted. -/
def State.noteTag (s : State) (reg : Nat) (who : Initiator) (tag : Nat) : State :=
  match requester who with
  | some q => s.updPw (fun p => { p with tags := tset none p.tags (64 * reg + q) (some tag) })
  | none => s

/-- Whether partition 0 or a partition of the grant mask asks (R654, R656), the management cores as R666 gives. -/
def State.inMask (s : State) (who : Initiator) : Bool :=
  who.isManager || (match who with | .part p => bitOf (s.rd 0 CIS_GMASK).toNat p.val | _ => false)

/-- The partition number of an initiator, 0 for a management core. -/
def partOf : Initiator → Nat
  | .part p => p.val
  | _ => 0

/-! ### Records (R667) -/

/-- Whether the Cistern takes a record of this type: not when the other die has written another body, nor with other values once
the lk fields are locked. -/
def State.cisAgrees (s : State) (d : Die) (r : Rec) : Bool :=
  match tget none s.cis.pw.written r.typ.toNat with
  | some (e, b) => (decide (e = d) && !s.cis.firstSeal) || decide (b = r.body)
  | none => !s.cis.firstSeal

/-- The first write of a record's type noted, and its effect, before the first seal. -/
def State.cisWrite (s : State) (d : Die) (r : Rec) (eff : State → State) : State :=
  match tget none s.cis.pw.written r.typ.toNat with
  | some (e, _) =>
    if e = d then (eff s).updPw (fun p => { p with written := tset none p.written r.typ.toNat (some (d, r.body)) }) else s
  | none => (eff s).updPw (fun p => { p with written := tset none p.written r.typ.toNat (some (d, r.body)) })

/-- Whether the wake pin record of the image, or without one the setting in force, enables a pin (R667). -/
def State.pinEnabled (s : State) (d : Die) (pin : Nat) : Bool :=
  match lastRec (s.vol.get d).boot.recs d 0x0A02 0 (fun q => decide (q.body.length = 8) && q.body.all (fun x => decide (x.toNat < 16))) with
  | some q => bitOf (u8 q.body pin) 0
  | none => bitOf (s.rd 0 CIS_WAKECFG).toNat (4 * pin)

/-- ENERGY_POLICY_RECORD. The initial balance acts only after a power-on module reset (R653). -/
def execEnergyPolicyRecord (d : Die) (r : Rec) (s : State) : Out :=
  let b := r.body
  let pin := u8 b 21
  .next (s.applyRec d r 0 false 0x0A01
    (goodIf (decide (r.inst = 0 ∧ r.block = 1 ∧ b.length = 32 ∧ u32 b 0 ≤ u32 b 8 ∧ u32 b 12 < u32 b 8 ∧ u8 b 20 ≤ 1 ∧ pin ≤ 7 ∧
        u16 b 22 = 0 ∧ u32 b 24 < 2 ^ 24 ∧ u32 b 28 = 0) && s.maskDefined d (u32 b 16) &&
      s.pinEnabled d pin && s.cisAgrees d r))
    (fun s => s.cisWrite d r (fun s =>
      let s1 := ((s.wr 0 CIS_CFG (BitVec.ofNat 32 (u8 b 20 + 2 * pin))).wr 0 CIS_GMASK (BitVec.ofNat 32 (u32 b 16))).wr 0 CIS_ETHWAKE
        (BitVec.ofNat 32 (u32 b 24))
      let s2 := s1.updPw (fun p => { p with policy := ⟨u32 b 0, u32 b 4, u32 b 8, u32 b 12⟩ })
      if s2.cis.led.fresh then s2.wr64 0 CIS_BALL CIS_BALH (1000 * u32 b 0) else s2)))

/-- WAKE_PINS_RECORD. -/
def execWakePinsRecord (d : Die) (r : Rec) (s : State) : Out :=
  let b := r.body
  .next (s.applyRec d r 0 false 0x0A02
    (goodIf (decide (r.inst = 0 ∧ r.block = 1 ∧ b.length = 8) && b.all (fun x => decide (x.toNat < 16)) && s.cisAgrees d r))
    (fun s => s.cisWrite d r (fun s =>
      s.wr 0 CIS_WAKECFG (BitVec.ofNat 32 ((List.range 8).foldl (fun n j => n + 2 ^ (4 * j) * u8 b j) 0)))))

/-- FEED_WATCH_RECORD. -/
def execFeedWatchRecord (d : Die) (r : Rec) (s : State) : Out :=
  let b := r.body
  .next (s.applyRec d r 0 false 0x0A03
    (goodIf (decide (r.inst = 0 ∧ r.block = 1 ∧ b.length = 8 ∧ u16 b 0 ≤ 200 ∧ u16 b 2 ≤ 300 ∧ u32 b 4 = 0) && s.cisAgrees d r))
    (fun s => s.cisWrite d r (fun s => s.wr 0 CIS_WATCH (BitVec.ofNat 32 (u16 b 0 + 256 * u16 b 2)))))

/-! ### The Cistern itself (R638 to R641) -/

/-- LANE_DISAGREEMENT (R638). -/
def execLaneDisagreement (lane : Fin 3) (s : State) : Out :=
  .next (
    let l := lane.val
    let fenced := s.fld 0 CIS_LANE CIS_LANE__FENCED
    if bitOf fenced l then s
    else if fenced ≠ 0 then s.moduleReset 0x08 4
    else
      let ts := s.rtc :: (tget [] s.cis.pw.laneTimes l).filter (fun t => decide (s.rtc < t + rtcDay))
      let s1 := (s.addSat 0 CIS_LANE CIS_LANE__RESYNC 1).updPw (fun p => { p with laneTimes := tset [] p.laneTimes l ts })
      let s2 := s1.recordBoth 0x0100 0x17 l 0x0A 8
      if 3 ≤ ts.length then
        (s2.setF 0 CIS_LANE CIS_LANE__FENCED (withBit fenced l true)).setF 0 CIS_STAT CIS_STAT__LANEOK
          (withBit (s2.fld 0 CIS_STAT CIS_STAT__LANEOK) l false)
      else s2)

/-- SUPERVISOR_TIMEOUT (R639). -/
def execSupervisorTimeout (s : State) : Out := .next (if s.pstate ≤ 1 then s.moduleReset 0x07 4 else s)

/-- REGULATOR_FAILURE: the set and its Q-die are switched off, the die's DRAM with it (R16, R640); with both sets off the field die has no
supply either (R797). -/
def execRegulatorFailure (d : Die) (s : State) : Out :=
  .next (
    if !(s.keep.get d).supplied then s
    else
      let s0 := if (s.keep.get d.other).supplied then s else s.loseField
      let s1 := (s0.stopDie d .off).loseDram d
      let s2 := s1.updKeep d (fun k => { k with supplied := false, dramRefresh := false })
      (s2.setF 0 CIS_STAT (if d = 0 then CIS_STAT__REG0 else CIS_STAT__REG1) 1).updPw (fun p => { p with
        failAt := tset 0 p.failAt d.val s.rtc }))

/-- REGULATOR_RESTART: 100 ms after the failure, or after a restart that failed, at most three times within 24 h; one that succeeds brings the die up by die reset (R640). -/
def execRegulatorRestart (d : Die) (ok : Bool) (s : State) : Out :=
  .next (
    let f := if d = 0 then CIS_STAT__REG0 else CIS_STAT__REG1
    let ts := (tget [] s.cis.pw.regTimes d.val).filter (fun t => decide (s.rtc < t + rtcDay))
    if !s.bit 0 CIS_STAT f || decide (3 ≤ ts.length) || decide (2 ≤ s.pstate) ||
        decide ((s.rtc - tget 0 s.cis.pw.failAt d.val) * 10 < 32768) then s
    else
      let s1 := s.updPw (fun p => { p with
        regTimes := tset [] p.regTimes d.val (s.rtc :: ts), failAt := tset 0 p.failAt d.val s.rtc })
      if ok then ((s1.setF 0 CIS_STAT f 0).updKeep d (fun k => { k with supplied := true })).dieReset d 0x12 4 else s1)

/-- RTC_CRYSTAL_STOP (R641). -/
def execRtcCrystalStop (s : State) : Out :=
  .next ((s.setF 0 CIS_STAT CIS_STAT__RTCOSC 1).setF 0 CIS_EVT CIS_EVT__HEALTH 1)

/-! ### Sleep (R644 to R649) -/

/-- Steps 1 to 4 of R644 begun: every open epoch is to end as with CKPT, every cluster halts, frames are selected no more. -/
def State.prepare (s : State) : State :=
  let s1 := s.setF 0 CIS_STAT CIS_STAT__PREP 1
  let ends := fun (st : State) (d : Die) => st.updVol d (fun v => { v with
    dux := v.dux.map (fun e => (e.1, { e.2 with ckpt := true })) })
  (List.range 8).foldl (fun st c =>
    if (st.cl 0 c).nibs = [] ∧ (st.cl 1 c).nibs = [] then st else st.streamBoth c 0x601 [0#8, 0xFF#8]) (ends (ends s1 0) 1)

/-- A sleep request for a target state. SENTINEL watches one pin, which must be enabled (R649). -/
def State.sleepReq (s : State) (d : Die) (who : Initiator) (confirm tag pin : Nat) (usePin : Bool) (target : Nat) : State :=
  if !(s.alive d && who.isManager && decide (confirm = 0xD5) && s.newTag 0 who tag) then s
  else
    let w := if usePin then pin else s.fld 0 CIS_CFG CIS_CFG__SPIN
    let s1 := ((s.noteTag 0 who tag).setF 0 CIS_SLEEPST CIS_SLEEPST__TAG tag).setF 0 CIS_SLEEPST CIS_SLEEPST__TARGET target
    if s.bit 0 CIS_STAT CIS_STAT__PREP || (decide (target = 3) && !bitOf (s.rd 0 CIS_WAKECFG).toNat (4 * w)) then s1.sleepResult 5
    else ((s1.updPw (fun p => { p with target := target, pin := w, prepAt := s.ns s.anyDie })).sleepResult 1).prepare

/-- SLEEP_DROWSE, SLEEP_DORMANT, SLEEP_SENTINEL. -/
def execSleepDrowse (d : Die) (who : Initiator) (confirm tag : BitVec 8) (pin : Fin 8) (usePin : Bool) (s : State) : Out :=
  .next (s.sleepReq d who confirm.toNat tag.toNat pin.val usePin 1)
def execSleepDormant (d : Die) (who : Initiator) (confirm tag : BitVec 8) (pin : Fin 8) (usePin : Bool) (s : State) : Out :=
  .next (s.sleepReq d who confirm.toNat tag.toNat pin.val usePin 2)
def execSleepSentinel (d : Die) (who : Initiator) (confirm tag : BitVec 8) (pin : Fin 8) (usePin : Bool) (s : State) : Out :=
  .next (s.sleepReq d who confirm.toNat tag.toNat pin.val usePin 3)

/-- The setting of a WAKE pin: enable, active level, edge sensing. -/
def State.pinCfg (s : State) (j : Nat) : Bool × Bool × Bool :=
  let n := (s.rd 0 CIS_WAKECFG).toNat
  (bitOf n (4 * j), bitOf n (4 * j + 1), bitOf n (4 * j + 2))

/-- Whether a pin is a wake source of a target: enabled, and the one watched in SENTINEL. -/
def State.pinWatched (s : State) (target j : Nat) : Bool :=
  if target = 3 then decide (j = s.cis.pw.pin) else (s.pinCfg j).1

/-- The pins that are pending: those of level sensing at their active level, and edges that come in the same cycle. -/
def State.pinsPending (s : State) (target : Nat) (edges : BitVec 8) : Nat :=
  maskOf ((List.range 8).filter (fun j =>
    let c := s.pinCfg j
    s.pinWatched target j && (if c.2.2 then edges.getLsbD j else decide (s.cis.pw.levels.getLsbD j = c.2.1))))

/-- Whether the RTC has reached its alarm; all ones disarms it. -/
def State.alarmPassed (s : State) : Bool :=
  let a := s.rd64 0 CIS_ALARML CIS_ALARMH
  decide (a ≠ 2 ^ 64 - 1 ∧ a ≤ s.rtc)

/-- Whether a routed event-controller source of priority 1 or above is pending on either die (R642, R645). -/
def State.eventWakes (s : State) : Bool :=
  [(0 : Die), 1].any (fun d => s.alive d && (List.range 1024).any (fun n => decide (0 < s.srcPrio d n) && s.srcPending d n))

/-- The pending wake sources of a target, as the bits of CIS_WAKE (R645). -/
def State.sources (s : State) (target : Nat) (can : BitVec 4) (eth : BitVec 24) (edges : BitVec 8) : Nat :=
  let sleep := decide (target ≤ 2)
  let c := if sleep then can.toNat % 2 ^ s.field.dwake.length else 0
  let e := if sleep then b2n (decide (eth &&& BitVec.ofNat 24 (s.rd 0 CIS_ETHWAKE).toNat ≠ 0#24)) else 0
  let ev := if target = 1 then b2n s.eventWakes else 0
  4 * c + 2 ^ 6 * e + 2 ^ 7 * s.pinsPending target edges + 2 ^ 15 * b2n s.alarmPassed + 2 ^ 21 * ev

/-! ### The ledger (R653 to R659) -/

/-- The balance in µWh, and a change of it. -/
def State.balance (s : State) : Int := toSigned 64 (s.rd64 0 CIS_BALL CIS_BALH)
def State.setBalance (s : State) (x : Int) : State := s.wr64 0 CIS_BALL CIS_BALH (ofSigned 64 x)

/-- A credit in mWh, which stops at the maximum (R653): whether it was capped, and the state after. -/
def State.credit (s : State) (mwh : Nat) : Bool × State :=
  let top : Int := (1000 * s.cis.pw.policy.max : Nat)
  let x := s.balance + (1000 * mwh : Nat)
  if top < x then (true, s.setBalance (max top s.balance)) else (false, s.setBalance x)

/-- An errand, its state, and a change of them. -/
def State.errand (s : State) (i : Nat) : Errand := tget {} s.cis.led.errands i
def State.errandState (s : State) (i : Nat) : Nat := s.fld 0 (CIS_ERRSTs i) CIS_ERRSTs__STATE
def State.setErrand (s : State) (i st : Nat) : State := s.setF 0 (CIS_ERRSTs i) CIS_ERRSTs__STATE st

/-- An errand refused with a reason: BUDGET set, the reason shown, to be reported by each die (R659). -/
def State.refuseErrand (s : State) (i reason : Nat) : State :=
  let s1 := ((s.setErrand i 6).setF 0 (CIS_ERRSTs i) CIS_ERRSTs__REASON reason).setF 0 CIS_EVT CIS_EVT__BUDGET 1
  let tell := fun (st : State) (d : Die) =>
    if st.alive d then st.record d 0x0100 0x13 i 0 reason
    else st.updLed (fun l => { l with reports := l.reports.upd d (fun q => q ++ [(i, reason)]) })
  tell (tell s1 0) 1

/-- The refusals a die has still to report, when it next runs (R659). -/
def State.reportErrands (s : State) (d : Die) : State :=
  ((s.cis.led.reports.get d).foldl (fun st e => st.record d 0x0100 0x13 e.1 0 e.2) s).updLed (fun l => { l with
    reports := l.reports.set d [] })

/-- The end of an errand's wake at a commit point (R658): what was metered replaces the reservation and is shown. -/
def State.endErrandWake (s : State) : State :=
  if !s.cis.led.forErrand then s
  else
    let l := s.cis.led
    let s1 := (s.setF 0 CIS_ERRLAST CIS_ERRLAST__COST (satTo 0xFFFF (l.runEnergy / 1000).toNat)).setF 0 CIS_ERRLAST CIS_ERRLAST__DUR
      (satTo 0xFFFF (s.rtcSec - l.runStart))
    s1.updLed (fun l => { l with running := none, forErrand := false, runEnergy := 0 })

/-- The default grant at a commit point of DORMANT or SENTINEL, after a wake not made for an errand in which no grant was accepted
(R654). -/
def State.defaultGrant (s : State) (target : Nat) : State :=
  if 2 ≤ target ∧ s.cis.led.forErrand = false ∧ s.cis.pw.granted = false then (s.credit s.cis.pw.policy.grant).2 else s

/-! ### Entering and leaving the states -/

/-- The clock of islands 1 to 12 and 17 of a die, which DROWSE gates; an island gated by its record stays so. -/
def State.gateIslands (s : State) (d : Die) (on : Bool) : State :=
  (((List.range 12).map (· + 1) ++ [17]).foldl (fun (st : State) n =>
    st.setF d ISL_RUN ISL_RUN__RUN (withBit (st.fld d ISL_RUN ISL_RUN__RUN) n (on && !st.bit d (ISL_CLKn n) ISL_CLKn__GATED)))
    s).rillsRun d

/-- Both Q-dies without supply, and the field die with them: what they hold is lost, DRAM too (R642, R797). -/
def State.offBoth (s : State) : State :=
  let off := fun (st : State) (d : Die) =>
    ((st.updKeep d (fun k => { k with run := .off, supplied := false, dramRefresh := false })).clearDie d).loseDram d
  (off (off s.loseField 0) 1).pairDown

/-- The retention store cleared (R664). -/
def State.clearRetention (s : State) : State :=
  { s with regs := tdrop s.regs (fun k => decide (CIS_RETENTION 0 ≤ k ∧ k < CIS_RETENTION 4096)) }

/-- SENTINEL entered: Q-dies and VAUX off, the logic supply of the switch dies removed with every channel off, retention cleared. -/
def State.enterSentinel (s : State) : State :=
  let s0 := (s.setF 0 CIS_STAT CIS_STAT__STATE 3).updCis (fun c => { c with vaux := false, vauxTrip := false })
  let s1 := (s0.offBoth).clearRetention
  (List.range 19).foldl (fun st sd => (st.updSd sd (fun x => x.fresh false)).forgetSd sd) s1

/-- The balance at or below the floor in DORMANT with AUTOSENT (R655): SENTINEL with the default pin; every errand still planned is
refused. -/
def State.floorReached (s : State) : State :=
  if s.pstate = 2 ∧ s.bit 0 CIS_CFG CIS_CFG__AUTOSENT = true ∧ s.balance ≤ (1000 * s.cis.pw.policy.floor : Nat) then
    let s1 := (List.range 16).foldl (fun st i =>
      if st.errandState i = 1 ∨ st.errandState i = 2 then st.refuseErrand i 2 else st) s
    let s2 := s1.updPw (fun p => { p with pin := s1.fld 0 CIS_CFG CIS_CFG__SPIN })
    (s2.setF 0 CIS_EVT CIS_EVT__BUDGET 1).enterSentinel
  else s

/-- The spares that have not acknowledged 10 ms after a sleep was asked for are lagging, and the entry goes on (R644 step 2). -/
def State.lagOn (s : State) : State :=
  if s.ns s.anyDie < s.cis.pw.prepAt + 10000000 then s
  else s.onDies (fun st d => (List.range 12).foldl (fun st x => if (st.dux d x).journal.isSome then st.goAlone d x 5 else st) st)

/-- Whether steps 2 to 4 of R644 are complete: no running duplex has an epoch to end or a seal to wait for, every nib is halted, no
frame is in transmission. -/
def State.prepared (s : State) : Bool :=
  [(0 : Die), 1].all (fun d => !s.alive d ||
    ((List.range 12).all (fun x => (s.dux d x).journal.isNone && (!(s.dux d x).ckpt || (s.dux d x).failed || (s.runningOn d x).isNone)) &&
     (List.range 8).all (fun c => (s.cl d c).nibs.all (fun e => e.2.halted || decide (e.2.run = .unassigned))) &&
     (List.range 24).all (fun p => (s.mac d p).tx.isNone)))

/-- COMMIT_POINT (R645, R665): once steps 1 to 4 are complete, with a source pending the sleep is aborted, else the target state is
entered. -/
def execCommitPoint (can : BitVec 4) (eth : BitVec 24) (edges : BitVec 8) (prepUs : BitVec 16) (s : State) : Out :=
  .next (
    let s := s.lagOn
    if !(s.bit 0 CIS_STAT CIS_STAT__PREP && s.prepared) then s
    else
      let t := s.cis.pw.target
      let s0 := (s.setF 0 CIS_SLEEPST CIS_SLEEPST__PREPUS prepUs.toNat).setF 0 CIS_SLEEPST CIS_SLEEPST__TARGET t
      if s.sources t can eth edges ≠ 0 then s0.sleepOver 3
      else
        let s1 := (s0.sleepLeave.defaultGrant t).endErrandWake
        let s2 := (s1.setF 0 CIS_STAT CIS_STAT__PREP 0).updPw (fun p => { p with latched := 0, granted := false })
        if t = 3 then s2.enterSentinel
        else
          let s3 := (List.range 19).foldl (fun st sd => st.enterStandby sd) s2
          if t = 1 then (((s3.gateIslands 0 false).gateIslands 1 false)).setF 0 CIS_STAT CIS_STAT__STATE 1
          else
            let s4 := s3.onDies (fun st d => st.putRetention (0x400 * d.val) (st.evcImage d))
            let s5 := (List.range 16).foldl (fun st i => if st.errandState i = 2 then st.setErrand i 1 else st) s4
            ((s5.setF 0 CIS_STAT CIS_STAT__STATE 2).offBoth).floorReached)

/-- SLEEP_TIMEOUT (R644): 20 ms after the request its steps are not complete. -/
def execSleepTimeout (s : State) : Out :=
  .next (if s.bit 0 CIS_STAT CIS_STAT__PREP && !s.prepared && decide (s.cis.pw.prepAt + 20000000 ≤ s.ns s.anyDie) then s.sleepOver 4
    else s)

/-- STANDBY_RELEASE (R643). -/
def execStandbyRelease (sd : Fin 19) (s : State) : Out :=
  .next (if s.inRun && (s.sd sd.val).standby then s.leaveStandby sd.val else s)

/-- What every wake shows: the state left and the sources latched (R646). -/
def State.showWake (s : State) (src : Nat) : State :=
  let s1 := s.wr 0 CIS_WAKE (BitVec.ofNat 32 (s.pstate + src))
  ((s1.sleepResult 2).setF 0 CIS_EVT CIS_EVT__SLEEP 1).updPw (fun p => { p with latched := 0 })

/-- WAKE_FROM_DROWSE (R642, R648). -/
def execWakeFromDrowse (eth : BitVec 24) (s : State) : Out :=
  .next (
    let src := Nat.lor s.cis.pw.latched (s.sources 1 0#4 eth 0#8)
    if s.pstate ≠ 1 ∨ src = 0 then s
    else
      let s1 := (s.showWake src).setF 0 CIS_STAT CIS_STAT__STATE 0
      let s2 := ((((s1.gateIslands 0 true).gateIslands 1 true).resumeNibs).drainFifos 0).drainFifos 1
      (List.range 19).foldl (fun st sd => st.sendEntry (st.driver (st.anyDie) sd) sd) s2)

/-- WAKE_FROM_DORMANT (R647): both dies leave die reset together, every token at Q-die 0; an errand that made the wake runs. A regulator
set that has failed stays off (R640). -/
def execWakeFromDormant (eth : BitVec 24) (s : State) : Out :=
  .next (
    let src := Nat.lor s.cis.pw.latched (s.sources 2 0#4 eth 0#8)
    if s.pstate ≠ 2 ∨ src = 0 then s
    else
      let s1 := (s.showWake src).setF 0 CIS_STAT CIS_STAT__STATE 0
      let up := fun (st : State) (d : Die) =>
        if st.bit 0 CIS_STAT (if d = 0 then CIS_STAT__REG0 else CIS_STAT__REG1) then st
        else (st.updKeep d (fun k => { k with supplied := true, run := .held })).causeRecord 0 (rstDie d) 0x14 4
      let s2 := ((up (up s1 0) 1).grantAll 0).updPw (fun p => { p with restore := ⟨true, true⟩ })
      if bitOf src 16 then s2.updLed (fun l => { l with forErrand := true, runStart := s.rtcSec, runEnergy := 0 }) else s2)

/-- WAKE_FROM_SENTINEL (R642): a module reset. -/
def execWakeFromSentinel (s : State) : Out :=
  .next (
    let src := Nat.lor s.cis.pw.latched (s.sources 3 0#4 0#24 0#8)
    if s.pstate ≠ 3 ∨ src = 0 then s
    else
      let s1 := s.updKeep 0 (fun k => { k with supplied := true })
      let s2 := s1.updKeep 1 (fun k => { k with supplied := true })
      ((s2.moduleReset 0x06 4).wr 0 CIS_WAKE (BitVec.ofNat 32 (3 + src))).setF 0 CIS_EVT CIS_EVT__SLEEP 1)

/-- WAKE_PIN_EDGE: a level of a WAKE pin has passed its filter; an enabled one latches its source once a sleep is committed. -/
def execWakePinEdge (pin : Fin 8) (level : Bool) (s : State) : Out :=
  .next (
    let j := pin.val
    let c := s.pinCfg j
    let s1 := s.updPw (fun p => { p with levels := BitVec.ofNat 8 (withBit p.levels.toNat j level) })
    if s.pinWatched s.pstate j && decide (level = c.2.1) then s1.latchWake (2 ^ (7 + j)) else s1)

/-- RTC_ALARM (R642). -/
def execRtcAlarm (s : State) : Out :=
  .next (if s.alarmPassed then (s.setF 0 CIS_EVT CIS_EVT__ALARM 1).latchWake (2 ^ 15) else s)

/-- ALARM_WRITE: the low word is held until the high one. -/
def execAlarmWrite (d : Die) (who : Initiator) (high : Bool) (v : Word) (s : State) : Out :=
  .next (
    if !(s.alive d && who.isManager) then s
    else if high then
      let low := s.cis.pw.heldAlarm.getD (s.rd 0 CIS_ALARML)
      ((s.wr 0 CIS_ALARML low).wr 0 CIS_ALARMH v).updPw (fun p => { p with heldAlarm := none })
    else s.updPw (fun p => { p with heldAlarm := some v }))

/-! ### Metering (R650 to R653) -/

/-- A signed 64-bit total raised by the whole units of an integral; answers what is left below one unit. -/
def State.integrate (s : State) (lo hi : Nat) (acc unit : Int) : Int × State :=
  (acc % unit, s.wr64 0 lo hi (ofSigned 64 (toSigned 64 (s.rd64 0 lo hi) + acc / unit)))

/-- Whether a channel of a feed is kept (R651). -/
def State.feedKept (s : State) (feedB : Bool) : Bool :=
  (List.range 80).any (fun n => bitOf (s.rd 0 (CIS_KEEPi (n / 32))).toNat (n % 32) && (sdFeedB (chSd n) == feedB))

/-- The current counted in a sample, in 10 nA (R650, R651): the shunt reading, which in DORMANT runs only while a channel of the
feed is kept, else the module's own current; in SENTINEL 250 nA, on the feed that supplies the module. -/
def State.counted (s : State) (feedB : Bool) (cur : Int) (own : Nat) : Int :=
  let f := b2n feedB
  match s.pstate with
  | 2 => if s.feedKept feedB then cur * 100000 else own
  | 3 =>
    let va := s.fld 0 (CIS_FfV 0) CIS_FfV__V
    let vb := s.fld 0 (CIS_FfV 1) CIS_FfV__V
    if (if vb ≤ va then 0 else 1) = f then 25 else 0
  | _ => cur * 100000

/-- Whether metered energy is debited from the balance (R653). -/
def State.debits (s : State) : Bool := decide (s.pstate ≠ 0) || s.cis.led.forErrand

/-- METER_SAMPLE: one sample of 250 µs of a feed, voltage in 1.25 mV, current in mA, own current in 10 nA. A sample is
volt × current / 1.152·10^12 µWh and current / 1.44·10^9 µAh, in the units of 1.25 mV and 10 nA. -/
def execMeterSample (feedB : Bool) (volt : BitVec 16) (cur : BitVec 32) (own : BitVec 32) (s : State) : Out :=
  .next (
    let f := b2n feedB
    let asleep := decide (s.pstate = 3)
    let v := if asleep then s.fld 0 (CIS_FfV f) CIS_FfV__V else volt.toNat
    let i := s.counted feedB cur.toInt own.toNat
    let l := s.cis.led
    let q := s.integrate (CIS_FfQL f) (CIS_FfQH f) (tget 0 l.qRest f + i) 1440000000
    let e := q.2.integrate (CIS_FfEL f) (CIS_FfEH f) (tget 0 l.eRest f + i * (v : Int)) 1152000000000000
    let acc := l.balRest + i * (v : Int)
    let spent := acc / 1152000000000
    let s1 := if s.debits then e.2.setBalance (e.2.balance - spent) else e.2
    let s2 := s1.updLed (fun l => { l with
      qRest := tset 0 l.qRest f q.1, eRest := tset 0 l.eRest f e.1,
      balRest := if s.debits then acc % 1152000000000 else l.balRest,
      runEnergy := if l.forErrand then l.runEnergy + spent else l.runEnergy })
    if asleep then s2
    else
      let l4 := (cur.toInt :: tget [] s.cis.pw.recent f).take 4
      let mean := l4.sum / (l4.length : Int)
      let s3 := (s2.setF 0 (CIS_FfV f) CIS_FfV__V volt.toNat).wr 0 (CIS_FfI f) (BitVec.ofInt 32 mean)
      let s4 := (s3.setF 0 CIS_STAT (if feedB then CIS_STAT__FEEDB else CIS_STAT__FEEDA) (b2n (decide (3840 ≤ volt.toNat)))).updPw
        (fun p => { p with recent := tset [] p.recent f l4 })
      if s.pstate = 2 then s4.wr 0 (CIS_FfOWN f) (BitVec.ofNat 32 (satTo 1000000 own.toNat)) else s4)

/-- The energy and harness loss of one channel added to the Cistern's totals and begun anew on both dies, so that no cycle is reported
twice (R142). -/
def State.addChannel (s : State) (d : Die) (n : Nat) : State :=
  let w := s.wire d n
  let r := s.integrate (CIS_CHnEL n) (CIS_CHnEH n) w.energy 2880000000000000
  let h := s.cis.led.harnRest + w.lossSum
  let s1 := r.2.wr64 0 CIS_HARNL CIS_HARNH ((s.rd64 0 CIS_HARNL CIS_HARNH + h / 36000000) % 2 ^ 64)
  let anew := fun (w : Wire) => { w with energy := r.1, lossSum := 0 }
  ((s1.updLed (fun l => { l with harnRest := h % 36000000 })).updWire d n anew).updWire d.other n anew

/-- ENERGY_REPORT (R652): the protection nib of the die that holds a cluster's token reports the channels of the cluster. -/
def execEnergyReport (d : Die) (c : Fin 8) (s : State) : Out :=
  .next (
    if s.alive d && s.inRun && decide (s.holder c.val = d) then
      ((List.range 80).filter (fun n => decide (s.cluster d (chSd n) = c.val))).foldl (fun st n => st.addChannel d n) s
    else s)

/-- BALANCE_FLOOR (R655). -/
def execBalanceFloor (s : State) : Out := .next s.floorReached

/-- GRANT (R654). -/
def execGrant (d : Die) (who : Initiator) (amount : BitVec 24) (tag : BitVec 8) (s : State) : Out :=
  .next (
    if !(s.alive d && s.newTag 1 who tag.toNat) then s
    else
      let s1 := ((s.noteTag 1 who tag.toNat).setF 0 CIS_GRANTST CIS_GRANTST__TAG tag.toNat).setF 0 CIS_GRANTST CIS_GRANTST__PART
        (partOf who)
      if s.inMask who then
        let r := s1.credit amount.toNat
        (r.2.setF 0 CIS_GRANTST CIS_GRANTST__RESULT (if r.1 then 3 else 1)).updPw (fun p => { p with granted := true })
      else s1.setF 0 CIS_GRANTST CIS_GRANTST__RESULT 2)

/-! ### Errands (R656 to R658) -/

/-- The result of an errand command. -/
def State.errandResult (s : State) (r reason : Nat) : State :=
  (s.setF 0 CIS_ERRRES CIS_ERRRES__RESULT r).setF 0 CIS_ERRRES CIS_ERRRES__REASON reason

/-- A write to CIS_ERRCMD that is executed. -/
def State.errandCmd (s : State) (d : Die) (who : Initiator) (confirm tag : Nat) (act : State → State) : State :=
  if !(s.alive d && decide (confirm = 0xE3) && s.newTag 2 who tag) then s
  else
    let s1 := s.noteTag 2 who tag
    if s.inMask who then act s1 else s1.errandResult 2 4

/-- ERRAND_ADD. -/
def execErrandAdd (d : Die) (who : Initiator) (confirm tag : BitVec 8) (slot : Fin 16) (s : State) : Out :=
  .next (s.errandCmd d who confirm.toNat tag.toNat (fun s =>
    let i := slot.val
    let buf := fun k => (s.rd 0 (CIS_ERRBUFi k)).toNat
    let st := s.errandState i
    if 1 ≤ st ∧ st ≤ 4 then s.errandResult 2 1
    else if buf 1 < buf 0 ∨ buf 1 < s.rtcSec then s.errandResult 2 2
    else if buf 2 = 0 then s.errandResult 2 3
    else
      let s1 := s.updLed (fun l => { l with errands := tset {} l.errands i ⟨buf 0, buf 1, buf 3 % 65536, buf 2⟩ })
      (s1.wr 0 (CIS_ERRSTs i) (BitVec.ofNat 32 (1 + 256 * partOf who))).errandResult 1 0))

/-- ERRAND_CANCEL: the slot is empty again. -/
def execErrandCancel (d : Die) (who : Initiator) (confirm tag : BitVec 8) (slot : Fin 16) (s : State) : Out :=
  .next (s.errandCmd d who confirm.toNat tag.toNat (fun s =>
    ((s.wr 0 (CIS_ERRSTs slot.val) 0#32).updLed (fun l => { l with
      errands := tset {} l.errands slot.val {}, running := if l.running = some slot.val then none else l.running })).errandResult 1 0))

/-- ERRAND_DONE: of an errand that runs or is due while awake. -/
def execErrandDone (d : Die) (who : Initiator) (confirm tag : BitVec 8) (slot : Fin 16) (s : State) : Out :=
  .next (s.errandCmd d who confirm.toNat tag.toNat (fun s =>
    let st := s.errandState slot.val
    if st = 3 ∨ st = 4 then
      ((s.setErrand slot.val 5).updLed (fun l => { l with
        running := if l.running = some slot.val then none else l.running })).errandResult 1 0
    else s.errandResult 2 5))

/-- Whether an errand is planned and its earliest start has come. -/
def State.isDue (s : State) (i : Nat) : Bool := decide (s.errandState i = 1 ∧ (s.errand i).start ≤ s.rtcSec)

/-- The due errand of the earliest deadline, of the lowest slot among equals (R657). -/
def State.nextErrand (s : State) : Option Nat :=
  ((List.range 16).filter s.isDue).foldl (fun best i =>
    match best with
    | some j => if (s.errand i).deadline < (s.errand j).deadline then some i else best
    | none => some i) none

/-- ERRAND_DUE: awake, every errand whose start has come is due while awake; in DORMANT the next one is started, which wakes the
module, or deferred. -/
def execErrandDue (s : State) : Out :=
  .next (
    if s.pstate ≤ 1 then
      (List.range 16).foldl (fun st i =>
        if st.isDue i then (st.setErrand i 4).setF 0 CIS_EVT CIS_EVT__ERRDUE 1 else st) s
    else if s.pstate = 2 ∧ s.cis.led.running = none then
      match s.nextErrand with
      | none => s
      | some i =>
        if (1000 * s.cis.pw.policy.floor : Nat) ≤ s.balance - (1000 * (s.errand i).cost : Nat) then
          ((s.setErrand i 3).updLed (fun l => { l with running := some i })).latchWake (2 ^ 16 + 2 ^ 17 * i)
        else s.setErrand i 2
    else s)

/-- ERRAND_DEADLINE: errands planned or deferred whose deadline has passed are refused (R657). -/
def execErrandDeadline (s : State) : Out :=
  .next ((List.range 16).foldl (fun st i =>
    if (st.errandState i = 1 ∨ st.errandState i = 2) ∧ (st.errand i).deadline < st.rtcSec then st.refuseErrand i 1 else st) s)

/-- ERRAND_OVERRUN (R658). -/
def execErrandOverrun (s : State) : Out :=
  .next (
    match s.cis.led.running with
    | some i =>
      if s.cis.led.forErrand = true ∧ s.cis.led.runStart + (s.errand i).limit ≤ s.rtcSec then s.setF 0 CIS_EVT CIS_EVT__ERROVER 1
      else s
    | none => s)

/-! ### Load planning (R660, R661) -/

/-- A limit derated linearly between 70, 85 and 100 °C (R154), temperature in 0.125 °C, in A rounded down. -/
def feedDerate (t : Int) (full mid low : Nat) : Nat :=
  let at_ := fun (a b : Nat) (x : Int) => a - ((a - b : Nat) * x.toNat + 119) / 120
  if t ≤ 560 then full
  else if t ≤ 680 then at_ full mid (t - 560)
  else if t ≤ 800 then at_ mid low (t - 680)
  else low

/-- LIMIT_UPDATE: plate temperature, 1 s mean currents of the feeds in mA, 1 s mean outputs of the regulator sets in 10 mW. -/
def execLimitUpdate (tplate : BitVec 12) (meanA meanB : BitVec 32) (q0 q1 : BitVec 16) (s : State) : Out :=
  .next (
    let t := tplate.toInt
    let stud := feedDerate t 200 170 140
    let agg := feedDerate t 300 250 200
    let s1 := s.wr 0 CIS_LIMIT (BitVec.ofNat 32 (stud + 256 * agg + 2 ^ 20 * tplate.toNat))
    let thr := fun (w lim : Nat) => if w = 0 then 900 * lim else 1000 * w
    let ws := thr (s.fld 0 CIS_WATCH CIS_WATCH__WSTUD) stud
    let wa := thr (s.fld 0 CIS_WATCH CIS_WATCH__WAGG) agg
    let warn := decide ((ws : Int) < meanA.toInt ∨ (ws : Int) < meanB.toInt ∨ (wa : Int) < meanA.toInt + meanB.toInt)
    let s2 := if warn then s1.setF 0 CIS_EVT CIS_EVT__FEEDWARN 1 else s1
    let s3 := s2.wr 0 CIS_QPWR (BitVec.ofNat 32 (q0.toNat + 65536 * q1.toNat))
    let high := fun (st : State) (d : Die) (q : Nat) =>
      if 2600 < q then (st.setF 0 CIS_EVT CIS_EVT__QPWR 1).withFree (fun v st => st.record d 0x0100 0x10 (0x100 + d.val) 0 (v % 65536))
      else st
    high (high s3 0 q0.toNat) 1 q1.toNat)

/-! ### The authority arbiter (R662, R663) -/

/-- A token moved on a fault, with the switch core's ports where it is the switch-core token (R459). -/
def State.faultMove (s : State) (t : Nat) (d : Die) : State :=
  if !s.alive d || decide (s.holder t = d) then s
  else
    let s1 := (s.moveToken t d).updPw (fun p => { p with asked := tset none p.asked t none })
    if t = 8 then (s1.steerPorts d).coreTakes d else s1

/-- HOLDER_SILENT: a die's liaison is silent for 2 µs, and every token it holds moves to the other die, if that answers (R662). -/
def execHolderSilent (d : Die) (s : State) : Out :=
  .next ((List.range 9).foldl (fun st t => if st.holder t = d then st.faultMove t d.other else st) s)

/-- FAULT_REPORT: a report from the holder moves the token; one from the other die as the holder answers, or waits for it. -/
def execFaultReport (d : Die) (t : Fin 9) (answer : Option Bool) (s : State) : Out :=
  .next (
    if !s.alive d then s
    else if s.holder t.val = d then s.faultMove t.val d.other
    else match answer with
      | some true => s.faultMove t.val d
      | some false => (s.updPw (fun p => { p with asked := tset none p.asked t.val none })).recordBoth 0x0100 0x06 t.val 0 0
      | none => s.updPw (fun p => { p with
          asked := tset none p.asked t.val (some d), askedAt := tset 0 p.askedAt t.val (s.ns d) }))

/-- REPORT_CONFIRM_TIMEOUT (R662): the holder has given no answer for 2 µs. -/
def execReportConfirmTimeout (t : Fin 9) (s : State) : Out :=
  .next (match tget none s.cis.pw.asked t.val with
    | some d => if tget 0 s.cis.pw.askedAt t.val + 2000 ≤ s.ns d then s.faultMove t.val d else s
    | none => s)

/-- Whether a role swap of a token to a die can be made (R663); none beside another image (R724). -/
def State.swapOk (s : State) (t : Nat) (d : Die) : Bool :=
  s.alive d && (tget none s.cis.pw.asked t).isNone &&
  (decide (s.holder t = d) ||
    (!s.apart && (if t = 8 then s.bit d SWC_STAT SWC_STAT__INSTEP else decide (s.clState d t = 4))))

/-- A role swap made. -/
def State.swapTo (s : State) (t : Nat) (d : Die) : State :=
  if s.holder t = d then s
  else if t = 8 then ((s.drainFeed d).moveToken 8 d).steerPorts d
  else s.moveToken t d

/-- ROLE_SWAP_REQUEST. -/
def execRoleSwapRequest (d : Die) (who : Initiator) (confirm tag : BitVec 8) (token : BitVec 4) (die : Die) (s : State) : Out :=
  .next (
    let t := token.toNat
    let ts := if t = 15 then List.range 9 else [t]
    if !(s.alive d && who.isManager && decide (confirm.toNat = 0xB6) && decide (t ≤ 8 ∨ t = 15) && s.newTag 3 who tag.toNat) then s
    else
      let s1 := s.noteTag 3 who tag.toNat
      if ts.all (fun t => s.swapOk t die) then (ts.foldl (fun st t => st.swapTo t die) s1).setF 0 CIS_SWAPRES CIS_SWAPRES__RESULT 3
      else s1.setF 0 CIS_SWAPRES CIS_SWAPRES__RESULT 2)

end Sys2Proof.Machine
end

