-- ==== Sys2Proof/Machine/Blotter.lean ====
section
/-! DEFINITION. The bytes the fault manager writes (spec/19, spec/20): the persistent summary (R735), the protection handover record
(R716), the blotter dump with its header (R751 to R753), and the bulk store. -/

namespace Sys2Proof.Machine

/-! ### The persistent summary (R735) -/

/-- Where the persistent summary begins in MRAM. -/
def sumBase : Nat := 0x10090000

/-- The header of a summary before its CRC. -/
def sumHeader (resets widx : Nat) : List Byte :=
  [0x46, 0x53, 0x55, 0x4D].map (BitVec.ofNat 8) ++ toLE 2 1 ++ toLE 2 0 ++ toLE 4 resets ++ toLE 4 widx ++ toLE 8 0 ++ toLE 32 0

/-- An empty summary. -/
def emptySummary : List Byte :=
  let h := sumHeader 0 0
  h ++ toLE 8 (crc64 h) ++ List.replicate 16320 0#8

/-- The 32 bytes of a class entry. -/
def SumEntry.bytes (e : SumEntry) : List Byte :=
  toLE 4 e.count ++ toLE 4 0 ++ toLE 8 e.firstRtc ++ toLE 8 e.lastRtc ++ toLE 4 e.subj ++ toLE 2 e.src ++ toLE 1 e.sev ++ toLE 1 0

/-- A class entry read from its bytes. -/
def sumEntryOf (b : List Byte) : SumEntry :=
  { count := u32 b 0, firstRtc := u64 b 8, lastRtc := u64 b 16, subj := u32 b 24, src := u16 b 28, sev := u8 b 30 }

/-- Where the entry of a class lies. -/
def sumEntryAddr (c : Nat) : Nat := sumBase + 0x40 + 32 * c

/-- The summary rebuilt empty. -/
def State.clearSummary (s : State) (d : Die) : State :=
  (s.putBytes d sumBase emptySummary).updVol d (fun v => { v with flt := { v.flt with sums := [], sumWritten := [] } })

/-- Whether the magic and CRC of the summary hold. -/
def State.summaryOk (s : State) (d : Die) : Bool :=
  decide (s.leAt d sumBase 4 = 0x4D555346) && decide (crc64 (s.bytesAt d sumBase 0x38) = s.leAt d (sumBase + 0x38) 8)

/-- FLT_STAT.SUMOK shown: 0 from the rebuilding of a summary until it is cleared. -/
def State.showSumok (s : State) (d : Die) (rebuilt : Bool) : State :=
  (s.updKeep d (fun k => { k with sumRebuilt := rebuilt })).setF d FLT_STAT FLT_STAT__SUMOK (b2n (!rebuilt))

/-- The summary taken up at a boot: a valid one is loaded and counts the die reset, another is rebuilt empty and shown not valid
until it is cleared. -/
def State.loadSummary (s : State) (d : Die) : State :=
  if s.summaryOk d then
    let sums : Table SumEntry := (List.range 24).foldl (fun t c => tset {} t c (sumEntryOf (s.bytesAt d (sumEntryAddr c) 32))) []
    let s1 := s.updVol d (fun v => { v with flt := { v.flt with sums := sums } })
    ((s1.putBytes d (sumBase + 8) (toLE 4 (s1.leAt d (sumBase + 8) 4 + 1))).sealSummary d).showSumok d
      (s1.keep.get d).sumRebuilt
  else (s.clearSummary d).showSumok d true

/-! ### The protection handover record (R716) -/

/-- The handover record of a channel. Temperatures are rounded down to their unit (log entry 15). -/
def State.handover (s : State) (d : Die) (n : Nat) : List Byte :=
  let sd := chSd n
  let k := n - sdFirst sd
  let w := s.wire d n
  let l := s.lane d n
  let now := s.ns d
  let rampMs := match l.ramp with
    | some (_, len) => len / 1000000
    | none => 0
  let gone := match l.ramp with
    | some (t, _) => (now - t) / 100000
    | none => 0
  let recent := (w.clampTimes.filter (fun t => decide (now < t + 1000000000))).length
  let last := match w.clampTimes with
    | [] => 0xFFFF
    | t :: r => (now - r.foldl max t) / 1000000
  toLE 2 (ofSigned 16 (w.tc / 125000000)) ++ toLE 2 (ofSigned 16 (w.ti / 125000000)) ++
    toLE 2 (satTo 0xFFFF (w.lest.getD 0xFFFF)) ++ toLE 2 (if w.restSeen then satTo 0xFFFE w.rest else 0xFFFF) ++
    toLE 1 (b2n (decide (s.fld d (PWR_CHkSTAT sd k) PWR_CHkSTAT__STATE = 3)) + 2 * b2n l.ramp.isSome + 4 * b2n w.warned) ++
    toLE 1 rampMs ++ toLE 2 (satTo 0xFFFF gone) ++ toLE 4 w.rampFrom ++ toLE 2 (satTo 0xFFFF recent) ++
    toLE 2 (satTo 0xFFFF last) ++ toLE 12 0

/-- A handover record taken over by a die: it replaces the model state of the channel, and a ramp goes on from where it was. -/
def State.takeHandover (s : State) (d : Die) (n : Nat) (b : List Byte) : State :=
  let now := s.ns d
  let last := now - u16 b 18 * 1000000
  let s1 := s.updWire d n (fun w => { w with
    live := true, tc := toSigned 16 (u16 b 0) * 125000000, ti := toSigned 16 (u16 b 2) * 125000000,
    lest := if u16 b 4 = 0xFFFF then none else some (u16 b 4), rest := if u16 b 6 = 0xFFFF then w.rest else u16 b 6,
    restSeen := decide (u16 b 6 ≠ 0xFFFF), tripped := bitOf (u8 b 8) 0, warned := bitOf (u8 b 8) 2, rampFrom := u32 b 12,
    clampTimes := if u16 b 18 = 0xFFFF then [] else List.replicate (max 1 (u16 b 16)) last })
  if bitOf (u8 b 8) 1 then
    s1.updLane d n (fun l => { l with
      pwm := true, level := true, period := laneMinPeriod n, duty := laneMinPeriod n,
      ramp := some (now - u16 b 10 * 100000, u8 b 9 * 1000000) })
  else s1

/-! ### The dump (R751 to R753) -/

/-- A list of bytes brought to a length: cut, or filled with 0. -/
def fitTo (n : Nat) (l : List Byte) : List Byte := (l ++ List.replicate (n - l.length) 0#8).take n

/-- The registers from an offset on as a die reads them; an unmapped word shows 0. -/
def State.regBytes (s : State) (d : Die) (base n : Nat) : List Byte :=
  (List.range (n / 4)).flatMap (fun i =>
    let off := base + 4 * i
    toLE 4 (if (regDef? off).isSome then (s.liveReg d off none).toNat else 0))

/-- A transaction at the head of an egress queue, as bytes (layout: log entry 15). -/
def EgTx.bytes (t : EgTx) : List Byte :=
  toLE 1 (match t.kind with | .read => 0 | .write => 1 | .writeBack => 2 | .atomic => 3) ++ toLE 1 t.part ++ toLE 2 t.size ++
    toLE 4 t.mask ++ toLE 8 t.addr ++ t.data

/-- Section 1: the 24 cores. -/
def State.dumpCores (s : State) (d : Die) : List Byte :=
  (List.range 24).flatMap (fun i =>
    let x := i / 2
    let c := s.core d x (if i % 2 = 0 then 0 else 1)
    fitTo 8192 (c.regs.bytes ++ toLE 8 c.regs.pc.toNat ++ ((c.out.take 1).flatMap EgTx.bytes) ++
      toLE 4 (s.liveReg d (DUX_dSTAT x) none).toNat ++ toLE 4 (s.liveReg d (DUX_dLAG x) none).toNat))

/-- One physical slot of a cluster. -/
def State.dumpSlot (s : State) (d : Die) (c : Fin 8) (slot : Nat) : List Byte :=
  match (List.range 30).find? (fun k => let x := (s.cl d c.val).nib k; decide (x.prog ≠ .none ∧ x.slot = slot)) with
  | none => List.replicate 16640 0#8
  | some k =>
    let x := (s.cl d c.val).nib k
    let n := mkNib d c.val k
    let other := { x with bank := !x.bank }.flags
    fitTo 16640 (s.bytesAt d (imemAddr c.val k 0) 0x2000 ++ s.bytesAt d (dmemAddr c.val k 0) 0x2000 ++
      (List.range 32).flatMap (fun i => toLE 4 (tget 0#32 x.regs i).toNat) ++ toLE 8 x.acc.toNat ++
      (List.range 14).flatMap (fun i => toLE 4 (x.special n i)) ++ toLE 4 (s.liveReg d (NBC_nNkST c.val k) none).toNat ++
      toLE 4 (256 * (b2n other.z + 2 * b2n other.n + 4 * b2n other.c + 8 * b2n other.v + 16 * b2n other.s)))

/-- Section 2: the physical slots, then the registers and pool of each cluster. -/
def State.dumpNibs (s : State) (d : Die) : List Byte :=
  (List.range 8).flatMap (fun c => (List.range 32).flatMap (fun i => s.dumpSlot d (Fin.ofNat 8 c) i)) ++
  (List.range 8).flatMap (fun c => s.regBytes d (0x80000 + 0x2000 * c) 0x2000 ++ s.bytesAt d (poolAddr c 0) 0x40000)

/-- A stack as bytes. -/
def stackBytes (l : List StackEntry) : List Byte :=
  toLE 4 l.length ++ fitTo 64 (l.flatMap (fun e => toLE 2 e.src ++ toLE 2 e.prio))

/-- Section 3: the event controller's registers, stacks and in-service marks. -/
def State.dumpEvents (s : State) (d : Die) : List Byte :=
  let e := (s.vol.get d).evc
  s.regBytes d 0x40000 0x10000 ++
  (List.range 12).flatMap (fun x => stackBytes (tget [] e.stM x) ++ stackBytes (tget [] e.stS x)) ++
  (List.range 32).flatMap (fun p => stackBytes (tget [] e.stV p)) ++
  (List.range 128).map (fun i => BitVec.ofNat 8 (maskOf ((List.range 8).filter (fun k => (s.src d (8 * i + k)).inService))))

/-- The 32-byte descriptor of a queued frame (R424; layout: log entry 15). -/
def SwFrame.descBytes (f : SwFrame) : List Byte :=
  toLE 8 f.stamp ++ toLE 4 f.fcs ++ toLE 2 f.len ++ toLE 1 f.ingress ++ toLE 1 f.cls ++ toLE 4 (maskOf f.ports) ++ toLE 4 f.parts ++
    toLE 4 f.id ++ toLE 4 0

/-- Section 5: the switch core's registers and the descriptors of its queued frames. -/
def State.dumpSwitch (s : State) (d : Die) : List Byte :=
  s.regBytes d 0xE0000 0x10000 ++ (s.swc d).frames.flatMap SwFrame.descBytes

/-- Section 6: the PWR instances and the protection state of their channels. -/
def State.dumpChannels (s : State) (d : Die) : List Byte :=
  (List.range 19).flatMap (fun sd => s.regBytes d (0x100000 + 0x800 * sd) 0x800 ++
    (List.range (sdChans sd)).flatMap (fun k => s.handover d (gch sd k)))

/-- The sections of a dump with their types, in order. -/
def State.dumpSections (s : State) (d : Die) : List (Nat × List Byte) :=
  [(1, s.dumpCores d), (2, s.dumpNibs d), (3, s.dumpEvents d), (4, s.bytesAt d 0x207E0000 0x20000), (5, s.dumpSwitch d),
    (6, s.dumpChannels d)]

/-- The whole sections that end within 16 MB from an offset on (R752). -/
def wholeSections : Nat → List (Nat × List Byte) → List (Nat × List Byte)
  | _, [] => []
  | off, e :: l => if off + e.2.length ≤ 2 ^ 24 then e :: wholeSections (off + e.2.length) l else []

/-- The index entries of sections, the first at an offset of the dump. -/
def sectionIndex : Nat → List (Nat × List Byte) → List Byte
  | _, [] => []
  | off, e :: l =>
    toLE 2 e.1 ++ toLE 2 0 ++ toLE 4 0 ++ toLE 8 off ++ toLE 8 e.2.length ++ toLE 4 (crc32 e.2) ++ toLE 4 0 ++
      sectionIndex (off + e.2.length) l

/-- A dump with its header (R753): `flags` as at offset 6. -/
def State.dumpBytes (s : State) (d : Die) (cause flags : Nat) (secs : List (Nat × List Byte)) : List Byte :=
  let body := secs.flatMap (·.2)
  let at3 := (s.vol.get d).flt.fatalAt
  let own := (s.vol.get d).boot.own
  let head := [0x42, 0x4C, 0x4F, 0x54].map (BitVec.ofNat 8) ++ toLE 2 1 ++ toLE 2 flags ++ toLE 1 cause ++ toLE 1 d.val ++
    toLE 2 secs.length ++ toLE 4 (4096 + body.length) ++ toLE 8 at3.1 ++ toLE 8 at3.2.1 ++
    toLE 8 (s.rd64 d UPD_DSTRUCTL UPD_DSTRUCTH) ++ toLE 4 at3.2.2 ++ toLE 4 (s.leAt d (sumBase + 8) 4) ++
    (match own with
     | some r => toBE 48 r.digest.toNat
     | none => toLE 48 0) ++ fitTo 512 (sectionIndex 4096 secs)
  let h := fitTo 0xFF8 head
  h ++ toLE 8 (crc64 h) ++ body

/-- Where a DRAM slot of the blotter lies. -/
def dumpAddr (slot : Nat) : Nat := 0x2FC000000 + 2 ^ 24 * slot

/-- The flags of a dump in DRAM set, with the CRC of its header. -/
def State.dumpFlags (s : State) (d : Die) (slot flags : Nat) : State :=
  let s1 := s.putBytes d (dumpAddr slot + 6) (toLE 2 flags)
  s1.putBytes d (dumpAddr slot + 0xFF8) (toLE 8 (crc64 (s1.bytesAt d (dumpAddr slot) 0xFF8)))

/-! ### The bulk store (R44, R703, R754) -/

/-- The key of a byte of the update area and of a blotter slot of a die's bulk store. -/
def bulkUpd (d : Die) (off : Nat) : Nat := d.val * 2 ^ 48 + off
def bulkSlot (d : Die) (slot off : Nat) : Nat := d.val * 2 ^ 48 + 2 ^ 40 + slot * 2 ^ 24 + off

/-- One byte of the bulk store; one that nothing has written is a free value (R44). -/
def State.bulkByte (s : State) (k : Nat) : Byte := (tfind s.bulk k).getD (Config.unwrittenByte (2 ^ 50 + k))

/-- Bytes of the bulk store from a key on. -/
def State.bulkBytes (s : State) (k n : Nat) : List Byte := (List.range n).map (fun i => s.bulkByte (k + i))

/-- Bytes written to the bulk store from a key on. -/
def State.bulkPut (s : State) (k : Nat) : List Byte → State
  | [] => s
  | b :: l => { s with bulk := tput s.bulk k b }.bulkPut (k + 1) l

end Sys2Proof.Machine
end

