-- ==== Sys2Proof/Machine/Faults.lean ====
section
/-! DEFINITION. The commands of the fault manager (spec/20): policy, persistent summary, FLT_CMD, repairs, DRAM errors, fatal
failures and the blotter. -/

namespace Sys2Proof.Machine

/-- FAULT_POLICY_RECORD (R758). -/
def execFaultPolicyRecord (d : Die) (r : Rec) (s : State) : Out :=
  let b := r.body
  .next (s.applyRec d r 0 false 0x0E01
    (goodIf (decide (r.target.toNat = 0x100000 ∧ b.length = 8 ∧ u8 b 0 < 128 ∧ u8 b 1 ≤ 1) && zeroBytes b 2 6))
    (fun s => (s.setF d FLT_CFG FLT_CFG__FNMASK (128 + u8 b 0)).setF d FLT_CFG FLT_CFG__NIBACT (u8 b 1)))

/-- SUMMARY_WRITE (R735): at most once per 10 s for each class. -/
def execSummaryWrite (d : Die) (cls : Fin 24) (s : State) : Out :=
  .next (
    let f := (s.vol.get d).flt
    let e := tget {} f.sums cls.val
    let due := match tget none f.sumWritten cls.val with
      | some t => decide (t + 10000000000 ≤ s.ns d)
      | none => true
    if s.alive d && due && decide (0 < cls.val ∧ 0 < e.count) then
      (s.putBytes d (sumEntryAddr cls.val) e.bytes).updVol d (fun v => { v with flt := { v.flt with
        sumWritten := tset none v.flt.sumWritten cls.val (some (s.ns d)) } })
    else s)

/-! ### FLT_CMD (R757) -/

/-- The result of an FLT_CMD. -/
def State.fltResult (s : State) (d : Die) (r reason : Nat) : State :=
  (s.setF d FLT_CMDRES FLT_CMDRES__RESULT r).setF d FLT_CMDRES FLT_CMDRES__REASON reason

/-- A command of FLT_CMD: from a manager with the right CONFIRM, else ignored. -/
def State.fltCmd (s : State) (d : Die) (who : Initiator) (confirm : BitVec 8) (act : State → State) : State :=
  if s.alive d && who.isManager && decide (confirm = 0xB4#8) then act s else s

/-- FAULT_ASSERT and FAULT_RELEASE: condition 7 of R739. -/
def State.setCond7 (s : State) (d : Die) (b : Bool) : State :=
  (s.updVol d (fun v => { v with flt := { v.flt with cond7 := b } })).fltResult d 3 0
def execFaultAssert (d : Die) (who : Initiator) (confirm : BitVec 8) (s : State) : Out :=
  .next (s.fltCmd d who confirm (fun s => s.setCond7 d true))
def execFaultRelease (d : Die) (who : Initiator) (confirm : BitVec 8) (s : State) : Out :=
  .next (s.fltCmd d who confirm (fun s => s.setCond7 d false))

/-- The dump in the selected slot of the bulk store. -/
def State.selectedDump (s : State) (d : Die) : Option Dump :=
  tget none (s.keep.get d).bulkDumps (s.fld d FLT_BSEL FLT_BSEL__SLOT)

/-- BLOTTER_READ (R754): the selected dump goes to a DRAM buffer of 16 MB granted to the management cores. -/
def execBlotterRead (d : Die) (who : Initiator) (confirm : BitVec 8) (s : State) : Out :=
  .next (s.fltCmd d who confirm (fun s =>
    match s.selectedDump d with
    | none => s.fltResult d 2 1
    | some m =>
      let buf := (s.rd d FLT_BUFL).toNat / 4096 * 4096 + 2 ^ 32 * s.fld d FLT_BUFH FLT_BUFH__ADDR
      let inDram := decide (0x100000000 ≤ buf ∧ buf + 2 ^ 24 ≤ 0x300000000)
      if inDram && s.memAdmits d buf (2 ^ 24) { init := 2 } .write then
        (s.dmaPut d buf (s.bulkBytes (bulkSlot d (s.fld d FLT_BSEL FLT_BSEL__SLOT) 0) m.length)).fltResult d 3 0
      else s.fltResult d 2 2))

/-- BLOTTER_RELEASE (R754): the selected slot is no longer unread. -/
def execBlotterRelease (d : Die) (who : Initiator) (confirm : BitVec 8) (s : State) : Out :=
  .next (s.fltCmd d who confirm (fun s =>
    match s.selectedDump d with
    | none => s.fltResult d 2 1
    | some m =>
      let slot := s.fld d FLT_BSEL FLT_BSEL__SLOT
      ((s.updKeep d (fun k => { k with bulkDumps := tset none k.bulkDumps slot (some { m with released := true }) })).setF d
        FLT_BLOT FLT_BLOT__UNREAD (withBit (s.fld d FLT_BLOT FLT_BLOT__UNREAD) slot false)).fltResult d 3 0))

/-- CLEARSUM (R735). -/
def execClearsum (d : Die) (who : Initiator) (confirm : BitVec 8) (s : State) : Out :=
  .next (s.fltCmd d who confirm (fun s => ((s.clearSummary d).showSumok d false).fltResult d 3 0))

/-! ### Fatal failures (R750, R751) -/

/-- FATAL_FAILURE. -/
def execFatalFailure (d : Die) (cause : Fin 5) (s : State) : Out :=
  .next (if s.alive d && decide (0 < cause.val) then s.fatal d cause.val else s)

/-- MANAGEMENT_WATCHDOG_EXPIRY: fatal cause 0x01. -/
def execManagementWatchdogExpiry (d : Die) (s : State) : Out :=
  .next (if s.alive d then s.fatal d 1 else s)

/-- DUMP (R750, R757): fatal cause 0x04, refused on the only running die. -/
def execDump (d : Die) (who : Initiator) (confirm : BitVec 8) (s : State) : Out :=
  .next (s.fltCmd d who confirm (fun s => if s.alive d.other then (s.fltResult d 1 0).fatal d 4 else s.fltResult d 2 3))

/-- DUMP_COMPLETE (R751 to R753): the dump stands in its slot, and the die is reset; where it was the only running die, the
module is. Once the partner has failed as well, the Cistern's reset comes before the dump is complete (R756). -/
def execDumpComplete (d : Die) (s : State) : Out :=
  .next (
    let f := (s.vol.get d).flt
    match f.fatal with
    | none => s
    | some cause =>
      if (s.keep.get d).run ≠ .dumping ∨ (s.keep.get d.other).run = .dumping then s else
      let s1 := match f.slot with
        | none => s
        | some i =>
          let all := s.dumpSections d
          let secs := wholeSections 4096 all
          let cut := decide (secs.length < all.length)
          let bytes := s.dumpBytes d cause (1 + 4 * b2n cut) secs
          (s.putBytes d (dumpAddr i) bytes).updKeep d (fun k => { k with
            dumpSeq := k.dumpSeq + 1,
            dramDumps := tset none k.dramDumps i (some ⟨cause, d, true, false, cut, bytes.length, f.fatalAt.1, false, k.dumpSeq⟩) })
      if !s1.alive d.other then s1.moduleReset 5 (1 + d.val)
      else if cause = 1 then s1.dieReset d 0x11 0 else s1.dieReset d 0x10 (1 + d.val))

/-- The entry of a table of dumps with the lowest order count among those that meet a condition. -/
def oldestDump (t : Table (Option Dump)) (p : Dump → Bool) : Option Nat :=
  (t.foldl (fun (best : Option (Nat × Nat)) e => match e.2 with
    | some m => if p m then (match best with
        | some b => if m.seq < b.2 then some (e.1, m.seq) else best
        | none => some (e.1, m.seq)) else best
    | none => best) none).map (·.1)

/-- The bulk-store slot a copy takes: a free one, the oldest released one, the oldest (R754). -/
def bulkTarget (t : Table (Option Dump)) : Nat × Bool :=
  match (List.range 8).find? (fun i => decide (tget none t i = none)) with
  | some i => (i, false)
  | none => match oldestDump t (fun m => m.released) with
    | some i => (i, false)
    | none => ((oldestDump t (fun _ => true)).getD 0, true)

/-- BLOTTER_COPY (R751, R754): after the seal the loader copies the oldest complete, uncopied dump to the bulk store. -/
def execBlotterCopy (d : Die) (s : State) : Out :=
  .next (
    let k := s.keep.get d
    match oldestDump k.dramDumps (fun m => m.complete && !m.copied) with
    | none => s
    | some i => match tget none k.dramDumps i with
      | none => s
      | some m =>
        if !(s.alive d && s.isSealed d) then s else
        let dst := bulkTarget k.bulkDumps
        let s1 := if dst.2 then s.addSat d FLT_BLOT FLT_BLOT__OVER 1 else s
        let s2 := (s1.bulkPut (bulkSlot d dst.1 0) (s.bytesAt d (dumpAddr i) m.length)).dumpFlags d i (3 + 4 * b2n m.trunc)
        let s3 := s2.updKeep d (fun k => { k with
          dramDumps := tset none k.dramDumps i (some { m with copied := true }),
          bulkDumps := tset none k.bulkDumps dst.1 (some { m with copied := true, released := false }) })
        let bits := fun f => withBit (s3.fld d FLT_BLOT f) dst.1 true
        ((s3.setF d FLT_BLOT FLT_BLOT__USED (bits FLT_BLOT__USED)).setF d FLT_BLOT FLT_BLOT__UNREAD
          (bits FLT_BLOT__UNREAD)).setF d FLT_BLOT FLT_BLOT__NEWEST dst.1)

/-! ### Repair in service (R744 to R748) -/

/-- SCRUB_PASS (R744). -/
def execScrubPass (d : Die) (dram : Bool) (s : State) : Out :=
  .next (if s.alive d then s.addSat d FLT_SCRUB (if dram then FLT_SCRUB__DRAMPASS else FLT_SCRUB__SRAMPASS) 1 else s)

/-- The banks of 256 KB of a memory that has spare rows (R746), by its memory code. -/
def sramBanks (mem : Nat) : Nat := match mem with | 1 => 32 | 3 => 48 | 4 => 32 | 7 => 8 | _ => 0

/-- SRAM_ROW_REMAP (R746): a row goes to one of the eight spare rows of its bank, once; without a spare it stays as it is. -/
def execSramRowRemap (d : Die) (mem : Fin 12) (bank : BitVec 8) (row : BitVec 24) (lost : Bool) (s : State) : Out :=
  .next (
    let key := mem.val * 256 + bank.toNat
    let used := tget 0 (s.keep.get d).sramUsed key
    if !(s.alive d && decide (bank.toNat < sramBanks mem.val)) ||
        (s.keep.get d).rows.any (fun r => decide (r.1 = mem.val ∧ r.2.1 = bank.toNat ∧ r.2.2.1 = row.toNat)) then s
    else if 8 ≤ used then s.record d 0 0x17 key 0 (9 + 256 * row.toNat)
    else
      let s1 := s.updKeep d (fun k => { k with
        sramUsed := tset 0 k.sramUsed key (used + 1), rows := k.rows ++ [(mem.val, bank.toNat, row.toNat, lost)] })
      let s2 := (s1.addSat d FLT_REPAIR FLT_REPAIR__SRAMROWS 1).setF d FLT_SPARE FLT_SPARE__SRAMLEFT
        (s.fld d FLT_SPARE FLT_SPARE__SRAMLEFT - 1)
      s2.record d 0 0x17 key 0 (4 + 256 * row.toNat))

/-- DRAM_ROW_REPAIR (R747): soft post-package repair with the one spare row of the bank. -/
def execDramRowRepair (d : Die) (bank : Fin 64) (row : BitVec 24) (s : State) : Out :=
  .next (
    if !s.alive d then s
    else if (s.keep.get d).dramUsed.contains bank.val then s.record d 0 0x17 bank.val 0 (9 + 256 * row.toNat)
    else
      let s1 := s.updKeep d (fun k => { k with
        dramUsed := k.dramUsed ++ [bank.val], rows := k.rows ++ [(0, bank.val, row.toNat, false)] })
      let s2 := (s1.addSat d FLT_REPAIR FLT_REPAIR__DRAMROWS 1).setF d FLT_SPARE FLT_SPARE__DRAMLEFT
        (s.fld d FLT_SPARE FLT_SPARE__DRAMLEFT - 1)
      s2.record d 0 0x17 bank.val 0 (5 + 256 * row.toNat))

/-- DRAM_ECC_ERROR (R748): by the class of the region and the part the duplex has. -/
def execDramEccError (d : Die) (dux : Fin 12) (addr : BitVec 48) (applying : Bool) (s : State) : Out :=
  .next (
    let x := dux.val
    let a := addr.toNat
    if !(s.duxUp d x && decide (0x100000000 ≤ a ∧ a < 0x300000000)) then s
    else if s.jLine d (lineOf64 a) then
      if applying then
        (if s.duxRole d x = 2 then s.goAlone d.other (s.fld d (DUX_dSTAT x) DUX_dSTAT__SERVES) 5 else s).record d 0 0x08 0 0 a
      else s.duxFails d x (fun s => s.record d 0 0x08 0 0 a)
    else
      let one := fun (st : State) (b : Die) => if (st.core d x b).wait.isSome then st.trap d x b 5 a else st
      ((one (one s 0) 1).record d 0 0x08 0 0 a).reply (.errorBytes (List.replicate 8 0xFF#8)))

/-! ### Self-tests and resets that last -/

/-- KAT_STEP (R749, R766): one of the 15 steps of the known-answer tests; a failure refuses every SEC operation until die reset. -/
def execKatStep (d : Die) (pass : Bool) (s : State) : Out :=
  .next (
    if !s.alive d then s
    else
      let s1 := s.updVol d (fun v => { v with flt := { v.flt with katStep := (v.flt.katStep + 1) % 15 } })
      if pass then s1 else s1.setF d SEC_STAT SEC_STAT__KATFAIL 1)

/-- PARTITION_RESET_HELD (R739 bit 4): a partition has been in reset for more than 1 s. -/
def execPartitionResetHeld (d : Die) (p : Fin 32) (s : State) : Out :=
  .next (
    if s.alive d && s.bit d (WLD_pSTAT p.val) WLD_pSTAT__RST &&
        decide (tget 0 (s.vol.get d).flt.heldAt p.val + 1000000000 ≤ s.ns d) then
      s.updVol d (fun v => { v with flt := { v.flt with heldReset := tset false v.flt.heldReset p.val true } })
    else s)

end Sys2Proof.Machine
end

