-- ==== Sys2Proof/Machine/Image.lean ====
section
/-! DEFINITION. Signed images (spec/02, spec/03, spec/19): the signature block (R48 to R52), the checks of a Ductus copy (R60), of a
loader region (R99) and of an update manifest (R699), and the record walk (R54). -/

namespace Sys2Proof.Machine

/-- A slice of bytes. -/
def slice (l : List Byte) (off n : Nat) : List Byte := (l.drop off).take n

/-- The length of a signature block. -/
def sigLen : Nat := 5488

/-- Whether a signature block keeps its own rules (R48). -/
def sigFormOk (g : List Byte) : Bool :=
  decide (u32 g 0 = 0x47495344 ∧ u16 g 4 = 1 ∧ u8 g 6 ≤ 3 ∧ u8 g 7 = 0 ∧ u16 g 8 = 97 ∧ u16 g 10 = 1952 ∧ u16 g 12 = 96 ∧
    u16 g 14 = 3309 ∧ u32 g 16 ≤ 64 ∧ u32 g 20 = 0) && zeroBytes g 0x79 7 && zeroBytes g 0x156D 3

/-- The digest of the two public keys of a signature block (R51). -/
def sigKeys (g : List Byte) : BitVec 384 := Config.sha384 (slice g 0x18 97 ++ slice g 0x80 1952)

/-- Whether the ECDSA and the ML-DSA signature of a message verify, the latter with a context (R49). -/
def sigEcdsa (g msg : List Byte) : Bool := Config.ecdsaOk (slice g 0x18 97) msg (slice g 0x820 96)
def sigMldsa (g ctx msg : List Byte) : Bool := Config.mldsaOk (slice g 0x80 1952) ctx msg (slice g 0x880 3309)

/-- Whether the key slot that a signature block names holds its keys and is not revoked (R51). -/
def sigSlotOk (g : List Byte) : Bool :=
  let slot : Fin 4 := Fin.ofNat 4 (u8 g 6)
  decide (Config.keySlot slot = some (sigKeys g)) && !Config.keyRevoked slot

/-- The checks of a signature block in the order of the verification: form, key slot, both signatures, security version. 0 where
all pass. -/
def sigCode (fuse : Nat) (formOk : Bool) (g ctx msg : List Byte) : Nat :=
  if !(formOk && sigFormOk g) then 0x05
  else if !sigSlotOk g then 0x08
  else if !sigEcdsa g msg then 0x06
  else if !sigMldsa g ctx msg then 0x07
  else if u32 g 16 < fuse then 0x09
  else 0

/-- The ASCII bytes of the four-letter names the manual gives. -/
def ascii4 (a b c d : Nat) : List Byte := [a, b, c, d].map (BitVec.ofNat 8)

/-! ### The loader (R98, R99) -/

/-- Where the loader region lies. -/
def ldrBase : Nat := 0x10000000

/-- The length of the loader region. -/
def ldrSize : Nat := 0x40000

/-- The verification code of a loader image from its bytes: 0 where it is valid. -/
def loaderCodeOf (fuse : Nat) (img : List Byte) : Nat :=
  let h := slice img 0 256
  let len := u32 h 8
  let g := slice img (256 + len) sigLen
  if u32 h 0 ≠ 0x4952444C then 0x01
  else if u16 h 4 ≠ 1 then 0x02
  else if !decide (len % 8 = 0 ∧ 8 ≤ len ∧ len ≤ 256400 ∧ u32 h 12 < len ∧ u32 h 12 % 4 = 0 ∧ u32 h 0x50 = 256 + len ∧
      u32 h 0x54 = sigLen) then 0x03
  else
    let c := sigCode fuse (decide (u32 g 16 = u32 h 16)) g (ascii4 0x4C 0x44 0x52 0x49) h
    if c ≠ 0 then c
    else if toBE 48 (Config.sha384 (slice img 256 len)).toNat ≠ slice h 0x18 48 then 0x04
    else if u16 h 6 = 0 ∧ u32 h 20 = 0 ∧ zeroBytes h 0x58 168 = true then 0 else 0x0A

/-- The code of the loader in a die's loader region. -/
def State.loaderCode (s : State) (d : Die) : Nat := loaderCodeOf s.fuse (s.bytesAt d ldrBase ldrSize)

/-! ### The Ductus (R44 to R60) -/

/-- Where the Ductus slot lies. -/
def imgBase : Nat := 0x10800000

/-- The records of an image from the bytes behind its header (R53): none where the walk of R54 fails. -/
def walkRecs : Nat → Nat → List Byte → Option (List Rec)
  | 0, _, l => if l = [] then some [] else none
  | n + 1, i, l =>
    let len := u32 l 4
    if l.length < 16 ∨ len % 8 ≠ 0 ∨ l.length < 16 + len then none
    else
      (walkRecs n (i + 1) (l.drop (16 + len))).map (fun rest =>
        { index := i, typ := BitVec.ofNat 16 (u16 l 0), flags := BitVec.ofNat 16 (u16 l 2), target := BitVec.ofNat 32 (u32 l 8),
          seq := BitVec.ofNat 32 (u32 l 12), body := slice l 16 len } :: rest)

/-- Whether no two records carry the same sequence number. -/
def seqsDiffer (l : List Rec) : Bool :=
  decide ((l.foldl (fun (t : Table Unit) r => tput t r.seq.toNat ()) []).length = l.length)

/-- The records of a Ductus image, none where the walk fails. -/
def imageRecs (img : List Byte) : Option (List Rec) :=
  match walkRecs (u32 img 12) 0 (slice img 256 (u32 img 8 - 256)) with
  | some l => if seqsDiffer l then some l else none
  | none => none

/-- The verification code of a Ductus image (R60): 0 where the copy is valid. `dev` is whether the debug state admits a development
image. -/
def ductusCode (fuse : Nat) (dev : Bool) (img : List Byte) : Nat :=
  let h := slice img 0 256
  let total := u32 h 8
  let g := slice img total sigLen
  if u32 h 0 ≠ 0x53544344 then 0x01
  else if u16 h 4 ≠ 1 then 0x02
  else if !decide (total % 8 = 0 ∧ 0x110 ≤ total ∧ total + sigLen ≤ 2 ^ 24 ∧ 1 ≤ u32 h 12 ∧ u32 h 12 ≤ 65536 ∧ u32 h 0x60 = total ∧
      u32 h 0x64 = sigLen) then 0x03
  else
    let c := sigCode fuse true g (ascii4 0x44 0x43 0x54 0x53) h
    if c ≠ 0 then c
    else if toBE 48 (Config.sha384 (slice img 256 (total - 256))).toNat ≠ slice h 0x30 48 then 0x04
    else if !(decide (u64 h 16 ≠ 0 ∧ u64 h 16 ≠ 2 ^ 64 - 1 ∧ u16 h 0x1C < 1024 ∧ u16 h 0x1E = 0 ∧ u32 h 0x28 < 2 ∧
        u32 h 0x2C = 0) && zeroBytes h 0x68 152) then 0x0A
    else if u32 h 0x28 = 1 ∧ dev = false then 0x0E
    else if (imageRecs img).isNone then 0x0B
    else 0

/-- The image in a die's Ductus slot: the bytes its header claims with the signature block, none beyond the slot. -/
def State.slotImage (s : State) (d : Die) : List Byte := s.bytesAt d imgBase (min (2 ^ 24) (s.leAt d (imgBase + 8) 4 + sigLen))

/-- The result of the verification of a die's own copy. -/
def State.verifyOwn (s : State) (d : Die) : VerResult :=
  let img := s.slotImage d
  let total := u32 img 8
  { code := ductusCode s.fuse (decide (2 ≤ s.fld d DBG_STAT DBG_STAT__SCOPE)) img,
    digest := Config.sha384 (slice img 0 256), secver := u32 img (total + 16), buildTime := u64 img 0x20, structId := u64 img 16,
    sfEpoch := u16 img 0x18, ifEpoch := u16 img 0x1A, baseId := u16 img 0x1C, dev := decide (u32 img 0x28 % 2 = 1) }

/-! ### Update manifests (R699) -/

/-- The length of a manifest: header and signature block. -/
def manLen : Nat := 5744

/-- The verification code of a manifest: 0 where it is valid. -/
def manifestCode (fuse : Nat) (m : List Byte) : Nat :=
  let h := slice m 0 256
  let g := slice m 256 sigLen
  let ldr := bitOf (u16 h 6) 0
  let chunks := (u32 h 0x70 + 4095) / 4096 + (u32 h 0x74 + 4095) / 4096
  if u32 h 0 ≠ 0x4D445055 ∨ u16 h 4 ≠ 1 then 0x01
  else
    let c := sigCode fuse (decide (u32 g 16 = u32 h 0x7C)) g (ascii4 0x55 0x50 0x44 0x4D) h
    if c ≠ 0 then c
    else if decide (u16 h 6 < 4 ∧ u64 h 8 ≠ 0 ∧ u32 h 0x74 ≤ 2 ^ 24 ∧ u32 h 0x78 = chunks ∧ chunks ≤ 4160 ∧ u32 h 0x7C ≤ 64 ∧
        u32 h 0x84 = 0) && zeroBytes h 0xB8 72 && (if ldr then decide (0 < u32 h 0x70 ∧ u32 h 0x70 ≤ 262144) else
        decide (u32 h 0x70 = 0)) then 0 else 0x0A

end Sys2Proof.Machine
end

