-- ==== Sys2Proof/Machine/Security.lean ====
section
/-! DEFINITION. Physical security and debug (spec/21): records, glitch detectors, unlocking, zeroisation, the SEC block's
operations. -/

namespace Sys2Proof.Machine

/-! ### Shared operations -/

/-- The sealed island of a die, and a change of it. -/
def State.sec (s : State) (d : Die) : SecSt := (s.vol.get d).sec
def State.updSec (s : State) (d : Die) (f : SecSt → SecSt) : State := s.updVol d (fun v => { v with sec := f v.sec })

/-- The next block of a die's DRBG (R766), 32 bytes. -/
def State.draw (s : State) (d : Die) : List Byte × State :=
  (toLE 32 (Config.drbg d (s.keep.get d).drbgUsed).toNat, s.updKeep d (fun k => { k with drbgUsed := k.drbgUsed + 1 }))

/-- `n` bytes of the DRBG, in blocks of 32. -/
def State.drawBytes (s : State) (d : Die) (n : Nat) : List Byte × State :=
  let k := (n + 31) / 32
  let from0 := (s.keep.get d).drbgUsed
  (((List.range k).flatMap (fun i => toLE 32 (Config.drbg d (from0 + i)).toNat)).take n,
    s.updKeep d (fun c => { c with drbgUsed := c.drbgUsed + k }))

/-- The die wrap key (R760), where the PUF key can be reconstructed. -/
def dwk (d : Die) : Option (List Byte) :=
  (Config.pufKey d).map (fun k =>
    Config.kdf (toLE 32 (k ^^^ Config.fuseKey d).toNat) (labelBytes [0x46, 0x56, 0x5A, 0x2D, 0x44, 0x57, 0x4B]))

/-- The key that wraps the blobs of the sealed key store (R762). -/
def storeKey : List Byte := Config.kdf Config.moduleSecret (labelBytes [0x46, 0x56, 0x5A, 0x2D, 0x53, 0x4B, 0x53])

/-- A die erases its sealed key store and every key slot on seeing the zeroise latch (R771), once; the latch clears when both dies
have reported. -/
def State.eraseKeys (s : State) (d : Die) : State :=
  if !(s.cis.zeroise && !s.cis.zeroReports.get d) then s else
  let k := s.keep.get d
  let s1 := s.putBytes d k.storeBase (List.replicate k.storeSize 0#8)
  let busy := (s.sec d).op.isSome
  let s2 := (s1.updSec d (fun c => { c with slots := [], op := none })).updKeep d (fun k => { k with storeUsed := 0, attestOff := true })
  let s3 := if busy then (s2.setF d SEC_CMDRES SEC_CMDRES__RESULT 2).setF d SEC_CMDRES SEC_CMDRES__REASON 5 else s2
  let s4 := (s3.setF d SEC_STAT SEC_STAT__ZEROED 1).record d 0x1100 0x12 0 0 0
  let reps := s4.cis.zeroReports.set d true
  s4.updCis (fun c =>
    if reps.get 0 && reps.get 1 then { c with zeroise := false, zeroReports := ⟨false, false⟩ } else { c with zeroReports := reps })

/-! ### Records (R776) -/

/-- DEBUG_POLICY_RECORD. The scope in force is never above the limit (R769). -/
def execDebugPolicyRecord (d : Die) (r : Rec) (s : State) : Out :=
  let b := r.body
  .next (s.applyRec d r 0 false 0x0F01
    (goodIf (decide (r.target.toNat = 0x130000 ∧ b.length = 8 ∧ u8 b 0 ≤ Config.debugLimit.val) && zeroBytes b 1 7))
    (fun s =>
      let s1 := s.updSec d (fun c => { c with policy := some (u8 b 0) })
      s1.setF d DBG_STAT DBG_STAT__SCOPE (min (s1.fld d DBG_STAT DBG_STAT__SCOPE) (s1.debugLimit d))))

/-- Whether a guard-2 region with SEALW and SEALED holds a whole range, as the region block records of the image give the regions,
which are applied later (R64, R579). -/
def State.sealedMram (s : State) (d : Die) (a n : Nat) : Bool :=
  (List.range 64).any (fun k =>
    match lastRec (s.vol.get d).boot.recs d 0x0110 2 (fun q => decide (u32 q.body 0 ≤ k ∧ k < u32 q.body 0 + u32 q.body 4 ∧
      q.body.length = 8 + 16 * u32 q.body 4)) with
    | some q =>
      let w := fun (i : Nat) => u32 q.body (8 + 16 * (k - u32 q.body 0) + 4 * i)
      let on := fun (x : Fld) => x.get (BitVec.ofNat 32 (w 3)) = 1
      decide (on RGD_g_rCTL__VALID ∧ on RGD_g_rCTL__SEALW ∧ on RGD_g_rCTL__SEALED ∧ w 0 * 4096 ≤ a ∧ a + n ≤ (w 1 + 1) * 4096)
    | none => false)

/-- SEALED_KEY_STORE_RECORD: the area is in force from the seal (R78). -/
def execSealedKeyStoreRecord (d : Die) (r : Rec) (s : State) : Out :=
  let b := r.body
  let a := u64 b 0
  let n := u32 b 8
  .next (s.applyRec d r 0 false 0x0F02
    (goodIf (decide (r.target.toNat = 0x110000 ∧ b.length = 16 ∧ a % 4096 = 0 ∧ 4096 ≤ n ∧ n ≤ 65536 ∧ n % 4096 = 0 ∧ u32 b 12 = 0) &&
      s.sealedMram d a n))
    (fun s => s.updSec d (fun c => { c with store := some (a, n) })))

/-! ### Glitch detectors (R767, R768) and the DRBG -/

/-- DIE_GLITCH: the die is reset, without a dump; the third such reset within 10 minutes keeps it in reset. -/
def execDieGlitch (d : Die) (s : State) : Out :=
  .next (
    if !(s.keep.get d).supplied then s
    else
      let now := s.rtc
      let recent := ((s.keep.get d).glitches.filter (fun t => decide (now < t + 600 * 32768))) ++ [now]
      let s1 := (s.addSat d DBG_GLITCH DBG_GLITCH__DIE 1).updKeep d (fun k => { k with
        glitches := recent, glitchStuck := k.glitchStuck || decide (3 ≤ recent.length) })
      s1.dieReset d 0x13 0)

/-- CISTERN_GLITCH: a module reset with cause 0x04. -/
def execCisternGlitch (s : State) : Out :=
  .next (if s.cis.powered then
      ((s.addSat 0 DBG_GLITCH DBG_GLITCH__CIS 1).addSat 1 DBG_GLITCH DBG_GLITCH__CIS 1).moduleReset 4 0
    else s)

/-- DRBG_HEALTH_FAIL (R766). -/
def execDrbgHealthFail (d : Die) (s : State) : Out :=
  .next (if s.alive d then (s.updSec d (fun c => { c with drbgStop := true })).record d 0x1100 0x08 0 0 0 else s)

/-! ### Unlocking (R769, R770, R773) -/

/-- The result of a DBG_CMD. -/
def State.dbgResult (s : State) (d : Die) (r reason : Nat) : State :=
  (s.setF d DBG_CMDRES DBG_CMDRES__RESULT r).setF d DBG_CMDRES DBG_CMDRES__REASON reason

/-- A refusal whose REASON no rule states: a free value (log entry 6). -/
def State.dbgRefuseFree (s : State) (d : Die) : State := s.withFree (fun v s => s.dbgResult d 2 (v % 16))

/-- A DBG_CMD write: from partition 0, a management core or the debug port with the right CONFIRM, else ignored (R775). -/
def State.dbgCmd (s : State) (d : Die) (who : Initiator) (confirm : BitVec 8) (act : State → State) : State :=
  if s.alive d && (who.isManager || decide (who = .debug)) && decide (confirm = 0xDB#8) then act s else s

/-- CHALLENGE. -/
def execChallenge (d : Die) (who : Initiator) (confirm : BitVec 8) (s : State) : Out :=
  .next (s.dbgCmd d who confirm (fun s =>
    if s.bit d DBG_STAT DBG_STAT__LOCKOUT then s.dbgResult d 2 4
    else if (s.sec d).verifying.isSome || (s.sec d).drbgStop then s.dbgRefuseFree d
    else
      let q := s.draw d
      let s1 := q.2.updSec d (fun c => { c with chal := some (BitVec.ofNat 256 (leBytes q.1 0 32)), chalAt := s.ns d })
      ((List.range 8).foldl (fun st i => st.wr d (DBG_CHALi i) (BitVec.ofNat 32 (leBytes q.1 (4 * i) 4))) s1).dbgResult d 3 0))

/-- Whether a response answers a challenge for a scope (R770 step 3). -/
def responseOk (d : Die) (chal : BitVec 256) (scope : Nat) (g : List Byte) : Bool :=
  let name := ascii4 0x44 0x42 0x47 0x55
  let msg := name ++ toLE 16 (Config.dieUid d).toNat ++ toLE 32 chal.toNat ++ toLE 4 scope
  sigFormOk g && decide (u8 g 6 = 0 ∧ u32 g 16 = 0) && decide (sigKeys g = Config.debugKey) && sigEcdsa g msg && sigMldsa g name msg

/-- UNLOCK: the challenge serves this one response; its verification begins. -/
def execUnlock (d : Die) (who : Initiator) (confirm : BitVec 8) (scope : BitVec 2) (s : State) : Out :=
  .next (s.dbgCmd d who confirm (fun s =>
    if scope = 0#2 then s
    else if s.bit d DBG_STAT DBG_STAT__LOCKOUT then s.dbgResult d 2 4
    else if (s.sec d).verifying.isSome then s.dbgRefuseFree d
    else if s.debugLimit d < scope.toNat then s.dbgResult d 2 1
    else match (s.sec d).chal with
      | none => s.dbgResult d 2 3
      | some c =>
        if (s.sec d).chalAt + 60000000000 ≤ s.ns d then (s.updSec d (fun c => { c with chal := none })).dbgResult d 2 3
        else
          let buf := (s.rd d DBG_RESPL).toNat / 8 * 8 + 2 ^ 32 * s.fld d DBG_RESPH DBG_RESPH__ADDR
          let ok := responseOk d c scope.toNat (s.bytesAt d buf sigLen)
          (s.updSec d (fun c => { c with chal := none, verifying := some (scope.toNat, ok) })).dbgResult d 1 0))

/-- The scope that a verified response opens with a die reset takes effect (R769). -/
def State.openScope (s : State) (d : Die) (scope : Nat) : State :=
  (s.setF d DBG_STAT DBG_STAT__SCOPE scope).dieReset d 0x16 6

/-- UNLOCK_VERIFIED: a failure is counted, the third locks; scope 1 is live, scope 2 takes a die reset, scope 3 first zeroisation. -/
def execUnlockVerified (d : Die) (s : State) : Out :=
  .next (
    match (s.sec d).verifying with
    | none => s
    | some (scope, ok) =>
      if !s.alive d then s
      else if !ok then
        let n := satTo 3 (s.fld d DBG_STAT DBG_STAT__FAILS + 1)
        (((s.updSec d (fun c => { c with verifying := none })).setF d DBG_STAT DBG_STAT__FAILS n).setF d DBG_STAT
          DBG_STAT__LOCKOUT (b2n (decide (3 ≤ n)))).dbgResult d 2 2
      else if scope = 1 then
        ((s.updSec d (fun c => { c with verifying := none })).setF d DBG_STAT DBG_STAT__SCOPE 1).dbgResult d 3 0
      else if scope = 2 then s.openScope d 2
      else s.updCis (fun c => { c with zeroise := true }))

/-- CHALLENGE_EXPIRY: after 60 s. -/
def execChallengeExpiry (d : Die) (s : State) : Out :=
  .next (if (s.sec d).chal.isSome && decide ((s.sec d).chalAt + 60000000000 ≤ s.ns d) then
      s.updSec d (fun c => { c with chal := none })
    else s)

/-- ZEROISE (R771): a running die erases its keys; when every running die has, a die that waits with a response for scope 3 enters
it. -/
def execZeroise (d : Die) (s : State) : Out :=
  .next (
    if !s.alive d then s
    else
      let s1 := s.eraseKeys d
      let done := fun (e : Die) => !s1.alive e || !s1.cis.zeroise || s1.cis.zeroReports.get e
      let enter := fun (st : State) (e : Die) =>
        if st.alive e && decide ((st.sec e).verifying = some (3, true)) then st.openScope e 3 else st
      if done 0 && done 1 then enter (enter s1 0) 1 else s1)

/-! ### The measurement (R775) -/

/-- MEASUREMENT_READ: word 0 answers, words 1 to 11 are latched for the initiator, whose reads of them return what was latched. -/
def execMeasurementRead (d : Die) (who : Initiator) (s : State) : Out :=
  .next (
    if s.alive d && (who.isManager || decide (who = .debug)) then
      let r := s.readAs d who (DBG_MEASi 0) none
      r.2.reply (.value r.1.toNat)
    else s)

/-! ### SEC operations (R774) -/

/-- The number under which a SEC_CMD requester keeps its TAG; none for one that may not command the block. -/
def State.secReq (s : State) (d : Die) (who : Initiator) : Option Nat :=
  match who with
  | .sealed p => some (p.val + 1)
  | .debug => if s.debugAt d 3 then some 0 else none
  | _ => none

/-- What an operation finds before it begins: its data, the key it fills a slot with, or a refusal. -/
structure SecDone where
  data : List Byte := []
  fill : Option KeySlot := none
  refused : Nat := 0
  deriving DecidableEq, Repr

/-- An operation refused with a REASON. -/
def secNo (reason : Nat) : SecDone := { refused := reason }

/-- The arguments of an operation (R774): input address, length, output address, parameter. -/
def State.secArg (s : State) (d : Die) (i : Nat) : Nat := (s.rd d (SEC_ARGi i)).toNat
def State.secIn (s : State) (d : Die) : Nat := s.secArg d 0 + 2 ^ 32 * s.secArg d 1
def State.secOut (s : State) (d : Die) : Nat := s.secArg d 3 + 2 ^ 32 * s.secArg d 4

/-- Whether the guards let an operation read its input, and write its output: to a region of class I that the requester reads. -/
def State.secReads (s : State) (d : Die) (who : Initiator) (a n : Nat) : Bool :=
  (guardOf a).isSome && s.memAdmits d a n (tagsOf who) .read
def State.secWrites (s : State) (d : Die) (who : Initiator) (n : Nat) : Bool :=
  match guardOf (s.secOut d) with
  | some (g, o) => match s.guardDecides d g o n (tagsOf who) .read with
    | some (r, ok) => ok && decide (g ≠ 3) && !slotWrite g o n .write && decide (s.rgCtl d g r RGD_g_rCTL__CLASS = 3)
    | none => false
  | none => false

/-- A key slot of a type: what it holds. -/
def State.keyIn (s : State) (d : Die) (slot : Nat) (types : List Nat) : Option KeySlot :=
  match tget none (s.sec d).slots slot with
  | some k => if types.contains k.typ then some k else none
  | none => none

/-- A SEC_CMD write (R774): from the sealed world or the debug port at scope 3, with CONFIRM 0xC9 and a new TAG, while no operation
runs; else ignored. What stops every operation comes first: a failed known-answer test (its REASON is stated nowhere, a free
value), zeroisation; then, for a key operation, the vault, and for one that draws, the DRBG. -/
def State.secCmd (s : State) (d : Die) (c : SecCmd) (keyOp draws : Bool) (act : State → SecDone × State) : State :=
  match s.secReq d c.who with
  | none => s
  | some q =>
    let reg := 64 * 3 + q
    if !(s.alive d && decide (c.confirm = 0xC9#8)) || (s.sec d).op.isSome || decide (tget none (s.vol.get d).tags reg = some c.tag.toNat)
    then s
    else
      let s1 := s.updVol d (fun v => { v with tags := tset none v.tags reg (some c.tag.toNat) })
      let start := fun (r : SecDone) (st : State) =>
        let o : SecOp := ⟨c.tag.toNat, st.secOut d, r.data, r.refused, r.fill.map (fun k => (c.slot.val, k))⟩
        ((st.updSec d (fun x => { x with op := some o })).setF d SEC_CMDRES SEC_CMDRES__RESULT 1).setF d SEC_CMDRES
          SEC_CMDRES__TAG c.tag.toNat
      if s.bit d SEC_STAT SEC_STAT__KATFAIL then s1.withFree (fun v st => start (secNo (1 + v % 15)) st)
      else if s.cis.zeroise && !s.cis.zeroReports.get d then start (secNo 5) s1
      else if (keyOp && !s.bit d SEC_STAT SEC_STAT__VAULT) || (draws && (s.sec d).drbgStop) then start (secNo 4) s1
      else
        let r := act s1
        start r.1 r.2

/-- SEC_RANDOM: at most 65,536 bytes; the REASON for more is a free value. -/
def execSecRandom (d : Die) (cmd : SecCmd) (s : State) : Out :=
  .next (s.secCmd d cmd false true (fun s =>
    let n := s.secArg d 2
    if 65536 < n then (secNo (1 + (Config.freeWord s.free).toNat % 15), { s with free := s.free + 1 })
    else if !s.secWrites d cmd.who n then (secNo 3, s)
    else
      let q := s.drawBytes d n
      ({ data := q.1 }, q.2)))

/-- SEC_KEYGEN: a key of a type into the slot; its public key for types 2 and 3. -/
def execSecKeygen (d : Die) (cmd : SecCmd) (s : State) : Out :=
  .next (s.secCmd d cmd true true (fun s =>
    let t := s.secArg d 5
    if !decide (1 ≤ t ∧ t ≤ 3) then (secNo 1, s)
    else
      let q := s.draw d
      let pub := if t = 1 then [] else Config.publicKey t q.1
      if t ≠ 1 ∧ s.secWrites d cmd.who pub.length = false then (secNo 3, s)
      else ({ data := pub, fill := some ⟨t, q.1⟩ }, q.2)))

/-- SEC_LOAD: a blob unwrapped into the slot. -/
def execSecLoad (d : Die) (cmd : SecCmd) (s : State) : Out :=
  .next (s.secCmd d cmd true false (fun s =>
    if !s.secReads d cmd.who (s.secIn d) (s.secArg d 2) then (secNo 3, s)
    else match Config.blobOpen storeKey (s.bytesAt d (s.secIn d) (s.secArg d 2)) with
      | some (t, k) => ({ fill := some ⟨t, k⟩ }, s)
      | none => (secNo 2, s)))

/-- SEC_SAVE: the slot wrapped as a blob, with ARG5 = 1 also into the sealed key store. -/
def execSecSave (d : Die) (cmd : SecCmd) (s : State) : Out :=
  .next (s.secCmd d cmd true false (fun s =>
    match s.keyIn d cmd.slot.val [1, 2, 3] with
    | none => (secNo 1, s)
    | some k =>
      let q := s.draw d
      let blob := Config.blobWrap storeKey (q.1.take 12) k.typ k.key
      let kp := s.keep.get d
      let keepIt := decide (s.secArg d 5 = 1)
      if !s.secWrites d cmd.who blob.length || (keepIt && decide (kp.storeSize < kp.storeUsed + blob.length)) then (secNo 3, s)
      else if keepIt then
        ({ data := blob }, (q.2.putBytes d (kp.storeBase + kp.storeUsed) blob).updKeep d (fun k => { k with
          storeUsed := k.storeUsed + blob.length }))
      else ({ data := blob }, q.2)))

/-- The IV, the additional data and the rest of the input of a GCM operation: ARG5 names 12 bytes of IV and the length of the
additional data, which stands first in the input (DEDUCED, log entry 17). -/
def State.gcmParts (s : State) (d : Die) : List Byte × List Byte × List Byte :=
  let p := s.bytesAt d (s.secArg d 5) 16
  let input := s.bytesAt d (s.secIn d) (s.secArg d 2)
  (p.take 12, input.take (u32 p 12), input.drop (u32 p 12))

/-- SEC_GCM_ENCRYPT and SEC_GCM_DECRYPT. -/
def State.gcm (s : State) (d : Die) (cmd : SecCmd) (f : List Byte → List Byte → List Byte → List Byte → Option (List Byte)) :
    SecDone × State :=
  match s.keyIn d cmd.slot.val [1] with
  | none => (secNo 1, s)
  | some k =>
    if !(s.secReads d cmd.who (s.secIn d) (s.secArg d 2) && s.secReads d cmd.who (s.secArg d 5) 16) then (secNo 3, s)
    else
      let q := s.gcmParts d
      match f k.key q.1 q.2.1 q.2.2 with
      | none => (secNo 2, s)
      | some r => if s.secWrites d cmd.who r.length then ({ data := r }, s) else (secNo 3, s)
def execSecGcmEncrypt (d : Die) (cmd : SecCmd) (s : State) : Out :=
  .next (s.secCmd d cmd true false (fun s => s.gcm d cmd (fun k i a x => some (Config.gcmSeal k i a x))))
def execSecGcmDecrypt (d : Die) (cmd : SecCmd) (s : State) : Out :=
  .next (s.secCmd d cmd true false (fun s => s.gcm d cmd Config.gcmOpen))

/-- An operation on the input that answers bytes. -/
def State.secDigest (s : State) (d : Die) (cmd : SecCmd) (n : Nat) (f : List Byte → List Byte) : SecDone × State :=
  if !s.secReads d cmd.who (s.secIn d) n then (secNo 3, s)
  else
    let r := f (s.bytesAt d (s.secIn d) n)
    if s.secWrites d cmd.who r.length then ({ data := r }, s) else (secNo 3, s)

/-- SEC_SIGN. -/
def execSecSign (d : Die) (cmd : SecCmd) (s : State) : Out :=
  .next (s.secCmd d cmd true false (fun s =>
    match s.keyIn d cmd.slot.val [2, 3] with
    | none => (secNo 1, s)
    | some k => s.secDigest d cmd (s.secArg d 2) (fun m => Config.sign k.key m)))

/-- What an attestation signs: nonce, measurement, structure ID, module ID, die (R774; widths DEDUCED, log entry 17). -/
def State.attestMsg (s : State) (d : Die) (nonce : List Byte) : List Byte :=
  ascii4 0x41 0x54 0x53 0x54 ++ nonce ++ toBE 48 (s.vol.get d).boot.bmr.toNat ++ toLE 8 (s.rd64 d UPD_DSTRUCTL UPD_DSTRUCTH) ++
    toLE 2 (s.fld d UPD_DMODID UPD_DMODID__MODID) ++ toLE 1 d.val

/-- SEC_ATTEST: both attestation keys sign. -/
def execSecAttest (d : Die) (cmd : SecCmd) (s : State) : Out :=
  .next (s.secCmd d cmd true false (fun s =>
    if (s.keep.get d).attestOff then (secNo 6, s)
    else
      let w := (dwk d).getD []
      let ke := Config.kdf w (labelBytes [0x46, 0x56, 0x5A, 0x2D, 0x41, 0x54, 0x54, 0x2D, 0x45])
      let km := Config.kdf w (labelBytes [0x46, 0x56, 0x5A, 0x2D, 0x41, 0x54, 0x54, 0x2D, 0x4D])
      s.secDigest d cmd 32 (fun n => Config.sign ke (s.attestMsg d n) ++ Config.sign km (s.attestMsg d n))))

/-- SEC_CLEAR_SLOT. -/
def execSecClearSlot (d : Die) (cmd : SecCmd) (s : State) : Out :=
  .next (s.secCmd d cmd true false (fun s =>
    ({}, s.updSec d (fun x => { x with slots := tset none x.slots cmd.slot.val none }))))

/-- SEC_SHA384. -/
def execSecSha384 (d : Die) (cmd : SecCmd) (s : State) : Out :=
  .next (s.secCmd d cmd false false (fun s =>
    s.secDigest d cmd (s.secArg d 2) (fun m => toBE 48 (Config.sha384 m).toNat)))

/-- SEC_OPERATION_COMPLETE: the output is written, the slot filled, the result shown. -/
def execSecOperationComplete (d : Die) (s : State) : Out :=
  .next (
    match (s.sec d).op with
    | none => s
    | some o =>
      if !s.alive d then s else
      let s1 := s.updSec d (fun x => { x with op := none })
      let show3 := fun (st : State) (r reason len : Nat) =>
        ((st.setF d SEC_CMDRES SEC_CMDRES__RESULT r).setF d SEC_CMDRES SEC_CMDRES__REASON reason).setF d SEC_CMDRES
          SEC_CMDRES__LEN len
      if o.refused ≠ 0 then show3 s1 2 o.refused 0
      else
        let s2 := s1.dmaPut d o.out o.data
        let s3 := match o.fill with
          | some (i, k) => s2.updSec d (fun x => { x with slots := tset none x.slots i (some k) })
          | none => s2
        show3 s3 3 0 o.data.length)

end Sys2Proof.Machine
end

