-- ==== Sys2Proof/Machine/ZoneGroup.lean ====
section
/-! DEFINITION. The commands of the zone-group unit (spec/18). -/

namespace Sys2Proof.Machine

/-! ### Records (R697) -/

/-- GROUP_RECORD. -/
def execGroupRecord (d : Die) (r : Rec) (s : State) : Out :=
  let b := r.body
  let et := if u16 b 4 = 0 then 0x88B5 else u16 b 4
  let vl := u16 b 14
  .next (s.applyRec d r 0 false 0x0B01
    (goodIf (decide (r.inst = 0 ∧ b.length = 32 ∧ u32 b 0 ≠ 0 ∧ 0x0600 ≤ et ∧ et ≠ 0x22F0 ∧ et ≠ 0x8100 ∧ et ≠ 0x8808 ∧ et ≠ 0x88F7 ∧
      u8 b 6 < 2 ∧ u8 b 7 = 0 ∧ vl % 4096 ≤ 4094 ∧ vl < 2 ^ 15 ∧ u32 b 16 ≠ 0 ∧ u32 b 16 < 2 ^ 24) && bitOf (u8 b 8) 0 &&
      zeroBytes b 20 12))
    (fun s =>
      ((s.wr d ZGP_CFG (BitVec.ofNat 32 (et + 2 ^ 16 * u8 b 6 + 2 ^ 17))).wr d ZGP_GID (BitVec.ofNat 32 (u32 b 0))).updZg d (fun z =>
        { z with addr := leBytes b 8 6, vlan := vl, mask := u32 b 16 })))

/-- REMOTE_ACCESS_RECORD. -/
def execRemoteAccessRecord (d : Die) (r : Rec) (s : State) : Out :=
  let b := r.body
  let masked := fun (m : Nat) => decide (m < 2 ^ 20) && !bitOf m 0 && !bitOf m 0x11 && !bitOf m 0x13
  .next (s.applyRec d r 0 false 0x0B02
    (goodIf (decide (r.inst = 0 ∧ b.length = 16 ∧ u16 b 0 ≤ u16 b 2 ∧ u16 b 2 ≤ 1023 ∧ u32 b 12 = 0) && masked (u32 b 4) &&
      masked (u32 b 8)))
    (fun s => s.updZg d (fun z => { z with remote := some (u16 b 0, u16 b 2, u32 b 4, u32 b 8) })))

/-- ROAMING_RECORD. The state region must be granted to the partition for writing. -/
def execRoamingRecord (d : Die) (r : Rec) (s : State) : Out :=
  let b := r.body
  let p := r.inst
  let role := u8 b 0
  let base := u64 b 8
  let size := u32 b 16
  let may := s.someRegion d base size (fun c => decide (RGD_g_rCTL__W.get (BitVec.ofNat 32 c) = 1)) &&
    (List.range 64).any (fun i => match guardOf base with
      | some (g, o) => s.regionHas d g i o size && bitOf (s.rd d (RGD_g_rPART g i)).toNat p &&
          decide (RGD_g_rCTL__W.get (s.rd d (RGD_g_rCTL g i)) = 1)
      | none => false)
  .next (s.applyRec d r 0 false 0x0B03
    (goodIf (decide (1 ≤ p ∧ p ≤ 31 ∧ b.length = 24 ∧ (role = 1 ∨ role = 2) ∧ u16 b 2 ≤ 1023 ∧ 1 ≤ u8 b 4 ∧ u8 b 4 ≤ 31 ∧
        leBytes b 5 3 = 0 ∧ base % 4096 = 0 ∧ 0x100000000 ≤ base ∧ base + size ≤ 0x300000000 ∧ 4096 ≤ size ∧ size ≤ 65536 ∧
        size % 4096 = 0 ∧ u32 b 20 = 0) &&
      (if role = 1 then decide (u8 b 1 = 0 ∧ u16 b 2 = s.ownId d) else decide (1 ≤ u8 b 1 ∧ u8 b 1 ≤ 4)) &&
      s.bit d (WLD_pCFG p) WLD_pCFG__ROAMING && may))
    (fun s => (s.setF d (ZGP_RpSTAT p) ZGP_RpSTAT__ROLE role).updZg d (fun z => { z with
      roam := tset none z.roam p (some ⟨u16 b 2, u8 b 4, base, size⟩) })))

/-! ### Heartbeats and membership (R671 to R676) -/

/-- HEARTBEAT_SEND: every 10 ms ±1 % until the module leaves or finds its ID duplicate. -/
def execHeartbeatSend (d : Die) (s : State) : Out :=
  let st := s.zgState d
  let flags := b2n (s.selfElig d) + 2 * b2n (decide (s.fld d CIS_BOOT CIS_BOOT__SINGLE = 1)) + 4 * b2n (decide (st = 3)) +
    8 * s.fld d ZGP_STAT ZGP_STAT__RANK
  .next (if s.zgOn d ∧ st ≠ 6 ∧ st ≠ 7 ∧ s.zgDue d 0x01 9900000 = true then
      s.zgCast d 0x01 (toLE 2 flags ++ toLE 2 (s.zgCoord d) ++ toLE 4 (s.rd d ZGP_VIEW).toNat ++
        toBE 8 Config.clockIdentity.toNat)
    else s)

/-- The ID of this module shown by another (R674): out until module reset. -/
def State.ownDuplicate (s : State) (d : Die) : State :=
  if s.zgState d = 6 then s
  else (((s.setF d ZGP_STAT ZGP_STAT__STATE 6).setF d ZGP_STAT ZGP_STAT__RANK 0).updCis (fun c => { c with dupId := true })).record d 0x1200 0x12 (s.ownId d) 0 0

/-- The third late heartbeat within 1 s (R680): the coordinator's is judged by backup 1, which takes over; any other is
observed, and marked SLOW by the coordinator. -/
def State.judgeLate (s : State) (d : Die) (m : Nat) : State :=
  let s0 := s.updMember d m (fun x => { x with lates := [] })
  if s0.zgState d = 3 then
    let s1 := s0.observe d m 0x02 0
    if s1.isMem d m && !s1.isSlow d m then (s1.setSlow d m true).changeView d else s1
  else if m = s0.zgCoord d then
    if s0.fld d ZGP_STAT ZGP_STAT__RANK = 1 then (s0.dropMember d m).takeCharge d else s0
  else s0.observe d m 0x02 0

/-- HEARTBEAT (R671, R674, R680). A member whose eligibility has changed changes the coordinator's view (R677). -/
def execHeartbeat (d : Die) (port : Fin 24) (f : ZgFrame) (s : State) : Out :=
  .next (s.zgHear d port f 0x01 (fun s =>
    let m := zgFrom f
    let x := s.zgMember d m
    let now := s.ns d
    let src := f.src.toNat
    if m = s.ownId d then s.ownDuplicate d
    else if x.heard.isSome && decide (x.addr ≠ src) && decide (s.zgState d = 3) then
      let s1 := s.updZg d (fun z => { z with dups := if z.dups.contains m then z.dups else m :: z.dups })
      if s1.isMem d m then (s1.dropMember d m).changeView d else s1
    else
      let late := decide (f.time.toNat + 2000000 < now) || (match x.heard with
        | some t => decide (t + 15000000 < now)
        | none => false)
      let s1 := s.updMember d m (fun x => { x with
        heard := some now, addr := src, epoch := f.epoch.toNat, flags := u16 f.body 0, clock := u64 f.body 8, lost := false,
        lates := if late then now :: x.lates.filter (fun t => decide (now ≤ t + 1000000000)) else x.lates,
        lastLate := if late then now else x.lastLate })
      let s2 := if s1.isMem d m then s1.showSpan d else s1
      let s2 := if s2.isMem d m && decide (s2.zgState d = 3) && (bitOf x.flags 0 != bitOf (u16 f.body 0) 0) then s2.changeView d else s2
      if s2.isMem d m ∧ 3 ≤ (s2.zgMember d m).lates.length then s2.judgeLate d m else s2))

/-- A member gone: the coordinator gives a view without it, backup 1 takes over from a coordinator that is gone. -/
def State.memberGone (s : State) (d : Die) (m : Nat) : State :=
  if s.zgState d = 3 then (s.dropMember d m).changeView d
  else if m = s.zgCoord d ∧ s.fld d ZGP_STAT ZGP_STAT__RANK = 1 then (s.dropMember d m).takeCharge d
  else s

/-- MEMBER_LOSS (R671, R678): no heartbeat for 35 ms ±1 ms. -/
def execMemberLoss (d : Die) (m : Fin 1024) (s : State) : Out :=
  let x := s.zgMember d m
  let silent : Bool := match x.heard with
    | some t => decide (t + 34000000 ≤ s.ns d)
    | none => true
  .next (if s.zgOn d && s.isMem d m && silent && !x.lost && !x.left && decide (m.val ≠ s.ownId d) then
      ((s.updMember d m (fun x => { x with lost := true })).observe d m 0x01 0).memberGone d m
    else s)

/-- VIEW_SEND: by the coordinator, every 50 ms ±1 % from the last (R672). -/
def execViewSend (d : Die) (s : State) : Out :=
  .next (if s.zgOn d ∧ s.zgState d = 3 ∧ s.zgDue d 0x04 49500000 = true then
      (s.sendView d).updZg d (fun z => { z with viewAt := some (s.ns d), anyView := s.ns d })
    else s)

/-- VIEW (R672, R677, R679): from another coordinator, the one with the higher ID ends its view; a view that neither names this
module nor comes from its own group's leaders is only noted. -/
def execView (d : Die) (port : Fin 24) (f : ZgFrame) (s : State) : Out :=
  .next (s.zgHear d port f 0x04 (fun s =>
    let m := zgFrom f
    let own := s.ownId d
    let s1 := s.updZg d (fun z => { z with anyView := s.ns d })
    if s.zgState d = 6 ∨ s.zgState d = 7 then s1
    else if s.zgState d = 3 then
      if own < m then s1
      else
        let s2 := (List.range 1024).foldl (fun st k => if st.isMem d k then st.dropMember d k else st) s1
        s2.showView d (s2.rd d ZGP_VIEW).toNat (u16 f.body 4 % 1024) 0x3FF 0x3FF
    else if bitOf (u8 f.body (12 + own / 8)) (own % 8) || decide (m = s.zgCoord d) || s.isMem d m then s1.adoptView d f.body
    else s1))

/-- JOIN_SEND: by a module that is not a member, every 100 ms ±10 %; a refused one retries every 1 s (R673). -/
def execJoinSend (d : Die) (s : State) : Out :=
  let st := s.zgState d
  .next (if s.zgOn d && decide (((st = 1 ∨ st = 5) ∧ s.zgDue d 0x02 90000000 = true) ∨
      (st = 4 ∧ (s.zg d).refusedAt + 1000000000 ≤ s.ns d)) then
      (s.zgCast d 0x02 []).updZg d (fun z => { z with refusedAt := s.ns d })
    else s)

/-- JOIN (R673): the coordinator admits a joiner whose epoch and ID fit, and gives the next view. -/
def execJoin (d : Die) (port : Fin 24) (f : ZgFrame) (s : State) : Out :=
  .next (s.zgHear d port f 0x02 (fun s =>
    if s.zgState d ≠ 3 then s
    else
      let m := zgFrom f
      let src := f.src.toNat
      let own := s.fld d UPD_DEPOCH UPD_DEPOCH__IFEPOCH
      let es := f.epoch.toNat :: (((s.memList d).filter (fun k => k ≠ s.ownId d)).map (fun k => (s.zgMember d k).epoch))
      let span := es.foldl max own - es.foldl min own
      let taken := decide (m = s.ownId d) || (s.zg d).dups.contains m ||
        (s.isMem d m && decide ((s.zgMember d m).addr ≠ src))
      let result := if taken then 2 else if 1 < span then 1 else 0
      let s1 := s.zgTx d 0x03 src (toLE 1 result ++ toLE 7 0)
      if result ≠ 0 ∨ s1.isMem d m then s1
      else
        let s2 := (s1.closeEntries d m 0x01).updMember d m (fun x => { x with
          addr := src, epoch := f.epoch.toNat, lost := false, left := false, heard := some (s.ns d) })
        (s2.setMem d m true).changeView d))

/-- ADMIT: an admitted joiner waits for the view, a refused one shows it (R673). -/
def execAdmit (d : Die) (port : Fin 24) (f : ZgFrame) (s : State) : Out :=
  .next (s.zgHear d port f 0x03 (fun s =>
    let st := s.zgState d
    if st ≠ 1 ∧ st ≠ 4 ∧ st ≠ 5 then s
    else if u8 f.body 0 = 0 then (if st = 4 then s.setF d ZGP_STAT ZGP_STAT__STATE 1 else s)
    else ((s.setF d ZGP_STAT ZGP_STAT__STATE 4).setF d ZGP_EVT ZGP_EVT__REFUSED 1).updZg d (fun z => { z with refusedAt := s.ns d })))

/-- ISOLATION (R675): no view that includes the module for 100 ms ±1 %; its roaming partitions stop. A module that has left or found its ID
duplicate keeps that state. -/
def execIsolation (d : Die) (s : State) : Out :=
  let st := s.zgState d
  let old : Bool := match (s.zg d).viewAt with
    | some t => decide (t + 99000000 ≤ s.ns d)
    | none => false
  .next (if s.zgOn d && decide (1 ≤ st) && old then
      let s1 := (((s.setF d ZGP_STAT ZGP_STAT__STATE (if st = 6 ∨ st = 7 then st else 5)).setF d ZGP_STAT ZGP_STAT__ELIG 0).setF d ZGP_STAT ZGP_STAT__RANK 0).setF d
        ZGP_EVT ZGP_EVT__ISOL 1
      let s2 := s1.updZg d (fun z => { z with viewAt := none })
      (List.range 32).foldl (fun st p =>
        if (st.roamOf d p).isSome ∧ st.fld d (ZGP_RpSTAT p) ZGP_RpSTAT__STATE = 1 then
          st.stopRoam d p 3 (st.fld d (ZGP_RpSTAT p) ZGP_RpSTAT__HOLDER)
        else st) s2
    else s)

/-- LEAVE (R676): the member is removed without a loss report. -/
def execLeave (d : Die) (port : Fin 24) (f : ZgFrame) (s : State) : Out :=
  .next (s.zgHear d port f 0x0C (fun s =>
    let m := zgFrom f
    if m = s.ownId d then s
    else
      let s1 := (s.updMember d m (fun x => { x with left := true })).updZg d (fun z => { z with
        obs := z.obs.filter (fun o => !decide (o.subj = m ∧ o.kind = 1)) })
      if s1.isMem d m then (s1.memberGone d m).dropMember d m else s1))

/-- COORDINATOR_TAKEOVER (R678): backup 1 at the loss point, backup 2 after 50 ms, or an eligible module alone. -/
def execCoordinatorTakeover (d : Die) (s : State) : Out :=
  let own := s.ownId d
  let st := s.zgState d
  let c := s.zgCoord d
  let now := s.ns d
  let silent : Nat → Bool := fun ms => match (s.zgMember d c).heard with
    | some t => decide (t + ms * 1000000 ≤ now)
    | none => true
  let rank := s.fld d ZGP_STAT ZGP_STAT__RANK
  let lower := (s.zg d).members.any (fun e => decide (e.1 < own) && bitOf e.2.flags 0 && (match e.2.heard with
    | some t => decide (now < t + 50000000)
    | none => false))
  .next (if !s.zgOn d || !s.selfElig d || decide (st = 3 ∨ st = 6 ∨ st = 7) then s
    else if st = 2 ∧ rank = 1 ∧ silent 34 = true then (s.dropMember d c).takeCharge d
    else if st = 2 ∧ rank = 2 ∧ silent 50 = true then (s.dropMember d c).takeCharge d
    else if (s.zg d).anyView + 100000000 ≤ now ∧ lower = false then
      ((List.range 1024).foldl (fun st k => if st.isMem d k then st.dropMember d k else st) s).takeCharge d
    else s)

/-- SLOW_CLEAR (R680): by the coordinator, after 10 s on time without a report. -/
def execSlowClear (d : Die) (m : Fin 1024) (s : State) : Out :=
  let x := s.zgMember d m
  .next (if s.zgOn d && decide (s.zgState d = 3) && s.isSlow d m &&
      decide (x.lastLate + 10000000000 ≤ s.ns d ∧ x.slowRep + 10000000000 ≤ s.ns d) then
      ((s.setSlow d m false).closeEntries d m 0x02).changeView d
    else s)

/-! ### Reports and the ledger (R682 to R685) -/

/-- REPORT_SLOT: the report is sent unless one was seen before. -/
def execReportSlot (d : Die) (m : Fin 1024) (kind : BitVec 8) (detail : Word) (s : State) : Out :=
  let k := kind.toNat
  let t := detail.toNat
  .next (
    if !s.zgOn d then s
    else match (s.zg d).obs.find? (fun o => decide (o.subj = m.val ∧ o.kind = k ∧ o.detail = t)) with
    | some o =>
      if o.done ∨ s.ns d < o.due then s
      else
        let s1 := s.updObs d m k t (fun o => { o with done := true })
        if o.seen then s1.addSat d ZGP_CNT ZGP_CNT__CANCEL 1
        else (s1.zgCast d 0x05 (reportPayload m k t)).addSat d ZGP_CNT ZGP_CNT__SENT 1
    | none => s)

/-- REPORT_RETRY: no ACK within 100 ms of the slot; the procedure runs again. -/
def execReportRetry (d : Die) (m : Fin 1024) (kind : BitVec 8) (detail : Word) (s : State) : Out :=
  let k := kind.toNat
  let t := detail.toNat
  .next (
    if !s.zgOn d then s
    else match (s.zg d).obs.find? (fun o => decide (o.subj = m.val ∧ o.kind = k ∧ o.detail = t)) with
    | some o =>
      if !o.done || decide (s.ns d < o.due + 100000000) then s
      else
        let due := s.ns d + 1000 * reportSlot (s.ownId d) (reportPayload m k t)
        s.updObs d m k t (fun o => { o with due := due, seen := false, done := false })
    | none => s)

/-- REPORT: opened or counted by the coordinator, which marks a member of kind 2 SLOW; elsewhere it cancels the own report and is
kept as pending (R680, R682, R683). -/
def execReport (d : Die) (port : Fin 24) (f : ZgFrame) (s : State) : Out :=
  .next (s.zgHear d port f 0x05 (fun s =>
    let b := f.body
    let subj := u16 b 0 % 1024
    let kind := u8 b 2
    let detail := u32 b 4
    let s0 := if kind = 2 then s.updMember d subj (fun x => { x with slowRep := s.ns d }) else s
    let s1 := s0.updObs d subj kind detail (fun o => if o.done then o else { o with seen := true })
    if s1.zgState d = 3 then
      let s2 := s1.openLedger d subj kind detail (zgFrom f) 1
      if kind = 2 ∧ s2.isMem d subj = true ∧ s2.isSlow d subj = false ∧ subj ≠ s2.ownId d then
        (s2.setSlow d subj true).changeView d
      else s2
    else
      let s2 := match s1.openEntry d subj kind detail with
        | some e => s1.updZg d (fun z => { z with led := tset (0, 0) z.led e ((tget (0, 0) z.led e).1, s.ns d) })
        | none => s1.updZg d (fun z => { z with heard := z.heard ++ [(subj, kind, detail, zgFrom f)] })
      s2))

/-- IAMAR_ACK: the mirror takes the entry; a new one is recorded, and the reports of its subject end (R682, R684, R685). -/
def execIamarAck (d : Die) (port : Fin 24) (f : ZgFrame) (s : State) : Out :=
  .next (s.zgHear d port f 0x06 (fun s =>
    let b := f.body
    let e := u16 b 0 % 256
    let w := fun (i : Nat) => BitVec.ofNat 32 (u32 b (4 + 4 * i))
    let subj := ZGP_LEDe__SUBJ.get (w 0)
    let kind := ZGP_LEDe__KIND.get (w 0)
    let detail := (w 1).toNat
    let known := decide (s.openEntry d subj kind detail = some e ∧ s.rd d (ZGP_LEDe e 2) = w 2)
    let s1 := (List.range 4).foldl (fun st i => st.wr d (ZGP_LEDe e i) (w i)) s
    let open_ := s.zg d
    let cut := open_.obs.filter (fun o => decide (o.subj = subj ∧ o.kind = kind ∧ o.detail = detail))
    let s2 := s1.updZg d (fun z => { z with
      obs := z.obs.filter (fun o => !decide (o.subj = subj ∧ o.kind = kind ∧ o.detail = detail)),
      heard := z.heard.filter (fun h => !decide (h.1 = subj ∧ h.2.1 = kind ∧ h.2.2.1 = detail)),
      led := tset (0, 0) z.led e (if known then (tget (0, 0) z.led e).1 else s.ns d, s.ns d) })
    let s3 := if cut.any (fun o => !o.done) then s2.addSat d ZGP_CNT ZGP_CNT__CANCEL 1 else s2
    if known then s3 else s3.entryLearned d e))

/-- LEDGER_CLOSE (R684): an entry of a kind other than 1 and 2, 10 s after its last report. -/
def execLedgerClose (d : Die) (e : Fin 256) (s : State) : Out :=
  let w := s.rd d (ZGP_LEDe e 0)
  let k := ZGP_LEDe__KIND.get w
  .next (if s.zgOn d ∧ ZGP_LEDe__OPEN.get w = 1 ∧ k ≠ 1 ∧ k ≠ 2 ∧ (tget (0, 0) (s.zg d).led e).2 + 10000000000 ≤ s.ns d then
      s.setF d (ZGP_LEDe e 0) ZGP_LEDe__OPEN 0
    else s)

/-! ### ZGP_CMD (R696) -/

/-- ZGP_REPORT: the subject of ZGP_RBUF observed (R682). -/
def execZgpReport (d : Die) (who : Initiator) (confirm tag : BitVec 8) (s : State) : Out :=
  .next (s.zgCmd d who confirm tag (fun s =>
    let kind := s.fld d ZGP_RBUF0 ZGP_RBUF0__KIND
    if s.zgOn d ∧ (s.zgState d = 2 ∨ s.zgState d = 3) ∧ 0x10 ≤ kind then
      (s.observe d (s.fld d ZGP_RBUF0 ZGP_RBUF0__SUBJ) kind (s.rd d ZGP_RBUF1).toNat, 1)
    else (s, 2)))

/-- ZGP_LEAVE: LEAVE with reason 2, and no heartbeats until ZGP_REJOIN (R676). -/
def execZgpLeave (d : Die) (who : Initiator) (confirm tag : BitVec 8) (s : State) : Out :=
  .next (s.zgCmd d who confirm tag (fun s =>
    let st := s.zgState d
    if s.zgOn d ∧ st ≠ 6 ∧ st ≠ 7 then
      let s1 := s.zgSend 0x0C (s.zg d).addr (toLE 1 2 ++ toLE 7 0)
      ((s1.outOfView 0 7).outOfView 1 7, 3)
    else (s, 2)))

/-- ZGP_REJOIN: a module that has left joins again (R676). -/
def execZgpRejoin (d : Die) (who : Initiator) (confirm tag : BitVec 8) (s : State) : Out :=
  .next (s.zgCmd d who confirm tag (fun s =>
    if s.zgOn d ∧ s.zgState d = 7 then
      let back := fun (st : State) (e : Die) => if st.zgState e = 7 then (st.setF e ZGP_STAT ZGP_STAT__STATE 1).updZg e (fun z =>
        { z with anyView := st.ns e }) else st
      (back (back s 0) 1, 3)
    else (s, 2)))

/-- ZGP_RELEASE: a taker that holds the partition stops it, publishes it to the home and multicasts the release (R688). -/
def execZgpRelease (d : Die) (who : Initiator) (confirm tag : BitVec 8) (p : Fin 32) (s : State) : Out :=
  .next (s.zgCmd d who confirm tag (fun s =>
    match s.roamOf d p with
    | some r =>
      if s.zgOn d ∧ s.fld d (ZGP_RpSTAT p) ZGP_RpSTAT__STATE = 1 then
        let key := roamKey r.home r.part
        let snap := ((s.rd d (ZGP_RpSNAP p)).toNat + 1) % 2 ^ 32
        let s1 := s.stopRoam d p 0 r.home
        let s2 := (s1.setBoth (ZGP_RpSNAP p) whole snap).setRoam d.other p 0 r.home
        let s3 := if r.home = s.ownId d then s2 else s2.sendRegion d r snap r.home
        let s4 := s3.updZgBoth (fun z => { z with
          grants := tset none z.grants key none, released := key :: z.released.filter (fun k => k ≠ key) })
        (s4.zgSend 0x0A (s4.zg d).addr
          (toLE 1 2 ++ toLE 1 r.part ++ toLE 2 r.home ++ toLE 2 (s4.ownId d) ++ toLE 2 0 ++ toLE 4 snap), 3)
      else (s, 2)
    | none => (s, 2)))

/-! ### Roaming (R687, R688) -/

/-- PUBLISH: a released ZGP_RpPUB write with GO. The region goes to every other member of the view, of which each taker keeps it. -/
def execPublish (d : Die) (who : Initiator) (confirm tag : BitVec 8) (p : Fin 32) (s : State) : Out :=
  .next (
    if !(s.alive d && decide (who = .part p) && decide (confirm = 0x9A#8) && s.tagNew d 1 who tag.toNat) then s
    else
      let s0 := s.tagNote d 1 who tag.toNat
      match s0.roamOf d p with
      | some r =>
        if s0.zgOn d ∧ s0.fld d (ZGP_RpSTAT p) ZGP_RpSTAT__ROLE = 1 ∧ s0.fld d (ZGP_RpSTAT p) ZGP_RpSTAT__STATE = 1 then
          let snap := ((s0.rd d (ZGP_RpSNAP p)).toNat + 1) % 2 ^ 32
          let s1 := s0.setBoth (ZGP_RpSNAP p) whole snap
          ((s1.memList d).filter (fun m => m ≠ s1.ownId d)).foldl (fun st m => st.sendRegion d r snap m) s1
        else s0
      | none => s0)

/-- ROAMSTATE: a taker, or the home of a released partition, keeps the pieces; a complete snapshot goes to the state region and is
announced, an incomplete one is discarded when another begins (R687). -/
def execRoamstate (d : Die) (port : Fin 24) (f : ZgFrame) (s : State) : Out :=
  .next (s.zgHear d port f 0x09 (fun s =>
    let b := f.body
    let m := zgFrom f
    let own := s.ownId d
    let hp := u8 b 0
    let snap := u32 b 4
    let off := u32 b 8
    let mine := (List.range 32).find? (fun p => match s.roamOf d p with
      | some r =>
        decide (s.fld d (ZGP_RpSTAT p) ZGP_RpSTAT__STATE ≠ 1 ∧ r.part = hp) &&
          (if s.fld d (ZGP_RpSTAT p) ZGP_RpSTAT__ROLE = 2 then decide (r.home = m)
           else decide (tget none (s.zg d).grants (roamKey own hp) = some m ∨ (s.zg d).released.contains (roamKey own hp) = true))
      | none => false)
    match mine with
    | none => s
    | some p =>
      match s.roamOf d p with
      | none => s
      | some r =>
        if r.size < off + (b.length - 12) ∨ off % 1024 ≠ 0 then s
        else
          let old := match tget none (s.zg d).arriving p with
            | some a => if a.snap = snap then a.parts else []
            | none => []
          let parts := tset [] old off (b.drop 12)
          let whole_ := (List.range (r.size / 1024)).all (fun i => decide ((tget [] parts (1024 * i)).length = 1024))
          if !whole_ then s.updZg d (fun z => { z with arriving := tset none z.arriving p (some ⟨snap, parts⟩) })
          else
            let s1 := s.updZg d (fun z => { z with arriving := tset none z.arriving p none })
            let s2 := parts.foldl (fun st e => st.dmaPut d (r.base + e.1) e.2) s1
            let key := roamKey r.home r.part
            let s3 := (s2.wr d (ZGP_RpSNAP p) (BitVec.ofNat 32 snap)).updZg d (fun z => { z with
              holders := tset [] z.holders key (own :: (tget [] z.holders key).filter (fun k => k ≠ own)) })
            s3.zgCast d 0x0A (toLE 1 3 ++ toLE 1 r.part ++ toLE 2 r.home ++ toLE 2 own ++ toLE 2 0 ++ toLE 4 snap)))

/-- ROAM: a grant, a release or a snapshot notice (R687, R688). -/
def execRoam (d : Die) (port : Fin 24) (f : ZgFrame) (s : State) : Out :=
  .next (s.zgHear d port f 0x0A (fun s =>
    let b := f.body
    let key := roamKey (u16 b 2 % 1024) (u8 b 1 % 32)
    let holder := u16 b 4 % 1024
    match u8 b 0 with
    | 1 => if zgFrom f = s.zgCoord d then s.applyGrant d key holder else s
    | 2 =>
      let s1 := s.updZg d (fun z => { z with
        grants := tset none z.grants key none, released := key :: z.released.filter (fun k => k ≠ key) })
      if (List.range 32).any (fun p => match s.roamOf d p with
        | some r => decide (roamKey r.home r.part = key)
        | none => false) then s1.setF d ZGP_EVT ZGP_EVT__ROAM 1 else s1
    | 3 => s.updZg d (fun z => { z with
        holders := tset [] z.holders key (holder :: (tget [] z.holders key).filter (fun k => k ≠ holder)) })
    | _ => s))

/-- ROAMING_GRANT: 150 ms after the last heartbeat of the module that runs the partition, at once when it has left, or to the home
or a taker after a release (R688). The command names the taker of lowest rank. -/
def execRoamingGrant (d : Die) (home : Fin 1024) (part : Fin 32) (taker : Fin 1024) (s : State) : Out :=
  let key := roamKey home part
  let z := s.zg d
  let runs := (tget none z.grants key).getD home.val
  let x := s.zgMember d runs
  let gone := x.left || (!s.isMem d runs && (match x.heard with
    | some t => decide (t + 150000000 ≤ s.ns d)
    | none => true))
  let free := z.released.contains key || (decide (runs ≠ s.ownId d) && gone)
  let ready := s.isMem d taker &&
    (if z.released.contains key && s.isMem d home then decide (taker = home)
     else !s.isSlow d taker && (tget [] z.holders key).contains taker.val)
  .next (if s.zgOn d && decide (s.zgState d = 3) && free && ready then
      (s.applyGrant d key taker).zgCast d 0x0A
        (toLE 1 1 ++ toLE 1 part.val ++ toLE 2 home.val ++ toLE 2 taker.val ++ toLE 2 0 ++ toLE 4 0)
    else s)

/-! ### Remote accesses (R689 to R694) -/

/-- REMREQ: served by the unit of the die that holds token 8, after a reservation of another requester has ended (R691, R693). -/
def execRemreq (d : Die) (port : Fin 24) (f : ZgFrame) (s : State) : Out :=
  .next (s.zgHear d port f 0x07 (fun s =>
    if d ≠ s.holder 8 then s
    else if s.reqWaits d f then s.updZg d (fun z => { z with waits := z.waits ++ [f] })
    else
      let s1 := s.serveReq d f
      s1.serveWaits d (s1.zg d).waits.length))

/-- REMOTE_ACCESS: an access to a peer window becomes a request (R689, R690, R694). -/
def execRemoteAccess (d : Die) (who : Initiator) (addr : BitVec 40) (size : Fin 9) (op : Fin 8) (fn : BitVec 8) (data seq : Word)
    (s : State) : Out :=
  let a := addr.toNat
  let m := peerOf a
  .next (
    if !s.alive d then s
    else if !(isPeer a && s.bridgeMapped d a && decide (size.val = 4 ∧ a % 4 = 0 ∧ 1 ≤ op.val ∧ op.val ≤ 5) && who.isManager) then
      s.remReply op size
    else if !s.zgOn d || !s.isMem d m || decide (s.zgState d ≠ 2 ∧ s.zgState d ≠ 3) then s.remFail d m op 1
    else
      let z := s.zg d
      let part := match who with
        | .part p => p.val
        | _ => 0xFF
      let q : ZgReq := ⟨z.nextTag * 2 % 2 ^ 16 + d.val, m, who, op.val, fn.toNat, peerOff a, data.toNat, part, seq.toNat, none⟩
      let s1 := s.updZg d (fun z => { z with reqs := z.reqs ++ [q], nextTag := (z.nextTag + 1) % 2 ^ 15 })
      s1.sendReqs d m 1)

/-- REMRSP: the request of its tag completes (R692 to R694). A lost reservation is counted and recorded by each Q-die. -/
def execRemrsp (d : Die) (port : Fin 24) (f : ZgFrame) (s : State) : Out :=
  .next (s.zgHear d port f 0x08 (fun s =>
    let b := f.body
    match (s.zg d).reqs.find? (fun q => decide (q.tag = u16 b 0 ∧ q.member = zgFrom f) && q.sent.isSome) with
    | some q =>
      let s1 := s.updZg d (fun z => { z with reqs := z.reqs.erase q })
      let s2 := match u8 b 2 with
        | 0 => if q.op = 2 then s1 else s1.reply (.value (u32 b 8))
        | 1 => s1.remFail d q.member q.op 3
        | 3 =>
          let s3 := ((s1.remErr 0 q.member 5).remErr 1 q.member 5).recordBoth 0x1200 0x15 (0x1000 + q.member) 0 0
          if q.op = 4 then s3.reply (.value 1) else if q.op = 2 then s3 else s3.reply (.errorBytes (List.replicate 4 0xFF#8))
        | _ => s1.remFail d q.member q.op 4
      s2.sendReqs d q.member 8
    | none => s))

/-- REMOTE_TIMEOUT: no answer within 1 ms ±10 %; the requester observes kind 4 (R694). -/
def execRemoteTimeout (d : Die) (tag : BitVec 16) (s : State) : Out :=
  .next (
    match (s.zg d).reqs.find? (fun q => decide (q.tag = tag.toNat) && (match q.sent with
      | some t => decide (t + 900000 ≤ s.ns d)
      | none => false)) with
    | some q =>
      let s1 := (s.updZg d (fun z => { z with reqs := z.reqs.erase q })).remFail d q.member q.op 2
      (s1.observe d q.member 0x04 0).sendReqs d q.member 8
    | none => s)

/-- REMOTE_LOCK_TIMEOUT: a reservation held 50 µs ±5 % is released by force; its holder's next access fails (R693). -/
def execRemoteLockTimeout (d : Die) (inst : BitVec 16) (s : State) : Out :=
  .next (
    match (s.zg d).locks.find? (fun l => decide (l.inst = inst.toNat ∧ l.since + 47500 ≤ s.ns d)) with
    | some l =>
      let s1 := (s.endLock l.inst).updZgBoth (fun z => { z with
        forced := (l.member, l.inst) :: z.forced.filter (fun x => x ≠ (l.member, l.inst)) })
      s1.serveWaits (s1.holder 8) (s1.zg (s1.holder 8)).waits.length
    | none => s)

end Sys2Proof.Machine
end

