-- ==== Sys2Proof/Machine/UpdateOps.lean ====
section
/-! DEFINITION. Field update: what the loader and the update commands share (spec/19): the journal (R704), the staged package
(R698 to R703), changes of phase (R704, R705), and the UPDATE messages (R722, R723). -/

namespace Sys2Proof.Machine

/-! ### The update journal (R704) -/

/-- What one copy of the journal says. -/
structure UpdJournal where
  seq : Nat := 0
  phase : Nat := 0
  chunks : Nat := 0
  pkg : Nat := 0
  blocks : Nat := 0
  old : List Byte := List.replicate 48 0#8
  new : List Byte := List.replicate 48 0#8
  time : Nat := 0
  deriving DecidableEq, Repr

/-- Where copy 0 (A) and copy 1 (B) of the journal lie. -/
def journalBase (c : Nat) : Nat := 0x10040000 + 0x800 * c

/-- The bytes of a journal copy, its CRC last. -/
def UpdJournal.bytes (j : UpdJournal) : List Byte :=
  let b := ascii4 0x55 0x50 0x44 0x4A ++ toLE 4 j.seq ++ toLE 1 j.phase ++ toLE 3 0 ++ toLE 4 j.chunks ++ toLE 8 j.pkg ++
    toLE 4 j.blocks ++ toLE 4 0 ++ j.old ++ j.new ++ toLE 8 j.time ++ toLE 4 0
  b ++ toLE 4 (crc32 b)

/-- A journal copy read from its bytes; none where the magic or the CRC fails. -/
def journalOf (b : List Byte) : Option UpdJournal :=
  if u32 b 0 = 0x4A445055 ∧ u32 b 0x8C = crc32 (b.take 0x8C) then
    some { seq := u32 b 4, phase := u8 b 8, chunks := u32 b 12, pkg := u64 b 16, blocks := u32 b 24, old := slice b 0x20 48,
           new := slice b 0x50 48, time := u64 b 0x80 }
  else none

/-- The journal in force on a die and the copy it stands in: the valid copy with the higher sequence. -/
def State.journalIn (s : State) (d : Die) : Nat × UpdJournal :=
  match journalOf (s.bytesAt d (journalBase 0) 0x90), journalOf (s.bytesAt d (journalBase 1) 0x90) with
  | some a, some b => if a.seq < b.seq then (1, b) else (0, a)
  | some a, none => (0, a)
  | none, some b => (1, b)
  | none, none => (1, {})

/-- The journal in force on a die. -/
def State.journal (s : State) (d : Die) : UpdJournal := (s.journalIn d).2

/-- A journal written to the copy that is not in force, its sequence raised by 1. -/
def State.putJournal (s : State) (d : Die) (f : UpdJournal → UpdJournal) : State :=
  let e := s.journalIn d
  s.putBytes d (journalBase (1 - e.1)) { f e.2 with seq := e.2.seq + 1 }.bytes

/-! ### The staged package (R698 to R703) -/

/-- Where the staged manifest, the bitmap and the loader copy area lie in MRAM. -/
def manBase : Nat := 0x10041000
def mapBase : Nat := 0x10043000
def copyBase : Nat := 0x10050000

/-- The staged manifest and its fields. -/
def State.manifest (s : State) (d : Die) : List Byte := s.bytesAt d manBase manLen
def manPkg (m : List Byte) : Nat := u64 m 8
def manFrom (m : List Byte) : List Byte := slice m 0x10 48
def manRoot (m : List Byte) : List Byte := slice m 0x40 48
def manLdr (m : List Byte) : Nat := u32 m 0x70
def manDuct (m : List Byte) : Nat := u32 m 0x74
def manChunks (m : List Byte) : Nat := u32 m 0x78
def manSecver (m : List Byte) : Nat := u32 m 0x7C
def manNew (m : List Byte) : List Byte := slice m 0x88 48

/-- The number of loader chunks; the Ductus chunks follow. -/
def manLdrChunks (m : List Byte) : Nat := (manLdr m + 4095) / 4096

/-- Whether a chunk is staged on a die, and its bit set or cleared. -/
def State.hasChunk (s : State) (d : Die) (i : Nat) : Bool := bitOf (s.byteAt d (mapBase + i / 8)).toNat (i % 8)
def State.markChunk (s : State) (d : Die) (i : Nat) (b : Bool) : State :=
  s.putByte d (mapBase + i / 8) (BitVec.ofNat 8 (withBit (s.byteAt d (mapBase + i / 8)).toNat (i % 8) b))

/-- The bitmap of a die cleared. -/
def State.clearMap (s : State) (d : Die) : State := s.putBytes d mapBase (List.replicate 520 0#8)

/-- Where chunk `i` lies in a die's bulk store, and a staged chunk. -/
def chunkKey (d : Die) (i : Nat) : Nat := bulkUpd d (0x10000 + 0x1000 * i)
def State.chunk (s : State) (d : Die) (i : Nat) : List Byte := s.bulkBytes (chunkKey d i) 4096

/-- The staged images of a die: loader and Ductus. -/
def State.stagedLoader (s : State) (d : Die) : List Byte := s.bulkBytes (chunkKey d 0) (manLdr (s.manifest d))
def State.stagedDuctus (s : State) (d : Die) : List Byte :=
  s.bulkBytes (chunkKey d (manLdrChunks (s.manifest d))) (manDuct (s.manifest d))

/-- The registers that show the staged package on a die: nothing in IDLE. -/
def State.showStaging (s : State) (d : Die) : State :=
  let m := s.manifest d
  let idle : Bool := decide (s.fld d UPD_STAT UPD_STAT__PHASE = 0)
  let n := if idle then 0 else manChunks m
  let count := fun (e : Die) => ((List.range n).filter (fun i => s.hasChunk e i)).length
  let miss := (List.range n).find? (fun i => !(s.hasChunk 0 i && s.hasChunk 1 i))
  let s1 := s.wr64 d UPD_PKGL UPD_PKGH (if idle then 0 else manPkg m)
  let s2 := (s1.wr d UPD_CHUNKS (BitVec.ofNat 32 n)).wr d UPD_STAGED (BitVec.ofNat 32 (count d + 2 ^ 16 * count d.other))
  s2.wr d UPD_MISS (match miss with
    | some i => BitVec.ofNat 32 i
    | none => 0x80000000#32)

/-- The staging shown on both dies, where they run. -/
def State.showStagings (s : State) : State :=
  let s1 := if s.alive 0 then s.showStaging 0 else s
  if s1.alive 1 then s1.showStaging 1 else s1

/-! ### The Merkle tree (R700) -/

/-- SHA-384 as bytes. -/
def hash48 (l : List Byte) : List Byte := toBE 48 (Config.sha384 l).toNat

/-- The hash of a leaf, and of two nodes. -/
def leafHash (i : Nat) (c : List Byte) : List Byte := hash48 (0#8 :: toLE 4 i ++ c)
def nodeHash (a b : List Byte) : List Byte := hash48 (1#8 :: a ++ b)

/-- The walk of a proof: the node so far, its index, the width of its level; answers the node reached and what is left of the
proof, none where the proof is too short. -/
def proofWalk : Nat → List Byte → Nat → Nat → List (List Byte) → Option (List Byte × List (List Byte))
  | 0, h, _, _, p => some (h, p)
  | f + 1, h, k, m, p =>
    if m ≤ 1 then some (h, p)
    else if k % 2 = 1 then
      match p with
      | q :: r => proofWalk f (nodeHash q h) (k / 2) ((m + 1) / 2) r
      | [] => none
    else if k + 1 < m then
      match p with
      | q :: r => proofWalk f (nodeHash h q) (k / 2) ((m + 1) / 2) r
      | [] => none
    else proofWalk f h (k / 2) ((m + 1) / 2) p

/-- Whether a proof shows a chunk to be chunk `i` of `n` under a root. -/
def proofOk (root : List Byte) (n i : Nat) (c : List Byte) (proof : List (List Byte)) : Bool :=
  match proofWalk 14 (leafHash i c) i n proof with
  | some (h, r) => decide (h = root ∧ r = [])
  | none => false

/-- One level of the tree from the level below. -/
def levelUp : List (List Byte) → List (List Byte)
  | a :: b :: l => nodeHash a b :: levelUp l
  | l => l

/-- The root over the leaves. -/
def rootOf : Nat → List (List Byte) → List Byte
  | 0, l => l.headD []
  | f + 1, l => if l.length ≤ 1 then l.headD [] else rootOf f (levelUp l)

/-- The root over a die's staged chunks. -/
def State.stagedRoot (s : State) (d : Die) : List Byte :=
  rootOf 14 ((List.range (manChunks (s.manifest d))).map (fun i => leafHash i (s.chunk d i)))

/-! ### Phases (R704, R705) -/

/-- The phase of the journal shown on a die, with the die in work and the counts. -/
def State.showJournal (s : State) (d : Die) : State :=
  let j := s.journal d
  let s1 := (s.setF d UPD_STAT UPD_STAT__PHASE j.phase).setF d UPD_STAT UPD_STAT__INWORK (b2n (decide (j.phase = 4 ∨ j.phase = 5)))
  (s1.wr d UPD_CURSOR (BitVec.ofNat 32 (j.chunks + 2 ^ 16 * j.blocks))).showStaging d

/-- A phase change on one die: its journal, its registers, its fault record (R704). Where the phase stays, only the journal and what it
shows change. -/
def State.phaseOn (s : State) (d : Die) (old new : Nat) (f : UpdJournal → UpdJournal) : State :=
  if !s.alive d then s
  else
    let s1 := (s.putJournal d (fun j => { f j with phase := new, time := if old = new then j.time else s.ns d })).showJournal d
    if old = new then s1
    else (s1.setF d UPD_EVT UPD_EVT__PHASE 1).record d 0x0F00 0x12 ((s1.journal d).pkg % 2 ^ 32) 0 (old + 256 * new)

/-- A phase change of the module. -/
def State.setPhaseWith (s : State) (new : Nat) (f : UpdJournal → UpdJournal) : State :=
  let old := s.updPhase
  (s.phaseOn 0 old new f).phaseOn 1 old new f

def State.setPhase (s : State) (new : Nat) : State := s.setPhaseWith new (fun j => j)

/-- The journal with the higher sequence stands on both dies (R704). -/
def State.syncJournals (s : State) : State :=
  if !(s.linkUp && (s.vol.get 0).boot.loaderOk && (s.vol.get 1).boot.loaderOk) then s
  else
    let a := s.journal 0
    let b := s.journal 1
    let put := fun (d : Die) (j : UpdJournal) => (s.putBytes d (journalBase (1 - (s.journalIn d).1)) j.bytes).showJournal d
    if a.seq < b.seq then put 0 b else if b.seq < a.seq then put 1 a else s

/-! ### Results and updates of the registers -/

/-- A bit of UPD_EVT set on both dies. -/
def State.updEvt (s : State) (f : Fld) : State := s.setAlive UPD_EVT f 1

/-- The result of an update command, shown on both dies (R725). -/
def State.updResult (s : State) (result reason code : Nat) : State :=
  ((s.setAlive UPD_CMDRES UPD_CMDRES__RESULT result).setAlive UPD_CMDRES UPD_CMDRES__REASON reason).setAlive UPD_CMDRES
    UPD_CMDRES__CODE code

/-- INSTALL or CUTOVER refused. -/
def State.updRefuse (s : State) (reason : Nat) : State := (s.updResult 2 reason 0).updEvt UPD_EVT__REFUSED

/-- The group state (UPD_STAT.GRP) set on both dies. -/
def State.setGrp (s : State) (g : Nat) : State := s.setAlive UPD_STAT UPD_STAT__GRP g

/-! ### UPDATE messages (R722, R723) -/

/-- The body of an UPDATE message. -/
def updBody (op reason m epoch pkg : Nat) : List Byte :=
  toLE 1 op ++ toLE 1 reason ++ toLE 2 m ++ toLE 2 epoch ++ toLE 2 0 ++ toLE 8 pkg ++ toLE 8 0

/-- An UPDATE message about this module's own update, from the unit that sends. -/
def State.sendUpdate (s : State) (op : Nat) : State :=
  let h := s.holder 8
  let m := s.manifest h
  s.zgSend 0x0B (s.zg h).addr (updBody op 0 (s.ownId h) (u16 m 0x82) (manPkg m))

/-- The holder's last message, at DONE and on return to READY: the grant lapses with it. -/
def State.sendDone (s : State) : State :=
  if s.fld s.anyDie UPD_STAT UPD_STAT__GRP ≠ 2 then s
  else
    let own := s.ownId s.anyDie
    let drop := fun (st : State) (d : Die) => st.updUpd d (fun u => { u with holder := if u.holder = some own then none else u.holder })
    (drop (drop (s.sendUpdate 5) 0) 1).setGrp 0

/-- The return to READY with a REASON (R709). -/
def State.backToReady (s : State) (reason : Nat) : State := ((s.setPhase 2).updRefuse reason).sendDone

/-! ### J regions in the split (R713) -/

/-- Every J region of Q-die 0's partitions copied to Q-die 1, where Q-die 0 runs sealed and the link is up. -/
def State.copyJ (s : State) : State :=
  if s.linkUp && s.alive 0 && s.alive 1 && s.isSealed 0 then
    ((s.jRanges 0 (List.range 32)).foldl (fun t r => t.copyRange 0 1 r.1 r.2) (s.plNotice 0 0 17 0)).updUpd 0 (fun u => { u with copied := true })
  else s

/-- SPLIT entered (R711, R713). -/
def State.enterSplit (s : State) : State := (if s.updPhase = 6 then s else s.setPhase 6).copyJ

/-- ABORTING entered: Q-die 1 is reset with cause 0x15 to receive the old image (R720). -/
def State.enterAbort (s : State) : State := (s.setPhase 0xB).dieReset 1 0x15 0

/-- What both dies sealed with one image means for the update (R719, R720). -/
def State.updateSealed (s : State) : State :=
  if !(s.alive 0 && s.alive 1 && s.isSealed 0 && s.isSealed 1) then s
  else if s.updPhase = 9 then
    let m := s.manifest 0
    let s1 := (s.setPhase 0xA).updEvt UPD_EVT__DONE
    let s2 := if bitOf (u16 m 6) 1 then { s1 with fuse := max s1.fuse (manSecver m) } else s1
    s2.sendDone
  else if s.updPhase = 0xB then ((s.setPhase 2).updEvt UPD_EVT__ABORTED).sendDone
  else s

end Sys2Proof.Machine
end

