-- ==== Sys2Proof/Machine/Loader.lean ====
section
/-! DEFINITION. Boot ROM and loader (spec/02, spec/03): release, verification, the choice of the copy, the defaults of step 1 and
2, seal-ready and the seal. -/

namespace Sys2Proof.Machine

/-- The boot state of a die, and a change of it. -/
def State.boot (s : State) (d : Die) : BootSt := (s.vol.get d).boot
def State.updBoot (s : State) (d : Die) (f : BootSt → BootSt) : State := s.updVol d (fun v => { v with boot := f v.boot })

/-! ### Straps (R68) -/

/-- STRAP_SAMPLE: one of eight samples; the last fixes the value, or a strap fault where a pin's samples differ. -/
def execStrapSample (pins : BitVec 3) (s : State) : Out :=
  .next (
    if !s.cis.powered || !s.cis.resetN || decide (8 ≤ s.cis.straps.length) then s
    else
      let l := s.cis.straps ++ [pins]
      let s1 := s.updCis (fun c => { c with straps := l })
      if l.length < 8 then s1
      else s1.updCis (fun c => { c with strapFault := l.any (fun p => decide (p ≠ pins)), strapValue := pins.toNat }))

/-! ### Release (R97 to R101) -/

/-- The start of a die's group time (R481, R482): the partner's while that runs, else the RTC's less the drift it may have gathered:
20 ppm of the time since it was set, and 1 ms. RTC in units of 2^-15 s. -/
def State.startTime (s : State) (d : Die) : State :=
  if s.alive d.other && s.isSealed d.other then
    ({ s with now := s.now.set d (s.now.get d.other) }).setF d TIM_STAT TIM_STAT__STATE
      (if s.fld d.other TIM_STAT TIM_STAT__STATE = 0 then 0 else 1)
  else
    let ns := s.rtc * 1000000000 / 32768
    let since := (s.rtc - s.cis.rtcSetAt) * 1000000000 / 32768
    { s with now := s.now.set d ((ns - (since * 20 / 1000000 + 1000000)) * 2 ^ 32) }

/-- The die that runs alone has every token and drives every steered path (R40, R42). -/
def State.standAlone (s : State) (d : Die) : State :=
  (if s.isSealed d then s.moveAll d else s.grantAll d).takePaths d.other

/-- The tokens at a release: none stays with a die that cannot run (R40); Q-die 1 keeps or takes all of them while Q-die 0 is to be
written or booted (R718, R721). -/
def State.bootTokens (s : State) (d : Die) : State :=
  let s1 := if s.canRelease d.other then s else s.standAlone d
  if s1.updPhase = 8 ∨ s1.updPhase = 9 then
    (if s1.alive 1 then (if s1.isSealed 1 then s1.moveAll 1 else s1.grantAll 1) else s1)
  else s1

/-- What a boot makes of the phase in force (R721): PREP1 returns to READY and CUTOVER to SPLIT, unless the partner went on. -/
def State.resumePhase (s : State) (d : Die) : State :=
  let p := (s.journal d).phase
  let s1 := s.showJournal d
  if s.isSealed d.other && s.alive d.other then s1
  else if p = 3 then s1.phaseOn d 3 2 (fun j => j)
  else if p = 7 then s1.phaseOn d 7 6 (fun j => j)
  else s1

/-- The loader entered: measured first (R97 step 5), with what a boot makes of the vault (R760), the boot nonce (R763), a zeroise
latch (R771), the persistent summary (R735), errands refused while no die ran (R658) and the update journal (R704). -/
def State.enterLoader (s : State) (d : Die) : State :=
  let s1 := (s.extendBmr d (s.bytesAt d ldrBase 256)).updBoot d (fun b => { b with loaderOk := true })
  let s2 := if (Config.pufKey d).isSome then s1.setF d SEC_STAT SEC_STAT__VAULT 1 else s1.recordBoth 0x1100 0x08 2 0 0
  let partner := s2.alive d.other && (s2.boot d.other).loaderOk
  let q := s2.draw d
  let s3 := if partner then s2.updKeep d (fun k => { k with bootNonce := (s2.keep.get d.other).bootNonce })
    else if d = 0 then q.2.updKeep 0 (fun k => { k with bootNonce := BitVec.ofNat 256 (leBytes q.1 0 32) }) else s2
  let s4 := (((s3.eraseKeys d).loadSummary d).reportErrands d).resumePhase d
  ((s4.bootTokens d).updUpd d.other (fun u => { u with relAt := s4.ns d.other })).syncJournals

/-- The copy of the loader that a power loss interrupted, completed before the loader is verified (R710). -/
def State.finishCopy (s : State) (d : Die) : State :=
  let j := s.journal d
  if ((j.phase = 4 ∧ d = 1) ∨ (j.phase = 8 ∧ d = 0)) ∧ 1 ≤ j.blocks ∧ j.blocks < 64 then
    (s.putBytes d (ldrBase + 4096 * j.blocks) (s.bytesAt d (copyBase + 4096 * j.blocks) (ldrSize - 4096 * j.blocks))).putJournal d
      (fun j => { j with blocks := 64 })
  else s

/-- Q_DIE_RELEASE (R97 to R101): the boot ROM's own check, pair-link training, the loader verified, measured and entered; a die
whose check fails, or whose loader does, stays in ROM recovery. -/
def execQDieRelease (d : Die) (selfOk : Bool) (s : State) : Out :=
  .next (
    let k := s.keep.get d
    if !(decide (k.run = .held) && k.supplied && s.cis.powered && s.cis.resetN && !k.glitchStuck) then s
    else
      let joins := s.alive d.other && s.isSealed d.other
      let s0 := ((s.updKeep d (fun k => { k with run := .running, dramRefresh := false })).startTime d).updCis (fun c => { c with
        resetting := false })
      let s1 := s0.updBoot d (fun b => { b with joins := joins })
      if !selfOk then
        let s2 := s1.setF d CIS_BOOT CIS_BOOT__LCODE 0x10
        if s2.canRelease d.other then s2.standAlone d.other else s2
      else
        let s2 := s1.updBoot d (fun b => { b with romOk := true })
        let s3 := s2.setF d ISL_PLSTAT ISL_PLSTAT__STATE 1
        let s4 := if s3.alive d.other && (s3.boot d.other).romOk then s3.setF d.other ISL_PLSTAT ISL_PLSTAT__STATE 1 else s3
        let scope := s4.fld d DBG_STAT DBG_STAT__SCOPE
        let s5 := if 1 ≤ scope then s4.extendBmr d (ascii4 0x44 0x42 0x47 0x53 ++ toLE 4 scope) else s4
        let s6 := s5.finishCopy d
        let code := s6.loaderCode d
        let s7 := s6.setF d CIS_BOOT CIS_BOOT__LCODE code
        if code = 0 then s7.enterLoader d else s7)

/-- LOADER_DONATION (R100): the partner sends its loader region in class 0 (R31). -/
def execLoaderDonation (d : Die) (s : State) : Out :=
  .next (
    let code := s.fld d CIS_BOOT CIS_BOOT__LCODE
    if !(s.alive d && s.alive d.other && s.linkFlows && s.classZero d.other && (s.boot d).romOk && !(s.boot d).loaderOk &&
        decide (code ≠ 0) && decide (s.loaderCode d.other = 0)) then s
    else
      let s1 := (s.plNotice d.other 0 13 0).putBytes d ldrBase (s.bytesAt d.other ldrBase ldrSize)
      let again := s1.loaderCode d
      let s2 := s1.setF d CIS_BOOT CIS_BOOT__LCODE again
      if again = 0 then (s2.setF d CIS_BOOT CIS_BOOT__LDON 1).enterLoader d else s2)

/-- Whether the dies train the link for the first time since it went down: both boot ROMs run, and no lane is in lock. -/
def State.training (s : State) : Bool :=
  let there := fun (d : Die) => s.alive d && (s.boot d).romOk && decide (s.fld d ISL_PLSTAT ISL_PLSTAT__STATE = 1)
  there 0 && there 1 && !s.retraining

/-- PAIR_LINK_UP (R29, R81): training ends on all eight lanes. -/
def execPairLinkUp (s : State) : Out :=
  .next (
    if s.training then
      ((s.setBoth ISL_PLSTAT ISL_PLSTAT__STATE 2).setBoth ISL_PLSTAT ISL_PLSTAT__LANEOK 0xFF).syncJournals
    else s)

/-! ### Verification and the choice of the copy (R60 to R63, R705) -/

/-- Whether the loader of a die writes its images in the phase in force, and boots nothing (R709, R718). -/
def State.writing (s : State) (d : Die) : Bool :=
  let p := (s.journal d).phase
  decide ((p = 4 ∧ d = 1) ∨ (p = 8 ∧ d = 0))

/-- DUCTUS_VERIFY (R60, R70): a valid header is measured. -/
def execDuctusVerify (d : Die) (s : State) : Out :=
  .next (
    if !(s.alive d && (s.boot d).loaderOk && decide (s.dstate d = 0) && !s.writing d) then s
    else
      let r := s.verifyOwn d
      let s1 := ((s.setF d UPD_DSTAT UPD_DSTAT__STATE 1).setF d UPD_DSTAT UPD_DSTAT__CODE r.code).updBoot d (fun b => { b with
        own := some r })
      if r.code = 0 then s1.extendBmr d (s1.bytesAt d imgBase 256) else s1)

/-- The records of undefined ranges judged in image order (R58, R64): a critical one aborts boot before any record is applied. -/
def State.judgeUndefined (s : State) (d : Die) (l : List Rec) : State :=
  l.foldl (fun st r => if st.dstate d = 2 ∧ (r.range = 0 ∨ 16 ≤ r.range) then st.recordFails d r 0x0C else st) s

/-- The clock of an island without a record (R19, R22). -/
def islandClock (n : Nat) : Nat :=
  if n = 0 then 200 else if n < 4 then 2200 else if n < 12 then 400 else
  match n with | 12 => 625 | 13 => 312 | 14 => 500 | 15 => 160 | 16 => 800 | _ => 400

/-- The defaults of the blocks before any record of theirs applies: clock generators of the islands (R22), switch dies (R195, R207), switch core,
time, duplexes, update policy (R726). -/
def State.blockDefaults (s : State) (d : Die) : State :=
  let s1 := (List.range 18).foldl (fun st n => (st.setF d (ISL_CLKn n) ISL_CLKn__FREQ (islandClock n)).setF d (ISL_CLKn n)
    ISL_CLKn__LOCK 1) s
  let s2 := (List.range 19).foldl (fun st sd =>
    (List.range (sdChans sd)).foldl (fun st k =>
      (st.setF d (PWR_CHkFS sd k) PWR_CHkFS__THRESH 50).setF d (PWR_CHkFS sd k) PWR_CHkFS__TRIP (sdAmps sd))
      ((st.setF d (PWR_DCCFG sd) PWR_DCCFG__CLUSTER (sd % 8)).setF d (PWR_DCCFG sd) PWR_DCCFG__WDOG 2)) s1
  ((((s2.swcDefaults d).timeDefaults d).duxDefaults d).wr d UPD_LIM (BitVec.ofNat 32 (50 + 2 ^ 16 * 3600))).showProt d

/-- A die goes on with its own valid copy: the report registers (R69), the records of undefined ranges, the defaults of steps 1
and 2, the other records in the order of application (R64). A module ID that is not valid is recorded. -/
def State.proceed (s : State) (d : Die) (r : VerResult) : State :=
  let c := s.cis
  let id := r.baseId + c.strapValue
  let valid := decide (id ≤ 1023) && !c.strapFault
  let s1 := (((s.setF d UPD_DSTAT UPD_DSTAT__STATE 2).setF d UPD_DSTAT UPD_DSTAT__CODE 0).setF d UPD_DSTAT UPD_DSTAT__DEV
    (b2n r.dev)).wr64 d UPD_DSTRUCTL UPD_DSTRUCTH r.structId
  let s2 := (s1.wr d UPD_DEPOCH (BitVec.ofNat 32 (r.sfEpoch + 2 ^ 16 * r.ifEpoch))).wr d UPD_DSECVER (BitVec.ofNat 32 r.secver)
  let s3 := s2.wr d UPD_DMODID (BitVec.ofNat 32 (id % 1024 + 2 ^ 10 * b2n valid + 2 ^ 11 * b2n c.strapFault + 2 ^ 12 * c.strapValue +
    2 ^ 16 * r.baseId))
  let s4 := if valid then s3 else s3.record d 0x0F00 0x12 0 0 0
  let l := (imageRecs (s4.slotImage d)).getD []
  let s5 := s4.judgeUndefined d l
  if s5.dstate d = 2 then ((s5.updBoot d (fun b => { b with recs := l })).blockDefaults d).goOn d (recOrder l) else s5

/-- A die without a copy to run aborts boot with its code; Q-die 1 beside the old image also ends the update (R711). -/
def State.bootFails (s : State) (d : Die) (code : Nat) : State :=
  let s1 := s.noStructure d code
  if d = 1 ∧ s1.updPhase ≠ 7 ∧ s1.apart = true then s1.enterAbort else s1

/-- Whether of two valid copies with different headers that of the other die is chosen (R62). -/
def otherChosen (d : Die) (o p : VerResult) : Bool :=
  if o.secver ≠ p.secver then decide (o.secver < p.secver)
  else if o.buildTime ≠ p.buildTime then decide (o.buildTime < p.buildTime)
  else decide (d = 1)

/-- Whether a die takes the partner's image (R61, R62, R77; from PREP1 to ABORTING by R705, R718 and R720). -/
def State.takesImage (s : State) (d : Die) (o p : VerResult) : Bool :=
  let ph := s.updPhase
  if p.code ≠ 0 then false
  else if ph = 11 then decide (d = 1)
  else if ph = 8 ∨ ph = 9 then decide (d = 0) && (decide (o.code ≠ 0) || decide (o.digest ≠ p.digest))
  else if 3 ≤ ph ∧ ph ≤ 7 then false
  else if o.code ≠ 0 then true
  else decide (o.digest ≠ p.digest) && !s.isSealed d.other && otherChosen d o p

/-- What the exchange of results leads a die to, where it waits for it. -/
def State.chooseCopy (s : State) (d : Die) : State :=
  match (s.boot d).own, (s.boot d.other).own with
  | some o, some p =>
    if s.dstate d ≠ 1 ∨ (s.boot d).donate = true then s
    else
      let s1 := s.updBoot d (fun b => { b with partner := some p })
      if s.takesImage d o p then s1.updBoot d (fun b => { b with donate := true })
      else if o.code = 0 then s1.proceed d o
      else s1.bootFails d o.code
  | _, _ => s

/-- VERIFICATION_EXCHANGE (R61, R62, R704): the loaders exchange journals and results. -/
def execVerificationExchange (s : State) : Out :=
  .next (if s.linkFlows && s.alive 0 && s.alive 1 then (s.syncJournals.chooseCopy 0).chooseCopy 1 else s)

/-- PARTNER_RESULT_TIMEOUT (R63): the die proceeds alone with its own valid copy, or aborts boot. Where its partner is held or failed
its self-test, the tokens and the steered paths are the die's (R40, R42). -/
def execPartnerResultTimeout (d : Die) (s : State) : Out :=
  .next (
    match (s.boot d).own with
    | some o =>
      if !s.alive d || decide (s.dstate d ≠ 1) || (s.boot d).donate || (s.linkUp && (s.boot d.other).own.isSome) then s
      else if o.code = 0 then (if s.alive d.other && (s.boot d.other).romOk then s else s.standAlone d).proceed d o
      else s.bootFails d o.code
    | none => s)

/-- IMAGE_DONATION (R61, R720): the partner's image, sent in class 0 behind what waits of higher classes (R31), is written and verified again; while an update is aborted its loader region
too. A class 0x17 record of kind 7 says so. -/
def execImageDonation (d : Die) (s : State) : Out :=
  .next (
    if !(s.alive d && s.alive d.other && s.linkFlows && s.classZero d.other && (s.boot d).donate && decide (s.dstate d = 1)) then s
    else
      let sent := s.plNotice d.other 0 13 1
      let s0 := if s.updPhase = 11 then sent.putBytes d ldrBase (s.bytesAt d.other ldrBase ldrSize) else sent
      let s1 := s0.putBytes d imgBase (s0.slotImage d.other)
      let r := s1.verifyOwn d
      let s2 := s1.updBoot d (fun b => { b with own := some r, donate := false })
      if r.code = 0 then
        (((s2.extendBmr d (s2.bytesAt d imgBase 256)).setF d UPD_DSTAT UPD_DSTAT__DONATED 1).record d 0x0F00 0x17 0 0 7).proceed d r
      else s2.bootFails d r.code)

/-! ### Seal-ready and the seal (R72 to R77) -/

/-- The digest of the list of failed records that seal-ready carries (R72): indices as u32, in the order of judgement. -/
def State.failedList (s : State) (d : Die) : BitVec 384 := Config.sha384 ((s.boot d).failedIdx.flatMap (toLE 4))

/-- SEAL_READY (R72): every LATE record judged, the notice goes to the partner in class 3. -/
def execSealReady (d : Die) (s : State) : Out :=
  .next (
    match (s.boot d).own with
    | none => s
    | some o =>
      if !(s.alive d && decide (s.dstate d = 3) && (s.todo d).isEmpty) || (s.boot d).ready.isSome then s
      else
        let n : SealReady := ⟨o.digest, s.fld d UPD_DOMIT UPD_DOMIT__COUNT, s.failedList d⟩
        let s1 := s.updBoot d (fun b => { b with ready := some n })
        if !s1.alive d.other then s1 else
        let s2 := s1.plSend d 3 (.ready n)
        match (s2.boot d.other).ready with
        | some p => s2.plSend d.other 3 (.ready p)
        | none => s2)

/-- The registers of a register-space range of a die made those of the other die. -/
def State.copyRegs (s : State) (src dst : Die) (lo hi : Nat) : State :=
  let own := fun (d : Die) (k : Nat) => decide (d.val * 0x1000000 + lo ≤ k ∧ k < d.val * 0x1000000 + hi)
  (s.regs.filter (fun e => own src e.1)).foldl (fun st e => st.wr dst (e.1 % 0x1000000) e.2)
    { s with regs := tdrop s.regs (own dst) }

/-- The duplexes of a die that rejoins in the roles of today's bindings: each is the spare of the home its binding has now (R77,
R529). -/
def State.rejoinRoles (s : State) (d : Die) : State :=
  (List.range 32).foldl (fun st p =>
    let cfg := st.rd d (CKP_pCFG p)
    let y := if CKP_pCFG__HOMEDIE.get cfg = d.val then CKP_pCFG__HOMEDUX.get cfg else CKP_pCFG__SPAREDUX.get cfg
    if decide (y < 12) && !st.bit d (CKP_pSTAT p) CKP_pSTAT__SHED && decide (st.ckState d p ≠ 0) && decide (st.homeDie p = d.other) &&
        decide (st.duxRole d y ≠ 3) then
      (st.setRole d y 2 (st.homeDux d p)).setBoth (CKP_pSTAT p) CKP_pSTAT__SPAREDUX y
    else st) s

/-- What a die that joins a sealed partner takes from it: partition states, epochs and sequences, resets that last, the sealed
world's state and its restarts since module reset (R562, R576), the zone group. A partition that stopped when the die was lost is to start anew. -/
def State.joinPartner (s : State) (d : Die) : State :=
  let o := d.other
  let s1 := (List.range 32).foldl (fun st p =>
    let st1 := (((st.wr d (CKP_pSTAT p) (st.rd o (CKP_pSTAT p))).wr d (CKP_pEPOCH p) (st.rd o (CKP_pEPOCH p))).wr d (CKP_pSEALED p)
      (st.rd o (CKP_pSEALED p))).wr d (CKP_pSEQ p) (st.rd o (CKP_pSEQ p))
    if st1.bit o (WLD_pSTAT p) WLD_pSTAT__RST then st1.holdReset d p else st1.setF d (WLD_pSTAT p) WLD_pSTAT__RST 0) s
  let s2 := (s1.wr d WLD_STAT (s1.rd o WLD_STAT)).updWld d (fun w => { w with restarts := (s1.wld o).restarts })
  let s3 := (s2.copyRegs o d 0x150000 0x160000).updVol d (fun v => { v with
    zg := { (s2.vol.get o).zg with reqs := [], nextTag := 0, arriving := [] }, ck := (s2.vol.get o).ck })
  let s3 := [ZGP_EVT, ZGP_CMDRES, ZGP_CNT, ZGP_REMERR].foldl (fun st r => st.wr d r 0#32) s3
  let s4 := (List.range 32).foldl (fun st p => if st.ckState d p = 7 ∧ st.homeDie p = d then st.setCk p 1 else st) s3
  s4.rejoinRoles d

/-- A die that seals alone runs the home duplex of every non-sheddable partition (R42): those homed on the other die have their home on
the duplex that is their spare here, which leaves none for the sheddable ones of that duplex. -/
def State.reHome (s : State) (d : Die) : State :=
  (List.range 12).foldl (fun st x =>
    let here := fun (p : Nat) => decide (st.ckState d p ≠ 0) && st.defined d p
    let ps := (List.range 32).filter (fun p => here p && !st.bit d (CKP_pSTAT p) CKP_pSTAT__SHED && decide (st.homeDie p = d.other) &&
      decide (st.fld d (CKP_pSTAT p) CKP_pSTAT__SPAREDUX = x))
    if decide (st.duxRole d x ≠ 2) || ps.isEmpty then st
    else
      let shed := (List.range 32).filter (fun p => here p && st.bit d (CKP_pSTAT p) CKP_pSTAT__SHED && st.homedAt d p x)
      ps.foldl (fun t p => t.homeMoves d p) ((shed.foldl (fun t p => t.setCk p 7) (st.setHome ps d x 15 1)).setRole d x 1 15)) s

/-- The start of a module's structure on a die that seals without a sealed partner: output sequences resume above what MRAM
records, which is recorded in turn (R107), the sealed world is READY where it is present (R562), the zone-group unit begins (R668). -/
def State.startStructure (s : State) (d : Die) : State :=
  let s1 := (List.range 32).foldl (fun st p =>
    let seq := (tget 0 (st.keep.get d).seqRec p / 65536 + 1) * 65536 % 2 ^ 32
    if st.ckState d p = 0 then st else (st.wr d (CKP_pSEQ p) (BitVec.ofNat 32 seq)).recordSeq p seq) s
  let s2 := if s1.bit d WLD_SCFG WLD_SCFG__PRESENT then s1.setF d WLD_STAT WLD_STAT__SSTATE 1 else s1
  s2.zgStart d

/-- The seal block of R71: the module ID as a u16, the base ID and the strap value as sampled, with bit 15 set where it is not
valid. -/
def State.sealBlock (s : State) (d : Die) : List Byte :=
  let id := s.rd d UPD_DMODID
  ascii4 0x53 0x45 0x41 0x4C ++ toLE 8 (s.rd64 d UPD_DSTRUCTL UPD_DSTRUCTH) ++
    toLE 2 (UPD_DMODID__BASEID.get id + UPD_DMODID__STRAP.get id + 2 ^ 15 * (1 - UPD_DMODID__IDVALID.get id)) ++
    toLE 2 (s.fld d UPD_DOMIT UPD_DOMIT__COUNT)

/-- The staged fail-safe tables sent to the switch dies that have power (R74 step 3, R196). -/
def State.sendTables (s : State) (d : Die) : State :=
  (List.range 19).foldl (fun st sd => if (st.sd sd).powered then st.firstTable d sd else st) s

/-- The sealed key store of the structure that is sealed, or none (R776); one in the Ductus slot, where only the loader writes (R46),
holds nothing. What another area held is not taken over. -/
def State.sealStore (s : State) (d : Die) : State :=
  let area := ((s.vol.get d).sec.store.filter (fun e => !slotWrite 2 e.1 e.2 .write)).getD (0, 0)
  s.updKeep d (fun k => if (k.storeBase, k.storeSize) = area then k else
    { k with storeBase := area.1, storeSize := area.2, storeUsed := 0 })

/-- The seal of a die (R74): what was lk is read-only because no record applies any more; the fail-safe tables go out, unless they
wait for the cut-over (R711); the receive keys are checked again (R355); the measurement is extended; the state is sealed. A defined partition without an epoch record is
recorded (R538). -/
def State.doSeal (s : State) (d : Die) : State :=
  let split := s.apart && decide (d = 1)
  let s1 := (if split then s else s.sendTables d).sealStore d
  let s2 := ((s1.checkKeys d).extendBmr d (s1.sealBlock d)).setF d UPD_DSTAT UPD_DSTAT__STATE 4
  let s3 := (s2.updCis (fun c => { c with firstSeal := true })).updLed (fun l => { l with fresh := false })
  let s4 := if s3.joint d && s3.isSealed d.other then s3.joinPartner d else s3.startStructure d
  let s5 := (List.range 32).foldl (fun st p =>
    if st.defined d p && decide (st.ckState d p = 0) then st.record d (0x0400 + p) 0x12 p 0 0 else st) s4
  if split then s5.enterSplit else s5.updateSealed

/-- A die left out of step (R73, R77): code 0x0F. -/
def State.outOfStep (s : State) (d : Die) : State := (s.setF d UPD_DSTAT UPD_DSTAT__STATE 6).setF d UPD_DSTAT UPD_DSTAT__CODE 0x0F

/-- The record of notices that differ, written once by each die (R73). -/
def State.noteDiffer (s : State) (d : Die) : State :=
  if (s.boot d).differed then s else (s.record d 0x0F00 0x06 0 0 0).updBoot d (fun b => { b with differed := true })

/-- The seal of a die, which re-homes the partner's partitions unless the partner seals or stays sealed with it (R42). -/
def State.sealHere (s : State) (d : Die) (together : Bool) : State :=
  let s1 := s.doSeal d
  if s.alive d.other && (together || s.isSealed d.other) then s1 else s1.reHome d

/-- SEAL (R72, R73, R77): with both notices alike the die seals; where they differ, only the holder of nib cluster 0's token
does, and never against a partner that is sealed already, alone or from before. Q-die 1 with the new image beside the old one does not wait (R711). -/
def execSeal (d : Die) (s : State) : Out :=
  .next (
    match (s.boot d).ready with
    | none => s
    | some n =>
      if !(s.alive d && decide (s.dstate d = 3)) then s
      else if s.apart && decide (d = 1) then s.doSeal 1
      else match (s.boot d).partnerReady with
        | none => s
        | some p =>
          if n = p then s.sealHere d s.linkUp
          else if s.isSealed d.other && s.alive d.other then ((s.outOfStep d).noteDiffer d).noteDiffer d.other
          else
            let s1 := s.noteDiffer d
            if s.holder 0 = d then s1.sealHere d false else s1.outOfStep d)

/-- SEAL_READY_TIMEOUT (R72): the die seals alone; not one that came back while its partner stayed sealed, which must compare its
notice with the partner's (R77). -/
def execSealReadyTimeout (d : Die) (s : State) : Out :=
  .next (
    if s.alive d && decide (s.dstate d = 3) && (s.boot d).ready.isSome && (s.boot d).partnerReady.isNone &&
        !((s.boot d).joins && s.alive d.other && s.isSealed d.other) then s.sealHere d false else s)

end Sys2Proof.Machine
end

