-- ==== Sys2Proof/Machine/Boot.lean ====
section
/-! DEFINITION. Start-up and resets (spec/03): reset requests and their causes (R104 to R113), RESET_N, the switch dies before
control (R83 to R93). -/

namespace Sys2Proof.Machine

/-! ### Module reset -/

/-- The reset cause codes (R109). -/
def moduleCode : ModuleCause → Nat
  | .powerOn => 1 | .brownOut => 2 | .resetN => 3 | .cisternGlitch => 4 | .rstreq => 5 | .wakeSentinel => 6 | .supervisor => 7
  | .laneVote => 8
def dieCode : DieCause → Nat
  | .rstreq => 0x10 | .watchdog => 0x11 | .regulator => 0x12 | .glitch => 0x13 | .wakeDormant => 0x14 | .update => 0x15
  | .debug => 0x16
def clusterCode : ClusterCause → Nat
  | .rstreq => 0x30 | .faultManager => 0x31 | .substitution => 0x32
def switchCode : SwitchCause → Nat
  | .powerUp => 0x40 | .rstreq => 0x41 | .supervisor => 0x42

/-- The requester code of a cause that names none by itself (R109): the Cistern, the RESET_N pin, else hardware. -/
def moduleReq : ModuleCause → Nat
  | .resetN => 5 | .wakeSentinel => 4 | .supervisor => 4 | .laneVote => 4 | _ => 0

/-- A power-on module reset (R81): the supply of everything was gone, the switch dies' too. -/
def State.powerOn (s : State) : State :=
  let cold := fun (st : State) (d : Die) => (st.loseDram d).updKeep d (fun k => { k with
    run := .held, supplied := true, glitches := [] })
  let s1 := (cold (cold s 0) 1).updCis (fun c => { c with powered := true, vaux := true, vauxTrip := false })
  let s2 := (List.range 19).foldl (fun st sd => (st.updSd sd (fun x => x.fresh false)).forgetSd sd) s1
  s2.moduleReset 1 0

/-- POWER_ON_RESET. -/
def execPowerOnReset (s : State) : Out := .next s.powerOn

/-- BROWN_OUT (R82). -/
def execBrownOut (s : State) : Out := .next (if s.cis.powered then s.moduleReset 2 0 else s)

/-- MODULE_RESET by a cause (R104). The requester of one asked for through CIS_RSTREQ is known to that command only: here it is one
of the three there are, a free value. -/
def execModuleReset (cause : ModuleCause) (s : State) : Out :=
  .next (
    if cause = .powerOn then s.powerOn
    else if !s.cis.powered then s
    else if cause = .rstreq then s.withFree (fun v s => s.moduleReset 5 (1 + v % 3))
    else s.moduleReset (moduleCode cause) (moduleReq cause))

/-- RESET_N_ASSERT (R110): a module reset held while the pin stays low. -/
def execResetNAssert (s : State) : Out :=
  .next (if s.cis.powered && s.cis.resetN then (s.updCis (fun c => { c with resetN := false })).moduleReset 3 5 else s)

/-- RESET_N_RELEASE (R111): from DORMANT or SENTINEL the regulator sets start now. -/
def execResetNRelease (s : State) : Out :=
  .next (
    if s.cis.powered && !s.cis.resetN then
      let up := fun (st : State) (d : Die) => st.updKeep d (fun k =>
        if k.run = .off then { k with run := .held, supplied := true, dramRefresh := true } else k)
      up (up (s.updCis (fun c => { c with resetN := true })) 0) 1
    else s)

/-! ### Narrower resets -/

/-- Whether a die is the only sealed one, whose reset is refused where it is asked for (R108). -/
def State.onlySealed (s : State) (d : Die) : Bool := s.alive d && s.isSealed d && !(s.alive d.other && s.isSealed d.other)

/-- A die reset asked for: that of the only sealed die is refused with a class 0x12 record (R108). -/
def State.askDieReset (s : State) (d : Die) (cause req : Nat) : State :=
  if s.onlySealed d then s.recordBoth 0x0100 0x12 0 0 0 else s.dieReset d cause req

/-- DIE_RESET by a cause (R104, R105); the requester of one asked for is a free value here. -/
def execDieReset (d : Die) (cause : DieCause) (s : State) : Out :=
  .next (
    match cause with
    | .rstreq => s.withFree (fun v s => s.askDieReset d 0x10 (1 + v % 3))
    | .regulator => s.dieReset d 0x12 4
    | .wakeDormant => s.dieReset d 0x14 4
    | .debug => s.dieReset d 0x16 6
    | c => s.dieReset d (dieCode c) 0)

/-- A nib-cluster reset (R106, R108): the token first moves to the twin; refused where that is not in shadow. -/
def State.clusterResetAsk (s : State) (d : Die) (c cause req : Nat) : Option State :=
  if s.holder c ≠ d then some (s.clusterReset d c cause req)
  else if s.alive d.other && decide (s.clState d.other c = 4) && !s.apart then
    some ((s.moveToken c d.other).clusterReset d c cause req)
  else none

/-- NIB_CLUSTER_RESET by a cause. -/
def execNibClusterReset (d : Die) (c : Fin 8) (cause : ClusterCause) (s : State) : Out :=
  .next (
    if !s.alive d then s
    else if cause = .rstreq then
      s.withFree (fun v s => (s.clusterResetAsk d c.val 0x30 (1 + v % 3)).getD s)
    else (s.clusterResetAsk d c.val (clusterCode cause) 0).getD s)

/-- SWITCH_DIE_RESET by a cause. -/
def execSwitchDieReset (sd : Fin 19) (cause : SwitchCause) (s : State) : Out :=
  .next (
    if !(s.sd sd.val).powered then s
    else if cause = .rstreq then s.withFree (fun v s => s.switchDieReset sd.val 0x41 (1 + v % 3))
    else s.switchDieReset sd.val (switchCode cause) 0)

/-! ### Requests (R113) -/

/-- The requester code of a writer (R109); none for one that may not request. -/
def reqCode : Initiator → Option Nat
  | .mgmt d => some (1 + d.val)
  | .part p => if p = 0 then some 3 else none
  | _ => none

/-- A CIS_RSTREQ write: ignored from another writer, with a wrong CONFIRM, or while RESET_N is low (R108, R113). -/
def State.rstreq (s : State) (d : Die) (who : Initiator) (confirm : BitVec 16) (act : State → Nat → State) : State :=
  match reqCode who with
  | some q => if s.alive d && decide (confirm = 0xA5C3#16) && s.cis.resetN then act s q else s
  | none => s

/-- The result of a request, kept by the die it came from. -/
def State.rstResult (s : State) (d : Die) (r : Nat) : State := s.setF d CIS_RSTRES CIS_RSTRES__RESULT r

/-- RSTREQ_MODULE. -/
def execRstreqModule (d : Die) (who : Initiator) (confirm : BitVec 16) (s : State) : Out :=
  .next (s.rstreq d who confirm (fun s q => (s.rstResult d 1).moduleReset 5 q))

/-- RSTREQ_DIE: refused when it names the only sealed die, with a class 0x12 record. -/
def execRstreqDie (d : Die) (who : Initiator) (confirm : BitVec 16) (target : BitVec 5) (s : State) : Out :=
  .next (s.rstreq d who confirm (fun s q =>
    if 2 ≤ target.toNat then s
    else
      let t : Die := if target = 0#5 then 0 else 1
      if s.onlySealed t then (s.askDieReset t 0x10 q).rstResult d 2 else (s.rstResult d 1).askDieReset t 0x10 q))

/-- RSTREQ_PARTITION: deferred during a failover of the partition. -/
def execRstreqPartition (d : Die) (who : Initiator) (confirm : BitVec 16) (target : BitVec 5) (s : State) : Out :=
  .next (s.rstreq d who confirm (fun s q =>
    let p := target.toNat
    if p = 0 then s
    else
      let r := if s.ckState s.anyDie p = 6 then 3 else 1
      (s.rstResult d r).partReset p 0x20 q))

/-- RSTREQ_NIB_CLUSTER: on the die whose cluster is named. -/
def execRstreqNibCluster (d : Die) (who : Initiator) (confirm : BitVec 16) (target : BitVec 5) (on : Die) (s : State) : Out :=
  .next (s.rstreq d who confirm (fun s q =>
    let c := target.toNat
    if 8 ≤ c then s
    else if !s.alive on then s.rstResult d 1
    else match s.clusterResetAsk on c 0x30 q with
      | some t => t.rstResult d 1
      | none => s.rstResult d 2))

/-- RSTREQ_SWITCH_DIE. -/
def execRstreqSwitchDie (d : Die) (who : Initiator) (confirm : BitVec 16) (target : BitVec 5) (s : State) : Out :=
  .next (s.rstreq d who confirm (fun s q =>
    let sd := target.toNat
    if 19 ≤ sd then s
    else if (s.sd sd).powered then (s.rstResult d 1).switchDieReset sd 0x41 q else s.rstResult d 1))

/-! ### Switch dies before control (R83 to R93) -/

/-- START_ENTRY (R83): the check of the NVM table at power-up (R202), then START begins, and its hold time. A table that is not valid
leaves the die unprogrammed, with event 0x08 (R195, R203). -/
def execStartEntry (sd : Fin 19) (s : State) : Out :=
  .next (
    let x := s.sd sd.val
    if x.powered && !x.started then
      let bad := decide (x.table ≠ []) && (x.nvmFault || !tableOk sd.val x.table)
      let s1 := s.updSd sd.val (fun x => { x with nvmFault := bad })
      let s2 := s1.updSd sd.val (fun x => { x with started := true, mode := .start, holding := true, live := x.tbl })
      if bad then (s2.sdEvent sd.val 0 0x08).showTable sd.val 5 else s2
    else s)

/-- HOLD_TIME_END (R84, R93, R196): the channels take their fail-safe entries, and each sealed die sends its table where it has sent none
since the die began anew. -/
def execHoldTimeEnd (sd : Fin 19) (s : State) : Out :=
  .next (
    let x := s.sd sd.val
    if !(x.started && x.holding) then s
    else
      let s1 := (s.updSd sd.val (fun x => { x with holding := false })).settleAll sd.val
      let send := fun (st : State) (d : Die) =>
        if st.alive d && st.isSealed d && !(st.apart && decide (d = 1)) && decide ((st.qsd d sd.val).tblSends = 0) then
          st.firstTable d sd.val else st
      send (send s1 0) 1)

/-- LIMP_PIN_CHANGE (R85): a level that passed the filter. -/
def execLimpPinChange (pin : Fin 4) (level : Bool) (s : State) : Out :=
  .next (
    let s1 := s.updCis (fun c => { c with limp := BitVec.ofNat 4 (withBit c.limp.toNat pin.val level) })
    (List.range 19).foldl (fun st sd => if (st.sd sd).started then st.settleAll sd else st) s1)

/-- NVM_WRITE_COMPLETE (R90). -/
def execNvmWriteComplete (sd : Fin 19) (s : State) : Out :=
  .next (match (s.sd sd.val).writing with
    | some img => if (s.sd sd.val).started then s.tableInForce sd.val img true else s
    | none => s)

/-- CAN_INTEGRATED (R81). -/
def execCanIntegrated (d : Die) (c : Fin 16) (s : State) : Out :=
  .next (if s.alive d && decide (s.fld d (FBB_CcSTAT c.val) FBB_CcSTAT__STATE = 1) then
      let e := (s.fbSel c.val).die
      if e ≠ d ∧ s.alive e = true ∧ 2 ≤ s.fld e (FBB_CcSTAT c.val) FBB_CcSTAT__STATE then s.wr d (FBB_CcSTAT c.val) (s.rd e (FBB_CcSTAT c.val))
      else s.setF d (FBB_CcSTAT c.val) FBB_CcSTAT__STATE 2
    else s)

end Sys2Proof.Machine
end

