-- ==== Sys2Proof/Machine/Update.lean ====
section
/-! DEFINITION. The commands of field update (spec/19): records, UPD_CMD, the writing of a die, the split and the cut-over, group
grants; and the loss of a die (R525), which in the split starts the new image (R724). -/

namespace Sys2Proof.Machine

/-! ### Records (R726) -/

/-- UPDATE_POLICY_RECORD. -/
def execUpdatePolicyRecord (d : Die) (r : Rec) (s : State) : Out :=
  let b := r.body
  let cut := u16 b 4
  let lim := u16 b 6
  .next (s.applyRec d r 0 false 0x0D01
    (goodIf (decide (r.inst = 0 ∧ b.length = 16 ∧ u8 b 0 < 32 ∧ u8 b 1 = 0 ∧ u16 b 2 % 2 = 0 ∧ (cut = 0 ∨ (10 ≤ cut ∧ cut ≤ 1000)) ∧
      (lim = 0 ∨ 60 ≤ lim)) && s.defined d (u8 b 0) && zeroBytes b 8 8))
    (fun s => (s.wr d UPD_CFG (BitVec.ofNat 32 (u16 b 2 + 2 ^ 16 * u8 b 0))).wr d UPD_LIM
      (BitVec.ofNat 32 ((if cut = 0 then 50 else cut) + 2 ^ 16 * (if lim = 0 then 3600 else lim)))))

/-- COMPATIBILITY_RECORD. -/
def execCompatibilityRecord (d : Die) (r : Rec) (s : State) : Out :=
  let b := r.body
  .next (s.applyRec d r 0 false 0x0D02
    (goodIf (decide (r.inst = 0 ∧ b.length = 8 ∧ u16 b 0 = (s.fld d UPD_DEPOCH UPD_DEPOCH__SFEPOCH + 65535) % 65536 ∧ u8 b 2 < 2) &&
      zeroBytes b 3 5))
    (fun s => s.wr d UPD_COMPAT (BitVec.ofNat 32 (u16 b 0 + 2 ^ 16 * u8 b 2))))

/-! ### UPD_CMD (R725) -/

/-- An UPD_CMD write: from the update partition, partition 0 or a management core, with CONFIRM 0xF1 and a new TAG, else ignored. -/
def State.updCmd (s : State) (d : Die) (who : Initiator) (confirm tag : BitVec 8) (act : State → State) : State :=
  if s.alive d && (s.boot d).loaderOk && who.isOwner (s.fld d UPD_CFG UPD_CFG__PART) && decide (confirm = 0xF1#8) &&
      s.tagNew d 2 who tag.toNat then act (s.tagNote d 2 who tag.toNat)
  else s

/-- The buffer a command reads, and whether the guards grant it to the management cores. -/
def State.updBuffer (s : State) (d : Die) : Nat :=
  (s.rd d UPD_BUFL).toNat / 4096 * 4096 + 2 ^ 32 * s.fld d UPD_BUFH UPD_BUFH__ADDR
def State.bufOk (s : State) (d : Die) (n : Nat) : Bool := s.secReads d (.mgmt d) (s.updBuffer d) n

/-- Whether the phase lies from PREP1 to ABORTING (R724). -/
def State.updBusy (s : State) : Bool := decide (3 ≤ s.updPhase)

/-- A manifest stored on a die, with an empty bitmap (R701, R703). -/
def State.putManifest (s : State) (d : Die) (m : List Byte) : State :=
  ((s.putBytes d manBase m).bulkPut (bulkUpd d 0) m).clearMap d

/-- A die and its partner, which takes what is staged over the pair link in class 0 (R702); an absent one, or one that the link does not
reach now, takes it later (R703). -/
def State.onStaging (s : State) (d : Die) (f : State → Die → State) : State :=
  let s1 := f s d
  if s1.linkFlows && s1.alive d.other then f (s1.plNotice d 0 16 0) d.other else s1

/-- UPD_MANIFEST (R701). -/
def execUpdManifest (d : Die) (who : Initiator) (confirm tag : BitVec 8) (s : State) : Out :=
  .next (s.updCmd d who confirm tag (fun s =>
    let m := s.bytesAt d (s.updBuffer d) manLen
    let code := manifestCode s.fuse m
    if s.updBusy then s.updResult 2 3 0
    else if !s.bufOk d manLen then s.updResult 2 0xA 0
    else if code ≠ 0 then s.updResult 2 1 code
    else if s.updPhase ≠ 0 ∧ manPkg (s.manifest d) = manPkg m then s.updResult 3 0 0
    else
      let s1 := (s.onStaging d (fun st e => st.putManifest e m)).setPhaseWith 1 (fun j => { j with pkg := manPkg m })
      (s1.setGrp 0).updResult 3 0 0))

/-- A staged chunk written to a die. -/
def State.putChunk (s : State) (d : Die) (i : Nat) (c : List Byte) : State := (s.bulkPut (chunkKey d i) c).markChunk d i true

/-- Whether both dies hold every chunk of the package. -/
def State.allStaged (s : State) (d : Die) : Bool :=
  (List.range (manChunks (s.manifest d))).all (fun i => s.hasChunk 0 i && s.hasChunk 1 i)

/-- READY once both bitmaps are full (R702). -/
def State.readyIfFull (s : State) (d : Die) : State :=
  if s.updPhase = 1 ∧ s.allStaged d = true then s.setPhase 2 else s.showStagings

/-- The hashes of a proof in a buffer. -/
def State.proofAt (s : State) (d : Die) (buf n : Nat) : List (List Byte) :=
  (List.range n).map (fun k => s.bytesAt d (buf + 0x1008 + 48 * k) 48)

/-- UPD_STAGE (R702). -/
def execUpdStage (d : Die) (who : Initiator) (confirm tag : BitVec 8) (s : State) : Out :=
  .next (s.updCmd d who confirm tag (fun s =>
    let m := s.manifest d
    let i := s.fld d UPD_IDX UPD_IDX__INDEX
    let buf := s.updBuffer d
    let n := s.leAt d (buf + 0x1000) 4
    if s.updBusy || decide (s.updPhase = 0) then s.updResult 2 3 0
    else if s.hasChunk 0 i && s.hasChunk 1 i && decide (i < manChunks m) then s.updResult 3 0 0
    else if !s.bufOk d (0x1008 + 48 * min n 13) then s.updResult 2 0xA 0
    else
      let c := s.bytesAt d buf 4096
      if decide (i < manChunks m ∧ n ≤ 13) && proofOk (manRoot m) (manChunks m) i c (s.proofAt d buf n) then
        ((s.onStaging d (fun st e => if st.manifest e = m then st.putChunk e i c else st)).readyIfFull d).updResult 3 0 0
      else s.updResult 2 2 0))

/-- CHUNK_SYNC (R703): the sealed partner takes the manifest, where it has another, and every chunk its bitmap lacks. -/
def execChunkSync (d : Die) (s : State) : Out :=
  .next (
    let o := d.other
    let ph := s.updPhase
    if !(s.alive d && s.alive o && s.linkFlows && s.isSealed d && s.isSealed o && decide (ph = 1 ∨ ph = 2)) then s
    else
      let m := s.manifest d
      let s0 := s.plNotice d 0 16 1
      let s1 := if s0.manifest o = m then s0 else s0.putManifest o m
      ((List.range (manChunks m)).foldl (fun st i =>
        if st.hasChunk d i && !st.hasChunk o i then st.putChunk o i (st.chunk d i) else st) s1).readyIfFull d)

/-! ### INSTALL (R706 to R708, R722) -/

/-- Whether the vehicle state a die shows is permitted by a die's running image (R707). -/
def State.vehicleOk (s : State) (d img : Die) : Bool :=
  let c := s.fld d UPD_VSTATE UPD_VSTATE__STATE
  decide (c ≠ 0) && bitOf (s.fld img UPD_CFG UPD_CFG__MASK) c

/-- The header digest of the image a die runs. -/
def State.runDigest (s : State) (d : Die) : List Byte :=
  match (s.boot d).own with
  | some r => toBE 48 r.digest.toNat
  | none => []

/-- Whether the staged Ductus declares a migrator from an epoch (R708). -/
def State.migratorFrom (s : State) (d : Die) (epoch : Nat) : Bool :=
  match imageRecs (s.stagedDuctus d) with
  | some l =>
    let cs := l.filter (fun r => decide (r.typ = 0x0D02#16))
    cs.any (fun r => decide (u16 r.body 0 = epoch ∧ u8 r.body 2 % 2 = 1) && cs.all (fun q => decide (q.seq ≤ r.seq)))
  | none => false

/-- Whether the epochs pass (R708). -/
def State.epochsPass (s : State) (d : Die) : Bool :=
  let m := s.manifest d
  let sf := s.fld d UPD_DEPOCH UPD_DEPOCH__SFEPOCH
  let jf := s.fld d UPD_DEPOCH UPD_DEPOCH__IFEPOCH
  let diff := (u16 m 0x82 + 65536 - jf) % 65536
  (decide (u16 m 0x80 = sf) || (decide (u16 m 0x80 = (sf + 1) % 65536) && s.migratorFrom d sf)) &&
    decide (diff = 0 ∨ diff = 1 ∨ diff = 65535)

/-- Whether the module needs a group grant (R722). -/
def State.needsGrant (s : State) (d : Die) : Bool := s.bit d UPD_DMODID UPD_DMODID__IDVALID && s.bit d ZGP_CFG ZGP_CFG__USED

/-- The REASON of the first condition of R706 that fails, 0 where none does. For the security version no rule gives one: a free
value (log entry 6). -/
def State.installReason (s : State) (d : Die) : Nat :=
  let m := s.manifest d
  let st := s.zgState d
  if s.updPhase ≠ 2 then 3
  else if !(s.isSealed 0 && s.isSealed 1) || s.single then 8
  else if !s.vehicleOk d d then 4
  else if manFrom m ≠ List.replicate 48 0#8 ∧ manFrom m ≠ s.runDigest d then 6
  else if manSecver m < s.fuse then 1 + (Config.freeWord s.free).toNat % 15
  else if hash48 ((s.stagedDuctus d).take 256) ≠ manNew m then 7
  else if !s.epochsPass d then 5
  else if s.needsGrant d && !decide (st = 2 ∨ st = 3) then 9
  else 0

/-- PREP1 entered (R709): every binding homed on Q-die 1 is asked to swap, every token it holds moves; where one is refused the phase
returns to READY. -/
def State.startPrep (s : State) : State :=
  let m := s.manifest 0
  let s1 := s.setPhaseWith 3 (fun j => { j with chunks := 0, blocks := 0, pkg := manPkg m, old := s.runDigest 0, new := manNew m })
  let xs := (List.range 12).filter (fun x => decide (s1.duxRole 1 x = 1) && decide (s1.homed 1 x ≠ []))
  let ts := (List.range 9).filter (fun t => decide (s1.holder t = 1))
  if xs.all (fun x => s1.canSwap 1 x) && ts.all (fun t => s1.swapOk t 0) then
    ts.foldl (fun st t => st.swapTo t 0) (xs.foldl (fun st x => st.askSwap 1 x) s1)
  else s1.backToReady 0xB

/-- Whether a grant for a module with a new epoch keeps the span of the view at 1 (R723). -/
def State.spanOk (s : State) (d : Die) (epoch : Nat) : Bool :=
  let own := s.fld d UPD_DEPOCH UPD_DEPOCH__IFEPOCH
  let es := epoch :: ((s.memList d).filter (fun m => m ≠ s.ownId d)).map (fun m => (s.zgMember d m).epoch)
  decide (es.foldl max own ≤ es.foldl min own + 1)

/-- What the coordinator decides on a request: 0 grant, else the refusal reason (R723). -/
def State.grantReason (s : State) (d : Die) (m epoch : Nat) : Nat :=
  match (s.vol.get d).upd.holder with
  | some h => if h = m then (if s.spanOk d epoch then 0 else 2) else 1
  | none => if s.spanOk d epoch then 0 else 2

/-- A grant noted by the coordinator. -/
def State.noteGrant (s : State) (d : Die) (m : Nat) : State := s.updUpd d (fun u => { u with holder := some m, grantAt := s.ns d })

/-- The waiting INSTALL goes on, or ends where the group cannot take the epoch (R706, R723). -/
def State.granted (s : State) : State := (s.setGrp 2).startPrep
def State.notGranted (s : State) : State := (s.setGrp 3).updRefuse 9

/-- A waiting coordinator grants its own update. -/
def State.selfGrant (s : State) (d : Die) : State :=
  let own := s.ownId d
  let r := s.grantReason d own (u16 (s.manifest d) 0x82)
  if r = 0 then ((s.noteGrant 0 own).noteGrant 1 own).granted
  else if r = 2 then s.notGranted else s

/-- UPD_INSTALL (R706): accepted, waiting for the group grant where only that is missing. -/
def execUpdInstall (d : Die) (who : Initiator) (confirm tag : BitVec 8) (s : State) : Out :=
  .next (s.updCmd d who confirm tag (fun s =>
    let r := s.installReason d
    if r ≠ 0 then { s.updRefuse r with free := s.free + 1 }
    else if !s.needsGrant d then ((s.setGrp 0).updResult 1 0 0).startPrep
    else
      let s1 := (s.setGrp 1).updResult 1 0 0
      if s1.zgState d = 3 then s1.selfGrant d else s1))

/-! ### PREP1 and the writing of a die (R709, R710, R718) -/

/-- PREP1_COMPLETE: Q-die 1 homes nothing and holds no token; the journal records WRITE1 and the die is reset. -/
def execPrep1Complete (s : State) : Out :=
  .next (
    let homes := (List.range 12).any (fun x => decide (s.duxRole 1 x = 1) && decide (s.homed 1 x ≠ []))
    if s.updPhase = 3 ∧ homes = false ∧ (List.range 9).all (fun t => decide (s.holder t = 0)) = true then
      (s.setPhaseWith 4 (fun j => { j with chunks := 0, blocks := 0 })).dieReset 1 0x15 0
    else s)

/-- When the phase in force began, on a die (ns). -/
def State.phaseAt (s : State) (d : Die) : Nat := (s.journal d).time

/-- PREP1_TIMEOUT: after 1 s. -/
def execPrep1Timeout (s : State) : Out :=
  .next (if s.updPhase = 3 ∧ s.phaseAt 0 + 1000000000 ≤ s.ns 0 then s.backToReady 0xB else s)

/-- Step 1 of R709: the staged chunks against the root, those that differ fetched from the partner where the own copy fails. None
where that fails too. -/
def State.checkStaged (s : State) (d : Die) : Option State :=
  let m := s.manifest d
  if s.stagedRoot d = manRoot m then some s
  else if s.linkFlows && s.alive d.other && decide (s.stagedRoot d.other = manRoot m) then
    some ((List.range (manChunks m)).foldl (fun st i => st.bulkPut (chunkKey d i) (st.chunk d.other i)) (s.plNotice d.other 0 16 2))
  else none

/-- A package that fails in both stores (R709, R724): the bits of the chunks whose copies differ are cleared, or of all where none
does; Q-die 1's installation ends, Q-die 0 boots by donation. -/
def State.stagingFails (s : State) (d : Die) : State :=
  let n := manChunks (s.manifest d)
  let bad := (List.range n).filter (fun i => decide (s.chunk 0 i ≠ s.chunk 1 i))
  let l := if bad = [] then List.range n else bad
  let s1 := l.foldl (fun st i => (st.markChunk 0 i false).markChunk 1 i false) s
  if d = 1 then s1.showStagings.enterAbort else ((s1.setPhase 9).dieReset 0 0x15 0)

/-- The counts of the die in work, shown on both dies. -/
def State.showCursor (s : State) (d : Die) : State :=
  let j := s.journal d
  let v := BitVec.ofNat 32 (j.chunks + 2 ^ 16 * j.blocks)
  let s1 := if s.alive 0 then s.wr 0 UPD_CURSOR v else s
  if s1.alive 1 then s1.wr 1 UPD_CURSOR v else s1

/-- Steps 3 to 5 of R709 for a number of chunks and blocks: Ductus chunks, then loader blocks, then the boot of the new image. -/
def State.writeUnits (d : Die) : Nat → State → State
  | 0, s => s.showCursor d
  | f + 1, s =>
    let j := s.journal d
    let m := s.manifest d
    let nl := manLdrChunks m
    if j.chunks < manChunks m - nl then
      State.writeUnits d f ((s.putBytes d (imgBase + 4096 * j.chunks) (s.chunk d (nl + j.chunks))).putJournal d
        (fun j => { j with chunks := j.chunks + 1 }))
    else if bitOf (u16 m 6) 0 ∧ j.blocks < 64 then
      State.writeUnits d f ((s.putBytes d (ldrBase + 4096 * j.blocks) (s.bytesAt d (copyBase + 4096 * j.blocks) 4096)).putJournal d
        (fun j => { j with blocks := j.blocks + 1 }))
    else ((s.showCursor d).setPhase (if d = 1 then 5 else 9)).dieReset d 0x15 0

/-- UPDATE_WRITE (R709, R718): the loader of the die in work checks the package, places and verifies a new loader, and writes up to a
number of chunks and blocks. -/
def execUpdateWrite (d : Die) (units : BitVec 16) (s : State) : Out :=
  .next (
    if !(s.alive d && (s.boot d).loaderOk && s.writing d) then s
    else match s.checkStaged d with
      | none => s.stagingFails d
      | some s1 =>
        if bitOf (u16 (s1.manifest d) 6) 0 then
          let img := s1.stagedLoader d
          let s2 := s1.putBytes d copyBase img
          if loaderCodeOf s2.fuse img = 0 then State.writeUnits d units.toNat s2
          else if d = 1 then s2.enterAbort else ((s2.setPhase 9).dieReset 0 0x15 0)
        else State.writeUnits d units.toNat s1)

/-- BOOT1_TIMEOUT (R711): 2 s after its release Q-die 1 has not sealed. -/
def execBoot1Timeout (s : State) : Out :=
  .next (if s.updPhase = 5 ∧ s.alive 1 = true ∧ s.isSealed 1 = false ∧ (s.vol.get 0).upd.relAt + 2000000000 ≤ s.ns 0 then s.enterAbort
    else s)

/-- SPLIT_LIMIT (R714). -/
def execSplitLimit (s : State) : Out :=
  .next (
    if s.updPhase = 6 ∧ s.phaseAt 0 + s.fld 0 UPD_LIM UPD_LIM__SPLIT * 1000000000 ≤ s.ns 0 then
      (s.updEvt UPD_EVT__SPLITLIM).enterAbort
    else s)

/-! ### The cut-over (R715 to R717) -/

/-- Step 1: every duplex of a die that runs ends its epoch at its next instruction. -/
def State.endAllEpochs (s : State) (d : Die) : State :=
  (List.range 12).foldl (fun st x =>
    if (st.runningOn d x).isSome then
      st.updDux d x (fun u => { u with endAt := some (if st.inWfi d x then u.lead else u.lead + 1) })
    else st) s

/-- Step 2: a halt in the stream of every cluster of a die (R250). -/
def State.haltAllNibs (s : State) (d : Die) : State :=
  (List.range 8).foldl (fun st c => st.streamIn d c 0x601 (st.ns d) [0#8, 0xFF#8] false) s

/-- UPD_CUTOVER: in SPLIT, with the vehicle state permitted, the pair link up and R713 complete (R724). For the last two no REASON is
given: a free value. -/
def execUpdCutover (d : Die) (who : Initiator) (confirm tag : BitVec 8) (s : State) : Out :=
  .next (s.updCmd d who confirm tag (fun s =>
    if s.updPhase ≠ 6 then s.updRefuse 3
    else if !s.vehicleOk d 0 then s.updRefuse 4
    else if !(s.linkUp && s.alive 0 && s.alive 1 && (s.vol.get 0).upd.copied) then s.withFree (fun v s => s.updRefuse (1 + v % 15))
    else (((s.updResult 1 0 0).setPhase 7).endAllEpochs 0).haltAllNibs 0))

/-- Whether steps 1 and 2 are complete on Q-die 0: no duplex runs, no nib does, and what its epochs sent has arrived (R713). -/
def State.handedOver (s : State) : Bool :=
  (s.link.get 0).waiting.isEmpty && (s.link.get 0).sent.isEmpty &&
  (List.range 12).all (fun x => (s.runningOn 0 x).isNone || (!(s.core 0 x 0).run && !(s.core 0 x 1).run)) &&
  (List.range 8).all (fun c => (s.cl 0 c).nibs.all (fun e =>
    decide (e.2.run ≠ .running ∧ e.2.run ≠ .inGet ∧ e.2.run ≠ .inWait)))

/-- The end of step 1: the last epoch of Q-die 0 ended then (ns). -/
def State.stoppedAt (s : State) : Nat :=
  (List.range 12).foldl (fun t x => if (s.runningOn 0 x).isSome then max t (s.dux 0 x).began else t) 0

/-- Step 3: output sequences and handover records given to Q-die 1; the journals went as the epochs ended (R713). -/
def State.handStates (s : State) : State :=
  let s1 := (List.range 32).foldl (fun st p => st.wr 1 (CKP_pSEQ p) (st.rd 0 (CKP_pSEQ p))) s
  (List.range 80).foldl (fun st n => st.takeHandover 1 n (st.handover 0 n)) s1

/-- Step 5: Q-die 1 takes every token, port and selector; its own queued frames are discarded, those of Q-die 0 counted as lost. -/
def State.takeModule (s : State) : State :=
  let lost := fun (p : Nat) => ((List.range 8).map (fun c => (tget [] (s.swc 0).queues (portQ p c)).length)).sum
  let s1 := (List.range 9).foldl (fun st t => st.moveToken t 1) s
  let s2 := (List.range 28).foldl (fun st i => st.fbSwitch i 1) (s1.steerPorts 1)
  let s3 := (s2.swc 1).queues.foldl (fun st e => e.2.foldl (fun st id => st.dequeue 1 e.1 id) st) s2
  (List.range 24).foldl (fun st p => st.addSat 1 (SWC_PpLOST p) ⟨0, 32⟩ (lost p)) (s3.coreTakes 1)

/-- The duplex of Q-die 1 on which a partition starts after the cut-over: its home there, or its spare (R717); none where it has no
valid epoch record, or is sheddable with its home on Q-die 0. -/
def State.newDux (s : State) (p : Nat) : Option Nat :=
  let cfg := s.rd 1 (CKP_pCFG p)
  let x := if CKP_pCFG__HOMEDIE.get cfg = 1 then CKP_pCFG__HOMEDUX.get cfg else CKP_pCFG__SPAREDUX.get cfg
  if s.ckState 1 p ≠ 0 ∧ s.defined 1 p = true ∧ x < 12 then some x else none

/-- Q-die 1 starts its duplexes (R717, R724): as R610 gives, with a2 and a3. -/
def State.startOnOne (s : State) (a2 a3 : Nat) : State :=
  (List.range 12).foldl (fun st x =>
    match (List.range 32).filter (fun p => decide (st.newDux p = some x)) with
    | [] => st
    | p :: ps =>
      match (st.wld 1).entry with
      | none => if (st.wld 1).noEntry then st else (st.record 1 0x0300 0x12 0 0 0).updWld 1 (fun w => { w with noEntry := true })
      | some e =>
        let regs := ((startRegs e (12 + x) p).set (.x 12) a2).set (.x 13) a3
        let core : AppCore := { regs := regs, run := true }
        let s1 := (st.setHome (p :: ps) 1 x 15 4).setRole 1 x 1 15
        let s2 := s1.updDux 1 x (fun u => { fails := u.fails, lastBist := u.lastBist, cores := ⟨core, core⟩, began := s1.ns 1 })
        ((s2.setF 1 (DUX_dSTAT x) DUX_dSTAT__STATE 1).setF 1 (DUX_dSTAT x) DUX_dSTAT__PART p).setF 1 (DUX_dSTAT x)
          DUX_dSTAT__PVALID 1) s

/-- CUTOVER_COMMIT (R715 steps 3 to 8): once Q-die 0 has stopped, Q-die 1 takes over and Q-die 0 is reset to be written. -/
def execCutoverCommit (s : State) : Out :=
  .next (
    if !(decide (s.updPhase = 7) && s.handedOver && s.linkUp && s.alive 0 && s.alive 1 && s.isSealed 1) then s
    else
      let t := s.stoppedAt
      let sf := s.fld 0 UPD_DEPOCH UPD_DEPOCH__SFEPOCH
      let same := decide (sf = s.fld 1 UPD_DEPOCH UPD_DEPOCH__SFEPOCH)
      let s1 := s.handStates.setPhaseWith 8 (fun j => { j with chunks := 0, blocks := 0 })
      let s2 := (s1.takeModule.sendTables 1).dieReset 0 0x15 0
      let ps := (List.range 32).filter (fun p => (s2.newDux p).isSome)
      let s3 := if same then s2.startOnOne 1 0 else s2.startOnOne 2 sf
      s3.updUpd 1 (fun u => { u with cut := if ps = [] then none else some (t, ps) }))

/-- CUTOVER_LIMIT (R715): the cut-over is abandoned; Q-die 0 resumes its nibs, its switch core and its duplexes. -/
def execCutoverLimit (s : State) : Out :=
  .next (
    if s.updPhase = 7 ∧ s.phaseAt 0 + s.fld 0 UPD_LIM UPD_LIM__CUT * 1000000 ≤ s.ns 0 then
      let s1 := (List.range 12).foldl (fun st x =>
        if (st.runningOn 0 x).isSome then
          ((st.updDux 0 x (fun u => { u with endAt := none })).updCore 0 x 0 (fun c => { c with run := true })).updCore 0 x 1
            (fun c => { c with run := true })
        else st) s
      let s2 := (List.range 8).foldl (fun st c =>
        (st.updCl 0 c (fun x => { x with
          held := x.held.filter (fun h => decide (h.src ≠ 0x601)),
          nibs := x.nibs.map (fun e => (e.1, { e.2 with queue := e.2.queue.filter (fun q => decide (q.src ≠ 0x601)) })) })).resumeOn
            0 c (fun _ => true)) s1
      (s2.setPhase 6).updEvt UPD_EVT__REFUSED
    else s)

/-- DIE_LOSS (R525, R526): die `d` is lost and the pair link with it. In the split the loss of Q-die 0 starts the new image on Q-die 1
with a2 = 0, and Q-die 0 is to be written when it returns (R724). -/
def execDieLoss (d : Die) (s : State) : Out :=
  .next (
    if s.alive d || s.linkUp || !s.alive d.other then s
    else if d = 0 ∧ s.split = true then
      ((s.setPhaseWith 8 (fun j => { j with chunks := 0, blocks := 0 })).sendTables 1).startOnOne 0 0
    else s.losePartitions d)

/-! ### ABORT and CLEAR (R720) -/

/-- UPD_ABORT: from READY to SPLIT. -/
def execUpdAbort (d : Die) (who : Initiator) (confirm tag : BitVec 8) (s : State) : Out :=
  .next (s.updCmd d who confirm tag (fun s =>
    if 2 ≤ s.updPhase ∧ s.updPhase ≤ 6 then
      ((if s.fld d UPD_STAT UPD_STAT__GRP = 1 then s.setGrp 0 else s).updResult 1 0 0).enterAbort
    else s.updResult 2 3 0))

/-- UPD_CLEAR: in IDLE, STAGING, READY and DONE. -/
def execUpdClear (d : Die) (who : Initiator) (confirm tag : BitVec 8) (s : State) : Out :=
  .next (s.updCmd d who confirm tag (fun s =>
    let ph := s.updPhase
    if ph ≤ 2 ∨ ph = 10 then
      let s1 := s.onStaging d (fun st e => st.clearMap e)
      let s2 := if ph = 0 then s1.showStagings else s1.setPhaseWith 0 (fun j => { j with pkg := 0, chunks := 0, blocks := 0 })
      (s2.setGrp 0).updResult 3 0 0
    else s.updResult 2 3 0))

/-! ### Group updates (R722, R723) -/

/-- UPDATE_REQUEST: a waiting module asks for the grant every 1 s ±10 %, one that holds it reports progress so from PREP1 to BOOT0
(R723). -/
def execUpdateRequest (d : Die) (s : State) : Out :=
  .next (
    let g := s.fld d UPD_STAT UPD_STAT__GRP
    let ph := s.updPhase
    let soon : Bool := match (s.vol.get d).upd.sentAt with
      | some t => decide (s.ns d < t + 900000000)
      | none => false
    let s0 := s.updUpd d (fun u => { u with sentAt := some (s.ns d) })
    let keep := fun (st : State) (e : Die) =>
      st.updUpd e (fun u => if u.holder = some (s.ownId d) then { u with grantAt := s.ns d } else u)
    if !s.alive d || decide (s.holder 8 ≠ d) || soon then s
    else if g = 1 ∧ ph = 2 then (if s.zgState d = 3 then s0.selfGrant d else s0.sendUpdate 1)
    else if g = 2 ∧ 3 ≤ ph ∧ ph ≤ 9 then (keep (keep s0 0) 1).sendUpdate 4
    else s)

/-- The answer of a coordinator to a request. -/
def State.answerUpdate (s : State) (d : Die) (op reason m : Nat) (f : ZgFrame) : State :=
  s.zgCast d 0x0B (updBody op reason m (u16 f.body 4) (u64 f.body 8))

/-- UPDATE (R723): a request is granted or refused by the coordinator; a grant or refusal reaches the module it names; progress and
done keep and end a grant. -/
def execUpdate (d : Die) (port : Fin 24) (f : ZgFrame) (s : State) : Out :=
  .next (s.zgHear d port.val f 0x0B (fun s =>
    let m := u16 f.body 2
    let op := u8 f.body 0
    let mine : Bool := decide (m = s.ownId d ∧ zgFrom f = s.zgCoord d ∧ s.fld d UPD_STAT UPD_STAT__GRP = 1 ∧ s.updPhase = 2)
    let coord : Bool := decide (s.zgState d = 3)
    match op with
    | 1 =>
      if !coord || !s.isMem d m then s
      else
        let r := s.grantReason d m (u16 f.body 4)
        if r = 0 then (s.noteGrant d m).answerUpdate d 2 0 m f else s.answerUpdate d 3 r m f
    | 2 => if mine then s.granted else s
    | 3 => if mine && decide (u8 f.body 1 = 2) then s.notGranted else s
    | 4 =>
      if !coord then s
      else match (s.vol.get d).upd.holder with
        | some h => if h = m then s.noteGrant d m else s
        | none => s.noteGrant d m
    | 5 => s.updUpd d (fun u => { u with holder := if u.holder = some m then none else u.holder })
    | _ => s))

/-- GRANT_LAPSE: the holder is lost or has left, or made no progress for 10 s. -/
def execGrantLapse (d : Die) (s : State) : Out :=
  .next (
    match (s.vol.get d).upd.holder with
    | some m =>
      let gone := decide (m ≠ s.ownId d) && ((s.zgMember d m).lost || (s.zgMember d m).left || !s.isMem d m)
      if s.alive d && (gone || decide ((s.vol.get d).upd.grantAt + 10000000000 ≤ s.ns d)) then
        s.updUpd d (fun u => { u with holder := none })
      else s
    | none => s)

end Sys2Proof.Machine
end

