-- ==== Sys2Proof/Machine/Access.lean ====
section
/-! DEFINITION. The commands of spec/00 and spec/01: register writes and reads, rills, the pair link, mirrored writes, the
partner-die window and island clock records. -/

namespace Sys2Proof.Machine

/-! ### Registers (R7 to R12) -/

/-- A command register written with an undefined OP or TABLE, or a mode request without a request, where its result says so (R205, R353,
R463, R577). -/
def State.undefinedOp (s : State) (d : Die) (who : Initiator) (off : Nat) (v : Word) : State :=
  if off = SGW_ECMD ∧ s.sgwOk d who = true ∧ s.fld d SGW_ERES SGW_ERES__STATE ≠ 1 ∧ (SGW_ECMD__OP.get v % 3 = 0 ∨ SGW_ECMD__TABLE.get v = 3) then
    s.ecmdDone d 3 0 3
  else if off = SWC_FCMD ∧ s.sgwOk d who = true ∧ s.fld d SWC_FRES SWC_FRES__STATE ≠ 1 ∧ (SWC_FCMD__OP.get v = 0 ∨ 4 < SWC_FCMD__OP.get v) then
    s.fres d 3 4 0 false
  else if off = RGD_CMD ∧ RGD_CMD__OP.get v % 3 = 0 ∧ RGD_CMD__CONFIRM.get v = 0xA7 ∧ who.isManager = true then s.rgdResult d 3 0 5
  else match arrIdx (PWR_DCTL 0) 0x800 19 off with
    | some sd => s.dctlNone d who sd v
    | none => s

/-- REGISTER_WRITE (R7, R8, R12). The self page of the event controller answers application cores only (R635). A local write to a word ends the reservation of another module on it (R693). -/
def execRegisterWrite (d : Die) (who : Initiator) (off : BitVec 21) (v : Word) (s : State) : Out :=
  .next (
    if !s.alive d then s
    else if (regDef? off.toNat).isNone || (selfPage off.toNat && !who.isCore) then s.reply .error
    else ((s.regWrite d who off.toNat v).undefinedOp d who off.toNat v).localWrite d off.toNat)

/-- LOW_WORD_READ_LATCH (R10): a read of a low word latches the high word for its initiator; the read of the high word that
follows returns the latched value. At an unmapped offset the read returns all ones with an error response (R33). -/
def execLowWordReadLatch (d : Die) (who : Initiator) (off : BitVec 21) (s : State) : Out :=
  .next (
    if !s.alive d then s
    else if (regDef? off.toNat).isNone || !s.blockAnswers d who off.toNat then s.reply (.errorBytes (List.replicate 4 0xFF#8))
    else if latches off.toNat ≠ [] ∨ isLatched off.toNat = true then
      let r := s.readAs d who off.toNat none
      r.2.reply (.value r.1.toNat)
    else s)

/-- PARTNER_WINDOW_READ (R34): the request and its answer cross in class 0; the answer of the partner, or all ones with an error
response. A read of a low word latches the high word there (R10). A read the reader's own guards refuse is counted there (R569,
R571). -/
def execPartnerWindowRead (d : Die) (who : Initiator) (addr : BitVec 35) (n : Fin 9) (late : Bool) (s : State) : Out :=
  let a := addr.toNat
  let t := tagsOf who
  .next (
    if !s.alive d then s
    else match (if late && s.retraining then none else s.partnerRead d who t a n.val) with
      | some l => (((s.plNotice d 0 9 a).plNotice d.other 0 10 a).partnerLatch d who a n.val).reply (.bytes l)
      | none =>
        let s1 := if s.memAdmits d a n.val t .read then s else s.memRefuse d a t .read
        s1.reply (.errorBytes (List.replicate n.val 0xFF#8)))

/-! ### Rills (R23 to R26) -/

/-- RILL_TRANSFER: held while the receiver is not clocked (R25); otherwise it arrives, behind the transfers of the rill that were
held (R24, R26). -/
def execRillTransfer (d : Die) (src dst : Fin 18) (payload : BitVec 64) (bad badAgain : Bool) (s : State) : Out :=
  let h : RillHold := ⟨src, dst, payload, bad, badAgain⟩
  .next (
    if !s.alive d || decide (src = dst) then s
    else if !s.clocked d dst.val then s.updVol d (fun v => { v with rills := v.rills ++ [h] })
    else
      let s1 := (s.rillsRun d).rillArrive d h
      if bad && badAgain && [src, dst].any (fun n => decide (n.val = 0 ∨ n.val = 16)) then s1.fatal d 3 else s1)

/-! ### The pair link (R27 to R31) -/

/-- A change of one direction of the pair link: that of the flits a die sends. -/
def State.updLink (s : State) (d : Die) (f : LinkDir → LinkDir) : State := { s with link := s.link.upd d f }

/-- The flit sent next: the first of the highest class that waits (R31). -/
def nextFlit (l : List Flit) : Option Flit :=
  match l.find? (fun f => decide (f.cls = 3)), l.find? (fun f => decide (f.cls = 2)), l.find? (fun f => decide (f.cls = 1)) with
  | some f, _, _ => some f
  | _, some f, _ => some f
  | _, _, some f => some f
  | _, _, _ => l.head?

/-- The record of the pair link written by each die: lanes in lock, replays and retrains (R729). -/
def State.linkRecord (s : State) (sev code : Nat) : State :=
  let one := fun (st : State) (d : Die) =>
    st.recordSev d 0x0200 0x04 sev (s.fld d ISL_PLSTAT ISL_PLSTAT__LANEOK) code
      ((s.rd d ISL_PLREPLAY).toNat + 2 ^ 32 * (s.rd d ISL_PLRETRAIN).toNat)
  one (one s 0) 1

/-- Pair-link loss (R30, R525): both dies record it, flits are gone, homes go on without their spares. -/
def State.linkLoss (s : State) : State :=
  let s1 := ((s.setBoth ISL_PLSTAT ISL_PLSTAT__STATE 4).setBoth ISL_PLSTAT ISL_PLSTAT__LANEOK 0).setBoth ISL_PLSTAT ISL_PLSTAT__LOST 1
  let s2 := (s1.updUpd 0 (fun u => { u with copied := false })).updUpd 1 (fun u => { u with copied := false })
  let s3 := ({ s2 with link := ⟨{}, {}⟩ }.keepReserved 0).keepReserved 1
  ((s3.linkRecord 3 0x11).homesAlone 0).homesAlone 1

/-- The link retrains on the lanes of one half, 4 to 7 where `high` (R29). -/
def State.linkRetrain (s : State) (high : Bool) : State :=
  let s1 := ((s.setBoth ISL_PLSTAT ISL_PLSTAT__STATE 1).setBoth ISL_PLSTAT ISL_PLSTAT__LANEOK (if high then 0xF0 else 0x0F)).setBoth
    ISL_PLSTAT ISL_PLSTAT__DEGRADED 1
  let s2 := (s1.incWrap 0 ISL_PLRETRAIN whole).incWrap 1 ISL_PLRETRAIN whole
  (s2.updLink 0 (fun l => { l with errs := [], since := s.ns 0 })).updLink 1 (fun l => { l with errs := [], since := s.ns 1 })

/-- The oldest write of a list that has not reached the partner has reached it. -/
def mirrorThere : List MirrorWrite → List MirrorWrite
  | [] => []
  | m :: l => if m.there then m :: mirrorThere l else { m with there := true } :: l

/-- A flit that die `d` has accepted gives up what it carries. -/
def State.flitIn (s : State) (d : Die) (f : FlitBody) : State :=
  if !s.alive d then s else
  match f with
  | .notice _ _ => s
  | .ready n => s.updBoot d (fun b => { b with partnerReady := some n, differed := false })
  | .world st => s.updWld d (fun w => { w with notice := some st })
  | .serial sd typ ch low => s.sendCmd d sd typ ch low
  | .ack x e => match (s.dux d x).journal with
    | some j => if j.epoch = e then s.updDux d x (fun u => { u with acked := true }) else s
    | none => s
  | .feed e => s.updSwc d (fun x => { x with feedIn := x.feedIn ++ [e] })
  | .order c e => s.updCl d c (fun x => { x with orders := x.orders ++ [e] })
  | .log y r => if s.duxRole d y = 2 then s.logIn d y r else s
  | .journal y x j snap =>
    if s.duxRole d y ≠ 2 then s else
    (s.updDux d y (fun u => { u with arriving := some j, mayRelease := false })).updVol d (fun v => { v with
      evc := { v.evc with snapNext := tset {} v.evc.snapNext x snap } })
  | .write a mask l => s.dmaMasked d a mask l
  | .mirror => s.updVol d.other (fun v => { v with mirror := mirrorThere v.mirror })
  | .evc kind idx v => s.updVol d (fun k => { k with evcIn := k.evcIn ++ [(kind, idx, v)] })
  | .frame p => s.updSwc d (fun x => { x with p26 := x.p26 ++ [p] })

/-- Flits a replay buffer holds: 16 KB of 64 bytes (R28). -/
def replayFlits : Nat := 256

/-- FLIT_RECEIVE: die `d` receives the next flit of its partner (R28): of the replay buffer, else of what waits in order of class
(R31). One that fails its check stays in the replay buffer and a replay is asked for; what the sender sends until it replays goes into
the buffer behind it and is not accepted. Eight failed replays are a loss (R30); more than 16 errors of a lane in 1 ms retrain the
link on the other half (R29). -/
def execFlitReceive (d : Die) (lane : Fin 8) (crcOk : Bool) (s : State) : Out :=
  let e := d.other
  let l := s.link.get e
  .next (
    if !(s.linkUp && !s.retraining && bitOf (s.fld d ISL_PLSTAT ISL_PLSTAT__LANEOK) lane.val) then s
    else if l.replay then
      match nextFlit l.waiting with
      | some f =>
        if l.sent.length < replayFlits then
          s.updLink e (fun l => { l with waiting := l.waiting.erase f, sent := l.sent ++ [f] })
        else s
      | none => s
    else match (match l.sent with | f :: _ => some f | [] => nextFlit l.waiting) with
      | none => s
      | some f =>
        let rest := if l.sent = [] then l.waiting.erase f else l.waiting
        if crcOk then
          (s.updLink e (fun l => { l with waiting := rest, sent := l.sent.tail, accepted := l.accepted + 1, failed := 0 })).flitIn d
            f.body
        else
          let now := s.ns d
          let errs := (l.errs ++ [(lane.val, now)]).filter (fun x => decide (now < x.2 + 1000000))
          let s1 := s.updLink e (fun l => { l with
            waiting := rest, sent := if l.sent = [] then [f] else l.sent, failed := l.failed + 1, replay := true, errs := errs })
          if 9 ≤ l.failed + 1 then s1.linkLoss
          else if 16 < (errs.filter (fun x => decide (x.1 = lane.val))).length then s1.linkRetrain (decide (lane.val < 4))
          else s1)

/-- FLIT_REPLAY: the sender of die `d` replays the failed flit and every later one (R28). -/
def execFlitReplay (d : Die) (s : State) : Out :=
  .next (
    if s.linkUp && !s.retraining && (s.link.get d).replay then
      (s.updLink d (fun l => { l with replay := false })).incWrap d ISL_PLREPLAY whole
    else s)

/-- PAIR_LINK_RETRAIN (R29): a lane fails, of the link that is up or in its first training. -/
def execPairLinkRetrain (high : Bool) (s : State) : Out :=
  .next (if (s.linkUp && !s.retraining) || s.training then s.linkRetrain high else s)

/-- RETRAIN_COMPLETE: the link is up on four lanes, and the record of severity "degraded" is written (R29). -/
def execRetrainComplete (s : State) : Out :=
  .next (if s.retraining then (s.setBoth ISL_PLSTAT ISL_PLSTAT__STATE 3).linkRecord 2 0x10 else s)

/-- PAIR_LINK_LOSS (R30). -/
def execPairLinkLoss (s : State) : Out := .next (if s.linkUp then s.linkLoss else s)

/-! ### Mirrored writes (R41) -/

/-- The value of a mirrored write as a number, its words from the least significant on. -/
def wordsNat (l : List Word) : Nat := leBytes (l.flatMap (fun w => toLE 4 w.toNat)) 0 (4 * l.length)


/-- The nib and word of an index of the program port: cluster in bits 18:16, logical nib in bits 15:11, word in bits 10:0. -/
def programNib (d : Die) (i : Nat) : NibId := mkNib d (i / 65536 % 8) (i / 2048 % 32 % 30)

/-- Whether a write through a mirrored port is accepted: its writer, its index and the rules of its entry. -/
def State.mirrorOk (s : State) (d : Die) (who : Initiator) (port : MirrorPort) (i : Nat) (value : List Word) : Bool :=
  match port with
  | .descriptor | .fanOut | .pdu =>
    s.sgwOk d who && decide (s.fld d SGW_ERES SGW_ERES__STATE ≠ 1) && decide (value.length = if port = .pdu then 5 else 4)
  | .nibProgram =>
    let n := programNib d i
    decide (i < 2 ^ 19 ∧ i / 2048 % 32 < 30 ∧ value.length = 1) && s.imemOk n who
  | .pool => decide (i < 2 ^ 19 ∧ value.length = 1) && s.memAdmits d (poolAddr (i / 65536) (4 * (i % 65536))) 4 (tagsOf who) .write
  | .fdb => who.isManager && decide (i < 16384 ∧ value.length = 4) && fdbRule (wordsNat value)

/-- An entry written on one die. -/
def State.mirrorPut (s : State) (d : Die) (port : MirrorPort) (i : Nat) (value : List Word) : State :=
  match port with
  | .descriptor | .fanOut | .pdu => s.putBytes d (tableAddr (portTable port) i) (toLE (4 * value.length) (wordsNat value))
  | .nibProgram => s.imemPut (programNib d i) (i % 2048) (value.headD 0#32) true
  | .fdb => s.fdbSet d i (wordsNat value)
  | .pool => s.putBytes d (poolAddr (i / 65536) (4 * (i % 65536))) (toLE 4 (wordsNat value))

/-- The address and bytes of a pool that a mirrored write carries. -/
def mirrorContent (port : MirrorPort) (i : Nat) (value : List Word) : List (Nat × List Byte) :=
  match port with
  | .pool => [(poolAddr (i / 65536) (4 * (i % 65536)), toLE 4 (wordsNat value))]
  | _ => []

/-- MIRRORED_WRITE: this die accepts the entry, and it travels to the partner in class 1; without a partner that shares the tables
it completes at once. A write that breaks a rule of its table is ignored (R8); one that the pool's guard refuses ends in an error
(R569). The port of a gateway table is behind SGW_ECMD (R309, R343): the write is the entry put into SGW_EBUF and a write command with
MIRROR, with its result in SGW_ERES. -/
def execMirroredWrite (d : Die) (who : Initiator) (port : MirrorPort) (index : BitVec 24) (value : List Word) (s : State) : Out :=
  let i := index.toNat
  .next (
    if !s.alive d then s
    else if !s.mirrorOk d who port i value then
      if port = .pool ∧ i < 2 ^ 19 then
        (s.memRefuse d (poolAddr (i / 65536) (4 * (i % 65536))) (tagsOf who) .write).reply .error
      else s.reply (.value 0)
    else match portTable? port with
    | some t => (((List.range value.length).foldl (fun st k => st.wr d (SGW_EBUFi k) (value.getD k 0#32)) s).ecmdWrite d t i true
        false).reply (.value 0)
    | none =>
      let s1 := s.mirrorPut d port i value
      if s1.joint d then
        (s1.plSend d 1 .mirror (s1.pairCipher d (mirrorContent port i value))).updVol d (fun v => { v with mirror := v.mirror ++ [⟨port, i, value, false, false, false⟩] })
      else s1.reply (.value 0))

/-- MIRRORED_WRITE_COMPLETE: the oldest write of die `d`, which has reached the partner, is accepted there and completes; where the
partner is gone meanwhile it completes on this die alone. One of SGW_ECMD ends that command (R343). -/
def execMirroredWriteComplete (d : Die) (s : State) : Out :=
  .next (
    match (s.vol.get d).mirror with
    | [] => s
    | m :: l =>
      let s1 := s.updVol d (fun v => { v with mirror := l })
      let ends := fun (st : State) (partner : Nat) => (if m.cmd then st.ecmdDone d 2 partner 0 else st).reply (.value partner)
      if !s1.joint d then ends s1 0
      else if m.there then
        let s2 := s1.mirrorPut d.other m.port m.index m.value
        ends (if m.clear then s2.dropShadow d.other m.index else s2) 1
      else s)

/-! ### Island clocks (R19 to R22, R37, R38) -/

/-- The cluster that controls a switch die by the records still to be applied: that of its control record with the highest sequence
number, else the die number mod 8 (R59, R180). -/
def todoCluster (l : List Rec) (sd : Nat) : Nat :=
  match (l.filter (fun r => controlRecOk r && decide (r.inst = sd))).getLast? with
  | some r => u8 r.body 0
  | none => sd % 8

/-- Whether a nib of a cluster is assigned (R21): by a program or gateway record still to be applied, by a switch die it controls
(R180), or on either die now. -/
def State.clusterAssigned (s : State) (d : Die) (c : Nat) : Bool :=
  let l := (s.boot d).todo
  l.any (fun r => decide ((r.typ.toNat = 0x0302 ∨ r.typ.toNat = 0x0404) ∧ r.inst = c)) ||
  (List.range 19).any (fun sd => decide (todoCluster l sd = c)) ||
  [0, 1].any (fun (e : Die) => (s.cl e c).nibs.any (fun x => decide (x.2.prog ≠ .none)))

/-- ISLAND_CLOCK_RECORD. -/
def execIslandClockRecord (d : Die) (r : Rec) (s : State) : Out :=
  let b := r.body
  let n := r.inst
  let f := u16 b 0
  let gated := u8 b 2
  .next (s.applyRec d r 0 false 0x0C01
    (goodIf (decide (b.length = 8 ∧ gated < 2) && zeroBytes b 3 5 &&
      (if 1 ≤ n ∧ n ≤ 3 then decide (800 ≤ f ∧ f ≤ 2200 ∧ f % 100 = 0 ∧ gated = 0)
       else decide (4 ≤ n ∧ n ≤ 11 ∧ f = 400) && (decide (gated = 0) || !s.clusterAssigned d (n - 4)))))
    (fun s => (s.setF d (ISL_CLKn n) ISL_CLKn__FREQ f).setF d (ISL_CLKn n) ISL_CLKn__GATED gated))

end Sys2Proof.Machine
end

