-- ==== Sys2Proof/Machine/Electrical.lean ====
section
/-! DEFINITION. The commands of the connector and electrical chapter (spec/22): power of the switch dies, reversed feeds, VAUX. -/

namespace Sys2Proof.Machine

/-- SWITCH_DIE_POWER_UP (R83, R791): the die's logic begins anew with every channel off; cause 0x40. -/
def execSwitchDiePowerUp (sd : Fin 19) (s : State) : Out :=
  .next (if (s.sd sd.val).powered || s.cis.feedRev.get (if sdFeedB sd.val then 1 else 0) then s
    else ((s.causeRecord 0 (CIS_RSTSWn sd.val) 0x40 0).updSd sd.val (fun x => x.fresh true)).forgetSd sd.val)

/-- SWITCH_DIE_POWER_DOWN (R791): mode, latches and hold state are lost. -/
def execSwitchDiePowerDown (sd : Fin 19) (s : State) : Out :=
  .next (if (s.sd sd.val).powered then (s.updSd sd.val (fun x => x.fresh false)).forgetSd sd.val else s)

/-- Every switch of a feed's dies fully on or off, whatever their logic does (R794). -/
def State.reverseSwitches (s : State) (feedB on : Bool) : State :=
  (List.range 19).foldl (fun st sd =>
    if sdFeedB sd = feedB then (List.range (sdChans sd)).foldl (fun st k => st.updChan sd k (fun c => { c with on := on })) st
    else st) s

/-- FEED_REVERSE (R794): the Cistern shows the feed absent. -/
def execFeedReverse (feedB : Bool) (s : State) : Out :=
  let e : Die := if feedB then 1 else 0
  .next ((((s.updCis (fun c => { c with feedRev := c.feedRev.set e true })).setF 0 CIS_STAT
    (if feedB then CIS_STAT__FEEDB else CIS_STAT__FEEDA) 0)).reverseSwitches feedB true)

/-- FEED_REVERSE_END (R794). -/
def execFeedReverseEnd (feedB : Bool) (s : State) : Out :=
  let e : Die := if feedB then 1 else 0
  .next (if s.cis.feedRev.get e then
      (s.updCis (fun c => { c with feedRev := c.feedRev.set e false })).reverseSwitches feedB false
    else s)

/-- VAUX_OVERLOAD (R786): VAUX goes off and CIS_EVT.HEALTH is set. -/
def execVauxOverload (s : State) : Out :=
  .next (if s.cis.powered && s.cis.vaux && decide (s.fld 0 CIS_STAT CIS_STAT__STATE < 3) then
      (s.updCis (fun c => { c with vaux := false, vauxTrip := true, vauxAt := s.rtc })).setF 0 CIS_EVT CIS_EVT__HEALTH 1
    else s)

/-- VAUX_RETRY (R786): 100 ms after an overload VAUX is tried again. -/
def execVauxRetry (overloaded : Bool) (s : State) : Out :=
  .next (if !(s.cis.powered && s.cis.vauxTrip && decide (s.cis.vauxAt + 3276 ≤ s.rtc)) then s
    else if overloaded then (s.updCis (fun c => { c with vauxAt := s.rtc })).setF 0 CIS_EVT CIS_EVT__HEALTH 1
    else s.updCis (fun c => { c with vaux := true, vauxTrip := false }))

end Sys2Proof.Machine
end

