-- ==== Sys2Proof/Machine/GatewayProgram.lean ====
section
/-! DEFINITION. What the gateway program does with an entry of its stream (R318 to R320, R323 to R330, R333, R334, R337,
R339). The loader holds the program; its instructions are not given, its effect is. A gateway nib's MBX.GET takes an
entry and the program's pass over it is one effect. -/

namespace Sys2Proof.Machine

/-- What one pass collects: PDUs marked due, reports by partition and descriptor; and the ECC error it has still to meet (R222, R350). -/
structure Pass where
  due : List Nat := []
  reports : List (Nat × Nat) := []
  ecc : EccFind := .clean
  deriving DecidableEq, Repr

/-- Why a pass stops before its end: it loops until the watchdog expires (R317), or the guard of the signal store refuses an access
(R309), an uncorrectable error meets it with the partner absent (R350), or an index or field lies out of bounds (R291, R296). -/
inductive GwStop where
  | loops
  | refused (addr : Nat) (kind : AccKind)
  | ecc (addr : Nat)
  | bounds (eaddr : Nat)
  deriving DecidableEq, Repr

/-- How far a pass has come: it goes on with what it collected, or has stopped. -/
inductive GwOut where
  | go (s : State) (p : Pass)
  | stop (s : State) (why : GwStop)

/-- The next part of a pass. -/
def GwOut.bind (o : GwOut) (f : State → Pass → GwOut) : GwOut :=
  match o with
  | .go s p => f s p
  | .stop s w => .stop s w

/-- A part of a pass for each element of a list, in order. -/
def gwEach {α : Type} (l : List α) (s : State) (p : Pass) (f : State → Pass → α → GwOut) : GwOut :=
  l.foldl (fun o a => o.bind (fun s p => f s p a)) (.go s p)

/-- A part of a pass behind an access to the signal store that its guard must admit. The first read of the store meets the ECC error of
the turn (R350, log entry 114). -/
def State.gwNeed (s : State) (p : Pass) (n : NibId) (a len : Nat) (k : AccKind) (f : State → Pass → GwOut) : GwOut :=
  if !s.sigOk n a len k then .stop s (.refused a k)
  else if k = .write then f s p
  else match s.storeEcc n a p.ecc with
    | none => .stop s (.ecc a)
    | some t => f t (if p.ecc = .correctedData ∨ p.ecc = .badData then { p with ecc := .clean } else p)

/-- A part of a pass with a descriptor read through the cluster's cache (R221, R309). The first line it hits meets an ECC error of the
cache, which makes an uncorrectable one a miss (R222). An index beyond the table raises cause 0x03 (R291). -/
def State.gwDesc (s : State) (p : Pass) (n : NibId) (i : Nat) (f : State → Pass → Nat → GwOut) : GwOut :=
  if 262144 ≤ i then .stop s (.bounds i) else
  let hit := ((s.cl n.d n.c.val).cacheWay i).isSome && decide (p.ecc = .correctedLine ∨ p.ecc = .badLine)
  let t := if hit then s.cacheEcc n i p.ecc else s
  let q := if hit then { p with ecc := .clean } else p
  let go := fun (s : State) (p : Pass) =>
    let r := s.descRead n.d n.c.val i
    f r.2 p r.1
  if ((t.cl n.d n.c.val).cacheWay i).isSome then go t q else t.gwNeed q n (descAddr i) 16 .read go

/-- A gateway counter of a nib raised by 1 (R327). -/
def State.gwCount (s : State) (n : NibId) (off : Nat) : State :=
  let a := poolAddr n.c.val (0x3F000 + 64 * n.k.val + off)
  s.nibPut n.d n.c.val a (toLE 4 (s.leAt n.d a 4 + 1))

/-- A counter raised when a condition holds. -/
def State.gwCountIf (s : State) (n : NibId) (off : Nat) (b : Bool) : State := if b then s.gwCount n off else s

/-- The boundary of the receive area, a binary search over DIR (R320), with the entries it reads. -/
def State.rxEnd (s : State) (d : Die) : Nat → Nat → Nat → Nat × List Nat
  | 0, lo, _ => (lo, [])
  | f + 1, lo, hi =>
    if lo < hi then
      let mid := (lo + hi) / 2
      let r := if pDir (s.pdu d mid) = 1 then s.rxEnd d f (mid + 1) hi else s.rxEnd d f lo mid
      (r.1, mid :: r.2)
    else (lo, [])

/-- The search for a key among the receive entries (R320), with the entries it reads; `hi` is one past the last candidate. -/
def State.rxFind (s : State) (d : Die) (key : Nat) : Nat → Nat → Nat → Option Nat × List Nat
  | 0, _, _ => (none, [])
  | f + 1, lo, hi =>
    if lo < hi then
      let mid := (lo + hi - 1) / 2
      let k := pKey (s.pdu d mid)
      let r := if k = key then (some mid, []) else if k < key then s.rxFind d key f (mid + 1) hi else s.rxFind d key f lo mid
      (r.1, mid :: r.2)
    else (none, [])

/-- The receive PDU of a key, or none (R320), with the entries read to find it. -/
def State.rxLookup (s : State) (d : Die) (key : Nat) : Option Nat × List Nat :=
  let e := s.rxEnd d 18 0 65536
  let r := s.rxFind d key 18 0 e.1
  (r.1, e.2 ++ r.2)

/-- The handler number of a nib as PDU entries name it. -/
def handlerOf (n : NibId) : Nat := n.c.val * 32 + n.k.val

/-- A pool word of the nib's cluster, signed. -/
def State.poolWord (s : State) (n : NibId) (i : Nat) : Int := toSigned 64 (s.leAt n.d (poolAddr n.c.val (8 * i)) 8)

/-- Whether a signal is usable at a time under the FRESH of its descriptor: VALID and not stale (R325, R331). -/
def State.usable (s : State) (d : Die) (i v time : Nat) : Bool :=
  bitOf (s.tag d i) 31 && !tagStale (s.tag d i) (dFresh v) time

/-- The new value of a signal from a raw field, or none when it is invalid, with whether scaling clamped (R324). -/
def State.rawValue (s : State) (n : NibId) (v raw : Nat) : Option Int × Bool :=
  let r : Int := toSigned 64 (extend64 (dSigned v) (dLen v) raw)
  if raw = 2 ^ dLen v - 1 ∧ ¬dAov v then (none, false)
  else match dClass v with
    | 1 => let p := scaleIn v r; (if p.2 then none else some p.1, p.2)
    | 2 => (if 0 ≤ r ∧ r < dO v then some (s.poolWord n (dM v + r).toNat) else none, false)
    | _ => (some r, false)

/-- The value a signal's policy gives while it is not usable: none for all ones (R333). -/
def State.policyValue (s : State) (n : NibId) (i v : Nat) : Option Int :=
  match dPolicy v with
  | 1 => if bitOf (s.tag n.d i) 31 then some (toSigned 64 (s.shadow n.d i)) else none
  | 2 => match dClass v with
    | 1 => some (dO v * 2 ^ (32 + dE v).toNat)
    | 2 => some (s.poolWord n (dM v).toNat)
    | _ => some 0
  | _ => none

/-- The fan-out list of a descriptor: every entry from FANOUT through NEXT until LAST (R317); a list that does not end loops. -/
def State.fanList (s : State) (n : NibId) : Nat → Nat → Except GwStop (List Nat)
  | 0, _ => .error .loops
  | f + 1, e =>
    if 262144 ≤ e then .error (.bounds e)
    else if !s.sigOk n (fanAddr e) 16 .read then .error (.refused (fanAddr e) .read)
    else if fLast (s.fan n.d e) then .ok [e]
    else (s.fanList n f (fNext (s.fan n.d e))).map (fun l => e :: l)

/-- The targets of a changed signal with descriptor `v` marked due (R324, R339). -/
def State.markDue (s : State) (n : NibId) (i v : Nat) (p : Pass) : GwOut :=
  if dFanout v = 0xFFFFF then .go s p
  else match s.fanList n 262144 (dFanout v) with
    | .error w => .stop s w
    | .ok l => .go s (l.foldl (fun p e =>
        let f := s.fan n.d e
        if fKind f then { p with reports := p.reports ++ [(fTarget f % 32, i)] }
        else if p.due.contains (fTarget f) then p else { p with due := p.due ++ [fTarget f] }) p)

/-- One signal with descriptor `v` given a new value or found invalid (R324, R325, R333): stored or its policy applied; a change marks
its targets. -/
def State.setSignal (s : State) (n : NibId) (i v : Nat) (val : Option Int) (time : Nat) (p : Pass) : GwOut :=
  let d := n.d
  let old := (s.shadow d i, s.usable d i v time)
  let keep := val.isNone && decide (dPolicy v = 1)
  if !keep && !s.sigOk n (shadowAddr i) 8 .write then .stop s (.refused (shadowAddr i) .write)
  else
    let s1 := match val with
      | some x => (s.storeShadow d i (ofSigned 64 x) time).gwCount n 0x0C
      | none => (if keep then s else s.dropShadow d i).gwCount n 0x10
    let s2 := s1.updNib n (fun x => { x with stale := x.stale.filter (fun k => decide (k ≠ i) || val.isNone) })
    if old = (s2.shadow d i, s2.usable d i v time) then .go s2 p else s2.markDue n i v p

/-- The sticky flag of the nib set by a clamp of its program (R271). -/
def State.gwClamp (s : State) (n : NibId) (b : Bool) : State := s.updNib n (fun x => x.clampS b)

/-- Every signal of a received PDU (R324): its field from the data, `bit` reads a bit of them and `bits` is how many there
are. -/
def State.rxSignals (s : State) (n : NibId) (pdu time bits : Nat) (bit : Nat → Bool) (p : Pass) : GwOut :=
  let e := s.pdu n.d pdu
  gwEach ((List.range (pCount e)).map (pFirst e + ·)) s p (fun s p i =>
    s.gwDesc p n i (fun s p v =>
      s.gwNeed p n (shadowAddr i) 8 .read (fun s p =>
        let ps := fieldPos (dMsb v) (dStart v) (dLen v)
        if !inBounds bits ps then s.setSignal n i v none time p
        else
          let r := s.rawValue n v (gather bit ps)
          ((s.gwCountIf n 0x18 r.2).gwClamp n r.2).setSignal n i v r.1 time p)))

/-- A bit of a byte list. -/
def bitIn (l : List Byte) (p : Nat) : Bool := bitOf (l.getD (p / 8) 0#8).toNat (p % 8)

/-- A received frame or ACF message under its key (R320, R324): none or another handler counts as unrouted. -/
def State.rxFrame (s : State) (n : NibId) (key time : Nat) (data : List Byte) (p : Pass) : GwOut :=
  (gwEach (s.rxLookup n.d key).2 s p (fun s p i => s.gwNeed p n (pduAddr i) 32 .read .go)).bind (fun s p =>
    match (s.rxLookup n.d key).1 with
    | some i =>
      if pHandler (s.pdu n.d i) = handlerOf n then (s.gwCount n 0x00).rxSignals n i time (8 * data.length) (bitIn data) p
      else .go (s.gwCount n 0x04) p
    | none => .go (s.gwCount n 0x04) p)

/-- The receive key of a frame (R313). -/
def rxKey (kind port bus idword : Nat) : Nat :=
  kind * 2 ^ 42 + port * 2 ^ 37 + bus * 2 ^ 32 + Nat.land idword 0xBFFFFFFF

/-- A big-endian number in a byte list. -/
def beAt (l : List Byte) (i n : Nat) : Nat := leBytes ((l.drop i).take n).reverse 0 n

/-- One ACF message: its key for port `p` and its payload, none for a type the gateway skips (R319; layouts of IEEE
1722-2016). -/
def acfMessage (port : Nat) (m : List Byte) : Option (Nat × List Byte) :=
  let typ := beAt m 0 2 / 512
  let quads := beAt m 0 2 % 512
  let flags := beAt m 2 1
  let padding := flags / 64
  let cut := fun (h : Nat) => (m.take (4 * quads - padding)).drop h
  if typ = 1 then some (rxKey 2 port (beAt m 3 1 % 32) (beAt m 12 4 % 2 ^ 29 + 2 ^ 29 * (flags / 8 % 2)), cut 16)
  else if typ = 2 then some (rxKey 2 port (beAt m 3 1 % 32) (beAt m 4 4 % 2 ^ 29 + 2 ^ 29 * (flags / 8 % 2)), cut 8)
  else if typ = 3 then some (rxKey 2 port (flags % 32) (beAt m 3 1), cut 12)
  else none

/-- The ACF messages of a frame, in order. -/
def acfWalk : Nat → List Byte → List (List Byte)
  | 0, _ => []
  | f + 1, l =>
    let q := beAt l 0 2 % 512
    if l.length < 4 ∨ q = 0 ∨ l.length < 4 * q then [] else l.take (4 * q) :: acfWalk f (l.drop (4 * q))

/-- The ACF messages of an Ethernet frame, when it is NTSCF or TSCF after at most one VLAN tag (R319). -/
def acfMessages (frame : List Byte) : List (List Byte) :=
  let t := if beAt frame 12 2 = 0x8100 then 16 else 12
  if beAt frame t 2 ≠ 0x22F0 then []
  else if beAt frame (t + 2) 1 = 0x82 then
    acfWalk 512 ((frame.drop (t + 14)).take (beAt frame (t + 3) 2 % 2048))
  else if beAt frame (t + 2) 1 = 0x05 then
    acfWalk 512 ((frame.drop (t + 26)).take (beAt frame (t + 22) 2))
  else []

/-! ### Sending -/

/-- The value of a source with descriptor `v` as a fan-out entry carries it: a raw value or all ones, with whether SCL.O clamped it
and whether it saturated or wrapped (R326). -/
def State.targetValue (s : State) (n : NibId) (f v time : Nat) : Option Int × Bool × Bool :=
  let i := fSource f
  let val := if s.usable n.d i v time then some (toSigned 64 (s.shadow n.d i)) else s.policyValue n i v
  match val with
  | none => (none, false, false)
  | some x =>
    let r := if dClass v = 0 then rangeStep f x else scaleOut f x
    (some r.1, r.2.1, r.2.1 || r.2.2)

/-- Step 5 of R326: an unsigned value of all ones is kept below it unless AOF; with whether it was. That the step takes a policy value too is the model's choice
(log entry 116). -/
def keepBelow (f : Nat) (x : Int) : Int × Bool :=
  if fAof f = false ∧ fSigned f = false ∧ x = 2 ^ fLen f - 1 then (x - 1, true) else (x, false)

/-- Bytes put into a nib's staging buffer from an offset on. -/
def State.stage (s : State) (n : NibId) (off : Nat) (l : List Byte) : State :=
  s.updNib n (fun x => { x with staging := (List.range l.length).foldl (fun t i => tset 0#8 t (off + i) (l.getD i 0#8)) x.staging })

/-- The transmit PDU built in the staging buffer (R326): FILL, each field at byte offset 4 in index order, the PDU word; saturations and
wraps are counted, a clamp and step 5 set S. A fan-out index beyond the table, or a field beyond the buffer, raises cause 0x03 (R291,
R296). -/
def State.buildPdu (s : State) (n : NibId) (pdu time : Nat) (p : Pass) : GwOut :=
  let e := s.pdu n.d pdu
  (gwEach ((List.range (pCount e)).map (pFirst e + ·)) (s.stage n 4 (List.replicate (pLength e) (BitVec.ofNat 8 (pFill e)))) p
    (fun s p k => if 262144 ≤ k then .stop s (.bounds k) else s.gwNeed p n (fanAddr k) 16 .read (fun s p =>
      let f := s.fan n.d k
      s.gwDesc p n (fSource f) (fun s p v => s.gwNeed p n (shadowAddr (fSource f)) 8 .read (fun s p =>
        let x := s.targetValue n f v time
        let ps := fieldPos (fMsb f) (fStart f) (fLen f)
        if !inBounds (8 * 2044) ps then .stop s (.bounds 0xC0001800) else
        match x.1 with
        | some q =>
          let y := keepBelow f q
          .go (((s.gwCountIf n 0x1C x.2.2).gwClamp n (x.2.1 || y.2)).updNib n (fun z => { z with
            staging := putField z.staging 4 (ofSigned 64 y.1) ps })) p
        | none => .go (s.updNib n (fun z => { z with staging := putField z.staging 4 (2 ^ 64 - 1) ps })) p))))).bind
    (fun s p => .go (s.stage n 0 (toLE 4 (2 ^ 31 + pdu))) p)

/-- The mailbox of a nib for a kind and target, when it holds a credit. -/
def Nib.boxFor (x : Nib) (kind target : Nat) : Option Nat :=
  (List.range 16).find? (fun m =>
    let b := tget {} x.boxes m
    decide (b.kind = kind ∧ b.target = target ∧ 0 < b.held))

/-- Bytes sent through a mailbox for one credit. -/
def State.gwPut (s : State) (n : NibId) (m : Nat) (bytes : List Byte) : State :=
  (s.updNib n (fun x => { x with boxes := tupd {} x.boxes m (fun b => { b with held := b.held - 1 }) })).sendItem n m bytes

/-- A PDU kept pending for a later gateway tick. -/
def State.gwDefer (s : State) (n : NibId) (pdu : Nat) : State :=
  s.updNib n (fun x => { x with due := if x.due.contains pdu then x.due else x.due ++ [pdu] })

/-- A PDU sent now by its owner, counted in `counter`; without a credit it stays pending. -/
def State.gwSend (s : State) (n : NibId) (pdu time counter : Nat) (p : Pass) : GwOut :=
  s.gwNeed p n (pduAddr pdu) 32 .read (fun s p =>
    let e := s.pdu n.d pdu
    let kind := if pKind e = 2 then 1 else 2
    let target := if pKind e = 1 then 16 + pPort e else pPort e
    match (s.nib n).boxFor kind target with
    | some m =>
      (s.buildPdu n pdu time p).bind (fun s p =>
        let s1 := s.updNib n (fun x => { x with due := x.due.filter (fun i => decide (i ≠ pdu)) })
        .go ((s1.gwPut n m ((s1.nib n).staged (4 + pLength e))).gwCount n counter) p)
    | none => .go (s.gwDefer n pdu) p)

/-- Whether MINGAP still defers an on-change send (R328). -/
def gapHolds (e time : Nat) : Bool := decide (time < pLastStamp e + pMinGap e * 100000)

/-- An on-change send of a PDU its owner makes now or defers; a PDU deferred already is counted once (R328). -/
def State.onChange (s : State) (n : NibId) (pdu time : Nat) (p : Pass) : GwOut :=
  s.gwNeed p n (pduAddr pdu) 32 .read (fun s p =>
    let e := s.pdu n.d pdu
    if pTrig e = 1 ∨ pDir e ≠ 2 then .go s p
    else if gapHolds e time then
      if (s.nib n).due.contains pdu then .go s p else .go ((s.gwDefer n pdu).gwCount n 0x28) p
    else s.gwSend n pdu time 0x20 p)

/-- One record of a report to a partition on a signal with descriptor `v` (R339). -/
def State.reportRecord (s : State) (n : NibId) (i v time : Nat) : List Byte :=
  let st := s.shadowStatus n.d i (dFresh v) time
  let val : Nat := if st.1 && !st.2 then s.shadow n.d i else
    match s.policyValue n i v with
    | some x => ofSigned 64 x
    | none => 2 ^ 64 - 1
  toLE 4 i ++ toLE 1 (b2n st.1 + 2 * b2n st.2) ++ toLE 1 (dClass v) ++ toLE 2 0 ++ toLE 8 val

/-- The records of a report, each descriptor read as DSC.LD.D reads it and each shadow behind the guard, then what follows them. -/
def State.reportBody (n : NibId) (time : Nat) (f : State → Pass → List Byte → GwOut) : List Nat → State → Pass → List Byte → GwOut
  | [], s, p, acc => f s p acc
  | i :: l, s, p, acc =>
    s.gwDesc p n i (fun s p v => s.gwNeed p n (shadowAddr i) 8 .read (fun s p =>
      State.reportBody n time f l s p (acc ++ s.reportRecord n i v time)))

/-- A report to one partition, sent or held for want of a credit (R339). -/
def State.gwReport (s : State) (n : NibId) (q : Nat) (ds : List Nat) (time : Nat) (p : Pass) : GwOut :=
  let all := (tget [] (s.nib n).reports q ++ ds).dedup
  match (s.nib n).boxFor 3 q with
  | some m =>
    State.reportBody n time (fun s p body =>
      .go (((s.updNib n (fun x => { x with reports := tset [] x.reports q [] })).gwPut n m
        (toLE 2 body.length ++ toLE 1 3 ++ toLE 13 0 ++ body)).gwCount n 0x30) p) all s p []
  | none => .go ((s.updNib n (fun x => { x with reports := tset [] x.reports q all })).gwCount n 0x34) p

/-- The due notices a nib holds sent to the owners of their PDUs, each where its kind-4 mailbox has a credit (R328, R330). -/
def State.sendNotices (s : State) (n : NibId) (p : Pass) : GwOut :=
  gwEach (s.nib n).notices s p (fun s p i => s.gwNeed p n (pduAddr i) 32 .read (fun s p =>
    match (s.nib n).boxFor 4 (pHandler (s.pdu n.d i)) with
    | some m => .go (((s.updNib n (fun x => { x with notices := x.notices.filter (fun j => decide (j ≠ i)) })).gwPut n m
        (toLE 4 (0x40000000 + i))).gwCount n 0x2C) p
    | none => .go s p))

/-- The end of a pass (R324, R328, R339): own due PDUs sent or deferred, a due notice to the owner of each other one, one
report per partition; notices and reports held for a credit go out when one has come back. -/
def State.endPass (s : State) (n : NibId) (time : Nat) (p : Pass) : GwOut :=
  ((gwEach p.due s p (fun s p i => s.gwNeed p n (pduAddr i) 32 .read (fun s p =>
    if pHandler (s.pdu n.d i) = handlerOf n then s.onChange n i time p
    else .go (s.updNib n (fun x => { x with notices := if x.notices.contains i then x.notices else x.notices ++ [i] })) p))).bind
      (fun s p => (s.sendNotices n p).bind (fun s p => gwEach (p.reports.map (·.1)).dedup s p (fun s p q =>
        s.gwReport n q ((p.reports.filter (fun r => decide (r.1 = q))).map (·.2)) time p)))).bind
      (fun s p => gwEach ((s.nib n).reports.map (·.1)) s p (fun s p q =>
        if ((s.nib n).boxFor 3 q).isSome && !(tget [] (s.nib n).reports q).isEmpty then s.gwReport n q [] time p else .go s p))

/-! ### Ticks and messages -/

/-- Whether a signal belongs to this nib: its source PDU names it as handler, or it is written by a partition whose
mailbox this nib subscribes. The descriptor is the cached one where the cluster holds a copy (R346). -/
def State.ownsSignal (s : State) (n : NibId) (i : Nat) : Bool :=
  let src := dSource (s.descRead n.d n.c.val i).1
  if src < 65536 then decide (pHandler (s.pdu n.d src) = handlerOf n)
  else ((s.nib n).subOf (0x200 + src % 32)).isSome

/-- The signals that have become stale at a gateway tick, treated as changes (R334). -/
def State.staleSignals (s : State) (n : NibId) (time : Nat) (p : Pass) : GwOut :=
  gwEach ((s.vol.get n.d).gw.tags.map (·.1)) s p (fun s p i =>
    if !s.ownsSignal n i || (s.nib n).stale.contains i then .go s p
    else s.gwDesc p n i (fun s p v =>
      let look := fun (s : State) (p : Pass) => s.gwNeed p n (shadowAddr i) 8 .read (fun s p =>
        if tagStale (s.tag n.d i) (dFresh v) time then
          ((s.updNib n (fun x => { x with stale := x.stale ++ [i] })).gwCount n 0x14).markDue n i v p
        else .go s p)
      if dSource v < 65536 then s.gwNeed p n (pduAddr (dSource v)) 32 .read look else look s p))

/-- The last due instant of a cyclic PDU at or before a stamp (R329). -/
def lastDue (e time : Nat) : Option Nat :=
  let period := 1000 * pCycle e
  let phase := 1000 * pCycle e * pOffset e / 256
  if time < phase then none else some (time - (time - phase) % period)

/-- A gateway tick: stale transitions, then due cyclic sends, each in place of a pending on-change send of its PDU, then
the deferred on-change sends whose gap has passed (R328, R329, R334, R352). A PDU sent so is not due once more. The nib's first
gateway tick is the first one at or after every due instant that has passed. -/
def State.gwTickPass (s : State) (n : NibId) (time : Nat) (p : Pass) : GwOut :=
  (s.staleSignals n time p).bind (fun s p =>
    let prev := (s.nib n).lastTick
    let own := (List.range 65536).filter (fun i =>
      let e := s.pdu n.d i
      decide (pDir e = 2 ∧ pTrig e ≠ 0 ∧ pHandler e = handlerOf n))
    let due := own.filter (fun i =>
      match lastDue (s.pdu n.d i) time, prev with
      | some t, some l => decide (l < t)
      | some _, none => true
      | none, _ => false)
    ((gwEach own s p (fun s p i => s.gwNeed p n (pduAddr i) 32 .read .go)).bind (fun s p =>
      gwEach due s p (fun s p i => s.gwSend n i time 0x24 p))).bind (fun s p =>
      let now := (s.nib n).due.filter (fun i => !due.contains i && !gapHolds (s.pdu n.d i) time)
      (gwEach now s p (fun s p i => s.gwSend n i time 0x20 p)).bind (fun s p =>
        .go (s.updNib n (fun x => { x with lastTick := some time }))
          { p with due := p.due.filter (fun i => !due.contains i && !now.contains i) })))

/-- A partition's signal-set message, record by record (R337). A record with a reserved bit of the index set or an operation above 2 is
counted as rejected and the next one is taken: the model's choice (log entry 116). -/
def State.signalSet (s : State) (n : NibId) (part time : Nat) (body : List Byte) (p : Pass) : GwOut :=
  gwEach (List.range (body.length / 16)) s p (fun s p j =>
    let i := u32 body (16 * j)
    let op := u8 body (16 * j + 4)
    let x := u64 body (16 * j + 8)
    if 262144 ≤ i then .go (s.gwCount n 0x38) p
    else s.gwDesc p n i (fun s p v =>
      if dSource v ≠ 0xFFFE0 + part ∨ 2 < op then .go (s.gwCount n 0x38) p
      else s.gwNeed p n (shadowAddr i) 8 .read (fun s p =>
        if op = 0 then s.setSignal n i v (some (toSigned 64 x)) time p
        else if op = 1 then
          let r := s.rawValue n v (x % 2 ^ dLen v)
          ((s.gwCountIf n 0x18 r.2).gwClamp n r.2).setSignal n i v r.1 time p
        else s.setSignal n i v none time p)))

/-- The gateway program's pass over the entry it has taken. -/
def State.gwEntry (s : State) (n : NibId) (e : StreamEntry) (p : Pass) : GwOut :=
  let data := e.payload
  if e.src < 0x1C then
    if e.err then .go (s.gwCount n 0x08) p
    else
      let id := u32 data (data.length - 8)
      let dlen := u16 data (data.length - 4) % 2 ^ 11
      s.rxFrame n (if e.src < 0x10 then rxKey 0 e.src 0 id else rxKey 1 (e.src - 0x10) 0 id) e.stamp (data.take dlen) p
  else if 0x100 ≤ e.src ∧ e.src < 0x118 then
    if e.err then .go (s.gwCount n 0x08) p
    else if s.bit n.d (SGW_AkCFG (e.src - 0x100)) SGW_AkCFG__RXEN then
      gwEach (acfMessages data) s p (fun s p m =>
        match acfMessage (e.src - 0x100) m with
        | some (key, pl) => s.rxFrame n key e.stamp pl p
        | none => .go s p)
    else .go s p
  else if 0x200 ≤ e.src ∧ e.src < 0x220 then
    if u8 data 2 = 1 then s.signalSet n (e.src - 0x200) e.stamp ((data.drop 16).take (u16 data 0)) p else .go s p
  else if 0x300 ≤ e.src ∧ e.src < 0x310 then
    if (s.cl n.d n.c.val).gwTick = some (e.src - 0x300) then s.gwTickPass n e.stamp p else .go s p
  else if 0x400 ≤ e.src ∧ e.src < 0x500 then
    .go s { p with due := ((List.range (data.length / 4)).map (fun i => u32 data (4 * i))).filterMap (fun w =>
      if 0x40000000 ≤ w ∧ w < 0x40010000 then some (w - 0x40000000) else none) }
  else .go s p

/-- The nib after a pass: at its next MBX.GET, or with the cause that ended the pass taken (R219, R249); what the pass had stored until
then stays. -/
def GwOut.close (o : GwOut) (n : NibId) : State :=
  match o with
  | .go s _ => s
  | .stop s .loops => (s.updNib n (fun x => { x with wdogHit := true })).nibBoundary n
  | .stop s (.refused a k) => (s.guardRefuse n.d 3 a (nibTags n) k).nibRaise n 3 a 0
  | .stop s (.ecc a) => s.nibRaise n 4 a 3
  | .stop s (.bounds a) => s.nibRaise n 3 a 0

/-- One turn of the gateway program: MBX.GET, the pass over the entry, its sends. An error on the fetch is met before the entry is taken,
one on data in the pass (R222, R350). -/
def State.gatewayTurn (s : State) (n : NibId) (ecc : EccFind) : State :=
  let s := if ecc = .corrected then s.nibEcc n 0x07 5 (s.nib n).pc else s
  if ecc = .badFetch then s.nibRaise n 4 (s.nib n).pc 5 else
  match s.mbxGet n 0 with
  | .done t =>
    match (t.nib n).cur with
    | none => t
    | some e => (((t.updNib n (fun x => { x with run := .running })).gwEntry n e { ecc := ecc }).bind (fun s p => s.endPass n e.stamp p)).close n
  | .hold t => t
  | _ => s

/-- MBX.GET: applies the silent entries ahead of the next delivered entry and makes it current, or blocks (R238). On a nib
that runs the gateway program the entry is then processed by it (R323). -/
def execMbxGet (n : NibId) (w : Word) (ecc : EccFind) (s : State) : Out :=
  .next (
    if (s.nib n).prog = .gateway then (if s.nibRuns n then s.gatewayTurn n ecc else s)
    else s.nibInstr n w ecc (opSig 0x20 true false false) .plain (nibKnown w) (fun _ => true) (fun s => s.mbxGet n (wRd w)))

end Sys2Proof.Machine
end

