-- ==== Sys2Proof/Machine/Dispatch.lean ====
section
/-! DEFINITION. Which meaning each command has: one arm per constructor of Instr. -/

namespace Sys2Proof.Machine

def exec (i : Instr) (s : State) : Host.Outcome State Fault Refusal :=
  match i with
  | .registerWrite d who off v => Sys2Proof.Machine.execRegisterWrite d who off v s
  | .lowWordReadLatch d who off => Sys2Proof.Machine.execLowWordReadLatch d who off s
  | .partnerWindowRead d who addr n late => Sys2Proof.Machine.execPartnerWindowRead d who addr n late s
  | .rillTransfer d src dst payload bad badAgain => Sys2Proof.Machine.execRillTransfer d src dst payload bad badAgain s
  | .flitReceive d lane crcOk => Sys2Proof.Machine.execFlitReceive d lane crcOk s
  | .flitReplay d => Sys2Proof.Machine.execFlitReplay d s
  | .pairLinkRetrain high => Sys2Proof.Machine.execPairLinkRetrain high s
  | .retrainComplete => Sys2Proof.Machine.execRetrainComplete s
  | .pairLinkLoss => Sys2Proof.Machine.execPairLinkLoss s
  | .mirroredWrite d who port index value => Sys2Proof.Machine.execMirroredWrite d who port index value s
  | .mirroredWriteComplete d => Sys2Proof.Machine.execMirroredWriteComplete d s
  | .powerOnReset => Sys2Proof.Machine.execPowerOnReset s
  | .brownOut => Sys2Proof.Machine.execBrownOut s
  | .strapSample pins => Sys2Proof.Machine.execStrapSample pins s
  | .moduleReset cause => Sys2Proof.Machine.execModuleReset cause s
  | .dieReset d cause => Sys2Proof.Machine.execDieReset d cause s
  | .partitionReset p policy => Sys2Proof.Machine.execPartitionReset p policy s
  | .nibClusterReset d c cause => Sys2Proof.Machine.execNibClusterReset d c cause s
  | .switchDieReset sd cause => Sys2Proof.Machine.execSwitchDieReset sd cause s
  | .rstreqModule d who confirm => Sys2Proof.Machine.execRstreqModule d who confirm s
  | .rstreqDie d who confirm target => Sys2Proof.Machine.execRstreqDie d who confirm target s
  | .rstreqPartition d who confirm target => Sys2Proof.Machine.execRstreqPartition d who confirm target s
  | .rstreqNibCluster d who confirm target on => Sys2Proof.Machine.execRstreqNibCluster d who confirm target on s
  | .rstreqSwitchDie d who confirm target => Sys2Proof.Machine.execRstreqSwitchDie d who confirm target s
  | .resetNAssert => Sys2Proof.Machine.execResetNAssert s
  | .resetNRelease => Sys2Proof.Machine.execResetNRelease s
  | .qDieRelease d selfOk => Sys2Proof.Machine.execQDieRelease d selfOk s
  | .loaderDonation d => Sys2Proof.Machine.execLoaderDonation d s
  | .ductusVerify d => Sys2Proof.Machine.execDuctusVerify d s
  | .verificationExchange => Sys2Proof.Machine.execVerificationExchange s
  | .partnerResultTimeout d => Sys2Proof.Machine.execPartnerResultTimeout d s
  | .imageDonation d => Sys2Proof.Machine.execImageDonation d s
  | .islandClockRecord d r => Sys2Proof.Machine.execIslandClockRecord d r s
  | .channelRecord d r => Sys2Proof.Machine.execChannelRecord d r s
  | .feedRecord d r => Sys2Proof.Machine.execFeedRecord d r s
  | .switchDieControlRecord d r => Sys2Proof.Machine.execSwitchDieControlRecord d r s
  | .failSafeEntryRecord d r => Sys2Proof.Machine.execFailSafeEntryRecord d r s
  | .clusterRecord d r => Sys2Proof.Machine.execClusterRecord d r s
  | .programRecord d r => Sys2Proof.Machine.execProgramRecord d r s
  | .subscriptionRecord d r => Sys2Proof.Machine.execSubscriptionRecord d r s
  | .tickRecord d r => Sys2Proof.Machine.execTickRecord d r s
  | .mailboxRecord d r => Sys2Proof.Machine.execMailboxRecord d r s
  | .descriptorBlockRecord d r => Sys2Proof.Machine.execDescriptorBlockRecord d r s
  | .fanOutBlockRecord d r => Sys2Proof.Machine.execFanOutBlockRecord d r s
  | .pduBlockRecord d r => Sys2Proof.Machine.execPduBlockRecord d r s
  | .gatewayRecord d r => Sys2Proof.Machine.execGatewayRecord d r s
  | .partitionMailboxRecord d r => Sys2Proof.Machine.execPartitionMailboxRecord d r s
  | .acfPortRecord d r => Sys2Proof.Machine.execAcfPortRecord d r s
  | .valueTableRecord d r => Sys2Proof.Machine.execValueTableRecord d r s
  | .canControllerRecord d r => Sys2Proof.Machine.execCanControllerRecord d r s
  | .canFiltersRecord d r => Sys2Proof.Machine.execCanFiltersRecord d r s
  | .linControllerRecord d r => Sys2Proof.Machine.execLinControllerRecord d r s
  | .linFrameTableRecord d r => Sys2Proof.Machine.execLinFrameTableRecord d r s
  | .linScheduleRecord d r => Sys2Proof.Machine.execLinScheduleRecord d r s
  | .senseInputsRecord d r => Sys2Proof.Machine.execSenseInputsRecord d r s
  | .satelliteBusRecord d r => Sys2Proof.Machine.execSatelliteBusRecord d r s
  | .portRecord d r => Sys2Proof.Machine.execPortRecord d r s
  | .switchRecord d r => Sys2Proof.Machine.execSwitchRecord d r s
  | .switchPortRecord d r => Sys2Proof.Machine.execSwitchPortRecord d r s
  | .vlanBlockRecord d r => Sys2Proof.Machine.execVlanBlockRecord d r s
  | .staticEntriesRecord d r => Sys2Proof.Machine.execStaticEntriesRecord d r s
  | .gateListRecord d r => Sys2Proof.Machine.execGateListRecord d r s
  | .hostQueuesRecord d r => Sys2Proof.Machine.execHostQueuesRecord d r s
  | .timeRecord d r => Sys2Proof.Machine.execTimeRecord d r s
  | .phasePlanRecord d r => Sys2Proof.Machine.execPhasePlanRecord d r s
  | .gptpPortRecord d r => Sys2Proof.Machine.execGptpPortRecord d r s
  | .pulseOutputRecord d r => Sys2Proof.Machine.execPulseOutputRecord d r s
  | .lanePinRecord d r => Sys2Proof.Machine.execLanePinRecord d r s
  | .duplexRecord d r => Sys2Proof.Machine.execDuplexRecord d r s
  | .epochRecord d r => Sys2Proof.Machine.execEpochRecord d r s
  | .openImageRecord d r => Sys2Proof.Machine.execOpenImageRecord d r s
  | .energyPolicyRecord d r => Sys2Proof.Machine.execEnergyPolicyRecord d r s
  | .wakePinsRecord d r => Sys2Proof.Machine.execWakePinsRecord d r s
  | .feedWatchRecord d r => Sys2Proof.Machine.execFeedWatchRecord d r s
  | .groupRecord d r => Sys2Proof.Machine.execGroupRecord d r s
  | .remoteAccessRecord d r => Sys2Proof.Machine.execRemoteAccessRecord d r s
  | .roamingRecord d r => Sys2Proof.Machine.execRoamingRecord d r s
  | .updatePolicyRecord d r => Sys2Proof.Machine.execUpdatePolicyRecord d r s
  | .compatibilityRecord d r => Sys2Proof.Machine.execCompatibilityRecord d r s
  | .faultPolicyRecord d r => Sys2Proof.Machine.execFaultPolicyRecord d r s
  | .debugPolicyRecord d r => Sys2Proof.Machine.execDebugPolicyRecord d r s
  | .sealedKeyStoreRecord d r => Sys2Proof.Machine.execSealedKeyStoreRecord d r s
  | .partitionRecord d r => Sys2Proof.Machine.execPartitionRecord d r s
  | .gateBlockRecord d r => Sys2Proof.Machine.execGateBlockRecord d r s
  | .assignmentBlockRecord d r => Sys2Proof.Machine.execAssignmentBlockRecord d r s
  | .sealedWorldRecord d r => Sys2Proof.Machine.execSealedWorldRecord d r s
  | .sealedCodeRecord d r => Sys2Proof.Machine.execSealedCodeRecord d r s
  | .regionBlockRecord d r => Sys2Proof.Machine.execRegionBlockRecord d r s
  | .routeBlockRecord d r => Sys2Proof.Machine.execRouteBlockRecord d r s
  | .controllerRecord d r => Sys2Proof.Machine.execControllerRecord d r s
  | .softwareSettersRecord d r => Sys2Proof.Machine.execSoftwareSettersRecord d r s
  | .nibStart d c => Sys2Proof.Machine.execNibStart d c s
  | .sealReady d => Sys2Proof.Machine.execSealReady d s
  | .seal d => Sys2Proof.Machine.execSeal d s
  | .sealReadyTimeout d => Sys2Proof.Machine.execSealReadyTimeout d s
  | .switchDiePowerUp sd => Sys2Proof.Machine.execSwitchDiePowerUp sd s
  | .startEntry sd => Sys2Proof.Machine.execStartEntry sd s
  | .holdTimeEnd sd => Sys2Proof.Machine.execHoldTimeEnd sd s
  | .switchDiePowerDown sd => Sys2Proof.Machine.execSwitchDiePowerDown sd s
  | .limpPinChange pin level => Sys2Proof.Machine.execLimpPinChange pin level s
  | .undervoltageTurnOff sd volt => Sys2Proof.Machine.execUndervoltageTurnOff sd volt s
  | .undervoltageRestart sd => Sys2Proof.Machine.execUndervoltageRestart sd s
  | .overvoltageTurnOff sd volt => Sys2Proof.Machine.execOvervoltageTurnOff sd volt s
  | .overvoltageRestart sd => Sys2Proof.Machine.execOvervoltageRestart sd s
  | .settingMismatch sd volt => Sys2Proof.Machine.execSettingMismatch sd volt s
  | .settingMismatchClear sd => Sys2Proof.Machine.execSettingMismatchClear sd s
  | .feedReverse feedB => Sys2Proof.Machine.execFeedReverse feedB s
  | .feedReverseEnd feedB => Sys2Proof.Machine.execFeedReverseEnd feedB s
  | .currentLimit sd k => Sys2Proof.Machine.execCurrentLimit sd k s
  | .overcurrentTrip sd k => Sys2Proof.Machine.execOvercurrentTrip sd k s
  | .junctionWarning sd k temp => Sys2Proof.Machine.execJunctionWarning sd k temp s
  | .thermalShutdown sd k temp => Sys2Proof.Machine.execThermalShutdown sd k temp s
  | .lampRetry sd k => Sys2Proof.Machine.execLampRetry sd k s
  | .warmWindowEnd sd k => Sys2Proof.Machine.execWarmWindowEnd sd k s
  | .openLoadOn sd k below => Sys2Proof.Machine.execOpenLoadOn sd k below s
  | .offStateTest sd k vout vfeed => Sys2Proof.Machine.execOffStateTest sd k vout vfeed s
  | .offStateTestComplete sd k vout => Sys2Proof.Machine.execOffStateTestComplete sd k vout s
  | .sensePathTest sd k outside => Sys2Proof.Machine.execSensePathTest sd k outside s
  | .nvmTableCheck sd crcOk => Sys2Proof.Machine.execNvmTableCheck sd crcOk s
  | .wireModelStep d sd k => Sys2Proof.Machine.execWireModelStep d sd k s
  | .inductanceEstimate d sd k i1 i2 => Sys2Proof.Machine.execInductanceEstimate d sd k i1 i2 s
  | .rampEnd sd k => Sys2Proof.Machine.execRampEnd sd k s
  | .failSafeTrip sd k rms => Sys2Proof.Machine.execFailSafeTrip sd k rms s
  | .pwrRestart d who sd k => Sys2Proof.Machine.execPwrRestart d who sd k s
  | .pwrOltest d who sd k => Sys2Proof.Machine.execPwrOltest d who sd k s
  | .pwrCalcmdCapture d who sd ch low point => Sys2Proof.Machine.execPwrCalcmdCapture d who sd ch low point s
  | .pwrCalcmdCommit d who sd ch low => Sys2Proof.Machine.execPwrCalcmdCommit d who sd ch low s
  | .pwrCalcmdCancel d who sd ch low => Sys2Proof.Machine.execPwrCalcmdCancel d who sd ch low s
  | .pwrCalrefWrite d who sd ref => Sys2Proof.Machine.execPwrCalrefWrite d who sd ref s
  | .dctlEnterTest d who sd confirm => Sys2Proof.Machine.execDctlEnterTest d who sd confirm s
  | .dctlLeaveTest d who sd confirm => Sys2Proof.Machine.execDctlLeaveTest d who sd confirm s
  | .dctlEnterRecovery d who sd confirm => Sys2Proof.Machine.execDctlEnterRecovery d who sd confirm s
  | .cyc d sd count => Sys2Proof.Machine.execCyc d sd count s
  | .svcent d sd frame => Sys2Proof.Machine.execSvcent d sd frame s
  | .steer d sd frame => Sys2Proof.Machine.execSteer d sd frame s
  | .modeEnterTest d sd frame => Sys2Proof.Machine.execModeEnterTest d sd frame s
  | .modeLeaveTest d sd frame => Sys2Proof.Machine.execModeLeaveTest d sd frame s
  | .modeEnterRecovery d sd frame => Sys2Proof.Machine.execModeEnterRecovery d sd frame s
  | .latch d sd frame => Sys2Proof.Machine.execLatch d sd frame s
  | .ramp d sd frame => Sys2Proof.Machine.execRamp d sd frame s
  | .restart d sd frame => Sys2Proof.Machine.execRestart d sd frame s
  | .oltest d sd frame => Sys2Proof.Machine.execOltest d sd frame s
  | .bdir d sd frame => Sys2Proof.Machine.execBdir d sd frame s
  | .calcmdCapture d sd frame => Sys2Proof.Machine.execCalcmdCapture d sd frame s
  | .captureComplete sd mean aborted => Sys2Proof.Machine.execCaptureComplete sd mean aborted s
  | .calcmdCommit d sd frame => Sys2Proof.Machine.execCalcmdCommit d sd frame s
  | .calcmdCancel d sd frame => Sys2Proof.Machine.execCalcmdCancel d sd frame s
  | .calref d sd frame => Sys2Proof.Machine.execCalref d sd frame s
  | .tblstart d sd frame => Sys2Proof.Machine.execTblstart d sd frame s
  | .tbldata d sd frame => Sys2Proof.Machine.execTbldata d sd frame s
  | .tblend d sd frame => Sys2Proof.Machine.execTblend d sd frame s
  | .tableCommit sd => Sys2Proof.Machine.execTableCommit sd s
  | .nvmWriteComplete sd => Sys2Proof.Machine.execNvmWriteComplete sd s
  | .forceRelease d sd frame => Sys2Proof.Machine.execForceRelease d sd frame s
  | .forceOff d sd frame => Sys2Proof.Machine.execForceOff d sd frame s
  | .forceOn d sd frame => Sys2Proof.Machine.execForceOn d sd frame s
  | .forceTimeout sd k => Sys2Proof.Machine.execForceTimeout sd k s
  | .testTimeout sd => Sys2Proof.Machine.execTestTimeout sd s
  | .serialWatchdogExpiry sd => Sys2Proof.Machine.execSerialWatchdogExpiry sd s
  | .serviceCycle sd feed tsub sns meas => Sys2Proof.Machine.execServiceCycle sd feed tsub sns meas s
  | .sns d sd frame => Sys2Proof.Machine.execSns d sd frame s
  | .dstat d sd frame => Sys2Proof.Machine.execDstat d sd frame s
  | .evt d sd frame => Sys2Proof.Machine.execEvt d sd frame s
  | .ack d sd frame => Sys2Proof.Machine.execAck d sd frame s
  | .ser d sd frame => Sys2Proof.Machine.execSer d sd frame s
  | .tbldig d sd frame => Sys2Proof.Machine.execTbldig d sd frame s
  | .mis d sd frame => Sys2Proof.Machine.execMis d sd frame s
  | .tableAckTimeout d sd => Sys2Proof.Machine.execTableAckTimeout d sd s
  | .inputLineEdge sd k line level deferral => Sys2Proof.Machine.execInputLineEdge sd k line level deferral s
  | .deferralEnd sd k => Sys2Proof.Machine.execDeferralEnd sd k s
  | .lineAbsent sd k line lastPeriod => Sys2Proof.Machine.execLineAbsent sd k line lastPeriod s
  | .lineMismatch sd k => Sys2Proof.Machine.execLineMismatch sd k s
  | .lineChangeTimeout sd k => Sys2Proof.Machine.execLineChangeTimeout sd k s
  | .linkSilence sd link linesAbsent => Sys2Proof.Machine.execLinkSilence sd link linesAbsent s
  | .pwmPeriodStart d lane time => Sys2Proof.Machine.execPwmPeriodStart d lane time s
  | .nibWatchdogExpiry n => Sys2Proof.Machine.execNibWatchdogExpiry n s
  | .streamEntryArrival d c src stamp payload err => Sys2Proof.Machine.execStreamEntryArrival d c src stamp payload err s
  | .entryRelease d c receiving => Sys2Proof.Machine.execEntryRelease d c receiving s
  | .sourceStall d c src mark => Sys2Proof.Machine.execSourceStall d c src mark s
  | .orderEntry d c => Sys2Proof.Machine.execOrderEntry d c s
  | .orderEntryUnmatched d c => Sys2Proof.Machine.execOrderEntryUnmatched d c s
  | .localCopyDiscard d c src seq => Sys2Proof.Machine.execLocalCopyDiscard d c src seq s
  | .twinLag d c lag => Sys2Proof.Machine.execTwinLag d c lag s
  | .clusterTick d c t time => Sys2Proof.Machine.execClusterTick d c t time s
  | .imemWrite who n word v mirror => Sys2Proof.Machine.execImemWrite who n word v mirror s
  | .nbcHaltNib d who confirm c k => Sys2Proof.Machine.execNbcHaltNib d who confirm c k s
  | .nbcResumeNib d who confirm c k => Sys2Proof.Machine.execNbcResumeNib d who confirm c k s
  | .nbcHaltAll d who confirm c => Sys2Proof.Machine.execNbcHaltAll d who confirm c s
  | .nbcResumeAll d who confirm c => Sys2Proof.Machine.execNbcResumeAll d who confirm c s
  | .nbcRequestBist d who confirm c => Sys2Proof.Machine.execNbcRequestBist d who confirm c s
  | .reloadComplete d c => Sys2Proof.Machine.execReloadComplete d c s
  | .rejoinComplete d c => Sys2Proof.Machine.execRejoinComplete d c s
  | .spareSubstitution d c slot => Sys2Proof.Machine.execSpareSubstitution d c slot s
  | .clusterBist d c failed => Sys2Proof.Machine.execClusterBist d c failed s
  | .add n w ecc => Sys2Proof.Machine.execAdd n w ecc s
  | .sub n w ecc => Sys2Proof.Machine.execSub n w ecc s
  | .opAnd n w ecc => Sys2Proof.Machine.execAnd n w ecc s
  | .opOr n w ecc => Sys2Proof.Machine.execOr n w ecc s
  | .xor n w ecc => Sys2Proof.Machine.execXor n w ecc s
  | .shl n w ecc => Sys2Proof.Machine.execShl n w ecc s
  | .shr n w ecc => Sys2Proof.Machine.execShr n w ecc s
  | .sar n w ecc => Sys2Proof.Machine.execSar n w ecc s
  | .ror n w ecc => Sys2Proof.Machine.execRor n w ecc s
  | .mul n w ecc => Sys2Proof.Machine.execMul n w ecc s
  | .mulh n w ecc => Sys2Proof.Machine.execMulh n w ecc s
  | .mulhu n w ecc => Sys2Proof.Machine.execMulhu n w ecc s
  | .min n w ecc => Sys2Proof.Machine.execMin n w ecc s
  | .max n w ecc => Sys2Proof.Machine.execMax n w ecc s
  | .minu n w ecc => Sys2Proof.Machine.execMinu n w ecc s
  | .maxu n w ecc => Sys2Proof.Machine.execMaxu n w ecc s
  | .abs n w ecc => Sys2Proof.Machine.execAbs n w ecc s
  | .clz n w ecc => Sys2Proof.Machine.execClz n w ecc s
  | .cmp n w ecc => Sys2Proof.Machine.execCmp n w ecc s
  | .tst n w ecc => Sys2Proof.Machine.execTst n w ecc s
  | .addi n w ecc => Sys2Proof.Machine.execAddi n w ecc s
  | .subi n w ecc => Sys2Proof.Machine.execSubi n w ecc s
  | .andi n w ecc => Sys2Proof.Machine.execAndi n w ecc s
  | .ori n w ecc => Sys2Proof.Machine.execOri n w ecc s
  | .xori n w ecc => Sys2Proof.Machine.execXori n w ecc s
  | .cmpi n w ecc => Sys2Proof.Machine.execCmpi n w ecc s
  | .lui n w ecc => Sys2Proof.Machine.execLui n w ecc s
  | .shli n w ecc => Sys2Proof.Machine.execShli n w ecc s
  | .shri n w ecc => Sys2Proof.Machine.execShri n w ecc s
  | .sari n w ecc => Sys2Proof.Machine.execSari n w ecc s
  | .rori n w ecc => Sys2Proof.Machine.execRori n w ecc s
  | .sats n w ecc => Sys2Proof.Machine.execSats n w ecc s
  | .satu n w ecc => Sys2Proof.Machine.execSatu n w ecc s
  | .rnd n w ecc => Sys2Proof.Machine.execRnd n w ecc s
  | .mac n w ecc => Sys2Proof.Machine.execMac n w ecc s
  | .macu n w ecc => Sys2Proof.Machine.execMacu n w ecc s
  | .msu n w ecc => Sys2Proof.Machine.execMsu n w ecc s
  | .mula n w ecc => Sys2Proof.Machine.execMula n w ecc s
  | .mulau n w ecc => Sys2Proof.Machine.execMulau n w ecc s
  | .mfal n w ecc => Sys2Proof.Machine.execMfal n w ecc s
  | .mfah n w ecc => Sys2Proof.Machine.execMfah n w ecc s
  | .mta n w ecc => Sys2Proof.Machine.execMta n w ecc s
  | .aclr n w ecc => Sys2Proof.Machine.execAclr n w ecc s
  | .ext n w ecc => Sys2Proof.Machine.execExt n w ecc s
  | .exts n w ecc => Sys2Proof.Machine.execExts n w ecc s
  | .extb n w ecc => Sys2Proof.Machine.execExtb n w ecc s
  | .extbs n w ecc => Sys2Proof.Machine.execExtbs n w ecc s
  | .ins n w ecc => Sys2Proof.Machine.execIns n w ecc s
  | .insb n w ecc => Sys2Proof.Machine.execInsb n w ecc s
  | .extA n w ecc => Sys2Proof.Machine.execExtA n w ecc s
  | .extsA n w ecc => Sys2Proof.Machine.execExtsA n w ecc s
  | .extbA n w ecc => Sys2Proof.Machine.execExtbA n w ecc s
  | .extbsA n w ecc => Sys2Proof.Machine.execExtbsA n w ecc s
  | .insA n w ecc => Sys2Proof.Machine.execInsA n w ecc s
  | .insbA n w ecc => Sys2Proof.Machine.execInsbA n w ecc s
  | .ldw n w ecc => Sys2Proof.Machine.execLdw n w ecc s
  | .ldh n w ecc => Sys2Proof.Machine.execLdh n w ecc s
  | .ldb n w ecc => Sys2Proof.Machine.execLdb n w ecc s
  | .stw n w ecc => Sys2Proof.Machine.execStw n w ecc s
  | .sth n w ecc => Sys2Proof.Machine.execSth n w ecc s
  | .stb n w ecc => Sys2Proof.Machine.execStb n w ecc s
  | .br n w ecc => Sys2Proof.Machine.execBr n w ecc s
  | .bal n w ecc => Sys2Proof.Machine.execBal n w ecc s
  | .opLoop n w ecc => Sys2Proof.Machine.execLoop n w ecc s
  | .loopr n w ecc => Sys2Proof.Machine.execLoopr n w ecc s
  | .trap n w ecc => Sys2Proof.Machine.execTrap n w ecc s
  | .nop n w ecc => Sys2Proof.Machine.execNop n w ecc s
  | .eret n w ecc => Sys2Proof.Machine.execEret n w ecc s
  | .wait n w ecc => Sys2Proof.Machine.execWait n w ecc s
  | .sync n w ecc => Sys2Proof.Machine.execSync n w ecc s
  | .mset n w ecc => Sys2Proof.Machine.execMset n w ecc s
  | .mfs n w ecc => Sys2Proof.Machine.execMfs n w ecc s
  | .mts n w ecc => Sys2Proof.Machine.execMts n w ecc s
  | .jr n w ecc => Sys2Proof.Machine.execJr n w ecc s
  | .jalr n w ecc => Sys2Proof.Machine.execJalr n w ecc s
  | .dscLdU n w ecc => Sys2Proof.Machine.execDscLdU n w ecc s
  | .dscLdS n w ecc => Sys2Proof.Machine.execDscLdS n w ecc s
  | .dscLdP n w ecc => Sys2Proof.Machine.execDscLdP n w ecc s
  | .dscLdF n w ecc => Sys2Proof.Machine.execDscLdF n w ecc s
  | .sclI n w ecc => Sys2Proof.Machine.execSclI n w ecc s
  | .sclO n w ecc => Sys2Proof.Machine.execSclO n w ecc s
  | .dscStS n w ecc => Sys2Proof.Machine.execDscStS n w ecc s
  | .dscStX n w ecc => Sys2Proof.Machine.execDscStX n w ecc s
  | .dscStP n w ecc => Sys2Proof.Machine.execDscStP n w ecc s
  | .dscStO n w ecc => Sys2Proof.Machine.execDscStO n w ecc s
  | .mbxGet n w ecc => Sys2Proof.Machine.execMbxGet n w ecc s
  | .mbxPut n w ecc => Sys2Proof.Machine.execMbxPut n w ecc s
  | .snsGet n w ecc => Sys2Proof.Machine.execSnsGet n w ecc s
  | .tgetL n w ecc => Sys2Proof.Machine.execTgetL n w ecc s
  | .tgetH n w ecc => Sys2Proof.Machine.execTgetH n w ecc s
  | .ocmpLvl n w ecc => Sys2Proof.Machine.execOcmpLvl n w ecc s
  | .ocmpPwm n w ecc => Sys2Proof.Machine.execOcmpPwm n w ecc s
  | .crcStep n w ecc => Sys2Proof.Machine.execCrcStep n w ecc s
  | .shadowAgeingPass d => Sys2Proof.Machine.execShadowAgeingPass d s
  | .otailWrite d who p v => Sys2Proof.Machine.execOtailWrite d who p v s
  | .outboundItem p => Sys2Proof.Machine.execOutboundItem p s
  | .iheadWrite d who p v => Sys2Proof.Machine.execIheadWrite d who p v s
  | .ecmdRead d who table index => Sys2Proof.Machine.execEcmdRead d who table index s
  | .ecmdWrite d who table index mirror clear => Sys2Proof.Machine.execEcmdWrite d who table index mirror clear s
  | .invalidateOne d who index mirror => Sys2Proof.Machine.execInvalidateOne d who index mirror s
  | .invalidateAll d who mirror => Sys2Proof.Machine.execInvalidateAll d who mirror s
  | .invalidationComplete d => Sys2Proof.Machine.execInvalidationComplete d s
  | .generationSweep d c => Sys2Proof.Machine.execGenerationSweep d c s
  | .mirrorScrubBlock table block => Sys2Proof.Machine.execMirrorScrubBlock table block s
  | .signalStoreCopy d => Sys2Proof.Machine.execSignalStoreCopy d s
  | .signalStoreEccError d addr corrected => Sys2Proof.Machine.execSignalStoreEccError d addr corrected s
  | .tidxWrite d who index => Sys2Proof.Machine.execTidxWrite d who index s
  | .canFrameReceive d c own good remote idw ctl af data stamp => Sys2Proof.Machine.execCanFrameReceive d c own good remote idw ctl af data stamp s
  | .shadowFrameTimeout d c part => Sys2Proof.Machine.execShadowFrameTimeout d c part s
  | .fieldBusSteerRequest j sender names count => Sys2Proof.Machine.execFieldBusSteerRequest j sender names count s
  | .selectorChange j => Sys2Proof.Machine.execSelectorChange j s
  | .controllerSilent j => Sys2Proof.Machine.execControllerSilent j s
  | .canFrameSent c good => Sys2Proof.Machine.execCanFrameSent c good s
  | .busOff c => Sys2Proof.Machine.execBusOff c s
  | .busOffRecovery c => Sys2Proof.Machine.execBusOffRecovery c s
  | .canWakePattern c => Sys2Proof.Machine.execCanWakePattern c s
  | .canRestart d who c confirm => Sys2Proof.Machine.execCanRestart d who c confirm s
  | .canStandby d who c confirm => Sys2Proof.Machine.execCanStandby d who c confirm s
  | .canNormal d who c confirm => Sys2Proof.Machine.execCanNormal d who c confirm s
  | .linRunRange d who l first count confirm => Sys2Proof.Machine.execLinRunRange d who l first count confirm s
  | .linGoToSleep d who l confirm => Sys2Proof.Machine.execLinGoToSleep d who l confirm s
  | .linSendWakeup d who l confirm => Sys2Proof.Machine.execLinSendWakeup d who l confirm s
  | .linSlotStart l => Sys2Proof.Machine.execLinSlotStart l s
  | .linFrameReceive d l ownHeader ownResponse good ident data stamp => Sys2Proof.Machine.execLinFrameReceive d l ownHeader ownResponse good ident data stamp s
  | .linWake l => Sys2Proof.Machine.execLinWake l s
  | .satelliteAccess d who addr n write lock data => Sys2Proof.Machine.execSatelliteAccess d who addr n write lock data s
  | .satelliteBusGrant b => Sys2Proof.Machine.execSatelliteBusGrant b s
  | .satelliteBusTimeout b d => Sys2Proof.Machine.execSatelliteBusTimeout b d s
  | .satelliteTransactionEnd b data crc => Sys2Proof.Machine.execSatelliteTransactionEnd b data crc s
  | .satelliteLockTimeout b age => Sys2Proof.Machine.execSatelliteLockTimeout b age s
  | .senseSample n mv stamp => Sys2Proof.Machine.execSenseSample n mv stamp s
  | .senseDebounceExpiry n high => Sys2Proof.Machine.execSenseDebounceExpiry n high s
  | .macFrameReceive d p bytes sym reasm frags stamp => Sys2Proof.Machine.execMacFrameReceive d p bytes sym reasm frags stamp s
  | .pauseReceive d p src pfc enable times stamp => Sys2Proof.Machine.execPauseReceive d p src pfc enable times stamp s
  | .pauseExpiry d p cls => Sys2Proof.Machine.execPauseExpiry d p cls s
  | .pauseRepeat d p => Sys2Proof.Machine.execPauseRepeat d p s
  | .linkChange p up sqi => Sys2Proof.Machine.execLinkChange p up sqi s
  | .portSteerCommand p sender names serial => Sys2Proof.Machine.execPortSteerCommand p sender names serial s
  | .portSelectorChange p => Sys2Proof.Machine.execPortSelectorChange p s
  | .macSilent p => Sys2Proof.Machine.execMacSilent p s
  | .macTransmit d p busy frags => Sys2Proof.Machine.execMacTransmit d p busy frags s
  | .transmitEcho d p len fcs => Sys2Proof.Machine.execTransmitEcho d p len fcs s
  | .echoTimeout d p => Sys2Proof.Machine.execEchoTimeout d p s
  | .collision d p late => Sys2Proof.Machine.execCollision d p late s
  | .forcedCollision d p => Sys2Proof.Machine.execForcedCollision d p s
  | .beaconLoss p => Sys2Proof.Machine.execBeaconLoss p s
  | .beacon p => Sys2Proof.Machine.execBeacon p s
  | .lpiEntry d p => Sys2Proof.Machine.execLpiEntry d p s
  | .lpiWakeEnd d p => Sys2Proof.Machine.execLpiWakeEnd d p s
  | .eeewakeWrite d who p v => Sys2Proof.Machine.execEeewakeWrite d who p v s
  | .verifyTimeout d p answered => Sys2Proof.Machine.execVerifyTimeout d p answered s
  | .macRetrain d who p confirm => Sys2Proof.Machine.execMacRetrain d who p confirm s
  | .macRepeatVerify d who p confirm => Sys2Proof.Machine.execMacRepeatVerify d who p confirm s
  | .frameReassembled d ingress => Sys2Proof.Machine.execFrameReassembled d ingress s
  | .bufferSkip d b testOk => Sys2Proof.Machine.execBufferSkip d b testOk s
  | .reassemblyTimeout d ingress => Sys2Proof.Machine.execReassemblyTimeout d ingress s
  | .bufferReadmit d b => Sys2Proof.Machine.execBufferReadmit d b s
  | .fdbAgeingPass d => Sys2Proof.Machine.execFdbAgeingPass d s
  | .txtailWrite d who part q v => Sys2Proof.Machine.execTxtailWrite d who part q v s
  | .hostDescriptorRead d part q => Sys2Proof.Machine.execHostDescriptorRead d part q s
  | .pairPortFrame d => Sys2Proof.Machine.execPairPortFrame d s
  | .rxheadWrite d who part q v => Sys2Proof.Machine.execRxheadWrite d who part q v s
  | .hostQueueTimeout d part q => Sys2Proof.Machine.execHostQueueTimeout d part q s
  | .gateEntryChange d p => Sys2Proof.Machine.execGateEntryChange d p s
  | .feedEntry d => Sys2Proof.Machine.execFeedEntry d s
  | .feedAck d => Sys2Proof.Machine.execFeedAck d s
  | .shadowFrameDiscard d p part k => Sys2Proof.Machine.execShadowFrameDiscard d p part k s
  | .switchCoreFailover d => Sys2Proof.Machine.execSwitchCoreFailover d s
  | .standbyRestart d => Sys2Proof.Machine.execStandbyRestart d s
  | .flushAll d who confirm => Sys2Proof.Machine.execFlushAll d who confirm s
  | .flushPort d who confirm port => Sys2Proof.Machine.execFlushPort d who confirm port s
  | .readmitBuffer d who confirm b => Sys2Proof.Machine.execReadmitBuffer d who confirm b s
  | .fdbReadByKey d who => Sys2Proof.Machine.execFdbReadByKey d who s
  | .fdbReadByIndex d who j => Sys2Proof.Machine.execFdbReadByIndex d who j s
  | .fdbWrite d who mirror => Sys2Proof.Machine.execFdbWrite d who mirror s
  | .fdbDelete d who mirror => Sys2Proof.Machine.execFdbDelete d who mirror s
  | .vlanRead d who vid => Sys2Proof.Machine.execVlanRead d who vid s
  | .vlanWrite d who mirror vid => Sys2Proof.Machine.execVlanWrite d who mirror vid s
  | .syncReceive d p domain origin corr log stamp => Sys2Proof.Machine.execSyncReceive d p domain origin corr log stamp s
  | .announceReceive d p domain gm => Sys2Proof.Machine.execAnnounceReceive d p domain gm s
  | .pdelayExchange d p delay ratio => Sys2Proof.Machine.execPdelayExchange d p delay ratio s
  | .syncTransmit d p => Sys2Proof.Machine.execSyncTransmit d p s
  | .syncReceiptTimeout d => Sys2Proof.Machine.execSyncReceiptTimeout d s
  | .holdoverLimit d => Sys2Proof.Machine.execHoldoverLimit d s
  | .stepProposal d ts => Sys2Proof.Machine.execStepProposal d ts s
  | .stepApply d => Sys2Proof.Machine.execStepApply d s
  | .dieOffsetExchange d offset => Sys2Proof.Machine.execDieOffsetExchange d offset s
  | .rtcSet d => Sys2Proof.Machine.execRtcSet d s
  | .nowRead d who => Sys2Proof.Machine.execNowRead d who s
  | .snap d who confirm => Sys2Proof.Machine.execSnap d who confirm s
  | .pulseArm d who k v => Sys2Proof.Machine.execPulseArm d who k v s
  | .periodlWrite d who k v => Sys2Proof.Machine.execPeriodlWrite d who k v s
  | .pulseRise d k => Sys2Proof.Machine.execPulseRise d k s
  | .pulseFall d k => Sys2Proof.Machine.execPulseFall d k s
  | .lanePinMismatch j => Sys2Proof.Machine.execLanePinMismatch j s
  | .egressTransaction d dux line => Sys2Proof.Machine.execEgressTransaction d dux line s
  | .stoppedCore d dux core => Sys2Proof.Machine.execStoppedCore d dux core s
  | .lagStall d dux us => Sys2Proof.Machine.execLagStall d dux us s
  | .slowCopy d dux => Sys2Proof.Machine.execSlowCopy d dux s
  | .agree d dux core rd rs1 => Sys2Proof.Machine.execAgree d dux core rd rs1 s
  | .ckpt d dux core => Sys2Proof.Machine.execCkpt d dux core s
  | .wgate d dux core imm => Sys2Proof.Machine.execWgate d dux core imm s
  | .wentry d dux core => Sys2Proof.Machine.execWentry d dux core s
  | .wret d dux core => Sys2Proof.Machine.execWret d dux core s
  | .hgatpWrite d dux core v => Sys2Proof.Machine.execHgatpWrite d dux core v s
  | .eventDelivery d dux line => Sys2Proof.Machine.execEventDelivery d dux line s
  | .wfiWake d dux core => Sys2Proof.Machine.execWfiWake d dux core s
  | .counterOverflow d dux => Sys2Proof.Machine.execCounterOverflow d dux s
  | .cacheEccError d dux core kind line => Sys2Proof.Machine.execCacheEccError d dux core kind line s
  | .duplexStart d dux => Sys2Proof.Machine.execDuplexStart d dux s
  | .epochEnd d dux => Sys2Proof.Machine.execEpochEnd d dux s
  | .journalSend d dux => Sys2Proof.Machine.execJournalSend d dux s
  | .journalReceive d dux magic crc => Sys2Proof.Machine.execJournalReceive d dux magic crc s
  | .sealAck d dux => Sys2Proof.Machine.execSealAck d dux s
  | .sealWait d dux => Sys2Proof.Machine.execSealWait d dux s
  | .spareLagTimeout d dux => Sys2Proof.Machine.execSpareLagTimeout d dux s
  | .logAck d dux pos => Sys2Proof.Machine.execLogAck d dux pos s
  | .failover d dux => Sys2Proof.Machine.execFailover d dux s
  | .logExhausted d dux => Sys2Proof.Machine.execLogExhausted d dux s
  | .dieLoss d => Sys2Proof.Machine.execDieLoss d s
  | .syncPass d dux => Sys2Proof.Machine.execSyncPass d dux s
  | .duplexBist d dux passed => Sys2Proof.Machine.execDuplexBist d dux passed s
  | .bistInterval d dux => Sys2Proof.Machine.execBistInterval d dux s
  | .ckpRoleSwapPartition d who confirm p => Sys2Proof.Machine.execCkpRoleSwapPartition d who confirm p s
  | .ckpRoleSwapDie d who confirm die => Sys2Proof.Machine.execCkpRoleSwapDie d who confirm die s
  | .ckpResync d who confirm p => Sys2Proof.Machine.execCkpResync d who confirm p s
  | .duxRunBist d who confirm dux => Sys2Proof.Machine.execDuxRunBist d who confirm dux s
  | .duxRetire d who confirm dux => Sys2Proof.Machine.execDuxRetire d who confirm dux s
  | .wldResetAck d who confirm p => Sys2Proof.Machine.execWldResetAck d who confirm p s
  | .wldRestart d who confirm => Sys2Proof.Machine.execWldRestart d who confirm s
  | .pinWrite d who pin oe out => Sys2Proof.Machine.execPinWrite d who pin oe out s
  | .sealedWatchdogExpiry d dux => Sys2Proof.Machine.execSealedWatchdogExpiry d dux s
  | .sealedRestartReload codes0 codes1 => Sys2Proof.Machine.execSealedRestartReload codes0 codes1 s
  | .sealedStateNotice d => Sys2Proof.Machine.execSealedStateNotice d s
  | .rgdRead d who confirm guard region => Sys2Proof.Machine.execRgdRead d who confirm guard region s
  | .rgdWrite d who confirm mirror guard region => Sys2Proof.Machine.execRgdWrite d who confirm mirror guard region s
  | .sourceFire d src => Sys2Proof.Machine.execSourceFire d src s
  | .moderationTimeout d src => Sys2Proof.Machine.execModerationTimeout d src s
  | .claimM d dux => Sys2Proof.Machine.execClaimM d dux s
  | .claimS d dux => Sys2Proof.Machine.execClaimS d dux s
  | .claimV d dux => Sys2Proof.Machine.execClaimV d dux s
  | .eoiM d dux src => Sys2Proof.Machine.execEoiM d dux src s
  | .eoiS d dux src => Sys2Proof.Machine.execEoiS d dux src s
  | .eoiV d dux src => Sys2Proof.Machine.execEoiV d dux src s
  | .thresholdWrite d dux level thr => Sys2Proof.Machine.execThresholdWrite d dux level thr s
  | .softwareSet d who set => Sys2Proof.Machine.execSoftwareSet d who set s
  | .timerCompareWrite d who t high v => Sys2Proof.Machine.execTimerCompareWrite d who t high v s
  | .timerExpiry d t => Sys2Proof.Machine.execTimerExpiry d t s
  | .partnerEvcWrite d => Sys2Proof.Machine.execPartnerEvcWrite d s
  | .laneDisagreement lane => Sys2Proof.Machine.execLaneDisagreement lane s
  | .holderSilent d => Sys2Proof.Machine.execHolderSilent d s
  | .supervisorTimeout => Sys2Proof.Machine.execSupervisorTimeout s
  | .regulatorFailure d => Sys2Proof.Machine.execRegulatorFailure d s
  | .regulatorRestart d ok => Sys2Proof.Machine.execRegulatorRestart d ok s
  | .rtcCrystalStop => Sys2Proof.Machine.execRtcCrystalStop s
  | .sleepDrowse d who confirm tag pin usePin => Sys2Proof.Machine.execSleepDrowse d who confirm tag pin usePin s
  | .sleepDormant d who confirm tag pin usePin => Sys2Proof.Machine.execSleepDormant d who confirm tag pin usePin s
  | .sleepSentinel d who confirm tag pin usePin => Sys2Proof.Machine.execSleepSentinel d who confirm tag pin usePin s
  | .commitPoint can eth edges prepUs => Sys2Proof.Machine.execCommitPoint can eth edges prepUs s
  | .sleepTimeout => Sys2Proof.Machine.execSleepTimeout s
  | .standbyRelease sd => Sys2Proof.Machine.execStandbyRelease sd s
  | .wakeFromDrowse eth => Sys2Proof.Machine.execWakeFromDrowse eth s
  | .wakeFromDormant eth => Sys2Proof.Machine.execWakeFromDormant eth s
  | .wakeFromSentinel => Sys2Proof.Machine.execWakeFromSentinel s
  | .wakePinEdge pin level => Sys2Proof.Machine.execWakePinEdge pin level s
  | .rtcAlarm => Sys2Proof.Machine.execRtcAlarm s
  | .alarmWrite d who high v => Sys2Proof.Machine.execAlarmWrite d who high v s
  | .meterSample feedB volt cur own => Sys2Proof.Machine.execMeterSample feedB volt cur own s
  | .energyReport d c => Sys2Proof.Machine.execEnergyReport d c s
  | .balanceFloor => Sys2Proof.Machine.execBalanceFloor s
  | .grant d who amount tag => Sys2Proof.Machine.execGrant d who amount tag s
  | .errandAdd d who confirm tag slot => Sys2Proof.Machine.execErrandAdd d who confirm tag slot s
  | .errandCancel d who confirm tag slot => Sys2Proof.Machine.execErrandCancel d who confirm tag slot s
  | .errandDone d who confirm tag slot => Sys2Proof.Machine.execErrandDone d who confirm tag slot s
  | .errandDue => Sys2Proof.Machine.execErrandDue s
  | .errandDeadline => Sys2Proof.Machine.execErrandDeadline s
  | .errandOverrun => Sys2Proof.Machine.execErrandOverrun s
  | .limitUpdate tplate meanA meanB q0 q1 => Sys2Proof.Machine.execLimitUpdate tplate meanA meanB q0 q1 s
  | .faultReport d t answer => Sys2Proof.Machine.execFaultReport d t answer s
  | .reportConfirmTimeout t => Sys2Proof.Machine.execReportConfirmTimeout t s
  | .roleSwapRequest d who confirm tag token die => Sys2Proof.Machine.execRoleSwapRequest d who confirm tag token die s
  | .heartbeatSend d => Sys2Proof.Machine.execHeartbeatSend d s
  | .heartbeat d port f => Sys2Proof.Machine.execHeartbeat d port f s
  | .memberLoss d m => Sys2Proof.Machine.execMemberLoss d m s
  | .viewSend d => Sys2Proof.Machine.execViewSend d s
  | .view d port f => Sys2Proof.Machine.execView d port f s
  | .joinSend d => Sys2Proof.Machine.execJoinSend d s
  | .join d port f => Sys2Proof.Machine.execJoin d port f s
  | .admitModule d port f => Sys2Proof.Machine.execAdmit d port f s
  | .isolation d => Sys2Proof.Machine.execIsolation d s
  | .leave d port f => Sys2Proof.Machine.execLeave d port f s
  | .coordinatorTakeover d => Sys2Proof.Machine.execCoordinatorTakeover d s
  | .slowClear d m => Sys2Proof.Machine.execSlowClear d m s
  | .reportSlot d m kind detail => Sys2Proof.Machine.execReportSlot d m kind detail s
  | .reportRetry d m kind detail => Sys2Proof.Machine.execReportRetry d m kind detail s
  | .report d port f => Sys2Proof.Machine.execReport d port f s
  | .iamarAck d port f => Sys2Proof.Machine.execIamarAck d port f s
  | .ledgerClose d e => Sys2Proof.Machine.execLedgerClose d e s
  | .zgpReport d who confirm tag => Sys2Proof.Machine.execZgpReport d who confirm tag s
  | .zgpLeave d who confirm tag => Sys2Proof.Machine.execZgpLeave d who confirm tag s
  | .zgpRejoin d who confirm tag => Sys2Proof.Machine.execZgpRejoin d who confirm tag s
  | .zgpRelease d who confirm tag p => Sys2Proof.Machine.execZgpRelease d who confirm tag p s
  | .publish d who confirm tag p => Sys2Proof.Machine.execPublish d who confirm tag p s
  | .roamstate d port f => Sys2Proof.Machine.execRoamstate d port f s
  | .roam d port f => Sys2Proof.Machine.execRoam d port f s
  | .roamingGrant d home part taker => Sys2Proof.Machine.execRoamingGrant d home part taker s
  | .remreq d port f => Sys2Proof.Machine.execRemreq d port f s
  | .remoteAccess d who addr size op fn data seq => Sys2Proof.Machine.execRemoteAccess d who addr size op fn data seq s
  | .remrsp d port f => Sys2Proof.Machine.execRemrsp d port f s
  | .remoteTimeout d tag => Sys2Proof.Machine.execRemoteTimeout d tag s
  | .remoteLockTimeout d inst => Sys2Proof.Machine.execRemoteLockTimeout d inst s
  | .updManifest d who confirm tag => Sys2Proof.Machine.execUpdManifest d who confirm tag s
  | .updStage d who confirm tag => Sys2Proof.Machine.execUpdStage d who confirm tag s
  | .updInstall d who confirm tag => Sys2Proof.Machine.execUpdInstall d who confirm tag s
  | .updCutover d who confirm tag => Sys2Proof.Machine.execUpdCutover d who confirm tag s
  | .updAbort d who confirm tag => Sys2Proof.Machine.execUpdAbort d who confirm tag s
  | .updClear d who confirm tag => Sys2Proof.Machine.execUpdClear d who confirm tag s
  | .chunkSync d => Sys2Proof.Machine.execChunkSync d s
  | .prep1Complete => Sys2Proof.Machine.execPrep1Complete s
  | .prep1Timeout => Sys2Proof.Machine.execPrep1Timeout s
  | .updateWrite d units => Sys2Proof.Machine.execUpdateWrite d units s
  | .boot1Timeout => Sys2Proof.Machine.execBoot1Timeout s
  | .splitLimit => Sys2Proof.Machine.execSplitLimit s
  | .cutoverCommit => Sys2Proof.Machine.execCutoverCommit s
  | .cutoverLimit => Sys2Proof.Machine.execCutoverLimit s
  | .updateRequest d => Sys2Proof.Machine.execUpdateRequest d s
  | .update d port f => Sys2Proof.Machine.execUpdate d port f s
  | .grantLapse d => Sys2Proof.Machine.execGrantLapse d s
  | .summaryWrite d cls => Sys2Proof.Machine.execSummaryWrite d cls s
  | .faultAssert d who confirm => Sys2Proof.Machine.execFaultAssert d who confirm s
  | .faultRelease d who confirm => Sys2Proof.Machine.execFaultRelease d who confirm s
  | .blotterRead d who confirm => Sys2Proof.Machine.execBlotterRead d who confirm s
  | .blotterRelease d who confirm => Sys2Proof.Machine.execBlotterRelease d who confirm s
  | .dump d who confirm => Sys2Proof.Machine.execDump d who confirm s
  | .clearsum d who confirm => Sys2Proof.Machine.execClearsum d who confirm s
  | .scrubPass d dram => Sys2Proof.Machine.execScrubPass d dram s
  | .sramRowRemap d mem bank row lost => Sys2Proof.Machine.execSramRowRemap d mem bank row lost s
  | .dramRowRepair d bank row => Sys2Proof.Machine.execDramRowRepair d bank row s
  | .dramEccError d dux addr applying => Sys2Proof.Machine.execDramEccError d dux addr applying s
  | .fatalFailure d cause => Sys2Proof.Machine.execFatalFailure d cause s
  | .managementWatchdogExpiry d => Sys2Proof.Machine.execManagementWatchdogExpiry d s
  | .dumpComplete d => Sys2Proof.Machine.execDumpComplete d s
  | .blotterCopy d => Sys2Proof.Machine.execBlotterCopy d s
  | .katStep d pass => Sys2Proof.Machine.execKatStep d pass s
  | .dieGlitch d => Sys2Proof.Machine.execDieGlitch d s
  | .cisternGlitch => Sys2Proof.Machine.execCisternGlitch s
  | .drbgHealthFail d => Sys2Proof.Machine.execDrbgHealthFail d s
  | .challenge d who confirm => Sys2Proof.Machine.execChallenge d who confirm s
  | .unlock d who confirm scope => Sys2Proof.Machine.execUnlock d who confirm scope s
  | .unlockVerified d => Sys2Proof.Machine.execUnlockVerified d s
  | .challengeExpiry d => Sys2Proof.Machine.execChallengeExpiry d s
  | .zeroise d => Sys2Proof.Machine.execZeroise d s
  | .measurementRead d who => Sys2Proof.Machine.execMeasurementRead d who s
  | .secRandom d cmd => Sys2Proof.Machine.execSecRandom d cmd s
  | .secKeygen d cmd => Sys2Proof.Machine.execSecKeygen d cmd s
  | .secLoad d cmd => Sys2Proof.Machine.execSecLoad d cmd s
  | .secSave d cmd => Sys2Proof.Machine.execSecSave d cmd s
  | .secGcmEncrypt d cmd => Sys2Proof.Machine.execSecGcmEncrypt d cmd s
  | .secGcmDecrypt d cmd => Sys2Proof.Machine.execSecGcmDecrypt d cmd s
  | .secSign d cmd => Sys2Proof.Machine.execSecSign d cmd s
  | .secAttest d cmd => Sys2Proof.Machine.execSecAttest d cmd s
  | .secClearSlot d cmd => Sys2Proof.Machine.execSecClearSlot d cmd s
  | .secSha384 d cmd => Sys2Proof.Machine.execSecSha384 d cmd s
  | .secOperationComplete d => Sys2Proof.Machine.execSecOperationComplete d s
  | .vauxOverload => Sys2Proof.Machine.execVauxOverload s
  | .vauxRetry overloaded => Sys2Proof.Machine.execVauxRetry overloaded s
  | .pairLinkUp => Sys2Proof.Machine.execPairLinkUp s
  | .linkOutOfStep sd link => Sys2Proof.Machine.execLinkOutOfStep sd link s
  | .upstreamFramesAbsent d sd returned => Sys2Proof.Machine.execUpstreamFramesAbsent d sd returned s
  | .laneLevelApply d lane => Sys2Proof.Machine.execLaneLevelApply d lane s
  | .msql d sd frame => Sys2Proof.Machine.execMsql d sd frame s
  | .msqh d sd frame => Sys2Proof.Machine.execMsqh d sd frame s
  | .vout d sd frame => Sys2Proof.Machine.execVout d sd frame s
  | .voutb d sd frame => Sys2Proof.Machine.execVoutb d sd frame s
  | .tj d sd frame => Sys2Proof.Machine.execTj d sd frame s
  | .chst d sd frame => Sys2Proof.Machine.execChst d sd frame s
  | .feed d sd frame => Sys2Proof.Machine.execFeed d sd frame s
  | .tsub d sd frame => Sys2Proof.Machine.execTsub d sd frame s
  | .canIntegrated d c => Sys2Proof.Machine.execCanIntegrated d c s
  | .receiveLpi d p enter => Sys2Proof.Machine.execReceiveLpi d p enter s
  | .signalingReceive d p domain request sync pdelay ann => Sys2Proof.Machine.execSignalingReceive d p domain request sync pdelay ann s
  | .announceReceiptTimeout d p => Sys2Proof.Machine.execAnnounceReceiptTimeout d p s
  | .applicationCoreInstruction d dux core w => Sys2Proof.Machine.execApplicationCoreInstruction d dux core w s
  | .partitionResetHeld d p => Sys2Proof.Machine.execPartitionResetHeld d p s

end Sys2Proof.Machine
end

