-- ==== Sys2Proof/Machine/Tick.lean ====
section
/-! DEFINITION. What passes while no command waits: one 2 ns cycle of the clocks (R466, R481; log entry 18). -/

namespace Sys2Proof.Machine

/-- The group time of a die that runs after one cycle: 2 ns and twice the adjustment of TIM_FREQ, which is signed with an LSB of
2⁻³² of the nominal rate (R466). -/
def State.tickTime (s : State) (d : Die) : State :=
  if s.alive d then
    let adj := toSigned 32 (s.rd d TIM_FREQ).toNat
    { s with now := s.now.upd d (fun n => ((n : Int) + 2 * 2 ^ 32 + 2 * adj).toNat) }
  else s

/-- The RTC after one cycle: it counts units of 2⁻¹⁵ s, of which 2 ns are 65,536 thousand-millionths. -/
def State.tickRtc (s : State) : State :=
  if !s.cis.powered then s
  else
    let f := s.cis.rtcFrac + 65536
    if f < 1000000000 then s.updCis (fun c => { c with rtcFrac := f })
    else (s.updCis (fun c => { c with rtcFrac := f - 1000000000 })).wr64 0 CIS_RTCL CIS_RTCH (s.rd64 0 CIS_RTCL CIS_RTCH + 1)

/-- One cycle with no command waiting. -/
def State.tick (s : State) : State := ((s.tickTime 0).tickTime 1).tickRtc

end Sys2Proof.Machine
end

