-- ==== Sys2Proof/Machine/Forms.lean ====
section
/-! DEFINITION. What the commands of one kind have in common, for statements about all of them: the nib instructions with their
encodings, the nib instructions that only compute, and the Ductus records with their types. -/

namespace Sys2Proof.Machine

/-- A nib instruction: the nib, the word it met, what ECC found, and how the word is told apart. -/
structure NibForm where
  n : NibId
  w : Word
  ecc : EccFind
  op : NibOp
  kind : NibKind

/-- A command that is a nib instruction (R273 to R304). -/
def nibForm (i : Instr) : Option NibForm :=
  match i with
  | .add n w ecc => some ⟨n, w, ecc, aluRR 0x000, .plain⟩
  | .sub n w ecc => some ⟨n, w, ecc, aluRR 0x001, .plain⟩
  | .opAnd n w ecc => some ⟨n, w, ecc, aluRR 0x002, .plain⟩
  | .opOr n w ecc => some ⟨n, w, ecc, aluRR 0x003, .plain⟩
  | .xor n w ecc => some ⟨n, w, ecc, aluRR 0x004, .plain⟩
  | .shl n w ecc => some ⟨n, w, ecc, aluRR 0x005, .plain⟩
  | .shr n w ecc => some ⟨n, w, ecc, aluRR 0x006, .plain⟩
  | .sar n w ecc => some ⟨n, w, ecc, aluRR 0x007, .plain⟩
  | .ror n w ecc => some ⟨n, w, ecc, aluRR 0x008, .plain⟩
  | .mul n w ecc => some ⟨n, w, ecc, aluRR 0x009, .plain⟩
  | .mulh n w ecc => some ⟨n, w, ecc, aluRR 0x00A, .plain⟩
  | .mulhu n w ecc => some ⟨n, w, ecc, aluRR 0x00B, .plain⟩
  | .min n w ecc => some ⟨n, w, ecc, aluRR 0x00C, .plain⟩
  | .max n w ecc => some ⟨n, w, ecc, aluRR 0x00D, .plain⟩
  | .minu n w ecc => some ⟨n, w, ecc, aluRR 0x00E, .plain⟩
  | .maxu n w ecc => some ⟨n, w, ecc, aluRR 0x00F, .plain⟩
  | .abs n w ecc => some ⟨n, w, ecc, opAbs, .plain⟩
  | .clz n w ecc => some ⟨n, w, ecc, opClz, .plain⟩
  | .cmp n w ecc => some ⟨n, w, ecc, opCmp, .plain⟩
  | .tst n w ecc => some ⟨n, w, ecc, opTst, .plain⟩
  | .addi n w ecc => some ⟨n, w, ecc, opImm 0x08, .plain⟩
  | .subi n w ecc => some ⟨n, w, ecc, opImm 0x09, .plain⟩
  | .andi n w ecc => some ⟨n, w, ecc, opImm 0x0A, .plain⟩
  | .ori n w ecc => some ⟨n, w, ecc, opImm 0x0B, .plain⟩
  | .xori n w ecc => some ⟨n, w, ecc, opImm 0x0C, .plain⟩
  | .cmpi n w ecc => some ⟨n, w, ecc, opCmpi, .plain⟩
  | .lui n w ecc => some ⟨n, w, ecc, opLui, .plain⟩
  | .shli n w ecc => some ⟨n, w, ecc, opXar 0x00, .plain⟩
  | .shri n w ecc => some ⟨n, w, ecc, opXar 0x01, .plain⟩
  | .sari n w ecc => some ⟨n, w, ecc, opXar 0x02, .plain⟩
  | .rori n w ecc => some ⟨n, w, ecc, opXar 0x03, .plain⟩
  | .sats n w ecc => some ⟨n, w, ecc, opXar 0x08, .plain⟩
  | .satu n w ecc => some ⟨n, w, ecc, opXar 0x09, .plain⟩
  | .rnd n w ecc => some ⟨n, w, ecc, opRnd, .plain⟩
  | .mac n w ecc => some ⟨n, w, ecc, opMacs 0, .plain⟩
  | .macu n w ecc => some ⟨n, w, ecc, opMacs 1, .plain⟩
  | .msu n w ecc => some ⟨n, w, ecc, opMacs 2, .plain⟩
  | .mula n w ecc => some ⟨n, w, ecc, opMulas 3, .plain⟩
  | .mulau n w ecc => some ⟨n, w, ecc, opMulas 4, .plain⟩
  | .mfal n w ecc => some ⟨n, w, ecc, opMfas 8, .plain⟩
  | .mfah n w ecc => some ⟨n, w, ecc, opMfas 9, .plain⟩
  | .mta n w ecc => some ⟨n, w, ecc, opMulas 10, .plain⟩
  | .aclr n w ecc => some ⟨n, w, ecc, opAclr, .plain⟩
  | .ext n w ecc => some ⟨n, w, ecc, opField 0, .plain⟩
  | .exts n w ecc => some ⟨n, w, ecc, opField 1, .plain⟩
  | .extb n w ecc => some ⟨n, w, ecc, opField 2, .plain⟩
  | .extbs n w ecc => some ⟨n, w, ecc, opField 3, .plain⟩
  | .ins n w ecc => some ⟨n, w, ecc, opField 4, .plain⟩
  | .insb n w ecc => some ⟨n, w, ecc, opField 6, .plain⟩
  | .extA n w ecc => some ⟨n, w, ecc, opFieldA 16, .plain⟩
  | .extsA n w ecc => some ⟨n, w, ecc, opFieldA 17, .plain⟩
  | .extbA n w ecc => some ⟨n, w, ecc, opFieldA 18, .plain⟩
  | .extbsA n w ecc => some ⟨n, w, ecc, opFieldA 19, .plain⟩
  | .insA n w ecc => some ⟨n, w, ecc, opFieldI 0x14, .plain⟩
  | .insbA n w ecc => some ⟨n, w, ecc, opFieldI 0x16, .plain⟩
  | .ldw n w ecc => some ⟨n, w, ecc, opImm 0x10, .plain⟩
  | .ldh n w ecc => some ⟨n, w, ecc, opImm 0x11, .plain⟩
  | .ldb n w ecc => some ⟨n, w, ecc, opImm 0x12, .plain⟩
  | .stw n w ecc => some ⟨n, w, ecc, opImm 0x14, .plain⟩
  | .sth n w ecc => some ⟨n, w, ecc, opImm 0x15, .plain⟩
  | .stb n w ecc => some ⟨n, w, ecc, opImm 0x16, .plain⟩
  | .br n w ecc => some ⟨n, w, ecc, opImm 0x18, .branch⟩
  | .bal n w ecc => some ⟨n, w, ecc, opBal, .branch⟩
  | .opLoop n w ecc => some ⟨n, w, ecc, opImm 0x1A, .special⟩
  | .loopr n w ecc => some ⟨n, w, ecc, opLoopr, .special⟩
  | .trap n w ecc => some ⟨n, w, ecc, opTrap, .special⟩
  | .nop n w ecc => some ⟨n, w, ecc, opSys 0 false false false 0, .plain⟩
  | .eret n w ecc => some ⟨n, w, ecc, opSys 1 false false false 0, .special⟩
  | .wait n w ecc => some ⟨n, w, ecc, opSys 2 false false false 0, .special⟩
  | .sync n w ecc => some ⟨n, w, ecc, opSys 3 false false false 0, .plain⟩
  | .mset n w ecc => some ⟨n, w, ecc, opSys 4 false false false 7, .mset⟩
  | .mfs n w ecc => some ⟨n, w, ecc, opSys 8 true false true 0, .plain⟩
  | .mts n w ecc => some ⟨n, w, ecc, opSys 9 false true true 0, .plain⟩
  | .jr n w ecc => some ⟨n, w, ecc, opSys 0x10 false true false 0, .branch⟩
  | .jalr n w ecc => some ⟨n, w, ecc, opSys 0x11 true true false 0, .branch⟩
  | .dscLdU n w ecc => some ⟨n, w, ecc, opSig 0 true true false, .plain⟩
  | .dscLdS n w ecc => some ⟨n, w, ecc, opSig 1 true true false, .plain⟩
  | .dscLdP n w ecc => some ⟨n, w, ecc, opSig 2 true true true, .plain⟩
  | .dscLdF n w ecc => some ⟨n, w, ecc, opSig 3 true true true, .plain⟩
  | .sclI n w ecc => some ⟨n, w, ecc, opSig 8 false true false, .plain⟩
  | .sclO n w ecc => some ⟨n, w, ecc, opSig 9 false true false, .plain⟩
  | .dscStS n w ecc => some ⟨n, w, ecc, opSig 0x10 false true false, .plain⟩
  | .dscStX n w ecc => some ⟨n, w, ecc, opSig 0x11 false true false, .plain⟩
  | .dscStP n w ecc => some ⟨n, w, ecc, opSig 0x12 false true true, .plain⟩
  | .dscStO n w ecc => some ⟨n, w, ecc, opSig 0x13 false true true, .plain⟩
  | .mbxGet n w ecc => some ⟨n, w, ecc, opSig 0x20 true false false, .plain⟩
  | .mbxPut n w ecc => some ⟨n, w, ecc, opSig 0x21 false true true, .plain⟩
  | .snsGet n w ecc => some ⟨n, w, ecc, opSns, .plain⟩
  | .tgetL n w ecc => some ⟨n, w, ecc, opTio 0 false, .plain⟩
  | .tgetH n w ecc => some ⟨n, w, ecc, opTio 1 false, .plain⟩
  | .ocmpLvl n w ecc => some ⟨n, w, ecc, opTio 0x10 true, .plain⟩
  | .ocmpPwm n w ecc => some ⟨n, w, ecc, opTio 0x11 true, .plain⟩
  | .crcStep n w ecc => some ⟨n, w, ecc, opCrc, .plain⟩
  | _ => none

/-- What a nib instruction that only computes may change beside the loop and sequence state: the register named in rd, the
accumulator, and the flags Z, N, C and V; and whether its own fields are legal. -/
structure NibWrites where
  legal : Bool
  rd : Bool
  acc : Bool
  flags : Bool

/-- The nib instructions that only compute, with what each may change (R270 to R282). -/
def nibWrites (i : Instr) : Option NibWrites :=
  match i with
  | .add _ w _ => some ⟨true, true, false, decide (wFlags w % 2 = 1)⟩
  | .sub _ w _ => some ⟨true, true, false, decide (wFlags w % 2 = 1)⟩
  | .opAnd _ w _ => some ⟨true, true, false, decide (wFlags w % 2 = 1)⟩
  | .opOr _ w _ => some ⟨true, true, false, decide (wFlags w % 2 = 1)⟩
  | .xor _ w _ => some ⟨true, true, false, decide (wFlags w % 2 = 1)⟩
  | .shl _ w _ => some ⟨true, true, false, decide (wFlags w % 2 = 1)⟩
  | .shr _ w _ => some ⟨true, true, false, decide (wFlags w % 2 = 1)⟩
  | .sar _ w _ => some ⟨true, true, false, decide (wFlags w % 2 = 1)⟩
  | .ror _ w _ => some ⟨true, true, false, decide (wFlags w % 2 = 1)⟩
  | .mul _ w _ => some ⟨true, true, false, decide (wFlags w % 2 = 1)⟩
  | .mulh _ w _ => some ⟨true, true, false, decide (wFlags w % 2 = 1)⟩
  | .mulhu _ w _ => some ⟨true, true, false, decide (wFlags w % 2 = 1)⟩
  | .min _ w _ => some ⟨true, true, false, decide (wFlags w % 2 = 1)⟩
  | .max _ w _ => some ⟨true, true, false, decide (wFlags w % 2 = 1)⟩
  | .minu _ w _ => some ⟨true, true, false, decide (wFlags w % 2 = 1)⟩
  | .maxu _ w _ => some ⟨true, true, false, decide (wFlags w % 2 = 1)⟩
  | .abs _ w _ => some ⟨true, true, false, decide (wFlags w % 2 = 1)⟩
  | .clz _ w _ => some ⟨true, true, false, decide (wFlags w % 2 = 1)⟩
  | .cmp _ _ _ => some ⟨true, false, false, true⟩
  | .tst _ _ _ => some ⟨true, false, false, true⟩
  | .cmpi _ _ _ => some ⟨true, false, false, true⟩
  | .addi _ _ _ => some ⟨true, true, false, false⟩
  | .subi _ _ _ => some ⟨true, true, false, false⟩
  | .andi _ _ _ => some ⟨true, true, false, false⟩
  | .ori _ _ _ => some ⟨true, true, false, false⟩
  | .xori _ _ _ => some ⟨true, true, false, false⟩
  | .lui _ _ _ => some ⟨true, true, false, false⟩
  | .shli _ w _ => some ⟨decide (wPos w < 32 ∧ wLen w = 0), true, false, false⟩
  | .shri _ w _ => some ⟨decide (wPos w < 32 ∧ wLen w = 0), true, false, false⟩
  | .sari _ w _ => some ⟨decide (wPos w < 32 ∧ wLen w = 0), true, false, false⟩
  | .rori _ w _ => some ⟨decide (wPos w < 32 ∧ wLen w = 0), true, false, false⟩
  | .sats _ w _ => some ⟨decide (wPos w = 0 ∧ wLen w < 32), true, false, false⟩
  | .satu _ w _ => some ⟨decide (wPos w = 0 ∧ wLen w < 32), true, false, false⟩
  | .rnd _ w _ => some ⟨decide (wLen w < 4), true, false, false⟩
  | .mac _ w _ => some ⟨true, false, true, decide (wFlags w % 2 = 1)⟩
  | .macu _ w _ => some ⟨true, false, true, decide (wFlags w % 2 = 1)⟩
  | .msu _ w _ => some ⟨true, false, true, decide (wFlags w % 2 = 1)⟩
  | .mula _ w _ => some ⟨true, false, true, decide (wFlags w % 2 = 1)⟩
  | .mulau _ w _ => some ⟨true, false, true, decide (wFlags w % 2 = 1)⟩
  | .mta _ w _ => some ⟨true, false, true, decide (wFlags w % 2 = 1)⟩
  | .aclr _ w _ => some ⟨true, false, true, decide (wFlags w % 2 = 1)⟩
  | .mfal _ w _ => some ⟨true, true, false, decide (wFlags w % 2 = 1)⟩
  | .mfah _ w _ => some ⟨true, true, false, decide (wFlags w % 2 = 1)⟩
  | .ext _ w _ => some ⟨inBounds 32 (fieldPos false (wPos w) (wLen w + 1)), true, false, false⟩
  | .exts _ w _ => some ⟨inBounds 32 (fieldPos false (wPos w) (wLen w + 1)), true, false, false⟩
  | .extb _ w _ => some ⟨inBounds 32 (fieldPos true (wPos w) (wLen w + 1)), true, false, false⟩
  | .extbs _ w _ => some ⟨inBounds 32 (fieldPos true (wPos w) (wLen w + 1)), true, false, false⟩
  | .ins _ w _ => some ⟨inBounds 32 (fieldPos false (wPos w) (wLen w + 1)), true, false, false⟩
  | .insb _ w _ => some ⟨inBounds 32 (fieldPos true (wPos w) (wLen w + 1)), true, false, false⟩
  | .extA _ w _ => some ⟨inBounds 64 (fieldPos false (wPos w) (wLen w + 1)), true, false, false⟩
  | .extsA _ w _ => some ⟨inBounds 64 (fieldPos false (wPos w) (wLen w + 1)), true, false, false⟩
  | .extbA _ w _ => some ⟨inBounds 64 (fieldPos true (wPos w) (wLen w + 1)), true, false, false⟩
  | .extbsA _ w _ => some ⟨inBounds 64 (fieldPos true (wPos w) (wLen w + 1)), true, false, false⟩
  | .insA _ w _ => some ⟨inBounds 64 (fieldPos false (wPos w) (wLen w + 1)), false, true, false⟩
  | .insbA _ w _ => some ⟨inBounds 64 (fieldPos true (wPos w) (wLen w + 1)), false, true, false⟩
  | .nop _ _ _ => some ⟨true, false, false, false⟩
  | _ => none

/-- A store instruction: the nib, the word it met, what ECC found, its major opcode and the bytes it stores. -/
structure NibStoreForm where
  n : NibId
  w : Word
  ecc : EccFind
  maj : Nat
  size : Nat

/-- The store instructions (R283). -/
def nibStoreForm (i : Instr) : Option NibStoreForm :=
  match i with
  | .stw n w ecc => some ⟨n, w, ecc, 0x14, 4⟩
  | .sth n w ecc => some ⟨n, w, ecc, 0x15, 2⟩
  | .stb n w ecc => some ⟨n, w, ecc, 0x16, 1⟩
  | _ => none

/-- The byte of die memory that a nib's data address names: its own DMEM or its cluster's pool (R219). -/
def nibByte (n : NibId) (a : Nat) : Option Nat :=
  if a < 0x2000 then some (dmemAddr n.c.val n.k.val a)
  else if 0x40000000 ≤ a ∧ a < 0x40040000 then some (poolAddr n.c.val (a - 0x40000000))
  else none

/-- A Ductus record as a command: the die, the record, whether it may be for one die only, and its type. -/
structure RecordForm where
  d : Die
  r : Rec
  dieOnlyOk : Bool
  typ : Nat

/-- The state in which the loader judges the record: a cluster record that keeps its own rules is noted first (R260). -/
def RecordForm.before (f : RecordForm) (s : State) : State := if f.typ = 0x0301 then s.noteLanes f.d f.r else s

/-- What follows once the record's command, given in state `s`, has left `t`: the check of the world after the last record of its range
(R580), the check of the key order after the last PDU block (R355). -/
def RecordForm.after (f : RecordForm) (s t : State) : State :=
  if f.typ / 256 = 1 then t.worldEnd s f.d f.r
  else if f.typ = 0x0403 then
    t.afterLast s f.d f.r (fun q => decide (q.typ.toNat = 0x0403) && !q.lateStep) (fun t => t.checkKeys f.d)
  else t

/-- A command that is a Ductus record. -/
def recordForm (i : Instr) : Option RecordForm :=
  match i with
  | .islandClockRecord d r => some ⟨d, r, false, 0x0C01⟩
  | .channelRecord d r => some ⟨d, r, false, 0x0201⟩
  | .feedRecord d r => some ⟨d, r, false, 0x0202⟩
  | .switchDieControlRecord d r => some ⟨d, r, false, 0x0203⟩
  | .failSafeEntryRecord d r => some ⟨d, r, false, 0x0204⟩
  | .clusterRecord d r => some ⟨d, r, false, 0x0301⟩
  | .programRecord d r => some ⟨d, r, false, 0x0302⟩
  | .subscriptionRecord d r => some ⟨d, r, false, 0x0303⟩
  | .tickRecord d r => some ⟨d, r, false, 0x0304⟩
  | .mailboxRecord d r => some ⟨d, r, false, 0x0305⟩
  | .descriptorBlockRecord d r => some ⟨d, r, false, 0x0401⟩
  | .fanOutBlockRecord d r => some ⟨d, r, false, 0x0402⟩
  | .pduBlockRecord d r => some ⟨d, r, false, 0x0403⟩
  | .gatewayRecord d r => some ⟨d, r, false, 0x0404⟩
  | .partitionMailboxRecord d r => some ⟨d, r, false, 0x0405⟩
  | .acfPortRecord d r => some ⟨d, r, false, 0x0406⟩
  | .valueTableRecord d r => some ⟨d, r, false, 0x0407⟩
  | .canControllerRecord d r => some ⟨d, r, false, 0x0501⟩
  | .canFiltersRecord d r => some ⟨d, r, false, 0x0502⟩
  | .linControllerRecord d r => some ⟨d, r, false, 0x0503⟩
  | .linFrameTableRecord d r => some ⟨d, r, false, 0x0504⟩
  | .linScheduleRecord d r => some ⟨d, r, false, 0x0505⟩
  | .senseInputsRecord d r => some ⟨d, r, false, 0x0506⟩
  | .satelliteBusRecord d r => some ⟨d, r, false, 0x0507⟩
  | .portRecord d r => some ⟨d, r, false, 0x0601⟩
  | .switchRecord d r => some ⟨d, r, false, 0x0701⟩
  | .switchPortRecord d r => some ⟨d, r, false, 0x0702⟩
  | .vlanBlockRecord d r => some ⟨d, r, false, 0x0703⟩
  | .staticEntriesRecord d r => some ⟨d, r, false, 0x0704⟩
  | .gateListRecord d r => some ⟨d, r, false, 0x0705⟩
  | .hostQueuesRecord d r => some ⟨d, r, false, 0x0706⟩
  | .timeRecord d r => some ⟨d, r, false, 0x0801⟩
  | .phasePlanRecord d r => some ⟨d, r, false, 0x0802⟩
  | .gptpPortRecord d r => some ⟨d, r, false, 0x0803⟩
  | .pulseOutputRecord d r => some ⟨d, r, false, 0x0804⟩
  | .lanePinRecord d r => some ⟨d, r, false, 0x0805⟩
  | .duplexRecord d r => some ⟨d, r, true, 0x0901⟩
  | .epochRecord d r => some ⟨d, r, false, 0x0902⟩
  | .openImageRecord d r => some ⟨d, r, false, 0x0903⟩
  | .energyPolicyRecord d r => some ⟨d, r, false, 0x0A01⟩
  | .wakePinsRecord d r => some ⟨d, r, false, 0x0A02⟩
  | .feedWatchRecord d r => some ⟨d, r, false, 0x0A03⟩
  | .groupRecord d r => some ⟨d, r, false, 0x0B01⟩
  | .remoteAccessRecord d r => some ⟨d, r, false, 0x0B02⟩
  | .roamingRecord d r => some ⟨d, r, false, 0x0B03⟩
  | .updatePolicyRecord d r => some ⟨d, r, false, 0x0D01⟩
  | .compatibilityRecord d r => some ⟨d, r, false, 0x0D02⟩
  | .faultPolicyRecord d r => some ⟨d, r, false, 0x0E01⟩
  | .debugPolicyRecord d r => some ⟨d, r, false, 0x0F01⟩
  | .sealedKeyStoreRecord d r => some ⟨d, r, false, 0x0F02⟩
  | .partitionRecord d r => some ⟨d, r, false, 0x0101⟩
  | .gateBlockRecord d r => some ⟨d, r, false, 0x0102⟩
  | .assignmentBlockRecord d r => some ⟨d, r, false, 0x0103⟩
  | .sealedWorldRecord d r => some ⟨d, r, false, 0x0104⟩
  | .sealedCodeRecord d r => some ⟨d, r, false, 0x0105⟩
  | .regionBlockRecord d r => some ⟨d, r, false, 0x0110⟩
  | .routeBlockRecord d r => some ⟨d, r, false, 0x0120⟩
  | .controllerRecord d r => some ⟨d, r, false, 0x0121⟩
  | .softwareSettersRecord d r => some ⟨d, r, false, 0x0122⟩
  | _ => none

/-- The bytes of a record in an image: its header and its body (R53). -/
def recBytes (r : Rec) : List Byte :=
  toLE 2 r.typ.toNat ++ toLE 2 r.flags.toNat ++ toLE 4 r.body.length ++ toLE 4 r.target.toNat ++ toLE 4 r.seq.toNat ++ r.body

end Sys2Proof.Machine
end

