-- ==== Sys2Proof/Safety.lean ====
section
/-! DEFINITION. The terms in which statements speak of the machine: when a command meets the conditions of its own effect, and the
invariants of the state. -/

namespace Sys2Proof.Machine

/-! ### Nib instructions -/

/-- Whether a nib meets a word as an instruction with no cause of R246 before its own effect: the nib runs, the word is the
instruction with its unused fields 0, and it stands neither in a shadow nor at a loop end that forbid it. -/
def State.nibMeets (s : State) (n : NibId) (w : Word) (op : NibOp) (k : NibKind) : Bool :=
  let x := s.nib n
  s.nibRuns n && s.fetches n w && op.isOp w && op.clean w &&
    !(x.slotOf.isSome && (decide (k = .branch) || decide (k = .mset))) && !(x.mset.isSome && decide (k ≠ .plain)) &&
    (x.loopForm k).isNone

/-- The state once the fetch of an instruction was checked: an error that ECC corrected is recorded (R222). -/
def State.nibNoted (s : State) (n : NibId) (ecc : EccFind) : State :=
  if ecc = .corrected then s.nibEcc n 0x07 5 (s.nib n).pc else s

/-- The state after an instruction whose effect left state `t` and that completes in sequence. -/
def State.nibSeq (s : State) (n : NibId) (t : State) : State := t.nibEnd n (s.nib n) (s.nib n).seqPc .none

/-- The state after a taken branch with a target, its delay slot next. -/
def State.nibBranch (s : State) (n : NibId) (t : State) (a : Nat) : State :=
  (t.updNib n (fun y => y.leaveLoops a)).nibEnd n (s.nib n) ((s.nib n).pc + 4) (some ⟨(s.nib n).pc, some a⟩)

/-- Whether two states differ in nothing but one nib: the whole state outside the clusters of its die, its cluster but for the nibs,
and every other nib are alike. -/
def State.onlyNib (s t : State) (n : NibId) : Prop :=
  { t with vol := s.vol } = s ∧
  t.vol.get n.d.other = s.vol.get n.d.other ∧
  { t.vol.get n.d with clusters := [] } = { s.vol.get n.d with clusters := [] } ∧
  (∀ c, { t.cl n.d c with nibs := [] } = { s.cl n.d c with nibs := [] }) ∧
  ∀ m, m ≠ n → t.nib m = s.nib m

/-- Whether a nib is as before but for its registers, accumulator, flags and the state of its sequence: PC, delay slot, loop counters,
the commit of a waiting MSET, its patches (R217, R225, R252). -/
def Nib.onlyComputed (x y : Nib) : Prop :=
  { y with regs := x.regs, acc := x.acc, flags0 := x.flags0, flags1 := x.flags1, pc := x.pc, slotOf := x.slotOf, run := x.run,
           lc0 := x.lc0, lc1 := x.lc1, mode := x.mode, bank := x.bank, ie := x.ie, mset := x.mset, patched := x.patched } = x

/-- Whether the flags Z, N, C and V are alike. -/
def NibFlags.sameZncv (a b : NibFlags) : Prop := a.z = b.z ∧ a.n = b.n ∧ a.c = b.c ∧ a.v = b.v

/-! ### Frames on serial links -/

/-- Whether a started switch die hears a downstream frame of a type (R175). -/
def State.hearsDown (s : State) (sd : Nat) (f : Word) (typ : Nat) : Bool :=
  (s.sd sd).started && frameOk f && isDown (frameType f) && decide (frameType f = typ)

/-- The state once it is heard: taken off the lane, the link no longer silent. -/
def State.downHeard (s : State) (d : Die) (sd : Nat) (f : Word) : State :=
  (s.updQsd d sd (fun q => { q with down := Sys2Proof.Machine.takeFrame f q.down })).updSd sd (fun x => { x with
    links := x.links.upd d (fun l => { l with silent := false }) })

/-- Whether a running Q-die hears an upstream frame of a type. -/
def State.hearsUp (s : State) (d : Die) (f : Word) (typ : Nat) : Bool :=
  s.alive d && frameOk f && isUp (frameType f) && decide (frameType f = typ)

/-- The state once it is heard. -/
def State.upHeard (s : State) (d : Die) (sd : Nat) (f : Word) : State :=
  s.updSd sd (fun x => { x with up := x.up.upd d (Sys2Proof.Machine.takeFrame f) })

/-- Whether the switch die decides on a heard command: its TAG is new, and its link is the followed one where that is asked (R177,
R181, R88). -/
def State.decides (s : State) (d : Die) (sd : Nat) (f : Word) (typ : Nat) (either startOk : Bool) : Bool :=
  let x := s.sd sd
  !(tget [] x.lastTag (d.val * 256 + typ * 8 + frameCh f)).contains (frameTag f) &&
    (decide (x.mode ≠ .start) || startOk) && (either || decide (x.mode = .start) || decide (x.line = d))

/-- The state after a command that was done: its TAG noted, acknowledged with result 0. -/
def State.commandDone (s : State) (d : Die) (sd : Nat) (f : Word) (typ : Nat) : State :=
  (s.updSd sd (fun x => { x.tagged (d.val * 256 + typ * 8 + frameCh f) (frameTag f) with
    links := x.links.upd d (fun l => { l with acked := l.acked || decide (typ = 2 ∨ typ = 3) }) })).sdAck d sd typ (frameCh f)
      (frameTag f) 0

/-! ### Frames between the members of a zone group -/

/-- Whether a port of a die in a group hears a frame of a type as another member's: the version, the group, the length and the body of
the type are right, and the frame is not the module's own (R660, R661). -/
def State.hearsZg (s : State) (d : Die) (port : Nat) (f : ZgFrame) (typ : Nat) : Bool :=
  s.zgOn d && bitOf (s.zg d).mask port && decide (f.vers = 1#8 ∧ f.typ.toNat = typ ∧ f.group = s.rd d ZGP_GID ∧
    f.len.toNat = f.body.length) && zgLenOk typ f.body.length &&
    !decide (zgFrom f = s.ownId d ∧ f.src.toNat = leBytes (s.portAddr d port) 0 6)

/-! ### Instructions of the application cores -/

/-- Whether a core executes the instruction it stands at: it may run, owes no WENTRY, its partition's reset is acknowledged, and no
enabled interrupt is taken first. -/
def State.coreMeets (s : State) (d : Die) (x : Nat) (b : Die) : Bool :=
  let c := s.core d x b
  s.canRun d x b && !(c.sealed && c.entry) && !(!c.sealed && c.regs.virt && s.bit d (WLD_pSTAT c.regs.vmid) WLD_pSTAT__RST) &&
    (if c.sealed then none else Config.rvInterrupt c.regs).isNone

/-! ### Commands of the security block -/

/-- Whether a SEC_CMD write starts an operation: requester `q`, CONFIRM, no operation in progress, a new TAG (R774). -/
def State.secStarts (s : State) (d : Die) (c : SecCmd) (q : Nat) : Bool :=
  decide (s.secReq d c.who = some q) && s.alive d && decide (c.confirm = 0xC9#8) && (s.sec d).op.isNone &&
    decide (tget none (s.vol.get d).tags (64 * 3 + q) ≠ some c.tag.toNat)

/-- Whether nothing stops every operation: the known-answer test has not failed, no zeroisation, and the vault and the DRBG where the
operation needs them. -/
def State.secOpen (s : State) (d : Die) (keyOp draws : Bool) : Bool :=
  !s.bit d SEC_STAT SEC_STAT__KATFAIL && !(s.cis.zeroise && !s.cis.zeroReports.get d) &&
    (!keyOp || s.bit d SEC_STAT SEC_STAT__VAULT) && (!draws || !(s.sec d).drbgStop)

/-- The state with the TAG of a security command noted. -/
def State.secTagged (s : State) (d : Die) (c : SecCmd) (q : Nat) : State :=
  s.updVol d (fun v => { v with tags := tset none v.tags (64 * 3 + q) (some c.tag.toNat) })

/-- The state with an operation begun: what it found, and RESULT running. -/
def State.secBegun (s : State) (d : Die) (c : SecCmd) (r : SecDone) : State :=
  let o : SecOp := ⟨c.tag.toNat, s.secOut d, r.data, r.refused, r.fill.map (fun k => (c.slot.val, k))⟩
  ((s.updSec d (fun x => { x with op := some o })).setF d SEC_CMDRES SEC_CMDRES__RESULT 1).setF d SEC_CMDRES SEC_CMDRES__TAG
    c.tag.toNat

/-! ### Ductus records -/

/-- Whether the loader of a die applies a record of a type that its body check found good: it is the next of its image, the header and
DIES fit, and no record of the same type, target and sub-key was applied before or replaces it (R53 to R64). -/
def State.takesRecord (s : State) (d : Die) (r : Rec) (sub : Nat) (dieOnlyOk : Bool) (typ : Nat) : Bool :=
  s.loading d r && r.headerOk dieOnlyOk && r.forDie d && decide (r.typ.toNat = typ) && (s.appliedSeq d r sub).isNone && !s.superseded d r

/-- The state once a record was applied: noted, and the loader at the next one. -/
def State.recordTaken (s : State) (d : Die) (r : Rec) (sub : Nat) : State := (s.noteApplied d r sub).judged d

/-! ### Invariants -/

/-- Memory in canonical form: addresses strictly rising, and no listed byte of value 0 (what an unlisted one reads as). -/
def Memory.wf (m : List Host.Cell) : Bool := twf (fun _ => 0#8) m

/-- Keys strictly rising: the form of MRAM and the bulk store, whose unwritten bytes have no value of their own. -/
def Memory.sorted (m : List Host.Cell) : Bool := tsorted m

/-- The register file in canonical form: no register listed at its reset value. -/
def State.regsWf (s : State) : Bool := twf regReset s.regs

/-- The storage of the machine in canonical form. -/
def State.Canonical (s : State) : Prop :=
  s.regsWf = true ∧ Memory.wf s.mem = true ∧ Memory.sorted s.mram = true ∧ Memory.sorted s.bulk = true

/-- Whether a step goes on: neither a fault nor a refusal. -/
def goesOn (o : Host.Outcome State Fault Refusal) : Prop := ∃ t, o = .next t

end Sys2Proof.Machine
end

