-- ==== Sys2Proof/Certificates/Slice0/Obligations.lean ====
section
/-! DEFINITION. The statements for the provers: what each command does where the conditions of its own effect hold, what the nib
instructions leave unchanged, the encodings, and what every step keeps. -/

open Sys2Proof Sys2Proof.Machine

/-- For every command c and state s with c at the front of its queue, step of s is exec of c on s with the queue's rest. The queue is
the model's own (log entry 2). Rests on 00_scope.md. -/
def Obligations.StepRunsFrontCommand : Prop :=
  ∀ (s : State) (c : Instr) (rest : List Instr),
    s.pending = c :: rest →
    step s = exec c { s with pending := rest }

/-- For every state with an empty queue the step answers a next state in which the group time of each running die has moved by 2 ns and
twice its adjustment, the group time of a die that does not run is unchanged, and memory, MRAM, the bulk store, both dies' volatile
state, the switch dies and the queue are unchanged. That a step on an empty queue is one such cycle is the model's choice (log entry
18). Rests on 12_group_time.md, 17_cistern_energy.md. -/
def Obligations.EmptyQueueTicks : Prop :=
  ∀ s : State,
    s.pending = [] →
    step s = .next s.tick ∧
    (∀ d : Die, s.alive d → s.tick.now.get d =
      ((s.now.get d : Int) + 2 * 2 ^ 32 + 2 * toSigned 32 (s.rd d TIM_FREQ).toNat).toNat) ∧
    (∀ d : Die, ¬ s.alive d → s.tick.now.get d = s.now.get d) ∧
    s.tick.mem = s.mem ∧ s.tick.mram = s.mram ∧ s.tick.bulk = s.bulk ∧ s.tick.vol = s.vol ∧ s.tick.keep = s.keep ∧
    s.tick.sds = s.sds ∧ s.tick.pending = []

/-- At reset every register of both dies reads its reset value but the cause record of the module reset and the balance, nothing is
listed in any memory, both Q-dies are held in reset, every nib is unassigned, every switch die is without power, no command waits,
and the storage is in canonical form. The balance and the values no rule states are the model's (log entries 1 and 52). Rests on
03_start_up_and_resets.md, 17_cistern_energy.md. -/
def Obligations.ResetLeaves : Prop :=
  (∀ (d : Die) (o : Nat), regKey d o ≠ CIS_BALL → regKey d o ≠ CIS_RSTMOD → State.reset.rd d o = regReset (regKey d o)) ∧
  State.reset.mem = [] ∧ State.reset.mram = [] ∧ State.reset.bulk = [] ∧
  (∀ d : Die, (State.reset.keep.get d).run = .held ∧ State.reset.alive d = false) ∧
  (∀ n : NibId, (State.reset.nib n).run = .unassigned) ∧
  (∀ sd : Nat, (State.reset.sd sd).powered = false) ∧
  State.reset.pending = [] ∧
  State.reset.Canonical

/-- For every running die, mapped register that is not the high word of a pulse period, and initiator that may write it, while no remote
request waits for a reservation that the write could end (R693): the command answers a next state in which each rw bit of the
register has the written value, each w1c bit written 1 is 0, every other bit is as before, every other register is as before (but
the result register of an entry, forwarding-database or region-guard command that an undefined OP is written to, or of a mode
request that asks for nothing with a wrong CONFIRM or on the die without the token, which then reads refused), memory is unchanged,
and no answer is given. Of the loader of the die it takes the lk bits before the seal, those of the Cistern before the first seal of
either die, and nothing after it. Where the initiator may not write it, no register changes. Which initiator may write a block is
read from the chapter of the block. Rests on 00_scope.md, 98_reader.md. -/
def Obligations.RegisterWriteBits : Prop :=
  ∀ (s : State) (d : Die) (who : Initiator) (off : BitVec 21) (v : Word) (r : RegDef),
    s.alive d →
    regDef? off.toNat = some r →
    arrIdx (TIM_PkPERIODH 0) 0x20 4 off.toNat = none →
    (s.zg (s.holder 8)).waits = [] →
    let locked := s.isSealed d ∨ (off.toNat < 0x10000 ∧ s.cis.firstSeal)
    ∃ t, exec (.registerWrite d who off v) s = .next t ∧
      (who = .loader d → ¬ locked → ∀ i, i < 32 →
        (bitOf r.lk i → (t.rd d off.toNat).getLsbD i = v.getLsbD i) ∧
        (¬ bitOf r.lk i → (t.rd d off.toNat).getLsbD i = (s.rd d off.toNat).getLsbD i)) ∧
      (who ≠ .loader d → s.mayWrite d who off.toNat → ∀ i, i < 32 →
        (bitOf r.rw i → ¬ bitOf r.w1c i → (t.rd d off.toNat).getLsbD i = v.getLsbD i) ∧
        (¬ bitOf r.rw i → bitOf r.w1c i → v.getLsbD i → (t.rd d off.toNat).getLsbD i = false) ∧
        (¬ bitOf r.rw i → (bitOf r.w1c i → ¬ v.getLsbD i) → (t.rd d off.toNat).getLsbD i = (s.rd d off.toNat).getLsbD i)) ∧
      ((who = .loader d ∧ locked) ∨ (who ≠ .loader d ∧ ¬ s.mayWrite d who off.toNat) → t.regs = s.regs) ∧
      (∀ (e : Die) (o : Nat), regKey e o ≠ regKey d off.toNat →
        ¬ (off.toNat = SGW_ECMD ∧ regKey e o = regKey d SGW_ERES) → ¬ (off.toNat = SWC_FCMD ∧ regKey e o = regKey d SWC_FRES) →
        ¬ (off.toNat = RGD_CMD ∧ regKey e o = regKey d RGD_CMDRES) →
        (∀ sd, off.toNat = PWR_DCTL sd → regKey e o ≠ regKey d (PWR_DCTLST sd)) → t.rd e o = s.rd e o) ∧
      (∀ sd, sd < 19 → who.isManager → off.toNat = PWR_DCTL sd → PWR_DCTL__REQ.get v = 0 →
        PWR_DCTL__CONFIRM.get v ≠ 0x5C3A ∨ s.driver d sd ≠ d → t.fld d (PWR_DCTLST sd) PWR_DCTLST__REQRES = 2) ∧
      (who.isManager → off.toNat = SGW_ECMD → s.fld d SGW_ERES SGW_ERES__STATE ≠ 1 → SGW_ECMD__OP.get v = 0 →
        t.fld d SGW_ERES SGW_ERES__STATE = 3 ∧ t.fld d SGW_ERES SGW_ERES__REASON = 3) ∧
      (who.isManager → off.toNat = SWC_FCMD → s.fld d SWC_FRES SWC_FRES__STATE ≠ 1 → SWC_FCMD__OP.get v = 0 →
        t.fld d SWC_FRES SWC_FRES__STATE = 3 ∧ t.fld d SWC_FRES SWC_FRES__REASON = 4) ∧
      (who.isManager → off.toNat = RGD_CMD → RGD_CMD__OP.get v = 0 → RGD_CMD__CONFIRM.get v = 0xA7 →
        t.fld d RGD_CMDRES RGD_CMDRES__STATE = 3 ∧ t.fld d RGD_CMDRES RGD_CMDRES__REASON = 5) ∧
      t.mem = s.mem ∧ t.mram = s.mram ∧ t.bulk = s.bulk ∧ t.answer = s.answer

/-- For every running die, initiator and low word of a 64-bit counter or time: LOW_WORD_READ_LATCH answers the low word; whatever
happens to the counter after, a read of the high word by the same initiator returns the high word as it stood at the read of the low
word, as long as the holding registers stand; and the holding registers of every other initiator are as before. Rule R10. -/
def Obligations.LowWordReadLatches : Prop :=
  ∀ (s : State) (d : Die) (who : Initiator) (off : BitVec 21),
    s.alive d →
    isLow64 off.toNat →
    ∃ t, exec (.lowWordReadLatch d who off) s = .next t ∧
      t.answer = .value (s.readReg d off.toNat none).1.toNat ∧
      (∀ u : State, u.held = t.held → (u.readAs d who (off.toNat + 4) none).1 = s.liveReg d (off.toNat + 4) none) ∧
      (∀ (e : Die) (other : Initiator) (o : Nat), o < 2 ^ 21 → (e, other) ≠ (d, who) →
        tfind t.held (heldKey e other o) = tfind s.held (heldKey e other o)) ∧
      t.regs = s.regs ∧ t.mem = s.mem

/-- For every switch die in its hold time, in START and not in standby: HOLD_TIME_END answers a next state in which, for each channel k,
an ON entry calls for the channel on, an OFF entry or none calls for it off, a LIMP entry calls for it to follow its limp pin with
its polarity, and every channel of a die without a table is called off. An ON entry waits while the feed is out of its limits (R86,
R121). Rule R84. -/
def Obligations.HoldTimeEndSetsFailSafe : Prop :=
  ∀ (s : State) (sd : Fin 19),
    (s.sd sd).started →
    (s.sd sd).holding →
    (s.sd sd).mode = .start →
    ¬ (s.sd sd).standby →
    ∃ t, exec (.holdTimeEnd sd) s = .next t ∧ (t.sd sd).holding = false ∧
      ∀ k, k < sdChans sd →
        ((s.sd sd).action k = 1 → (t.chan sd k).want = (s.sd sd).feedOk) ∧
        ((s.sd sd).action k = 2 →
          (t.chan sd k).want = (s.cis.limp.getLsbD ((s.sd sd).limpOf k % 4) == bitOf ((s.sd sd).limpOf k) 7)) ∧
        ((s.sd sd).action k ≠ 1 → (s.sd sd).action k ≠ 2 → (t.chan sd k).want = false) ∧
        ((s.sd sd).live = [] → (t.chan sd k).want = false)

/-- For every nib instruction and every state in which its nib does not run, or stands at another word, or the word is another
instruction of the set, the command answers the same state: a command whose event cannot occur changes nothing (log entry 3). The
gateway nib, which runs the gateway in place of instructions, is left out. Rests on 06_nib_engines.md, 07_nib_instruction_set.md. -/
def Obligations.StoppedNibExecutesNothing : Prop :=
  ∀ (s : State) (i : Instr) (f : NibForm),
    nibForm i = some f →
    (s.nib f.n).prog ≠ .gateway →
    ¬ s.nibRuns f.n ∨ ¬ s.fetches f.n f.w ∨ (¬ f.op.isOp f.w ∧ nibKnown f.w) →
    exec i s = .next s

/-- For every nib instruction at which its nib stands: an uncorrectable error of the fetch raises cause 4; else an undefined word, or
one with an unused field not 0, a branch or MSET in a delay slot, and a control instruction in the shadow of MSET raise cause 1 with
the word in EADDR; else BAL, JR, TRAP and WAIT at the end of an active loop raise cause 5 with that end in EADDR. Rests on
06_nib_engines.md, 07_nib_instruction_set.md. -/
def Obligations.NibCausesBeforeEffect : Prop :=
  ∀ (s : State) (i : Instr) (f : NibForm),
    nibForm i = some f →
    (s.nib f.n).prog ≠ .gateway →
    s.nibRuns f.n →
    s.fetches f.n f.w →
    f.op.isOp f.w ∨ ¬ nibKnown f.w →
    let x := s.nib f.n
    let e := s.nibNoted f.n f.ecc
    (f.ecc = .badFetch → exec i s = .next (s.nibFail f.n 4 x.pc 5)) ∧
    (f.ecc ≠ .badFetch →
      ¬ f.op.isOp f.w ∨ ¬ f.op.clean f.w ∨ (x.slotOf.isSome ∧ (f.kind = .branch ∨ f.kind = .mset)) ∨
        (x.mset.isSome ∧ f.kind ≠ .plain) →
      exec i s = .next (e.nibFail f.n 1 f.w.toNat 0)) ∧
    (∀ a, f.ecc ≠ .badFetch → f.op.isOp f.w → f.op.clean f.w → x.slotOf = none → x.mset = none →
      i = .bal f.n f.w f.ecc ∨ i = .jr f.n f.w f.ecc ∨ i = .trap f.n f.w f.ecc ∨ i = .wait f.n f.w f.ecc →
      x.loopForm f.kind = some a →
      exec i s = .next (e.nibFail f.n 5 a 0))

/-- For each of them, where it meets the conditions of its own effect and no watchdog exception waits: every other nib, every memory,
register and table of the module is unchanged; of its own nib only its registers, accumulator, flags and sequence state change;
every register of both banks but the one named in rd, where it writes one, is unchanged; the accumulator is unchanged where it does
not write it; the flags of the other bank are unchanged, Z, N, C and V of the bank in use where it does not set them, and S is never
cleared. Rests on 06_nib_engines.md, 07_nib_instruction_set.md. -/
def Obligations.NibComputationFrame : Prop :=
  ∀ (s : State) (i : Instr) (f : NibForm) (c : NibWrites),
    nibForm i = some f →
    nibWrites i = some c →
    s.nibMeets f.n f.w f.op f.kind →
    f.ecc ≠ .badFetch →
    f.ecc ≠ .corrected →
    c.legal →
    (s.nib f.n).seqPc ≤ 0x1FFC →
    ¬ (s.nib f.n).wdogHit →
    let x := s.nib f.n
    ∃ t, exec i s = .next t ∧ s.onlyNib t f.n ∧
      let y := t.nib f.n
      let before := x.flags
      let after := if x.bank then y.flags1 else y.flags0
      x.onlyComputed y ∧
      (∀ j, ¬ (c.rd ∧ j = 16 * b2n x.bank + wRd f.w) → tget 0#32 y.regs j = tget 0#32 x.regs j) ∧
      (¬ c.acc → y.acc = x.acc) ∧
      (if x.bank then y.flags0 = x.flags0 else y.flags1 = x.flags1) ∧
      (¬ c.flags → before.sameZncv after) ∧
      (before.s → after.s)

/-- For each nib instruction that only computes, where it meets the conditions of its own effect but would go on in sequence past
0x1FFC: it raises cause 0x03 with EADDR = 0x2000 (R286) and has no effect of its own. That it has none is the model's reading (log
entry 67). Rests on 06_nib_engines.md, 07_nib_instruction_set.md. -/
def Obligations.NibPastEndOfImem : Prop :=
  ∀ (s : State) (i : Instr) (f : NibForm) (c : NibWrites),
    nibForm i = some f →
    nibWrites i = some c →
    s.nibMeets f.n f.w f.op f.kind →
    f.ecc ≠ .badFetch →
    f.ecc ≠ .corrected →
    c.legal →
    0x1FFC < (s.nib f.n).seqPc →
    exec i s = .next (s.nibFail f.n 3 0x2000 0)

/-- For STW, STH and STB, where the nib meets the conditions of the store's own effect, the address is a multiple of the size and the
store is admitted: the command answers a next state in which every byte of memory of both dies reads as before, but for the bytes of
the form's width from the byte that the address names in the nib's DMEM or its cluster's pool, on its own die and, while the twin
rejoins from the cut, on the other (R254); an address elsewhere (staging buffer, link command port) stores to no memory. The
registers of the nib are unchanged. Rests on 06_nib_engines.md, 07_nib_instruction_set.md. -/
def Obligations.NibStoreFrame : Prop :=
  ∀ (s u v : State) (i : Instr) (f : NibStoreForm),
    nibStoreForm i = some f →
    s.nibMeets f.n f.w (opImm f.maj) .plain →
    f.ecc ≠ .badFetch →
    f.ecc ≠ .corrected →
    (s.nib f.n).seqPc ≤ 0x1FFC →
    ¬ (s.nib f.n).wdogHit →
    let x := s.nib f.n
    let a := nibAddr x f.w
    a % f.size = 0 →
    s.nibStore f.n a f.size (x.reg (wRd f.w)).toNat = (some u, v) →
    ∃ t, exec i s = .next t ∧
      (∀ (e : Die) (c : Nat), c < 2 ^ 48 →
        (∀ p, nibByte f.n a = some p → ¬ ((e = f.n.d ∨ (s.hasAuth f.n.d f.n.c.val ∧ s.clState f.n.d.other f.n.c.val = 5 ∧
          (s.cl f.n.d.other f.n.c.val).rejoin = .cut)) ∧ p ≤ c ∧ c < p + f.size)) → t.byteAt e c = s.byteAt e c) ∧
      (t.nib f.n).regs = x.regs ∧ (t.nib f.n).acc = x.acc ∧ (t.nib f.n).flags0 = x.flags0 ∧ (t.nib f.n).flags1 = x.flags1 ∧
      t.regs = s.regs ∧ t.bulk = s.bulk

/-- For every Ductus record command: unless the record is the next one of the image that the loader of its die has to judge, in its
step, and of the command's type, nothing changes; such a record that another of the image replaces, or one of a type for one die
that is for the other, is passed over; any other with a bad header fails with code 0x0C; one with a good header for the other die is
passed over; in each case the loader goes on to the next record. A failing critical record enters the no-structure state with that
code; another raises the count of omitted records. What precedes and follows the judging of a cluster record, of the last record of
range 0x01xx and of the last PDU block is named in the statement. That records of types no command names are judged with the record
before them is the model's choice (log entry 24). Rests on 02_ductus.md. -/
def Obligations.RecordsFailAlike : Prop :=
  ∀ (s : State) (i : Instr) (f : RecordForm),
    recordForm i = some f →
    (¬ s.loading f.d f.r ∨ f.r.typ.toNat ≠ f.typ → exec i s = .next s) ∧
    (s.loading f.d f.r → f.r.typ.toNat = f.typ → s.superseded f.d f.r ∨ (f.dieOnlyOk ∧ ¬ f.r.forDie f.d) →
      exec i s = .next (f.after s ((f.before s).judged f.d))) ∧
    (s.loading f.d f.r → f.r.typ.toNat = f.typ → ¬ s.superseded f.d f.r → (f.dieOnlyOk → f.r.forDie f.d) →
      ¬ f.r.headerOk f.dieOnlyOk →
      let t := (f.before s).recordFails f.d f.r 0x0C
      exec i s = .next (f.after s (t.judged f.d)) ∧
      (f.r.critical → t.fld f.d UPD_DSTAT UPD_DSTAT__STATE = 5 ∧ t.fld f.d UPD_DSTAT UPD_DSTAT__CODE = 0x0C) ∧
      (¬ f.r.critical → t.fld f.d UPD_DOMIT UPD_DOMIT__COUNT =
        min (2 ^ UPD_DOMIT__COUNT.w - 1) (s.fld f.d UPD_DOMIT UPD_DOMIT__COUNT + 1))) ∧
    (s.loading f.d f.r → f.r.typ.toNat = f.typ → ¬ s.superseded f.d f.r → f.r.headerOk f.dieOnlyOk → ¬ f.r.forDie f.d →
      exec i s = .next (f.after s ((f.before s).judged f.d)))

/-- For every state of a powered module and each module reset cause, the command answers a next state in which Q-die 0 holds the eight
tokens of the nib clusters. Rests on 01_module_anatomy.md, 03_start_up_and_resets.md. -/
def Obligations.TokensAtModuleReset : Prop :=
  ∀ (s : State) (cause : ModuleCause),
    s.cis.powered →
    ∃ t, exec (.moduleReset cause) s = .next t ∧ ∀ c, c < 8 → t.holder c = 0

/-- For every signature block, context and message: the checks pass exactly when the block is well formed, its slot holds the keys, both
signatures verify and the security version is not below the fuse; they answer code 0x06 exactly when the block is well formed, its
slot holds the keys and the ECDSA signature is bad, whatever the ML-DSA signature is, and 0x07 exactly when the ML-DSA signature
alone is bad. Rests on 02_ductus.md. -/
def Obligations.SignatureChecksInOrder : Prop :=
  ∀ (fuse : Nat) (formOk : Bool) (g ctx msg : List Byte),
    (sigCode fuse formOk g ctx msg = 0 ↔
      formOk ∧ sigFormOk g ∧ sigSlotOk g ∧ sigEcdsa g msg ∧ sigMldsa g ctx msg ∧ fuse ≤ u32 g 16) ∧
    (sigCode fuse formOk g ctx msg = 0x06 ↔ formOk ∧ sigFormOk g ∧ sigSlotOk g ∧ ¬ sigEcdsa g msg) ∧
    (sigCode fuse formOk g ctx msg = 0x07 ↔ formOk ∧ sigFormOk g ∧ sigSlotOk g ∧ sigEcdsa g msg ∧ ¬ sigMldsa g ctx msg)

/-- For any two instructions of the nib set, as the table of their encodings lists them, no word is told apart as both. Rests on
07_nib_instruction_set.md. -/
def Obligations.NibWordsAreUnambiguous : Prop :=
  nibOps.Pairwise (fun a b => ∀ w : Word, ¬ (a.isOp w ∧ b.isOp w))

/-- For every type, channel and data the frame built from them has the type in bits 31:27, the channel in bits 26:24, the data in bits
23:8 and the CRC-8 over bits 31:8 in bits 7:0, and is found good; and every word that is found good is the frame built from its own
fields, so that no bit of a frame is dropped. Types 0x01 to 0x0F are downstream, 0x10 to 0x1E upstream. Rule R174. -/
def Obligations.SerialFrameRoundTrip : Prop :=
  (∀ typ ch data : Nat, typ < 32 → ch < 8 → data < 2 ^ 16 →
    frameType (mkFrame typ ch data) = typ ∧ frameCh (mkFrame typ ch data) = ch ∧ frameData (mkFrame typ ch data) = data ∧
    (mkFrame typ ch data).toNat % 256 = crc8 ((mkFrame typ ch data).toNat / 256) ∧ frameOk (mkFrame typ ch data)) ∧
  (∀ f : Word, frameOk f → mkFrame (frameType f) (frameCh f) (frameData f) = f) ∧
  (∀ typ : Nat, (isDown typ ↔ 1 ≤ typ ∧ typ ≤ 0x0F) ∧ (isUp typ ↔ 0x10 ≤ typ ∧ typ ≤ 0x1E))

/-- For every list of records, numbered in order, whose bodies have a length that is a multiple of 8 below 2^32: the walk over their
bytes, one record after another with no gap, finds exactly that list; and whatever list a walk over some bytes finds, those bytes
are the bytes of that list, so that no byte is skipped. Rests on 02_ductus.md. -/
def Obligations.RecordWalkRoundTrip : Prop :=
  (∀ (l : List Rec) (k : Nat),
    (∀ j r, l[j]? = some r → r.index = k + j ∧ r.body.length % 8 = 0 ∧ r.body.length < 2 ^ 32) →
    walkRecs l.length k (l.flatMap recBytes) = some l) ∧
  (∀ (n k : Nat) (bytes : List Byte) (l : List Rec), walkRecs n k bytes = some l → l.length = n ∧ bytes = l.flatMap recBytes)

/-- For every state whose register file and memories are in canonical form, whatever command waits at the front of the queue: if the
step answers a next state, its register file and memories are in canonical form. The canonical form is the model's (log entry 5).
Rests on 01_module_anatomy.md, 02_ductus.md. -/
def Obligations.StepKeepsCanonicalStorage : Prop :=
  ∀ s t : State,
    s.Canonical →
    step s = .next t →
    t.Canonical

/-- For every state the step answers a next state, whose queue is the queue without its front command: no command is refused, none ends
in a fault, and no command's effect puts commands into the queue. The queue is the model's own (log entry 2). Rests on 00_scope.md. -/
def Obligations.StepTakesOneCommand : Prop :=
  ∀ s : State, ∃ t, step s = .next t ∧ t.pending = s.pending.tail

/-- Register accesses, bridge windows, the rill and the pair link: each command answers the next state of its own effect under
conditions on the state and operands alone. Commands: REGISTER_WRITE, LOW_WORD_READ_LATCH, PARTNER_WINDOW_READ, RILL_TRANSFER,
FLIT_RECEIVE, FLIT_REPLAY, PAIR_LINK_RETRAIN, RETRAIN_COMPLETE, PAIR_LINK_LOSS, MIRRORED_WRITE, MIRRORED_WRITE_COMPLETE,
PAIR_LINK_UP. Rests on spec/00_scope.md, spec/01_module_anatomy.md; the model's own choices in it are those of log entries 10, 12,
59, 60, 61, 62, 64. -/
def Obligations.AccessesComplete : Prop :=
  ∀ s : State,
  (∀ (d : Die) (who : Initiator) (off : BitVec 21) (v : Word),
    s.alive d →
    ¬ ((regDef? off.toNat).isNone) →
    ¬ (selfPage off.toNat && !who.isCore) →
    exec (.registerWrite d who off v) s = .next (
        ((s.regWrite d who off.toNat v).undefinedOp d who off.toNat v).localWrite d off.toNat)) ∧
  (∀ (d : Die) (who : Initiator) (off : BitVec 21),
    s.alive d →
    exec (.lowWordReadLatch d who off) s = .next (
        if (regDef? off.toNat).isNone || !s.blockAnswers d who off.toNat then
          s.reply (.errorBytes (List.replicate 4 0xFF#8))
        else if latches off.toNat ≠ [] ∨ isLatched off.toNat = true then
          let r := s.readAs d who off.toNat none
          r.2.reply (.value r.1.toNat)
        else
          s)) ∧
  (∀ (d : Die) (who : Initiator) (addr : BitVec 35) (n : Fin 9) (late : Bool),
    let a := addr.toNat
    let t := tagsOf who
    s.alive d →
    exec (.partnerWindowRead d who addr n late) s = .next (
        match (if late && s.retraining then none else s.partnerRead d who t a n.val) with
        | some l =>
            (((s.plNotice d 0 9 a).plNotice d.other 0 10 a).partnerLatch d who a n.val).reply (.bytes l)
        | none =>
            let s1 := if s.memAdmits d a n.val t .read then s else s.memRefuse d a t .read
            s1.reply (.errorBytes (List.replicate n.val 0xFF#8)))) ∧
  (∀ (d : Die) (src dst : Fin 18) (payload : BitVec 64) (bad badAgain : Bool),
    let h : RillHold := ⟨src, dst, payload, bad, badAgain⟩
    s.alive d →
    src ≠ dst →
    exec (.rillTransfer d src dst payload bad badAgain) s = .next (
        if !s.clocked d dst.val then
          s.updVol d (fun v => { v with rills := v.rills ++ [h] })
        else
          let s1 := (s.rillsRun d).rillArrive d h
          if bad && badAgain && [src, dst].any (fun n => decide (n.val = 0 ∨ n.val = 16)) then
            s1.fatal d 3
          else
            s1)) ∧
  (∀ (d : Die) (lane : Fin 8) (crcOk : Bool),
    let e := d.other
    let l := s.link.get e
    s.linkUp →
    ¬ s.retraining →
    bitOf (s.fld d ISL_PLSTAT ISL_PLSTAT__LANEOK) lane.val →
    exec (.flitReceive d lane crcOk) s = .next (
        if l.replay then
          match nextFlit l.waiting with
          | some f =>
              if l.sent.length < replayFlits then
                s.updLink e (fun l => { l with waiting := l.waiting.erase f, sent := l.sent ++ [f] })
              else
                s
          | none =>
              s
        else
          match (match l.sent with | f :: _ => some f | [] => nextFlit l.waiting) with
          | none =>
              s
          | some f =>
              let rest := if l.sent = [] then l.waiting.erase f else l.waiting
              if crcOk then
                (s.updLink e (fun l => { l with waiting := rest, sent := l.sent.tail, accepted := l.accepted + 1, failed := 0 })).flitIn d
                  f.body
              else
                let now := s.ns d
                let errs := (l.errs ++ [(lane.val, now)]).filter (fun x => decide (now < x.2 + 1000000))
                let s1 := s.updLink e (fun l => { l with
                  waiting := rest, sent := if l.sent = [] then [f] else l.sent, failed := l.failed + 1, replay := true, errs := errs })
                if 9 ≤ l.failed + 1 then
                  s1.linkLoss
                else if 16 < (errs.filter (fun x => decide (x.1 = lane.val))).length then
                  s1.linkRetrain (decide (lane.val < 4))
                else
                  s1)) ∧
  (∀ (d : Die),
    s.linkUp →
    ¬ s.retraining →
    (s.link.get d).replay →
    exec (.flitReplay d) s = .next ((s.updLink d (fun l => { l with replay := false })).incWrap d ISL_PLREPLAY whole)) ∧
  (∀ (high : Bool),
    (s.linkUp && !s.retraining) || s.training →
    exec (.pairLinkRetrain high) s = .next (s.linkRetrain high)) ∧
  (
    s.retraining →
    exec .retrainComplete s = .next ((s.setBoth ISL_PLSTAT ISL_PLSTAT__STATE 3).linkRecord 2 0x10)) ∧
  (
    s.linkUp →
    exec .pairLinkLoss s = .next (s.linkLoss)) ∧
  (∀ (d : Die) (who : Initiator) (port : MirrorPort) (index : BitVec 24) (value : List Word),
    let i := index.toNat
    s.alive d →
    exec (.mirroredWrite d who port index value) s = .next (
        if !s.mirrorOk d who port i value then
          if port = .pool ∧ i < 2 ^ 19 then
            (s.memRefuse d (poolAddr (i / 65536) (4 * (i % 65536))) (tagsOf who) .write).reply .error
          else
            s.reply (.value 0)
        else
          match portTable? port with
          | some t =>
              (((List.range value.length).foldl (fun st k => st.wr d (SGW_EBUFi k) (value.getD k 0#32)) s).ecmdWrite d t i true
                false).reply (.value 0)
          | none =>
              let s1 := s.mirrorPut d port i value
              if s1.joint d then
                (s1.plSend d 1 .mirror (s1.pairCipher d (mirrorContent port i value))).updVol d (fun v => { v with mirror := v.mirror ++ [⟨port, i, value, false, false, false⟩] })
              else
                s1.reply (.value 0))) ∧
  (∀ (d : Die),
    ∀ m l, (s.vol.get d).mirror = m :: l →
    let s1 := s.updVol d (fun v => { v with mirror := l })
    let ends := fun (st : State) (partner : Nat) => (if m.cmd then st.ecmdDone d 2 partner 0 else st).reply (.value partner)
    exec (.mirroredWriteComplete d) s = .next (
        if !s1.joint d then
          ends s1 0
        else if m.there then
          let s2 := s1.mirrorPut d.other m.port m.index m.value
          ends (if m.clear then s2.dropShadow d.other m.index else s2) 1
        else
          s)) ∧
  (
    s.training →
    exec .pairLinkUp s = .next (
        ((s.setBoth ISL_PLSTAT ISL_PLSTAT__STATE 2).setBoth ISL_PLSTAT ISL_PLSTAT__LANEOK 0xFF).syncJournals))

/-- Resets of the module, its dies and what they hold, and reset requests: each command answers the next state of its own effect under
conditions on the state and operands alone. Commands: POWER_ON_RESET, BROWN_OUT, MODULE_RESET, DIE_RESET, NIB_CLUSTER_RESET,
SWITCH_DIE_RESET, RSTREQ_MODULE, RSTREQ_DIE, RSTREQ_PARTITION, RSTREQ_NIB_CLUSTER, RSTREQ_SWITCH_DIE, RESET_N_ASSERT,
RESET_N_RELEASE, PARTITION_RESET, PARTITION_RESET_HELD. Rests on spec/03_start_up_and_resets.md, spec/14_worlds_and_partitions.md,
spec/20_faults_and_blotter.md; the model's own choices in it are those of log entries 1, 25, 26, 50, 52. -/
def Obligations.ResetsComplete : Prop :=
  ∀ s : State,
  (
    exec .powerOnReset s = .next (s.powerOn)) ∧
  (
    s.cis.powered →
    exec .brownOut s = .next (s.moduleReset 2 0)) ∧
  (∀ (cause : ModuleCause),
    exec (.moduleReset cause) s = .next (
        if cause = .powerOn then
          s.powerOn
        else if !s.cis.powered then
          s
        else if cause = .rstreq then
          s.withFree (fun v s => s.moduleReset 5 (1 + v % 3))
        else
          s.moduleReset (moduleCode cause) (moduleReq cause))) ∧
  (∀ (d : Die) (cause : DieCause),
    exec (.dieReset d cause) s = .next (
        match cause with
        | .rstreq =>
            s.withFree (fun v s => s.askDieReset d 0x10 (1 + v % 3))
        | .regulator =>
            s.dieReset d 0x12 4
        | .wakeDormant =>
            s.dieReset d 0x14 4
        | .debug =>
            s.dieReset d 0x16 6
        | c =>
            s.dieReset d (dieCode c) 0)) ∧
  (∀ (d : Die) (c : Fin 8) (cause : ClusterCause),
    s.alive d →
    exec (.nibClusterReset d c cause) s = .next (
        if cause = .rstreq then
          s.withFree (fun v s => (s.clusterResetAsk d c.val 0x30 (1 + v % 3)).getD s)
        else
          (s.clusterResetAsk d c.val (clusterCode cause) 0).getD s)) ∧
  (∀ (sd : Fin 19) (cause : SwitchCause),
    (s.sd sd.val).powered →
    exec (.switchDieReset sd cause) s = .next (
        if cause = .rstreq then
          s.withFree (fun v s => s.switchDieReset sd.val 0x41 (1 + v % 3))
        else
          s.switchDieReset sd.val (switchCode cause) 0)) ∧
  (∀ (d : Die) (who : Initiator) (confirm : BitVec 16),
    ∀ q, reqCode who = some q →
    s.alive d →
    confirm = 0xA5C3#16 →
    s.cis.resetN →
    exec (.rstreqModule d who confirm) s = .next ((s.rstResult d 1).moduleReset 5 q)) ∧
  (∀ (d : Die) (who : Initiator) (confirm : BitVec 16) (target : BitVec 5),
    ∀ q, reqCode who = some q →
    s.alive d →
    confirm = 0xA5C3#16 →
    s.cis.resetN →
    target.toNat < 2 →
    let t : Die := if target = 0#5 then 0 else 1
    exec (.rstreqDie d who confirm target) s = .next (
        if s.onlySealed t then
          (s.askDieReset t 0x10 q).rstResult d 2
        else
          (s.rstResult d 1).askDieReset t 0x10 q)) ∧
  (∀ (d : Die) (who : Initiator) (confirm : BitVec 16) (target : BitVec 5),
    ∀ q, reqCode who = some q →
    s.alive d →
    confirm = 0xA5C3#16 →
    s.cis.resetN →
    let p := target.toNat
    p ≠ 0 →
    let r := if s.ckState s.anyDie p = 6 then 3 else 1
    exec (.rstreqPartition d who confirm target) s = .next ((s.rstResult d r).partReset p 0x20 q)) ∧
  (∀ (d : Die) (who : Initiator) (confirm : BitVec 16) (target : BitVec 5) (on : Die),
    ∀ q, reqCode who = some q →
    s.alive d →
    confirm = 0xA5C3#16 →
    s.cis.resetN →
    let c := target.toNat
    c < 8 →
    exec (.rstreqNibCluster d who confirm target on) s = .next (
        if !s.alive on then
          s.rstResult d 1
        else
          match s.clusterResetAsk on c 0x30 q with
          | some t =>
              t.rstResult d 1
          | none =>
              s.rstResult d 2)) ∧
  (∀ (d : Die) (who : Initiator) (confirm : BitVec 16) (target : BitVec 5),
    ∀ q, reqCode who = some q →
    s.alive d →
    confirm = 0xA5C3#16 →
    s.cis.resetN →
    let sd := target.toNat
    sd < 19 →
    exec (.rstreqSwitchDie d who confirm target) s = .next (
        if (s.sd sd).powered then
          (s.rstResult d 1).switchDieReset sd 0x41 q
        else
          s.rstResult d 1)) ∧
  (
    s.cis.powered →
    s.cis.resetN →
    exec .resetNAssert s = .next ((s.updCis (fun c => { c with resetN := false })).moduleReset 3 5)) ∧
  (
    s.cis.powered →
    ¬ s.cis.resetN →
    let up := fun (st : State) (d : Die) => st.updKeep d (fun k =>
      if k.run = .off then { k with run := .held, supplied := true, dramRefresh := true } else k)
    exec .resetNRelease s = .next (up (up (s.updCis (fun c => { c with resetN := true })) 0) 1)) ∧
  (∀ (p : Fin 32) (policy : Bool),
    exec (.partitionReset p policy) s = .next (s.partReset p.val (if policy then 0x21 else 0x20) 0)) ∧
  (∀ (d : Die) (p : Fin 32),
    s.alive d →
    s.bit d (WLD_pSTAT p.val) WLD_pSTAT__RST →
    tget 0 (s.vol.get d).flt.heldAt p.val + 1000000000 ≤ s.ns d →
    exec (.partitionResetHeld d p) s = .next (
        s.updVol d (fun v => { v with flt := { v.flt with heldReset := tset false v.flt.heldReset p.val true } })))

/-- Straps, verification of the Ductus image, donation, sealing and the start of switch dies: each command answers the next state of its
own effect under conditions on the state and operands alone. Commands: STRAP_SAMPLE, DUCTUS_VERIFY, VERIFICATION_EXCHANGE,
PARTNER_RESULT_TIMEOUT, IMAGE_DONATION, SEAL_READY, SEAL, SEAL_READY_TIMEOUT, Q_DIE_RELEASE, LOADER_DONATION, START_ENTRY,
HOLD_TIME_END, LIMP_PIN_CHANGE, NVM_WRITE_COMPLETE, SWITCH_DIE_POWER_UP, SWITCH_DIE_POWER_DOWN, FEED_REVERSE, FEED_REVERSE_END,
VAUX_OVERLOAD, VAUX_RETRY. Rests on spec/02_ductus.md, spec/03_start_up_and_resets.md, spec/22_connector_and_electrical.md; the
model's own choices in it are those of log entries 14, 20, 21, 22, 24, 28. -/
def Obligations.StartUpCompletes : Prop :=
  ∀ s : State,
  (∀ (pins : BitVec 3),
    s.cis.powered →
    s.cis.resetN →
    s.cis.straps.length < 8 →
    let l := s.cis.straps ++ [pins]
    let s1 := s.updCis (fun c => { c with straps := l })
    exec (.strapSample pins) s = .next (
        if l.length < 8 then
          s1
        else
          s1.updCis (fun c => { c with strapFault := l.any (fun p => decide (p ≠ pins)), strapValue := pins.toNat }))) ∧
  (∀ (d : Die),
    s.alive d →
    (s.boot d).loaderOk →
    s.dstate d = 0 →
    ¬ (s.writing d) →
    let r := s.verifyOwn d
    let s1 := ((s.setF d UPD_DSTAT UPD_DSTAT__STATE 1).setF d UPD_DSTAT UPD_DSTAT__CODE r.code).updBoot d (fun b => { b with
      own := some r })
    exec (.ductusVerify d) s = .next (
        if r.code = 0 then
          s1.extendBmr d (s1.bytesAt d imgBase 256)
        else
          s1)) ∧
  (
    s.linkFlows →
    s.alive 0 →
    s.alive 1 →
    exec .verificationExchange s = .next ((s.syncJournals.chooseCopy 0).chooseCopy 1)) ∧
  (∀ (d : Die),
    ∀ o, (s.boot d).own = some o →
    s.alive d →
    s.dstate d = 1 →
    ¬ ((s.boot d).donate) →
    ¬ (s.linkUp && (s.boot d.other).own.isSome) →
    o.code = 0 →
    exec (.partnerResultTimeout d) s = .next (
        (if s.alive d.other && (s.boot d.other).romOk then s else s.standAlone d).proceed d o)) ∧
  (∀ (d : Die),
    s.alive d →
    s.alive d.other →
    s.linkFlows →
    s.classZero d.other →
    (s.boot d).donate →
    s.dstate d = 1 →
    let sent := s.plNotice d.other 0 13 1
    let s0 := if s.updPhase = 11 then sent.putBytes d ldrBase (s.bytesAt d.other ldrBase ldrSize) else sent
    let s1 := s0.putBytes d imgBase (s0.slotImage d.other)
    let r := s1.verifyOwn d
    let s2 := s1.updBoot d (fun b => { b with own := some r, donate := false })
    exec (.imageDonation d) s = .next (
        if r.code = 0 then
          (((s2.extendBmr d (s2.bytesAt d imgBase 256)).setF d UPD_DSTAT UPD_DSTAT__DONATED 1).record d 0x0F00 0x17 0 0 7).proceed d r
        else
          s2.bootFails d r.code)) ∧
  (∀ (d : Die),
    ∀ o, (s.boot d).own = some o →
    s.alive d →
    s.dstate d = 3 →
    (s.todo d).isEmpty →
    ¬ ((s.boot d).ready.isSome) →
    let n : SealReady := ⟨o.digest, s.fld d UPD_DOMIT UPD_DOMIT__COUNT, s.failedList d⟩
    let s1 := s.updBoot d (fun b => { b with ready := some n })
    exec (.sealReady d) s = .next (
        if !s1.alive d.other then
          s1
        else
          let s2 := s1.plSend d 3 (.ready n)
          match (s2.boot d.other).ready with
          | some p =>
              s2.plSend d.other 3 (.ready p)
          | none =>
              s2)) ∧
  (∀ (d : Die),
    ∀ n, (s.boot d).ready = some n →
    s.alive d →
    s.dstate d = 3 →
    exec (.seal d) s = .next (
        if s.apart && decide (d = 1) then
          s.doSeal 1
        else
          match (s.boot d).partnerReady with
          | none =>
              s
          | some p =>
              if n = p then
                s.sealHere d s.linkUp
              else if s.isSealed d.other && s.alive d.other then
                ((s.outOfStep d).noteDiffer d).noteDiffer d.other
              else
                let s1 := s.noteDiffer d
                if s.holder 0 = d then
                  s1.sealHere d false
                else
                  s1.outOfStep d)) ∧
  (∀ (d : Die),
    s.alive d →
    s.dstate d = 3 →
    (s.boot d).ready.isSome →
    (s.boot d).partnerReady.isNone →
    ¬ ((s.boot d).joins && s.alive d.other && s.isSealed d.other) →
    exec (.sealReadyTimeout d) s = .next (s.sealHere d false)) ∧
  (∀ (d : Die) (selfOk : Bool),
    let k := s.keep.get d
    k.run = .held →
    k.supplied →
    s.cis.powered →
    s.cis.resetN →
    ¬ k.glitchStuck →
    let joins := s.alive d.other && s.isSealed d.other
    let s0 := ((s.updKeep d (fun k => { k with run := .running, dramRefresh := false })).startTime d).updCis (fun c => { c with
      resetting := false })
    let s1 := s0.updBoot d (fun b => { b with joins := joins })
    exec (.qDieRelease d selfOk) s = .next (
        if !selfOk then
          let s2 := s1.setF d CIS_BOOT CIS_BOOT__LCODE 0x10
          if s2.canRelease d.other then
            s2.standAlone d.other
          else
            s2
        else
          let s2 := s1.updBoot d (fun b => { b with romOk := true })
          let s3 := s2.setF d ISL_PLSTAT ISL_PLSTAT__STATE 1
          let s4 := if s3.alive d.other && (s3.boot d.other).romOk then s3.setF d.other ISL_PLSTAT ISL_PLSTAT__STATE 1 else s3
          let scope := s4.fld d DBG_STAT DBG_STAT__SCOPE
          let s5 := if 1 ≤ scope then s4.extendBmr d (ascii4 0x44 0x42 0x47 0x53 ++ toLE 4 scope) else s4
          let s6 := s5.finishCopy d
          let code := s6.loaderCode d
          let s7 := s6.setF d CIS_BOOT CIS_BOOT__LCODE code
          if code = 0 then
            s7.enterLoader d
          else
            s7)) ∧
  (∀ (d : Die),
    s.alive d →
    s.alive d.other →
    s.linkFlows →
    s.classZero d.other →
    (s.boot d).romOk →
    ¬ ((s.boot d).loaderOk) →
    s.fld d CIS_BOOT CIS_BOOT__LCODE ≠ 0 →
    let s1 := (s.plNotice d.other 0 13 0).putBytes d ldrBase (s.bytesAt d.other ldrBase ldrSize)
    let again := s1.loaderCode d
    let s2 := s1.setF d CIS_BOOT CIS_BOOT__LCODE again
    exec (.loaderDonation d) s = .next (
        if s.loaderCode d.other ≠ 0 then s
        else if again = 0 then (s2.setF d CIS_BOOT CIS_BOOT__LDON 1).enterLoader d
        else s2)) ∧
  (∀ (sd : Fin 19),
    let x := s.sd sd.val
    x.powered →
    ¬ x.started →
    let bad := decide (x.table ≠ []) && (x.nvmFault || !tableOk sd.val x.table)
    let s1 := s.updSd sd.val (fun x => { x with nvmFault := bad })
    let s2 := s1.updSd sd.val (fun x => { x with started := true, mode := .start, holding := true, live := x.tbl })
    exec (.startEntry sd) s = .next (
        if bad then
          (s2.sdEvent sd.val 0 0x08).showTable sd.val 5
        else
          s2)) ∧
  (∀ (sd : Fin 19),
    let x := s.sd sd.val
    x.started →
    x.holding →
    let s1 := (s.updSd sd.val (fun x => { x with holding := false })).settleAll sd.val
    let send := fun (st : State) (d : Die) =>
      if st.alive d && st.isSealed d && !(st.apart && decide (d = 1)) && decide ((st.qsd d sd.val).tblSends = 0) then
        st.firstTable d sd.val else st
    exec (.holdTimeEnd sd) s = .next (send (send s1 0) 1)) ∧
  (∀ (pin : Fin 4) (level : Bool),
    let s1 := s.updCis (fun c => { c with limp := BitVec.ofNat 4 (withBit c.limp.toNat pin.val level) })
    exec (.limpPinChange pin level) s = .next (
        (List.range 19).foldl (fun st sd => if (st.sd sd).started then st.settleAll sd else st) s1)) ∧
  (∀ (sd : Fin 19),
    ∀ img, (s.sd sd.val).writing = some img →
    (s.sd sd.val).started →
    exec (.nvmWriteComplete sd) s = .next (s.tableInForce sd.val img true)) ∧
  (∀ (sd : Fin 19),
    ¬ ((s.sd sd.val).powered) →
    ¬ (s.cis.feedRev.get (if sdFeedB sd.val then 1 else 0)) →
    exec (.switchDiePowerUp sd) s = .next (
        ((s.causeRecord 0 (CIS_RSTSWn sd.val) 0x40 0).updSd sd.val (fun x => x.fresh true)).forgetSd sd.val)) ∧
  (∀ (sd : Fin 19),
    (s.sd sd.val).powered →
    exec (.switchDiePowerDown sd) s = .next ((s.updSd sd.val (fun x => x.fresh false)).forgetSd sd.val)) ∧
  (∀ (feedB : Bool),
    let e : Die := if feedB then 1 else 0
    exec (.feedReverse feedB) s = .next (
        (((s.updCis (fun c => { c with feedRev := c.feedRev.set e true })).setF 0 CIS_STAT
          (if feedB then CIS_STAT__FEEDB else CIS_STAT__FEEDA) 0)).reverseSwitches feedB true)) ∧
  (∀ (feedB : Bool),
    let e : Die := if feedB then 1 else 0
    s.cis.feedRev.get e →
    exec (.feedReverseEnd feedB) s = .next (
        (s.updCis (fun c => { c with feedRev := c.feedRev.set e false })).reverseSwitches feedB false)) ∧
  (
    s.cis.powered →
    s.cis.vaux →
    s.fld 0 CIS_STAT CIS_STAT__STATE < 3 →
    exec .vauxOverload s = .next (
        (s.updCis (fun c => { c with vaux := false, vauxTrip := true, vauxAt := s.rtc })).setF 0 CIS_EVT CIS_EVT__HEALTH 1)) ∧
  (∀ (overloaded : Bool),
    s.cis.powered →
    s.cis.vauxTrip →
    s.cis.vauxAt + 3276 ≤ s.rtc →
    exec (.vauxRetry overloaded) s = .next (
        if overloaded then
          (s.updCis (fun c => { c with vauxAt := s.rtc })).setF 0 CIS_EVT CIS_EVT__HEALTH 1
        else
          s.updCis (fun c => { c with vaux := true, vauxTrip := false })))

/-- Events of the power stage: feed, current, temperature, open load and off-state test: each command answers the next state of its own
effect under conditions on the state and operands alone. Commands: UNDERVOLTAGE_TURN_OFF, UNDERVOLTAGE_RESTART,
OVERVOLTAGE_TURN_OFF, OVERVOLTAGE_RESTART, SETTING_MISMATCH, SETTING_MISMATCH_CLEAR, CURRENT_LIMIT, OVERCURRENT_TRIP,
JUNCTION_WARNING, THERMAL_SHUTDOWN, LAMP_RETRY, WARM_WINDOW_END, OPEN_LOAD_ON, OFF_STATE_TEST, OFF_STATE_TEST_COMPLETE. Rests on
spec/04_power_stage.md; the model's own choices in it are those of log entry 3. -/
def Obligations.PowerProtectionCompletes : Prop :=
  ∀ s : State,
  (∀ (sd : Fin 19) (volt : BitVec 16),
    let x := s.sd sd.val
    x.started →
    volt.toNat < (if x.set48 then 19520 else 4520) →
    exec (.undervoltageTurnOff sd volt) s = .next (
        (s.updSd sd.val (fun x => { x with uvOff := true, feedOk := false })).feedOff sd.val)) ∧
  (∀ (sd : Fin 19),
    (s.sd sd.val).started →
    exec (.undervoltageRestart sd) s = .next (
        (s.updSd sd.val (fun x => { x with uvOff := false, feedOk := true })).settleAll sd.val)) ∧
  (∀ (sd : Fin 19) (volt : BitVec 16),
    (s.sd sd.val).started →
    47200 < volt.toNat →
    exec (.overvoltageTurnOff sd volt) s = .next ((s.updSd sd.val (fun x => { x with ovOff := true })).feedOff sd.val)) ∧
  (∀ (sd : Fin 19),
    (s.sd sd.val).started →
    exec (.overvoltageRestart sd) s = .next ((s.updSd sd.val (fun x => { x with ovOff := false })).settleAll sd.val)) ∧
  (∀ (sd : Fin 19) (volt : BitVec 16),
    let x := s.sd sd.val
    let v := volt.toNat
    x.started →
    (if x.set48 then decide (4680 ≤ v ∧ v < 16400) else decide (15600 < v)) →
    exec (.settingMismatch sd volt) s = .next (s.updSd sd.val (fun x => { x with mismatch := true }))) ∧
  (∀ (sd : Fin 19),
    exec (.settingMismatchClear sd) s = .next (s.updSd sd.val (fun x => { x with mismatch := false }))) ∧
  (∀ (sd : Fin 19) (k : Fin 8),
    s.sdHas sd.val k.val →
    (s.chan sd.val k.val).on →
    exec (.currentLimit sd k) s = .next (s.updChan sd.val k.val (fun c => { c with inLimit := true }))) ∧
  (∀ (sd : Fin 19) (k : Fin 8),
    let c := s.chan sd.val k.val
    let shut := c.latched && decide (c.limitAt = some (s.sd sd.val).cycles)
    s.sdHas sd.val k.val →
    c.inLimit || shut →
    let s1 := s.sdEvent sd.val k.val 0x20
    exec (.overcurrentTrip sd k) s = .next (
        if shut then
          s1.updChan sd.val k.val (fun c => { c with limitAt := none })
        else if c.warmOpen && !c.latchPend then
          if c.retries < 64 then
            (s1.setOn sd.val k.val false).updChan sd.val k.val (fun c => { c with
              lampRetry := true, ramping := false, rampSelf := false })
          else
            (s1.latch sd.val k.val true).sdEvent sd.val k.val 0x29
        else
          s1.latch sd.val k.val true)) ∧
  (∀ (sd : Fin 19) (k : Fin 8) (temp : BitVec 16),
    s.sdHas sd.val k.val →
    1200 ≤ temp.toInt →
    exec (.junctionWarning sd k temp) s = .next (
        (s.updChan sd.val k.val (fun c => { c with tj := temp.toInt })).sdEvent sd.val k.val 0x24)) ∧
  (∀ (sd : Fin 19) (k : Fin 8) (temp : BitVec 16),
    s.sdHas sd.val k.val →
    1400 ≤ temp.toInt →
    exec (.thermalShutdown sd k temp) s = .next (
        ((s.updChan sd.val k.val (fun c => { c with tj := temp.toInt })).latch sd.val k.val
          (!(s.chan sd.val k.val).latched)).sdEvent sd.val k.val 0x23)) ∧
  (∀ (sd : Fin 19) (k : Fin 8),
    s.sdHas sd.val k.val →
    (s.chan sd.val k.val).lampRetry →
    exec (.lampRetry sd k) s = .next (
        (s.updChan sd.val k.val (fun c => { c with lampRetry := false, retries := c.retries + 1 })).settle sd.val k.val)) ∧
  (∀ (sd : Fin 19) (k : Fin 8),
    exec (.warmWindowEnd sd k) s = .next (s.updChan sd.val k.val (fun c => { c with warmOpen := false }))) ∧
  (∀ (sd : Fin 19) (k : Fin 8) (below : Bool),
    let c := s.chan sd.val k.val
    s.sdHas sd.val k.val →
    c.on →
    exec (.openLoadOn sd k below) s = .next (
        if below then
          if c.ol = 1 then
            s
          else
            (s.updChan sd.val k.val (fun c => { c with ol := 1 })).sdEvent sd.val k.val 0x25
        else if c.ol = 1 then
          s.updChan sd.val k.val (fun c => { c with ol := 0 })
        else
          s)) ∧
  (∀ (sd : Fin 19) (k : Fin 8) (vout vfeed : BitVec 16),
    let c := s.chan sd.val k.val
    let x := s.sd sd.val
    let rested : Bool := match c.offAt with | none => true | some t => decide (t + 50 ≤ x.cycles)
    s.sdHas sd.val k.val →
    s.chSet sd.val k.val PWR_CHkCFG__OLOFF = 1 →
    ¬ c.on →
    ¬ x.standby →
    rested || c.testAsked →
    exec (.offStateTest sd k vout vfeed) s = .next (
        s.updChan sd.val k.val (fun c => { c with
          offTest := true, testAsked := false, offFind := if vfeed.toNat < vout.toNat + 800 then 3 else 0 }))) ∧
  (∀ (sd : Fin 19) (k : Fin 8) (vout : BitVec 16),
    let c := s.chan sd.val k.val
    s.sdHas sd.val k.val →
    c.offTest →
    let open_ := decide ((if (s.sd sd.val).set48 then 8000 else 2000) < vout.toNat)
    let found := if c.offFind = 3 then 3 else if open_ then 2 else 0
    let s1 := s.updChan sd.val k.val (fun c => { c with offTest := false, offFind := 0, ol := found })
    exec (.offStateTestComplete sd k vout) s = .next (
        if found = 3 then
          s1.sdEvent sd.val k.val 0x27
        else if found = 2 then
          s1.sdEvent sd.val k.val 0x26
        else
          s1))

/-- The wire model and the commands of the channels, on registers and on the serial link: each command answers the next state of its own
effect under conditions on the state and operands alone. Commands: WIRE_MODEL_STEP, INDUCTANCE_ESTIMATE, RAMP_END, PWR_RESTART,
PWR_OLTEST, PWR_CALCMD_CAPTURE, PWR_CALCMD_COMMIT, PWR_CALCMD_CANCEL, PWR_CALREF_WRITE, LATCH, RAMP, RESTART, OLTEST,
CALCMD_CAPTURE, CAPTURE_COMPLETE, CALCMD_COMMIT, CALCMD_CANCEL, CALREF, SNS. Rests on spec/04_power_stage.md; the model's own
choices in it are those of log entries 3, 6, 9. -/
def Obligations.ChannelCommandsComplete : Prop :=
  ∀ s : State,
  (∀ (d : Die) (sd : Fin 19) (k : Fin 8),
    s.modelled d sd.val k.val →
    let n := gch sd.val k.val
    let w := s.wireStart d sd.val k.val
    let g := s.fld d (PWR_CHkCFG sd.val k.val) PWR_CHkCFG__GAUGE
    let msq := tget 0 (s.qsd d sd.val).msq k.val
    let res := (wireParams g).1
    let t := wireStep g sd.val msq (s.tamb d sd.val k.val) w.tc w.ti
    let lim := degC (classLimit (s.fld d (PWR_CHkCFG sd.val k.val) PWR_CHkCFG__CLASS))
    let len := s.fld d (PWR_CHkCFG sd.val k.val) PWR_CHkCFG__LENGTH
    let loss := (wirePower sd.val msq (wireRes res w.tc) * (len : Int) / 100000000).toNat
    let hot := decide (lim ≤ t.1)
    let warm := decide (lim - degC 10 ≤ t.1)
    let w1 : Wire := { w with
      tc := t.1, ti := t.2, tripped := hot, warned := warm, loss := loss, lossSum := w.lossSum + loss }
    let s0 := s.updWire d n (fun _ => w1)
    let s1 := if (s.wire d n).live then s0 else s0.showEst d sd.val k.val
    let s2 := s1.wr d (PWR_CHkWT sd.val k.val) (BitVec.ofNat 32 (eighths t.1 + 65536 * eighths t.2))
    let cool := decide (t.1 ≤ lim - degC 25 ∧ t.2 ≤ lim - degC 25)
    let s3 := s2.setF d (PWR_CHkSTAT sd.val k.val) PWR_CHkSTAT__RESTOK (b2n cool)
    let s4 := if warm && !w.warned then s3.setF d (PWR_CHkFLT sd.val k.val) PWR_CHkFLT__WWARN 1 else s3
    exec (.wireModelStep d sd k) s = .next (
        if hot && !w.tripped then
          s4.wireTrip d sd.val k.val w1
        else
          s4)) ∧
  (∀ (d : Die) (sd : Fin 19) (k : Fin 8) (i1 i2 : BitVec 16),
    s.modelled d sd.val k.val →
    s.bit d (PWR_CHkCFG sd.val k.val) PWR_CHkCFG__CLPRED →
    let w := s.wire d (gch sd.val k.val)
    let a := sampleUA sd.val i1.toNat
    let b := sampleUA sd.val i2.toNat
    let on := s.chanOn d sd.val k.val
    let dt : Int := if sdType sd.val = 3 then 400 else 200
    exec (.inductanceEstimate d sd k i1 i2) s = .next (
        if on && decide (20 * (sdLsb sd.val : Int) ≤ b - a) then
          let drop := (a + b) * (w.rest : Int) / 2000
          let l := ((s.vfeedUV d sd.val - drop) * dt / (b - a)).toNat
          s.declareL d sd.val k.val l
        else
          s.declareL d sd.val k.val (s.ldecl d sd.val k.val))) ∧
  (∀ (sd : Fin 19) (k : Fin 8),
    s.sdHas sd.val k.val →
    (s.chan sd.val k.val).ramping →
    exec (.rampEnd sd k) s = .next (s.rampDone sd.val k.val)) ∧
  (∀ (d : Die) (who : Initiator) (sd : Fin 19) (k : Fin 8),
    exec (.pwrRestart d who sd k) s = .next (s.chanCmd d who sd.val k.val 7)) ∧
  (∀ (d : Die) (who : Initiator) (sd : Fin 19) (k : Fin 8),
    exec (.pwrOltest d who sd k) s = .next (s.chanCmd d who sd.val k.val 8)) ∧
  (∀ (d : Die) (who : Initiator) (sd : Fin 19) (ch : Fin 8) (low : Bool) (point : Fin 4),
    s.alive d →
    s.mayChannel d who (gch sd.val ch.val) →
    ch.val < sdChans sd.val →
    exec (.pwrCalcmdCapture d who sd ch low point) s = .next (
        s.sendByHolder d sd.val 0x0A 0 (ch.val + 8 * b2n low + 16 * point.val + 64))) ∧
  (∀ (d : Die) (who : Initiator) (sd : Fin 19) (ch : Fin 8) (low : Bool),
    s.alive d →
    s.mayChannel d who (gch sd.val ch.val) →
    ch.val < sdChans sd.val →
    exec (.pwrCalcmdCommit d who sd ch low) s = .next (s.sendByHolder d sd.val 0x0A 0 (ch.val + 8 * b2n low + 128))) ∧
  (∀ (d : Die) (who : Initiator) (sd : Fin 19) (ch : Fin 8) (low : Bool),
    s.alive d →
    s.mayChannel d who (gch sd.val ch.val) →
    ch.val < sdChans sd.val →
    exec (.pwrCalcmdCancel d who sd ch low) s = .next (s.sendByHolder d sd.val 0x0A 0 (ch.val + 8 * b2n low + 192))) ∧
  (∀ (d : Die) (who : Initiator) (sd : Fin 19) (ref : BitVec 16),
    s.alive d →
    s.mayDie d who sd.val →
    exec (.pwrCalrefWrite d who sd ref) s = .next (
        (s.setF d (PWR_CALREF sd.val) PWR_CALREF__REF ref.toNat).sendFrame d sd.val 0x0B 0 ref.toNat)) ∧
  (∀ (d : Die) (sd : Fin 19) (frame : Word),
    let k := frameCh frame
    s.hearsDown sd.val frame 5 →
    let t := s.downHeard d sd.val frame
    t.decides d sd.val frame 5 false false →
    t.sdHas sd.val k →
    (frameData frame % 16 = 1 → (t.chan sd.val k).ramping →
      let now := (t.sd sd.val).cycles
      let t1 := t.updChan sd.val k (fun c => { c with latchPend := true, latchCyc := some now })
      exec (.latch d sd frame) s = .next (
          (if (t.chan sd.val k).restartCyc = some now then t1.sdEvent sd.val k 0x2A else t1).commandDone d sd.val frame 5)) ∧
    (frameData frame % 16 = 1 → ¬ (t.chan sd.val k).ramping →
      exec (.latch d sd frame) s = .next ((t.latch sd.val k true).commandDone d sd.val frame 5)) ∧
    (frameData frame % 16 = 2 →
      exec (.latch d sd frame) s = .next ((t.latch sd.val k false).commandDone d sd.val frame 5))) ∧
  (∀ (d : Die) (sd : Fin 19) (frame : Word),
    let k := frameCh frame
    let ms := frameData frame % 64
    s.hearsDown sd.val frame 6 →
    let t := s.downHeard d sd.val frame
    t.decides d sd.val frame 6 false false →
    t.sdHas sd.val k →
    (ms = 0 → (t.chan sd.val k).ramping → ¬ (t.chan sd.val k).latchPend →
      exec (.ramp d sd frame) s = .next ((t.updChan sd.val k (fun c =>
          { c with ramping := false, rampSelf := false, want := true })).commandDone d sd.val frame 6)) ∧
    (ms = 0 → (t.chan sd.val k).ramping → (t.chan sd.val k).latchPend →
      exec (.ramp d sd frame) s = .next ((t.latch sd.val k true).commandDone d sd.val frame 6)) ∧
    (ms = 0 → ¬ (t.chan sd.val k).ramping → exec (.ramp d sd frame) s = .next (t.commandDone d sd.val frame 6)) ∧
    (2 ≤ ms → ms ≤ 50 → (t.chan sd.val k).on →
      exec (.ramp d sd frame) s = .next ((t.updChan sd.val k (fun c =>
          { c with ramping := true, rampMs := ms, rampSelf := false })).commandDone d sd.val frame 6)) ∧
    (2 ≤ ms → ms ≤ 50 → ¬ (t.chan sd.val k).on → exec (.ramp d sd frame) s = .next (t.commandDone d sd.val frame 6))) ∧
  (∀ (d : Die) (sd : Fin 19) (frame : Word),
    let k := frameCh frame
    s.hearsDown sd.val frame 7 →
    let t := s.downHeard d sd.val frame
    t.decides d sd.val frame 7 false true →
    let c := t.chan sd.val k
    let x := t.sd sd.val
    t.sdHas sd.val k →
    let ok : Bool := (decide (x.mode = .start) || t.bit d (PWR_CHkSTAT sd.val k) PWR_CHkSTAT__RESTOK) &&
      decide (c.tj < 1200) && !x.feedHolds && decide (c.latchCyc ≠ some x.cycles)
    let done : State :=
      if !c.latched then
        let s1 := t.updChan sd.val k (fun c => { c with restartCyc := some x.cycles })
        if c.latchPend && decide (c.latchCyc = some x.cycles) then
          s1.sdEvent sd.val k 0x2A
        else
          s1
      else if ok then
        (t.updChan sd.val k (fun c => { c with latched := false, restartCyc := some x.cycles })).settle sd.val k
      else
        t.sdEvent sd.val k 0x2A
    exec (.restart d sd frame) s = .next (done.commandDone d sd.val frame 7)) ∧
  (∀ (d : Die) (sd : Fin 19) (frame : Word),
    let k := frameCh frame
    s.hearsDown sd.val frame 8 →
    let t := s.downHeard d sd.val frame
    t.decides d sd.val frame 8 false true →
    t.sdHas sd.val k →
    let done : State :=
      if !(t.chan sd.val k).on && decide (t.chSet sd.val k PWR_CHkCFG__OLOFF = 1) then
        t.updChan sd.val k (fun c => { c with testAsked := true })
      else
        t
    exec (.oltest d sd frame) s = .next (done.commandDone d sd.val frame 8)) ∧
  (∀ (d : Die) (sd : Fin 19) (frame : Word),
    let v := frameData frame % 256
    v / 64 = 1 →
    s.hearsDown sd.val frame 0x0A →
    let t := s.downHeard d sd.val frame
    t.decides d sd.val frame 0x0A false true →
    t.sdHas sd.val (v % 8) →
    exec (.calcmdCapture d sd frame) s = .next (
        (t.updCapture sd.val (fun c => { c.forChannel (v % 8) (bitOf v 3) with busy := some (v / 16 % 4), busyRef := c.ref, state := 1 })).commandDone d sd.val frame 0x0A)) ∧
  (∀ (sd : Fin 19) (mean : BitVec 16) (aborted : Bool),
    let code := fun (v : Nat) => match sdType sd.val with
      | 3 => ((v % 2 ^ 15 : Nat) : Int)
      | 4 => toSigned 16 v
      | _ => (v : Int)
    ∀ p, (s.sd sd.val).capture.busy = some p →
    exec (.captureComplete sd mean aborted) s = .next (
        if aborted then
          s.updCapture sd.val (fun c => { c with busy := none, state := 6 })
        else
          s.updCapture sd.val (fun c => { c with
            busy := none, state := 2, points := tput c.points p (c.busyRef, code mean.toNat) }))) ∧
  (∀ (d : Die) (sd : Fin 19) (frame : Word),
    let v := frameData frame % 256
    v / 64 = 2 →
    s.hearsDown sd.val frame 0x0A →
    let t := s.downHeard d sd.val frame
    t.decides d sd.val frame 0x0A false true →
    t.sdHas sd.val (v % 8) →
    exec (.calcmdCommit d sd frame) s = .next (
        ((t.updCapture sd.val (fun c => c.forChannel (v % 8) (bitOf v 3))).calCommit sd.val (v % 8) (bitOf v 3)).commandDone d sd.val frame 0x0A)) ∧
  (∀ (d : Die) (sd : Fin 19) (frame : Word),
    let v := frameData frame % 256
    v / 64 = 3 →
    s.hearsDown sd.val frame 0x0A →
    let t := s.downHeard d sd.val frame
    t.decides d sd.val frame 0x0A false true →
    t.sdHas sd.val (v % 8) →
    exec (.calcmdCancel d sd frame) s = .next (
        (t.updCapture sd.val (fun c => { c with points := [], busy := none, state := 0 })).commandDone d sd.val frame 0x0A)) ∧
  (∀ (d : Die) (sd : Fin 19) (frame : Word),
    s.hearsDown sd.val frame 0x0B →
    let t := s.downHeard d sd.val frame
    exec (.calref d sd frame) s = .next (
        t.updSd sd.val (fun x => { x with capture := { x.capture with ref := frameData frame } }))) ∧
  (∀ (d : Die) (sd : Fin 19) (frame : Word),
    let k := frameCh frame
    s.hearsUp d frame 0x10 →
    let t := s.upHeard d sd.val frame
    exec (.sns d sd frame) s = .next (
        if k < sdChans sd.val then
          let v := frameData frame
          let s1 := t.setF d (PWR_CHkI sd.val k) PWR_CHkI__ISAMP v
          let e := sampleUA sd.val v * (t.fld d (PWR_CHkV sd.val k) PWR_CHkV__VOUT : Nat) * (if sdType sd.val = 3 then 100 else 50 : Nat)
          let s1 := s1.updWire d (gch sd.val k) (fun w => { w with energy := w.energy + e })
          let s2 := if t.bit d (PWR_CHkCFG sd.val k) PWR_CHkCFG__CLPRED then s1.steady d sd.val k (sampleUA sd.val v) else s1
          (List.range 8).foldl (fun st c => st.streamIn d c (0x80 + gch sd.val k) (st.ns d) (toLE 2 v) false) s2
        else
          t))

/-- Commands of the serial link that steer a switch die, its table and its forced outputs: each command answers the next state of its
own effect under conditions on the state and operands alone. Commands: SENSE_PATH_TEST, NVM_TABLE_CHECK, FAIL_SAFE_TRIP,
DCTL_ENTER_TEST, DCTL_LEAVE_TEST, DCTL_ENTER_RECOVERY, CYC, SVCENT, STEER, MODE_ENTER_TEST, MODE_LEAVE_TEST, MODE_ENTER_RECOVERY,
BDIR, TBLSTART, TBLDATA, TBLEND, TABLE_COMMIT, FORCE_RELEASE, FORCE_OFF, FORCE_ON, FORCE_TIMEOUT, TEST_TIMEOUT,
SERIAL_WATCHDOG_EXPIRY, SERVICE_CYCLE. Rests on spec/05_channel_control.md; the model's own choices in it are those of log entry 3. -/
def Obligations.SwitchDieCommandsComplete : Prop :=
  ∀ s : State,
  (∀ (sd : Fin 19) (k : Fin 8) (outside : Bool),
    let c := s.chan sd.val k.val
    let rested : Bool := match c.offAt with | none => true | some t => decide (t + 50 ≤ (s.sd sd.val).cycles)
    s.sdHas sd.val k.val →
    ¬ c.on →
    rested →
    outside →
    exec (.sensePathTest sd k outside) s = .next (
        (s.updChan sd.val k.val (fun c => { c with calSuspect := true })).recordBoth (0x0E00 + sd.val) 0x16 (gch sd.val k.val)
          0x09 (ofSigned 16 c.calGain + 65536 * ofSigned 16 c.calOffs))) ∧
  (∀ (sd : Fin 19) (crcOk : Bool),
    let x := s.sd sd.val
    x.started →
    ¬ crcOk →
    ¬ x.nvmFault →
    let s1 := ((s.updSd sd.val (fun x => { x with nvmFault := true, live := [] })).sdEvent sd.val 0 0x08).showTable sd.val 5
    exec (.nvmTableCheck sd crcOk) s = .next (
        if x.mode = .service ∨ x.mode = .test then
          s1.sdMode sd.val .recovery
        else if x.mode = .start then
          s1.settleAll sd.val
        else
          s1)) ∧
  (∀ (sd : Fin 19) (k : Fin 8) (rms : BitVec 16),
    let x := s.sd sd.val
    s.sdHas sd.val k.val →
    decide (x.mode = .start) && !x.holding || x.lastHold →
    x.tripAt sd.val k.val < rms.toNat →
    exec (.failSafeTrip sd k rms) s = .next ((s.latch sd.val k.val true).sdEvent sd.val k.val 0x05)) ∧
  (∀ (d : Die) (who : Initiator) (sd : Fin 19) (confirm : BitVec 16),
    s.alive d →
    who.isManager →
    confirm = 0x5C3A#16 →
    s.driver d sd.val = d →
    exec (.dctlEnterTest d who sd confirm) s = .next (
        (s.setF d (PWR_DCTLST sd.val) PWR_DCTLST__REQRES 1).sendCmd d sd.val 4 0 1)) ∧
  (∀ (d : Die) (who : Initiator) (sd : Fin 19) (confirm : BitVec 16),
    s.alive d →
    who.isManager →
    confirm = 0x5C3A#16 →
    s.driver d sd.val = d →
    exec (.dctlLeaveTest d who sd confirm) s = .next (
        (s.setF d (PWR_DCTLST sd.val) PWR_DCTLST__REQRES 1).sendCmd d sd.val 4 0 0)) ∧
  (∀ (d : Die) (who : Initiator) (sd : Fin 19) (confirm : BitVec 16),
    s.alive d →
    who.isManager →
    confirm = 0x5C3A#16 →
    s.driver d sd.val = d →
    exec (.dctlEnterRecovery d who sd confirm) s = .next (
        (s.setF d (PWR_DCTLST sd.val) PWR_DCTLST__REQRES 1).sendCmd d sd.val 4 0 2)) ∧
  (∀ (d : Die) (sd : Fin 19) (count : BitVec 16),
    s.alive d →
    let s1 := (s.addSat d (PWR_DSTAT sd.val) PWR_DSTAT__AGE 1).updQsd d sd.val (fun q => { q with
      down := (q.cmds.filter (fun c => decide (c.typ = 3))).map (fun c => mkFrame c.typ c.ch c.data) ++ q.down ++
        (q.cmds.filter (fun c => decide (c.typ ≠ 3))).map (fun c => mkFrame c.typ c.ch c.data) })
    exec (.cyc d sd count) s = .next (
        if (s1.sd sd.val).started then
          s1.updSd sd.val (fun x => { x with
            links := x.links.upd d (fun l => { l with inStep := true, silent := false, cycle := count.toNat }) })
        else
          s1)) ∧
  (∀ (d : Die) (sd : Fin 19) (frame : Word),
    s.hearsDown sd.val frame 2 →
    let t := s.downHeard d sd.val frame
    t.decides d sd.val frame 2 true true →
    let x := t.sd sd.val
    ¬ (x.mode = .start ∧ (x.holding = true ∨ x.committed = false ∨ x.wdogCyc = some x.cycles)) →
    x.accepts d (entryLine frame) (entrySerial frame) →
    exec (.svcent d sd frame) s = .next ((t.enterService d sd.val (entrySerial frame)).commandDone d sd.val frame 2)) ∧
  (∀ (d : Die) (sd : Fin 19) (frame : Word),
    s.hearsDown sd.val frame 3 →
    let t := s.downHeard d sd.val frame
    t.decides d sd.val frame 3 true true →
    (t.sd sd.val).accepts d (entryLine frame) (entrySerial frame) →
    exec (.steer d sd frame) s = .next ((t.takeLine d sd.val (entrySerial frame)).commandDone d sd.val frame 3)) ∧
  (∀ (d : Die) (sd : Fin 19) (frame : Word),
    s.hearsDown sd.val frame 4 →
    let t := s.downHeard d sd.val frame
    t.decides d sd.val frame 4 false false →
    frameData frame % 4 = 1 →
    ¬ (t.sd sd.val).lastHold →
    (t.sd sd.val).mode = .service →
    (t.sd sd.val).testOk →
    exec (.modeEnterTest d sd frame) s = .next ((t.sdMode sd.val .test).commandDone d sd.val frame 4)) ∧
  (∀ (d : Die) (sd : Fin 19) (frame : Word),
    s.hearsDown sd.val frame 4 →
    let t := s.downHeard d sd.val frame
    t.decides d sd.val frame 4 false false →
    frameData frame % 4 = 0 →
    ¬ (t.sd sd.val).lastHold →
    (t.sd sd.val).mode = .test →
    exec (.modeLeaveTest d sd frame) s = .next ((t.sdMode sd.val .service).commandDone d sd.val frame 4)) ∧
  (∀ (d : Die) (sd : Fin 19) (frame : Word),
    s.hearsDown sd.val frame 4 →
    let t := s.downHeard d sd.val frame
    t.decides d sd.val frame 4 false false →
    frameData frame % 4 = 2 →
    ¬ (t.sd sd.val).lastHold →
    (t.sd sd.val).mode = .service ∨ (t.sd sd.val).mode = .test →
    exec (.modeEnterRecovery d sd frame) s = .next ((t.sdMode sd.val .recovery).commandDone d sd.val frame 4)) ∧
  (∀ (d : Die) (sd : Fin 19) (frame : Word),
    let k := frameCh frame
    s.hearsDown sd.val frame 9 →
    let t := s.downHeard d sd.val frame
    t.decides d sd.val frame 9 false false →
    t.sdHas sd.val k →
    sdType sd.val = 4 →
    exec (.bdir d sd frame) s = .next (
        (t.updChan sd.val k (fun c => { c with dirPend := some (decide (frameData frame % 2 = 1)), dirEdge := decide ((t.sd sd.val).steerCyc = some (t.sd sd.val).cycles) })).commandDone d sd.val frame 9)) ∧
  (∀ (d : Die) (sd : Fin 19) (frame : Word),
    s.hearsDown sd.val frame 0x0C →
    let t := s.downHeard d sd.val frame
    exec (.tblstart d sd frame) s = .next (
        (t.updRx d sd.val (fun r => { r with len := frameData frame, bytes := [], busy := true })).showTable sd.val 1)) ∧
  (∀ (d : Die) (sd : Fin 19) (frame : Word),
    s.hearsDown sd.val frame 0x0D →
    let t := s.downHeard d sd.val frame
    exec (.tbldata d sd frame) s = .next (
        t.updRx d sd.val (fun r =>
          if r.busy then { r with bytes := r.bytes ++ toLE 2 (frameData frame) } else r))) ∧
  (∀ (d : Die) (sd : Fin 19) (frame : Word),
    s.hearsDown sd.val frame 0x0E →
    let t := s.downHeard d sd.val frame
    let r := (t.sd sd.val).rx.get d
    let img := r.bytes.take r.len
    exec (.tblend d sd frame) s = .next (
        if r.busy && decide (r.len ≤ r.bytes.length ∧ r.bytes.length ≤ r.len + 1) && tableOk sd.val img then
          t.updRx d sd.val (fun r => { r with busy := false, tag := frameTag frame, done := some img })
        else
          (((t.updRx d sd.val (fun r => { r with busy := false, bytes := [] })).sdAck d sd.val 0x0E 0 (frameTag frame)
            1).sdEvent sd.val 0 0x07).showTable sd.val 4)) ∧
  (∀ (sd : Fin 19),
    let x := s.sd sd.val
    let pick : Option (Die × List Byte × Option Bool) := match x.rx.q0.done, x.rx.q1.done with
      | some a, some b =>
        if tableDigest a = tableDigest b then some (x.line, a, some false)
        else some (x.line, if x.line = 0 then a else b, some true)
      | some a, none => some (0, a, none)
      | none, some b => some (1, b, none)
      | none, none => none
    ∀ src img diff, pick = some (src, img, diff) →
    let ack := fun (r : TableRx) => if r.done.isSome then some r.tag else none
    let s1 := s.updSd sd.val (fun x => { x with
      writeAck := ⟨ack x.rx.q0, ack x.rx.q1⟩, writeSrc := src, committed := true, tblDiff := diff.getD x.tblDiff,
      rx := ⟨{ x.rx.q0 with done := none }, { x.rx.q1 with done := none }⟩ })
    let s2 := if diff = some true then
        let t := s1.sdEvent sd.val 0 0x06
        if x.mode = .service ∨ x.mode = .test then t.sdMode sd.val .recovery else t
      else s1
    exec (.tableCommit sd) s = .next (
        if x.tbl ≠ [] ∧ tableDigest img = tableDigest x.tbl then
          s2.tableInForce sd.val img false
        else
          s2.updSd sd.val (fun x => { x with writing := some img }))) ∧
  (∀ (d : Die) (sd : Fin 19) (frame : Word),
    s.hearsDown sd.val frame 0x0F →
    let t := s.downHeard d sd.val frame
    t.decides d sd.val frame 0x0F false false →
    frameData frame % 4 = 0 →
    t.sdHas sd.val (frameCh frame) →
    (t.sd sd.val).mode = .test →
    exec (.forceRelease d sd frame) s = .next (
        ((t.endForce sd.val (frameCh frame)).settle sd.val (frameCh frame)).commandDone d sd.val frame 0x0F)) ∧
  (∀ (d : Die) (sd : Fin 19) (frame : Word),
    s.hearsDown sd.val frame 0x0F →
    let t := s.downHeard d sd.val frame
    t.decides d sd.val frame 0x0F false false →
    frameData frame % 4 = 1 →
    t.sdHas sd.val (frameCh frame) →
    (t.sd sd.val).mode = .test →
    exec (.forceOff d sd frame) s = .next ((t.force sd.val (frameCh frame) false).commandDone d sd.val frame 0x0F)) ∧
  (∀ (d : Die) (sd : Fin 19) (frame : Word),
    s.hearsDown sd.val frame 0x0F →
    let t := s.downHeard d sd.val frame
    t.decides d sd.val frame 0x0F false false →
    frameData frame % 4 = 2 →
    t.sdHas sd.val (frameCh frame) →
    (t.sd sd.val).mode = .test →
    exec (.forceOn d sd frame) s = .next ((t.force sd.val (frameCh frame) true).commandDone d sd.val frame 0x0F)) ∧
  (∀ (sd : Fin 19) (k : Fin 8),
    s.sdHas sd.val k.val →
    exec (.forceTimeout sd k) s = .next ((s.endForce sd.val k.val).settle sd.val k.val)) ∧
  (∀ (sd : Fin 19),
    (s.sd sd.val).mode = .test →
    exec (.testTimeout sd) s = .next (s.sdMode sd.val .service)) ∧
  (∀ (sd : Fin 19),
    let x := s.sd sd.val
    x.started →
    ¬ x.standby →
    let s1 := (s.updSd sd.val (fun x => { x with wdogHit := true, wdogCyc := some x.cycles })).setBoth (PWR_DFLT sd.val)
      PWR_DFLT__WDOG 1
    exec (.serialWatchdogExpiry sd) s = .next (
        match x.mode with
        | .service =>
            if x.servCyc ≠ some x.cycles then
              s
            else if x.servFrom = .start then
              s1.sdMode sd.val .start
            else
              (s1.forceFailSafe sd.val).sdEvent sd.val 0 0x09
        | .start =>
            s1
        | _ =>
            (s1.forceFailSafe sd.val).sdEvent sd.val 0 0x09)) ∧
  (∀ (sd : Fin 19) (feed : BitVec 32) (tsub : BitVec 16) (sns : List (Fin 8 × BitVec 32)) (meas : List ChanMeas),
    (s.sd sd.val).started →
    let nch := sdChans sd.val
    let mine := meas.filter (fun m => decide (m.k.val < nch))
    let s1 := mine.foldl (fun st m => (st.updChan sd.val m.k.val (fun c => { c with tj := m.tj.toInt })).watchClamp sd.val m.k.val
      feed.toInt m.vout.toInt) s
    let q := s1.samples sd.val sns
    let s3 := (List.range nch).foldl (fun st k => st.cycleChan sd.val k) q.1
    let x := s3.sd sd.val
    exec (.serviceCycle sd feed tsub sns meas) s = .next (
        if x.standby then
          s3.updSd sd.val (fun x => { x with cycles := x.cycles + 1 })
        else
          let even := decide ((x.links.get x.line).cycle % 2 = 0)
          let fixed := [mkFrame 0x17 0 (s3.dstatData sd.val), mkFrame 0x18 0 (voltCode feed.toInt), mkFrame 0x19 0 tsub.toNat] ++ q.2 ++
            mine.flatMap (s3.chFrames sd.val even)
          let dig := tableDigest x.tbl
          let tail := if x.cycles % 16 = 0 then
              [mkFrame 0x1C 0 dig, mkFrame 0x1C 1 (dig / 65536),
                mkFrame 0x1E 0 (match x.s0 with | some v => 2 ^ 15 + v.toNat | none => 0)]
            else []
          let room := 50 - fixed.length
          let go := fun (l : List Word) => (l ++ tail).take room
          let stay := fun (l : List Word) => (l ++ tail).drop room
          s3.updSd sd.val (fun x => { x with
            up := ⟨x.up.q0 ++ fixed ++ (go x.waiting.q0).map x.leaving, x.up.q1 ++ fixed ++ (go x.waiting.q1).map x.leaving⟩,
            waiting := ⟨stay x.waiting.q0, stay x.waiting.q1⟩, cycles := x.cycles + 1 })))

/-- Frames that a switch die sends up: each command answers the next state of its own effect under conditions on the state and operands
alone. Commands: DSTAT, EVT, ACK, SER, TBLDIG, MIS, TABLE_ACK_TIMEOUT, MSQL, MSQH, VOUT, VOUTB, TJ, CHST, FEED, TSUB. Rests on
spec/05_channel_control.md; the model's own choices in it are those of log entry 3. -/
def Obligations.UpstreamFramesComplete : Prop :=
  ∀ s : State,
  (∀ (d : Die) (sd : Fin 19) (frame : Word),
    s.hearsUp d frame 0x17 →
    let t := s.upHeard d sd.val frame
    let v := frameData frame
    let x := t.sd sd.val
    let was := fun f => t.bit d (PWR_DSTAT sd.val) f
    let uv := bitOf v 5
    let ov := bitOf v 6
    let mm := bitOf v 15
    let s0 := (t.statusEntry d sd.val).keepFrame d sd.val frame
    let s1 := s0.wr d (PWR_DSTAT sd.val) (BitVec.ofNat 32 (v % 8 + 8 * b2n x.links.q0.inStep + 16 * b2n x.links.q1.inStep +
      32 * (v / 16 % 8) + 256 * (v / 128 % 2) + 512 * b2n mm))
    let line := v / 8 % 2
    let s2 := ((((s1.setF d (PWR_DCTLST sd.val) PWR_DCTLST__LINE line).setF d (PWR_DCTLST sd.val) PWR_DCTLST__AUTO
      (b2n (bitOf v 14))).setF d (PWR_DCTLST sd.val) PWR_DCTLST__HOLD (b2n (bitOf v 13))).setF d (PWR_DCTLST sd.val)
        PWR_DCTLST__LIMP (v / 256 % 16)).setF d (PWR_DCTLST sd.val) PWR_DCTLST__FLYWHEEL
          (b2n (x.chans.any (fun e => e.2.flywheel)))
    let ended := s1.bit d (PWR_DCTLST sd.val) PWR_DCTLST__HOLD && !bitOf v 13
    let s3a := (s2.showDie d sd.val).setF d (PWR_DTBL sd.val) PWR_DTBL__DIFF (b2n (bitOf v 12))
    let s3 := if ended then s3a.holdRecord d sd.val else s3a
    let s4 := ((s3.feedEvent d sd.val (was PWR_DSTAT__UVOFF) uv PWR_DFLT__UV 0).feedEvent d sd.val (was PWR_DSTAT__OVOFF) ov
      PWR_DFLT__OV 1).feedEvent d sd.val (was PWR_DSTAT__MISMATCH) mm PWR_DFLT__MISMATCH 2
    let s5 := if v % 8 = 1 then s4.updVol d (fun w => { w with flt := { w.flt with sdServed := tset false w.flt.sdServed sd.val true } })
      else s4
    exec (.dstat d sd frame) s = .next (
        if (bitOf v 13 ∨ v % 8 = 0) ∧ s5.driver d sd.val = d then
          s5.sendEntry d sd.val
        else
          s5)) ∧
  (∀ (d : Die) (sd : Fin 19) (frame : Word),
    s.hearsUp d frame 0x1A →
    let t := s.upHeard d sd.val frame
    let k := frameCh frame
    let code := frameData frame % 256
    let key := code * 8 + k
    let n := (frameData frame / 256 + 256 - tget 0 (t.qsd d sd.val).evtSeen key) % 256
    let s1 := (t.keepFrame d sd.val frame).updQsd d sd.val (fun q => { q with
      evtSeen := tset 0 q.evtSeen key (frameData frame / 256) })
    exec (.evt d sd frame) s = .next (
        if n = 0 then
          s1
        else
          s1.onEvent d sd.val k code n)) ∧
  (∀ (d : Die) (sd : Fin 19) (frame : Word),
    s.hearsUp d frame 0x1B →
    let t := s.upHeard d sd.val frame
    let v := frameData frame
    let typ := v % 32
    let res := v / 256 % 16
    let tag := v / 4096
    let ch := frameCh frame
    let s1 := (t.keepFrame d sd.val frame).updQsd d sd.val (fun q => { q with
      cmds := q.cmds.filter (fun c => !decide (c.typ = typ ∧ c.ch = ch ∧ c.tag = tag)),
      proof := q.proof || decide (typ = 2 ∨ typ = 3) })
    let s1 := if typ = 2 then s1.catchUp d sd.val else s1
    let q := s1.qsd d sd.val
    exec (.ack d sd frame) s = .next (
        if typ = 0x0E ∧ tag = q.tblTag ∧ q.tblAcked = false ∧ 0 < q.tblSends ∧ q.tblFailed = false then
          if res = 0 then
            (s1.updQsd d sd.val (fun q => { q with tblAcked := true })).sendEntry d sd.val
          else if res = 1 then
            s1.tableAgain d sd.val
          else
            s1
        else
          s1)) ∧
  (∀ (d : Die) (sd : Fin 19) (frame : Word),
    s.hearsUp d frame 0x1E →
    let t := s.upHeard d sd.val frame
    let v := frameData frame
    let s1 := t.keepFrame d sd.val frame
    exec (.ser d sd frame) s = .next (
        if bitOf v 15 then
          let s2 := (s1.updQsd d sd.val (fun q => { q with serDef := true, ser := v % 2048 })).setF d (PWR_DCTLST sd.val)
            PWR_DCTLST__SERIAL v
          if s2.driver d sd.val ≠ d ∧ (s2.qsd d sd.val).proof = false then
            s2.sendEntry d sd.val
          else
            s2
        else
          s1)) ∧
  (∀ (d : Die) (sd : Fin 19) (frame : Word),
    s.hearsUp d frame 0x1C →
    let t := s.upHeard d sd.val frame
    let v := frameData frame
    let s1 := (t.keepFrame d sd.val frame).updQsd d sd.val (fun q =>
      if frameCh frame = 0 then { q with digLow := some v } else { q with digHigh := some v })
    exec (.tbldig d sd frame) s = .next (
        match (s1.qsd d sd.val).digLow, (s1.qsd d sd.val).digHigh with
        | some l, some h =>
            s1.wr d (PWR_DTBLDIG sd.val) (BitVec.ofNat 32 (l + 65536 * h))
        | _, _ =>
            s1)) ∧
  (∀ (d : Die) (sd : Fin 19) (frame : Word),
    s.hearsUp d frame 0x1D →
    frameCh frame < sdChans sd.val →
    let t := (s.upHeard d sd.val frame).keepFrame d sd.val frame
    exec (.mis d sd frame) s = .next (t.setF d (PWR_CHkMIS sd.val (frameCh frame)) PWR_CHkMIS__MISCNT (frameData frame))) ∧
  (∀ (d : Die) (sd : Fin 19),
    let q := s.qsd d sd.val
    s.alive d →
    0 < q.tblSends →
    ¬ q.tblAcked →
    ¬ q.tblFailed →
    exec (.tableAckTimeout d sd) s = .next (s.tableAgain d sd.val)) ∧
  (∀ (d : Die) (sd : Fin 19) (frame : Word),
    s.hearsUp d frame 0x11 →
    frameCh frame < sdChans sd.val →
    let t := (s.upHeard d sd.val frame).keepFrame d sd.val frame
    exec (.msql d sd frame) s = .next (
        t.updQsd d sd.val (fun q => { q with msqLow := tset 0 q.msqLow (frameCh frame) (frameData frame) }))) ∧
  (∀ (d : Die) (sd : Fin 19) (frame : Word),
    s.hearsUp d frame 0x12 →
    frameCh frame < sdChans sd.val →
    let t := (s.upHeard d sd.val frame).keepFrame d sd.val frame
    let m := tget 0 (t.qsd d sd.val).msqLow (frameCh frame) + 65536 * (frameData frame)
    exec (.msqh d sd frame) s = .next (
        (t.updQsd d sd.val (fun q => { q with msq := tset 0 q.msq (frameCh frame) m })).setF d (PWR_CHkI sd.val (frameCh frame)) PWR_CHkI__IRMS (Nat.sqrt m))) ∧
  (∀ (d : Die) (sd : Fin 19) (frame : Word),
    s.hearsUp d frame 0x13 →
    frameCh frame < sdChans sd.val →
    let t := (s.upHeard d sd.val frame).keepFrame d sd.val frame
    exec (.vout d sd frame) s = .next (t.setF d (PWR_CHkV sd.val (frameCh frame)) PWR_CHkV__VOUT (frameData frame))) ∧
  (∀ (d : Die) (sd : Fin 19) (frame : Word),
    s.hearsUp d frame 0x14 →
    frameCh frame < sdChans sd.val →
    let t := (s.upHeard d sd.val frame).keepFrame d sd.val frame
    exec (.voutb d sd frame) s = .next (
        if sdType sd.val = 4 then
          t.setF d (PWR_CHkV sd.val (frameCh frame)) PWR_CHkV__VOUTB (frameData frame)
        else
          t)) ∧
  (∀ (d : Die) (sd : Fin 19) (frame : Word),
    s.hearsUp d frame 0x15 →
    frameCh frame < sdChans sd.val →
    let t := (s.upHeard d sd.val frame).keepFrame d sd.val frame
    let s1 := t.updQsd d sd.val (fun q => { q with tjs := tput q.tjs (frameCh frame) (frameData frame) })
    let top := (s1.qsd d sd.val).tjs.foldl (fun m e => max m (toSigned 16 e.2)) (toSigned 16 (frameData frame))
    exec (.tj d sd frame) s = .next (s1.setF d (PWR_DTEMP sd.val) PWR_DTEMP__TJMAX (ofSigned 16 top))) ∧
  (∀ (d : Die) (sd : Fin 19) (frame : Word),
    s.hearsUp d frame 0x16 →
    frameCh frame < sdChans sd.val →
    let t := (s.upHeard d sd.val frame).keepFrame d sd.val frame
    let ok := t.fld d (PWR_CHkSTAT sd.val (frameCh frame)) PWR_CHkSTAT__RESTOK
    exec (.chst d sd frame) s = .next (
        (t.wr d (PWR_CHkSTAT sd.val (frameCh frame)) (BitVec.ofNat 32 ((frameData frame) - 128 * ((frameData frame) / 128 % 2) + 128 * ok))).showCounts d sd.val (frameCh frame))) ∧
  (∀ (d : Die) (sd : Fin 19) (frame : Word),
    s.hearsUp d frame 0x18 →
    let t := s.upHeard d sd.val frame
    exec (.feed d sd frame) s = .next (
        (t.keepFrame d sd.val frame).setF d (PWR_DFEED sd.val) PWR_DFEED__VFEED (frameData frame))) ∧
  (∀ (d : Die) (sd : Fin 19) (frame : Word),
    s.hearsUp d frame 0x19 →
    let t := s.upHeard d sd.val frame
    exec (.tsub d sd frame) s = .next (
        (t.keepFrame d sd.val frame).setF d (PWR_DTEMP sd.val) PWR_DTEMP__TSUB (frameData frame)))

/-- Input lines, deferral, link watch and the PWM period: each command answers the next state of its own effect under conditions on the
state and operands alone. Commands: INPUT_LINE_EDGE, DEFERRAL_END, LINE_ABSENT, LINE_MISMATCH, LINE_CHANGE_TIMEOUT, LINK_SILENCE,
PWM_PERIOD_START, LINK_OUT_OF_STEP, UPSTREAM_FRAMES_ABSENT. Rests on spec/05_channel_control.md; the model's own choices in it are
those of log entry 3. -/
def Obligations.SteeringEventsComplete : Prop :=
  ∀ s : State,
  (∀ (sd : Fin 19) (k : Fin 8) (line : Die) (level : Bool) (time : BitVec 64),
    let now : LineLevel := if level then .high else .low
    s.sdHas sd.val k.val →
    s.lineShown sd.val k.val line = now →
    ¬ ((s.lane line (gch sd.val k.val)).glitch level) →
    let x := s.sd sd.val
    let s1 := s.updChan sd.val k.val (fun c => c.setLine line now)
    exec (.inputLineEdge sd k line level time) s = .next (
        if x.mode = .start ∨ x.lastHold = true then
          s1
        else
          let s2 := if line = x.line then s1.updChan sd.val k.val (fun c => { c with linePend := false, held := none }) else s1
          if s2.chanLine sd.val k.val ≠ line then
            s2
          else
            let turn := !level && !(s2.chan sd.val k.val).linePend
            let s3 := s2.updChan sd.val k.val (fun c => { c with
              flywheel := false, rampSelf := false,
              dirBA := if turn then c.dirPend.getD c.dirBA else c.dirBA,
              dirPend := if turn then none else c.dirPend,
              dirEdge := c.dirEdge && !turn })
            s3.takeEdge sd.val k.val level time.toNat)) ∧
  (∀ (sd : Fin 19) (k : Fin 8),
    s.sdHas sd.val k.val →
    (s.chan sd.val k.val).deferred →
    exec (.deferralEnd sd k) s = .next (
        (s.updChan sd.val k.val (fun c => { c with deferred := false })).settleAt sd.val k.val (s.chan sd.val k.val).dueAt)) ∧
  (∀ (sd : Fin 19) (k : Fin 8) (line : Die) (lastPeriod : Option (BitVec 32 × BitVec 32)),
    s.sdHas sd.val k.val →
    s.lineShown sd.val k.val line = .absent →
    let x := s.sd sd.val
    let followed := decide (s.chanLine sd.val k.val = line)
    let s1 := s.updChan sd.val k.val (fun c => c.setLine line .absent)
    exec (.lineAbsent sd k line lastPeriod) s = .next (
        if !followed || decide (x.mode = .start) || x.lastHold then
          s1
        else
          s1.updChan sd.val k.val (fun c =>
            let c1 := match lastPeriod with
            | some (p, on) => { c with pwm := true, period := p.toNat, duty := on.toNat, flyFrom := x.time, flyAt := x.time, deferred := false }
            | none => { c with pwm := false, deferred := false }
            if c1.ramping then { c1 with rampSelf := true } else { c1 with flywheel := true }))) ∧
  (∀ (sd : Fin 19) (k : Fin 8),
    let c := s.chan sd.val k.val
    let x := s.sd sd.val
    s.sdHas sd.val k.val →
    c.lineA ≠ .absent →
    c.lineB ≠ .absent →
    c.lineA ≠ c.lineB →
    x.links.q0.acked →
    x.links.q1.acked →
    ¬ c.misOpen →
    let n := satInc 0xFFFF c.misCount
    exec (.lineMismatch sd k) s = .next (
        ((s.updChan sd.val k.val (fun c => { c with misCount := n, misOpen := true })).sdEvent sd.val k.val 0x01).sdWait sd.val
          (mkFrame 0x1D k.val n))) ∧
  (∀ (sd : Fin 19) (k : Fin 8),
    let c := s.chan sd.val k.val
    let x := s.sd sd.val
    s.sdHas sd.val k.val →
    x.mode ≠ .start →
    ¬ x.lastHold →
    c.linePend || c.held.isSome →
    let s1 := s.updChan sd.val k.val (fun c => { c with linePend := false, held := none })
    exec (.lineChangeTimeout sd k) s = .next (
        match s1.followed sd.val k.val with
        | .absent =>
            s1.settle sd.val k.val
        | l =>
            s1.takeEdge sd.val k.val (decide (l = .high)) x.time)) ∧
  (∀ (sd : Fin 19) (link : Die) (linesAbsent : Bool),
    (s.sd sd.val).started →
    ¬ ((s.sd sd.val).standby) →
    let s1 := s.updSd sd.val (fun x => { x with
      lastTag := tdrop x.lastTag (fun k => decide (k / 256 = link.val)),
      links := x.links.upd link (fun l => { l with silent := true, acked := false, inStep := false }) })
    let x := s1.sd sd.val
    exec (.linkSilence sd link linesAbsent) s = .next (
        if x.mode ≠ .service ∨ x.lastHold = true then
          s1
        else if x.line = link ∧ (x.links.get link.other).active = true then
          let s2 := (s1.steerTo sd.val link.other).updSd sd.val (fun x => { x with auto := true })
          (match x.s0 with
            | some v => s2.sdWait sd.val (mkFrame 0x1E 0 (2 ^ 15 + v.toNat))
            | none => s2).sdEvent sd.val 0 0x03
        else if !x.links.q0.active && !x.links.q1.active && linesAbsent then
          s1.enterHold sd.val
        else
          s1)) ∧
  (∀ (d : Die) (lane : Fin 96) (time : BitVec 64),
    s.alive d →
    exec (.pwmPeriodStart d lane time) s = .next (
        ((s.settlePin lane.val).periodStart d lane.val time.toNat).settlePin lane.val)) ∧
  (∀ (sd : Fin 19) (link : Die),
    exec (.linkOutOfStep sd link) s = .next (
        s.updSd sd.val (fun x => { x with links := x.links.upd link (fun l => { l with inStep := false }) }))) ∧
  (∀ (d : Die) (sd : Fin 19) (returned : Bool),
    s.alive d →
    exec (.upstreamFramesAbsent d sd returned) s = .next (
        if !returned then
          s.updQsd d sd.val (fun q => { q with absent := true })
        else if (s.qsd d sd.val).absent then
          (s.updQsd d sd.val (fun q => { q with absent := false })).sendEntry d sd.val
        else
          s))

/-- Stream entries, their order and twin nibs, and the tick of a cluster: each command answers the next state of its own effect under
conditions on the state and operands alone. Commands: STREAM_ENTRY_ARRIVAL, ENTRY_RELEASE, SOURCE_STALL, ORDER_ENTRY,
ORDER_ENTRY_UNMATCHED, LOCAL_COPY_DISCARD, TWIN_LAG, CLUSTER_TICK. Rests on spec/06_nib_engines.md; the model's own choices in it
are those of log entry 46. -/
def Obligations.StreamsComplete : Prop :=
  ∀ s : State,
  (∀ (d : Die) (c : Fin 8) (src : BitVec 16) (stamp : BitVec 64) (payload : List Byte) (err : Bool),
    isSource src.toNat →
    payload.length ≤ 2048 →
    src.toNat < 0x300 →
    exec (.streamEntryArrival d c src stamp payload err) s = .next (s.streamIn d c.val src.toNat stamp.toNat payload err)) ∧
  (∀ (d : Die) (c : Fin 8) (receiving : List (Fin 25 × BitVec 64)),
    s.clRuns d c.val →
    s.ordersOwn d c.val →
    (s.cl d c.val).orders.isEmpty →
    let excl := s.stillExcluded d c.val receiving
    let s0 := s.updCl d c.val (fun x => { x with excluded := excl })
    exec (.entryRelease d c receiving) s = .next (
        match s.releasable d c.val receiving excl with
        | none =>
            s0
        | some (e, late) =>
            let x := s0.cl d c.val
            let mask := maskOf ((x.targets e).filter (fun k => decide (e.src = 0x601) || !(x.nib k).full))
            let s1 := s0.updCl d c.val (fun x => { x with
              held := x.held.filter (fun h => decide (h ≠ e)), lastOut := max x.lastOut e.stamp })
            if isCut e.src e.payload then
              (s1.cutOut d c.val).deliver d c.val e e.stamp late mask
            else
              let s2 := s1.deliver d c.val e e.stamp late mask
              if s2.twinFollows d c.val then
                (s2.incWrap d (NBC_nFEED c.val) NBC_nFEED__COUNT).plSend d 1 (.order c.val ⟨e.stamp, e.src, e.seq, mask, late⟩)
              else
                s2)) ∧
  (∀ (d : Die) (c : Fin 8) (src : BitVec 16) (mark : BitVec 64),
    s.clRuns d c.val →
    s.ordersOwn d c.val →
    isSource src.toNat →
    mark.toNat + 1000 * s.fld d (NBC_nSTALL c.val) NBC_nSTALL__LIMIT < s.ns d →
    ¬ ((s.cl d c.val).excluded.contains src.toNat) →
    exec (.sourceStall d c src mark) s = .next (
        s.updCl d c.val (fun x => { x with excluded := x.excluded ++ [src.toNat] }))) ∧
  (∀ (d : Die) (c : Fin 8),
    let x := s.cl d c.val
    s.alive d →
    s.clState d c.val = 4 ∨ s.clState d c.val = 5 ∨ s.clState d c.val = 3 →
    ∀ o rest, x.orders = o :: rest →
    ∀ h, x.held.find? (fun h => decide (h.src = o.src ∧ h.seq = o.seq)) = some h →
    ¬ (o.src ≠ 0x601 ∧ (x.targets h).any (fun k => bitOf o.mask k && (x.nib k).full) = true) →
    let s1 := s.updCl d c.val (fun x => { x with
      orders := rest, held := x.held.filter (fun e => decide (e ≠ h)), lastOut := max x.lastOut o.stamp })
    exec (.orderEntry d c) s = .next (
        (s1.deliver d c.val h o.stamp o.late o.mask).incWrap d (NBC_nFEED c.val) NBC_nFEED__COUNT)) ∧
  (∀ (d : Die) (c : Fin 8),
    let x := s.cl d c.val
    s.alive d →
    ∀ o rest, x.orders = o :: rest →
    ¬ (x.held.any (fun h => decide (h.src = o.src ∧ h.seq = o.seq))) →
    let s1 := (s.addSat d (NBC_nUNM c.val) NBC_nUNM__FEDONLY 1).recordBoth (0x0800 + c.val) 0x06 c.val 0 o.src
    exec (.orderEntryUnmatched d c) s = .next (
        if s.ordersOwn d c.val then
          s1.updCl d c.val (fun x => { x with orders := rest })
        else
          s1.clusterReset d c.val 0x31 0)) ∧
  (∀ (d : Die) (c : Fin 8) (src seq : BitVec 16),
    let x := s.cl d c.val
    let is := fun (h : HeldEntry) => decide (h.src = src.toNat ∧ h.seq = seq.toNat ∧ h.stamp + 100000 ≤ x.lastOut)
    s.alive d →
    ¬ (s.ordersOwn d c.val) →
    x.held.any is →
    ¬ (x.orders.any (fun o => decide (o.src = src.toNat ∧ o.seq = seq.toNat))) →
    exec (.localCopyDiscard d c src seq) s = .next (
        (s.updCl d c.val (fun x => { x with held := x.held.filter (fun h => !is h) })).addSat d (NBC_nUNM c.val)
          NBC_nUNM__LOCALONLY 1)) ∧
  (∀ (d : Die) (c : Fin 8) (lag : BitVec 16),
    s.alive d →
    ¬ (s.ordersOwn d c.val) →
    ¬ ((s.cl d c.val).orders.isEmpty) →
    exec (.twinLag d c lag) s = .next (
        ((s.setF d (NBC_nSTAT c.val) NBC_nSTAT__LAGGING 1).recordBoth (0x0800 + c.val) 0x02 (2 ^ 16 + c.val) 0
          lag.toNat).clusterReset d c.val 0x31 0)) ∧
  (∀ (d : Die) (c : Fin 8) (t : Fin 16) (time : BitVec 64),
    ∀ k, tget none (s.cl d c.val).ticks t.val = some k →
    time.toNat % k.period = k.phase % k.period →
    exec (.clusterTick d c t time) s = .next (s.streamIn d c.val (0x300 + t.val) time.toNat [] false))

/-- Start, halt, watchdog, test and repair of nibs and clusters: each command answers the next state of its own effect under conditions
on the state and operands alone. Commands: NIB_START, NIB_WATCHDOG_EXPIRY, IMEM_WRITE, NBC_HALT_NIB, NBC_RESUME_NIB, NBC_HALT_ALL,
NBC_RESUME_ALL, NBC_REQUEST_BIST, RELOAD_COMPLETE, REJOIN_COMPLETE, SPARE_SUBSTITUTION, CLUSTER_BIST. Rests on
spec/06_nib_engines.md; the model's own choices in it are those of log entry 46. -/
def Obligations.ClustersComplete : Prop :=
  ∀ s : State,
  (∀ (d : Die) (c : Fin 8),
    s.alive d →
    s.dstate d = 2 →
    ¬ ((s.cl d c.val).started) →
    (s.todo d).all Rec.lateStep →
    ¬ (s.copyDue d) →
    let s2 := s.addProtection d c.val
    let x := s2.cl d c.val
    let gated := s2.bit d (ISL_CLKn (4 + c.val)) ISL_CLKn__GATED
    let st := if gated then 1 else if x.nibs.all (fun e => decide (e.2.prog = .none)) then 0
      else if s2.hasAuth d c.val then 3
      else if s2.isSealed d.other && decide (s2.clState d.other c.val = 3) then 5 else 4
    let s3 := if st < 3 then s2 else
      s2.updCl d c.val (fun x => { x with
        rejoin := if st = 5 then .reload else .none,
        seqs := if st = 5 then (s2.cl d.other c.val).seqs else x.seqs,
        nibs := x.nibs.map (fun e => (e.1,
          if e.2.prog = .none then e.2 else match s2.slotFor d c.val e.1 with
            | some sl => { e.2.start with slot := sl, run := if st = 5 then .unassigned else e.2.start.run }
            | none => { e.2 with run := .noSlot })) })
    let s4 := (s3.setF d (NBC_nSTAT c.val) NBC_nSTAT__STATE st).updCl d c.val (fun x => { x with started := true })
    exec (.nibStart d c) s = .next (
        if (List.range 8).all (fun i => (s4.cl d i).started) then
          let s5 := (s4.restoreDue d).setF d UPD_DSTAT UPD_DSTAT__STATE 3
          s5.goOn d (s5.todo d)
        else
          s4)) ∧
  (∀ (n : NibId),
    s.alive n.d →
    (s.nib n).run = .running →
    exec (.nibWatchdogExpiry n) s = .next ((s.updNib n (fun x => { x with wdogHit := true })).nibBoundary n)) ∧
  (∀ (who : Initiator) (n : NibId) (word : Fin 2048) (v : Word) (mirror : Bool),
    s.alive n.d →
    s.imemOk n who →
    exec (.imemWrite who n word v mirror) s = .next (
        if mirror then
          s.imemBoth n word.val v
        else
          s.imemPut n word.val v false)) ∧
  (∀ (d : Die) (who : Initiator) (confirm : BitVec 16) (c : Fin 8) (k : BitVec 5),
    nbcOk who confirm →
    s.alive d →
    exec (.nbcHaltNib d who confirm c k) s = .next (
        s.nbcHalt c.val k.toNat (decide (k.toNat < 30) && s.haltable c.val (fun i => decide (i = k.toNat))))) ∧
  (∀ (d : Die) (who : Initiator) (confirm : BitVec 16) (c : Fin 8) (k : BitVec 5),
    nbcOk who confirm →
    s.alive d →
    s.resumable c.val (fun i => decide (i = k.toNat)) →
    exec (.nbcResumeNib d who confirm c k) s = .next (
        ((s.resumeOn 0 c.val (fun i => decide (i = k.toNat))).resumeOn 1 c.val (fun i => decide (i = k.toNat))).nbcResult
          c.val 3)) ∧
  (∀ (d : Die) (who : Initiator) (confirm : BitVec 16) (c : Fin 8),
    nbcOk who confirm →
    s.alive d →
    exec (.nbcHaltAll d who confirm c) s = .next (s.nbcHalt c.val 0xFF (s.haltable c.val (fun _ => true)))) ∧
  (∀ (d : Die) (who : Initiator) (confirm : BitVec 16) (c : Fin 8),
    nbcOk who confirm →
    s.alive d →
    s.resumable c.val (fun _ => true) →
    exec (.nbcResumeAll d who confirm c) s = .next (
        ((s.resumeOn 0 c.val (fun _ => true)).resumeOn 1 c.val (fun _ => true)).nbcResult c.val 3)) ∧
  (∀ (d : Die) (who : Initiator) (confirm : BitVec 16) (c : Fin 8),
    nbcOk who confirm →
    s.alive d →
    let ok : Bool := s.bistOk 0 c.val || s.bistOk 1 c.val
    exec (.nbcRequestBist d who confirm c) s = .next ((s.nbcResult c.val (if ok then 1 else 2)).bistAsk c.val ok)) ∧
  (∀ (d : Die) (c : Fin 8),
    s.alive d →
    s.clState d c.val = 5 →
    (s.cl d c.val).rejoin = .reload →
    s.clRuns d.other c.val →
    s.hasAuth d.other c.val →
    s.linkFlows →
    let s1 := s.streamIn d.other c.val 0x601 (s.ns d.other) [1#8, 0xFF#8] false
    exec (.reloadComplete d c) s = .next (
        s1.updCl d c.val (fun x => { x with
          rejoin := .placed, seqs := tset 0 x.seqs 0x601 (tget 0 (s1.cl d.other c.val).seqs 0x601) }))) ∧
  (∀ (d : Die) (c : Fin 8),
    s.alive d →
    s.clState d c.val = 5 →
    (s.cl d c.val).rejoin = .cut →
    s.clRuns d.other c.val →
    ¬ ((s.cl d.other c.val).nibs.any (fun e => e.2.queue.any (fun q => isCut q.src q.payload))) →
    exec (.rejoinComplete d c) s = .next (
        (s.updCl d c.val (fun x => { x with rejoin := .none })).setF d (NBC_nSTAT c.val) NBC_nSTAT__STATE 4)) ∧
  (∀ (d : Die) (c : Fin 8) (slot : Fin 32),
    s.alive d →
    s.slotFails d c.val slot.val →
    (s.hasAuth d c.val → s.clRuns d.other c.val) →
    let serves := (List.range 30).find? (fun k => decide (s.slotFor d c.val k = some slot.val))
    let retire := fun (st : State) =>
      let t := st.setF d (NBC_nRETIRE c.val) NBC_nRETIRE__SLOT (withBit (st.rd d (NBC_nRETIRE c.val)).toNat slot.val true)
      let t1 := if slot.val = 30 then t.setF d (NBC_nSPMAP c.val) NBC_nSPMAP__V30 0
        else if slot.val = 31 then t.setF d (NBC_nSPMAP c.val) NBC_nSPMAP__V31 0 else t
      t1.updCl d c.val (fun x => { x with bistFailed := x.bistFailed.filter (fun i => decide (i ≠ slot.val)) })
    (serves = none → exec (.spareSubstitution d c slot) s = .next (retire s)) ∧
    (∀ log, serves = some log →
      let s1 := retire (if s.hasAuth d c.val then s.moveToken c.val d.other else s)
      let subject := d.val * 256 + c.val * 32 + log
      (∀ sl rest, s1.freeSpares d c.val = sl :: rest →
        let s2 := if sl = 30 then (s1.setF d (NBC_nSPMAP c.val) NBC_nSPMAP__LOG30 log).setF d (NBC_nSPMAP c.val) NBC_nSPMAP__V30 1
          else (s1.setF d (NBC_nSPMAP c.val) NBC_nSPMAP__LOG31 log).setF d (NBC_nSPMAP c.val) NBC_nSPMAP__V31 1
        let s3 := (s2.recordBoth (0x0800 + c.val) 0x17 subject 0 1).updNib (mkNib d c.val log) (fun x =>
          { x with slot := sl, eccTimes := [], haltTimes := [] })
        exec (.spareSubstitution d c slot) s = .next (s3.clusterReset d c.val 0x32 0)) ∧
      (s1.freeSpares d c.val = [] →
        let s2 := s1.updNib (mkNib d c.val log) (fun x => { x with run := .noSlot })
        exec (.spareSubstitution d c slot) s = .next (s2.recordBoth (0x0800 + c.val) 0x17 subject 0 9)))) ∧
  (∀ (d : Die) (c : Fin 8) (failed : BitVec 32),
    s.bistOk d c.val →
    let s1 := (s.updCl d c.val (fun x => { x with
      lastBist := some (s.ns d), bistFailed := (List.range 32).filter (fun i => failed.getLsbD i) })).clusterReset d c.val
        0x31 0
    exec (.clusterBist d c failed) s = .next (
        if (s.cl d c.val).bistAsked then
          (s1.nbcResult c.val 3).bistAsk c.val false
        else
          s1))

/-- Nib arithmetic on registers: each command answers the next state of its own effect under conditions on the state and operands alone.
Commands: ADD, SUB, AND, OR, XOR, SHL, SHR, SAR, ROR, MUL, MULH, MULHU, MIN, MAX, MINU, MAXU, ABS, CLZ, CMP, TST. Rests on
spec/06_nib_engines.md, spec/07_nib_instruction_set.md; the model's own choices in it are those of log entry 65. -/
def Obligations.NibArithmeticCompletes : Prop :=
  ∀ s : State,
  (∀ (n : NibId) (w : Word) (ecc : EccFind),
    s.nibMeets n w (aluRR 0x000) .plain →
    (s.nib n).seqPc ≤ 0x1FFC →
    ecc ≠ .badFetch →
    let e := s.nibNoted n ecc
    exec (.add n w ecc) s = .next (
        s.nibSeq n (e.updNib n (fun x =>
          let a := x.reg (wRs w)
          let b := x.reg (wRt w)
          if wFlags w % 2 = 1 then (x.setReg (wRd w) (a + b)).setFlags (x.flags.ofAdd a b) else x.setReg (wRd w) (a + b))))) ∧
  (∀ (n : NibId) (w : Word) (ecc : EccFind),
    s.nibMeets n w (aluRR 0x001) .plain →
    (s.nib n).seqPc ≤ 0x1FFC →
    ecc ≠ .badFetch →
    let e := s.nibNoted n ecc
    exec (.sub n w ecc) s = .next (
        s.nibSeq n (e.updNib n (fun x =>
          let a := x.reg (wRs w)
          let b := x.reg (wRt w)
          if wFlags w % 2 = 1 then (x.setReg (wRd w) (a - b)).setFlags (x.flags.ofSub a b) else x.setReg (wRd w) (a - b))))) ∧
  (∀ (n : NibId) (w : Word) (ecc : EccFind),
    s.nibMeets n w (aluRR 0x002) .plain →
    (s.nib n).seqPc ≤ 0x1FFC →
    ecc ≠ .badFetch →
    let e := s.nibNoted n ecc
    exec (.opAnd n w ecc) s = .next (
        s.nibSeq n (e.updNib n (fun x =>
          let a := x.reg (wRs w)
          let b := x.reg (wRt w)
          if wFlags w % 2 = 1 then (x.setReg (wRd w) (a &&& b)).setFlags (x.flags.zn (a &&& b)) else x.setReg (wRd w) (a &&& b))))) ∧
  (∀ (n : NibId) (w : Word) (ecc : EccFind),
    s.nibMeets n w (aluRR 0x003) .plain →
    (s.nib n).seqPc ≤ 0x1FFC →
    ecc ≠ .badFetch →
    let e := s.nibNoted n ecc
    exec (.opOr n w ecc) s = .next (
        s.nibSeq n (e.updNib n (fun x =>
          let a := x.reg (wRs w)
          let b := x.reg (wRt w)
          if wFlags w % 2 = 1 then (x.setReg (wRd w) (a ||| b)).setFlags (x.flags.zn (a ||| b)) else x.setReg (wRd w) (a ||| b))))) ∧
  (∀ (n : NibId) (w : Word) (ecc : EccFind),
    s.nibMeets n w (aluRR 0x004) .plain →
    (s.nib n).seqPc ≤ 0x1FFC →
    ecc ≠ .badFetch →
    let e := s.nibNoted n ecc
    exec (.xor n w ecc) s = .next (
        s.nibSeq n (e.updNib n (fun x =>
          let a := x.reg (wRs w)
          let b := x.reg (wRt w)
          if wFlags w % 2 = 1 then (x.setReg (wRd w) (a ^^^ b)).setFlags (x.flags.zn (a ^^^ b)) else x.setReg (wRd w) (a ^^^ b))))) ∧
  (∀ (n : NibId) (w : Word) (ecc : EccFind),
    s.nibMeets n w (aluRR 0x005) .plain →
    (s.nib n).seqPc ≤ 0x1FFC →
    ecc ≠ .badFetch →
    let e := s.nibNoted n ecc
    exec (.shl n w ecc) s = .next (
        s.nibSeq n (e.updNib n (fun x =>
          let a := x.reg (wRs w)
          let b := x.reg (wRt w)
          if wFlags w % 2 = 1 then (x.setReg (wRd w) (a <<< (b.toNat % 32))).setFlags (x.flags.ofShift (a <<< (b.toNat % 32)) (b.toNat % 32) (bitOf a.toNat (32 - b.toNat % 32))) else x.setReg (wRd w) (a <<< (b.toNat % 32)))))) ∧
  (∀ (n : NibId) (w : Word) (ecc : EccFind),
    s.nibMeets n w (aluRR 0x006) .plain →
    (s.nib n).seqPc ≤ 0x1FFC →
    ecc ≠ .badFetch →
    let e := s.nibNoted n ecc
    exec (.shr n w ecc) s = .next (
        s.nibSeq n (e.updNib n (fun x =>
          let a := x.reg (wRs w)
          let b := x.reg (wRt w)
          if wFlags w % 2 = 1 then (x.setReg (wRd w) (a >>> (b.toNat % 32))).setFlags (x.flags.ofShift (a >>> (b.toNat % 32)) (b.toNat % 32) (bitOf a.toNat (b.toNat % 32 - 1))) else x.setReg (wRd w) (a >>> (b.toNat % 32)))))) ∧
  (∀ (n : NibId) (w : Word) (ecc : EccFind),
    s.nibMeets n w (aluRR 0x007) .plain →
    (s.nib n).seqPc ≤ 0x1FFC →
    ecc ≠ .badFetch →
    let e := s.nibNoted n ecc
    exec (.sar n w ecc) s = .next (
        s.nibSeq n (e.updNib n (fun x =>
          let a := x.reg (wRs w)
          let b := x.reg (wRt w)
          if wFlags w % 2 = 1 then (x.setReg (wRd w) (a.sshiftRight (b.toNat % 32))).setFlags (x.flags.ofShift (a.sshiftRight (b.toNat % 32)) (b.toNat % 32) (bitOf a.toNat (b.toNat % 32 - 1))) else x.setReg (wRd w) (a.sshiftRight (b.toNat % 32)))))) ∧
  (∀ (n : NibId) (w : Word) (ecc : EccFind),
    s.nibMeets n w (aluRR 0x008) .plain →
    (s.nib n).seqPc ≤ 0x1FFC →
    ecc ≠ .badFetch →
    let e := s.nibNoted n ecc
    exec (.ror n w ecc) s = .next (
        s.nibSeq n (e.updNib n (fun x =>
          let a := x.reg (wRs w)
          let b := x.reg (wRt w)
          if wFlags w % 2 = 1 then (x.setReg (wRd w) (rotr a (b.toNat % 32))).setFlags (x.flags.ofShift (rotr a (b.toNat % 32)) (b.toNat % 32) (rotr a (b.toNat % 32)).msb) else x.setReg (wRd w) (rotr a (b.toNat % 32)))))) ∧
  (∀ (n : NibId) (w : Word) (ecc : EccFind),
    s.nibMeets n w (aluRR 0x009) .plain →
    (s.nib n).seqPc ≤ 0x1FFC →
    ecc ≠ .badFetch →
    let e := s.nibNoted n ecc
    exec (.mul n w ecc) s = .next (
        s.nibSeq n (e.updNib n (fun x =>
          let a := x.reg (wRs w)
          let b := x.reg (wRt w)
          if wFlags w % 2 = 1 then (x.setReg (wRd w) (a * b)).setFlags ({ x.flags.zn (a * b) with v := noFit 32 (a.toInt * b.toInt) }) else x.setReg (wRd w) (a * b))))) ∧
  (∀ (n : NibId) (w : Word) (ecc : EccFind),
    s.nibMeets n w (aluRR 0x00A) .plain →
    (s.nib n).seqPc ≤ 0x1FFC →
    ecc ≠ .badFetch →
    let e := s.nibNoted n ecc
    exec (.mulh n w ecc) s = .next (
        s.nibSeq n (e.updNib n (fun x =>
          let a := x.reg (wRs w)
          let b := x.reg (wRt w)
          if wFlags w % 2 = 1 then (x.setReg (wRd w) (BitVec.ofInt 32 (a.toInt * b.toInt / 2 ^ 32))).setFlags (x.flags.zn (BitVec.ofInt 32 (a.toInt * b.toInt / 2 ^ 32))) else x.setReg (wRd w) (BitVec.ofInt 32 (a.toInt * b.toInt / 2 ^ 32)))))) ∧
  (∀ (n : NibId) (w : Word) (ecc : EccFind),
    s.nibMeets n w (aluRR 0x00B) .plain →
    (s.nib n).seqPc ≤ 0x1FFC →
    ecc ≠ .badFetch →
    let e := s.nibNoted n ecc
    exec (.mulhu n w ecc) s = .next (
        s.nibSeq n (e.updNib n (fun x =>
          let a := x.reg (wRs w)
          let b := x.reg (wRt w)
          if wFlags w % 2 = 1 then (x.setReg (wRd w) (BitVec.ofNat 32 (a.toNat * b.toNat / 2 ^ 32))).setFlags (x.flags.zn (BitVec.ofNat 32 (a.toNat * b.toNat / 2 ^ 32))) else x.setReg (wRd w) (BitVec.ofNat 32 (a.toNat * b.toNat / 2 ^ 32)))))) ∧
  (∀ (n : NibId) (w : Word) (ecc : EccFind),
    s.nibMeets n w (aluRR 0x00C) .plain →
    (s.nib n).seqPc ≤ 0x1FFC →
    ecc ≠ .badFetch →
    let e := s.nibNoted n ecc
    exec (.min n w ecc) s = .next (
        s.nibSeq n (e.updNib n (fun x =>
          let a := x.reg (wRs w)
          let b := x.reg (wRt w)
          if wFlags w % 2 = 1 then (x.setReg (wRd w) (if a.slt b then a else b)).setFlags (x.flags.zn (if a.slt b then a else b)) else x.setReg (wRd w) (if a.slt b then a else b))))) ∧
  (∀ (n : NibId) (w : Word) (ecc : EccFind),
    s.nibMeets n w (aluRR 0x00D) .plain →
    (s.nib n).seqPc ≤ 0x1FFC →
    ecc ≠ .badFetch →
    let e := s.nibNoted n ecc
    exec (.max n w ecc) s = .next (
        s.nibSeq n (e.updNib n (fun x =>
          let a := x.reg (wRs w)
          let b := x.reg (wRt w)
          if wFlags w % 2 = 1 then (x.setReg (wRd w) (if a.slt b then b else a)).setFlags (x.flags.zn (if a.slt b then b else a)) else x.setReg (wRd w) (if a.slt b then b else a))))) ∧
  (∀ (n : NibId) (w : Word) (ecc : EccFind),
    s.nibMeets n w (aluRR 0x00E) .plain →
    (s.nib n).seqPc ≤ 0x1FFC →
    ecc ≠ .badFetch →
    let e := s.nibNoted n ecc
    exec (.minu n w ecc) s = .next (
        s.nibSeq n (e.updNib n (fun x =>
          let a := x.reg (wRs w)
          let b := x.reg (wRt w)
          if wFlags w % 2 = 1 then (x.setReg (wRd w) (if a.ult b then a else b)).setFlags (x.flags.zn (if a.ult b then a else b)) else x.setReg (wRd w) (if a.ult b then a else b))))) ∧
  (∀ (n : NibId) (w : Word) (ecc : EccFind),
    s.nibMeets n w (aluRR 0x00F) .plain →
    (s.nib n).seqPc ≤ 0x1FFC →
    ecc ≠ .badFetch →
    let e := s.nibNoted n ecc
    exec (.maxu n w ecc) s = .next (
        s.nibSeq n (e.updNib n (fun x =>
          let a := x.reg (wRs w)
          let b := x.reg (wRt w)
          if wFlags w % 2 = 1 then (x.setReg (wRd w) (if a.ult b then b else a)).setFlags (x.flags.zn (if a.ult b then b else a)) else x.setReg (wRd w) (if a.ult b then b else a))))) ∧
  (∀ (n : NibId) (w : Word) (ecc : EccFind),
    s.nibMeets n w opAbs .plain →
    (s.nib n).seqPc ≤ 0x1FFC →
    ecc ≠ .badFetch →
    let e := s.nibNoted n ecc
    exec (.abs n w ecc) s = .next (
        s.nibSeq n (e.updNib n (fun x =>
          let a := x.reg (wRs w)
          let x1 := (x.setReg (wRd w) (absSat a)).clampS (decide (a = 0x80000000#32))
          if wFlags w % 2 = 1 then
          x1.setFlags { x1.flags.zn (absSat a) with v := decide (a = 0x80000000#32) } else x1)))) ∧
  (∀ (n : NibId) (w : Word) (ecc : EccFind),
    s.nibMeets n w opClz .plain →
    (s.nib n).seqPc ≤ 0x1FFC →
    ecc ≠ .badFetch →
    let e := s.nibNoted n ecc
    exec (.clz n w ecc) s = .next (
        s.nibSeq n (e.updNib n (fun x =>
          let a := x.reg (wRs w)
          if wFlags w % 2 = 1 then (x.setReg (wRd w) (BitVec.ofNat 32 (leadZeros a))).setFlags (x.flags.zn (BitVec.ofNat 32 (leadZeros a))) else x.setReg (wRd w) (BitVec.ofNat 32 (leadZeros a)))))) ∧
  (∀ (n : NibId) (w : Word) (ecc : EccFind),
    s.nibMeets n w opCmp .plain →
    (s.nib n).seqPc ≤ 0x1FFC →
    ecc ≠ .badFetch →
    let e := s.nibNoted n ecc
    exec (.cmp n w ecc) s = .next (
        s.nibSeq n (e.updNib n (fun x =>
          let a := x.reg (wRs w)
          let b := x.reg (wRt w)
          x.setFlags (x.flags.ofSub a b))))) ∧
  (∀ (n : NibId) (w : Word) (ecc : EccFind),
    s.nibMeets n w opTst .plain →
    (s.nib n).seqPc ≤ 0x1FFC →
    ecc ≠ .badFetch →
    let e := s.nibNoted n ecc
    exec (.tst n w ecc) s = .next (
        s.nibSeq n (e.updNib n (fun x =>
          let a := x.reg (wRs w)
          let b := x.reg (wRt w)
          x.setFlags (x.flags.zn (a &&& b))))))

/-- Nib arithmetic with immediates, and the accumulator: each command answers the next state of its own effect under conditions on the
state and operands alone. Commands: ADDI, SUBI, ANDI, ORI, XORI, CMPI, LUI, SHLI, SHRI, SARI, RORI, SATS, SATU, RND, MAC, MACU, MSU,
MULA, MULAU, MFAL, MFAH, MTA. Rests on spec/06_nib_engines.md, spec/07_nib_instruction_set.md; the model's own choices in it are
those of log entry 65. -/
def Obligations.NibImmediatesComplete : Prop :=
  ∀ s : State,
  (∀ (n : NibId) (w : Word) (ecc : EccFind),
    s.nibMeets n w (opImm 0x08) .plain →
    (s.nib n).seqPc ≤ 0x1FFC →
    ecc ≠ .badFetch →
    let e := s.nibNoted n ecc
    exec (.addi n w ecc) s = .next (
        s.nibSeq n (e.updNib n (fun x => x.setReg (wRd w) (x.reg (wRs w) + BitVec.ofInt 32 (wSimm w)))))) ∧
  (∀ (n : NibId) (w : Word) (ecc : EccFind),
    s.nibMeets n w (opImm 0x09) .plain →
    (s.nib n).seqPc ≤ 0x1FFC →
    ecc ≠ .badFetch →
    let e := s.nibNoted n ecc
    exec (.subi n w ecc) s = .next (
        s.nibSeq n (e.updNib n (fun x => x.setReg (wRd w) (BitVec.ofInt 32 (wSimm w) - x.reg (wRs w)))))) ∧
  (∀ (n : NibId) (w : Word) (ecc : EccFind),
    s.nibMeets n w (opImm 0x0A) .plain →
    (s.nib n).seqPc ≤ 0x1FFC →
    ecc ≠ .badFetch →
    let e := s.nibNoted n ecc
    exec (.andi n w ecc) s = .next (
        s.nibSeq n (e.updNib n (fun x => x.setReg (wRd w) (x.reg (wRs w) &&& BitVec.ofNat 32 (wImm w)))))) ∧
  (∀ (n : NibId) (w : Word) (ecc : EccFind),
    s.nibMeets n w (opImm 0x0B) .plain →
    (s.nib n).seqPc ≤ 0x1FFC →
    ecc ≠ .badFetch →
    let e := s.nibNoted n ecc
    exec (.ori n w ecc) s = .next (
        s.nibSeq n (e.updNib n (fun x => x.setReg (wRd w) (x.reg (wRs w) ||| BitVec.ofNat 32 (wImm w)))))) ∧
  (∀ (n : NibId) (w : Word) (ecc : EccFind),
    s.nibMeets n w (opImm 0x0C) .plain →
    (s.nib n).seqPc ≤ 0x1FFC →
    ecc ≠ .badFetch →
    let e := s.nibNoted n ecc
    exec (.xori n w ecc) s = .next (
        s.nibSeq n (e.updNib n (fun x => x.setReg (wRd w) (x.reg (wRs w) ^^^ BitVec.ofNat 32 (wImm w)))))) ∧
  (∀ (n : NibId) (w : Word) (ecc : EccFind),
    s.nibMeets n w opCmpi .plain →
    (s.nib n).seqPc ≤ 0x1FFC →
    ecc ≠ .badFetch →
    let e := s.nibNoted n ecc
    exec (.cmpi n w ecc) s = .next (
        s.nibSeq n (e.updNib n (fun x =>
          x.setFlags (x.flags.ofSub (x.reg (wRs w)) (BitVec.ofInt 32 (wSimm w))))))) ∧
  (∀ (n : NibId) (w : Word) (ecc : EccFind),
    s.nibMeets n w opLui .plain →
    (s.nib n).seqPc ≤ 0x1FFC →
    ecc ≠ .badFetch →
    let e := s.nibNoted n ecc
    exec (.lui n w ecc) s = .next (
        s.nibSeq n (e.updNib n (fun x => x.setReg (wRd w) (BitVec.ofNat 32 (wImm w % 2 ^ 14 * 2 ^ 18)))))) ∧
  (∀ (n : NibId) (w : Word) (ecc : EccFind),
    s.nibMeets n w (opXar 0x00) .plain →
    (s.nib n).seqPc ≤ 0x1FFC →
    ecc ≠ .badFetch →
    wPos w < 32 →
    wLen w = 0 →
    let e := s.nibNoted n ecc
    exec (.shli n w ecc) s = .next (s.nibSeq n (e.updNib n (fun x => x.setReg (wRd w) (x.reg (wRs w) <<< wPos w))))) ∧
  (∀ (n : NibId) (w : Word) (ecc : EccFind),
    s.nibMeets n w (opXar 0x01) .plain →
    (s.nib n).seqPc ≤ 0x1FFC →
    ecc ≠ .badFetch →
    wPos w < 32 →
    wLen w = 0 →
    let e := s.nibNoted n ecc
    exec (.shri n w ecc) s = .next (s.nibSeq n (e.updNib n (fun x => x.setReg (wRd w) (x.reg (wRs w) >>> wPos w))))) ∧
  (∀ (n : NibId) (w : Word) (ecc : EccFind),
    s.nibMeets n w (opXar 0x02) .plain →
    (s.nib n).seqPc ≤ 0x1FFC →
    ecc ≠ .badFetch →
    wPos w < 32 →
    wLen w = 0 →
    let e := s.nibNoted n ecc
    exec (.sari n w ecc) s = .next (
        s.nibSeq n (e.updNib n (fun x => x.setReg (wRd w) ((x.reg (wRs w)).sshiftRight (wPos w)))))) ∧
  (∀ (n : NibId) (w : Word) (ecc : EccFind),
    s.nibMeets n w (opXar 0x03) .plain →
    (s.nib n).seqPc ≤ 0x1FFC →
    ecc ≠ .badFetch →
    wPos w < 32 →
    wLen w = 0 →
    let e := s.nibNoted n ecc
    exec (.rori n w ecc) s = .next (s.nibSeq n (e.updNib n (fun x => x.setReg (wRd w) (rotr (x.reg (wRs w)) (wPos w)))))) ∧
  (∀ (n : NibId) (w : Word) (ecc : EccFind),
    s.nibMeets n w (opXar 0x08) .plain →
    (s.nib n).seqPc ≤ 0x1FFC →
    ecc ≠ .badFetch →
    wPos w = 0 →
    wLen w < 32 →
    let e := s.nibNoted n ecc
    exec (.sats n w ecc) s = .next (
        s.nibSeq n (e.updNib n (fun x =>
          (x.setReg (wRd w) (clampWord (-(2 ^ wLen w)) (2 ^ wLen w - 1) (x.reg (wRs w)).toInt).1).clampS (clampWord (-(2 ^ wLen w)) (2 ^ wLen w - 1) (x.reg (wRs w)).toInt).2)))) ∧
  (∀ (n : NibId) (w : Word) (ecc : EccFind),
    s.nibMeets n w (opXar 0x09) .plain →
    (s.nib n).seqPc ≤ 0x1FFC →
    ecc ≠ .badFetch →
    wPos w = 0 →
    wLen w < 32 →
    let e := s.nibNoted n ecc
    exec (.satu n w ecc) s = .next (
        s.nibSeq n (e.updNib n (fun x =>
          (x.setReg (wRd w) (clampWord 0 (2 ^ (wLen w + 1) - 1) (x.reg (wRs w)).toInt).1).clampS (clampWord 0 (2 ^ (wLen w + 1) - 1) (x.reg (wRs w)).toInt).2)))) ∧
  (∀ (n : NibId) (w : Word) (ecc : EccFind),
    s.nibMeets n w opRnd .plain →
    (s.nib n).seqPc ≤ 0x1FFC →
    ecc ≠ .badFetch →
    wLen w < 4 →
    let e := s.nibNoted n ecc
    exec (.rnd n w ecc) s = .next (
        s.nibSeq n (e.updNib n (fun x =>
          (x.setReg (wRd w) (clampWord (-(2 ^ 31)) (2 ^ 31 - 1) (roundMode x.acc.toInt (wPos w) (wLen w))).1).clampS (clampWord (-(2 ^ 31)) (2 ^ 31 - 1) (roundMode x.acc.toInt (wPos w) (wLen w))).2)))) ∧
  (∀ (n : NibId) (w : Word) (ecc : EccFind),
    s.nibMeets n w (opMacs 0) .plain →
    (s.nib n).seqPc ≤ 0x1FFC →
    ecc ≠ .badFetch →
    let e := s.nibNoted n ecc
    exec (.mac n w ecc) s = .next (
        s.nibSeq n (e.updNib n (fun x =>
          let r := accSum (decide (wFlags w / 2 % 2 = 1)) (-(2 ^ 63)) (2 ^ 63 - 1) (x.acc.toInt + (x.reg (wRs w)).toInt * (x.reg (wRt w)).toInt)
          let y := { x with acc := r.1 }
          let z := y.clampS r.2.2
          if wFlags w % 2 = 1 then z.setFlags (z.flags.accZnv r.1 r.2.1) else z)))) ∧
  (∀ (n : NibId) (w : Word) (ecc : EccFind),
    s.nibMeets n w (opMacs 1) .plain →
    (s.nib n).seqPc ≤ 0x1FFC →
    ecc ≠ .badFetch →
    let e := s.nibNoted n ecc
    exec (.macu n w ecc) s = .next (
        s.nibSeq n (e.updNib n (fun x =>
          let r := accSum (decide (wFlags w / 2 % 2 = 1)) 0 (2 ^ 64 - 1) ((x.acc.toNat + (x.reg (wRs w)).toNat * (x.reg (wRt w)).toNat : Nat) : Int)
          let y := { x with acc := r.1 }
          let z := y.clampS r.2.2
          if wFlags w % 2 = 1 then z.setFlags (z.flags.accZnv r.1 r.2.1) else z)))) ∧
  (∀ (n : NibId) (w : Word) (ecc : EccFind),
    s.nibMeets n w (opMacs 2) .plain →
    (s.nib n).seqPc ≤ 0x1FFC →
    ecc ≠ .badFetch →
    let e := s.nibNoted n ecc
    exec (.msu n w ecc) s = .next (
        s.nibSeq n (e.updNib n (fun x =>
          let r := accSum (decide (wFlags w / 2 % 2 = 1)) (-(2 ^ 63)) (2 ^ 63 - 1) (x.acc.toInt - (x.reg (wRs w)).toInt * (x.reg (wRt w)).toInt)
          let y := { x with acc := r.1 }
          let z := y.clampS r.2.2
          if wFlags w % 2 = 1 then z.setFlags (z.flags.accZnv r.1 r.2.1) else z)))) ∧
  (∀ (n : NibId) (w : Word) (ecc : EccFind),
    s.nibMeets n w (opMulas 3) .plain →
    (s.nib n).seqPc ≤ 0x1FFC →
    ecc ≠ .badFetch →
    let e := s.nibNoted n ecc
    exec (.mula n w ecc) s = .next (
        s.nibSeq n (e.updNib n (fun x =>
          let r := (BitVec.ofInt 64 ((x.reg (wRs w)).toInt * (x.reg (wRt w)).toInt), false, false)
          let y := { x with acc := r.1 }
          let z := y.clampS r.2.2
          if wFlags w % 2 = 1 then z.setFlags (z.flags.accZnv r.1 r.2.1) else z)))) ∧
  (∀ (n : NibId) (w : Word) (ecc : EccFind),
    s.nibMeets n w (opMulas 4) .plain →
    (s.nib n).seqPc ≤ 0x1FFC →
    ecc ≠ .badFetch →
    let e := s.nibNoted n ecc
    exec (.mulau n w ecc) s = .next (
        s.nibSeq n (e.updNib n (fun x =>
          let r := (BitVec.ofNat 64 ((x.reg (wRs w)).toNat * (x.reg (wRt w)).toNat), false, false)
          let y := { x with acc := r.1 }
          let z := y.clampS r.2.2
          if wFlags w % 2 = 1 then z.setFlags (z.flags.accZnv r.1 r.2.1) else z)))) ∧
  (∀ (n : NibId) (w : Word) (ecc : EccFind),
    s.nibMeets n w (opMfas 8) .plain →
    (s.nib n).seqPc ≤ 0x1FFC →
    ecc ≠ .badFetch →
    let e := s.nibNoted n ecc
    exec (.mfal n w ecc) s = .next (
        s.nibSeq n (e.updNib n (fun x =>
          let r := (x.acc, false, false)
          let y := { x with acc := r.1 }
          let z := (y.setReg (wRd w) (r.1.setWidth 32)).clampS r.2.2
          if wFlags w % 2 = 1 then z.setFlags (z.flags.accZnv r.1 r.2.1) else z)))) ∧
  (∀ (n : NibId) (w : Word) (ecc : EccFind),
    s.nibMeets n w (opMfas 9) .plain →
    (s.nib n).seqPc ≤ 0x1FFC →
    ecc ≠ .badFetch →
    let e := s.nibNoted n ecc
    exec (.mfah n w ecc) s = .next (
        s.nibSeq n (e.updNib n (fun x =>
          let r := (x.acc, false, false)
          let y := { x with acc := r.1 }
          let z := (y.setReg (wRd w) ((r.1 >>> 32).setWidth 32)).clampS r.2.2
          if wFlags w % 2 = 1 then z.setFlags (z.flags.accZnv r.1 r.2.1) else z)))) ∧
  (∀ (n : NibId) (w : Word) (ecc : EccFind),
    s.nibMeets n w (opMulas 10) .plain →
    (s.nib n).seqPc ≤ 0x1FFC →
    ecc ≠ .badFetch →
    let e := s.nibNoted n ecc
    exec (.mta n w ecc) s = .next (
        s.nibSeq n (e.updNib n (fun x =>
          let r := (x.reg (wRs w) ++ x.reg (wRt w), false, false)
          let y := { x with acc := r.1 }
          let z := y.clampS r.2.2
          if wFlags w % 2 = 1 then z.setFlags (z.flags.accZnv r.1 r.2.1) else z))))

/-- Nib bit fields: each command answers the next state of its own effect under conditions on the state and operands alone. Commands:
ACLR, EXT, EXTS, EXTB, EXTBS, INS, INSB, EXT_A, EXTS_A, EXTB_A, EXTBS_A, INS_A, INSB_A. Rests on spec/06_nib_engines.md,
spec/07_nib_instruction_set.md; the model's own choices in it are those of log entry 65. -/
def Obligations.NibBitFieldsComplete : Prop :=
  ∀ s : State,
  (∀ (n : NibId) (w : Word) (ecc : EccFind),
    s.nibMeets n w opAclr .plain →
    (s.nib n).seqPc ≤ 0x1FFC →
    ecc ≠ .badFetch →
    let e := s.nibNoted n ecc
    exec (.aclr n w ecc) s = .next (
        s.nibSeq n (e.updNib n (fun x =>
          let r := (0#64, false, false)
          let y := { x with acc := r.1 }
          let z := y.clampS r.2.2
          if wFlags w % 2 = 1 then z.setFlags (z.flags.accZnv r.1 r.2.1) else z)))) ∧
  (∀ (n : NibId) (w : Word) (ecc : EccFind),
    s.nibMeets n w (opField 0) .plain →
    (s.nib n).seqPc ≤ 0x1FFC →
    ecc ≠ .badFetch →
    let e := s.nibNoted n ecc
    let ps := fieldPos false (wPos w) (wLen w + 1)
    inBounds 32 ps →
    exec (.ext n w ecc) s = .next (
        s.nibSeq n (e.updNib n (fun x =>
          x.setReg (wRd w) (BitVec.ofNat 32 (extend64 false (wLen w + 1) (gather (bitOf (x.reg (wRs w)).toNat) ps))))))) ∧
  (∀ (n : NibId) (w : Word) (ecc : EccFind),
    s.nibMeets n w (opField 1) .plain →
    (s.nib n).seqPc ≤ 0x1FFC →
    ecc ≠ .badFetch →
    let e := s.nibNoted n ecc
    let ps := fieldPos false (wPos w) (wLen w + 1)
    inBounds 32 ps →
    exec (.exts n w ecc) s = .next (
        s.nibSeq n (e.updNib n (fun x =>
          x.setReg (wRd w) (BitVec.ofNat 32 (extend64 true (wLen w + 1) (gather (bitOf (x.reg (wRs w)).toNat) ps))))))) ∧
  (∀ (n : NibId) (w : Word) (ecc : EccFind),
    s.nibMeets n w (opField 2) .plain →
    (s.nib n).seqPc ≤ 0x1FFC →
    ecc ≠ .badFetch →
    let e := s.nibNoted n ecc
    let ps := fieldPos true (wPos w) (wLen w + 1)
    inBounds 32 ps →
    exec (.extb n w ecc) s = .next (
        s.nibSeq n (e.updNib n (fun x =>
          x.setReg (wRd w) (BitVec.ofNat 32 (extend64 false (wLen w + 1) (gather (bitOf (x.reg (wRs w)).toNat) ps))))))) ∧
  (∀ (n : NibId) (w : Word) (ecc : EccFind),
    s.nibMeets n w (opField 3) .plain →
    (s.nib n).seqPc ≤ 0x1FFC →
    ecc ≠ .badFetch →
    let e := s.nibNoted n ecc
    let ps := fieldPos true (wPos w) (wLen w + 1)
    inBounds 32 ps →
    exec (.extbs n w ecc) s = .next (
        s.nibSeq n (e.updNib n (fun x =>
          x.setReg (wRd w) (BitVec.ofNat 32 (extend64 true (wLen w + 1) (gather (bitOf (x.reg (wRs w)).toNat) ps))))))) ∧
  (∀ (n : NibId) (w : Word) (ecc : EccFind),
    s.nibMeets n w (opField 4) .plain →
    (s.nib n).seqPc ≤ 0x1FFC →
    ecc ≠ .badFetch →
    let e := s.nibNoted n ecc
    let ps := fieldPos false (wPos w) (wLen w + 1)
    inBounds 32 ps →
    exec (.ins n w ecc) s = .next (
        s.nibSeq n (e.updNib n (fun x =>
          x.setReg (wRd w) (BitVec.ofNat 32 (scatter (x.reg (wRd w)).toNat (x.reg (wRs w)).toNat ps)))))) ∧
  (∀ (n : NibId) (w : Word) (ecc : EccFind),
    s.nibMeets n w (opField 6) .plain →
    (s.nib n).seqPc ≤ 0x1FFC →
    ecc ≠ .badFetch →
    let e := s.nibNoted n ecc
    let ps := fieldPos true (wPos w) (wLen w + 1)
    inBounds 32 ps →
    exec (.insb n w ecc) s = .next (
        s.nibSeq n (e.updNib n (fun x =>
          x.setReg (wRd w) (BitVec.ofNat 32 (scatter (x.reg (wRd w)).toNat (x.reg (wRs w)).toNat ps)))))) ∧
  (∀ (n : NibId) (w : Word) (ecc : EccFind),
    s.nibMeets n w (opFieldA 16) .plain →
    (s.nib n).seqPc ≤ 0x1FFC →
    ecc ≠ .badFetch →
    let e := s.nibNoted n ecc
    let ps := fieldPos false (wPos w) (wLen w + 1)
    inBounds 64 ps →
    exec (.extA n w ecc) s = .next (
        s.nibSeq n (e.updNib n (fun x =>
          x.setReg (wRd w) (BitVec.ofNat 32 (extend64 false (wLen w + 1) (gather (bitOf x.acc.toNat) ps))))))) ∧
  (∀ (n : NibId) (w : Word) (ecc : EccFind),
    s.nibMeets n w (opFieldA 17) .plain →
    (s.nib n).seqPc ≤ 0x1FFC →
    ecc ≠ .badFetch →
    let e := s.nibNoted n ecc
    let ps := fieldPos false (wPos w) (wLen w + 1)
    inBounds 64 ps →
    exec (.extsA n w ecc) s = .next (
        s.nibSeq n (e.updNib n (fun x =>
          x.setReg (wRd w) (BitVec.ofNat 32 (extend64 true (wLen w + 1) (gather (bitOf x.acc.toNat) ps))))))) ∧
  (∀ (n : NibId) (w : Word) (ecc : EccFind),
    s.nibMeets n w (opFieldA 18) .plain →
    (s.nib n).seqPc ≤ 0x1FFC →
    ecc ≠ .badFetch →
    let e := s.nibNoted n ecc
    let ps := fieldPos true (wPos w) (wLen w + 1)
    inBounds 64 ps →
    exec (.extbA n w ecc) s = .next (
        s.nibSeq n (e.updNib n (fun x =>
          x.setReg (wRd w) (BitVec.ofNat 32 (extend64 false (wLen w + 1) (gather (bitOf x.acc.toNat) ps))))))) ∧
  (∀ (n : NibId) (w : Word) (ecc : EccFind),
    s.nibMeets n w (opFieldA 19) .plain →
    (s.nib n).seqPc ≤ 0x1FFC →
    ecc ≠ .badFetch →
    let e := s.nibNoted n ecc
    let ps := fieldPos true (wPos w) (wLen w + 1)
    inBounds 64 ps →
    exec (.extbsA n w ecc) s = .next (
        s.nibSeq n (e.updNib n (fun x =>
          x.setReg (wRd w) (BitVec.ofNat 32 (extend64 true (wLen w + 1) (gather (bitOf x.acc.toNat) ps))))))) ∧
  (∀ (n : NibId) (w : Word) (ecc : EccFind),
    s.nibMeets n w (opFieldI 0x14) .plain →
    (s.nib n).seqPc ≤ 0x1FFC →
    ecc ≠ .badFetch →
    let e := s.nibNoted n ecc
    let ps := fieldPos false (wPos w) (wLen w + 1)
    inBounds 64 ps →
    exec (.insA n w ecc) s = .next (
        s.nibSeq n (e.updNib n (fun x =>
          { x with acc := BitVec.ofNat 64 (scatter x.acc.toNat (extend64 true 32 (x.reg (wRs w)).toNat) ps) })))) ∧
  (∀ (n : NibId) (w : Word) (ecc : EccFind),
    s.nibMeets n w (opFieldI 0x16) .plain →
    (s.nib n).seqPc ≤ 0x1FFC →
    ecc ≠ .badFetch →
    let e := s.nibNoted n ecc
    let ps := fieldPos true (wPos w) (wLen w + 1)
    inBounds 64 ps →
    exec (.insbA n w ecc) s = .next (
        s.nibSeq n (e.updNib n (fun x =>
          { x with acc := BitVec.ofNat 64 (scatter x.acc.toNat (extend64 true 32 (x.reg (wRs w)).toNat) ps) }))))

/-- Nib memory accesses, branches and loops: each command answers the next state of its own effect under conditions on the state and
operands alone. Commands: LDW, LDH, LDB, STW, STH, STB, BR, BAL, LOOP, LOOPR, NOP, JR, JALR. Rests on spec/06_nib_engines.md,
spec/07_nib_instruction_set.md; the model's own choices in it are those of log entry 65. -/
def Obligations.NibMemoryAndBranchesComplete : Prop :=
  ∀ s : State,
  (∀ (n : NibId) (w : Word) (ecc : EccFind),
    s.nibMeets n w (opImm 0x10) .plain →
    (s.nib n).seqPc ≤ 0x1FFC →
    ecc ≠ .badFetch →
    let e := s.nibNoted n ecc
    let a := nibAddr (e.nib n) w
    a % 4 = 0 →
    (e.nibLoad n a 4).1.isSome →
    ∀ u, e.dataEcc n a ecc = some u →
    ∀ v t, u.nibLoad n a 4 = (some v, t) →
    exec (.ldw n w ecc) s = .next (s.nibSeq n (t.updNib n (fun x => x.setReg (wRd w) (BitVec.ofNat 32 v))))) ∧
  (∀ (n : NibId) (w : Word) (ecc : EccFind),
    s.nibMeets n w (opImm 0x11) .plain →
    (s.nib n).seqPc ≤ 0x1FFC →
    ecc ≠ .badFetch →
    let e := s.nibNoted n ecc
    let a := nibAddr (e.nib n) w
    a % 2 = 0 →
    (e.nibLoad n a 2).1.isSome →
    ∀ u, e.dataEcc n a ecc = some u →
    ∀ v t, u.nibLoad n a 2 = (some v, t) →
    exec (.ldh n w ecc) s = .next (s.nibSeq n (t.updNib n (fun x => x.setReg (wRd w) (BitVec.ofNat 32 v))))) ∧
  (∀ (n : NibId) (w : Word) (ecc : EccFind),
    s.nibMeets n w (opImm 0x12) .plain →
    (s.nib n).seqPc ≤ 0x1FFC →
    ecc ≠ .badFetch →
    let e := s.nibNoted n ecc
    let a := nibAddr (e.nib n) w
    (e.nibLoad n a 1).1.isSome →
    ∀ u, e.dataEcc n a ecc = some u →
    ∀ v t, u.nibLoad n a 1 = (some v, t) →
    exec (.ldb n w ecc) s = .next (s.nibSeq n (t.updNib n (fun x => x.setReg (wRd w) (BitVec.ofNat 32 v))))) ∧
  (∀ (n : NibId) (w : Word) (ecc : EccFind),
    s.nibMeets n w (opImm 0x14) .plain →
    (s.nib n).seqPc ≤ 0x1FFC →
    ecc ≠ .badFetch →
    let e := s.nibNoted n ecc
    let a := nibAddr (e.nib n) w
    a % 4 = 0 →
    ∀ t u, e.nibStore n a 4 ((e.nib n).reg (wRd w)).toNat = (some t, u) →
    exec (.stw n w ecc) s = .next (s.nibSeq n t)) ∧
  (∀ (n : NibId) (w : Word) (ecc : EccFind),
    s.nibMeets n w (opImm 0x15) .plain →
    (s.nib n).seqPc ≤ 0x1FFC →
    ecc ≠ .badFetch →
    let e := s.nibNoted n ecc
    let a := nibAddr (e.nib n) w
    a % 2 = 0 →
    ∀ t u, e.nibStore n a 2 ((e.nib n).reg (wRd w)).toNat = (some t, u) →
    exec (.sth n w ecc) s = .next (s.nibSeq n t)) ∧
  (∀ (n : NibId) (w : Word) (ecc : EccFind),
    s.nibMeets n w (opImm 0x16) .plain →
    (s.nib n).seqPc ≤ 0x1FFC →
    ecc ≠ .badFetch →
    let e := s.nibNoted n ecc
    let a := nibAddr (e.nib n) w
    ∀ t u, e.nibStore n a 1 ((e.nib n).reg (wRd w)).toNat = (some t, u) →
    exec (.stb n w ecc) s = .next (s.nibSeq n t)) ∧
  (∀ (n : NibId) (w : Word) (ecc : EccFind),
    s.nibMeets n w (opImm 0x18) .branch →
    ecc ≠ .badFetch →
    0xD < wRd w ∨ wRs w = 0 →
    (s.nib n).pc ≠ 0x1FFC →
    let e := s.nibNoted n ecc
    let x := e.nib n
    let a := brTarget x.pc w
    (¬ condHolds (wRd w) x.flags (x.reg (wRs w)) →
      exec (.br n w ecc) s = .next (e.nibEnd n (s.nib n) ((s.nib n).pc + 4) (some ⟨(s.nib n).pc, none⟩))) ∧
    (condHolds (wRd w) x.flags (x.reg (wRs w)) → a % 4 = 0 → a < 0x2000 →
      exec (.br n w ecc) s = .next (s.nibBranch n e a))) ∧
  (∀ (n : NibId) (w : Word) (ecc : EccFind),
    s.nibMeets n w opBal .branch →
    ecc ≠ .badFetch →
    (s.nib n).pc ≠ 0x1FFC →
    let e := s.nibNoted n ecc
    let a := brTarget (e.nib n).pc w
    a % 4 = 0 →
    a < 0x2000 →
    exec (.bal n w ecc) s = .next (
        s.nibBranch n (e.updNib n (fun x => x.setReg 15 (BitVec.ofNat 32 (x.pc + 8)))) a)) ∧
  (∀ (n : NibId) (w : Word) (ecc : EccFind),
    s.nibMeets n w (opImm 0x1A) .special →
    ecc ≠ .badFetch →
    ¬ (s.nib n).mode →
    let e := s.nibNoted n ecc
    let x := e.nib n
    let count := w.toNat / 2 ^ 11 % 2 ^ 14
    let start := x.pc + 4
    let last := 4 * wEnd w
    start ≤ last →
    (if bitOf w.toNat 25 then x.lc1 = 0 ∧ (x.lc0 = 0 ∨ (x.ls0 ≤ start ∧ last < x.le0)) else x.lc0 = 0 ∧ x.lc1 = 0) →
    let t := e.updNib n (fun y =>
      if bitOf w.toNat 25 then { y with lc1 := count, ls1 := start, le1 := last }
      else { y with lc0 := count, ls0 := start, le0 := last })
    (count ≠ 0 → (s.nib n).seqPc ≤ 0x1FFC → exec (.opLoop n w ecc) s = .next (s.nibSeq n t)) ∧
    (∀ a, count = 0 → (match x.slotOf with | some sl => sl.target.getD (last + 4) | none => last + 4) = a → a ≤ 0x1FFC →
      exec (.opLoop n w ecc) s = .next (t.nibEnd n (s.nib n) a .none))) ∧
  (∀ (n : NibId) (w : Word) (ecc : EccFind),
    s.nibMeets n w opLoopr .special →
    ecc ≠ .badFetch →
    ¬ (s.nib n).mode →
    let e := s.nibNoted n ecc
    let x := e.nib n
    let count := (x.reg (wRs w)).toNat
    let start := x.pc + 4
    let last := 4 * wEnd w
    start ≤ last →
    (if bitOf w.toNat 25 then x.lc1 = 0 ∧ (x.lc0 = 0 ∨ (x.ls0 ≤ start ∧ last < x.le0)) else x.lc0 = 0 ∧ x.lc1 = 0) →
    let t := e.updNib n (fun y =>
      if bitOf w.toNat 25 then { y with lc1 := count, ls1 := start, le1 := last }
      else { y with lc0 := count, ls0 := start, le0 := last })
    (count ≠ 0 → (s.nib n).seqPc ≤ 0x1FFC → exec (.loopr n w ecc) s = .next (s.nibSeq n t)) ∧
    (∀ a, count = 0 → (match x.slotOf with | some sl => sl.target.getD (last + 4) | none => last + 4) = a → a ≤ 0x1FFC →
      exec (.loopr n w ecc) s = .next (t.nibEnd n (s.nib n) a .none))) ∧
  (∀ (n : NibId) (w : Word) (ecc : EccFind),
    s.nibMeets n w (opSys 0 false false false 0) .plain →
    (s.nib n).seqPc ≤ 0x1FFC →
    ecc ≠ .badFetch →
    let e := s.nibNoted n ecc
    exec (.nop n w ecc) s = .next (s.nibSeq n e)) ∧
  (∀ (n : NibId) (w : Word) (ecc : EccFind),
    s.nibMeets n w (opSys 0x10 false true false 0) .branch →
    ecc ≠ .badFetch →
    (s.nib n).pc ≠ 0x1FFC →
    let e := s.nibNoted n ecc
    let a := ((e.nib n).reg (wRs w)).toNat
    a % 4 = 0 →
    a < 0x2000 →
    exec (.jr n w ecc) s = .next (s.nibBranch n e a)) ∧
  (∀ (n : NibId) (w : Word) (ecc : EccFind),
    s.nibMeets n w (opSys 0x11 true true false 0) .branch →
    ecc ≠ .badFetch →
    wRd w ≠ wRs w →
    (s.nib n).pc ≠ 0x1FFC →
    let e := s.nibNoted n ecc
    let a := ((e.nib n).reg (wRs w)).toNat
    a % 4 = 0 →
    a < 0x2000 →
    exec (.jalr n w ecc) s = .next (
        s.nibBranch n (e.updNib n (fun x => x.setReg (wRd w) (BitVec.ofNat 32 (x.pc + 8)))) a))

/-- Nib special registers, traps, waits and mailboxes: each command answers the next state of its own effect under conditions on the
state and operands alone. Commands: TRAP, MFS, MTS, ERET, WAIT, SYNC, MSET, MBX_GET, MBX_PUT. Rests on spec/06_nib_engines.md,
spec/07_nib_instruction_set.md; the model's own choices in it are those of log entries 35, 46, 65. -/
def Obligations.NibControlCompletes : Prop :=
  ∀ s : State,
  (∀ (n : NibId) (w : Word) (ecc : EccFind),
    s.nibMeets n w opTrap .special →
    (s.nib n).seqPc ≤ 0x1FFC →
    ecc ≠ .badFetch →
    exec (.trap n w ecc) s = .next ((s.nibNoted n ecc).nibFail n 6 (wImm w) 0)) ∧
  (∀ (n : NibId) (w : Word) (ecc : EccFind),
    s.nibMeets n w (opSys 8 true false true 0) .plain →
    (s.nib n).seqPc ≤ 0x1FFC →
    ecc ≠ .badFetch →
    srLegal (s.nib n) (wRt w) →
    let e := s.nibNoted n ecc
    (wRt w ≠ 0x0C →
      exec (.mfs n w ecc) s = .next (
          s.nibSeq n (e.updNib n (fun x => x.setReg (wRd w) (BitVec.ofNat 32 (x.special n (wRt w))))))) ∧
    (wRt w = 0x0C →
      exec (.mfs n w ecc) s = .next (
          s.nibSeq n (e.withFree (fun v t => t.updNib n (fun x => x.setReg (wRd w) (BitVec.ofNat 32 v))))))) ∧
  (∀ (n : NibId) (w : Word) (ecc : EccFind),
    s.nibMeets n w (opSys 9 false true true 0) .plain →
    (s.nib n).seqPc ≤ 0x1FFC →
    ecc ≠ .badFetch →
    srLegal (s.nib n) (wRt w) →
    let e := s.nibNoted n ecc
    let v := ((e.nib n).reg (wRs w)).toNat
    let addr := decide (wRt w = 5 ∨ wRt w = 6 ∨ wRt w = 8 ∨ wRt w = 9)
    ¬ (addr && decide (v % 4 ≠ 0)) →
    ¬ (addr && decide (0x2000 ≤ v)) →
    exec (.mts n w ecc) s = .next (s.nibSeq n (e.updNib n (fun x => x.setSpecial (wRt w) v)))) ∧
  (∀ (n : NibId) (w : Word) (ecc : EccFind),
    s.nibMeets n w (opSys 1 false false false 0) .special →
    ecc ≠ .badFetch →
    (s.nib n).mode →
    let e := s.nibNoted n ecc
    let x := e.nib n
    x.epc % 4 = 0 →
    x.epc ≤ 0x1FFC →
    exec (.eret n w ecc) s = .next (
        (e.updNib n (fun y => { y with mode := false, bank := false, ds := false })).nibEnd n (s.nib n) x.epc .none)) ∧
  (∀ (n : NibId) (w : Word) (ecc : EccFind),
    s.nibMeets n w (opSys 2 false false false 0) .special →
    (s.nib n).seqPc ≤ 0x1FFC →
    ecc ≠ .badFetch →
    let e := s.nibNoted n ecc
    let t := e.meetControl n
    let x := t.nib n
    (x.run = .haltedCmd → exec (.wait n w ecc) s = .next t) ∧
    (x.run ≠ .haltedCmd → firstTaken x.queue = none →
      exec (.wait n w ecc) s = .next (t.updNib n (fun y => { y with run := .inWait, wdogHit := false }))) ∧
    (∀ q, x.run ≠ .haltedCmd → firstTaken x.queue = some q → (q.line = none ∨ ¬ x.ie) →
      exec (.wait n w ecc) s = .next (s.nibSeq n t)) ∧
    (∀ q l, x.run ≠ .haltedCmd → firstTaken x.queue = some q → q.line = some l → x.ie →
      exec (.wait n w ecc) s = .next (t.nibFail n (0x10 + l) q.src 0))) ∧
  (∀ (n : NibId) (w : Word) (ecc : EccFind),
    s.nibMeets n w (opSys 3 false false false 0) .plain →
    (s.nib n).seqPc ≤ 0x1FFC →
    ecc ≠ .badFetch →
    let e := s.nibNoted n ecc
    exec (.sync n w ecc) s = .next (s.nibSeq n e)) ∧
  (∀ (n : NibId) (w : Word) (ecc : EccFind),
    s.nibMeets n w (opSys 4 false false false 7) .mset →
    (s.nib n).seqPc ≤ 0x1FFC →
    ecc ≠ .badFetch →
    (if (s.nib n).mode then bitOf w.toNat 2 else !bitOf w.toNat 1 && !bitOf w.toNat 2) →
    let e := s.nibNoted n ecc
    exec (.mset n w ecc) s = .next (
        s.nibSeq n (e.updNib n (fun x =>
          { x with mset := some ⟨x.pc, bitOf w.toNat 2, bitOf w.toNat 1, bitOf w.toNat 0⟩ })))) ∧
  (∀ (n : NibId) (w : Word) (ecc : EccFind),
    ((s.nib n).prog = .gateway → s.nibRuns n → exec (.mbxGet n w ecc) s = .next (s.gatewayTurn n ecc)) ∧
    ((s.nib n).prog ≠ .gateway →
      s.nibMeets n w (opSig 0x20 true false false) .plain →
      (s.nib n).seqPc ≤ 0x1FFC →
      ecc ≠ .badFetch →
      let e := s.nibNoted n ecc
      let t := e.meetControl n
      let x := t.nib n
      (x.run = .haltedCmd → exec (.mbxGet n w ecc) s = .next t) ∧
      (x.run ≠ .haltedCmd → firstTaken x.queue = none →
        exec (.mbxGet n w ecc) s = .next (t.updNib n (fun y => { y with run := .inGet, wdogHit := false }))) ∧
      (∀ q, x.run ≠ .haltedCmd → firstTaken x.queue = some q →
        exec (.mbxGet n w ecc) s = .next (
            s.nibSeq n ((t.updNib n (fun y => (y.takeEntry q).setReg (wRd w) (BitVec.ofNat 32 q.src))).msgTaken n.d q))))) ∧
  (∀ (n : NibId) (w : Word) (ecc : EccFind),
    s.nibMeets n w (opSig 0x21 false true true) .plain →
    (s.nib n).seqPc ≤ 0x1FFC →
    ecc ≠ .badFetch →
    let e := s.nibNoted n ecc
    let x := e.nib n
    let len := (x.reg (wRs w)).toNat
    let m := wRt w
    len ≤ 2048 →
    (tget {} x.boxes m).held ≠ 0 →
    exec (.mbxPut n w ecc) s = .next (
        s.nibSeq n ((e.updNib n (fun x => { x with
          boxes := tupd {} x.boxes m (fun b => { b with held := b.held - 1 }) })).sendItem n m (x.staged len))))

/-- Nib access to descriptors, scaling, the shadow store, sense samples, lanes and the CRC step: each command answers the next state of
its own effect under conditions on the state and operands alone. Commands: DSC_LD_U, DSC_LD_S, DSC_LD_P, DSC_LD_F, SCL_I, SCL_O,
DSC_ST_S, DSC_ST_P, DSC_ST_O, SNS_GET, TGET_L, TGET_H, OCMP_LVL, OCMP_PWM, CRC_STEP, LANE_LEVEL_APPLY, DSC_ST_X. Rests on
spec/07_nib_instruction_set.md, spec/08_signal_gateway.md; the model's own choices in it are those of log entry 65. -/
def Obligations.NibSignalsComplete : Prop :=
  ∀ s : State,
  (∀ (n : NibId) (w : Word) (ecc : EccFind),
    s.nibMeets n w (opSig 0 true true false) .plain →
    (s.nib n).seqPc ≤ 0x1FFC →
    ecc ≠ .badFetch →
    let e := s.nibNoted n ecc
    let i := ((e.nib n).reg (wRs w)).toNat
    i < 262144 →
    e.descOk n i →
    ∀ u, e.sigEcc n (descAddr i) i .read ecc = some u →
    u.descOk n i →
    let r := u.descRead n.d n.c.val i
    let v := r.1
    let ps := fieldPos (dMsb v) (dStart v) (dLen v)
    exec (.dscLdU n w ecc) s = .next (
        s.nibSeq n (r.2.updNib n (fun x =>
          let raw := gather x.payloadBit ps
          let x1 := { x with acc := BitVec.ofNat 64 (extend64 (dSigned v) (dLen v) raw) }
          (x1.setReg (wRd w) (BitVec.ofNat 32 (dFanout v))).setFlags { x.flags with
            z := decide (raw = 2 ^ dLen v - 1), c := !inBounds (8 * x.payloadLen) ps })))) ∧
  (∀ (n : NibId) (w : Word) (ecc : EccFind),
    s.nibMeets n w (opSig 1 true true false) .plain →
    (s.nib n).seqPc ≤ 0x1FFC →
    ecc ≠ .badFetch →
    let e := s.nibNoted n ecc
    let i := ((e.nib n).reg (wRs w)).toNat
    i < 262144 →
    e.descOk n i →
    e.sigOk n (shadowAddr i) 8 .read →
    ∀ u, e.sigEcc n (shadowAddr i) i .read ecc = some u →
    u.descOk n i →
    u.sigOk n (shadowAddr i) 8 .read →
    let r := u.descRead n.d n.c.val i
    let st := u.shadowStatus n.d i (dFresh r.1) (u.nib n).time
    exec (.dscLdS n w ecc) s = .next (
        s.nibSeq n (r.2.updNib n (fun x =>
          let x1 := { x with acc := BitVec.ofNat 64 (u.shadow n.d i) }
          (x1.setReg (wRd w) (BitVec.ofNat 32 (b2n st.1 + 2 * b2n st.2))).setFlags { x.flags with z := !st.1 || st.2 })))) ∧
  (∀ (n : NibId) (w : Word) (ecc : EccFind),
    s.nibMeets n w (opSig 2 true true true) .plain →
    (s.nib n).seqPc ≤ 0x1FFC →
    ecc ≠ .badFetch →
    let e := s.nibNoted n ecc
    let i := ((e.nib n).reg (wRs w)).toNat
    i < 65536 →
    e.sigOk n (pduAddr i) 32 .read →
    ∀ u, e.sigEcc n (pduAddr i) i .read ecc = some u →
    u.sigOk n (pduAddr i) 32 .read →
    exec (.dscLdP n w ecc) s = .next (
        s.nibSeq n (u.updNib n (fun x => x.setReg (wRd w)
          (BitVec.ofNat 32 (u.leAt n.d (pduAddr i + 4 * ((x.reg (wRt w)).toNat % 8)) 4)))))) ∧
  (∀ (n : NibId) (w : Word) (ecc : EccFind),
    s.nibMeets n w (opSig 3 true true true) .plain →
    (s.nib n).seqPc ≤ 0x1FFC →
    ecc ≠ .badFetch →
    let e := s.nibNoted n ecc
    let i := ((e.nib n).reg (wRs w)).toNat
    i < 262144 →
    e.sigOk n (fanAddr i) 16 .read →
    ∀ u, e.sigEcc n (fanAddr i) i .read ecc = some u →
    u.sigOk n (fanAddr i) 16 .read →
    exec (.dscLdF n w ecc) s = .next (
        s.nibSeq n (u.updNib n (fun x => x.setReg (wRd w)
          (BitVec.ofNat 32 (u.leAt n.d (fanAddr i + 4 * ((x.reg (wRt w)).toNat % 4)) 4)))))) ∧
  (∀ (n : NibId) (w : Word) (ecc : EccFind),
    s.nibMeets n w (opSig 8 false true false) .plain →
    (s.nib n).seqPc ≤ 0x1FFC →
    ecc ≠ .badFetch →
    let e := s.nibNoted n ecc
    let i := ((e.nib n).reg (wRs w)).toNat
    i < 262144 →
    e.descOk n i →
    ∀ u, e.sigEcc n (descAddr i) i .read ecc = some u →
    u.descOk n i →
    let r := u.descRead n.d n.c.val i
    exec (.sclI n w ecc) s = .next (
        s.nibSeq n (r.2.updNib n (fun x =>
          if dClass r.1 = 1 then
            let p := scaleIn r.1 x.acc.toInt
            let a := BitVec.ofInt 64 p.1
            let x1 := { x with acc := a }.clampS p.2
            x1.setFlags { x1.flags.accZnv a p.2 with c := false }
          else x.setFlags { x.flags.accZnv x.acc false with c := true })))) ∧
  (∀ (n : NibId) (w : Word) (ecc : EccFind),
    s.nibMeets n w (opSig 9 false true false) .plain →
    (s.nib n).seqPc ≤ 0x1FFC →
    ecc ≠ .badFetch →
    let e := s.nibNoted n ecc
    let i := ((e.nib n).reg (wRs w)).toNat
    i < 262144 →
    e.sigOk n (fanAddr i) 16 .read →
    ∀ u, e.sigEcc n (fanAddr i) i .read ecc = some u →
    u.sigOk n (fanAddr i) 16 .read →
    let p := scaleOut (u.fan n.d i) (u.nib n).acc.toInt
    exec (.sclO n w ecc) s = .next (
        s.nibSeq n (u.updNib n (fun x =>
          let a := BitVec.ofInt 64 p.1
          let x1 := { x with acc := a }.clampS p.2.1
          x1.setFlags { x1.flags.accZnv a p.2.1 with c := p.2.2 })))) ∧
  (∀ (n : NibId) (w : Word) (ecc : EccFind),
    s.nibMeets n w (opSig 0x10 false true false) .plain →
    (s.nib n).seqPc ≤ 0x1FFC →
    ecc ≠ .badFetch →
    let e := s.nibNoted n ecc
    let i := ((e.nib n).reg (wRs w)).toNat
    i < 262144 →
    e.sigOk n (shadowAddr i) 8 .write →
    ∀ u, e.sigEcc n (shadowAddr i) i .write ecc = some u →
    u.sigOk n (shadowAddr i) 8 .write →
    exec (.dscStS n w ecc) s = .next (s.nibSeq n (u.storeShadow n.d i (u.nib n).acc.toNat (u.nib n).time))) ∧
  (∀ (n : NibId) (w : Word) (ecc : EccFind),
    s.nibMeets n w (opSig 0x12 false true true) .plain →
    (s.nib n).seqPc ≤ 0x1FFC →
    ecc ≠ .badFetch →
    let e := s.nibNoted n ecc
    let i := ((e.nib n).reg (wRs w)).toNat
    i < 262144 →
    e.sigOk n (fanAddr i) 16 .read →
    ((e.nib n).reg (wRt w)).toNat < 2048 →
    ∀ u, e.sigEcc n (fanAddr i) i .read ecc = some u →
    u.sigOk n (fanAddr i) 16 .read →
    let f := u.fan n.d i
    let off := ((u.nib n).reg (wRt w)).toNat
    let ps := fieldPos (fMsb f) (fStart f) (fLen f)
    inBounds (8 * (2048 - off)) ps →
    exec (.dscStP n w ecc) s = .next (
        s.nibSeq n (u.updNib n (fun x => { x with staging := putField x.staging off (u.nib n).acc.toNat ps })))) ∧
  (∀ (n : NibId) (w : Word) (ecc : EccFind),
    s.nibMeets n w (opSig 0x13 false true true) .plain →
    (s.nib n).seqPc ≤ 0x1FFC →
    ecc ≠ .badFetch →
    let e := s.nibNoted n ecc
    let i := ((e.nib n).reg (wRs w)).toNat
    i < 262144 →
    e.sigOk n (fanAddr i) 16 .read →
    ((e.nib n).reg (wRt w)).toNat < 2048 →
    ∀ u, e.sigEcc n (fanAddr i) i .read ecc = some u →
    u.sigOk n (fanAddr i) 16 .read →
    let f := u.fan n.d i
    let off := ((u.nib n).reg (wRt w)).toNat
    let ps := fieldPos (fMsb f) (fStart f) (fLen f)
    inBounds (8 * (2048 - off)) ps →
    exec (.dscStO n w ecc) s = .next (
        s.nibSeq n (u.updNib n (fun x => { x with staging := putField x.staging off (2 ^ 64 - 1) ps })))) ∧
  (∀ (n : NibId) (w : Word) (ecc : EccFind),
    s.nibMeets n w opSns .plain →
    (s.nib n).seqPc ≤ 0x1FFC →
    ecc ≠ .badFetch →
    let e := s.nibNoted n ecc
    let x := e.nib n
    let src := wImm w % 2 ^ 14
    src ≠ 0x600 →
    x.subs.any (fun u => u.silent && decide (u.first ≤ src ∧ src ≤ u.last)) = true →
    exec (.snsGet n w ecc) s = .next (
        s.nibSeq n (e.updNib n (fun x => x.setReg (wRd w) ((((tget [] x.fifos src).getD (wImm w / 2 ^ 14) 0xFFFF#16).setWidth 32)))))) ∧
  (∀ (n : NibId) (w : Word) (ecc : EccFind),
    s.nibMeets n w (opTio 0 false) .plain →
    (s.nib n).seqPc ≤ 0x1FFC →
    ecc ≠ .badFetch →
    let e := s.nibNoted n ecc
    exec (.tgetL n w ecc) s = .next (s.nibSeq n (e.updNib n (fun x => x.setReg (wRd w) (BitVec.ofNat 32 x.time))))) ∧
  (∀ (n : NibId) (w : Word) (ecc : EccFind),
    s.nibMeets n w (opTio 1 false) .plain →
    (s.nib n).seqPc ≤ 0x1FFC →
    ecc ≠ .badFetch →
    let e := s.nibNoted n ecc
    exec (.tgetH n w ecc) s = .next (
        s.nibSeq n (e.updNib n (fun x => x.setReg (wRd w) (BitVec.ofNat 32 (x.time / 2 ^ 32)))))) ∧
  (∀ (n : NibId) (w : Word) (ecc : EccFind),
    s.nibMeets n w (opTio 0x10 true) .plain →
    (s.nib n).seqPc ≤ 0x1FFC →
    ecc ≠ .badFetch →
    let e := s.nibNoted n ecc
    let x := e.nib n
    let i := (x.reg (wRd w)).toNat
    e.ownsLane n.d n.c.val i →
    exec (.ocmpLvl n w ecc) s = .next (
        s.nibSeq n (e.laneCmd n i (.level (x.reg (wRs w)).toNat.bodd (x.time + (x.reg (wRt w)).toNat))))) ∧
  (∀ (n : NibId) (w : Word) (ecc : EccFind),
    s.nibMeets n w (opTio 0x11 true) .plain →
    (s.nib n).seqPc ≤ 0x1FFC →
    ecc ≠ .badFetch →
    let e := s.nibNoted n ecc
    let x := e.nib n
    let i := (x.reg (wRd w)).toNat
    let p := (x.reg (wRs w)).toNat
    let on := (x.reg (wRt w)).toNat
    e.ownsLane n.d n.c.val i →
    p % 2 = 0 →
    on % 2 = 0 →
    on ≤ p →
    laneMinPeriod i ≤ p →
    p ≤ 1000000000 →
    exec (.ocmpPwm n w ecc) s = .next (s.nibSeq n (e.laneCmd n i (.pwm p on (e.ns n.d))))) ∧
  (∀ (n : NibId) (w : Word) (ecc : EccFind),
    let width := wFn w / 4 % 4
    let poly := nibPoly width (wFlags w % 4)
    s.nibMeets n w opCrc .plain →
    (s.nib n).seqPc ≤ 0x1FFC →
    ecc ≠ .badFetch →
    wFn w < 16 →
    poly.isSome →
    let e := s.nibNoted n ecc
    exec (.crcStep n w ecc) s = .next (
        s.nibSeq n (e.updNib n (fun x =>
          let data := (toLE 4 (x.reg (wRs w)).toNat).take (wFn w % 4 + 1)
          x.setReg (wRd w) (BitVec.ofNat 32
          (crcStep (8 * 2 ^ width) (poly.getD 0) (decide (wFlags w / 4 % 2 = 1)) (x.reg (wRd w)).toNat data)))))) ∧
  (∀ (d : Die) (lane : Fin 96),
    ∀ on t, (s.lane d lane.val).pend = some (.level on t) →
    let l := s.lane d lane.val
    s.alive d →
    ¬ l.pwm →
    t ≤ s.ns d →
    let s1 := s.updLane d lane.val (fun l => { l with pend := none })
    exec (.laneLevelApply d lane) s = .next (
        if !on && l.level && decide (lane.val < 80) then
          s1.switchOff d lane.val
        else
          (s1.updLane d lane.val (fun l => { l with level := on })).settlePin lane.val)) ∧
  (∀ (n : NibId) (w : Word) (ecc : EccFind),
    s.nibMeets n w (opSig 0x11 false true false) .plain →
    (s.nib n).seqPc ≤ 0x1FFC →
    ecc ≠ .badFetch →
    let e := s.nibNoted n ecc
    let i := ((e.nib n).reg (wRs w)).toNat
    i < 262144 →
    e.sigOk n (shadowAddr i) 8 .write →
    ∀ u, e.sigEcc n (shadowAddr i) i .write ecc = some u →
    u.sigOk n (shadowAddr i) 8 .write →
    exec (.dscStX n w ecc) s = .next (s.nibSeq n (u.dropShadow n.d i)))

/-- The signal gateway: shadow store, mailboxes, descriptor caches and mirrored copies: each command answers the next state of its own
effect under conditions on the state and operands alone. Commands: SHADOW_AGEING_PASS, OTAIL_WRITE, OUTBOUND_ITEM, IHEAD_WRITE,
ECMD_READ, ECMD_WRITE, INVALIDATE_ONE, INVALIDATE_ALL, INVALIDATION_COMPLETE, GENERATION_SWEEP, MIRROR_SCRUB_BLOCK,
SIGNAL_STORE_COPY, SIGNAL_STORE_ECC_ERROR, TIDX_WRITE. Rests on spec/08_signal_gateway.md; the model's own choices in it are those
of log entry 3. -/
def Obligations.SignalGatewayCompletes : Prop :=
  ∀ s : State,
  (∀ (d : Die),
    s.alive d →
    exec (.shadowAgeingPass d) s = .next (
        s.updGw d (fun g => { g with tags := g.tags.map (fun e =>
          (e.1, if bitOf e.2 31 ∧ 8192000 < (stampUs (s.ns d) + 2 ^ 30 - e.2 % 2 ^ 30) % 2 ^ 30 then withBit e.2 30 true
          else e.2)) }))) ∧
  (∀ (d : Die) (who : Initiator) (p : Fin 32) (v : Word),
    s.alive d →
    isPart who p.val →
    exec (.otailWrite d who p v) s = .next (
        if 2 ^ s.fld d (SGW_PpGEOM p.val) SGW_PpGEOM__OSLOTS < (v - s.rd d (SGW_PpOHEAD p.val)).toNat then
          s.setF d (SGW_PpSTAT p.val) SGW_PpSTAT__BADOUT 1
        else
          s.wr d (SGW_PpOTAIL p.val) v)) ∧
  (∀ (p : Fin 32),
    let d := s.homeDie p.val
    let i := (s.rd d (SGW_PpOHEAD p.val)).toNat
    s.alive d →
    s.bit d (SGW_PpGEOM p.val) SGW_PpGEOM__USED →
    s.rd d (SGW_PpOTAIL p.val) ≠ s.rd d (SGW_PpOHEAD p.val) →
    ¬ ((tget none (s.vol.get d).gw.taking p.val).isSome) →
    let slot := 2 ^ s.fld d (SGW_PpGEOM p.val) SGW_PpGEOM__OSLOT
    let a := s.rd64 d (SGW_PpOBASEL p.val) (SGW_PpOBASEH p.val) + i % 2 ^ s.fld d (SGW_PpGEOM p.val) SGW_PpGEOM__OSLOTS * slot
    let len := 16 + s.leAt d a 2
    let seq := s.leAt d (a + 4) 4
    let next := BitVec.ofNat 32 (i + 1)
    let s1 := (s.wr d (SGW_PpOHEAD p.val) next).fire d (0x1B0 + p.val)
    let s1 := if s1.joint d then (s1.wr d.other (SGW_PpOHEAD p.val) next).fire d.other (0x1B0 + p.val) else s1
    let both := fun (st : State) (f : State → Die → State) =>
      let st1 := f st d
      if s.joint d then f st1 d.other else st1
    let age := (seq + 2 ^ 32 - (s.rd d (SGW_PpSEQ p.val)).toNat) % 2 ^ 32
    exec (.outboundItem p) s = .next (
        if slot < len then
          s1.setF d (SGW_PpSTAT p.val) SGW_PpSTAT__BADOUT 1
        else if age = 0 ∨ 2 ^ 31 ≤ age then
          both s1 (fun st e => st.addSat e (SGW_PpSTAT p.val) SGW_PpSTAT__DUP 1)
        else
          let bytes := s.bytesAt d a len
          let named := (List.range 8).filter (fun c => (s.cl d c).nibs.any (fun e =>
            decide (e.2.prog ≠ .none) && ((e.2.subOf (0x200 + p.val)).isSome)))
          let s2 := both s1 (fun st e =>
            let st1 := st.wr e (SGW_PpSEQ p.val) (BitVec.ofNat 32 seq)
            let st2 := named.foldl (fun q c => q.streamIn e c (0x200 + p.val) (st.ns e) bytes false) st1
            if named.isEmpty then st2 else st2.updGw e (fun g => { g with taking := tset none g.taking p.val (some seq) }))
          s2.plNotice d 1 2 p.val)) ∧
  (∀ (d : Die) (who : Initiator) (p : Fin 32) (v : Word),
    s.alive d →
    isPart who p.val →
    let passed := fun (i : InItem) => decide (i.part = p.val ∧ (v.toNat + 2 ^ 32 - 1 - i.index % 2 ^ 32) % 2 ^ 32 < 2 ^ 31)
    let items := ((s.vol.get 0).gw.inItems ++ (s.vol.get 1).gw.inItems).dedup
    let go := fun (st : State) (e : Die) =>
      if !st.alive e then st else
      (items.filter passed).foldl (fun q i => q.creditBack e i.cluster i.nib i.box)
        ((st.wr e (SGW_PpIHEAD p.val) v).updGw e (fun g => { g with inItems := g.inItems.filter (fun i => !passed i) }))
    exec (.iheadWrite d who p v) s = .next (go (go s d) d.other)) ∧
  (∀ (d : Die) (who : Initiator) (table : BitVec 2) (index : BitVec 18),
    let t := table.toNat
    s.sgwOk d who →
    s.fld d SGW_ERES SGW_ERES__STATE ≠ 1 →
    t ≠ 3 →
    index.toNat < tableCount t →
    exec (.ecmdRead d who table index) s = .next (
        ((List.range (tableSize t / 4)).foldl (fun st i =>
          st.wr d (SGW_EBUFi i) (BitVec.ofNat 32 (s.leAt d (tableAddr t index.toNat + 4 * i) 4))) s).ecmdDone d 2 0 0)) ∧
  (∀ (d : Die) (who : Initiator) (table : BitVec 2) (index : BitVec 18) (mirror clear : Bool),
    s.sgwOk d who →
    s.fld d SGW_ERES SGW_ERES__STATE ≠ 1 →
    exec (.ecmdWrite d who table index mirror clear) s = .next (s.ecmdWrite d table.toNat index.toNat mirror clear)) ∧
  (∀ (d : Die) (who : Initiator) (index : BitVec 18) (mirror : Bool),
    s.sgwOk d who →
    exec (.invalidateOne d who index mirror) s = .next (s.invalidate d (some index.toNat) mirror)) ∧
  (∀ (d : Die) (who : Initiator) (mirror : Bool),
    s.sgwOk d who →
    exec (.invalidateAll d who mirror) s = .next (s.invalidate d none mirror)) ∧
  (∀ (d : Die),
    s.alive d →
    s.fld d SGW_INVRES SGW_INVRES__STATE = 1 →
    exec (.invalidationComplete d) s = .next (s.setF d SGW_INVRES SGW_INVRES__STATE 2)) ∧
  (∀ (d : Die) (c : Fin 8),
    s.alive d →
    let old := fun (l : Nat × Option CacheLine) => match l.2 with
      | some y => decide (dGen y.data ≠ dGen (s.desc d y.index))
      | none => false
    let n := ((s.cl d c.val).cache.filter old).length
    exec (.generationSweep d c) s = .next (
        (s.updCl d c.val (fun x => { x with cache := x.cache.filter (fun l => !old l) })).addSat d SGW_EVICT SGW_EVICT__COUNT n)) ∧
  (∀ (table : Fin 3) (block : Fin 1024),
    let t := table.val
    let per := 4096 / tableSize t
    exec (.mirrorScrubBlock table block) s = .next (
        if !(s.alive 0 && s.joint 0) then
          let stop := fun (st : State) (d : Die) => if st.alive d then st.setF d SGW_STAT SGW_STAT__SCRUB 2 else st
          stop (stop s 0) 1
        else if ((s.vol.get 0).mirror ++ (s.vol.get 1).mirror).any (fun m => decide (portTable? m.port = some t ∧ m.index / per = block.val)) then
          s
        else
          let s0 := ((s.setBoth SGW_STAT SGW_STAT__SCRUB 1).plNotice 0 0 11 block.val).plNotice 1 0 11 block.val
          let width := if t = 2 then 20 else 16
          ((List.range per).map (· + block.val * per)).foldl (fun st i =>
            if tableCount t ≤ i ∨ s.leAt 0 (tableAddr t i) width = s.leAt 1 (tableAddr t i) width then st
            else
              let mark := fun (q : State) (d : Die) =>
                (q.addSat d SGW_MIRCNT SGW_MIRCNT__COUNT 1).wr d SGW_MIRLAST (BitVec.ofNat 32 (i + t * 2 ^ 30))
              (mark (mark st 0) 1).recordBoth 0x0900 0x06 (i + t * 2 ^ 30) 0 0) s0)) ∧
  (∀ (d : Die),
    s.copyDue d →
    s.linkFlows →
    let s1 := (s.plNotice d.other 0 12 0).copyRange d.other d 0x30000000 0x30C00000
    let s2 := s1.updGw d (fun g => { g with tags := (s.vol.get d.other).gw.tags, copied := true })
    let s3 := (List.range 8).foldl (fun st c =>
      if (s.cl d c).nibs.any (fun e => decide (e.2.prog = .gateway)) then
        st.copyRange d.other d (poolAddr c 0) (poolAddr c 0x40000) else st) s2
    let o := (s.vol.get d.other).swc
    let s4 := s3.updVol d (fun v => { v with swc := { v.swc with fdb := o.fdb, vlan := o.vlan, vlanRec := o.vlanRec } })
    exec (.signalStoreCopy d) s = .next (s4.wr d SWC_FDBCNT (s.rd d.other SWC_FDBCNT))) ∧
  (∀ (d : Die) (addr : BitVec 32) (corrected : Bool),
    let a := addr.toNat / 8 * 8
    s.alive d →
    0x30000000 ≤ a →
    a < 0x30C00000 →
    exec (.signalStoreEccError d addr corrected) s = .next (
        if corrected then
          s.addSat d SGW_ECC SGW_ECC__CORR 1
        else if s.joint d then
          s.storeRepair d a
        else
          (s.reply (.errorBytes (List.replicate 8 0xFF#8))).recordBoth 0x0900 0x08 3 0 a)) ∧
  (∀ (d : Die) (who : Initiator) (index : BitVec 18),
    s.sgwOk d who →
    exec (.tidxWrite d who index) s = .next (
        ((s.wr d SGW_TIDX (index.setWidth 32)).wr d SGW_TAG (BitVec.ofNat 32 (s.tag d index.toNat))).wr64 d SGW_TVALL SGW_TVALH
          (s.shadow d index.toNat)))

/-- CAN controllers, their selectors and their shadows: each command answers the next state of its own effect under conditions on the
state and operands alone. Commands: CAN_FRAME_RECEIVE, SHADOW_FRAME_TIMEOUT, FIELD_BUS_STEER_REQUEST, SELECTOR_CHANGE,
CONTROLLER_SILENT, CAN_FRAME_SENT, BUS_OFF, BUS_OFF_RECOVERY, CAN_WAKE_PATTERN, CAN_RESTART, CAN_STANDBY, CAN_NORMAL,
CAN_INTEGRATED. Rests on spec/09_field_buses_and_sense.md; the model's own choices in it are those of log entry 40. -/
def Obligations.CanCompletes : Prop :=
  ∀ s : State,
  (∀ (d : Die) (c : Fin 16) (own good remote : Bool) (idw ctl af : BitVec 32) (data : List Byte) (stamp : BitVec 64),
    exec (.canFrameReceive d c own good remote idw ctl af data stamp) s = .next (
        s.canReceive d c own good remote idw.toNat ctl.toNat af.toNat data stamp.toNat)) ∧
  (∀ (d : Die) (c : Fin 16) (part : Bool),
    (s.fbSel c).die ≠ d →
    ∀ x u1, (if part then (s.fb d c).partQ else (s.fb d c).nibQ) = x :: u1 →
    let s1 := s.updFb d c (fun y => if part then { y with partQ := y.partQ.drop 1 } else { y with nibQ := y.nibQ.drop 1 })
    exec (.shadowFrameTimeout d c part) s = .next ((s1.fbDrop d c).fbCredit d x.credit)) ∧
  (∀ (i : Fin 28) (sender names : Die) (count : BitVec 16),
    exec (.fieldBusSteerRequest i sender names count) s = .next (s.fieldRequest i.val sender names count.toNat)) ∧
  (∀ (i : Fin 28),
    ∀ d, (s.fbSel i).pend = some d →
    exec (.selectorChange i) s = .next ((if i.val < 16 then s.canForward i d else s).fbSwitch i d)) ∧
  (∀ (i : Fin 28),
    let d := (s.fbSel i).die
    ¬ (s.alive d && s.clocked d 15) →
    exec (.controllerSilent i) s = .next (s.fbSwitch i d.other)) ∧
  (∀ (c : Fin 16) (good : Bool),
    let d := (s.fbSel c).die
    s.alive d →
    s.canOn d c →
    ∀ x, bestItem ((s.fb d c).nibQ ++ (s.fb d c).partQ) = some x →
    exec (.canFrameSent c good) s = .next (
        if !good then
          (s.addSat d (FBB_CcERR c) ⟨0, 32⟩ 1).canResult c true false
        else
          let s1 := s.updFb d c (fun y => y.unqueue x)
          ((s1.addSat d (FBB_CcTX c) ⟨0, 32⟩ 1).fbCredit d x.credit).canResult c true true)) ∧
  (∀ (c : Fin 16),
    let d := (s.fbSel c).die
    s.canOn d c →
    exec (.busOff c) s = .next (
        ((s.setCan c 4 255 (s.fld d (FBB_CcSTAT c) FBB_CcSTAT__REC)).addSat d (FBB_CcERR c) ⟨0, 32⟩ 1).setAlive (FBB_CcEVT c)
          FBB_CcEVT__BUSOFF 1)) ∧
  (∀ (c : Fin 16),
    let d := (s.fbSel c).die
    let st := s.fld d (FBB_CcSTAT c) FBB_CcSTAT__STATE
    let auto := s.bit d (FBB_CcCFG c) FBB_CcCFG__AUTOREC
    exec (.busOffRecovery c) s = .next (
        if st = 4 then
          if auto ∧ s.fld d (FBB_CcCFG c) FBB_CcCFG__RECOV = 0 then
            s.canRejoin c
          else
            s.setAlive (FBB_CcSTAT c) FBB_CcSTAT__STATE 5
        else if st = 5 ∧ auto then
          s.canRejoin c
        else
          s)) ∧
  (∀ (c : Fin 16),
    let d := s.anyDie
    let s1 := if s.fld d (FBB_CcSTAT c) FBB_CcSTAT__STATE = 6 ∧ s.bit d (FBB_CcCFG c) FBB_CcCFG__WAKEEN then
        s.setAlive (FBB_CcEVT c) FBB_CcEVT__WAKE 1 else s
    exec (.canWakePattern c) s = .next (
        match s.field.dwake.findIdx? (fun k => decide (k = c.val)) with
        | some r =>
            if s.fld 0 CIS_STAT CIS_STAT__STATE = 3 then
              s1
            else
              s1.latchWake (2 ^ (2 + r))
        | none =>
            s1)) ∧
  (∀ (d : Die) (who : Initiator) (c : Fin 16) (confirm : BitVec 8),
    s.alive d →
    s.mayField d who c →
    confirm = 0x5A#8 →
    s.fld d (FBB_CcSTAT c) FBB_CcSTAT__STATE = 5 →
    exec (.canRestart d who c confirm) s = .next (s.canRejoin c)) ∧
  (∀ (d : Die) (who : Initiator) (c : Fin 16) (confirm : BitVec 8),
    s.alive d →
    s.mayField d who c →
    confirm = 0x5A#8 →
    s.fld d (FBB_CcSTAT c) FBB_CcSTAT__STATE ≠ 0 →
    exec (.canStandby d who c confirm) s = .next (s.setAlive (FBB_CcSTAT c) FBB_CcSTAT__STATE 6)) ∧
  (∀ (d : Die) (who : Initiator) (c : Fin 16) (confirm : BitVec 8),
    s.alive d →
    s.mayField d who c →
    confirm = 0x5A#8 →
    s.fld d (FBB_CcSTAT c) FBB_CcSTAT__STATE = 6 →
    exec (.canNormal d who c confirm) s = .next (s.setAlive (FBB_CcSTAT c) FBB_CcSTAT__STATE 1)) ∧
  (∀ (d : Die) (c : Fin 16),
    s.alive d →
    s.fld d (FBB_CcSTAT c.val) FBB_CcSTAT__STATE = 1 →
    let e := (s.fbSel c.val).die
    exec (.canIntegrated d c) s = .next (
        if e ≠ d ∧ s.alive e = true ∧ 2 ≤ s.fld e (FBB_CcSTAT c.val) FBB_CcSTAT__STATE then
          s.wr d (FBB_CcSTAT c.val) (s.rd e (FBB_CcSTAT c.val))
        else
          s.setF d (FBB_CcSTAT c.val) FBB_CcSTAT__STATE 2))

/-- LIN controllers, satellite buses and sense inputs: each command answers the next state of its own effect under conditions on the
state and operands alone. Commands: LIN_RUN_RANGE, LIN_GO_TO_SLEEP, LIN_SEND_WAKEUP, LIN_SLOT_START, LIN_FRAME_RECEIVE, LIN_WAKE,
SATELLITE_ACCESS, SATELLITE_BUS_GRANT, SATELLITE_BUS_TIMEOUT, SATELLITE_TRANSACTION_END, SATELLITE_LOCK_TIMEOUT, SENSE_SAMPLE,
SENSE_DEBOUNCE_EXPIRY. Rests on spec/09_field_buses_and_sense.md; the model's own choices in it are those of log entries 40, 42. -/
def Obligations.LinSatelliteAndSenseComplete : Prop :=
  ∀ s : State,
  (∀ (d : Die) (who : Initiator) (l : Fin 12) (first : BitVec 6) (count : BitVec 7) (confirm : BitVec 8),
    let i := 16 + l.val
    let at0 := (s.ns d + 100000 + 999999) / 1000000 * 1000000
    s.alive d →
    s.mayField d who i →
    confirm = 0x5A#8 →
    s.bit d (FBB_CcCFG i) FBB_LlCFG__MASTER →
    1 ≤ count.toNat →
    first.toNat + count.toNat ≤ 64 →
    exec (.linRunRange d who l first count confirm) s = .next (
        s.onBoth (fun st e => st.updFb e i (fun x => { x with
          range := some (first.toNat, count.toNat), nextAt := if x.nextAt.isSome then x.nextAt else some at0 })))) ∧
  (∀ (d : Die) (who : Initiator) (l : Fin 12) (confirm : BitVec 8),
    let i := 16 + l.val
    s.alive d →
    s.mayField d who i →
    confirm = 0x5A#8 →
    s.bit d (FBB_CcCFG i) FBB_LlCFG__MASTER →
    s.fld d (FBB_CcSTAT i) FBB_LlSTAT__STATE = 2 →
    exec (.linGoToSleep d who l confirm) s = .next (
        (s.setAlive (FBB_CcSTAT i) FBB_LlSTAT__STATE 1).onBoth (fun st e => st.addSat e (FBB_CcTX i) ⟨0, 32⟩ 1))) ∧
  (∀ (d : Die) (who : Initiator) (l : Fin 12) (confirm : BitVec 8),
    let i := 16 + l.val
    s.alive d →
    s.mayField d who i →
    confirm = 0x5A#8 →
    s.fld d (FBB_CcSTAT i) FBB_LlSTAT__STATE ≠ 0 →
    exec (.linSendWakeup d who l confirm) s = .next (s.setAlive (FBB_CcSTAT i) FBB_LlSTAT__STATE 2)) ∧
  (∀ (l : Fin 12),
    let i := 16 + l.val
    exec (.linSlotStart l) s = .next (
        s.onBoth (fun st e =>
          if st.bit e (FBB_CcCFG i) FBB_LlCFG__MASTER ∧ st.fld e (FBB_CcSTAT i) FBB_LlSTAT__STATE = 2 then (st.linSlot e i).linBegin e i else st))) ∧
  (∀ (d : Die) (l : Fin 12) (ownHeader ownResponse good : Bool) (ident : BitVec 6) (data : List Byte) (stamp : BitVec 64),
    exec (.linFrameReceive d l ownHeader ownResponse good ident data stamp) s = .next (
        s.linReceive d (16 + l.val) ownHeader ownResponse good ident.toNat (data.take 9) stamp.toNat)) ∧
  (∀ (l : Fin 12),
    let i := 16 + l.val
    s.fld s.anyDie (FBB_CcSTAT i) FBB_LlSTAT__STATE = 1 →
    exec (.linWake l) s = .next (
        (s.setAlive (FBB_CcEVT i) FBB_LlEVT__WAKE 1).setAlive (FBB_CcSTAT i) FBB_LlSTAT__STATE 2)) ∧
  (∀ (d : Die) (who : Initiator) (addr : BitVec 40) (n : Fin 9) (write : Bool) (lock : LockOp) (data : BitVec 32),
    let o := addr.toNat - 0x1000000000
    let b := o / 0x1000000
    let c := o % 0x1000000 / 0x400000
    let pr := s.rd d (FBB_SATbPRc b c)
    let w := 2 ^ FBB_SATbPRc__WSIZE.get pr
    let a := o % 0x400000 / w
    let x := s.sat b
    let reads := !write || decide (lock ≠ .none)
    let named := match lock with
      | .atomic fn => (amo (8 * w) fn.toNat 0 0).isSome
      | _ => true
    exec (.satelliteAccess d who addr n write lock data) s = .next (
        if !s.alive d || decide (addr.toNat < 0x1000000000 ∨ 4 ≤ b) then
          s.reply (satError reads n.val)
        else if !s.ownsSat d who (satSelect addr.toNat) || !s.bit d (FBB_SATbCFG b) FBB_SATbCFG__USED || !bitOf pr.toNat 25 then
          s.satFail d b reads n.val
        else if n.val ≠ w ∨ o % w ≠ 0 ∨ 256 ^ FBB_SATbPRc__ADDRB.get pr ≤ a ∨ named = false then
          s.reply (satError reads n.val)
        else if x.forced then
          (s.updSat b (fun x => { x with forced := false })).reply (satError reads n.val)
        else if lock = .conditional ∧ x.lockedBy d who.num c a = false then
          s.reply (.value 1)
        else
          s.updSat b (fun x => { x with
            waiting := x.waiting ++ [⟨d, who.num, c, decide (lock = .conditional) || (write && decide (lock = .none)), a, toLE w data.toNat, lock,
            none⟩] }))) ∧
  (∀ (b : Fin 4),
    let x := s.sat b
    let may := x.waiting.filter (fun a => match x.lock with
      | some l => decide (a.die = l.die ∧ a.who = l.who)
      | none => true)
    let first := match may.find? (fun a => decide (a.die ≠ x.last)) with
      | some a => some a
      | none => may.head?
    ¬ x.running.isSome →
    ∀ a, first = some a →
    exec (.satelliteBusGrant b) s = .next (
        (s.updSat b (fun x => { x with waiting := x.waiting.erase a, running := some a, last := a.die })).reply
          (.transaction (a.sent (s.rd a.die (FBB_SATbPRc b a.cs)))))) ∧
  (∀ (b : Fin 4) (d : Die),
    ∀ a, (s.sat b).waiting.find? (fun a => decide (a.die = d)) = some a →
    exec (.satelliteBusTimeout b d) s = .next (
        (s.updSat b (fun x => { x with waiting := x.waiting.erase a })).satFail d b a.reads a.data.length)) ∧
  (∀ (b : Fin 4) (data : List Byte) (crc : BitVec 8),
    ∀ a, (s.sat b).running = some a →
    let pr := s.rd a.die (FBB_SATbPRc b a.cs)
    let bad := !a.write && (decide (data.length ≠ a.data.length) ||
      (bitOf pr.toNat 24 && decide (satCrc (satBytes pr a ++ data) ≠ crc.toNat)))
    let v := leBytes (if bitOf pr.toNat 26 then data else data.reverse) 0 data.length
    let s1 := s.updSat b (fun x => { x with running := none })
    exec (.satelliteTransactionEnd b data crc) s = .next (
        if bad then
          s1.satFail a.die b a.reads a.data.length
        else
          match a.lock, a.got with
          | .none, _ =>
              s1.reply (if a.write then .none else .value v)
          | .reserved, _ =>
              (s1.satLock b (some a)).reply (.value v)
          | .conditional, _ =>
              (s1.satLock b none).reply (.value 0)
          | .atomic _, some old =>
              s1.reply (.value old)
          | .atomic _, none =>
              let m := a.modify v
              (s.updSat b (fun x => { x with running := some m })).reply (.transaction (m.sent pr)))) ∧
  (∀ (b : Fin 4) (age : BitVec 16),
    ∀ l, (s.sat b).lock = some l →
    let held := fun (a : SatAcc) => decide (a.die = l.die ∧ a.who = l.who)
    let x := s.sat b
    let pend := (x.running.toList ++ x.waiting).find? held
    let s1 := s.satLock b none
    let s2 := match pend with
      | some a => (s1.updSat b (fun x => { x with
          running := if x.running = some a then none else x.running, waiting := x.waiting.erase a })).reply
            (satError a.reads a.data.length)
      | none => s1.updSat b (fun x => { x with forced := true })
    let s3 := s2.onBoth (fun st e => (st.addSat e (FBB_SATbERR b) FBB_SATbERR__LOCKTO 1).fire e (0xB8 + b))
    exec (.satelliteLockTimeout b age) s = .next (s3.recordBoth 0x0A00 0x15 (4 * b + l.cs) 0 age.toNat)) ∧
  (∀ (n : Fin 96) (mv : BitVec 16) (stamp : BitVec 64),
    exec (.senseSample n mv stamp) s = .next (
        s.onBoth (fun st e =>
          if st.fld e (FBB_SNSCFGn n) FBB_SNSCFGn__MODE = 0 then st
          else (List.range 8).foldl (fun q c => q.streamIn e c (0x20 + n) ((stamp.toNat + s.ns e + 2 ^ 64 - s.ns 0) % 2 ^ 64) (toLE 2 mv.toNat)
          false)
          (st.wr e (FBB_SNSVn n) (BitVec.ofNat 32 mv.toNat))))) ∧
  (∀ (n : Fin 96) (high : Bool),
    let i := n.val / 32
    let f : Fld := ⟨n.val % 32, 1⟩
    exec (.senseDebounceExpiry n high) s = .next (
        s.onBoth (fun st e =>
          let v := (st.rd e (FBB_SNSVn n)).toNat
          let there := if high then decide (st.fld e (FBB_SNSTHRn n) FBB_SNSTHRn__HI ≤ v)
                else decide (v ≤ st.fld e (FBB_SNSTHRn n) FBB_SNSTHRn__LO)
          if st.fld e (FBB_SNSCFGn n) FBB_SNSCFGn__MODE ≠ 0 ∧ there = true ∧ st.fld e (FBB_SNSSTi i) f ≠ b2n high then
          (st.setF e (FBB_SNSSTi i) f (b2n high)).setF e (FBB_SNSCHGi i) f 1
          else st)))

/-- Ethernet ports: frames, pause, selectors, collisions, energy saving: each command answers the next state of its own effect under
conditions on the state and operands alone. Commands: MAC_FRAME_RECEIVE, PAUSE_RECEIVE, PAUSE_EXPIRY, PAUSE_REPEAT, LINK_CHANGE,
PORT_STEER_COMMAND, PORT_SELECTOR_CHANGE, MAC_SILENT, MAC_TRANSMIT, TRANSMIT_ECHO, ECHO_TIMEOUT, COLLISION, FORCED_COLLISION,
BEACON_LOSS, BEACON, LPI_ENTRY, LPI_WAKE_END, EEEWAKE_WRITE, VERIFY_TIMEOUT, MAC_RETRAIN, MAC_REPEAT_VERIFY, RECEIVE_LPI. Rests on
spec/10_ethernet_ports.md; the model's own choices in it are those of log entries 44, 50. -/
def Obligations.EthernetPortsComplete : Prop :=
  ∀ s : State,
  (∀ (d : Die) (p : Fin 24) (bytes : List Byte) (sym reasm : Bool) (frags : BitVec 8) (stamp : BitVec 64),
    exec (.macFrameReceive d p bytes sym reasm frags stamp) s = .next (
        s.macReceive d p stamp.toNat bytes sym reasm frags.toNat)) ∧
  (∀ (d : Die) (p : Fin 24) (src : BitVec 48) (pfc : Bool) (enable : BitVec 8) (times : List (BitVec 16)) (stamp : BitVec 64),
    let t := fun i => toBE 2 (times.getD i 0#16).toNat
    let l := padded (toBE 6 0x0180C2000001 ++ toBE 6 src.toNat ++ toBE 2 0x8808 ++
      (if pfc then toBE 2 0x0101 ++ toBE 2 enable.toNat ++ (List.range 8).flatMap t else toBE 2 1 ++ t 0))
    exec (.pauseReceive d p src pfc enable times stamp) s = .next (
        s.macReceive d p stamp.toNat (l ++ toLE 4 (crc32 l)) false false 0)) ∧
  (∀ (d : Die) (p : Fin 24) (cls : Fin 8),
    ¬ (s.paused d p cls) →
    exec (.pauseExpiry d p cls) s = .next (
        (s.updMac d p (fun m => { m with pauseEnd := terase m.pauseEnd cls })).showPause d p)) ∧
  (∀ (d : Die) (p : Fin 24),
    let bits := s.fld d (SWC_PpOCC p) SWC_PpOCC__XOFF
    bits ≠ 0 →
    s.fld d (MAC_CFG p) MAC_CFG__FCMODE ≠ 0 →
    ¬ ((s.mac d p).ctl.contains (bits, true)) →
    exec (.pauseRepeat d p) s = .next (s.updMac d p (fun m => { m with ctl := m.ctl ++ [(bits, true)] }))) ∧
  (∀ (p : Fin 24) (up : Bool) (sqi : BitVec 3),
    ¬ (up ∧ !s.portOn p) →
    (s.port p).link ≠ up →
    exec (.linkChange p up sqi) s = .next (
        if up then
          (s.updPort p (fun x => { x with link := true, sqi := sqi.toNat })).onDies (fun st d => st.macUp d p)
        else
          s.linkDown p)) ∧
  (∀ (p : Fin 24) (sender names : Die) (serial : BitVec 11),
    exec (.portSteerCommand p sender names serial) s = .next (s.portSteer p sender names serial.toNat)) ∧
  (∀ (p : Fin 24),
    let e := (s.port p).die
    ∀ d, (s.port p).pend = some d →
    ¬ ((s.mac e p).preempted.isSome) →
    ¬ ((s.swc e).awaiting.any (fun x => decide (x.port = p.val))) →
    exec (.portSelectorChange p) s = .next ((s.finishTx e p).portSwitch p d false)) ∧
  (∀ (p : Fin 24),
    let d := (s.port p).die
    ¬ (s.alive d && s.clocked d 13) →
    exec (.macSilent p) s = .next (s.portSilent p)) ∧
  (∀ (d : Die) (p : Fin 24) (busy : Bool) (frags : BitVec 8),
    s.macConnected d p →
    exec (.macTransmit d p busy frags) s = .next (
        if frags ≠ 0#8 then
          if s.mayPreempt d p (8 * frags.toNat) then
            (s.preempt d p (8 * frags.toNat)).macNext d p
          else
            s
        else
          let s1 := s.finishTx d p
          (if busy then (if isSb p ∧ s1.hasWork d p then s1.macCount d p 34 else s1) else s1.macNext d p).takeNibItems d 8)) ∧
  (∀ (d : Die) (p : Fin 24) (len : BitVec 16) (fcs : BitVec 32),
    (s.port p).die ≠ d →
    s.alive d →
    exec (.transmitEcho d p len fcs) s = .next ((s.finishTx d.other p).echo d p len.toNat fcs.toNat)) ∧
  (∀ (d : Die) (p : Fin 24),
    ∀ u2 l, (s.mac d p).echoes = u2 :: l →
    exec (.echoTimeout d p) s = .next ((s.updMac d p (fun m => { m with echoes := l })).shadowMis d p)) ∧
  (∀ (d : Die) (p : Fin 24) (late : Bool),
    ∀ f, (s.mac d p).tx = some f →
    s.csma d p →
    let s1 := s.macCount d p 31
    let n := (s.mac d p).attempts + 1
    exec (.collision d p late) s = .next (
        if late then
          (s1.giveUp d p f).macCount d p 32
        else if 16 ≤ n then
          (s1.giveUp d p f).macCount d p 33
        else
          s1.updMac d p (fun m => { m with tx := none, retry := some f, attempts := n }))) ∧
  (∀ (d : Die) (p : Fin 24),
    s.macConnected d p →
    isSb p →
    s.fld d (MAC_CFG p) MAC_CFG__ROLE = 0 →
    s.bit d (MAC_CFG p) MAC_CFG__FORCECOL →
    s.fld d (SWC_PpOCC p) SWC_PpOCC__XOFF ≠ 0 →
    let s1 := (s.macCount d p 35).updMac d p (fun m => { m with
      tx := none, retry := if m.tx.isSome then m.tx else m.retry, holdTo := s.ns d + s.bitsNs d p 128 })
    exec (.forcedCollision d p) s = .next (
        if s1.hasWork d p then
          s1.macCount d p 34
        else
          s1)) ∧
  (∀ (p : Fin 24),
    exec (.beaconLoss p) s = .next (
        s.onDies (fun st d =>
          if isSb p ∧ st.fld d (MAC_CFG p) MAC_CFG__ROLE = 2 ∧ st.fld d (MAC_STAT p) MAC_STAT__PLCAST = 1 ∧
          (st.mac d p).beacon.all (fun t => decide (t + st.bitsNs d p 1500 ≤ st.ns d)) then
          ((((st.finishTx d p).updMac d p (fun m => { m with beacon := none })).setF d (MAC_STAT p) MAC_STAT__PLCAST 2).macCount d p 40).setF
          d (MAC_EVT p) MAC_EVT__PLCALOSS 1
          else st))) ∧
  (∀ (p : Fin 24),
    exec (.beacon p) s = .next (
        s.onDies (fun st d =>
          if isSb p ∧ 1 ≤ st.fld d (MAC_CFG p) MAC_CFG__ROLE ∧ st.beaconDue d p = true then
          ((st.finishTx d p).updMac d p (fun m => { m with beacon := some (st.ns d), turn := 0 })).setF d (MAC_STAT p) MAC_STAT__PLCAST 1
          else st))) ∧
  (∀ (d : Die) (p : Fin 24),
    s.macConnected d p →
    s.bit d (MAC_CFG p) MAC_CFG__EEEEN →
    ¬ (s.bit d (MAC_STAT p) MAC_STAT__LPITX) →
    ¬ (s.hasWork d p) →
    exec (.lpiEntry d p) s = .next (((s.finishTx d p).setF d (MAC_STAT p) MAC_STAT__LPITX 1).macCount d p 36)) ∧
  (∀ (d : Die) (p : Fin 24),
    exec (.lpiWakeEnd d p) s = .next (
        s.updMac d p (fun m => { m with wake := m.wake.filter (fun t => decide (s.ns d < t)) }))) ∧
  (∀ (d : Die) (who : Initiator) (p : Fin 24) (v : Word),
    s.mayMac d who p →
    exec (.eeewakeWrite d who p v) s = .next (s.setF d (MAC_EEEWAKE p) MAC_EEEWAKE__WAKE (v.toNat % 2 ^ 16))) ∧
  (∀ (d : Die) (p : Fin 24) (answered : Bool),
    ∀ n, (s.mac d p).verify = some n →
    exec (.verifyTimeout d p answered) s = .next (
        if answered then
          ((s.updMac d p (fun m => { m with verify := none })).setF d (MAC_STAT p) MAC_STAT__PREACT 1).macCmdDone d p
        else if n + 1 < 3 then
          s.updMac d p (fun m => { m with verify := some (n + 1) })
        else
          ((s.updMac d p (fun m => { m with verify := none })).setF d (MAC_EVT p) MAC_EVT__VERIFYFAIL 1).macCmdDone d p)) ∧
  (∀ (d : Die) (who : Initiator) (p : Fin 24) (confirm : BitVec 8),
    s.mayMac d who p →
    confirm = 0xC5#8 →
    exec (.macRetrain d who p confirm) s = .next (
        (if (s.port p).link then s.linkDown p else s).setF d (MAC_CMDRES p) MAC_CMDRES__RESULT 1)) ∧
  (∀ (d : Die) (who : Initiator) (p : Fin 24) (confirm : BitVec 8),
    s.mayMac d who p →
    confirm = 0xC5#8 →
    s.bit d (MAC_CFG p) MAC_CFG__PREEN →
    exec (.macRepeatVerify d who p confirm) s = .next (
        (s.onDies (fun st e => if (st.port p).link then
            (st.updMac e p (fun m => { m with verify := some 0 })).setF e (MAC_STAT p) MAC_STAT__PREACT 0 else st)).setF d (MAC_CMDRES p)
          MAC_CMDRES__RESULT 1)) ∧
  (∀ (d : Die) (p : Fin 24) (enter : Bool),
    s.alive d →
    s.bit d (MAC_CFG p) MAC_CFG__EEEEN →
    (s.port p).link →
    let s1 := s.setF d (MAC_STAT p) MAC_STAT__LPIRX (b2n enter)
    exec (.receiveLpi d p enter) s = .next (
        if enter ∧ !s.bit d (MAC_STAT p) MAC_STAT__LPIRX then
          s1.macCount d p 37
        else
          s1))

/-- The switch core: buffers, host queues, gates, its shadow and failover: each command answers the next state of its own effect under
conditions on the state and operands alone. Commands: FRAME_REASSEMBLED, BUFFER_SKIP, REASSEMBLY_TIMEOUT, BUFFER_READMIT,
FDB_AGEING_PASS, TXTAIL_WRITE, HOST_DESCRIPTOR_READ, PAIR_PORT_FRAME, RXHEAD_WRITE, HOST_QUEUE_TIMEOUT, GATE_ENTRY_CHANGE,
FEED_ENTRY, FEED_ACK, SHADOW_FRAME_DISCARD, SWITCH_CORE_FAILOVER, STANDBY_RESTART, FLUSH_ALL, FLUSH_PORT, READMIT_BUFFER. Rests on
spec/11_switch_core.md; the model's own choices in it are those of log entries 43, 44. -/
def Obligations.SwitchCoreCompletes : Prop :=
  ∀ s : State,
  (∀ (d : Die) (ingress : Fin 60),
    ∀ f, (s.swc d).oldest ingress = some f →
    let s1 := s.updSwc d (fun x => x.runTo (s.ns d) f x.slotsLeft)
    exec (.frameReassembled d ingress) s = .next (
        if (s1.swc d).whole f then
          (((s1.updSwc d (fun x => x.drop f)).place d f).feedMeets d f).takeNibItems d 8
        else
          s1)) ∧
  (∀ (d : Die) (b : Fin 16) (testOk : Bool),
    ¬ ((s.laneBuf d b).skipped) →
    let s0 := s.updSwc d (fun x => x.lagging (s.ns d) b 1024)
    let s1 := s0.updBuf d b (fun x => { x with skipped := true, tested := testOk, skips := x.skips ++ [s.ns d] })
    exec (.bufferSkip d b testOk) s = .next (
        ((s1.setF d SWC_LANESKIP ⟨b.val, 1⟩ 1).setF d SWC_LANESKIP ⟨16 + b.val, 1⟩ 1).recordBoth 0x0C00 0x09 b.val 0
          (s.rd d SWC_REASMTO).toNat)) ∧
  (∀ (d : Die) (ingress : Fin 60),
    ∀ f, (s.swc d).oldest ingress = some f →
    let due : Bool := ((tget none (s.swc d).flights f.id).bind (·.first)).any (fun t => decide (t + 1000000 ≤ s.ns d))
    ∀ j u3, (s.swc d).heldIn f = j :: u3 →
    due →
    let s1 := ((s.updSwc d (fun x => x.drop f)).freeFrame d f).addSat d SWC_REASMTO ⟨0, 32⟩ 1
    exec (.reassemblyTimeout d ingress) s = .next (
        (s1.recordBoth 0x0C00 0x09 j 0 (s1.rd d SWC_REASMTO).toNat).takeNibItems d 8)) ∧
  (∀ (d : Die) (b : Fin 16),
    s.readmitOk d b →
    exec (.bufferReadmit d b) s = .next (s.readmit d b)) ∧
  (∀ (d : Die),
    let limit := s.fld d SWC_CFG SWC_CFG__AGETIME
    let pass := fun (x : SwcSt) => { x with fdb := (x.fdb.map (fun e =>
      (e.1, if fdbValid e.2 && !fdbStatic e.2 then fdbAged e.2 (fdbAge e.2 + 1) else e.2))).filter (fun e =>
      fdbStatic e.2 || !decide (limit ≤ fdbAge e.2)) }
    s.swActive d →
    limit ≠ 0 →
    let s1 := (s.updSwc d pass).fdbCount d
    exec (.fdbAgeingPass d) s = .next (
        if s1.joint d then
          (s1.updSwc d.other pass).fdbCount d.other
        else
          s1)) ∧
  (∀ (d : Die) (who : Initiator) (part : Fin 32) (q : Fin 8) (v : Word),
    s.alive d →
    Initiator.isPage who part →
    s.bit d (SWC_HpqGEOM part q) SWC_HpqGEOM__USED →
    exec (.txtailWrite d who part q v) s = .next (
        if 2 ^ s.fld d (SWC_HpqGEOM part q) SWC_HpqGEOM__TXN < ringGap (s.rd d (SWC_HpqTXHEAD part q)) v then
          s.setF d (SWC_HpqSTAT part q) SWC_HpqSTAT__BADTX 1
        else
          s.onDies (fun st e => st.wr e (SWC_HpqTXTAIL part q) v))) ∧
  (∀ (d : Die) (part : Fin 32) (q : Fin 8),
    let p := part.val
    let geom := s.rd d (SWC_HpqGEOM p q)
    let head := s.rd d (SWC_HpqTXHEAD p q)
    let t : Tags := { init := 3, part := p }
    let a := (s.rd d (SWC_HpqTXB p q)).toNat * 4096 + head.toNat % 2 ^ SWC_HpqGEOM__TXN.get geom * 32
    let b := s.bytesAt d a 32
    let buf := u64 b 0
    let len := u16 b 8
    let next := head + 1#32
    let seq := BitVec.ofNat 32 (u32 b 16)
    let gap := (seq - s.rd d (SWC_HpSEQ p)).toNat
    s.alive d →
    s.homeDie p = d →
    bitOf geom.toNat 12 →
    head ≠ s.rd d (SWC_HpqTXTAIL p q) →
    tget 0 (s.swc d).charges (24 * 9 + 8) + cells (len + 4) ≤ s.xoffAt d 24 →
    ¬ (s.pairPort d && decide (s.xoffAt d.other 26 < tget 0 (s.swc d.other).charges (26 * 9 + 8) + cells (len + 4))) →
    exec (.hostDescriptorRead d part q) s = .next (
        if !s.hostAdmits d a 32 t .read then
          ((s.memRefuse d a t .read).setF d (SWC_HpqSTAT p q) SWC_HpqSTAT__DENY 1).txAdvance d p q next
        else if !s.txDescOk d p len (u8 b 10) (u8 b 11) (u8 b 12) (zeroBytes b 13 3 && zeroBytes b 20 12) then
          (s.setF d (SWC_HpqSTAT p q) SWC_HpqSTAT__BADTX 1).txAdvance d p q next
        else if gap = 0 ∨ 2 ^ 31 ≤ gap then
          (s.addSat d (SWC_HpDUP p) ⟨0, 32⟩ 1).txAdvance d p q next
        else if !s.hostAdmits d buf len t .read then
          ((s.memRefuse d buf t .read).setF d (SWC_HpqSTAT p q) SWC_HpqSTAT__DENY 1).txAdvance d p q next
        else
          let f : PairFrame := ⟨p, q.val, next, seq, u8 b 10, u8 b 11, u8 b 12, s.ns d, tget 0 (s.swc d).seqs 24,
            s.bytesAt d buf len⟩
          let s1 := ((s.wr d (SWC_HpSEQ p) seq).txAdvance d p q next).hostAdmit d f
          if s1.pairPort d then
            (s1.charge d.other 26 8 (· + cells (len + 4))).plSend d 0 (.frame f)
          else
            s1)) ∧
  (∀ (d : Die),
    ∀ f l, (s.swc d).p26 = f :: l →
    let s1 := s.updSwc d (fun x => { x with p26 := l, seqs := tset 0 x.seqs 24 f.iseq })
    exec (.pairPortFrame d) s = .next (
        (((s1.charge d 26 8 (· - cells (f.bytes.length + 4))).wr d (SWC_HpSEQ f.part) f.seq).txAdvance d f.part f.ring f.head).hostAdmit d f)) ∧
  (∀ (d : Die) (who : Initiator) (part : Fin 32) (q : Fin 8) (v : Word),
    s.alive d →
    Initiator.isPage who part →
    exec (.rxheadWrite d who part q v) s = .next (
        s.onDies (fun st e => ((st.wr e (SWC_HpqRXHEAD part q) v).hostMove e part q).takeNibItems e 8))) ∧
  (∀ (d : Die) (part : Fin 32) (q : Fin 8),
    ∀ id u4, tget [] (s.swc d).queues (ringQ part q) = id :: u4 →
    exec (.hostQueueTimeout d part q) s = .next (
        ((s.dequeue d (ringQ part q) id).addSat d (SWC_HpqSTAT part q) SWC_HpqSTAT__RXDROP 1).takeNibItems d 8)) ∧
  (∀ (d : Die) (p : Fin 24),
    ∀ i since, s.gateDue d p = some (i, since) →
    let g := s.gates d p
    let s1 := (List.range 8).foldl (fun st c => st.settleCredit d p c) s
    let open_ := (g.entries.getD i (0, 0)).1
    let s2 := s1.wr d (SWC_PpGATE p) (BitVec.ofNat 32 (open_ + 2 ^ 8 * i + 2 ^ 14))
    let s3 := s2.updSwc d (fun x => { x with gates := tput x.gates p { g with since := since } })
    exec (.gateEntryChange d p) s = .next (
        if s3.bit d (MAC_STAT p) MAC_STAT__LPITX && (List.range 8).any (fun c => bitOf open_ c && decide (tget [] (s3.swc d).queues (portQ p c) ≠ [])) then
          s3.leaveLpi d p
        else
          s3)) ∧
  (∀ (d : Die),
    exec (.feedEntry d) s = .next ((s.feedTake d).takeNibItems d 8)) ∧
  (∀ (d : Die),
    ∀ e, (s.swc d).awaiting.find? (fun e => !e.acked) = some e →
    exec (.feedAck d) s = .next (
        if e.port = 24 then
          (s.ringStart d e).takeNibItems d 8
        else
          let s1 := s.updSwc d (fun x => { x with awaiting := x.awaiting.map (fun a => if a = e then { a with acked := true } else a) })
          if s1.macConnected d e.port && !isSb e.port && (s1.mac d e.port).tx.isNone then
            (s1.macNext d e.port).takeNibItems d 8
          else
            s1)) ∧
  (∀ (d : Die) (p : Fin 25) (part : Fin 32) (k : Fin 8),
    let key := if p.val = 24 then ringQ part k else portQ p k
    ¬ (s.swActive d) →
    ∀ id u5, tget [] (s.swc d).queues key = id :: u5 →
    exec (.shadowFrameDiscard d p part k) s = .next (
        ((s.dequeue d key id).addSat d SWC_SHMIS SWC_SHMIS__SKIPPED 1).takeNibItems d 8)) ∧
  (∀ (d : Die),
    let e := d.other
    s.holder 8 = d →
    s.alive e →
    let s1 := (List.range 24).foldl (fun st p => if (st.port p).die = d then st.portSilent p else st) s
    let s2 := (s1.updSwc d (fun x => { x with awaiting := [] })).moveToken 8 e
    exec (.switchCoreFailover d) s = .next ((s2.steerPorts e).coreTakes e)) ∧
  (∀ (d : Die),
    ¬ (s.swActive d) →
    s.alive d →
    let s1 := s.updSwc d (fun x => { x with
      fabric := [], flights := [], lanes := [], bufCells := [], turns := [], frames := [], queues := [], charges := [], feedIn := [],
      lastFeed := [], pool := 0 })
    let s2 := (List.range 27).foldl (fun st p => st.wr d (SWC_PpOCC p) 0#32) s1
    let s3 := (List.range 24).foldl (fun st p => st.updMac d p (fun m => { m with deq := [], echoes := [], fragged := [] })) s2
    exec (.standbyRestart d) s = .next (s3.setF d SWC_STAT SWC_STAT__INSTEP 0)) ∧
  (∀ (d : Die) (who : Initiator) (confirm : BitVec 8),
    s.alive d →
    who.isManager →
    confirm = 0x6B#8 →
    exec (.flushAll d who confirm) s = .next (
        (s.onDies (fun st e => if e = d ∨ st.joint d = true then st.flush e (fun _ => true) else st)).setF d
          SWC_CMDRES SWC_CMDRES__RESULT 3)) ∧
  (∀ (d : Die) (who : Initiator) (confirm : BitVec 8) (port : BitVec 5),
    s.alive d →
    who.isManager →
    confirm = 0x6B#8 →
    exec (.flushPort d who confirm port) s = .next (
        if 24 < port.toNat then
          s.setF d SWC_CMDRES SWC_CMDRES__RESULT 2
        else
          (s.onDies (fun st e => if e = d ∨ st.joint d = true then st.flush e (fun v => decide (fdbPort v = port.toNat)) else st)).setF d
            SWC_CMDRES SWC_CMDRES__RESULT 3)) ∧
  (∀ (d : Die) (who : Initiator) (confirm : BitVec 8) (b : Fin 16),
    s.alive d →
    who.isManager →
    confirm = 0x6B#8 →
    exec (.readmitBuffer d who confirm b) s = .next (
        if s.readmitOk d b then
          (s.readmit d b).setF d SWC_CMDRES SWC_CMDRES__RESULT 3
        else
          s.setF d SWC_CMDRES SWC_CMDRES__RESULT 2))

/-- The forwarding database and the VLAN table: each command answers the next state of its own effect under conditions on the state and
operands alone. Commands: FDB_READ_BY_KEY, FDB_READ_BY_INDEX, FDB_WRITE, FDB_DELETE, VLAN_READ, VLAN_WRITE. Rests on
spec/11_switch_core.md; the model's own choices in it are those of log entry 43. -/
def Obligations.SwitchTablesComplete : Prop :=
  ∀ s : State,
  (∀ (d : Die) (who : Initiator),
    let v := s.fbuf d
    s.alive d →
    who.isManager →
    ∀ i, (s.swc d).fdbFind (fdbAddr v) (fdbVid v) = some i →
    exec (.fdbReadByKey d who) s = .next ((s.setFbuf d (tget 0 (s.swc d).fdb i)).fres d 2 0 i false)) ∧
  (∀ (d : Die) (who : Initiator) (i : BitVec 14),
    s.alive d →
    who.isManager →
    exec (.fdbReadByIndex d who i) s = .next ((s.setFbuf d (tget 0 (s.swc d).fdb i.toNat)).fres d 2 0 i.toNat false)) ∧
  (∀ (d : Die) (who : Initiator) (mirror : Bool),
    let v0 := s.fbuf d
    let v := withBit (withBit v0 61 true) 62 true
    let reach := mirror && s.joint d
    s.alive d →
    who.isManager →
    fdbRule v →
    ∀ i u6, (s.swc d).fdbPut v = some (i, u6) →
    exec (.fdbWrite d who mirror) s = .next (
        (s.mirrorDo d mirror (fun st e =>
          (st.updSwc e (fun x => match x.fdbPut v with | some (_, y) => y | none => x)).fdbCount e)).fres d 2 0 i reach)) ∧
  (∀ (d : Die) (who : Initiator) (mirror : Bool),
    let v := s.fbuf d
    let reach := mirror && s.joint d
    s.alive d →
    who.isManager →
    ∀ i, (s.swc d).fdbFind (fdbAddr v) (fdbVid v) = some i →
    exec (.fdbDelete d who mirror) s = .next (
        (s.mirrorDo d mirror (fun st e =>
          match (st.swc e).fdbFind (fdbAddr v) (fdbVid v) with
          | some j => st.fdbSet e j 0
          | none => st)).fres d 2 0 i reach)) ∧
  (∀ (d : Die) (who : Initiator) (vid : BitVec 12),
    let m := s.vlanOf d vid.toNat
    s.alive d →
    who.isManager →
    vid.toNat ≠ 0 →
    vid.toNat ≠ 4095 →
    exec (.vlanRead d who vid) s = .next (
        ((s.wr d SWC_VBUF0 (BitVec.ofNat 32 m.1)).wr d SWC_VBUF1 (BitVec.ofNat 32 m.2)).setF d SWC_VRES SWC_VRES__STATE 2)) ∧
  (∀ (d : Die) (who : Initiator) (mirror : Bool) (vid : BitVec 12),
    let m := (s.rd d SWC_VBUF0).toNat
    let u := (s.rd d SWC_VBUF1).toNat
    s.alive d →
    who.isManager →
    vid.toNat ≠ 0 →
    vid.toNat ≠ 4095 →
    m < 2 ^ 26 →
    u < 2 ^ 26 →
    exec (.vlanWrite d who mirror vid) s = .next (
        (s.mirrorDo d mirror (fun st e => st.updSwc e (fun x => { x with vlan := tput x.vlan vid.toNat (m, u) }))).setF d
          SWC_VRES SWC_VRES__STATE 2))

/-- Group time, its servo and pulse outputs: each command answers the next state of its own effect under conditions on the state and
operands alone. Commands: SYNC_RECEIVE, ANNOUNCE_RECEIVE, PDELAY_EXCHANGE, SYNC_TRANSMIT, SYNC_RECEIPT_TIMEOUT, HOLDOVER_LIMIT,
STEP_PROPOSAL, STEP_APPLY, DIE_OFFSET_EXCHANGE, RTC_SET, NOW_READ, SNAP, PULSE_ARM, PERIODL_WRITE, PULSE_RISE, PULSE_FALL,
LANE_PIN_MISMATCH, SIGNALING_RECEIVE, ANNOUNCE_RECEIPT_TIMEOUT. Rests on spec/12_group_time.md; the model's own choices in it are
those of log entries 10, 39, 45. -/
def Obligations.GroupTimeCompletes : Prop :=
  ∀ s : State,
  (∀ (d : Die) (p : Fin 24) (domain : BitVec 8) (origin : BitVec 64) (corr : BitVec 64) (log : Fin 8) (stamp : BitVec 64),
    s.alive d →
    exec (.syncReceive d p domain origin corr log stamp) s = .next (
        if domain ≠ 0#8 then
          s.addSat d TIM_DISC ⟨0, 32⟩ 1
        else if s.fld d TIM_STAT TIM_STAT__SLAVE ≠ p.val ∨ s.slowClock d = true then
          s
        else
          let rx : Int := (stamp.toNat : Int) - (s.rd d (MAC_DLY p)).toNat % 2 ^ 16
          let gm : Int := (origin.toNat : Int) + toSigned 64 corr.toNat / 65536 + (s.rd d (TIM_GpDELAY p)).toNat
          let theta := rx - gm
          let sent := rx - (s.rd d (TIM_GpDELAY p)).toNat
          let s1 := ((s.servoState d theta).wrSigned d TIM_OFFSET theta).updTim d (fun x => { x with
            upSync := some (origin.toNat, toSigned 64 corr.toNat, sent), syncAt := some (stamp.toNat, 1000000000 / 2 ^ log.val) })
          s1.servo d theta (1000000000 / 2 ^ log.val))) ∧
  (∀ (d : Die) (p : Fin 24) (domain : BitVec 8) (gm : Announce),
    s.alive d →
    exec (.announceReceive d p domain gm) s = .next (
        if domain ≠ 0#8 then
          s.addSat d TIM_DISC ⟨0, 32⟩ 1
        else if gm.prio1 = 255#8 ∨ 255 ≤ gm.steps.toNat ∨ gm.src.toNat / 2 ^ 16 = Config.clockIdentity.toNat then
          s
        else if s.bit d TIM_CFG TIM_CFG__EXTCFG then
          if s.fld d TIM_STAT TIM_STAT__SLAVE = p.val then
            s.setGm d gm.id.toNat
          else
            s
        else if (s.gport d p).state ≠ 3 then
          s
        else
          let v := prioVector (sysIdentity gm.prio1.toNat gm.cls.toNat gm.quality.toNat gm.prio2.toNat gm.id.toNat) gm.steps.toNat
            gm.src.toNat p.val
          (s.updTim d (fun x => { x with anns := tput x.anns p v, annHeard := tset none x.annHeard p (some (s.ns d)) })).bmca d)) ∧
  (∀ (d : Die) (p : Fin 24) (delay ratio : BitVec 32),
    let put := fun (st : State) (e : Die) =>
      ((st.wr e (TIM_GpDELAY p) delay).wr e (TIM_GpRATIO p) ratio).setF e (TIM_GpSTAT p) TIM_GpSTAT__ASCAP
        (b2n (decide (delay.toNat ≤ (st.gport e p).thresh)))
    ¬ (isSb p) →
    s.timeActive d →
    (s.gport d p).state ≠ 0 →
    s.bit d (MAC_CFG p) MAC_CFG__EN →
    let r := s.nextGptp d p 2
    let s1 := put (r.2.queueGptp d p 2 r.1 [] none) d
    exec (.pdelayExchange d p delay ratio) s = .next (
        if s1.linkUp && s1.alive d.other then
          put s1 d.other
        else
          s1)) ∧
  (∀ (d : Die) (p : Fin 24),
    s.timeActive d →
    s.fld d (TIM_GpSTAT p) TIM_GpSTAT__STATE = 1 →
    let r := s.nextGptp d p 0
    exec (.syncTransmit d p) s = .next ((r.2.queueGptp d p 0 r.1 [] (some (8, r.1))).announce d p)) ∧
  (∀ (d : Die),
    let st := s.fld d TIM_STAT TIM_STAT__STATE
    let slave := s.fld d TIM_STAT TIM_STAT__SLAVE
    let waits := (s.tim d).syncAt.any (fun e => decide (s.ns d < e.1 + (s.gport d slave).syncTimeout * e.2))
    st = 1 ∨ st = 2 →
    waits = false →
    exec (.syncReceiptTimeout d) s = .next (
        ((s.holdover d).setF d TIM_STAT TIM_STAT__SLEW 0).setF d TIM_EVT TIM_EVT__HOLD 1)) ∧
  (∀ (d : Die),
    let waits := (s.tim d).holdAt.any (fun t => decide (s.ns d < t + s.fld d TIM_CFG TIM_CFG__HOLDLIM * 1000000000))
    s.fld d TIM_STAT TIM_STAT__STATE = 3 →
    waits = false →
    exec (.holdoverLimit d) s = .next ((s.setF d TIM_STAT TIM_STAT__STATE 0).setF d TIM_STAT TIM_STAT__LOST 1)) ∧
  (∀ (d : Die) (ts : BitVec 64),
    let x := s.tim d
    let soon : Bool := match x.stepped with
      | some t => decide (s.ns d < t + 1000000000)
      | none => false
    ∀ delta, x.want = some delta →
    s.timeAlone d →
    ¬ x.step.isSome →
    ¬ soon →
    s.ns d + 200000 ≤ ts.toNat →
    let put := fun (st : State) (e : Die) => (st.updTim e (fun x => { x with step := some (delta, ts.toNat), want := none })).setF e
      TIM_STAT TIM_STAT__STEPPEND 1
    let s1 := put s d
    exec (.stepProposal d ts) s = .next (
        if s1.linkUp && s1.alive d.other then
          put s1 d.other
        else
          s1)) ∧
  (∀ (d : Die),
    ∀ delta ts, (s.tim d).step = some (delta, ts) →
    ts ≤ s.ns d →
    exec (.stepApply d) s = .next (
        if delta < 0 ∧ 3 ≤ s.dstate d then
          (s.updTim d (fun x => { x with step := none })).setF d TIM_STAT TIM_STAT__STEPPEND 0
        else
          let old := s.ns d
          let t := ((s.now.get d : Int) + delta * 2 ^ 32).toNat
          let s1 := { s with now := s.now.set d t }
          let new := s1.ns d
          let s2 := s1.updTim d (fun x => { x with
            step := none, want := none, stepped := some new, pulses := x.pulses.map (fun e => (e.1, e.2.stepped old new)),
            syncAt := x.syncAt.map (fun e => (e.1 + new - old, e.2)), holdAt := x.holdAt.map (· + new - old) })
          let s2 := s2.updVol d (fun v => { v with lanes := v.lanes.map (fun e => (e.1, e.2.stepped old new)) })
          let s3 := ((s2.setF d TIM_STAT TIM_STAT__STEPPEND 0).setF d TIM_EVT TIM_EVT__STEP 1).addSat d TIM_STEPS ⟨0, 32⟩ 1
          let s4 := s3.addSat d TIM_TICKSKIP ⟨0, 32⟩ (s3.ticksIn d old new)
          (List.range 24).foldl (fun st p => st.gateSeek d p) s4)) ∧
  (∀ (d : Die) (offset : BitVec 32),
    let o := offset.toInt
    let quiet : Bool := match (s.tim d).stepped with
      | some t => decide (s.ns d < t + 1000000)
      | none => false
    s.alive d →
    s.alive d.other →
    s.linkFlows →
    ¬ quiet →
    exec (.dieOffsetExchange d offset) s = .next (
        if s.dstate d < 3 ∧ s.isSealed d.other = true then
          s.timeFromPartner d
        else
          let n := if 100 < o ∨ o < -100 then (s.tim d).apart + 1 else 0
          let s1 := (s.wr d TIM_DIEOFS offset).updTim d (fun x => { x with apart := if 8 ≤ n then 0 else n })
          if 8 ≤ n then
            ((s1.onDies (fun st e => (st.updTim e (fun x => { x with apart := 0 })).setF e TIM_EVT TIM_EVT__DIEOFS 1)).recordBoth 0x0D00
              0x06 d.val 0 0).timeFromPartner s1.timeFault
          else
            s1)) ∧
  (∀ (d : Die),
    s.timeActive d →
    s.fld d TIM_STAT TIM_STAT__STATE = 2 →
    let v := s.ns d * 2 ^ 15 / 1000000000
    exec (.rtcSet d) s = .next ((s.wr64 0 CIS_RTCL CIS_RTCH v).updCis (fun c => { c with rtcFrac := 0, rtcSetAt := v }))) ∧
  (∀ (d : Die) (who : Initiator),
    let h1 := tput s.held (heldKey d who TIM_NOWH) (BitVec.ofNat 32 (s.ns d / 2 ^ 32))
    let h2 := tput h1 (heldKey d who TIM_NOWF) (BitVec.ofNat 32 (s.frac d))
    exec (.nowRead d who) s = .next (({ s with held := h2 }).reply (.value (s.ns d % 2 ^ 32)))) ∧
  (∀ (d : Die) (who : Initiator) (confirm : BitVec 8),
    s.alive d →
    who.isManager →
    confirm = 0x7D#8 →
    exec (.snap d who confirm) s = .next (
        (s.wr64 d TIM_SNAPL TIM_SNAPH (s.ns d)).wr d TIM_SNAPF (BitVec.ofNat 32 (s.frac d)))) ∧
  (∀ (d : Die) (who : Initiator) (k : Fin 4) (v : Word),
    let periodic := bitOf v.toNat 1
    let width := v.toNat / 2 ^ 16
    let start := s.rd64 d (TIM_PkSTARTL k) (TIM_PkSTARTH k)
    let period := s.rd64 d (TIM_PkPERIODL k) (TIM_PkPERIODH k)
    let ok : Bool := decide (1 ≤ width) && (!periodic || decide (2000 ≤ period ∧ period ≤ 1000000000000 ∧ 1000 * width < period))
    let now := s.ns d
    let next := if periodic ∧ start < now ∧ period ≠ 0 then start + (now - start + period - 1) / period * period else start
    s.mayPulse d who k →
    let s1 := s.wr d (TIM_PkCFG k) (v &&& 0xFFFF0003#32)
    exec (.pulseArm d who k v) s = .next (
        if bitOf v.toNat 0 ∧ ok then
          (s1.updPulse d k (fun x => { x with periodic := periodic, width := width, start := start, period := period,
                                              armed := true, next := next,
                                              late := !periodic && decide (start < now) })).setF d (TIM_PkSTAT k) TIM_PkSTAT__ARMED 1
        else
          (s1.updPulse d k (fun x => { x with armed := false })).setF d (TIM_PkSTAT k) TIM_PkSTAT__ARMED 0)) ∧
  (∀ (d : Die) (who : Initiator) (k : Fin 4) (v : Word),
    s.mayPulse d who k →
    exec (.periodlWrite d who k v) s = .next (s.updPulse d k (fun x => { x with heldLow := some v }))) ∧
  (∀ (d : Die) (k : Fin 4),
    let x := s.pulse d k
    s.alive d →
    x.armed →
    ¬ x.high →
    x.next ≤ s.ns d + 4 →
    let after := x.start + ((x.next - x.start) / x.period + 1) * x.period
    let s1 := (s.updPulse d k (fun x => { x with
        high := true, armed := x.periodic, next := after, fallAt := s.ns d + 1000 * x.width })).fire d
      (0xA1 + k.val)
    exec (.pulseRise d k) s = .next (
        if x.periodic then
          s1
        else
          let s2 := s1.setF d (TIM_PkSTAT k) TIM_PkSTAT__ARMED 0
          if x.late then
            (s2.setF d (TIM_PkSTAT k) TIM_PkSTAT__LATE 1).setF d TIM_EVT TIM_EVT__PULSELATE 1
          else
            s2.setF d (TIM_PkSTAT k) TIM_PkSTAT__LATE 0)) ∧
  (∀ (d : Die) (k : Fin 4),
    let x := s.pulse d k
    ¬ (x.high ∧ s.ns d + 4 < x.fallAt) →
    exec (.pulseFall d k) s = .next (
        (s.updPulse d k (fun x => { x with high := false })).updCis (fun c => { c with pps := tset 0 c.pps k (s.holder 8).val }))) ∧
  (∀ (j : Fin 16),
    let off := TIM_LnST (80 + j.val)
    (s.tim s.anyDie).pins.contains j.val →
    exec (.lanePinMismatch j) s = .next (
        (s.onDies (fun st d => st.addSat d off TIM_LnST__MIS 1)).recordBoth 0x0D00 0x06 (80 + j.val) 0 0)) ∧
  (∀ (d : Die) (p : Fin 24) (domain : BitVec 8) (request : Bool) (sync pdelay ann : BitVec 8),
    s.alive d →
    exec (.signalingReceive d p domain request sync pdelay ann) s = .next (
        if domain ≠ 0#8 then
          s.addSat d TIM_DISC ⟨0, 32⟩ 1
        else if !request then
          s
        else
          let g := s.gport d p
          let g1 := { g with
            given := true, logSync := askInterval g.logSync (-7) 0 sync, logPdelay := askInterval g.logPdelay (-3) 3 pdelay,
            logAnn := askInterval g.logAnn (-3) 3 ann }
          s.updTim d (fun x => { x with ports := tset {} x.ports p g1 }))) ∧
  (∀ (d : Die) (p : Fin 24),
    let g := s.gport d p
    let waits := (tget none (s.tim d).annHeard p).any (fun t => decide (s.ns d < t + g.annTimeout * logNs g.logAnn))
    s.alive d →
    waits = false →
    exec (.announceReceiptTimeout d p) s = .next ((s.updTim d (fun x => { x with anns := terase x.anns p })).bmca d))

/-- Epochs, journals, the spare and failover: each command answers the next state of its own effect under conditions on the state and
operands alone. Commands: EPOCH_END, JOURNAL_SEND, JOURNAL_RECEIVE, SEAL_ACK, SEAL_WAIT, SPARE_LAG_TIMEOUT, LOG_ACK, FAILOVER,
LOG_EXHAUSTED, DIE_LOSS, SYNC_PASS. Rests on spec/13_pair_and_spare.md; the model's own choices in it are those of log entries 30,
32, 37. -/
def Obligations.EpochsComplete : Prop :=
  ∀ s : State,
  (∀ (d : Die) (dux : Fin 12),
    let x := dux.val
    let u := s.dux d x
    let a := u.cores.q0
    let b := u.cores.q1
    ∀ p, s.runningOn d x = some p →
    s.duxUp d x →
    exec (.epochEnd d dux) s = .next (
        match u.endAt with
        | none =>
            if s.updPhase ≠ 7 ∧ s.epochDue d x p = true then
              let e := match s.replayHead d x with
                | some r => r.count
                | none => if s.inWfi d x then u.lead else u.lead + 32
              s.updDux d x (fun u => { u with endAt := some e })
            else
              s
        | some e =>
            let there := decide (a.count = b.count) && (decide (a.count = e) || s.inWfi d x)
            if there && u.journal.isNone && a.wait.isNone && b.wait.isNone then
              s.endEpoch d x p a.count
            else
              s)) ∧
  (∀ (d : Die) (dux : Fin 12),
    let x := dux.val
    exec (.journalSend d dux) s = .next (
        match (s.dux d x).journal, s.spareOf d x with
        | some j, some y =>
            let done := (s.dux d x).held.all (fun o => decide (o.part ≠ j.part ∨ j.epoch ≤ o.epoch))
            if s.duxUp d x && s.linkUp && s.alive d.other && !(s.dux d x).sent && done then
              (s.updDux d x (fun u => { u with sent := true, acked := false })).plSend d 1 (.journal y x j (s.evcSnapshot d x))
                (s.pairCipher d j.lines)
            else
              s
        | _, _ =>
            s)) ∧
  (∀ (d : Die) (dux : Fin 12) (magic : Word) (crc : BitVec 64),
    let y := dux.val
    let u := s.dux d y
    let x := s.fld d (DUX_dSTAT y) DUX_dSTAT__SERVES
    ∀ j, u.arriving = some j →
    s.duxUp d y →
    let pos := u.storedPos - logBytes u.stored + logBytes (logUntil j.epoch u.stored)
    exec (.journalReceive d dux magic crc) s = .next (
        if decide (magic = journalMagic ∧ j.epoch = (s.ck d j.part).sealedNo + 1 ∧ j.logPos = pos ∧ crc.toNat = crc64 j.bytes) then
          let s1 := s.sealEpoch d y x j
          if s1.swapPending d.other x && decide (s1.duxState d.other x = 4) then
            (s1.sealAck d.other x j).finishSwap d.other x y j
          else
            s1
        else if u.asked then
          (s.goAlone d.other x 5).recordBoth (0x0400 + j.part) 0x03 j.part 0 (j.epoch % 2 ^ 32)
        else
          (s.updDux d y (fun u => { u with arriving := none, asked := true })).updDux d.other x (fun u => { u with
            sent := false }))) ∧
  (∀ (d : Die) (dux : Fin 12),
    let x := dux.val
    ∀ j, (s.dux d x).journal = some j →
    s.duxUp d x →
    (s.dux d x).acked →
    exec (.sealAck d dux) s = .next (s.sealAck d x j)) ∧
  (∀ (d : Die) (dux : Fin 12),
    let x := dux.val
    let u := s.dux d x
    exec (.sealWait d dux) s = .next (
        match u.journal, s.runningOn d x with
        | some _, some p =>
            if s.duxUp d x && decide (s.duxState d x = 1 ∨ s.duxState d x = 3) && decide (u.endedAt + 30000 ≤ s.ns d) then
              ((s.setF d (DUX_dSTAT x) DUX_dSTAT__STATE 4).addSat d (CKP_pWAIT p) CKP_pWAIT__COUNT 1).updDux d x (fun u => { u with
                waitAt := some (s.ns d) })
            else
              s
        | _, _ =>
            s)) ∧
  (∀ (d : Die) (dux : Fin 12),
    let x := dux.val
    ∀ j, (s.dux d x).journal = some j →
    let lim := 2000 * s.fld d (CKP_pCFG j.part) CKP_pCFG__EPOCH
    s.duxUp d x →
    (s.dux d x).endedAt + lim ≤ s.ns d →
    exec (.spareLagTimeout d dux) s = .next (
        (s.goAlone d x 5).recordBoth (0x0400 + j.part) 0x03 j.part 0 (j.epoch % 2 ^ 32))) ∧
  (∀ (d : Die) (dux : Fin 12) (pos : BitVec 64),
    let x := dux.val
    ∀ y, s.spareOf d x = some y →
    s.duxUp d x →
    s.linkFlows →
    pos.toNat ≤ (s.dux d.other y).storedPos →
    (s.dux d x).logAcked ≤ pos.toNat →
    exec (.logAck d dux pos) s = .next ((s.updDux d x (fun u => { u with logAcked := pos.toNat })).releasePrompt d x)) ∧
  (∀ (d : Die) (dux : Fin 12),
    let y := dux.val
    let x := s.fld d (DUX_dSTAT y) DUX_dSTAT__SERVES
    let ps := (s.homed d.other x).filter (fun p => decide (s.ckState d p = 6))
    ∀ j, (s.dux d y).last = some j →
    s.duxUp d y →
    s.duxRole d y = 2 →
    ps ≠ [] →
    let log := (s.dux d y).stored
    let again := (s.dux d y).mayRelease
    let counts := epochCounts 0 log
    let s1 := (List.range counts.length).foldl (fun st i =>
      st.recordBoth (0x0400 + j.part) 0x03 j.part 0
        ((j.epoch + 1 + i) % 2 ^ 32 + 2 ^ 32 * satTo 0xFFFFFF (counts.getD i 0))) s
    let s2 := (s1.stopSheddable d y).takeOver d y j (some log)
    let s3 := ((s2.setRole d y 1 15).setRole d.other x (s2.duxRole d.other x) 15).setHome ps d y 15 6
    let s4 := (s3.setBoth (CKP_pSEQ j.part) CKP_pSEQ__SEQ j.nextSeq).setEpoch j.part (j.epoch + 1)
    let s5 := if again then j.held.foldl (fun st o => st.release d o) s4 else s4
    exec (.failover d dux) s = .next (
        (s5.loadSnapshot d y (tget {} (s5.vol.get d).evc.snaps x)).updDux d y (fun u => { u with
          stored := [], storedPos := 0, arriving := none, last := none, mayRelease := false }))) ∧
  (∀ (d : Die) (dux : Fin 12),
    let x := dux.val
    (s.dux d x).replay = some [] →
    s.duxUp d x →
    let ps := (s.homed d x).filter (fun p => decide (s.ckState d p = 6))
    let s1 := (s.updDux d x (fun u => { u with replay := none })).setF d (DUX_dSTAT x) DUX_dSTAT__STATE 1
    exec (.logExhausted d dux) s = .next (
        ps.foldl (fun st p =>
          let us := (st.ns d - (st.ck d p).lostAt.getD (st.ns d)) / 1000
          let a := (st.setCk p 4).setBoth (CKP_pFOVER p) CKP_pFOVER__COUNT
            (satTo 0xFFFF (st.fld d (CKP_pFOVER p) CKP_pFOVER__COUNT + 1))
          let b := (a.setBoth (CKP_pFOVER p) CKP_pFOVER__LAST (satTo 0xFFFF us)).updCk d p (fun k => { k with lostAt := none })
          (((b.homeMoves d p).handOver d p).fireBoth (0x070 + p)).partResetDue p) s1)) ∧
  (∀ (d : Die),
    ¬ (s.alive d) →
    ¬ s.linkUp →
    s.alive d.other →
    exec (.dieLoss d) s = .next (
        if d = 0 ∧ s.split = true then
          ((s.setPhaseWith 8 (fun j => { j with chunks := 0, blocks := 0 })).sendTables 1).startOnOne 0 0
        else
          s.losePartitions d)) ∧
  (∀ (d : Die) (dux : Fin 12),
    let x := dux.val
    let ps := (s.homed d x).filter (fun p => !s.bit d (CKP_pSTAT p) CKP_pSTAT__SHED)
    let st := fun p => s.ckState d p
    ∀ y, s.spareOf d x = some y →
    let ok : Bool := s.duxUp d x && s.duxUp d.other y && s.linkFlows && s.joint d && s.isSealed d.other && (s.dux d x).replay.isNone &&
      decide (ps ≠ []) && ps.all (fun p => decide (st p = 1 ∨ st p = 2 ∨ st p = 4 ∨ st p = 5))
    ok →
    let s1 := (s.jRanges d ps).foldl (fun t r => (t.dropCopies d.other r.1 (r.2 - r.1)).copyRange d d.other r.1 r.2) (s.plNotice d 1 14 x)
    let s2 := (s1.updDux d x DuxSt.dropShadow).updDux d.other y DuxSt.dropShadow
    let s3 := s2.updDux d x (fun u => { u with
      dirty := u.cores.q0.dirty.foldl (fun t e => if t.contains (lineOf64 e.1) then t else lineOf64 e.1 :: t) u.dirty })
    exec (.syncPass d dux) s = .next (
        ps.foldl (fun t p =>
          (((t.setBoth (CKP_pSTAT p) CKP_pSTAT__SPAREDUX y).setCk p 2).setEpoch p 1).setSealed p 0) s3))

/-- Duplexes: comparison, lag, self-test, role swaps and retirement: each command answers the next state of its own effect under
conditions on the state and operands alone. Commands: EGRESS_TRANSACTION, STOPPED_CORE, LAG_STALL, SLOW_COPY, AGREE, EVENT_DELIVERY,
DUPLEX_BIST, BIST_INTERVAL, CKP_ROLE_SWAP_PARTITION, CKP_ROLE_SWAP_DIE, CKP_RESYNC, DUX_RUN_BIST, DUX_RETIRE. Rests on
spec/13_pair_and_spare.md; the model's own choices in it are those of log entries 34, 37. -/
def Obligations.DuplexesComplete : Prop :=
  ∀ s : State,
  (∀ (d : Die) (dux : Fin 12) (line : Option (BitVec 48)),
    let x := dux.val
    s.duxUp d x →
    exec (.egressTransaction d dux line) s = .next (
        match line with
        | some a =>
            s.writeBack d x a.toNat
        | none =>
            match (s.core d x 0).out, (s.core d x 1).out with
            | a :: _, b :: _ =>
                match egMismatch a b with
                | some k =>
                    s.failDux d x k a.addr
                | none =>
                    ((s.updCore d x 0 (fun c => { c with out := c.out.drop 1 })).updCore d x 1 (fun c => { c with
                      out := c.out.drop 1 })).forwardPair d x a
            | _, _ =>
                s)) ∧
  (∀ (d : Die) (dux : Fin 12) (core : Die),
    let x := dux.val
    let o := s.core d x core.other
    let waits := o.wait.isSome || o.offer.isSome || decide ((s.core d x core).out.length < o.out.length)
    s.duxUp d x →
    s.duxState d x = 1 ∨ s.duxState d x = 2 →
    waits →
    ¬ (s.coreWfi d x 0) →
    ¬ (s.coreWfi d x 1) →
    exec (.stoppedCore d dux core) s = .next (s.failDux d x 7 0)) ∧
  (∀ (d : Die) (dux : Fin 12) (us : BitVec 16),
    let x := dux.val
    let u := s.dux d x
    s.duxUp d x →
    s.duxState d x = 1 ∨ s.duxState d x = 2 →
    8192 < u.lag ∨ 20 < us.toNat →
    let goesOn : Bool := match u.stallAt, u.stallEnd with
      | some _, some t => decide (s.ns d < t + 1000)
      | _, _ => false
    exec (.lagStall d dux us) s = .next (
        (((s.setF d (DUX_dSTAT x) DUX_dSTAT__STATE 3).addSat d (DUX_dSTALLS x) DUX_dSTALLS__COUNT 1).setF d (DUX_dLAG x)
          DUX_dLAG__TIME us.toNat).updDux d x (fun u => { u with
            stallAt := if goesOn then u.stallAt else some (s.ns d), waitAt := some (s.ns d) }))) ∧
  (∀ (d : Die) (dux : Fin 12),
    let x := dux.val
    ∀ t, (s.dux d x).stallAt = some t →
    s.duxUp d x →
    s.duxState d x = 3 →
    t + 200000 ≤ s.ns d →
    exec (.slowCopy d dux) s = .next (s.failDux d x 8 0)) ∧
  (∀ (d : Die) (dux : Fin 12) (core : Die) (rd rs1 : Fin 32),
    let x := dux.val
    s.coreMeets d x core →
    let v := BitVec.ofNat 64 ((s.core d x core).regs.get (.x rs1.val))
    let s1 := s.updCore d x core (fun c => { c with offer := some (rd.val, v) })
    exec (.agree d dux core rd rs1) s = .next (
        match (s1.core d x 0).offer, (s1.core d x 1).offer with
        | some (ra, va), some (rb, vb) =>
            let logged := s.replayHead d x
            let res := match logged with
              | some r => u64 r.body 0
              | none => va.toNat
            let n := (s1.core d x 0).count
            let s2 := s1.incWrap d (DUX_dAGREE x) DUX_dAGREE__COUNT
            let s3 := if va = vb then s2 else s2.addSat d (DUX_dAGREE x) DUX_dAGREE__DIFF 1
            let put := fun (st : State) (b : Die) (r : Nat) =>
              let c := st.core d x b
              st.retire d x b (c.counted 0x0B { c.regs.set (.x r) res with pc := c.regs.pc + 4#64 })
            let s4 := put (put s3 0 ra) 1 rb
            if logged.isSome then
              s4.replayPop d x
            else
              s4.logOn d x 0x02 n (toLE 8 res)
        | _, _ =>
            s1)) ∧
  (∀ (d : Die) (dux : Fin 12) (line : Fin 6),
    let x := dux.val
    let u := s.dux d x
    let bit := lineBit line.val
    s.duxUp d x →
    ¬ u.replay.isSome →
    ¬ u.call.isSome →
    ¬ u.endAt.isSome →
    ¬ ((s.runningOn d x).isNone) →
    exec (.eventDelivery d dux line) s = .next (
        match s.urgentOn d x line.val with
        | some (n, pr) =>
            if s.lineSet d x bit then
              s
            else
              s.schedule d x bit true (toLE 2 n ++ toLE 1 pr ++ toLE 5 0)
        | none =>
            if s.lineSet d x bit then
              s.schedule d x bit false
            else
              s)) ∧
  (∀ (d : Die) (dux : Fin 12) (passed : Bool),
    let x := dux.val
    let st := s.duxState d x
    s.alive d →
    decide (st = 5) || decide (st = 6) →
    let s0 := (s.bistDone d x).updDux d x (fun u => { u with lastBist := s.ns d })
    let day := 86400000000000
    let twice := decide (2 ≤ ((s.dux d x).fails.filter (fun t => decide (s.ns d < t + day))).length)
    let home := s.lonelyHome d x
    exec (.duplexBist d dux passed) s = .next (
        if passed && !(decide (st = 6) && twice) then
          let s1 := s0.idleDux d x
          if st = 6 then
            match home with
            | some h =>
                s1.giveSpare d x h
            | none =>
                s1
          else
            s1
        else
          let serves := s.fld d (DUX_dSTAT x) DUX_dSTAT__SERVES
          let lost := if s.duxRole d x = 2 ∧ serves < 12 then some serves else home
          let s1 := match lost with
            | some h => (s0.goAlone d.other h 4)
            | none => s0
          let s2 := (s1.stopSheddable d x).retireDux d x
          match lost, s2.freeSpare d with
          | some h, some y =>
              ((s2.stopSheddable d y).giveSpare d y h).recordBoth (0x0300 + y) 0x17 (y + 2 ^ 8 * d.val) 0 3
          | some h, none =>
              ((s2.homed d.other h).foldl (fun st p => st.setBoth (CKP_pSTAT p) CKP_pSTAT__SPAREDUX 15) s2).recordBoth (0x0300 + x) 0x17
                (x + 2 ^ 8 * d.val) 0 9
          | none, _ =>
              s2)) ∧
  (∀ (d : Die) (dux : Fin 12),
    let x := dux.val
    let u := s.dux d x
    let hours := s.fld d (DUX_dCFG x) DUX_dCFG__BISTINT
    s.duxUp d x →
    0 < hours →
    u.lastBist + hours * 3600000000000 ≤ s.ns d →
    exec (.bistInterval d dux) s = .next (
        if s.duxRole d x = 2 ∧ u.replay.isNone = true then
          (s.stopSheddable d x).setF d (DUX_dSTAT x) DUX_dSTAT__STATE 5
        else if s.duxRole d x = 1 ∧ s.canSwap d x = true then
          s.askSwap d x
        else
          s)) ∧
  (∀ (d : Die) (who : Initiator) (confirm : BitVec 8) (p : Fin 32),
    let h := s.homeDie p.val
    let x := s.homeDux d p.val
    s.duxHears d who confirm 0x4E →
    s.homedAt h p.val x →
    s.canSwap h x →
    exec (.ckpRoleSwapPartition d who confirm p) s = .next ((s.askSwap h x).ckpResult 1)) ∧
  (∀ (d : Die) (who : Initiator) (confirm : BitVec 8) (die : Die),
    let xs := (List.range 12).filter (fun x => decide (s.duxRole die x = 1) && decide (s.homed die x ≠ []))
    s.duxHears d who confirm 0x4E →
    xs ≠ [] →
    xs.all (fun x => s.canSwap die x) →
    exec (.ckpRoleSwapDie d who confirm die) s = .next ((xs.foldl (fun st x => st.askSwap die x) s).ckpResult 1)) ∧
  (∀ (d : Die) (who : Initiator) (confirm : BitVec 8) (p : Fin 32),
    let h := s.homeDie p.val
    let x := s.homeDux d p.val
    let st := s.ckState d p.val
    s.duxHears d who confirm 0x4E →
    s.linkUp →
    (s.spareOf h x).isSome →
    st = 3 ∨ st = 4 ∨ st = 5 →
    ¬ (s.bit d (CKP_pSTAT p.val) CKP_pSTAT__SHED) →
    exec (.ckpResync d who confirm p) s = .next (((s.goAlone h x 2).setCk p.val 2).ckpResult 1)) ∧
  (∀ (d : Die) (who : Initiator) (confirm : BitVec 8) (dux : BitVec 4),
    let x := dux.toNat
    let res := fun (st : State) (r : Nat) => st.setF d DUX_CMDRES DUX_CMDRES__RESULT r
    s.duxHears d who confirm 0x3D →
    x < 12 →
    s.duxUp d x ≠ false →
    exec (.duxRunBist d who confirm dux) s = .next (
        if s.duxRole d x = 1 then
          if s.canSwap d x then
            res ((s.askSwap d x).updDux d x (fun u => { u with lastBist := 0, bistCmd := true })) 1
          else
            res s 2
        else if s.duxRole d x = 2 ∧ (s.dux d x).replay.isNone = true then
          res (((s.stopSheddable d x).setF d (DUX_dSTAT x) DUX_dSTAT__STATE 5).updDux d x (fun u => { u with bistCmd := true })) 1
        else
          res s 2)) ∧
  (∀ (d : Die) (who : Initiator) (confirm : BitVec 8) (dux : BitVec 4),
    let x := dux.toNat
    let res := fun (st : State) (r : Nat) => st.setF d DUX_CMDRES DUX_CMDRES__RESULT r
    s.duxHears d who confirm 0x3D →
    x < 12 →
    s.duxRole d x ≠ 1 →
    s.duxRole d x ≠ 3 →
    let serves := s.fld d (DUX_dSTAT x) DUX_dSTAT__SERVES
    let s1 := if s.duxRole d x = 2 ∧ serves < 12 then s.goAlone d.other serves 4 else s
    exec (.duxRetire d who confirm dux) s = .next (res ((s1.stopSheddable d x).retireDux d x) 3))

/-- Sealed calls, partition restarts, pins and region guards: each command answers the next state of its own effect under conditions on
the state and operands alone. Commands: WGATE, WENTRY, WRET, HGATP_WRITE, WLD_RESET_ACK, WLD_RESTART, PIN_WRITE,
SEALED_WATCHDOG_EXPIRY, SEALED_RESTART_RELOAD, SEALED_STATE_NOTICE, RGD_READ, RGD_WRITE. Rests on spec/14_worlds_and_partitions.md;
the model's own choices in it are those of log entry 33. -/
def Obligations.WorldsComplete : Prop :=
  ∀ s : State,
  (∀ (d : Die) (dux : Fin 12) (core : Die) (imm : BitVec 8),
    let x := dux.val
    let g := imm.toNat
    s.coreMeets d x core →
    let c := s.core d x core
    let p := c.regs.vmid
    exec (.wgate d dux core imm) s = .next (
        if c.sealed then
          s.trap d x core illegalInsn 0
        else
          match s.gateDenied d x core g with
          | some code =>
              let s1 := if core = 0 then s.addSat d WLD_SDENY WLD_SDENY__COUNT 1 else s
              let s2 := if core = 0 ∧ code = sealedUnavailable then s1.logOn d x 0x07 c.count (toLE 8 code) else s1
              s2.retire d x core { c.regs.set (.x 10) code with pc := c.regs.pc + 4#64 }
          | none =>
              let a := s.rd64 d (WLD_GATEiL g) (WLD_GATEiH g) % 2 ^ 48
              let s1 := (s.coreWrite d x core (s.saveSlot d p) c.regs.slotBytes).retire d x core { c.regs with pc := BitVec.ofNat 64 a }
              let s2 := s1.updCore d x core (fun c => { c with sealed := true, entry := true })
              if (s2.dux d x).call.isSome then
                s2
              else
                (s2.updDux d x (fun u => { u with call := some ⟨g, p, s.ns d, 0⟩ })).showCall d x p (some g))) ∧
  (∀ (d : Die) (dux : Fin 12) (core : Die),
    let x := dux.val
    let c := s.core d x core
    s.canRun d x core →
    exec (.wentry d dux core) s = .next (
        if c.sealed && c.entry then
          (s.updCore d x core (fun c => { c with entry := false })).retire d x core { c.regs with pc := c.regs.pc + 4#64 }
        else
          s.insn d x core (fun s => s.trap d x core illegalInsn 0x300B))) ∧
  (∀ (d : Die) (dux : Fin 12) (core : Die),
    let x := dux.val
    s.coreMeets d x core →
    let c := s.core d x core
    exec (.wret d dux core) s = .next (
        if !c.sealed then
          s.trap d x core illegalInsn 0x400B
        else
          let slot := s.coreBytes d c (s.saveSlot d c.regs.vmid) 528
          let r := restoreCall c.regs slot true
          let r1 := if 2 ^ 63 ≤ c.regs.get (.x 10) then
              ((List.range 7).foldl (fun r i => r.set (.x (11 + i)) 0) r).set (.x 10) sealedFault else r
          let s1 := (s.retire d x core r1).leaveCall d x core
          if (s1.dux d x).call.isNone then
            s1.incWrap d WLD_SCALLS WLD_SCALLS__COUNT
          else
            s1)) ∧
  (∀ (d : Die) (dux : Fin 12) (core : Die) (v : BitVec 64),
    let x := dux.val
    s.coreMeets d x core →
    let c := s.core d x core
    let old := c.regs.get (.csr 0x680)
    let q := v.toNat / 2 ^ 44 % 32
    let mode := v.toNat / 2 ^ 60
    let m := if mode = 0 ∨ mode = 8 ∨ mode = 9 then mode else old / 2 ^ 60
    let new := m * 2 ^ 60 + q * 2 ^ 44 + v.toNat % 2 ^ 44
    exec (.hgatpWrite d dux core v) s = .next (
        if c.sealed ∨ c.regs.priv = 0 then
          s.trap d x core (if c.regs.virt ∧ c.sealed = false then virtualInsn else illegalInsn) 0
        else if c.regs.virt then
          s.trap d x core virtualInsn 0
        else if q = c.regs.vmid then
          s.retire d x core { c.regs.set (.csr 0x680) new with pc := c.regs.pc + 4#64 }
        else if s.defined d q && s.homedAt d q x && decide (s.ckState d q ≠ 6) then
          let s1 := s.updDux d x (fun u => { u with next := some q, endAt := some (c.count + 1) })
          s1.retire d x core { c.regs.set (.csr 0x680) new with pc := c.regs.pc + 4#64 }
        else
          (if core = 0 then s.addSat d WLD_VMIDREF WLD_VMIDREF__COUNT 1 else s).trap d x core illegalInsn 0)) ∧
  (∀ (d : Die) (who : Initiator) (confirm : BitVec 8) (p : Fin 32),
    s.duxHears d who confirm 0x9E →
    s.bit d (WLD_pSTAT p) WLD_pSTAT__RST →
    s.fld d (ZGP_RpSTAT p) ZGP_RpSTAT__ROLE = 0 ∨ s.fld d (ZGP_RpSTAT p) ZGP_RpSTAT__STATE = 1 →
    exec (.wldResetAck d who confirm p) s = .next (
        (s.setBoth (WLD_pSTAT p) WLD_pSTAT__RST 0).setF d WLD_CMDRES WLD_CMDRES__RESULT 3)) ∧
  (∀ (d : Die) (who : Initiator) (confirm : BitVec 8),
    s.duxHears d who confirm 0x9E →
    s.fld d WLD_STAT WLD_STAT__SSTATE = 2 →
    exec (.wldRestart d who confirm) s = .next (
        if s.mayRestart d then
          (s.beginRestart d).setF d WLD_CMDRES WLD_CMDRES__RESULT 1
        else
          (s.setSealedState d 4).setF d WLD_CMDRES WLD_CMDRES__RESULT 2)) ∧
  (∀ (d : Die) (who : Initiator) (pin : Fin 16) (oe out : Bool),
    let j := pin.val
    s.alive d →
    s.ownsPin d who j →
    let s1 := (s.setF d (WLD_PINj j) WLD_PINj__OE (b2n oe)).setF d (WLD_PINj j) WLD_PINj__OUT (b2n out)
    let drives : Bool := match who with
      | .part p => decide (s.homeDie p.val = d)
      | _ => true
    exec (.pinWrite d who pin oe out) s = .next (
        if drives && oe && s.cis.firstSeal then
          s1.pinLevel j out
        else
          s1)) ∧
  (∀ (d : Die) (dux : Fin 12),
    let x := dux.val
    ∀ k, (s.dux d x).call = some k →
    let st := s.duxState d x
    s.duxUp d x →
    ¬ ((s.dux d x).replay.isSome) →
    st ≠ 3 →
    st ≠ 4 →
    200000 ≤ s.callNs d k →
    let s1 := (s.endCallOf d x).addSat d WLD_SABORT WLD_SABORT__HANG 1
    let s2 := (s1.recordBoth 0x0600 0x11 (k.gate + 2 ^ 8 * k.part) 0x0E 0).updDux d x (fun u => { u with
      call := u.call.map (fun k => { k with since := s.ns d, idle := 0 }) })
    exec (.sealedWatchdogExpiry d dux) s = .next (
        if s2.fld d WLD_STAT WLD_STAT__SSTATE ≠ 1 then
          s2
        else
          let s3 := s2.setSealedState d 2
          if !s3.mayRestart d then
            s3.setSealedState d 4
          else if s3.bit d WLD_SCFG WLD_SCFG__RESTART then
            s3.beginRestart d
          else
            s3)) ∧
  (∀ (codes0 codes1 : List (List Byte)),
    let late := s.onDies (fun st d => if (st.wld d).restartAt + 10000000 ≤ st.ns d then
        (List.range 12).foldl (fun st x => if (st.dux d x).journal.isSome then st.goAlone d x 5 else st) st
      else st)
    let busy := fun (d : Die) => late.alive d && (List.range 12).any (fun x => (late.dux d x).journal.isSome || (late.dux d x).ckpt) &&
      decide (late.ns d < (late.wld d).restartAt + 10000000)
    let on := fun (d : Die) => late.alive d && decide (late.fld d WLD_STAT WLD_STAT__SSTATE = 3)
    let here := fun (d : Die) => on d || (on d.other && late.joint d)
    on 0 || on 1 →
    ¬ (here 0 && busy 0) →
    ¬ (here 1 && busy 1) →
    let s1 := if here 0 then late.reload 0 codes0 else late
    exec (.sealedRestartReload codes0 codes1) s = .next (
        if here 1 then
          s1.reload 1 codes1
        else
          s1)) ∧
  (∀ (d : Die),
    ∀ st, (s.wld d).notice = some st →
    s.alive d →
    exec (.sealedStateNotice d) s = .next (
        ((s.updWld d (fun w => { w with notice := none, restartAt := s.ns d })).setF d WLD_STAT WLD_STAT__SSTATE st).fire d 0x090)) ∧
  (∀ (d : Die) (who : Initiator) (confirm : BitVec 8) (guard : BitVec 4) (region : Fin 64),
    let g := guard.toNat
    let r := region.val
    s.duxHears d who confirm 0xA7 →
    g < 13 →
    exec (.rgdRead d who confirm guard region) s = .next (
        ((((s.wr d (RGD_BUFi 0) (s.rd d (RGD_g_rBASE g r))).wr d (RGD_BUFi 1) (s.rd d (RGD_g_rLIMIT g r))).wr d (RGD_BUFi 2)
          (s.rd d (RGD_g_rPART g r))).wr d (RGD_BUFi 3) (s.rd d (RGD_g_rCTL g r))).rgdResult d 2 0 0)) ∧
  (∀ (d : Die) (who : Initiator) (confirm : BitVec 8) (mirror : Bool) (guard : BitVec 4) (region : Fin 64),
    let g := guard.toNat
    let r := region.val
    let w := fun i => (s.rd d (RGD_BUFi i)).toNat
    s.duxHears d who confirm 0xA7 →
    let why := s.rgdReason d g r (w 0) (w 1) (w 2) (w 3)
    why = 0 →
    let s1 := s.putRegion d g r (w 0) (w 1) (w 2) (w 3)
    exec (.rgdWrite d who confirm mirror guard region) s = .next (
        if mirror && s.joint d then
          (s1.putRegion d.other g r (w 0) (w 1) (w 2) (w 3)).rgdResult d 2 1 0
        else
          s1.rgdResult d 2 0 0))

/-- Application cores and the event controller: each command answers the next state of its own effect under conditions on the state and
operands alone. Commands: CKPT, WFI_WAKE, COUNTER_OVERFLOW, CACHE_ECC_ERROR, DUPLEX_START, APPLICATION_CORE_INSTRUCTION,
SOURCE_FIRE, MODERATION_TIMEOUT, CLAIM_M, CLAIM_S, CLAIM_V, EOI_M, EOI_S, EOI_V, THRESHOLD_WRITE, SOFTWARE_SET, TIMER_COMPARE_WRITE,
TIMER_EXPIRY, PARTNER_EVC_WRITE. Rests on spec/15_application_cores.md, spec/16_event_controller.md; the model's own choices in it
are those of log entries 11, 35. -/
def Obligations.CoresAndEventsComplete : Prop :=
  ∀ s : State,
  (∀ (d : Die) (dux : Fin 12) (core : Die),
    let x := dux.val
    s.coreMeets d x core →
    let c := s.core d x core
    let cfg := c.regs.get (.csr 0x7C0)
    exec (.ckpt d dux core) s = .next (
        if c.sealed then
          s.trap d x core illegalInsn 0x100B
        else if c.regs.virt && bitOf cfg 1 then
          s.trap d x core virtualInsn 0x100B
        else if c.regs.priv = 0 ∧ c.regs.virt = false ∧ bitOf cfg 0 = true then
          s.trap d x core illegalInsn 0x100B
        else
          let s1 := s.retire d x core { c.regs with pc := c.regs.pc + 4#64 }
          s1.updDux d x (fun u => match u.ckptBy with
            | some o => if o = core then u else { u with ckpt := true }
            | none => { u with ckptBy := some core }))) ∧
  (∀ (d : Die) (dux : Fin 12) (core : Die),
    let x := dux.val
    let c := s.core d x core
    s.duxUp d x →
    s.coreWfi d x core →
    exec (.wfiWake d dux core) s = .next (
        match s.replayHead d x with
        | some r =>
            if r.typ = 6 ∧ r.count = c.count then
              let s1 := s.setWfi d x core false
              if s.coreWfi d x core.other then
                s1
              else
                s1.replayPop d x
            else if c.regs.wakes then
              s.setWfi d x core false
            else
              s
        | none =>
            if c.regs.wakes then
              let s1 := s.setWfi d x core false
              if core = 0 then
                s1.logOn d x 0x06 c.count (toLE 8 (s.ns d))
              else
                s1
            else
              s)) ∧
  (∀ (d : Die) (dux : Fin 12),
    let x := dux.val
    let u := s.dux d x
    s.duxUp d x →
    ¬ u.call.isSome →
    ¬ u.replay.isSome →
    ¬ (s.lineSet d x 13) →
    ¬ ((s.runningOn d x).isNone) →
    exec (.counterOverflow d dux) s = .next (
        if u.endAt.isSome then
          s.updDux d x (fun u => { u with overflow := true })
        else
          s.schedule d x 13 true (toLE 2 (0x040 + x) ++ toLE 6 0))) ∧
  (∀ (d : Die) (dux : Fin 12) (core : Die) (kind : Fin 4) (line : BitVec 48),
    let x := dux.val
    s.duxUp d x →
    let rec7 := fun (st : State) (m : Nat) => st.recordBoth (0x0300 + x) 0x07 (m + 256 * (2 * x + core.val)) 0 line.toNat
    exec (.cacheEccError d dux core kind line) s = .next (
        match kind with
        | 0 =>
            rec7 s 0x09
        | 1 =>
            rec7 s 0x0A
        | 2 =>
            rec7 (s.updCore d x core (fun c => { c with lines := c.lines.filter (fun a => decide (a ≠ lineOf64 line.toNat)) })) 0x09
        | 3 =>
            s.updCore d x core (fun c => { c with stopped := true }))) ∧
  (∀ (d : Die) (dux : Fin 12),
    let x := dux.val
    let shed := fun p => s.bit d (CKP_pSTAT p) CKP_pSTAT__SHED
    let role := s.duxRole d x
    let ps := (s.homed d x).filter (fun p => s.defined d p && decide (if shed p = true then role = 2 else role = 1))
    ∀ p u7, ps = p :: u7 →
    s.alive d →
    s.isSealed d →
    s.duxState d x = 0 →
    ¬ (s.apart && decide (d = 1)) →
    exec (.duplexStart d dux) s = .next (
        match (s.wld d).entry with
        | none =>
            if (s.wld d).noEntry then
              s
            else
              (s.record d 0x0300 0x12 0 0 0).updWld d (fun w => { w with noEntry := true })
        | some e =>
            let core : AppCore := { regs := startRegs e (d.val * 12 + x) p, run := true }
            let s1 := s.updDux d x (fun u => { u with cores := ⟨core, core⟩, began := s.ns d })
            let s2 := ((s1.setF d (DUX_dSTAT x) DUX_dSTAT__STATE 1).setF d (DUX_dSTAT x) DUX_dSTAT__PART p).setF d (DUX_dSTAT x)
              DUX_dSTAT__PVALID 1
            ps.foldl (fun st q => if shed q ∨ st.linkUp = false ∨ st.alive d.other = false then st.setF d (CKP_pSTAT q) CKP_pSTAT__STATE 4 else st) s2)) ∧
  (∀ (d : Die) (dux : Fin 12) (core : Die) (w : Word),
    let x := dux.val
    ¬ (moduleInsn w) →
    ¬ (csrInsn w && decide (csrOf w = 0x680) && csrWrites w) →
    s.coreMeets d x core →
    let c := s.core d x core
    let va := c.regs.pc.toNat
    let t := s.xlate d c.tags c .fetch va
    let s1 := t.2.2.updCore d x core (fun c => { c with tlb := t.2.1 })
    exec (.applicationCoreInstruction d dux core w) s = .next (
        match t.1 with
        | .ok pa =>
            if s1.verdict d c.tags pa (insnLen w) .fetch false false = .ok 0 then
              s1.coreInsn d x core w
            else
              (if s1.memAdmits d pa (insnLen w) c.tags .fetch then s1 else s1.memRefuse d pa c.tags .fetch).trap d x core 1 va
        | r =>
            s1.xlateTrap d x core .fetch va r)) ∧
  (∀ (d : Die) (src : Fin 1024),
    s.alive d →
    isEdgeSrc src.val →
    src.val ≠ guestWait →
    exec (.sourceFire d src) s = .next (s.fire d src.val)) ∧
  (∀ (d : Die) (src : Fin 1024),
    let n := src.val
    s.alive d →
    (s.src d n).pending →
    s.bit d (EVC_sROUTE n) EVC_sROUTE__MOD →
    s.bit d (EVC_sMOD n) EVC_sMOD__TIME →
    (s.src d n).firstAt + 1000 * s.fld d (EVC_sMOD n) EVC_sMOD__TIME ≤ s.ns d →
    exec (.moderationTimeout d src) s = .next (s.updSrc d n (fun e => { e with ripe := true }))) ∧
  (∀ (d : Die) (dux : Fin 12),
    s.duxUp d dux.val →
    (s.runningOn d dux.val).isSome →
    (s.replayHead d dux.val).isNone →
    let r := s.claim d dux.val 0
    exec (.claimM d dux) s = .next (
        (r.2.logOn d dux.val 0x01 (s.core d dux.val 0).count (toLE 8 (0x50000000 + EVC_CLAIMM) ++ toLE 4 r.1)).reply (.value r.1))) ∧
  (∀ (d : Die) (dux : Fin 12),
    s.duxUp d dux.val →
    (s.runningOn d dux.val).isSome →
    (s.replayHead d dux.val).isNone →
    let r := s.claim d dux.val 1
    exec (.claimS d dux) s = .next (
        (r.2.logOn d dux.val 0x01 (s.core d dux.val 0).count (toLE 8 (0x50000000 + EVC_CLAIMS) ++ toLE 4 r.1)).reply (.value r.1))) ∧
  (∀ (d : Die) (dux : Fin 12),
    s.duxUp d dux.val →
    (s.runningOn d dux.val).isSome →
    (s.replayHead d dux.val).isNone →
    let r := s.claim d dux.val 2
    exec (.claimV d dux) s = .next (
        (r.2.logOn d dux.val 0x01 (s.core d dux.val 0).count (toLE 8 (0x50000000 + EVC_CLAIMV) ++ toLE 4 r.1)).reply (.value r.1))) ∧
  (∀ (d : Die) (dux : Fin 12) (src : Fin 1024),
    s.duxUp d dux.val →
    (s.runningOn d dux.val).isSome →
    exec (.eoiM d dux src) s = .next (s.eoi d dux.val 0 src.val)) ∧
  (∀ (d : Die) (dux : Fin 12) (src : Fin 1024),
    s.duxUp d dux.val →
    (s.runningOn d dux.val).isSome →
    exec (.eoiS d dux src) s = .next (s.eoi d dux.val 1 src.val)) ∧
  (∀ (d : Die) (dux : Fin 12) (src : Fin 1024),
    s.duxUp d dux.val →
    (s.runningOn d dux.val).isSome →
    exec (.eoiV d dux src) s = .next (s.eoi d dux.val 2 src.val)) ∧
  (∀ (d : Die) (dux : Fin 12) (level : Fin 3) (thr : BitVec 6),
    s.duxUp d dux.val →
    ¬ ((s.runningOn d dux.val).isNone) →
    exec (.thresholdWrite d dux level thr) s = .next (
        s.selfWrite d dux.val (match level with | 0 => EVC_THRM | 1 => EVC_THRS | 2 => EVC_THRV) thr.toNat)) ∧
  (∀ (d : Die) (who : Initiator) (set : BitVec 16),
    let m := s.settable d who set.toNat
    s.alive d →
    m ≠ 0 →
    exec (.softwareSet d who set) s = .next ((s.fireMask d m).passEvc d 0 0 m)) ∧
  (∀ (d : Die) (who : Initiator) (t : Fin 48) (high : Bool) (v : Word),
    let k := t.val
    s.alive d →
    Initiator.mayTimer who k →
    exec (.timerCompareWrite d who t high v) s = .next (
        if high then
          let low := (tget none (s.vol.get d).evc.heldLow k).getD (s.rd d (EVC_TtCMPL k))
          let s1 := s.updVol d (fun u => { u with evc := { u.evc with heldLow := tset none u.evc.heldLow k none } })
          ((s1.wr d (EVC_TtCMPL k) low).wr d (EVC_TtCMPH k) v).passEvc d 1 k (low.toNat + 2 ^ 32 * v.toNat)
        else
          s.updVol d (fun u => { u with evc := { u.evc with heldLow := tset none u.evc.heldLow k (some v) } }))) ∧
  (∀ (d : Die) (t : Fin 48),
    exec (.timerExpiry d t) s = .next (s.reply (.value (b2n (s.srcPending d (0x010 + t.val)))))) ∧
  (∀ (d : Die),
    ∀ kind idx v l, (s.vol.get d).evcIn = (kind, idx, v) :: l →
    let s1 := s.updVol d (fun u => { u with evcIn := l })
    exec (.partnerEvcWrite d) s = .next (
        if kind = 0 then
          s1.fireMask d v
        else if kind = 1 then
          s1.wr64 d (EVC_TtCMPL idx) (EVC_TtCMPH idx) v
        else
          s1.setThr d idx idx (kind - 2) v))

/-- The Cistern: supervision, regulators, sleep and wake: each command answers the next state of its own effect under conditions on the
state and operands alone. Commands: LANE_DISAGREEMENT, HOLDER_SILENT, SUPERVISOR_TIMEOUT, REGULATOR_FAILURE, REGULATOR_RESTART,
RTC_CRYSTAL_STOP, SLEEP_DROWSE, SLEEP_DORMANT, SLEEP_SENTINEL, COMMIT_POINT, SLEEP_TIMEOUT, STANDBY_RELEASE, WAKE_FROM_DROWSE,
WAKE_FROM_DORMANT, WAKE_FROM_SENTINEL, WAKE_PIN_EDGE, RTC_ALARM, ALARM_WRITE. Rests on spec/17_cistern_energy.md; the model's own
choices in it are those of log entries 47, 51. -/
def Obligations.CisternSupervisionCompletes : Prop :=
  ∀ s : State,
  (∀ (lane : Fin 3),
    let l := lane.val
    let fenced := s.fld 0 CIS_LANE CIS_LANE__FENCED
    ¬ (bitOf fenced l) →
    exec (.laneDisagreement lane) s = .next (
        if fenced ≠ 0 then
          s.moduleReset 0x08 4
        else
          let ts := s.rtc :: (tget [] s.cis.pw.laneTimes l).filter (fun t => decide (s.rtc < t + rtcDay))
          let s1 := (s.addSat 0 CIS_LANE CIS_LANE__RESYNC 1).updPw (fun p => { p with laneTimes := tset [] p.laneTimes l ts })
          let s2 := s1.recordBoth 0x0100 0x17 l 0x0A 8
          if 3 ≤ ts.length then
            (s2.setF 0 CIS_LANE CIS_LANE__FENCED (withBit fenced l true)).setF 0 CIS_STAT CIS_STAT__LANEOK
              (withBit (s2.fld 0 CIS_STAT CIS_STAT__LANEOK) l false)
          else
            s2)) ∧
  (∀ (d : Die),
    exec (.holderSilent d) s = .next (
        (List.range 9).foldl (fun st t => if st.holder t = d then st.faultMove t d.other else st) s)) ∧
  (
    s.pstate ≤ 1 →
    exec .supervisorTimeout s = .next (s.moduleReset 0x07 4)) ∧
  (∀ (d : Die),
    (s.keep.get d).supplied →
    let s0 := if (s.keep.get d.other).supplied then s else s.loseField
    let s1 := (s0.stopDie d .off).loseDram d
    let s2 := s1.updKeep d (fun k => { k with supplied := false, dramRefresh := false })
    exec (.regulatorFailure d) s = .next (
        (s2.setF 0 CIS_STAT (if d = 0 then CIS_STAT__REG0 else CIS_STAT__REG1) 1).updPw (fun p => { p with
          failAt := tset 0 p.failAt d.val s.rtc }))) ∧
  (∀ (d : Die) (ok : Bool),
    let f := if d = 0 then CIS_STAT__REG0 else CIS_STAT__REG1
    let ts := (tget [] s.cis.pw.regTimes d.val).filter (fun t => decide (s.rtc < t + rtcDay))
    s.bit 0 CIS_STAT f →
    ts.length < 3 →
    s.pstate < 2 →
    32768 ≤ (s.rtc - tget 0 s.cis.pw.failAt d.val) * 10 →
    let s1 := s.updPw (fun p => { p with
      regTimes := tset [] p.regTimes d.val (s.rtc :: ts), failAt := tset 0 p.failAt d.val s.rtc })
    exec (.regulatorRestart d ok) s = .next (
        if ok then
          ((s1.setF 0 CIS_STAT f 0).updKeep d (fun k => { k with supplied := true })).dieReset d 0x12 4
        else
          s1)) ∧
  (
    exec .rtcCrystalStop s = .next ((s.setF 0 CIS_STAT CIS_STAT__RTCOSC 1).setF 0 CIS_EVT CIS_EVT__HEALTH 1)) ∧
  (∀ (d : Die) (who : Initiator) (confirm tag : BitVec 8) (pin : Fin 8) (usePin : Bool),
    s.alive d →
    who.isManager →
    confirm.toNat = 0xD5 →
    s.newTag 0 who tag.toNat →
    ¬ s.bit 0 CIS_STAT CIS_STAT__PREP →
    let w := if usePin then pin.val else s.fld 0 CIS_CFG CIS_CFG__SPIN
    let t := ((s.noteTag 0 who tag.toNat).setF 0 CIS_SLEEPST CIS_SLEEPST__TAG tag.toNat).setF 0 CIS_SLEEPST CIS_SLEEPST__TARGET 1
    exec (.sleepDrowse d who confirm tag pin usePin) s = .next (
        ((t.updPw (fun p => { p with target := 1, pin := w })).sleepResult 1).prepare)) ∧
  (∀ (d : Die) (who : Initiator) (confirm tag : BitVec 8) (pin : Fin 8) (usePin : Bool),
    s.alive d →
    who.isManager →
    confirm.toNat = 0xD5 →
    s.newTag 0 who tag.toNat →
    ¬ s.bit 0 CIS_STAT CIS_STAT__PREP →
    let w := if usePin then pin.val else s.fld 0 CIS_CFG CIS_CFG__SPIN
    let t := ((s.noteTag 0 who tag.toNat).setF 0 CIS_SLEEPST CIS_SLEEPST__TAG tag.toNat).setF 0 CIS_SLEEPST CIS_SLEEPST__TARGET 2
    exec (.sleepDormant d who confirm tag pin usePin) s = .next (
        ((t.updPw (fun p => { p with target := 2, pin := w })).sleepResult 1).prepare)) ∧
  (∀ (d : Die) (who : Initiator) (confirm tag : BitVec 8) (pin : Fin 8) (usePin : Bool),
    s.alive d →
    who.isManager →
    confirm.toNat = 0xD5 →
    s.newTag 0 who tag.toNat →
    ¬ s.bit 0 CIS_STAT CIS_STAT__PREP →
    let w := if usePin then pin.val else s.fld 0 CIS_CFG CIS_CFG__SPIN
    bitOf (s.rd 0 CIS_WAKECFG).toNat (4 * w) →
    let t := ((s.noteTag 0 who tag.toNat).setF 0 CIS_SLEEPST CIS_SLEEPST__TAG tag.toNat).setF 0 CIS_SLEEPST CIS_SLEEPST__TARGET 3
    exec (.sleepSentinel d who confirm tag pin usePin) s = .next (
        ((t.updPw (fun p => { p with target := 3, pin := w })).sleepResult 1).prepare)) ∧
  (∀ (can : BitVec 4) (eth : BitVec 24) (edges : BitVec 8) (prepUs : BitVec 16),
    let s := s.lagOn
    s.bit 0 CIS_STAT CIS_STAT__PREP →
    s.prepared →
    let t := s.cis.pw.target
    let s0 := (s.setF 0 CIS_SLEEPST CIS_SLEEPST__PREPUS prepUs.toNat).setF 0 CIS_SLEEPST CIS_SLEEPST__TARGET t
    exec (.commitPoint can eth edges prepUs) s = .next (
        if s.sources t can eth edges ≠ 0 then
          s0.sleepOver 3
        else
          let s1 := (s0.sleepLeave.defaultGrant t).endErrandWake
          let s2 := (s1.setF 0 CIS_STAT CIS_STAT__PREP 0).updPw (fun p => { p with latched := 0, granted := false })
          if t = 3 then
            s2.enterSentinel
          else
            let s3 := (List.range 19).foldl (fun st sd => st.enterStandby sd) s2
            if t = 1 then
              (((s3.gateIslands 0 false).gateIslands 1 false)).setF 0 CIS_STAT CIS_STAT__STATE 1
            else
              let s4 := s3.onDies (fun st d => st.putRetention (0x400 * d.val) (st.evcImage d))
              let s5 := (List.range 16).foldl (fun st i => if st.errandState i = 2 then st.setErrand i 1 else st) s4
              ((s5.setF 0 CIS_STAT CIS_STAT__STATE 2).offBoth).floorReached)) ∧
  (
    s.bit 0 CIS_STAT CIS_STAT__PREP →
    ¬ s.prepared →
    s.cis.pw.prepAt + 20000000 ≤ s.ns s.anyDie →
    exec .sleepTimeout s = .next (s.sleepOver 4)) ∧
  (∀ (sd : Fin 19),
    s.inRun →
    (s.sd sd.val).standby →
    exec (.standbyRelease sd) s = .next (s.leaveStandby sd.val)) ∧
  (∀ (eth : BitVec 24),
    let src := Nat.lor s.cis.pw.latched (s.sources 1 0#4 eth 0#8)
    s.pstate = 1 →
    src ≠ 0 →
    let s1 := (s.showWake src).setF 0 CIS_STAT CIS_STAT__STATE 0
    let s2 := ((((s1.gateIslands 0 true).gateIslands 1 true).resumeNibs).drainFifos 0).drainFifos 1
    exec (.wakeFromDrowse eth) s = .next (
        (List.range 19).foldl (fun st sd => st.sendEntry (st.driver (st.anyDie) sd) sd) s2)) ∧
  (∀ (eth : BitVec 24),
    let src := Nat.lor s.cis.pw.latched (s.sources 2 0#4 eth 0#8)
    s.pstate = 2 →
    src ≠ 0 →
    let s1 := (s.showWake src).setF 0 CIS_STAT CIS_STAT__STATE 0
    let up := fun (st : State) (d : Die) =>
      if st.bit 0 CIS_STAT (if d = 0 then CIS_STAT__REG0 else CIS_STAT__REG1) then st
      else (st.updKeep d (fun k => { k with supplied := true, run := .held })).causeRecord 0 (rstDie d) 0x14 4
    let s2 := ((up (up s1 0) 1).grantAll 0).updPw (fun p => { p with restore := ⟨true, true⟩ })
    exec (.wakeFromDormant eth) s = .next (
        if bitOf src 16 then
          s2.updLed (fun l => { l with forErrand := true, runStart := s.rtcSec, runEnergy := 0 })
        else
          s2)) ∧
  (
    let src := Nat.lor s.cis.pw.latched (s.sources 3 0#4 0#24 0#8)
    s.pstate = 3 →
    src ≠ 0 →
    let s1 := s.updKeep 0 (fun k => { k with supplied := true })
    let s2 := s1.updKeep 1 (fun k => { k with supplied := true })
    exec .wakeFromSentinel s = .next (
        ((s2.moduleReset 0x06 4).wr 0 CIS_WAKE (BitVec.ofNat 32 (3 + src))).setF 0 CIS_EVT CIS_EVT__SLEEP 1)) ∧
  (∀ (pin : Fin 8) (level : Bool),
    let j := pin.val
    let c := s.pinCfg j
    let s1 := s.updPw (fun p => { p with levels := BitVec.ofNat 8 (withBit p.levels.toNat j level) })
    exec (.wakePinEdge pin level) s = .next (
        if s.pinWatched s.pstate j && decide (level = c.2.1) then
          s1.latchWake (2 ^ (7 + j))
        else
          s1)) ∧
  (
    s.alarmPassed →
    exec .rtcAlarm s = .next ((s.setF 0 CIS_EVT CIS_EVT__ALARM 1).latchWake (2 ^ 15))) ∧
  (∀ (d : Die) (who : Initiator) (high : Bool) (v : Word),
    s.alive d →
    who.isManager →
    exec (.alarmWrite d who high v) s = .next (
        if high then
          let low := s.cis.pw.heldAlarm.getD (s.rd 0 CIS_ALARML)
          ((s.wr 0 CIS_ALARML low).wr 0 CIS_ALARMH v).updPw (fun p => { p with heldAlarm := none })
        else
          s.updPw (fun p => { p with heldAlarm := some v })))

/-- The Cistern: metering, grants, errands, limits and reports: each command answers the next state of its own effect under conditions
on the state and operands alone. Commands: METER_SAMPLE, ENERGY_REPORT, BALANCE_FLOOR, GRANT, ERRAND_ADD, ERRAND_CANCEL,
ERRAND_DONE, ERRAND_DUE, ERRAND_DEADLINE, ERRAND_OVERRUN, LIMIT_UPDATE, FAULT_REPORT, REPORT_CONFIRM_TIMEOUT, ROLE_SWAP_REQUEST.
Rests on spec/17_cistern_energy.md; the model's own choices in it are those of log entries 47, 48, 49, 52. -/
def Obligations.CisternEnergyCompletes : Prop :=
  ∀ s : State,
  (∀ (feedB : Bool) (volt : BitVec 16) (cur : BitVec 32) (own : BitVec 32),
    let f := b2n feedB
    let asleep := decide (s.pstate = 3)
    let v := if asleep then s.fld 0 (CIS_FfV f) CIS_FfV__V else volt.toNat
    let i := s.counted feedB cur.toInt own.toNat
    let l := s.cis.led
    let q := s.integrate (CIS_FfQL f) (CIS_FfQH f) (tget 0 l.qRest f + i) 1440000000
    let e := q.2.integrate (CIS_FfEL f) (CIS_FfEH f) (tget 0 l.eRest f + i * (v : Int)) 1152000000000000
    let acc := l.balRest + i * (v : Int)
    let spent := acc / 1152000000000
    let s1 := if s.debits then e.2.setBalance (e.2.balance - spent) else e.2
    let s2 := s1.updLed (fun l => { l with
      qRest := tset 0 l.qRest f q.1, eRest := tset 0 l.eRest f e.1,
      balRest := if s.debits then acc % 1152000000000 else l.balRest,
      runEnergy := if l.forErrand then l.runEnergy + spent else l.runEnergy })
    exec (.meterSample feedB volt cur own) s = .next (
        if asleep then
          s2
        else
          let l4 := (cur.toInt :: tget [] s.cis.pw.recent f).take 4
          let mean := l4.sum / (l4.length : Int)
          let s3 := (s2.setF 0 (CIS_FfV f) CIS_FfV__V volt.toNat).wr 0 (CIS_FfI f) (BitVec.ofInt 32 mean)
          let s4 := (s3.setF 0 CIS_STAT (if feedB then CIS_STAT__FEEDB else CIS_STAT__FEEDA) (b2n (decide (3840 ≤ volt.toNat)))).updPw
            (fun p => { p with recent := tset [] p.recent f l4 })
          if s.pstate = 2 then
            s4.wr 0 (CIS_FfOWN f) (BitVec.ofNat 32 (satTo 1000000 own.toNat))
          else
            s4)) ∧
  (∀ (d : Die) (c : Fin 8),
    s.alive d →
    s.inRun →
    s.holder c.val = d →
    exec (.energyReport d c) s = .next (
        ((List.range 80).filter (fun n => decide (s.cluster d (chSd n) = c.val))).foldl (fun st n => st.addChannel d n) s)) ∧
  (
    exec .balanceFloor s = .next (s.floorReached)) ∧
  (∀ (d : Die) (who : Initiator) (amount : BitVec 24) (tag : BitVec 8),
    s.alive d →
    s.newTag 1 who tag.toNat →
    let s1 := ((s.noteTag 1 who tag.toNat).setF 0 CIS_GRANTST CIS_GRANTST__TAG tag.toNat).setF 0 CIS_GRANTST CIS_GRANTST__PART
      (partOf who)
    s.inMask who →
    let r := s1.credit amount.toNat
    exec (.grant d who amount tag) s = .next (
        (r.2.setF 0 CIS_GRANTST CIS_GRANTST__RESULT (if r.1 then 3 else 1)).updPw (fun p => { p with granted := true }))) ∧
  (∀ (d : Die) (who : Initiator) (confirm tag : BitVec 8) (slot : Fin 16),
    s.alive d →
    confirm.toNat = 0xE3 →
    s.newTag 2 who tag.toNat →
    s.inMask who →
    let t := (s.noteTag 2 who tag.toNat)
    let i := slot.val
    let buf := fun k => (t.rd 0 (CIS_ERRBUFi k)).toNat
    let st := t.errandState i
    exec (.errandAdd d who confirm tag slot) s = .next (
        if 1 ≤ st ∧ st ≤ 4 then
          t.errandResult 2 1
        else if buf 1 < buf 0 ∨ buf 1 < t.rtcSec then
          t.errandResult 2 2
        else if buf 2 = 0 then
          t.errandResult 2 3
        else
          let s1 := t.updLed (fun l => { l with errands := tset {} l.errands i ⟨buf 0, buf 1, buf 3 % 65536, buf 2⟩ })
          (s1.wr 0 (CIS_ERRSTs i) (BitVec.ofNat 32 (1 + 256 * partOf who))).errandResult 1 0)) ∧
  (∀ (d : Die) (who : Initiator) (confirm tag : BitVec 8) (slot : Fin 16),
    s.alive d →
    confirm.toNat = 0xE3 →
    s.newTag 2 who tag.toNat →
    s.inMask who →
    let t := (s.noteTag 2 who tag.toNat)
    exec (.errandCancel d who confirm tag slot) s = .next (
        ((t.wr 0 (CIS_ERRSTs slot.val) 0#32).updLed (fun l => { l with
          errands := tset {} l.errands slot.val {}, running := if l.running = some slot.val then none else l.running })).errandResult 1 0)) ∧
  (∀ (d : Die) (who : Initiator) (confirm tag : BitVec 8) (slot : Fin 16),
    s.alive d →
    confirm.toNat = 0xE3 →
    s.newTag 2 who tag.toNat →
    s.inMask who →
    let t := (s.noteTag 2 who tag.toNat)
    let st := t.errandState slot.val
    exec (.errandDone d who confirm tag slot) s = .next (
        if st = 3 ∨ st = 4 then
          ((t.setErrand slot.val 5).updLed (fun l => { l with
            running := if l.running = some slot.val then none else l.running })).errandResult 1 0
        else
          t.errandResult 2 5)) ∧
  (
    exec .errandDue s = .next (
        if s.pstate ≤ 1 then
          (List.range 16).foldl (fun st i =>
            if st.isDue i then (st.setErrand i 4).setF 0 CIS_EVT CIS_EVT__ERRDUE 1 else st) s
        else if s.pstate = 2 ∧ s.cis.led.running = none then
          match s.nextErrand with
          | none =>
              s
          | some i =>
              if (1000 * s.cis.pw.policy.floor : Nat) ≤ s.balance - (1000 * (s.errand i).cost : Nat) then
                ((s.setErrand i 3).updLed (fun l => { l with running := some i })).latchWake (2 ^ 16 + 2 ^ 17 * i)
              else
                s.setErrand i 2
        else
          s)) ∧
  (
    exec .errandDeadline s = .next (
        (List.range 16).foldl (fun st i =>
          if (st.errandState i = 1 ∨ st.errandState i = 2) ∧ (st.errand i).deadline < st.rtcSec then st.refuseErrand i 1 else st) s)) ∧
  (
    ∀ i, s.cis.led.running = some i →
    s.cis.led.forErrand = true →
    s.cis.led.runStart + (s.errand i).limit ≤ s.rtcSec →
    exec .errandOverrun s = .next (s.setF 0 CIS_EVT CIS_EVT__ERROVER 1)) ∧
  (∀ (tplate : BitVec 12) (meanA meanB : BitVec 32) (q0 q1 : BitVec 16),
    let t := tplate.toInt
    let stud := feedDerate t 200 170 140
    let agg := feedDerate t 300 250 200
    let s1 := s.wr 0 CIS_LIMIT (BitVec.ofNat 32 (stud + 256 * agg + 2 ^ 20 * tplate.toNat))
    let thr := fun (w lim : Nat) => if w = 0 then 900 * lim else 1000 * w
    let ws := thr (s.fld 0 CIS_WATCH CIS_WATCH__WSTUD) stud
    let wa := thr (s.fld 0 CIS_WATCH CIS_WATCH__WAGG) agg
    let warn := decide ((ws : Int) < meanA.toInt ∨ (ws : Int) < meanB.toInt ∨ (wa : Int) < meanA.toInt + meanB.toInt)
    let s2 := if warn then s1.setF 0 CIS_EVT CIS_EVT__FEEDWARN 1 else s1
    let s3 := s2.wr 0 CIS_QPWR (BitVec.ofNat 32 (q0.toNat + 65536 * q1.toNat))
    let high := fun (st : State) (d : Die) (q : Nat) =>
      if 2600 < q then (st.setF 0 CIS_EVT CIS_EVT__QPWR 1).withFree (fun v st => st.record d 0x0100 0x10 (0x100 + d.val) 0 (v % 65536))
      else st
    exec (.limitUpdate tplate meanA meanB q0 q1) s = .next (high (high s3 0 q0.toNat) 1 q1.toNat)) ∧
  (∀ (d : Die) (t : Fin 9) (answer : Option Bool),
    s.alive d →
    exec (.faultReport d t answer) s = .next (
        if s.holder t.val = d then
          s.faultMove t.val d.other
        else
          match answer with
          | some true =>
              s.faultMove t.val d
          | some false =>
              (s.updPw (fun p => { p with asked := tset none p.asked t.val none })).recordBoth 0x0100 0x06 t.val 0 0
          | none =>
              s.updPw (fun p => { p with
                asked := tset none p.asked t.val (some d), askedAt := tset 0 p.askedAt t.val (s.ns d) }))) ∧
  (∀ (t : Fin 9),
    ∀ d, tget none s.cis.pw.asked t.val = some d →
    tget 0 s.cis.pw.askedAt t.val + 2000 ≤ s.ns d →
    exec (.reportConfirmTimeout t) s = .next (s.faultMove t.val d)) ∧
  (∀ (d : Die) (who : Initiator) (confirm tag : BitVec 8) (token : BitVec 4) (die : Die),
    let t := token.toNat
    let ts := if t = 15 then List.range 9 else [t]
    s.alive d →
    who.isManager →
    confirm.toNat = 0xB6 →
    t ≤ 8 ∨ t = 15 →
    s.newTag 3 who tag.toNat →
    let s1 := s.noteTag 3 who tag.toNat
    ts.all (fun t => s.swapOk t die) →
    exec (.roleSwapRequest d who confirm tag token die) s = .next (
        (ts.foldl (fun st t => st.swapTo t die) s1).setF 0 CIS_SWAPRES CIS_SWAPRES__RESULT 3))

/-- Zone group: heartbeats, view, joining, reports and the ledger: each command answers the next state of its own effect under
conditions on the state and operands alone. Commands: HEARTBEAT_SEND, HEARTBEAT, MEMBER_LOSS, VIEW_SEND, VIEW, JOIN_SEND, JOIN,
ADMIT, ISOLATION, LEAVE, COORDINATOR_TAKEOVER, SLOW_CLEAR, REPORT_SLOT, REPORT_RETRY, REPORT, IAMAR_ACK, LEDGER_CLOSE. Rests on
spec/18_zone_group.md; the model's own choices in it are those of log entry 53. -/
def Obligations.ZoneViewCompletes : Prop :=
  ∀ s : State,
  (∀ (d : Die),
    let st := s.zgState d
    let flags := b2n (s.selfElig d) + 2 * b2n (decide (s.fld d CIS_BOOT CIS_BOOT__SINGLE = 1)) + 4 * b2n (decide (st = 3)) +
      8 * s.fld d ZGP_STAT ZGP_STAT__RANK
    s.zgOn d →
    st ≠ 6 →
    st ≠ 7 →
    s.zgDue d 0x01 9900000 = true →
    exec (.heartbeatSend d) s = .next (
        s.zgCast d 0x01 (toLE 2 flags ++ toLE 2 (s.zgCoord d) ++ toLE 4 (s.rd d ZGP_VIEW).toNat ++
          toBE 8 Config.clockIdentity.toNat))) ∧
  (∀ (d : Die) (port : Fin 24) (f : ZgFrame),
    s.hearsZg d port f 0x01 →
    let m := zgFrom f
    let x := s.zgMember d m
    let now := s.ns d
    let src := f.src.toNat
    exec (.heartbeat d port f) s = .next (
        if m = s.ownId d then
          s.ownDuplicate d
        else if x.heard.isSome && decide (x.addr ≠ src) && decide (s.zgState d = 3) then
          let s1 := s.updZg d (fun z => { z with dups := if z.dups.contains m then z.dups else m :: z.dups })
          if s1.isMem d m then
            (s1.dropMember d m).changeView d
          else
            s1
        else
          let late := decide (f.time.toNat + 2000000 < now) || (match x.heard with
            | some t => decide (t + 15000000 < now)
            | none => false)
          let s1 := s.updMember d m (fun x => { x with
            heard := some now, addr := src, epoch := f.epoch.toNat, flags := u16 f.body 0, clock := u64 f.body 8, lost := false,
            lates := if late then now :: x.lates.filter (fun t => decide (now ≤ t + 1000000000)) else x.lates,
            lastLate := if late then now else x.lastLate })
          let s2 := if s1.isMem d m then s1.showSpan d else s1
          let s2 := if s2.isMem d m && decide (s2.zgState d = 3) && (bitOf x.flags 0 != bitOf (u16 f.body 0) 0) then s2.changeView d else s2
          if s2.isMem d m ∧ 3 ≤ (s2.zgMember d m).lates.length then
            s2.judgeLate d m
          else
            s2)) ∧
  (∀ (d : Die) (m : Fin 1024),
    let x := s.zgMember d m
    let silent : Bool := match x.heard with
      | some t => decide (t + 34000000 ≤ s.ns d)
      | none => true
    s.zgOn d →
    s.isMem d m →
    silent →
    ¬ x.lost →
    ¬ x.left →
    m.val ≠ s.ownId d →
    exec (.memberLoss d m) s = .next (
        ((s.updMember d m (fun x => { x with lost := true })).observe d m 0x01 0).memberGone d m)) ∧
  (∀ (d : Die),
    s.zgOn d →
    s.zgState d = 3 →
    s.zgDue d 0x04 49500000 = true →
    exec (.viewSend d) s = .next (
        (s.sendView d).updZg d (fun z => { z with viewAt := some (s.ns d), anyView := s.ns d }))) ∧
  (∀ (d : Die) (port : Fin 24) (f : ZgFrame),
    s.hearsZg d port f 0x04 →
    let m := zgFrom f
    let own := s.ownId d
    let s1 := s.updZg d (fun z => { z with anyView := s.ns d })
    exec (.view d port f) s = .next (
        if s.zgState d = 6 ∨ s.zgState d = 7 then
          s1
        else if s.zgState d = 3 then
          if own < m then
            s1
          else
            let s2 := (List.range 1024).foldl (fun st k => if st.isMem d k then st.dropMember d k else st) s1
            s2.showView d (s2.rd d ZGP_VIEW).toNat (u16 f.body 4 % 1024) 0x3FF 0x3FF
        else if bitOf (u8 f.body (12 + own / 8)) (own % 8) || decide (m = s.zgCoord d) || s.isMem d m then
          s1.adoptView d f.body
        else
          s1)) ∧
  (∀ (d : Die),
    let st := s.zgState d
    s.zgOn d →
    ((st = 1 ∨ st = 5) ∧ s.zgDue d 0x02 90000000 = true) ∨ (st = 4 ∧ (s.zg d).refusedAt + 1000000000 ≤ s.ns d) →
    exec (.joinSend d) s = .next ((s.zgCast d 0x02 []).updZg d (fun z => { z with refusedAt := s.ns d }))) ∧
  (∀ (d : Die) (port : Fin 24) (f : ZgFrame),
    s.hearsZg d port f 0x02 →
    s.zgState d = 3 →
    let m := zgFrom f
    let src := f.src.toNat
    let own := s.fld d UPD_DEPOCH UPD_DEPOCH__IFEPOCH
    let es := f.epoch.toNat :: (((s.memList d).filter (fun k => k ≠ s.ownId d)).map (fun k => (s.zgMember d k).epoch))
    let span := es.foldl max own - es.foldl min own
    let taken := decide (m = s.ownId d) || (s.zg d).dups.contains m ||
      (s.isMem d m && decide ((s.zgMember d m).addr ≠ src))
    let result := if taken then 2 else if 1 < span then 1 else 0
    let s1 := s.zgTx d 0x03 src (toLE 1 result ++ toLE 7 0)
    exec (.join d port f) s = .next (
        if result ≠ 0 ∨ s1.isMem d m then
          s1
        else
          let s2 := (s1.closeEntries d m 0x01).updMember d m (fun x => { x with
            addr := src, epoch := f.epoch.toNat, lost := false, left := false, heard := some (s.ns d) })
          (s2.setMem d m true).changeView d)) ∧
  (∀ (d : Die) (port : Fin 24) (f : ZgFrame),
    s.hearsZg d port f 0x03 →
    let st := s.zgState d
    ¬ (st ≠ 1 ∧ st ≠ 4 ∧ st ≠ 5) →
    exec (.admitModule d port f) s = .next (
        if u8 f.body 0 = 0 then
          if st = 4 then
            s.setF d ZGP_STAT ZGP_STAT__STATE 1
          else
            s
        else
          ((s.setF d ZGP_STAT ZGP_STAT__STATE 4).setF d ZGP_EVT ZGP_EVT__REFUSED 1).updZg d (fun z => { z with refusedAt := s.ns d }))) ∧
  (∀ (d : Die),
    let st := s.zgState d
    let old : Bool := match (s.zg d).viewAt with
      | some t => decide (t + 99000000 ≤ s.ns d)
      | none => false
    s.zgOn d →
    1 ≤ st →
    old →
    let s1 := (((s.setF d ZGP_STAT ZGP_STAT__STATE (if st = 6 ∨ st = 7 then st else 5)).setF d ZGP_STAT ZGP_STAT__ELIG 0).setF d ZGP_STAT ZGP_STAT__RANK 0).setF d
      ZGP_EVT ZGP_EVT__ISOL 1
    let s2 := s1.updZg d (fun z => { z with viewAt := none })
    exec (.isolation d) s = .next (
        (List.range 32).foldl (fun st p =>
          if (st.roamOf d p).isSome ∧ st.fld d (ZGP_RpSTAT p) ZGP_RpSTAT__STATE = 1 then
            st.stopRoam d p 3 (st.fld d (ZGP_RpSTAT p) ZGP_RpSTAT__HOLDER)
          else st) s2)) ∧
  (∀ (d : Die) (port : Fin 24) (f : ZgFrame),
    s.hearsZg d port f 0x0C →
    let m := zgFrom f
    m ≠ s.ownId d →
    let s1 := (s.updMember d m (fun x => { x with left := true })).updZg d (fun z => { z with
      obs := z.obs.filter (fun o => !decide (o.subj = m ∧ o.kind = 1)) })
    exec (.leave d port f) s = .next (
        if s1.isMem d m then
          (s1.memberGone d m).dropMember d m
        else
          s1)) ∧
  (∀ (d : Die),
    let own := s.ownId d
    let st := s.zgState d
    let c := s.zgCoord d
    let now := s.ns d
    let silent : Nat → Bool := fun ms => match (s.zgMember d c).heard with
      | some t => decide (t + ms * 1000000 ≤ now)
      | none => true
    let rank := s.fld d ZGP_STAT ZGP_STAT__RANK
    let lower := (s.zg d).members.any (fun e => decide (e.1 < own) && bitOf e.2.flags 0 && (match e.2.heard with
      | some t => decide (now < t + 50000000)
      | none => false))
    s.zgOn d →
    s.selfElig d →
    st ≠ 3 →
    st ≠ 6 →
    st ≠ 7 →
    exec (.coordinatorTakeover d) s = .next (
        if st = 2 ∧ rank = 1 ∧ silent 34 = true then
          (s.dropMember d c).takeCharge d
        else if st = 2 ∧ rank = 2 ∧ silent 50 = true then
          (s.dropMember d c).takeCharge d
        else if (s.zg d).anyView + 100000000 ≤ now ∧ lower = false then
          ((List.range 1024).foldl (fun st k => if st.isMem d k then st.dropMember d k else st) s).takeCharge d
        else
          s)) ∧
  (∀ (d : Die) (m : Fin 1024),
    let x := s.zgMember d m
    s.zgOn d →
    s.zgState d = 3 →
    s.isSlow d m →
    x.lastLate + 10000000000 ≤ s.ns d →
    x.slowRep + 10000000000 ≤ s.ns d →
    exec (.slowClear d m) s = .next (((s.setSlow d m false).closeEntries d m 0x02).changeView d)) ∧
  (∀ (d : Die) (m : Fin 1024) (kind : BitVec 8) (detail : Word),
    let k := kind.toNat
    let t := detail.toNat
    s.zgOn d →
    ∀ o, (s.zg d).obs.find? (fun o => decide (o.subj = m.val ∧ o.kind = k ∧ o.detail = t)) = some o →
    ¬ o.done →
    o.due ≤ s.ns d →
    let s1 := s.updObs d m k t (fun o => { o with done := true })
    exec (.reportSlot d m kind detail) s = .next (
        if o.seen then
          s1.addSat d ZGP_CNT ZGP_CNT__CANCEL 1
        else
          (s1.zgCast d 0x05 (reportPayload m k t)).addSat d ZGP_CNT ZGP_CNT__SENT 1)) ∧
  (∀ (d : Die) (m : Fin 1024) (kind : BitVec 8) (detail : Word),
    let k := kind.toNat
    let t := detail.toNat
    s.zgOn d →
    ∀ o, (s.zg d).obs.find? (fun o => decide (o.subj = m.val ∧ o.kind = k ∧ o.detail = t)) = some o →
    o.done →
    o.due + 100000000 ≤ s.ns d →
    let due := s.ns d + 1000 * reportSlot (s.ownId d) (reportPayload m k t)
    exec (.reportRetry d m kind detail) s = .next (
        s.updObs d m k t (fun o => { o with due := due, seen := false, done := false }))) ∧
  (∀ (d : Die) (port : Fin 24) (f : ZgFrame),
    s.hearsZg d port f 0x05 →
    let b := f.body
    let subj := u16 b 0 % 1024
    let kind := u8 b 2
    let detail := u32 b 4
    let s0 := if kind = 2 then s.updMember d subj (fun x => { x with slowRep := s.ns d }) else s
    let s1 := s0.updObs d subj kind detail (fun o => if o.done then o else { o with seen := true })
    exec (.report d port f) s = .next (
        if s1.zgState d = 3 then
          let s2 := s1.openLedger d subj kind detail (zgFrom f) 1
          if kind = 2 ∧ s2.isMem d subj = true ∧ s2.isSlow d subj = false ∧ subj ≠ s2.ownId d then
            (s2.setSlow d subj true).changeView d
          else
            s2
        else
          let s2 := match s1.openEntry d subj kind detail with
            | some e => s1.updZg d (fun z => { z with led := tset (0, 0) z.led e ((tget (0, 0) z.led e).1, s.ns d) })
            | none => s1.updZg d (fun z => { z with heard := z.heard ++ [(subj, kind, detail, zgFrom f)] })
          s2)) ∧
  (∀ (d : Die) (port : Fin 24) (f : ZgFrame),
    s.hearsZg d port f 0x06 →
    let b := f.body
    let e := u16 b 0 % 256
    let w := fun (i : Nat) => BitVec.ofNat 32 (u32 b (4 + 4 * i))
    let subj := ZGP_LEDe__SUBJ.get (w 0)
    let kind := ZGP_LEDe__KIND.get (w 0)
    let detail := (w 1).toNat
    let known := decide (s.openEntry d subj kind detail = some e ∧ s.rd d (ZGP_LEDe e 2) = w 2)
    let s1 := (List.range 4).foldl (fun st i => st.wr d (ZGP_LEDe e i) (w i)) s
    let open_ := s.zg d
    let cut := open_.obs.filter (fun o => decide (o.subj = subj ∧ o.kind = kind ∧ o.detail = detail))
    let s2 := s1.updZg d (fun z => { z with
      obs := z.obs.filter (fun o => !decide (o.subj = subj ∧ o.kind = kind ∧ o.detail = detail)),
      heard := z.heard.filter (fun h => !decide (h.1 = subj ∧ h.2.1 = kind ∧ h.2.2.1 = detail)),
      led := tset (0, 0) z.led e (if known then (tget (0, 0) z.led e).1 else s.ns d, s.ns d) })
    let s3 := if cut.any (fun o => !o.done) then s2.addSat d ZGP_CNT ZGP_CNT__CANCEL 1 else s2
    exec (.iamarAck d port f) s = .next (
        if known then
          s3
        else
          s3.entryLearned d e)) ∧
  (∀ (d : Die) (e : Fin 256),
    let w := s.rd d (ZGP_LEDe e 0)
    let k := ZGP_LEDe__KIND.get w
    s.zgOn d →
    ZGP_LEDe__OPEN.get w = 1 →
    k ≠ 1 →
    k ≠ 2 →
    (tget (0, 0) (s.zg d).led e).2 + 10000000000 ≤ s.ns d →
    exec (.ledgerClose d e) s = .next (s.setF d (ZGP_LEDe e 0) ZGP_LEDe__OPEN 0))

/-- Zone group: roaming partitions and remote accesses: each command answers the next state of its own effect under conditions on the
state and operands alone. Commands: ZGP_REPORT, ZGP_LEAVE, ZGP_REJOIN, ZGP_RELEASE, PUBLISH, ROAMSTATE, ROAM, ROAMING_GRANT, REMREQ,
REMOTE_ACCESS, REMRSP, REMOTE_TIMEOUT, REMOTE_LOCK_TIMEOUT. Rests on spec/18_zone_group.md; the model's own choices in it are those
of log entries 53, 54. -/
def Obligations.ZoneRemoteCompletes : Prop :=
  ∀ s : State,
  (∀ (d : Die) (who : Initiator) (confirm tag : BitVec 8),
    s.alive d →
    who.isManager →
    confirm = 0x8C#8 →
    s.tagNew d 0 who tag.toNat →
    let r := (fun s =>
        let kind := s.fld d ZGP_RBUF0 ZGP_RBUF0__KIND
        if s.zgOn d ∧ (s.zgState d = 2 ∨ s.zgState d = 3) ∧ 0x10 ≤ kind then
          (s.observe d (s.fld d ZGP_RBUF0 ZGP_RBUF0__SUBJ) kind (s.rd d ZGP_RBUF1).toNat, 1)
        else (s, 2)) (s.tagNote d 0 who tag.toNat)
    exec (.zgpReport d who confirm tag) s = .next (r.1.setF d ZGP_CMDRES ZGP_CMDRES__RESULT r.2)) ∧
  (∀ (d : Die) (who : Initiator) (confirm tag : BitVec 8),
    s.alive d →
    who.isManager →
    confirm = 0x8C#8 →
    s.tagNew d 0 who tag.toNat →
    let r := (fun s =>
        let st := s.zgState d
        if s.zgOn d ∧ st ≠ 6 ∧ st ≠ 7 then
          let s1 := s.zgSend 0x0C (s.zg d).addr (toLE 1 2 ++ toLE 7 0)
          ((s1.outOfView 0 7).outOfView 1 7, 3)
        else (s, 2)) (s.tagNote d 0 who tag.toNat)
    exec (.zgpLeave d who confirm tag) s = .next (r.1.setF d ZGP_CMDRES ZGP_CMDRES__RESULT r.2)) ∧
  (∀ (d : Die) (who : Initiator) (confirm tag : BitVec 8),
    s.alive d →
    who.isManager →
    confirm = 0x8C#8 →
    s.tagNew d 0 who tag.toNat →
    let r := (fun s =>
        if s.zgOn d ∧ s.zgState d = 7 then
          let back := fun (st : State) (e : Die) => if st.zgState e = 7 then (st.setF e ZGP_STAT ZGP_STAT__STATE 1).updZg e (fun z =>
            { z with anyView := st.ns e }) else st
          (back (back s 0) 1, 3)
        else (s, 2)) (s.tagNote d 0 who tag.toNat)
    exec (.zgpRejoin d who confirm tag) s = .next (r.1.setF d ZGP_CMDRES ZGP_CMDRES__RESULT r.2)) ∧
  (∀ (d : Die) (who : Initiator) (confirm tag : BitVec 8) (p : Fin 32),
    s.alive d →
    who.isManager →
    confirm = 0x8C#8 →
    s.tagNew d 0 who tag.toNat →
    let r := (fun s =>
        match s.roamOf d p with
        | some r =>
          if s.zgOn d ∧ s.fld d (ZGP_RpSTAT p) ZGP_RpSTAT__STATE = 1 then
            let key := roamKey r.home r.part
            let snap := ((s.rd d (ZGP_RpSNAP p)).toNat + 1) % 2 ^ 32
            let s1 := s.stopRoam d p 0 r.home
            let s2 := (s1.setBoth (ZGP_RpSNAP p) whole snap).setRoam d.other p 0 r.home
            let s3 := if r.home = s.ownId d then s2 else s2.sendRegion d r snap r.home
            let s4 := s3.updZgBoth (fun z => { z with
              grants := tset none z.grants key none, released := key :: z.released.filter (fun k => k ≠ key) })
            (s4.zgSend 0x0A (s4.zg d).addr
              (toLE 1 2 ++ toLE 1 r.part ++ toLE 2 r.home ++ toLE 2 (s4.ownId d) ++ toLE 2 0 ++ toLE 4 snap), 3)
          else (s, 2)
        | none => (s, 2)) (s.tagNote d 0 who tag.toNat)
    exec (.zgpRelease d who confirm tag p) s = .next (r.1.setF d ZGP_CMDRES ZGP_CMDRES__RESULT r.2)) ∧
  (∀ (d : Die) (who : Initiator) (confirm tag : BitVec 8) (p : Fin 32),
    s.alive d →
    who = .part p →
    confirm = 0x9A#8 →
    s.tagNew d 1 who tag.toNat →
    let s0 := s.tagNote d 1 who tag.toNat
    exec (.publish d who confirm tag p) s = .next (
        match s0.roamOf d p with
        | some r =>
            if s0.zgOn d ∧ s0.fld d (ZGP_RpSTAT p) ZGP_RpSTAT__ROLE = 1 ∧ s0.fld d (ZGP_RpSTAT p) ZGP_RpSTAT__STATE = 1 then
              let snap := ((s0.rd d (ZGP_RpSNAP p)).toNat + 1) % 2 ^ 32
              let s1 := s0.setBoth (ZGP_RpSNAP p) whole snap
              ((s1.memList d).filter (fun m => m ≠ s1.ownId d)).foldl (fun st m => st.sendRegion d r snap m) s1
            else
              s0
        | none =>
            s0)) ∧
  (∀ (d : Die) (port : Fin 24) (f : ZgFrame),
    s.hearsZg d port f 0x09 →
    let b := f.body
    let m := zgFrom f
    let own := s.ownId d
    let hp := u8 b 0
    let snap := u32 b 4
    let off := u32 b 8
    let mine := (List.range 32).find? (fun p => match s.roamOf d p with
      | some r =>
        decide (s.fld d (ZGP_RpSTAT p) ZGP_RpSTAT__STATE ≠ 1 ∧ r.part = hp) &&
          (if s.fld d (ZGP_RpSTAT p) ZGP_RpSTAT__ROLE = 2 then decide (r.home = m)
           else decide (tget none (s.zg d).grants (roamKey own hp) = some m ∨ (s.zg d).released.contains (roamKey own hp) = true))
      | none => false)
    ∀ p, mine = some p →
    ∀ r, s.roamOf d p = some r →
    off + (b.length - 12) ≤ r.size →
    off % 1024 = 0 →
    let old := match tget none (s.zg d).arriving p with
      | some a => if a.snap = snap then a.parts else []
      | none => []
    let parts := tset [] old off (b.drop 12)
    let whole_ := (List.range (r.size / 1024)).all (fun i => decide ((tget [] parts (1024 * i)).length = 1024))
    exec (.roamstate d port f) s = .next (
        if !whole_ then
          s.updZg d (fun z => { z with arriving := tset none z.arriving p (some ⟨snap, parts⟩) })
        else
          let s1 := s.updZg d (fun z => { z with arriving := tset none z.arriving p none })
          let s2 := parts.foldl (fun st e => st.dmaPut d (r.base + e.1) e.2) s1
          let key := roamKey r.home r.part
          let s3 := (s2.wr d (ZGP_RpSNAP p) (BitVec.ofNat 32 snap)).updZg d (fun z => { z with
            holders := tset [] z.holders key (own :: (tget [] z.holders key).filter (fun k => k ≠ own)) })
          s3.zgCast d 0x0A (toLE 1 3 ++ toLE 1 r.part ++ toLE 2 r.home ++ toLE 2 own ++ toLE 2 0 ++ toLE 4 snap))) ∧
  (∀ (d : Die) (port : Fin 24) (f : ZgFrame),
    s.hearsZg d port f 0x0A →
    let b := f.body
    let key := roamKey (u16 b 2 % 1024) (u8 b 1 % 32)
    let holder := u16 b 4 % 1024
    exec (.roam d port f) s = .next (
        match u8 b 0 with
        | 1 =>
            if zgFrom f = s.zgCoord d then
              s.applyGrant d key holder
            else
              s
        | 2 =>
            let s1 := s.updZg d (fun z => { z with
              grants := tset none z.grants key none, released := key :: z.released.filter (fun k => k ≠ key) })
            if (List.range 32).any (fun p => match s.roamOf d p with | some r => decide (roamKey r.home r.part = key) | none => false) then
              s1.setF d ZGP_EVT ZGP_EVT__ROAM 1
            else
              s1
        | 3 =>
            s.updZg d (fun z => { z with
              holders := tset [] z.holders key (holder :: (tget [] z.holders key).filter (fun k => k ≠ holder)) })
        | _ =>
            s)) ∧
  (∀ (d : Die) (home : Fin 1024) (part : Fin 32) (taker : Fin 1024),
    let key := roamKey home part
    let z := s.zg d
    let runs := (tget none z.grants key).getD home.val
    let x := s.zgMember d runs
    let gone : Bool := x.left || (!s.isMem d runs && (match x.heard with
      | some t => decide (t + 150000000 ≤ s.ns d)
      | none => true))
    let free := z.released.contains key || (decide (runs ≠ s.ownId d) && gone)
    let ready := s.isMem d taker &&
      (if z.released.contains key && s.isMem d home then decide (taker = home)
       else !s.isSlow d taker && (tget [] z.holders key).contains taker.val)
    s.zgOn d →
    s.zgState d = 3 →
    free →
    ready →
    exec (.roamingGrant d home part taker) s = .next (
        (s.applyGrant d key taker).zgCast d 0x0A
          (toLE 1 1 ++ toLE 1 part.val ++ toLE 2 home.val ++ toLE 2 taker.val ++ toLE 2 0 ++ toLE 4 0))) ∧
  (∀ (d : Die) (port : Fin 24) (f : ZgFrame),
    s.hearsZg d port f 0x07 →
    d = s.holder 8 →
    exec (.remreq d port f) s = .next (
        if s.reqWaits d f then
          s.updZg d (fun z => { z with waits := z.waits ++ [f] })
        else
          let s1 := s.serveReq d f
          s1.serveWaits d (s1.zg d).waits.length)) ∧
  (∀ (d : Die) (who : Initiator) (addr : BitVec 40) (size : Fin 9) (op : Fin 8) (fn : BitVec 8) (data seq : Word),
    let a := addr.toNat
    let m := peerOf a
    s.alive d →
    exec (.remoteAccess d who addr size op fn data seq) s = .next (
        if !(isPeer a && s.bridgeMapped d a && decide (size.val = 4 ∧ a % 4 = 0 ∧ 1 ≤ op.val ∧ op.val ≤ 5) && who.isManager) then
          s.remReply op size
        else if !s.zgOn d || !s.isMem d m || decide (s.zgState d ≠ 2 ∧ s.zgState d ≠ 3) then
          s.remFail d m op 1
        else
          let z := s.zg d
          let part := match who with
            | .part p => p.val
            | _ => 0xFF
          let q : ZgReq := ⟨z.nextTag * 2 % 2 ^ 16 + d.val, m, who, op.val, fn.toNat, peerOff a, data.toNat, part, seq.toNat, none⟩
          let s1 := s.updZg d (fun z => { z with reqs := z.reqs ++ [q], nextTag := (z.nextTag + 1) % 2 ^ 15 })
          s1.sendReqs d m 1)) ∧
  (∀ (d : Die) (port : Fin 24) (f : ZgFrame),
    s.hearsZg d port f 0x08 →
    let b := f.body
    ∀ q, (s.zg d).reqs.find? (fun q => decide (q.tag = u16 b 0 ∧ q.member = zgFrom f) && q.sent.isSome) = some q →
    let s1 := s.updZg d (fun z => { z with reqs := z.reqs.erase q })
    let s2 := match u8 b 2 with
      | 0 => if q.op = 2 then s1 else s1.reply (.value (u32 b 8))
      | 1 => s1.remFail d q.member q.op 3
      | 3 =>
        let s3 := ((s1.remErr 0 q.member 5).remErr 1 q.member 5).recordBoth 0x1200 0x15 (0x1000 + q.member) 0 0
        if q.op = 4 then s3.reply (.value 1) else if q.op = 2 then s3 else s3.reply (.errorBytes (List.replicate 4 0xFF#8))
      | _ => s1.remFail d q.member q.op 4
    exec (.remrsp d port f) s = .next (s2.sendReqs d q.member 8)) ∧
  (∀ (d : Die) (tag : BitVec 16),
    exec (.remoteTimeout d tag) s = .next (
        match (s.zg d).reqs.find? (fun q => decide (q.tag = tag.toNat) && (match q.sent with
        | some t =>
            decide (t + 900000 ≤ s.ns d)
        | none =>
            false)) with
              | some q =>
              let s1 := (s.updZg d (fun z => { z with reqs := z.reqs.erase q })).remFail d q.member q.op 2
              (s1.observe d q.member 0x04 0).sendReqs d q.member 8
              | none => s)) ∧
  (∀ (d : Die) (inst : BitVec 16),
    ∀ l, (s.zg d).locks.find? (fun l => decide (l.inst = inst.toNat ∧ l.since + 47500 ≤ s.ns d)) = some l →
    let s1 := (s.endLock l.inst).updZgBoth (fun z => { z with
      forced := (l.member, l.inst) :: z.forced.filter (fun x => x ≠ (l.member, l.inst)) })
    exec (.remoteLockTimeout d inst) s = .next (s1.serveWaits (s1.holder 8) (s1.zg (s1.holder 8)).waits.length))

/-- Field update: each command answers the next state of its own effect under conditions on the state and operands alone. Commands:
UPD_MANIFEST, UPD_STAGE, UPD_INSTALL, UPD_CUTOVER, UPD_ABORT, UPD_CLEAR, CHUNK_SYNC, PREP1_COMPLETE, PREP1_TIMEOUT, UPDATE_WRITE,
BOOT1_TIMEOUT, SPLIT_LIMIT, CUTOVER_COMMIT, CUTOVER_LIMIT, UPDATE_REQUEST, UPDATE, GRANT_LAPSE. Rests on spec/19_field_update.md;
the model's own choices in it are those of log entries 27, 28, 29, 31. -/
def Obligations.UpdateCompletes : Prop :=
  ∀ s : State,
  (∀ (d : Die) (who : Initiator) (confirm tag : BitVec 8),
    s.alive d →
    (s.boot d).loaderOk →
    who.isOwner (s.fld d UPD_CFG UPD_CFG__PART) →
    confirm = 0xF1#8 →
    s.tagNew d 2 who tag.toNat →
    let t := (s.tagNote d 2 who tag.toNat)
    let m := t.bytesAt d (t.updBuffer d) manLen
    let code := manifestCode t.fuse m
    exec (.updManifest d who confirm tag) s = .next (
        if t.updBusy then
          t.updResult 2 3 0
        else if !t.bufOk d manLen then
          t.updResult 2 0xA 0
        else if code ≠ 0 then
          t.updResult 2 1 code
        else if t.updPhase ≠ 0 ∧ manPkg (t.manifest d) = manPkg m then
          t.updResult 3 0 0
        else
          let s1 := (t.onStaging d (fun st e => st.putManifest e m)).setPhaseWith 1 (fun j => { j with pkg := manPkg m })
          (s1.setGrp 0).updResult 3 0 0)) ∧
  (∀ (d : Die) (who : Initiator) (confirm tag : BitVec 8),
    s.alive d →
    (s.boot d).loaderOk →
    who.isOwner (s.fld d UPD_CFG UPD_CFG__PART) →
    confirm = 0xF1#8 →
    s.tagNew d 2 who tag.toNat →
    let t := (s.tagNote d 2 who tag.toNat)
    let m := t.manifest d
    let i := t.fld d UPD_IDX UPD_IDX__INDEX
    let buf := t.updBuffer d
    let n := t.leAt d (buf + 0x1000) 4
    exec (.updStage d who confirm tag) s = .next (
        if t.updBusy || decide (t.updPhase = 0) then
          t.updResult 2 3 0
        else if t.hasChunk 0 i && t.hasChunk 1 i && decide (i < manChunks m) then
          t.updResult 3 0 0
        else if !t.bufOk d (0x1008 + 48 * min n 13) then
          t.updResult 2 0xA 0
        else
          let c := t.bytesAt d buf 4096
          if decide (i < manChunks m ∧ n ≤ 13) && proofOk (manRoot m) (manChunks m) i c (t.proofAt d buf n) then
            ((t.onStaging d (fun st e => if st.manifest e = m then st.putChunk e i c else st)).readyIfFull d).updResult 3 0 0
          else
            t.updResult 2 2 0)) ∧
  (∀ (d : Die) (who : Initiator) (confirm tag : BitVec 8),
    s.alive d →
    (s.boot d).loaderOk →
    who.isOwner (s.fld d UPD_CFG UPD_CFG__PART) →
    confirm = 0xF1#8 →
    s.tagNew d 2 who tag.toNat →
    let t := (s.tagNote d 2 who tag.toNat)
    let r := t.installReason d
    exec (.updInstall d who confirm tag) s = .next (
        if r ≠ 0 then
          { t.updRefuse r with free := t.free + 1 }
        else if !t.needsGrant d then
          ((t.setGrp 0).updResult 1 0 0).startPrep
        else
          let s1 := (t.setGrp 1).updResult 1 0 0
          if s1.zgState d = 3 then
            s1.selfGrant d
          else
            s1)) ∧
  (∀ (d : Die) (who : Initiator) (confirm tag : BitVec 8),
    s.alive d →
    (s.boot d).loaderOk →
    who.isOwner (s.fld d UPD_CFG UPD_CFG__PART) →
    confirm = 0xF1#8 →
    s.tagNew d 2 who tag.toNat →
    let t := (s.tagNote d 2 who tag.toNat)
    exec (.updCutover d who confirm tag) s = .next (
        if t.updPhase ≠ 6 then
          t.updRefuse 3
        else if !t.vehicleOk d 0 then
          t.updRefuse 4
        else if !(t.linkUp && t.alive 0 && t.alive 1 && (t.vol.get 0).upd.copied) then
          t.withFree (fun v t => t.updRefuse (1 + v % 15))
        else
          (((t.updResult 1 0 0).setPhase 7).endAllEpochs 0).haltAllNibs 0)) ∧
  (∀ (d : Die) (who : Initiator) (confirm tag : BitVec 8),
    s.alive d →
    (s.boot d).loaderOk →
    who.isOwner (s.fld d UPD_CFG UPD_CFG__PART) →
    confirm = 0xF1#8 →
    s.tagNew d 2 who tag.toNat →
    let t := (s.tagNote d 2 who tag.toNat)
    exec (.updAbort d who confirm tag) s = .next (
        if 2 ≤ t.updPhase ∧ t.updPhase ≤ 6 then
          ((if t.fld d UPD_STAT UPD_STAT__GRP = 1 then t.setGrp 0 else t).updResult 1 0 0).enterAbort
        else
          t.updResult 2 3 0)) ∧
  (∀ (d : Die) (who : Initiator) (confirm tag : BitVec 8),
    s.alive d →
    (s.boot d).loaderOk →
    who.isOwner (s.fld d UPD_CFG UPD_CFG__PART) →
    confirm = 0xF1#8 →
    s.tagNew d 2 who tag.toNat →
    let t := (s.tagNote d 2 who tag.toNat)
    let ph := t.updPhase
    exec (.updClear d who confirm tag) s = .next (
        if ph ≤ 2 ∨ ph = 10 then
          let s1 := t.onStaging d (fun st e => st.clearMap e)
          let s2 := if ph = 0 then s1.showStagings else s1.setPhaseWith 0 (fun j => { j with pkg := 0, chunks := 0, blocks := 0 })
          (s2.setGrp 0).updResult 3 0 0
        else
          t.updResult 2 3 0)) ∧
  (∀ (d : Die),
    let o := d.other
    let ph := s.updPhase
    s.alive d →
    s.alive o →
    s.linkFlows →
    s.isSealed d →
    s.isSealed o →
    ph = 1 ∨ ph = 2 →
    let m := s.manifest d
    let s0 := s.plNotice d 0 16 1
    let s1 := if s0.manifest o = m then s0 else s0.putManifest o m
    exec (.chunkSync d) s = .next (
        ((List.range (manChunks m)).foldl (fun st i =>
          if st.hasChunk d i && !st.hasChunk o i then st.putChunk o i (st.chunk d i) else st) s1).readyIfFull d)) ∧
  (
    let homes := (List.range 12).any (fun x => decide (s.duxRole 1 x = 1) && decide (s.homed 1 x ≠ []))
    s.updPhase = 3 →
    homes = false →
    (List.range 9).all (fun t => decide (s.holder t = 0)) = true →
    exec .prep1Complete s = .next ((s.setPhaseWith 4 (fun j => { j with chunks := 0, blocks := 0 })).dieReset 1 0x15 0)) ∧
  (
    s.updPhase = 3 →
    s.phaseAt 0 + 1000000000 ≤ s.ns 0 →
    exec .prep1Timeout s = .next (s.backToReady 0xB)) ∧
  (∀ (d : Die) (units : BitVec 16),
    s.alive d →
    (s.boot d).loaderOk →
    s.writing d →
    exec (.updateWrite d units) s = .next (
        match s.checkStaged d with
        | none =>
            s.stagingFails d
        | some s1 =>
            if bitOf (u16 (s1.manifest d) 6) 0 then
              let img := s1.stagedLoader d
              let s2 := s1.putBytes d copyBase img
              if loaderCodeOf s2.fuse img = 0 then
                State.writeUnits d units.toNat s2
              else if d = 1 then
                s2.enterAbort
              else
                (s2.setPhase 9).dieReset 0 0x15 0
            else
              State.writeUnits d units.toNat s1)) ∧
  (
    s.updPhase = 5 →
    s.alive 1 = true →
    s.isSealed 1 = false →
    (s.vol.get 0).upd.relAt + 2000000000 ≤ s.ns 0 →
    exec .boot1Timeout s = .next (s.enterAbort)) ∧
  (
    s.updPhase = 6 →
    s.phaseAt 0 + s.fld 0 UPD_LIM UPD_LIM__SPLIT * 1000000000 ≤ s.ns 0 →
    exec .splitLimit s = .next ((s.updEvt UPD_EVT__SPLITLIM).enterAbort)) ∧
  (
    s.updPhase = 7 →
    s.handedOver →
    s.linkUp →
    s.alive 0 →
    s.alive 1 →
    s.isSealed 1 →
    let t := s.stoppedAt
    let sf := s.fld 0 UPD_DEPOCH UPD_DEPOCH__SFEPOCH
    let same := decide (sf = s.fld 1 UPD_DEPOCH UPD_DEPOCH__SFEPOCH)
    let s1 := s.handStates.setPhaseWith 8 (fun j => { j with chunks := 0, blocks := 0 })
    let s2 := (s1.takeModule.sendTables 1).dieReset 0 0x15 0
    let ps := (List.range 32).filter (fun p => (s2.newDux p).isSome)
    let s3 := if same then s2.startOnOne 1 0 else s2.startOnOne 2 sf
    exec .cutoverCommit s = .next (s3.updUpd 1 (fun u => { u with cut := if ps = [] then none else some (t, ps) }))) ∧
  (
    s.updPhase = 7 →
    s.phaseAt 0 + s.fld 0 UPD_LIM UPD_LIM__CUT * 1000000 ≤ s.ns 0 →
    let s1 := (List.range 12).foldl (fun st x =>
      if (st.runningOn 0 x).isSome then
        ((st.updDux 0 x (fun u => { u with endAt := none })).updCore 0 x 0 (fun c => { c with run := true })).updCore 0 x 1
          (fun c => { c with run := true })
      else st) s
    let s2 := (List.range 8).foldl (fun st c =>
      (st.updCl 0 c (fun x => { x with
        held := x.held.filter (fun h => decide (h.src ≠ 0x601)),
        nibs := x.nibs.map (fun e => (e.1, { e.2 with queue := e.2.queue.filter (fun q => decide (q.src ≠ 0x601)) })) })).resumeOn
          0 c (fun _ => true)) s1
    exec .cutoverLimit s = .next ((s2.setPhase 6).updEvt UPD_EVT__REFUSED)) ∧
  (∀ (d : Die),
    let g := s.fld d UPD_STAT UPD_STAT__GRP
    let ph := s.updPhase
    let soon : Bool := match (s.vol.get d).upd.sentAt with
      | some t => decide (s.ns d < t + 900000000)
      | none => false
    let s0 := s.updUpd d (fun u => { u with sentAt := some (s.ns d) })
    let keep := fun (st : State) (e : Die) =>
      st.updUpd e (fun u => if u.holder = some (s.ownId d) then { u with grantAt := s.ns d } else u)
    s.alive d →
    s.holder 8 = d →
    ¬ soon →
    exec (.updateRequest d) s = .next (
        if g = 1 ∧ ph = 2 then
          if s.zgState d = 3 then
            s0.selfGrant d
          else
            s0.sendUpdate 1
        else if g = 2 ∧ 3 ≤ ph ∧ ph ≤ 9 then
          (keep (keep s0 0) 1).sendUpdate 4
        else
          s)) ∧
  (∀ (d : Die) (port : Fin 24) (f : ZgFrame),
    s.hearsZg d port f 0x0B →
    let m := u16 f.body 2
    let op := u8 f.body 0
    let mine : Bool := decide (m = s.ownId d ∧ zgFrom f = s.zgCoord d ∧ s.fld d UPD_STAT UPD_STAT__GRP = 1 ∧ s.updPhase = 2)
    let coord : Bool := decide (s.zgState d = 3)
    exec (.update d port f) s = .next (
        match op with
        | 1 =>
            if !coord || !s.isMem d m then
              s
            else
              let r := s.grantReason d m (u16 f.body 4)
              if r = 0 then
                (s.noteGrant d m).answerUpdate d 2 0 m f
              else
                s.answerUpdate d 3 r m f
        | 2 =>
            if mine then
              s.granted
            else
              s
        | 3 =>
            if mine && decide (u8 f.body 1 = 2) then
              s.notGranted
            else
              s
        | 4 =>
            if !coord then
              s
            else
              match (s.vol.get d).upd.holder with
              | some h =>
                  if h = m then
                    s.noteGrant d m
                  else
                    s
              | none =>
                  s.noteGrant d m
        | 5 =>
            s.updUpd d (fun u => { u with holder := if u.holder = some m then none else u.holder })
        | _ =>
            s)) ∧
  (∀ (d : Die),
    ∀ m, (s.vol.get d).upd.holder = some m →
    let gone : Bool := decide (m ≠ s.ownId d) && ((s.zgMember d m).lost || (s.zgMember d m).left || !s.isMem d m)
    s.alive d →
    gone || decide ((s.vol.get d).upd.grantAt + 10000000000 ≤ s.ns d) →
    exec (.grantLapse d) s = .next (s.updUpd d (fun u => { u with holder := none })))

/-- Fault summary, Blotter, memory repair and fatal failures: each command answers the next state of its own effect under conditions on
the state and operands alone. Commands: SUMMARY_WRITE, FAULT_ASSERT, FAULT_RELEASE, BLOTTER_READ, BLOTTER_RELEASE, DUMP, CLEARSUM,
SCRUB_PASS, SRAM_ROW_REMAP, DRAM_ROW_REPAIR, DRAM_ECC_ERROR, FATAL_FAILURE, MANAGEMENT_WATCHDOG_EXPIRY, DUMP_COMPLETE, BLOTTER_COPY,
KAT_STEP. Rests on spec/20_faults_and_blotter.md; the model's own choices in it are those of log entries 15, 16, 55, 58. -/
def Obligations.FaultsComplete : Prop :=
  ∀ s : State,
  (∀ (d : Die) (cls : Fin 24),
    let f := (s.vol.get d).flt
    let e := tget {} f.sums cls.val
    let due : Bool := match tget none f.sumWritten cls.val with
      | some t => decide (t + 10000000000 ≤ s.ns d)
      | none => true
    s.alive d →
    due →
    0 < cls.val →
    0 < e.count →
    exec (.summaryWrite d cls) s = .next (
        (s.putBytes d (sumEntryAddr cls.val) e.bytes).updVol d (fun v => { v with flt := { v.flt with
          sumWritten := tset none v.flt.sumWritten cls.val (some (s.ns d)) } }))) ∧
  (∀ (d : Die) (who : Initiator) (confirm : BitVec 8),
    s.alive d →
    who.isManager →
    confirm = 0xB4#8 →
    exec (.faultAssert d who confirm) s = .next (s.setCond7 d true)) ∧
  (∀ (d : Die) (who : Initiator) (confirm : BitVec 8),
    s.alive d →
    who.isManager →
    confirm = 0xB4#8 →
    exec (.faultRelease d who confirm) s = .next (s.setCond7 d false)) ∧
  (∀ (d : Die) (who : Initiator) (confirm : BitVec 8),
    s.alive d →
    who.isManager →
    confirm = 0xB4#8 →
    exec (.blotterRead d who confirm) s = .next (
        match s.selectedDump d with
        | none =>
            s.fltResult d 2 1
        | some m =>
            let buf := (s.rd d FLT_BUFL).toNat / 4096 * 4096 + 2 ^ 32 * s.fld d FLT_BUFH FLT_BUFH__ADDR
            let inDram := decide (0x100000000 ≤ buf ∧ buf + 2 ^ 24 ≤ 0x300000000)
            if inDram && s.memAdmits d buf (2 ^ 24) { init := 2 } .write then
              (s.dmaPut d buf (s.bulkBytes (bulkSlot d (s.fld d FLT_BSEL FLT_BSEL__SLOT) 0) m.length)).fltResult d 3 0
            else
              s.fltResult d 2 2)) ∧
  (∀ (d : Die) (who : Initiator) (confirm : BitVec 8),
    s.alive d →
    who.isManager →
    confirm = 0xB4#8 →
    exec (.blotterRelease d who confirm) s = .next (
        match s.selectedDump d with
        | none =>
            s.fltResult d 2 1
        | some m =>
            let slot := s.fld d FLT_BSEL FLT_BSEL__SLOT
            ((s.updKeep d (fun k => { k with bulkDumps := tset none k.bulkDumps slot (some { m with released := true }) })).setF d
              FLT_BLOT FLT_BLOT__UNREAD (withBit (s.fld d FLT_BLOT FLT_BLOT__UNREAD) slot false)).fltResult d 3 0)) ∧
  (∀ (d : Die) (who : Initiator) (confirm : BitVec 8),
    s.alive d →
    who.isManager →
    confirm = 0xB4#8 →
    exec (.dump d who confirm) s = .next (
        if s.alive d.other then
          (s.fltResult d 1 0).fatal d 4
        else
          s.fltResult d 2 3)) ∧
  (∀ (d : Die) (who : Initiator) (confirm : BitVec 8),
    s.alive d →
    who.isManager →
    confirm = 0xB4#8 →
    exec (.clearsum d who confirm) s = .next (((s.clearSummary d).showSumok d false).fltResult d 3 0)) ∧
  (∀ (d : Die) (dram : Bool),
    s.alive d →
    exec (.scrubPass d dram) s = .next (
        s.addSat d FLT_SCRUB (if dram then FLT_SCRUB__DRAMPASS else FLT_SCRUB__SRAMPASS) 1)) ∧
  (∀ (d : Die) (mem : Fin 12) (bank : BitVec 8) (row : BitVec 24) (lost : Bool),
    let key := mem.val * 256 + bank.toNat
    let used := tget 0 (s.keep.get d).sramUsed key
    s.alive d →
    bank.toNat < sramBanks mem.val →
    ¬ ((s.keep.get d).rows.any (fun r => decide (r.1 = mem.val ∧ r.2.1 = bank.toNat ∧ r.2.2.1 = row.toNat))) →
    exec (.sramRowRemap d mem bank row lost) s = .next (
        if 8 ≤ used then
          s.record d 0 0x17 key 0 (9 + 256 * row.toNat)
        else
          let s1 := s.updKeep d (fun k => { k with
            sramUsed := tset 0 k.sramUsed key (used + 1), rows := k.rows ++ [(mem.val, bank.toNat, row.toNat, lost)] })
          let s2 := (s1.addSat d FLT_REPAIR FLT_REPAIR__SRAMROWS 1).setF d FLT_SPARE FLT_SPARE__SRAMLEFT
            (s.fld d FLT_SPARE FLT_SPARE__SRAMLEFT - 1)
          s2.record d 0 0x17 key 0 (4 + 256 * row.toNat))) ∧
  (∀ (d : Die) (bank : Fin 64) (row : BitVec 24),
    s.alive d →
    exec (.dramRowRepair d bank row) s = .next (
        if (s.keep.get d).dramUsed.contains bank.val then
          s.record d 0 0x17 bank.val 0 (9 + 256 * row.toNat)
        else
          let s1 := s.updKeep d (fun k => { k with
            dramUsed := k.dramUsed ++ [bank.val], rows := k.rows ++ [(0, bank.val, row.toNat, false)] })
          let s2 := (s1.addSat d FLT_REPAIR FLT_REPAIR__DRAMROWS 1).setF d FLT_SPARE FLT_SPARE__DRAMLEFT
            (s.fld d FLT_SPARE FLT_SPARE__DRAMLEFT - 1)
          s2.record d 0 0x17 bank.val 0 (5 + 256 * row.toNat))) ∧
  (∀ (d : Die) (dux : Fin 12) (addr : BitVec 48) (applying : Bool),
    let x := dux.val
    let a := addr.toNat
    s.duxUp d x →
    0x100000000 ≤ a →
    a < 0x300000000 →
    exec (.dramEccError d dux addr applying) s = .next (
        if s.jLine d (lineOf64 a) then
          if applying then
            (if s.duxRole d x = 2 then s.goAlone d.other (s.fld d (DUX_dSTAT x) DUX_dSTAT__SERVES) 5 else s).record d 0 0x08 0 0 a
          else
            s.duxFails d x (fun s => s.record d 0 0x08 0 0 a)
        else
          let one := fun (st : State) (b : Die) => if (st.core d x b).wait.isSome then st.trap d x b 5 a else st
          ((one (one s 0) 1).record d 0 0x08 0 0 a).reply (.errorBytes (List.replicate 8 0xFF#8)))) ∧
  (∀ (d : Die) (cause : Fin 5),
    s.alive d →
    0 < cause.val →
    exec (.fatalFailure d cause) s = .next (s.fatal d cause.val)) ∧
  (∀ (d : Die),
    s.alive d →
    exec (.managementWatchdogExpiry d) s = .next (s.fatal d 1)) ∧
  (∀ (d : Die),
    let f := (s.vol.get d).flt
    ∀ cause, f.fatal = some cause →
    (s.keep.get d).run = .dumping →
    (s.keep.get d.other).run ≠ .dumping →
    let s1 := match f.slot with
      | none => s
      | some i =>
        let all := s.dumpSections d
        let secs := wholeSections 4096 all
        let cut := decide (secs.length < all.length)
        let bytes := s.dumpBytes d cause (1 + 4 * b2n cut) secs
        (s.putBytes d (dumpAddr i) bytes).updKeep d (fun k => { k with
          dumpSeq := k.dumpSeq + 1,
          dramDumps := tset none k.dramDumps i (some ⟨cause, d, true, false, cut, bytes.length, f.fatalAt.1, false, k.dumpSeq⟩) })
    exec (.dumpComplete d) s = .next (
        if !s1.alive d.other then
          s1.moduleReset 5 (1 + d.val)
        else if cause = 1 then
          s1.dieReset d 0x11 0
        else
          s1.dieReset d 0x10 (1 + d.val))) ∧
  (∀ (d : Die),
    let k := s.keep.get d
    ∀ i, oldestDump k.dramDumps (fun m => m.complete && !m.copied) = some i →
    ∀ m, tget none k.dramDumps i = some m →
    s.alive d →
    s.isSealed d →
    let dst := bulkTarget k.bulkDumps
    let s1 := if dst.2 then s.addSat d FLT_BLOT FLT_BLOT__OVER 1 else s
    let s2 := (s1.bulkPut (bulkSlot d dst.1 0) (s.bytesAt d (dumpAddr i) m.length)).dumpFlags d i (3 + 4 * b2n m.trunc)
    let s3 := s2.updKeep d (fun k => { k with
      dramDumps := tset none k.dramDumps i (some { m with copied := true }),
      bulkDumps := tset none k.bulkDumps dst.1 (some { m with copied := true, released := false }) })
    let bits := fun f => withBit (s3.fld d FLT_BLOT f) dst.1 true
    exec (.blotterCopy d) s = .next (
        ((s3.setF d FLT_BLOT FLT_BLOT__USED (bits FLT_BLOT__USED)).setF d FLT_BLOT FLT_BLOT__UNREAD
          (bits FLT_BLOT__UNREAD)).setF d FLT_BLOT FLT_BLOT__NEWEST dst.1)) ∧
  (∀ (d : Die) (pass : Bool),
    s.alive d →
    let s1 := s.updVol d (fun v => { v with flt := { v.flt with katStep := (v.flt.katStep + 1) % 15 } })
    exec (.katStep d pass) s = .next (
        if pass then
          s1
        else
          s1.setF d SEC_STAT SEC_STAT__KATFAIL 1))

/-- Glitches, unlocking, zeroisation and the commands of the security block: each command answers the next state of its own effect under
conditions on the state and operands alone. Commands: DIE_GLITCH, CISTERN_GLITCH, DRBG_HEALTH_FAIL, CHALLENGE, UNLOCK,
UNLOCK_VERIFIED, CHALLENGE_EXPIRY, ZEROISE, MEASUREMENT_READ, SEC_RANDOM, SEC_KEYGEN, SEC_LOAD, SEC_SAVE, SEC_GCM_ENCRYPT,
SEC_GCM_DECRYPT, SEC_SIGN, SEC_ATTEST, SEC_CLEAR_SLOT, SEC_SHA384, SEC_OPERATION_COMPLETE. Rests on spec/21_physical_security.md;
the model's own choices in it are those of log entries 7, 8, 17. -/
def Obligations.SecurityCompletes : Prop :=
  ∀ s : State,
  (∀ (d : Die),
    (s.keep.get d).supplied →
    let now := s.rtc
    let recent := ((s.keep.get d).glitches.filter (fun t => decide (now < t + 600 * 32768))) ++ [now]
    let s1 := (s.addSat d DBG_GLITCH DBG_GLITCH__DIE 1).updKeep d (fun k => { k with
      glitches := recent, glitchStuck := k.glitchStuck || decide (3 ≤ recent.length) })
    exec (.dieGlitch d) s = .next (s1.dieReset d 0x13 0)) ∧
  (
    s.cis.powered →
    exec .cisternGlitch s = .next (
        ((s.addSat 0 DBG_GLITCH DBG_GLITCH__CIS 1).addSat 1 DBG_GLITCH DBG_GLITCH__CIS 1).moduleReset 4 0)) ∧
  (∀ (d : Die),
    s.alive d →
    exec (.drbgHealthFail d) s = .next ((s.updSec d (fun c => { c with drbgStop := true })).record d 0x1100 0x08 0 0 0)) ∧
  (∀ (d : Die) (who : Initiator) (confirm : BitVec 8),
    s.alive d →
    who.isManager || decide (who = .debug) →
    confirm = 0xDB#8 →
    exec (.challenge d who confirm) s = .next (
        if s.bit d DBG_STAT DBG_STAT__LOCKOUT then
          s.dbgResult d 2 4
        else if (s.sec d).verifying.isSome || (s.sec d).drbgStop then
          s.dbgRefuseFree d
        else
          let q := s.draw d
          let s1 := q.2.updSec d (fun c => { c with chal := some (BitVec.ofNat 256 (leBytes q.1 0 32)), chalAt := s.ns d })
          ((List.range 8).foldl (fun st i => st.wr d (DBG_CHALi i) (BitVec.ofNat 32 (leBytes q.1 (4 * i) 4))) s1).dbgResult d 3 0)) ∧
  (∀ (d : Die) (who : Initiator) (confirm : BitVec 8) (scope : BitVec 2),
    s.alive d →
    who.isManager || decide (who = .debug) →
    confirm = 0xDB#8 →
    scope ≠ 0#2 →
    exec (.unlock d who confirm scope) s = .next (
        if s.bit d DBG_STAT DBG_STAT__LOCKOUT then
          s.dbgResult d 2 4
        else if (s.sec d).verifying.isSome then
          s.dbgRefuseFree d
        else if s.debugLimit d < scope.toNat then
          s.dbgResult d 2 1
        else
          match (s.sec d).chal with
          | none =>
              s.dbgResult d 2 3
          | some c =>
              if (s.sec d).chalAt + 60000000000 ≤ s.ns d then
                (s.updSec d (fun c => { c with chal := none })).dbgResult d 2 3
              else
                let buf := (s.rd d DBG_RESPL).toNat / 8 * 8 + 2 ^ 32 * s.fld d DBG_RESPH DBG_RESPH__ADDR
                let ok : Bool := responseOk d c scope.toNat (s.bytesAt d buf sigLen)
                (s.updSec d (fun c => { c with chal := none, verifying := some (scope.toNat, ok) })).dbgResult d 1 0)) ∧
  (∀ (d : Die),
    ∀ scope ok, (s.sec d).verifying = some (scope, ok) →
    s.alive d →
    exec (.unlockVerified d) s = .next (
        if !ok then
          let n := satTo 3 (s.fld d DBG_STAT DBG_STAT__FAILS + 1)
          (((s.updSec d (fun c => { c with verifying := none })).setF d DBG_STAT DBG_STAT__FAILS n).setF d DBG_STAT
            DBG_STAT__LOCKOUT (b2n (decide (3 ≤ n)))).dbgResult d 2 2
        else if scope = 1 then
          ((s.updSec d (fun c => { c with verifying := none })).setF d DBG_STAT DBG_STAT__SCOPE 1).dbgResult d 3 0
        else if scope = 2 then
          s.openScope d 2
        else
          s.updCis (fun c => { c with zeroise := true }))) ∧
  (∀ (d : Die),
    (s.sec d).chal.isSome →
    (s.sec d).chalAt + 60000000000 ≤ s.ns d →
    exec (.challengeExpiry d) s = .next (s.updSec d (fun c => { c with chal := none }))) ∧
  (∀ (d : Die),
    s.alive d →
    let s1 := s.eraseKeys d
    let done := fun (e : Die) => !s1.alive e || !s1.cis.zeroise || s1.cis.zeroReports.get e
    let enter := fun (st : State) (e : Die) =>
      if st.alive e && decide ((st.sec e).verifying = some (3, true)) then st.openScope e 3 else st
    exec (.zeroise d) s = .next (
        if done 0 && done 1 then
          enter (enter s1 0) 1
        else
          s1)) ∧
  (∀ (d : Die) (who : Initiator),
    s.alive d →
    who.isManager || decide (who = .debug) →
    let r := s.readAs d who (DBG_MEASi 0) none
    exec (.measurementRead d who) s = .next (r.2.reply (.value r.1.toNat))) ∧
  (∀ (d : Die) (cmd : SecCmd),
    ∀ q, s.secStarts d cmd q →
    s.secOpen d false true →
    let st := s.secTagged d cmd q
    let r : SecDone × State :=
      let n := st.secArg d 2
      if 65536 < n then
        (secNo (1 + (Config.freeWord st.free).toNat % 15), { st with free := st.free + 1 })
      else if !st.secWrites d cmd.who n then
        (secNo 3, st)
      else
        let q := st.drawBytes d n
        ({ data := q.1 }, q.2)
    exec (.secRandom d cmd) s = .next (r.2.secBegun d cmd r.1)) ∧
  (∀ (d : Die) (cmd : SecCmd),
    ∀ q, s.secStarts d cmd q →
    s.secOpen d true true →
    let st := s.secTagged d cmd q
    let r : SecDone × State :=
      let t := st.secArg d 5
      if !decide (1 ≤ t ∧ t ≤ 3) then
        (secNo 1, st)
      else
        let q := st.draw d
        let pub := if t = 1 then [] else Config.publicKey t q.1
        if t ≠ 1 ∧ st.secWrites d cmd.who pub.length = false then
          (secNo 3, st)
        else
          ({ data := pub, fill := some ⟨t, q.1⟩ }, q.2)
    exec (.secKeygen d cmd) s = .next (r.2.secBegun d cmd r.1)) ∧
  (∀ (d : Die) (cmd : SecCmd),
    ∀ q, s.secStarts d cmd q →
    s.secOpen d true false →
    let st := s.secTagged d cmd q
    let r : SecDone × State :=
      if !st.secReads d cmd.who (st.secIn d) (st.secArg d 2) then
        (secNo 3, st)
      else
        match Config.blobOpen storeKey (st.bytesAt d (st.secIn d) (st.secArg d 2)) with
        | some (t, k) =>
            ({ fill := some ⟨t, k⟩ }, st)
        | none =>
            (secNo 2, st)
    exec (.secLoad d cmd) s = .next (r.2.secBegun d cmd r.1)) ∧
  (∀ (d : Die) (cmd : SecCmd),
    ∀ q, s.secStarts d cmd q →
    s.secOpen d true false →
    let st := s.secTagged d cmd q
    let r : SecDone × State :=
      match st.keyIn d cmd.slot.val [1, 2, 3] with
      | none =>
          (secNo 1, st)
      | some k =>
          let q := st.draw d
          let blob := Config.blobWrap storeKey (q.1.take 12) k.typ k.key
          let kp := st.keep.get d
          let keepIt := decide (st.secArg d 5 = 1)
          if !st.secWrites d cmd.who blob.length || (keepIt && decide (kp.storeSize < kp.storeUsed + blob.length)) then
            (secNo 3, st)
          else if keepIt then
            ({ data := blob }, (q.2.putBytes d (kp.storeBase + kp.storeUsed) blob).updKeep d (fun k => { k with
              storeUsed := k.storeUsed + blob.length }))
          else
            ({ data := blob }, q.2)
    exec (.secSave d cmd) s = .next (r.2.secBegun d cmd r.1)) ∧
  (∀ (d : Die) (cmd : SecCmd),
    ∀ q, s.secStarts d cmd q →
    s.secOpen d true false →
    let st := s.secTagged d cmd q
    let r : SecDone × State := (st.gcm d cmd (fun k i a x => some (Config.gcmSeal k i a x)))
    exec (.secGcmEncrypt d cmd) s = .next (r.2.secBegun d cmd r.1)) ∧
  (∀ (d : Die) (cmd : SecCmd),
    ∀ q, s.secStarts d cmd q →
    s.secOpen d true false →
    let st := s.secTagged d cmd q
    let r : SecDone × State := (st.gcm d cmd Config.gcmOpen)
    exec (.secGcmDecrypt d cmd) s = .next (r.2.secBegun d cmd r.1)) ∧
  (∀ (d : Die) (cmd : SecCmd),
    ∀ q, s.secStarts d cmd q →
    s.secOpen d true false →
    let st := s.secTagged d cmd q
    let r : SecDone × State :=
      match st.keyIn d cmd.slot.val [2, 3] with
      | none =>
          (secNo 1, st)
      | some k =>
          st.secDigest d cmd (st.secArg d 2) (fun m => Config.sign k.key m)
    exec (.secSign d cmd) s = .next (r.2.secBegun d cmd r.1)) ∧
  (∀ (d : Die) (cmd : SecCmd),
    ∀ q, s.secStarts d cmd q →
    s.secOpen d true false →
    let st := s.secTagged d cmd q
    let r : SecDone × State :=
      if (st.keep.get d).attestOff then
        (secNo 6, st)
      else
        let w := (dwk d).getD []
        let ke := Config.kdf w (labelBytes [0x46, 0x56, 0x5A, 0x2D, 0x41, 0x54, 0x54, 0x2D, 0x45])
        let km := Config.kdf w (labelBytes [0x46, 0x56, 0x5A, 0x2D, 0x41, 0x54, 0x54, 0x2D, 0x4D])
        st.secDigest d cmd 32 (fun n => Config.sign ke (st.attestMsg d n) ++ Config.sign km (st.attestMsg d n))
    exec (.secAttest d cmd) s = .next (r.2.secBegun d cmd r.1)) ∧
  (∀ (d : Die) (cmd : SecCmd),
    ∀ q, s.secStarts d cmd q →
    s.secOpen d true false →
    let st := s.secTagged d cmd q
    let r : SecDone × State := ({}, st.updSec d (fun x => { x with slots := tset none x.slots cmd.slot.val none }))
    exec (.secClearSlot d cmd) s = .next (r.2.secBegun d cmd r.1)) ∧
  (∀ (d : Die) (cmd : SecCmd),
    ∀ q, s.secStarts d cmd q →
    s.secOpen d false false →
    let st := s.secTagged d cmd q
    let r : SecDone × State := (st.secDigest d cmd (st.secArg d 2) (fun m => toBE 48 (Config.sha384 m).toNat))
    exec (.secSha384 d cmd) s = .next (r.2.secBegun d cmd r.1)) ∧
  (∀ (d : Die),
    ∀ o, (s.sec d).op = some o →
    s.alive d →
    let s1 := s.updSec d (fun x => { x with op := none })
    let show3 := fun (st : State) (r reason len : Nat) =>
      ((st.setF d SEC_CMDRES SEC_CMDRES__RESULT r).setF d SEC_CMDRES SEC_CMDRES__REASON reason).setF d SEC_CMDRES
        SEC_CMDRES__LEN len
    exec (.secOperationComplete d) s = .next (
        if o.refused ≠ 0 then
          show3 s1 2 o.refused 0
        else
          let s2 := s1.dmaPut d o.out o.data
          let s3 := match o.fill with
            | some (i, k) => s2.updSec d (fun x => { x with slots := tset none x.slots i (some k) })
            | none => s2
          show3 s3 3 0 o.data.length))

/-- Records of clock islands, channels, feeds, switch dies, clusters and nib programs: each command answers the next state of its own
effect under conditions on the state and operands alone. Commands: ISLAND_CLOCK_RECORD, CHANNEL_RECORD, FEED_RECORD,
SWITCH_DIE_CONTROL_RECORD, FAIL_SAFE_ENTRY_RECORD, CLUSTER_RECORD, PROGRAM_RECORD, SUBSCRIPTION_RECORD, TICK_RECORD, MAILBOX_RECORD.
Rests on spec/02_ductus.md, spec/01_module_anatomy.md, spec/04_power_stage.md, spec/05_channel_control.md, spec/06_nib_engines.md;
the model's own choices in it are those of log entry 24. -/
def Obligations.PowerRecordsComplete : Prop :=
  ∀ s : State,
  (∀ (d : Die) (r : Rec),
    let b := r.body
    let n := r.inst
    let f := u16 b 0
    let gated := u8 b 2
    s.takesRecord d r 0 false 0x0C01 →
    b.length = 8 →
    gated < 2 →
    zeroBytes b 3 5 →
    (if 1 ≤ n ∧ n ≤ 3 then decide (800 ≤ f ∧ f ≤ 2200 ∧ f % 100 = 0 ∧ gated = 0) else decide (4 ≤ n ∧ n ≤ 11 ∧ f = 400) && (decide (gated = 0) || !s.clusterAssigned d (n - 4))) →
    exec (.islandClockRecord d r) s = .next (
        ((s.setF d (ISL_CLKn n) ISL_CLKn__FREQ f).setF d (ISL_CLKn n) ISL_CLKn__GATED gated).recordTaken d r 0)) ∧
  (∀ (d : Die) (r : Rec),
    let b := r.body
    s.takesRecord d r (u8 b 0) false 0x0201 →
    r.inst < 19 →
    channelOk r.inst b →
    let t : State :=
        let sd := r.inst
        let k := u8 b 0
        let cfg := u8 b 1 + 4 * (u8 b 7 / 2 % 2) + 8 * (u8 b 7 / 4 % 2) + 16 + 256 * u8 b 2 + 4096 * u8 b 3 + 65536 * u16 b 4
        let prm := u8 b 6 + 256 * (u8 b 7 % 2) + 65536 * u8 b 0xC + 2 ^ 24 * u8 b 0xD
        (((s.wr d (PWR_CHkCFG sd k) (BitVec.ofNat 32 cfg)).wr d (PWR_CHkPRM sd k) (BitVec.ofNat 32 prm)).wr d
          (PWR_CHkOL sd k) (BitVec.ofNat 32 (u16 b 8 + 65536 * u16 b 0xA))).wr d (PWR_CHkLDECL sd k)
            (BitVec.ofNat 32 (u16 b 0xE))
    exec (.channelRecord d r) s = .next (t.recordTaken d r (u8 b 0))) ∧
  (∀ (d : Die) (r : Rec),
    let b := r.body
    s.takesRecord d r 0 false 0x0202 →
    r.inst = 0 →
    b.length = 8 →
    u8 b 0 ≤ 1 →
    u8 b 1 ≤ 1 →
    zeroBytes b 2 6 →
    exec (.feedRecord d r) s = .next (
        ((List.range 19).foldl (fun st sd =>
        st.setF d (PWR_DCFG sd) PWR_DCFG__SETTING (if sdFeedB sd then u8 b 1 else u8 b 0)) s).recordTaken d r 0)) ∧
  (∀ (d : Die) (r : Rec),
    let b := r.body
    s.takesRecord d r 0 false 0x0203 →
    controlBodyOk r →
    exec (.switchDieControlRecord d r) s = .next (
        ((s.wr d (PWR_DCCFG r.inst) (BitVec.ofNat 32 (u8 b 0 + 8 * u8 b 3 + 256 * u8 b 1 + 65536 * u8 b 2))).showProt d).recordTaken d r 0)) ∧
  (∀ (d : Die) (r : Rec),
    let b := r.body
    s.takesRecord d r (u8 b 0) false 0x0204 →
    r.inst < 19 →
    entryOk r.inst b →
    exec (.failSafeEntryRecord d r) s = .next (
        (s.wr d (PWR_CHkFS r.inst (u8 b 0)) (BitVec.ofNat 32
        (u8 b 1 + 4 * (u8 b 2 % 4) + 16 * (u8 b 2 / 128) + 256 * u8 b 3 + 65536 * u16 b 4))).recordTaken d r (u8 b 0))) ∧
  (∀ (d : Die) (r : Rec),
    let u := s.noteLanes d r
    u.takesRecord d r 0 false 0x0301 →
    clusterForm r →
    s.replaced d r || !s.lanesClash d r →
    let t : State :=
        if u.replaced d r then
          u
        else
          (u.setF d (NBC_nCFG r.inst) NBC_nCFG__LANES (u16 r.body 0)).setF d (NBC_nSTALL r.inst) NBC_nSTALL__LIMIT (u16 r.body 2)
    exec (.clusterRecord d r) s = .next (t.recordTaken d r 0)) ∧
  (∀ (d : Die) (r : Rec),
    s.takesRecord d r (r.seq.toNat) false 0x0302 →
    s.progJudge d r = .good →
    let t : State :=
        let b := r.body
        let n := u16 b 4
        let im : NibImage := ⟨(List.range n).map (fun i => BitVec.ofNat 32 (u32 b (24 + 4 * i))),
          (b.drop (24 + 4 * n)).take (u16 b 6)⟩
        (((List.range 30).foldl (fun st k =>
          let x := (st.cl d r.inst).nib k
          if bitOf (u32 b 0) k ∧ (x.prog ≠ .record ∨ x.progSeq < r.seq.toNat) then
            let st1 := (st.loadImage d r.inst k im).updCl d r.inst (fun y => { y with images := tset {} y.images k im })
            let st2 := st1.updNib (mkNib d r.inst k) (fun x => { x with
              prog := .record, entry := u16 b 8, vbase0 := u16 b 10, wdog := u16 b 12, depth := u16 b 14,
              patchable := decide (u8 b 16 = 1), progSeq := r.seq.toNat })
            if x.prog = .gateway then st2.record d (0x0800 + r.inst) 0x12 k 0 0 else st2
          else st) s) : State).showPatch d r.inst
    exec (.programRecord d r) s = .next (t.recordTaken d r r.seq.toNat)) ∧
  (∀ (d : Die) (r : Rec),
    let b := r.body
    let first := u16 b 4
    let last := u16 b 6
    let silent : Bool := decide (u8 b 1 % 2 = 1)
    let event := decide (u8 b 1 / 2 % 2 = 1)
    let u : Subscr := ⟨first, last, silent || decide (first = 0x600), if event then some (u8 b 2) else none⟩
    s.takesRecord d r (r.seq.toNat) false 0x0303 →
    r.inst < 8 →
    b.length = 8 →
    u8 b 1 < 4 →
    u8 b 3 = 0 →
    first ≤ last →
    last < 0x601 →
    s.nibNameOk d r.inst (u8 b 0) →
    ¬ (silent && event) →
    (if event then decide (u8 b 2 < 16) else decide (u8 b 2 = 0)) →
    (List.range (last + 1 - first)).all (fun i => isSource (first + i)) →
    ¬ (event && decide (last = 0x600)) →
    !silent || decide (first = 0x600) || decide (0x20 ≤ first ∧ last ≤ 0xCF) →
    silentSources (((s.cl d r.inst).nib (u8 b 0)).subs ++ [u]) ≤ 32 →
    exec (.subscriptionRecord d r) s = .next (
        (s.updNib (mkNib d r.inst (u8 b 0)) (fun x => { x with subs := x.subs ++ [u] })).recordTaken d r r.seq.toNat)) ∧
  (∀ (d : Die) (r : Rec),
    let b := r.body
    s.takesRecord d r (u8 b 0) false 0x0304 →
    tickForm r →
    ¬ (decide (u8 b 0 = 15) && s.controls d r.inst) →
    exec (.tickRecord d r) s = .next (
        (s.updCl d r.inst (fun x => { x with ticks := tset none x.ticks (u8 b 0) (some ⟨u32 b 4, u32 b 8⟩) })).recordTaken d r (u8 b 0))) ∧
  (∀ (d : Die) (r : Rec),
    let b := r.body
    let target := u16 b 4
    let ok : Bool := match u8 b 2 with
      | 1 => decide (target < 24)
      | 2 => decide (target < 28)
      | 3 => decide (1 ≤ target ∧ target < 32) && s.defined d target
      | 4 => decide (target < 256 ∧ target % 32 < 30)
      | _ => false
    s.takesRecord d r (u8 b 0 * 16 + u8 b 1) false 0x0305 →
    r.inst < 8 →
    b.length = 8 →
    u8 b 1 < 16 →
    u8 b 3 = 0 →
    1 ≤ u16 b 6 →
    u16 b 6 ≤ 256 →
    s.nibNameOk d r.inst (u8 b 0) →
    ok →
    decide (u8 b 2 ≠ 2 ∨ 16 ≤ target) || decide (s.boxCredits d target r.inst (u8 b 0) (u8 b 1) + u16 b 6 ≤ 32) →
    exec (.mailboxRecord d r) s = .next (
        (s.updNib (mkNib d r.inst (u8 b 0)) (fun x => { x with
        boxes := tset {} x.boxes (u8 b 1) ⟨u8 b 2, target, u16 b 6, u16 b 6⟩ })).recordTaken d r (u8 b 0 * 16 + u8 b 1)))

/-- Records of the signal gateway: each command answers the next state of its own effect under conditions on the state and operands
alone. Commands: DESCRIPTOR_BLOCK_RECORD, FAN_OUT_BLOCK_RECORD, PDU_BLOCK_RECORD, GATEWAY_RECORD, PARTITION_MAILBOX_RECORD,
ACF_PORT_RECORD, VALUE_TABLE_RECORD. Rests on spec/02_ductus.md, spec/08_signal_gateway.md; the model's own choices in it are those
of log entries 24, 41. -/
def Obligations.GatewayRecordsComplete : Prop :=
  ∀ s : State,
  (∀ (d : Die) (r : Rec),
    s.takesRecord d r (r.seq.toNat) false 0x0401 →
    s.blockJudge d r 0 = .good →
    exec (.descriptorBlockRecord d r) s = .next ((s.blockWrite d r 0).recordTaken d r r.seq.toNat)) ∧
  (∀ (d : Die) (r : Rec),
    s.takesRecord d r (r.seq.toNat) false 0x0402 →
    s.blockJudge d r 1 = .good →
    exec (.fanOutBlockRecord d r) s = .next ((s.blockWrite d r 1).recordTaken d r r.seq.toNat)) ∧
  (∀ (d : Die) (r : Rec),
    s.takesRecord d r (r.seq.toNat) false 0x0403 →
    s.blockJudge d r 2 = .good →
    exec (.pduBlockRecord d r) s = .next (
        ((s.blockWrite d r 2).recordTaken d r r.seq.toNat).afterLast s d r (fun q => decide (q.typ.toNat = 0x0403) && !q.lateStep) (fun t => t.checkKeys d))) ∧
  (∀ (d : Die) (r : Rec),
    let b := r.body
    s.takesRecord d r 0 false 0x0404 →
    r.inst < 8 →
    b.length = 16 →
    u32 b 0 < 2 ^ 30 →
    u8 b 4 < 15 →
    u8 b 5 = 0 →
    16 ≤ u16 b 6 →
    u16 b 6 ≤ 512 →
    1 ≤ u16 b 8 →
    u16 b 8 ≤ 1000 →
    ¬ r.late →
    zeroBytes b 10 6 →
    ¬ (bitOf (u32 b 0) 29 && s.controls d r.inst) →
    s.depths d r.inst (u32 b 0) (u16 b 6) ≤ 4096 →
    100000 ≤ s.tickAhead d r.inst (u8 b 4) →
    s.tickAhead d r.inst (u8 b 4) ≤ 1000000 →
    exec (.gatewayRecord d r) s = .next (
        (s.updCl d r.inst (fun x => { x with
        gwTick := some (u8 b 4),
        nibs := (List.range 30).foldl (fun t k =>
        if bitOf (u32 b 0) k then tupd {} t k (fun y =>
        if y.prog = .record then y else { y with prog := .gateway, depth := u16 b 6, wdog := u16 b 8 })
        else tupd {} t k (fun y => if y.prog = .gateway then { y with prog := .none, depth := 0 } else y)) x.nibs })).recordTaken d r 0)) ∧
  (∀ (d : Die) (r : Rec),
    let b := r.body
    s.takesRecord d r 0 false 0x0405 →
    r.inst < 32 →
    b.length = 24 →
    s.defined d r.inst →
    6 ≤ u8 b 16 →
    u8 b 16 ≤ 11 →
    4 ≤ u8 b 17 →
    u8 b 17 ≤ 12 →
    6 ≤ u8 b 18 →
    u8 b 18 ≤ 11 →
    4 ≤ u8 b 19 →
    u8 b 19 ≤ 12 →
    ¬ r.late →
    zeroBytes b 20 4 →
    s.ringOk d r.inst (u64 b 0) (ringSize (u8 b 16) (u8 b 17)) →
    s.ringOk d r.inst (u64 b 8) (ringSize (u8 b 18) (u8 b 19)) →
    let t : State :=
        let p := r.inst
        ((s.wr64 d (SGW_PpOBASEL p) (SGW_PpOBASEH p) (u64 b 0)).wr64 d (SGW_PpIBASEL p) (SGW_PpIBASEH p) (u64 b 8)).wr d
          (SGW_PpGEOM p) (BitVec.ofNat 32 (u8 b 16 + 16 * u8 b 17 + 256 * u8 b 18 + 4096 * u8 b 19 + 65536))
    exec (.partitionMailboxRecord d r) s = .next (t.recordTaken d r 0)) ∧
  (∀ (d : Die) (r : Rec),
    let b := r.body
    let da := leBytes (b.take 6).reverse 0 6
    s.takesRecord d r 0 false 0x0406 →
    r.inst < 24 →
    b.length = 24 →
    u16 b 6 < 2 ^ 15 →
    u16 b 6 % 2 ^ 12 ≠ 4095 →
    u8 b 16 < 2 →
    u8 b 17 < 2 →
    zeroBytes b 18 6 →
    exec (.acfPortRecord d r) s = .next (
        (s.mirrorLate d r (fun s e =>
        let k := r.inst
        (((s.wr e (SGW_AkDAL k) (BitVec.ofNat 32 da)).wr e (SGW_AkDAH k)
        (BitVec.ofNat 32 (da / 2 ^ 32 + 2 ^ 16 * (u16 b 6 % 2 ^ 12) + 2 ^ 28 * (u16 b 6 / 2 ^ 12)))).wr64 e (SGW_AkSIDL k)
        (SGW_AkSIDH k) (u64 b 8)).wr e (SGW_AkCFG k) (BitVec.ofNat 32 (1 + 2 * u8 b 16 + 4 * u8 b 17)))).recordTaken d r 0)) ∧
  (∀ (d : Die) (r : Rec),
    let b := r.body
    s.takesRecord d r (r.seq.toNat) false 0x0407 →
    r.inst < 8 →
    u32 b 0 % 8 = 0 →
    1 ≤ u32 b 4 →
    b.length = 8 + 8 * u32 b 4 →
    u32 b 0 + 8 * u32 b 4 ≤ 0x3F000 →
    exec (.valueTableRecord d r) s = .next (
        ((List.range (u32 b 4)).foldl (fun st i => st.putEntry d r (2 ^ 20 * r.inst + u32 b 0 / 8 + i) (fun st =>
        st.mirrorLate d r (fun st e => st.putBytes e (poolAddr r.inst (u32 b 0 + 8 * i)) ((b.drop (8 + 8 * i)).take 8)))) s).recordTaken d r r.seq.toNat))

/-- Records of field buses, sense inputs, satellites and Ethernet ports: each command answers the next state of its own effect under
conditions on the state and operands alone. Commands: CAN_CONTROLLER_RECORD, CAN_FILTERS_RECORD, LIN_CONTROLLER_RECORD,
LIN_FRAME_TABLE_RECORD, LIN_SCHEDULE_RECORD, SENSE_INPUTS_RECORD, SATELLITE_BUS_RECORD, PORT_RECORD. Rests on spec/02_ductus.md,
spec/09_field_buses_and_sense.md, spec/10_ethernet_ports.md; the model's own choices in it are those of log entry 24. -/
def Obligations.FieldAndPortRecordsComplete : Prop :=
  ∀ s : State,
  (∀ (d : Die) (r : Rec),
    let c := r.inst
    let w := bodyWord r 0
    let cfg := w 3
    let mode := FBB_CcCFG__MODE.get cfg
    let wakes := (List.range 16).filter (fun k => decide (k ≠ c) && s.bit d (FBB_CcCFG k) FBB_CcCFG__DWAKE)
    let ok : Bool := decide (c < 16 ∧ r.body.length = 24 ∧ cfg.toNat < 2 ^ 24 ∧ (w 4).toNat < 2 ^ 16) && !r.late && nbtOk (w 0) &&
      (if 2 ≤ mode then dbtOk (w 1) 8 else decide (w 1 = 0#32)) && (if mode = 3 then dbtOk (w 2) 20 else decide (w 2 = 0#32)) &&
      s.defined d (FBB_CcCFG__PART.get cfg) && (decide (FBB_CcCFG__PART.get cfg ≠ 0) || !(bitOf cfg.toNat 2 || bitOf cfg.toNat 12)) &&
      !(bitOf cfg.toNat 23 && decide (4 ≤ wakes.length))
    s.takesRecord d r 0 false 0x0501 →
    ok →
    let t : State :=
        let s1 := (((((s.wr d (FBB_CcNBT c) (w 0)).wr d (FBB_CcDBT c) (w 1)).wr d (FBB_CcXBT c) (w 2)).wr d (FBB_CcCFG c)
          cfg).wr d (FBB_CcXDEF c) (w 4)).wr d (FBB_CcXAF c) (w 5)
        let s2 := if mode = 0 then s1.setF d (FBB_CcSTAT c) FBB_CcSTAT__STATE 0
          else (s1.setF d (FBB_CcSTAT c) FBB_CcSTAT__STATE 1).canForward c d
        let s3 := s2.updFbSel c (fun x => { x with die := if x.count.isNone then s2.fbOwnerDie d c else x.die })
        { s3 with field := { s3.field with
          dwake := s3.field.dwake.filter (fun k => decide (k ≠ c)) ++ (if bitOf cfg.toNat 23 then [c] else []) } }
    exec (.canControllerRecord d r) s = .next (t.recordTaken d r 0)) ∧
  (∀ (d : Die) (r : Rec),
    let first := u32 r.body 0
    let n := u32 r.body 4
    s.takesRecord d r (r.seq.toNat) false 0x0502 →
    r.inst < 16 →
    r.body.length = 8 + 8 * n →
    first < 64 →
    first + n ≤ 64 →
    (List.range n).all (fun i => decide (bitOf (bodyWord r 12 (2 * i)).toNat 29 = false)) →
    exec (.canFiltersRecord d r) s = .next (
        ((List.range n).foldl (fun st i =>
        st.putEntry d r (64 * r.inst + first + i) (fun st =>
        (st.wr d (FBB_CcFAf r.inst (first + i)) (bodyWord r 8 (2 * i))).wr d (FBB_CcFBf r.inst (first + i)) (bodyWord r 12 (2 * i)))) s).recordTaken d r r.seq.toNat)) ∧
  (∀ (d : Die) (r : Rec),
    let cfg := bodyWord r 0 0
    let baud := FBB_LlCFG__BAUD.get cfg
    s.takesRecord d r 0 false 0x0503 →
    16 ≤ r.inst →
    r.inst < 28 →
    r.body.length = 8 →
    1000 ≤ baud →
    baud ≤ 20000 →
    FBB_LlCFG__BREAK.get cfg ≤ 13 →
    ¬ r.late →
    zeroBytes r.body 4 4 →
    s.defined d (FBB_LlCFG__PART.get cfg) →
    decide (FBB_LlCFG__PART.get cfg ≠ 0) || !(bitOf cfg.toNat 16 || bitOf cfg.toNat 26) →
    let t : State :=
        let s1 := (s.wr d (FBB_CcCFG r.inst) cfg).setF d (FBB_CcSTAT r.inst) FBB_LlSTAT__STATE 2
        s1.updFbSel r.inst (fun x => { x with die := if x.count.isNone then s1.fbOwnerDie d r.inst else x.die })
    exec (.linControllerRecord d r) s = .next (t.recordTaken d r 0)) ∧
  (∀ (d : Die) (r : Rec),
    s.takesRecord d r (r.seq.toNat) false 0x0504 →
    linTableOk r (fun w => decide (w.toNat < 2 ^ 7 ∧ FBB_LlFRMi__DIR.get w ≠ 3 ∧ 1 ≤ FBB_LlFRMi__LEN.get w ∧ FBB_LlFRMi__LEN.get w ≤ 8)) →
    exec (.linFrameTableRecord d r) s = .next (
        ((List.range (u32 r.body 4)).foldl (fun st i =>
        let k := u32 r.body 0 + i
        st.wr d (FBB_LlFRMi (r.inst - 16) k) (if k = 0x3C ∨ k = 0x3D then FBB_LlFRMi__CHK.set (bodyWord r 8 i) 0 else bodyWord r 8 i)) s).recordTaken d r r.seq.toNat)) ∧
  (∀ (d : Die) (r : Rec),
    let first := u32 r.body 0
    let n := u32 r.body 4
    s.takesRecord d r (r.seq.toNat) false 0x0505 →
    linTableOk r (fun w => decide (w.toNat < 2 ^ 16 ∧ w.toNat / 64 % 4 = 0 ∧ 1 ≤ FBB_LlSCHs__TIME.get w)) →
    s.bit d (FBB_CcCFG r.inst) FBB_LlCFG__MASTER →
    let t : State :=
        let s1 := (List.range n).foldl (fun st i => st.wr d (FBB_LlSCHs (r.inst - 16) (first + i)) (bodyWord r 8 i)) s
        s1.updFb d r.inst (fun x =>
          let lo := if x.count = 0 then first else min x.first first
          let hi := if x.count = 0 then first + n else max (x.first + x.count) (first + n)
          { x with first := lo, count := hi - lo })
    exec (.linScheduleRecord d r) s = .next (t.recordTaken d r r.seq.toNat)) ∧
  (∀ (d : Die) (r : Rec),
    let first := u32 r.body 0
    let n := u32 r.body 4
    s.takesRecord d r (r.seq.toNat) false 0x0506 →
    r.inst = 0 →
    r.body.length = 8 + 8 * n →
    first + n ≤ 96 →
    ¬ r.late →
    (List.range n).all (fun i => senseOk (bodyWord r 8 (2 * i)) (bodyWord r 12 (2 * i))) →
    exec (.senseInputsRecord d r) s = .next (
        ((List.range n).foldl (fun st i =>
        (st.wr d (FBB_SNSCFGn (first + i)) (bodyWord r 8 (2 * i))).wr d (FBB_SNSTHRn (first + i)) (bodyWord r 12 (2 * i))) s).recordTaken d r r.seq.toNat)) ∧
  (∀ (d : Die) (r : Rec),
    let cfg := bodyWord r 0 0
    let n := FBB_SATbCFG__N.get cfg
    s.takesRecord d r 0 false 0x0507 →
    r.inst < 4 →
    r.body.length = 24 →
    cfg.toNat < 2 ^ 10 →
    cfg.toNat / 128 % 2 = 0 →
    2 ≤ n →
    n ≤ 64 →
    bitOf cfg.toNat 9 →
    ¬ r.late →
    zeroBytes r.body 20 4 →
    (List.range 4).all (fun c => decide ((bodyWord r 4 c).toNat < 2 ^ 27 ∧ FBB_SATbPRc__WSIZE.get (bodyWord r 4 c) ≠ 3)) →
    exec (.satelliteBusRecord d r) s = .next (
        ((List.range 4).foldl (fun st c => st.wr d (FBB_SATbPRc r.inst c) (bodyWord r 4 c))
        (s.wr d (FBB_SATbCFG r.inst) cfg)).recordTaken d r 0)) ∧
  (∀ (d : Die) (r : Rec),
    let b := r.body
    let p := r.inst
    let rate := u8 b 0 / 2
    s.takesRecord d r 0 false 0x0601 →
    portBodyOk p b →
    s.sharesOk d 27 0 →
    s.defined d (u8 b 4) →
    let t : State :=
        let w := fun (st : State) (off x : Nat) => st.wr d off (BitVec.ofNat 32 x)
        let s1 := w (w (w s (MAC_ADDRL p) (u32 b 8)) (MAC_ADDRH p) (u16 b 12)) (MAC_CFG p)
          (u8 b 0 + 8 * u8 b 1 + 32 * u8 b 2 + 128 * u8 b 3 + 2 ^ 16 * u8 b 4)
        let s2 := w (w (w s1 (MAC_FC p) (u16 b 0x0E + 2 ^ 16 * u8 b 7)) (MAC_PREEMPT p) (u8 b 6 + 256 * u8 b 5)) (MAC_EEE p)
          (u16 b 0x10 + 2 ^ 16 * u16 b 0x12)
        let s3 := w (w (w s2 (MAC_EEEWAKE p) (u16 b 0x12)) (MAC_PLCA p)
          (u8 b 0x14 + 2 ^ 8 * u8 b 0x15 + 2 ^ 16 * u8 b 0x16 + 2 ^ 24 * u8 b 0x18)) (MAC_PLCAB p) (u8 b 0x17)
        let s4 := (w s3 (MAC_DLY p) (portDelay p rate)).setF d (MAC_STAT p) MAC_STAT__RATE rate
        let s5 := if isSb p then s4.setF d (MAC_STAT p) MAC_STAT__PLCAST (u8 b 1) else s4
        let s5 := if (tget {} (s5.vol.get d).tim.ports p).given then s5 else s5.setF d (TIM_GpSTAT p) TIM_GpSTAT__STATE 1
        let s6 := (s5.setF d (SWC_PpCFG p) SWC_PpCFG__BP (b2n (s5.portBp d p))).headDefault d p
        if (s6.port p).link then
          s6.macVerify d p
        else
          s6
    exec (.portRecord d r) s = .next (t.recordTaken d r 0))

/-- Records of the switch core and of group time: each command answers the next state of its own effect under conditions on the state
and operands alone. Commands: SWITCH_RECORD, SWITCH_PORT_RECORD, VLAN_BLOCK_RECORD, STATIC_ENTRIES_RECORD, GATE_LIST_RECORD,
HOST_QUEUES_RECORD, TIME_RECORD, PHASE_PLAN_RECORD, GPTP_PORT_RECORD, PULSE_OUTPUT_RECORD, LANE_PIN_RECORD. Rests on
spec/02_ductus.md, spec/11_switch_core.md, spec/12_group_time.md; the model's own choices in it are those of log entries 24, 38. -/
def Obligations.SwitchAndTimeRecordsComplete : Prop :=
  ∀ s : State,
  (∀ (d : Die) (r : Rec),
    let b := r.body
    let t := u32 b 0
    s.takesRecord d r 0 false 0x0701 →
    r.inst = 0 →
    b.length = 8 →
    t = 0 ∨ (10 ≤ t ∧ t ≤ 1000000) →
    ¬ r.late →
    zeroBytes b 4 4 →
    exec (.switchRecord d r) s = .next ((s.setF d SWC_CFG SWC_CFG__AGETIME t).recordTaken d r 0)) ∧
  (∀ (d : Die) (r : Rec),
    let b := r.body
    let p := r.inst
    s.takesRecord d r 0 false 0x0702 →
    s.switchPortOk d p b →
    ¬ r.late →
    let t : State :=
        let s1 := s.putPort d p (u16 b 0) (u8 b 2) (u8 b 3 % 4) (u8 b 3 / 4) (u32 b 4) (u16 b 8) (u16 b 10) (u16 b 12) (u8 b 14)
        (List.range 8).foldl (fun st c => st.wr d (SWC_PpCBSc p c) (BitVec.ofNat 32 (u32 b (16 + 4 * c)))) s1
    exec (.switchPortRecord d r) s = .next (t.recordTaken d r 0)) ∧
  (∀ (d : Die) (r : Rec),
    let b := r.body
    let first := u32 b 0
    let n := u32 b 4
    s.takesRecord d r 0 false 0x0703 →
    r.inst = 0 →
    b.length = 8 + 8 * n →
    1 ≤ first →
    first ≤ 4094 →
    first + n ≤ 4095 →
    (List.range (2 * n)).all (fun i => decide (u32 b (8 + 4 * i) < 2 ^ 26)) →
    exec (.vlanBlockRecord d r) s = .next (
        (s.mirrorLate d r (fun st e => st.updSwc e (fun x => { x with
        vlan := (List.range n).map (fun i => (first + i, (u32 b (8 + 8 * i), u32 b (12 + 8 * i)))), vlanRec := true }))).recordTaken d r 0)) ∧
  (∀ (d : Die) (r : Rec),
    let b := r.body
    let n := u32 b 0
    let entry := fun i => leBytes b (8 + 16 * i) 16
    let fill := fun (x : SwcSt) => (List.range n).foldl (fun (o : Option SwcSt) i => match o with
      | some y => (y.fdbPut (entry i)).map (·.2)
      | none => none) (some { x with fdb := x.fdb.filter (fun e => !fdbStatic e.2) })
    s.takesRecord d r 0 false 0x0704 →
    r.inst = 0 →
    1 ≤ n →
    n ≤ 16384 →
    b.length = 8 + 16 * n →
    zeroBytes b 4 4 →
    (List.range n).all (fun i => fdbRule (entry i) && fdbStatic (entry i) && fdbValid (entry i) && s.fdbDefined d (entry i)) →
    (fill (s.swc d)).isSome →
    exec (.staticEntriesRecord d r) s = .next (
        (s.mirrorLate d r (fun st e => (st.updSwc e (fun x => (fill x).getD x)).fdbCount e)).recordTaken d r 0)) ∧
  (∀ (d : Die) (r : Rec),
    let b := r.body
    let n := u32 b 12
    let cyc := u32 b 8
    let ivl := fun i => u32 b (20 + 8 * i)
    s.takesRecord d r 0 false 0x0705 →
    r.inst < 24 →
    1 ≤ n →
    n ≤ 64 →
    b.length = 16 + 8 * n →
    1000 ≤ cyc →
    cyc ≤ 1000000000 →
    ¬ r.late →
    (List.range n).all (fun i => zeroBytes b (17 + 8 * i) 3 && decide (100 ≤ ivl i ∧ ivl i ≤ 1000000000)) →
    ((List.range n).map ivl).sum = cyc →
    let t : State :=
        let g : GateList := { base := u64 b 0, cycle := cyc, entries := (List.range n).map (fun i => (u8 b (16 + 8 * i), ivl i)) }
        s.updSwc d (fun x => { x with gates := tput x.gates r.inst g })
    exec (.gateListRecord d r) s = .next (t.recordTaken d r 0)) ∧
  (∀ (d : Die) (r : Rec),
    let b := r.body
    let p := r.inst
    let o := fun q => 8 + 16 * q
    let qOk := fun q =>
      if u8 b (o q + 11) = 0 then decide (u8 b (o q + 8) < 16 ∧ u8 b (o q + 9) < 16 ∧ u8 b (o q + 10) < 16)
      else decide (u8 b (o q + 11) = 1 ∧ 4 ≤ u8 b (o q + 8) ∧ u8 b (o q + 8) ≤ 12 ∧ 4 ≤ u8 b (o q + 9) ∧ u8 b (o q + 9) ≤ 12 ∧
          7 ≤ u8 b (o q + 10) ∧ u8 b (o q + 10) ≤ 12) &&
        s.hostRingOk d p (4096 * u32 b (o q)) (32 * 2 ^ u8 b (o q + 8)) &&
        s.hostRingOk d p (4096 * u32 b (o q + 4)) (2 ^ (u8 b (o q + 9) + u8 b (o q + 10)))
    s.takesRecord d r 0 false 0x0706 →
    p < 32 →
    b.length = 136 →
    u32 b 0 < 2 →
    s.defined d p →
    ¬ r.late →
    zeroBytes b 4 4 →
    (List.range 8).all (fun q => zeroBytes b (o q + 12) 4 && qOk q) →
    exec (.hostQueuesRecord d r) s = .next (
        ((List.range 8).foldl (fun st q =>
        ((st.wr d (SWC_HpqTXB p q) (BitVec.ofNat 32 (u32 b (o q)))).wr d (SWC_HpqRXB p q)
        (BitVec.ofNat 32 (u32 b (o q + 4)))).wr d (SWC_HpqGEOM p q)
        (BitVec.ofNat 32 (u8 b (o q + 8) + 16 * u8 b (o q + 9) + 256 * u8 b (o q + 10) + 4096 * u8 b (o q + 11))))
        (s.setF d (SWC_HpFLAGS p) SWC_HpFLAGS__FLOOD (u32 b 0))).recordTaken d r 0)) ∧
  (∀ (d : Die) (r : Rec),
    let b := r.body
    let thr := u32 b 8
    let hold := u16 b 12
    s.takesRecord d r 0 false 0x0801 →
    r.inst = 0 →
    b.length = 16 →
    u8 b 0 < 2 →
    u8 b 3 = 0 →
    100 ≤ thr →
    thr ≤ 1000000 →
    1 ≤ hold →
    hold ≤ 16383 →
    u16 b 14 = 0 →
    ¬ r.late →
    exec (.timeRecord d r) s = .next (
        (((s.wr d TIM_CFG (BitVec.ofNat 32 (u8 b 0 + 2 * b2n (decide (u8 b 1 < 255)) + 4 * u8 b 1 + 2 ^ 10 * u8 b 2 +
        2 ^ 18 * hold))).wr d TIM_SERVO (BitVec.ofNat 32 (u16 b 6 + 2 ^ 16 * u16 b 4))).wr d TIM_STEPTHR (BitVec.ofNat 32 thr)).recordTaken d r 0)) ∧
  (∀ (d : Die) (r : Rec),
    let b := r.body
    s.takesRecord d r 0 false 0x0802 →
    r.inst = 0 →
    b.length = 328 →
    ¬ r.late →
    zeroBytes b 4 4 →
    exec (.phasePlanRecord d r) s = .next (
        (s.updVol d (fun v => { v with plan :=
        { stride := u32 b 0, base := (List.range 80).foldl (fun t n => tset 0 t n (u32 b (8 + 4 * n))) [] } })).recordTaken d r 0)) ∧
  (∀ (d : Die) (r : Rec),
    let b := r.body
    let p := r.inst
    let st := u8 b 0
    let i8 := fun i => toSigned 8 (u8 b i)
    let ext := s.extCfg d
    let stOk : Bool := if isSb p then decide (st ≤ 1)
      else decide (st ≤ 3) && (!(decide (st = 1) || decide (st = 2)) || ext) && (decide (st ≠ 3) || !ext)
    let twoSlaves := decide (st = 2) && ((s.tim d).ports.any (fun e => decide (e.1 ≠ p ∧ e.2.state = 2)) ||
      (List.range 24).any (fun q => decide (q ≠ p) &&
        (lastRec (s.vol.get d).boot.recs d 0x0803 q (fun _ => true)).any (fun r => decide (u8 r.body 0 = 2))))
    s.takesRecord d r 0 false 0x0803 →
    p < 24 →
    b.length = 8 →
    -7 ≤ i8 1 →
    i8 1 ≤ 0 →
    -3 ≤ i8 2 →
    i8 2 ≤ 3 →
    -3 ≤ i8 3 →
    i8 3 ≤ 3 →
    2 ≤ u8 b 4 →
    u8 b 4 ≤ 10 →
    2 ≤ u8 b 5 →
    u8 b 5 ≤ 10 →
    5 ≤ u16 b 6 →
    u16 b 6 ≤ 1000 →
    stOk →
    ¬ twoSlaves →
    ¬ r.late →
    let t : State :=
        let g : GptpPort := ⟨true, st, i8 1, i8 2, i8 3, u8 b 4, u8 b 5, 10 * u16 b 6⟩
        let s1 := (s.updTim d (fun x => { x with ports := tset {} x.ports p g })).setF d (TIM_GpSTAT p) TIM_GpSTAT__STATE
          (if st = 3 then 1 else st)
        if st = 2 then
          s1.setF d TIM_STAT TIM_STAT__SLAVE p
        else
          s1
    exec (.gptpPortRecord d r) s = .next (t.recordTaken d r 0)) ∧
  (∀ (d : Die) (r : Rec),
    s.takesRecord d r 0 false 0x0804 →
    r.inst < 4 →
    r.body.length = 8 →
    u8 r.body 0 < 32 →
    s.defined d (u8 r.body 0) →
    zeroBytes r.body 1 7 →
    ¬ r.late →
    exec (.pulseOutputRecord d r) s = .next (
        (s.updTim d (fun x => { x with pulses := tupd {} x.pulses r.inst (fun k => { k with owner := some (u8 r.body 0) }) })).recordTaken d r 0)) ∧
  (∀ (d : Die) (r : Rec),
    let named := (List.range 8).any (fun c => (s.laneRecOf d c).any (fun q => bitOf (u16 q.body 0) r.inst))
    s.takesRecord d r 0 false 0x0805 →
    r.inst < 16 →
    r.body.length = 8 →
    u8 r.body 0 < 2 →
    zeroBytes r.body 1 7 →
    ¬ r.late →
    decide (u8 r.body 0 = 0) || (named && !(s.vol.get d).boot.recs.any (assignsPin r.inst)) →
    exec (.lanePinRecord d r) s = .next (
        (s.updTim d (fun x => { x with
        pins := x.pins.filter (fun j => decide (j ≠ r.inst)) ++ (if u8 r.body 0 = 1 then [r.inst] else []) })).recordTaken d r 0))

/-- Records of duplexes, images, energy, zone group, update, faults, debug and keys: each command answers the next state of its own
effect under conditions on the state and operands alone. Commands: DUPLEX_RECORD, EPOCH_RECORD, OPEN_IMAGE_RECORD,
ENERGY_POLICY_RECORD, WAKE_PINS_RECORD, FEED_WATCH_RECORD, GROUP_RECORD, REMOTE_ACCESS_RECORD, ROAMING_RECORD, UPDATE_POLICY_RECORD,
COMPATIBILITY_RECORD, FAULT_POLICY_RECORD, DEBUG_POLICY_RECORD, SEALED_KEY_STORE_RECORD. Rests on spec/02_ductus.md,
spec/13_pair_and_spare.md, spec/15_application_cores.md, spec/17_cistern_energy.md, spec/18_zone_group.md, spec/19_field_update.md,
spec/20_faults_and_blotter.md, spec/21_physical_security.md; the model's own choices in it are those of log entries 24, 57. -/
def Obligations.ModuleRecordsComplete : Prop :=
  ∀ s : State,
  (∀ (d : Die) (r : Rec),
    let b := r.body
    let x := r.inst
    let serves := u8 b 2
    let otherHome := (s.plannedDux d d.other serves).1
    let taken := (List.range 12).any (fun y => decide (y ≠ x) && decide (s.plannedDux d d y = (2, serves)))
    let ok : Bool := decide (x < 12 ∧ b.length = 8 ∧ u8 b 0 ≤ 2 ∧ u8 b 1 ≤ 168 ∧ r.block = 3) && zeroBytes b 3 5 && !r.late &&
      (if u8 b 0 = 2 then decide (serves = 0xFF) || (decide (serves < 12) && !taken && decide (otherHome = 1))
       else decide (serves = 0xFF))
    let j := if !ok then Judged.malformed
      else if bitOf (s.rd d DUX_RETIRE).toNat x then .notApplicable else .good
    s.takesRecord d r 0 true 0x0901 →
    j = .good →
    let t : State :=
        let s1 := s.wr d (DUX_dCFG x) (BitVec.ofNat 32 (u8 b 0 + 2 ^ 8 * (if u8 b 1 = 0 then 24 else u8 b 1)))
        (s1.setF d (DUX_dSTAT x) DUX_dSTAT__ROLE (u8 b 0)).setF d (DUX_dSTAT x) DUX_dSTAT__SERVES
          (if serves < 12 then serves else 15)
    exec (.duplexRecord d r) s = .next (t.recordTaken d r 0)) ∧
  (∀ (d : Die) (r : Rec),
    let b := r.body
    let p := r.inst
    let hd : Die := if u8 b 0 = 1 then 1 else 0
    let shed := decide (u8 b 3 = 1)
    let role := (s.plannedDux d hd (u8 b 1)).1
    let form := decide (p < 32 ∧ b.length = 16 ∧ r.block = 4 ∧ u8 b 0 ≤ 1 ∧ u8 b 1 < 12 ∧ u8 b 3 ≤ 1 ∧ 50 ≤ u16 b 4 ∧
        u16 b 4 ≤ 10000 ∧ 64 ≤ u16 b 6 ∧ u16 b 6 ≤ 16384 ∧ u16 b 8 ≤ 2000) && zeroBytes b 10 6 && !r.late &&
      (if shed then decide (u8 b 2 = 0xFF) else decide (u8 b 2 < 12))
    let place := if shed then decide (role = 2)
      else decide (role = 1) && decide (s.plannedDux d hd.other (u8 b 2) = (2, u8 b 1))
    let q := (s.putEpochRec d p b).budget d hd.val
    let ok : Bool := form && place && s.bit d (WLD_pCFG p) WLD_pCFG__DEFINED && decide (q.1 ≤ 80000000000 ∧ q.2 ≤ 2000)
    s.takesRecord d r 0 false 0x0902 →
    ok →
    exec (.epochRecord d r) s = .next (((s.putEpochRec d p b).ownSelectors d p (u8 b 0)).recordTaken d r 0)) ∧
  (∀ (d : Die) (r : Rec),
    let b := r.body
    let a := u64 b 0
    let n := u32 b 8
    let w := s.wld d
    let overlap := w.images.any (fun e => decide (a < e.1 + e.2 ∧ e.1 < a + n)) || (s.vol.get d).boot.recs.any (fun q =>
      openImageForm q && decide (q.index ≠ r.index ∧ a < u64 q.body 0 + u32 q.body 8 ∧ u64 q.body 0 < a + n))
    let entry := decide (u32 b 12 = 1)
    s.takesRecord d r (r.seq.toNat) false 0x0903 →
    openImageForm r →
    ¬ r.late →
    ¬ overlap →
    ¬ (entry && w.entry.isSome) →
    (0x20000000 ≤ a ∧ a + n ≤ 0x20800000) ∨ (0x100000000 ≤ a ∧ a + n ≤ 0x300000000) →
    s.someRegion d a n (fun c => decide (RGD_g_rCTL__CLASS.get (BitVec.ofNat 32 c) = 0 ∧ RGD_g_rCTL__X.get (BitVec.ofNat 32 c) = 1) && bitOf c 0) →
    exec (.openImageRecord d r) s = .next (
        ((s.updWld d (fun w => { w with
        images := (a, n) :: w.images, entry := if entry then some a else w.entry })).putBytes d a ((b.drop 16).take n)).recordTaken d r r.seq.toNat)) ∧
  (∀ (d : Die) (r : Rec),
    let b := r.body
    let pin := u8 b 21
    s.takesRecord d r 0 false 0x0A01 →
    r.inst = 0 →
    r.block = 1 →
    b.length = 32 →
    u32 b 0 ≤ u32 b 8 →
    u32 b 12 < u32 b 8 →
    u8 b 20 ≤ 1 →
    pin ≤ 7 →
    u16 b 22 = 0 →
    u32 b 24 < 2 ^ 24 →
    u32 b 28 = 0 →
    s.maskDefined d (u32 b 16) →
    bitOf (s.rd 0 CIS_WAKECFG).toNat (4 * pin) →
    s.cisAgrees d r →
    let write := fun (s : State) =>
      let s0 := (s.wr 0 CIS_CFG (BitVec.ofNat 32 (u8 b 20 + 2 * pin))).wr 0 CIS_GMASK (BitVec.ofNat 32 (u32 b 16))
      let s1 := s0.wr 0 CIS_ETHWAKE (BitVec.ofNat 32 (u32 b 24))
      let s2 := s1.updPw (fun p => { p with policy := ⟨u32 b 0, u32 b 4, u32 b 8, u32 b 12⟩ })
      if s2.cis.led.fresh then s2.wr64 0 CIS_BALL CIS_BALH (1000 * u32 b 0) else s2
    exec (.energyPolicyRecord d r) s = .next ((s.cisWrite d r write).recordTaken d r 0)) ∧
  (∀ (d : Die) (r : Rec),
    let b := r.body
    s.takesRecord d r 0 false 0x0A02 →
    r.inst = 0 →
    r.block = 1 →
    b.length = 8 →
    b.all (fun x => decide (x.toNat < 16)) →
    s.cisAgrees d r →
    exec (.wakePinsRecord d r) s = .next (
        (s.cisWrite d r (fun s =>
        s.wr 0 CIS_WAKECFG (BitVec.ofNat 32 ((List.range 8).foldl (fun n j => n + 2 ^ (4 * j) * u8 b j) 0)))).recordTaken d r 0)) ∧
  (∀ (d : Die) (r : Rec),
    let b := r.body
    s.takesRecord d r 0 false 0x0A03 →
    r.inst = 0 →
    r.block = 1 →
    b.length = 8 →
    u16 b 0 ≤ 200 →
    u16 b 2 ≤ 300 →
    u32 b 4 = 0 →
    s.cisAgrees d r →
    exec (.feedWatchRecord d r) s = .next (
        (s.cisWrite d r (fun s => s.wr 0 CIS_WATCH (BitVec.ofNat 32 (u16 b 0 + 256 * u16 b 2)))).recordTaken d r 0)) ∧
  (∀ (d : Die) (r : Rec),
    let b := r.body
    let et := if u16 b 4 = 0 then 0x88B5 else u16 b 4
    let vl := u16 b 14
    s.takesRecord d r 0 false 0x0B01 →
    r.inst = 0 →
    b.length = 32 →
    u32 b 0 ≠ 0 →
    0x0600 ≤ et →
    et ≠ 0x22F0 →
    et ≠ 0x8100 →
    et ≠ 0x8808 →
    et ≠ 0x88F7 →
    u8 b 6 < 2 →
    u8 b 7 = 0 →
    vl % 4096 ≤ 4094 →
    vl < 2 ^ 15 →
    u32 b 16 ≠ 0 →
    u32 b 16 < 2 ^ 24 →
    bitOf (u8 b 8) 0 →
    zeroBytes b 20 12 →
    exec (.groupRecord d r) s = .next (
        (((s.wr d ZGP_CFG (BitVec.ofNat 32 (et + 2 ^ 16 * u8 b 6 + 2 ^ 17))).wr d ZGP_GID (BitVec.ofNat 32 (u32 b 0))).updZg d (fun z =>
        { z with addr := leBytes b 8 6, vlan := vl, mask := u32 b 16 })).recordTaken d r 0)) ∧
  (∀ (d : Die) (r : Rec),
    let b := r.body
    let masked := fun (m : Nat) => decide (m < 2 ^ 20) && !bitOf m 0 && !bitOf m 0x11 && !bitOf m 0x13
    s.takesRecord d r 0 false 0x0B02 →
    r.inst = 0 →
    b.length = 16 →
    u16 b 0 ≤ u16 b 2 →
    u16 b 2 ≤ 1023 →
    u32 b 12 = 0 →
    masked (u32 b 4) →
    masked (u32 b 8) →
    exec (.remoteAccessRecord d r) s = .next (
        (s.updZg d (fun z => { z with remote := some (u16 b 0, u16 b 2, u32 b 4, u32 b 8) })).recordTaken d r 0)) ∧
  (∀ (d : Die) (r : Rec),
    let b := r.body
    let p := r.inst
    let role := u8 b 0
    let base := u64 b 8
    let size := u32 b 16
    let may := s.someRegion d base size (fun c => decide (RGD_g_rCTL__W.get (BitVec.ofNat 32 c) = 1)) &&
      (List.range 64).any (fun i => match guardOf base with
        | some (g, o) => s.regionHas d g i o size && bitOf (s.rd d (RGD_g_rPART g i)).toNat p &&
            decide (RGD_g_rCTL__W.get (s.rd d (RGD_g_rCTL g i)) = 1)
        | none => false)
    s.takesRecord d r 0 false 0x0B03 →
    1 ≤ p →
    p ≤ 31 →
    b.length = 24 →
    role = 1 ∨ role = 2 →
    u16 b 2 ≤ 1023 →
    1 ≤ u8 b 4 →
    u8 b 4 ≤ 31 →
    leBytes b 5 3 = 0 →
    base % 4096 = 0 →
    0x100000000 ≤ base →
    base + size ≤ 0x300000000 →
    4096 ≤ size →
    size ≤ 65536 →
    size % 4096 = 0 →
    u32 b 20 = 0 →
    (if role = 1 then decide (u8 b 1 = 0 ∧ u16 b 2 = s.ownId d) else decide (1 ≤ u8 b 1 ∧ u8 b 1 ≤ 4)) →
    s.bit d (WLD_pCFG p) WLD_pCFG__ROAMING →
    may →
    exec (.roamingRecord d r) s = .next (
        ((s.setF d (ZGP_RpSTAT p) ZGP_RpSTAT__ROLE role).updZg d (fun z => { z with
        roam := tset none z.roam p (some ⟨u16 b 2, u8 b 4, base, size⟩) })).recordTaken d r 0)) ∧
  (∀ (d : Die) (r : Rec),
    let b := r.body
    let cut := u16 b 4
    let lim := u16 b 6
    s.takesRecord d r 0 false 0x0D01 →
    r.inst = 0 →
    b.length = 16 →
    u8 b 0 < 32 →
    u8 b 1 = 0 →
    u16 b 2 % 2 = 0 →
    cut = 0 ∨ (10 ≤ cut ∧ cut ≤ 1000) →
    lim = 0 ∨ 60 ≤ lim →
    s.defined d (u8 b 0) →
    zeroBytes b 8 8 →
    exec (.updatePolicyRecord d r) s = .next (
        ((s.wr d UPD_CFG (BitVec.ofNat 32 (u16 b 2 + 2 ^ 16 * u8 b 0))).wr d UPD_LIM
        (BitVec.ofNat 32 ((if cut = 0 then 50 else cut) + 2 ^ 16 * (if lim = 0 then 3600 else lim)))).recordTaken d r 0)) ∧
  (∀ (d : Die) (r : Rec),
    let b := r.body
    s.takesRecord d r 0 false 0x0D02 →
    r.inst = 0 →
    b.length = 8 →
    u16 b 0 = (s.fld d UPD_DEPOCH UPD_DEPOCH__SFEPOCH + 65535) % 65536 →
    u8 b 2 < 2 →
    zeroBytes b 3 5 →
    exec (.compatibilityRecord d r) s = .next (
        (s.wr d UPD_COMPAT (BitVec.ofNat 32 (u16 b 0 + 2 ^ 16 * u8 b 2))).recordTaken d r 0)) ∧
  (∀ (d : Die) (r : Rec),
    let b := r.body
    s.takesRecord d r 0 false 0x0E01 →
    r.target.toNat = 0x100000 →
    b.length = 8 →
    u8 b 0 < 128 →
    u8 b 1 ≤ 1 →
    zeroBytes b 2 6 →
    exec (.faultPolicyRecord d r) s = .next (
        ((s.setF d FLT_CFG FLT_CFG__FNMASK (128 + u8 b 0)).setF d FLT_CFG FLT_CFG__NIBACT (u8 b 1)).recordTaken d r 0)) ∧
  (∀ (d : Die) (r : Rec),
    let b := r.body
    s.takesRecord d r 0 false 0x0F01 →
    r.target.toNat = 0x130000 →
    b.length = 8 →
    u8 b 0 ≤ Config.debugLimit.val →
    zeroBytes b 1 7 →
    let t : State :=
        let s1 := s.updSec d (fun c => { c with policy := some (u8 b 0) })
        s1.setF d DBG_STAT DBG_STAT__SCOPE (min (s1.fld d DBG_STAT DBG_STAT__SCOPE) (s1.debugLimit d))
    exec (.debugPolicyRecord d r) s = .next (t.recordTaken d r 0)) ∧
  (∀ (d : Die) (r : Rec),
    let b := r.body
    let a := u64 b 0
    let n := u32 b 8
    s.takesRecord d r 0 false 0x0F02 →
    r.target.toNat = 0x110000 →
    b.length = 16 →
    a % 4096 = 0 →
    4096 ≤ n →
    n ≤ 65536 →
    n % 4096 = 0 →
    u32 b 12 = 0 →
    s.sealedMram d a n →
    exec (.sealedKeyStoreRecord d r) s = .next ((s.updSec d (fun c => { c with store := some (a, n) })).recordTaken d r 0))

/-- Records of partitions, gates, regions, sealed code, routes and controllers: each command answers the next state of its own effect
under conditions on the state and operands alone. Commands: PARTITION_RECORD, GATE_BLOCK_RECORD, ASSIGNMENT_BLOCK_RECORD,
SEALED_WORLD_RECORD, SEALED_CODE_RECORD, REGION_BLOCK_RECORD, ROUTE_BLOCK_RECORD, CONTROLLER_RECORD, SOFTWARE_SETTERS_RECORD. Rests
on spec/02_ductus.md, spec/14_worlds_and_partitions.md, spec/16_event_controller.md; the model's own choices in it are those of log
entry 24. -/
def Obligations.WorldRecordsComplete : Prop :=
  ∀ s : State,
  (∀ (d : Die) (r : Rec),
    let b := r.body
    let p := r.inst
    s.takesRecord d r 0 false 0x0101 →
    p < 32 →
    b.length = 24 →
    r.block = 6 →
    u8 b 0 ≤ 1 →
    u8 b 1 = 0 →
    u64 b 8 % 1024 = 0 →
    u64 b 8 < 2 ^ 48 →
    zeroBytes b 4 4 →
    zeroBytes b 16 8 →
    decide (u8 b 0 = 0) || (s.todo d).any (fun q => decide (q.typ.toNat = 0x0B03 ∧ q.inst = p)) →
    let t : State :=
        let ways := if u16 b 2 = 0 then 0xFFFC else u16 b 2
        (s.wr d (WLD_pCFG p) (BitVec.ofNat 32 (1 + 2 * u8 b 0 + 2 ^ 16 * ways))).wr64 d (WLD_pSAVEL p) (WLD_pSAVEH p) (u64 b 8)
    exec (.partitionRecord d r) s = .next ((t.recordTaken d r 0).worldEnd s d r)) ∧
  (∀ (d : Die) (r : Rec),
    let b := r.body
    let first := u32 b 0
    let n := u32 b 4
    let e := fun i => 8 + 16 * i
    let entryOk := fun i =>
      decide (u64 b (e i) < 2 ^ 48 ∧ u64 b (e i) % 4 = 0 ∧ u8 b (e i + 12) < 16 ∧ u8 b (e i + 13) ≤ 1 ∧ u16 b (e i + 14) = 0)
    s.takesRecord d r (r.seq.toNat) false 0x0102 →
    r.inst = 0 →
    r.block = 6 →
    first ≤ 255 →
    1 ≤ n →
    first + n ≤ 256 →
    b.length = 8 + 16 * n →
    (List.range n).all entryOk →
    exec (.gateBlockRecord d r) s = .next (
        (((List.range n).foldl (fun st i => st.putEntry d r (first + i) (fun st =>
        let g := first + i
        let a := u64 b (e i)
        ((st.wr d (WLD_GATEiL g) (BitVec.ofNat 32 a)).wr d (WLD_GATEiH g) (BitVec.ofNat 32 (a / 2 ^ 32 + 2 ^ 16 * u8 b (e i + 12) +
        2 ^ 31 * u8 b (e i + 13)))).wr d (WLD_GATEiP g) (BitVec.ofNat 32 (u32 b (e i + 8))))) s).recordTaken d r r.seq.toNat).worldEnd s d r)) ∧
  (∀ (d : Die) (r : Rec),
    let b := r.body
    let n := u32 b 0
    let e := fun i => 8 + 8 * i
    let entryOk := fun i =>
      let kind := u8 b (e i)
      let idx := u16 b (e i + 2)
      let w := u8 b (e i + 1)
      decide (kind ≤ 2 ∧ w ≤ 1 ∧ idx < (if kind = 0 then 80 else 16)) && zeroBytes b (e i + 5) 3 &&
        (if w = 1 then decide (u8 b (e i + 4) = 0) else decide (u8 b (e i + 4) < 32)) &&
        !(decide (kind = 1) && (s.vol.get d).boot.recs.any (fun q => lanePinRec idx q && q.forDie d))
    s.takesRecord d r (r.seq.toNat) false 0x0103 →
    r.inst = 0 →
    r.block = 6 →
    1 ≤ n →
    n ≤ 112 →
    u32 b 4 = 0 →
    b.length = 8 + 8 * n →
    (List.range n).all entryOk →
    exec (.assignmentBlockRecord d r) s = .next (
        (((List.range n).foldl (fun st i =>
        let kind := u8 b (e i)
        let idx := u16 b (e i + 2)
        st.putEntry d r (kind * 256 + idx) (fun st =>
        st.wr d (assignReg kind idx) (BitVec.ofNat 32 (u8 b (e i + 4) + 2 ^ 5 * u8 b (e i + 1) +
        (if kind = 1 then 2 ^ 6 else 2 ^ 31))))) s).recordTaken d r r.seq.toNat).worldEnd s d r)) ∧
  (∀ (d : Die) (r : Rec),
    let b := r.body
    s.takesRecord d r 0 false 0x0104 →
    r.inst = 0 →
    r.block = 6 →
    b.length = 8 →
    u8 b 0 ≤ 1 →
    1 ≤ u8 b 1 →
    u8 b 1 ≤ 15 →
    zeroBytes b 2 6 →
    exec (.sealedWorldRecord d r) s = .next (
        ((s.wr d WLD_SCFG (BitVec.ofNat 32 (1 + 2 * u8 b 0 + 4 * u8 b 1))).recordTaken d r 0).worldEnd s d r)) ∧
  (∀ (d : Die) (r : Rec),
    let b := r.body
    let a := u64 b 0
    let n := u32 b 8
    let code := (b.drop 16).take n
    let overlap := (s.wld d).codes.any (fun e => decide (a < e.2.1 + e.2.2.length ∧ e.2.1 < a + n)) ||
      (s.todo d).any (fun q => sealedCodeForm q && decide (q ≠ r ∧ a < u64 q.body 0 + u32 q.body 8 ∧ u64 q.body 0 < a + n))
    s.takesRecord d r (r.seq.toNat) false 0x0105 →
    sealedCodeForm r →
    ¬ overlap →
    let t : State :=
        let s1 := s.updWld d (fun w => { w with codes := w.codes ++ [(r.seq.toNat, a, code)] })
        (s1.updWld d (fun w => { w with digest := some (Config.sha384 (codeBodies w.codes).flatten) })).putBytes d a code
    exec (.sealedCodeRecord d r) s = .next ((t.recordTaken d r r.seq.toNat).worldEnd s d r)) ∧
  (∀ (d : Die) (r : Rec),
    let b := r.body
    let g := r.inst
    let first := u32 b 0
    let n := u32 b 4
    let w := fun i k => u32 b (8 + 16 * i + 4 * k)
    s.takesRecord d r (r.seq.toNat) false 0x0110 →
    g < 13 →
    r.block = 7 →
    first ≤ 63 →
    1 ≤ n →
    first + n ≤ 64 →
    b.length = 8 + 16 * n →
    (List.range n).all (fun i => regionForm g (w i 0) (w i 1) (w i 3) && !ringOpen g (w i 0) (w i 1) (w i 3)) →
    exec (.regionBlockRecord d r) s = .next (
        (((List.range n).foldl (fun st i =>
        st.putEntry d r (g * 64 + first + i) (fun st => st.putRegion d g (first + i) (w i 0) (w i 1) (w i 2) (w i 3))) s).recordTaken d r r.seq.toNat).worldEnd s d r)) ∧
  (∀ (d : Die) (r : Rec),
    let b := r.body
    let first := u32 b 0
    let n := u32 b 4
    let e := fun i => 8 + 8 * i
    let entryOk := fun i =>
      let src := first + i
      let mod := decide (u8 b (e i + 3) = 1)
      routable src && decide (u8 b (e i) < 32) && s.defined d (u8 b (e i)) && lineOk src (u8 b (e i + 1)) &&
        decide (u8 b (e i + 2) ≤ 63 ∧ u8 b (e i + 3) ≤ 1 ∧ u8 b (e i + 5) = 0) &&
        (if mod then isEdgeSrc src && decide (1 ≤ u8 b (e i + 4)) else decide (u8 b (e i + 4) = 0 ∧ u16 b (e i + 6) = 0))
    s.takesRecord d r (r.seq.toNat) false 0x0120 →
    r.inst = 0 →
    r.block = 5 →
    first ≤ 1023 →
    first + n ≤ 1024 →
    b.length = 8 + 8 * n →
    (List.range n).all entryOk →
    exec (.routeBlockRecord d r) s = .next (
        (((List.range n).foldl (fun st i => st.putEntry d r (first + i) (fun st =>
        (st.wr d (EVC_sROUTE (first + i)) (BitVec.ofNat 32 (u8 b (e i) + 2 ^ 5 * u8 b (e i + 1) + 2 ^ 8 * u8 b (e i + 2) +
        2 ^ 14 * u8 b (e i + 3)))).wr d (EVC_sMOD (first + i)) (BitVec.ofNat 32 (u8 b (e i + 4) + 2 ^ 16 * u16 b (e i + 6))))) s).recordTaken d r r.seq.toNat).worldEnd s d r)) ∧
  (∀ (d : Die) (r : Rec),
    let b := r.body
    s.takesRecord d r 0 false 0x0121 →
    r.inst = 0 →
    r.block = 5 →
    b.length = 8 →
    u8 b 0 ≤ 63 →
    zeroBytes b 1 7 →
    exec (.controllerRecord d r) s = .next (((s.setF d EVC_CFG EVC_CFG__GWPRI (u8 b 0)).recordTaken d r 0).worldEnd s d r)) ∧
  (∀ (d : Die) (r : Rec),
    let b := r.body
    s.takesRecord d r 0 false 0x0122 →
    r.inst = 0 →
    r.block = 5 →
    b.length = 64 →
    (List.range 16).all (fun i => s.maskDefined d (u32 b (4 * i))) →
    exec (.softwareSettersRecord d r) s = .next (
        (((List.range 16).foldl (fun st i => st.wr d (EVC_SWMASKi i) (BitVec.ofNat 32 (u32 b (4 * i)))) s).recordTaken d r 0).worldEnd s d r))
end

