-- ==== Sys2Proof/Laws/Frames.lean ====
section
/-! SUPPORT. What the shared frames of commands answer once their conditions hold: serial frames, instructions of the application
cores, commands of the security block, Ductus records, group frames. -/

namespace Sys2Proof.Machine

variable {s : State} {d : Die} {sd typ : Nat} {f : Word}

/-- A heard downstream frame takes its effect on the state that heard it. -/
theorem State.downFrame_heard {act : State → State} (h : s.hearsDown sd f typ = true) :
    s.downFrame d sd f typ act = act (s.downHeard d sd f) := by
  simp only [State.hearsDown, Bool.and_eq_true, decide_eq_true_eq] at h
  obtain ⟨⟨⟨h1, h2⟩, h3⟩, h4⟩ := h
  unfold State.downFrame State.downHeard
  exact (if_neg (by simp [h1])).trans ((if_neg (by simp [h2, h3])).trans (if_pos h4))

/-- A heard upstream frame takes its effect on the state that heard it. -/
theorem State.upFrame_heard {act : State → State} (h : s.hearsUp d f typ = true) :
    s.upFrame d sd f typ act = act (s.upHeard d sd f) := by
  simp only [State.hearsUp, Bool.and_eq_true, decide_eq_true_eq] at h
  obtain ⟨⟨⟨h1, h2⟩, h3⟩, h4⟩ := h
  unfold State.upFrame State.upHeard
  exact (if_neg (by simp [h1])).trans ((if_neg (by simp [h2, h3])).trans (if_pos h4))

/-- A heard frame of one channel. -/
theorem State.chanFrame_heard {act : State → Nat → Nat → State} (h : s.hearsUp d f typ = true) (hc : frameCh f < sdChans sd) :
    s.chanFrame d sd f typ act = act ((s.upHeard d sd f).keepFrame d sd f) (frameCh f) (frameData f) := by
  unfold State.chanFrame
  rw [State.upFrame_heard h]
  exact if_pos hc

/-- A command that the switch die decides on: what it does is what the command's own decision says. -/
theorem State.command_decided {either startOk : Bool} {act : State → Decided}
    (h : s.hearsDown sd f typ = true) (hd : (s.downHeard d sd f).decides d sd f typ either startOk = true) :
    s.command d sd f typ either startOk act =
      (match act (s.downHeard d sd f) with
        | .discard => s.downHeard d sd f
        | .refuse => ((s.downHeard d sd f).updSd sd (fun x => { x.tagged (d.val * 256 + typ * 8 + frameCh f) (frameTag f) with
            links := x.links.upd d (fun l => { l with acked := l.acked || decide (typ = 2 ∨ typ = 3) }) })).sdAck d sd typ
              (frameCh f) (frameTag f) 1
        | .done eff => (eff (s.downHeard d sd f)).commandDone d sd f typ) := by
  unfold State.command
  rw [State.downFrame_heard h]
  generalize s.downHeard d sd f = t at *
  simp only [State.decides, Bool.and_eq_true, Bool.or_eq_true, decide_eq_true_eq, Bool.not_eq_true'] at hd
  obtain ⟨⟨h1, h2⟩, h3⟩ := hd
  unfold State.commandDone
  have e2 : ¬ (decide ((t.sd sd).mode = .start) && !startOk) = true := by
    rcases h2 with h2 | h2 <;> simp [h2]
  have e3 : ¬ (!either && (t.sd sd).mode != .start && (t.sd sd).line != d) = true := by
    rcases h3 with (h3 | h3) | h3 <;> simp [h3]
  dsimp only
  refine (if_neg (by rw [h1]; exact Bool.false_ne_true)).trans ((if_neg e2).trans ((if_neg e3).trans ?_))
  generalize act t = r
  cases r <;> rfl

/-- A command that the switch die decides on and does. -/
theorem State.command_done {either startOk : Bool} {act : State → Decided} {eff : State → State}
    (h : s.hearsDown sd f typ = true) (hd : (s.downHeard d sd f).decides d sd f typ either startOk = true)
    (ha : act (s.downHeard d sd f) = .done eff) :
    s.command d sd f typ either startOk act = (eff (s.downHeard d sd f)).commandDone d sd f typ := by
  rw [State.command_decided h hd, ha]

/-- A mode command that is done. -/
theorem State.modeFrame_done {req : Nat} {ok : SwitchDie → Bool} {m : SdMode} (h : s.hearsDown sd f 4 = true)
    (hq : frameData f % 4 = req) (hd : (s.downHeard d sd f).decides d sd f 4 false false = true)
    (hl : ((s.downHeard d sd f).sd sd).lastHold = false) (hk : ok ((s.downHeard d sd f).sd sd) = true) :
    s.modeFrame d sd f req ok m = ((s.downHeard d sd f).sdMode sd m).commandDone d sd f 4 := by
  unfold State.modeFrame
  refine (if_neg ?_).trans (State.command_done (eff := fun s => s.sdMode sd m) h hd ?_)
  · simp [hq]
  · exact if_pos (by simp [hl, hk])

/-- A forced-output command that is done. -/
theorem State.forceFrame_done {req : Nat} {eff : State → State} (h : s.hearsDown sd f 0x0F = true)
    (hq : frameData f % 4 = req) (hd : (s.downHeard d sd f).decides d sd f 0x0F false false = true)
    (hs : (s.downHeard d sd f).sdHas sd (frameCh f) = true) (hm : ((s.downHeard d sd f).sd sd).mode = .test) :
    s.forceFrame d sd f req eff = (eff (s.downHeard d sd f)).commandDone d sd f 0x0F := by
  unfold State.forceFrame
  refine (if_neg ?_).trans (State.command_done (eff := eff) h hd ?_)
  · simp [hq]
  · exact if_pos (by simp [hs, hm])

/-- An instruction that a core executes. -/
theorem State.insn_meets {x : Nat} {b : Die} {eff : State → State} (h : s.coreMeets d x b = true) : s.insn d x b eff = eff s := by
  simp only [State.coreMeets, Bool.and_eq_true, Bool.not_eq_true', Option.isNone_iff_eq_none] at h
  obtain ⟨⟨⟨h1, h2⟩, h3⟩, h4⟩ := h
  unfold State.insn
  simp only [h1, h2, h3, h4, Bool.not_true]
  rfl

/-- A command of the security block that starts its operation. -/
theorem State.secCmd_begun {c : SecCmd} {k r : Bool} {act : State → SecDone × State} {q : Nat} (h1 : s.secStarts d c q = true)
    (h2 : s.secOpen d k r = true) :
    s.secCmd d c k r act = (act (s.secTagged d c q)).2.secBegun d c (act (s.secTagged d c q)).1 := by
  simp only [State.secStarts, Bool.and_eq_true, decide_eq_true_eq, Option.isNone_iff_eq_none] at h1
  obtain ⟨⟨⟨⟨a1, a2⟩, a3⟩, a4⟩, a5⟩ := h1
  simp only [State.secOpen, Bool.and_eq_true, Bool.not_eq_true'] at h2
  obtain ⟨⟨⟨b1, b2⟩, b3⟩, b4⟩ := h2
  unfold State.secCmd
  simp only [a1]
  have e1 : ¬ ((!(s.alive d && decide (c.confirm = 0xC9#8)) || (s.sec d).op.isSome ||
      decide (tget none (s.vol.get d).tags (64 * 3 + q) = some c.tag.toNat)) = true) := by simp [a2, a3, a4, a5]
  have e2 : ¬ ((s.cis.zeroise && !s.cis.zeroReports.get d) = true) := by simp [b2]
  have e3 : ¬ (((k && !s.bit d SEC_STAT SEC_STAT__VAULT) || (r && (s.sec d).drbgStop)) = true) := by
    cases k <;> cases r <;> simp_all
  rw [if_neg e1, if_neg (by simp [b1]), if_neg e2, if_neg e3]
  rfl

/-- A record that a loader applies. -/
theorem State.applyRec_takes {r : Rec} {sub : Nat} {one : Bool} {body : Judged} {eff : State → State}
    (h : s.takesRecord d r sub one typ = true) (hb : body = .good) :
    s.applyRec d r sub one typ body eff = (eff s).recordTaken d r sub := by
  subst hb
  simp only [State.takesRecord, Bool.and_eq_true, decide_eq_true_eq, Option.isNone_iff_eq_none, Bool.not_eq_true'] at h
  obtain ⟨⟨⟨⟨⟨h1, h2⟩, h3⟩, h4⟩, h5⟩, h6⟩ := h
  unfold State.applyRec State.recordTaken
  refine (if_neg (by simp [h1, h4])).trans ((if_neg (by simp [h3, h6])).trans
    ((if_neg (by simp [h2])).trans ((if_neg (by simp [h3])).trans ?_)))
  simp only [h5]

/-- A body check that holds. -/
theorem goodIf_true {b : Bool} (h : b = true) : goodIf b = .good := by
  subst h
  rfl

/-- A frame of another member takes its effect. -/
theorem State.zgHear_hears {port : Nat} {f : ZgFrame} {act : State → State} (h : s.hearsZg d port f typ = true) :
    s.zgHear d port f typ act = act s := by
  simp only [State.hearsZg, Bool.and_eq_true, decide_eq_true_eq] at h
  obtain ⟨⟨⟨⟨h1, h2⟩, h3⟩, h4⟩, h5⟩ := h
  unfold State.zgHear
  exact (if_neg (by simp [h1])).trans (if_pos (by simp only [h2, h3, h4, h5, and_self, decide_true, Bool.and_self]))

/-- A reset request that is confirmed, before RESETN, takes its effect. -/
theorem State.rstreq_takes {who : Initiator} {confirm : BitVec 16} {act : State → Nat → State} {q : Nat} (hq : reqCode who = some q)
    (ha : s.alive d = true) (hc : confirm = 0xA5C3#16) (hr : s.cis.resetN = true) : s.rstreq d who confirm act = act s q := by
  unfold State.rstreq
  simp [hq, ha, hc, hr]

set_option maxHeartbeats 1000000 in
/-- A Ductus record is the loader's frame with its own type, and for three kinds what follows the last record of the kind. -/
theorem exec_recordForm {i : Instr} {r : RecordForm} (h : recordForm i = some r) :
    ∃ sub judged eff, exec i s = .next (r.after s ((r.before s).applyRec r.d r.r sub r.dieOnlyOk r.typ judged eff)) := by
  unfold recordForm at h
  split at h <;> cases h <;>
    simp only [RecordForm.before, RecordForm.after, Nat.reduceDiv, Nat.reduceEqDiff, reduceIte] <;> exact ⟨_, _, _, rfl⟩

end Sys2Proof.Machine
end

