-- ==== Sys2Proof/Laws/NibFrame.lean ====
section
/-! SUPPORT. What the frame of every nib instruction answers, once for each thing a body can do: the lemmas that statements about
nib instructions cite in place of the frame's definition. -/

namespace Sys2Proof.Machine

variable {s t : State} {n : NibId} {w : Word} {ecc : EccFind} {op : NibOp} {k : NibKind} {known : Bool} {legal : Nib → Bool}
  {body : State → NibDo}

/-- A nib that meets its conditions: nothing comes before the body. -/
theorem State.nibInstr_legal (h : s.nibMeets n w op k = true) (hl : legal (s.nib n) = true) :
    ¬ (!s.nibRuns n || !s.fetches n w || !(op.isOp w || !known)) = true ∧
    ¬ ((!(op.isOp w && op.clean w && legal (s.nib n))) = true ∨
      ((s.nib n).slotOf.isSome = true ∧ (k = .branch ∨ k = .mset)) ∨ ((s.nib n).mset.isSome = true ∧ k ≠ .plain)) ∧
    (s.nib n).loopForm k = none := by
  simp only [State.nibMeets, Bool.and_eq_true, Bool.not_eq_true', Option.isNone_iff_eq_none] at h
  obtain ⟨⟨⟨⟨⟨⟨h1, h2⟩, h3⟩, h4⟩, h5⟩, h6⟩, h7⟩ := h
  refine ⟨by simp [h1, h2, h3], ?_, h7⟩
  rintro (h | ⟨ha, hb⟩ | ⟨ha, hb⟩)
  · simp [h3, h4, hl] at h
  · simp only [ha, Bool.true_and, Bool.or_eq_false_iff, decide_eq_false_iff_not] at h5
    exact hb.elim h5.1 h5.2
  · simp [ha, hb] at h6

/-- What an instruction that meets its conditions does is what its body does. -/
theorem State.nibInstr_meets (h : s.nibMeets n w op k = true) (he : ecc ≠ .badFetch)
    (hl : legal (s.nib n) = true) :
    s.nibInstr n w ecc op k known legal body =
      (match body (s.nibNoted n ecc) with
        | .raise t cause eaddr mem =>
          if 0x1FFC < (s.nib n).seqPc ∧ (cause = 4 ∨ cause = 8 ∨ cause = 6) then t.nibFail n 3 0x2000 0
          else t.nibFail n cause eaddr mem
        | .done t =>
          if 0x1FFC < (s.nib n).seqPc then (s.nibNoted n ecc).nibFail n 3 0x2000 0
          else t.nibEnd n (s.nib n) (s.nib n).seqPc .none
        | .goto t pc => if 0x1FFC < pc then (s.nibNoted n ecc).nibFail n 3 0x2000 0 else t.nibEnd n (s.nib n) pc .none
        | .jump t (some a) =>
          if a % 4 ≠ 0 then (s.nibNoted n ecc).nibFail n 2 a 0
          else if 0x2000 ≤ a ∨ (s.nib n).pc = 0x1FFC then
            (s.nibNoted n ecc).nibFail n 3 (if 0x2000 ≤ a then a else 0x2000) 0
          else s.nibBranch n t a
        | .jump t none =>
          if (s.nib n).pc = 0x1FFC then (s.nibNoted n ecc).nibFail n 3 0x2000 0
          else t.nibEnd n (s.nib n) ((s.nib n).pc + 4) (some ⟨(s.nib n).pc, none⟩)
        | .hold t => t) := by
  obtain ⟨h1, h2, h3⟩ := State.nibInstr_legal (known := known) h hl
  unfold State.nibInstr State.nibBranch State.nibNoted
  simp only [] at *
  rw [if_neg (by simpa [Bool.not_and] using h1), if_neg he, if_neg h2, h3]
  dsimp only
  split <;> rename_i heq <;> simp only [heq]
  split <;> rfl

/-- An instruction that meets its conditions and completes in sequence. -/
theorem State.nibInstr_done (h : s.nibMeets n w op k = true) (hp : (s.nib n).seqPc ≤ 0x1FFC) (he : ecc ≠ .badFetch)
    (hl : legal (s.nib n) = true) (hb : body (s.nibNoted n ecc) = .done t) :
    s.nibInstr n w ecc op k known legal body = s.nibSeq n t := by
  rw [State.nibInstr_meets h he hl, hb]
  exact if_neg (by omega)

/-- An instruction that holds where it stands. -/
theorem State.nibInstr_hold (h : s.nibMeets n w op k = true) (he : ecc ≠ .badFetch)
    (hl : legal (s.nib n) = true) (hb : body (s.nibNoted n ecc) = .hold t) :
    s.nibInstr n w ecc op k known legal body = t := by
  rw [State.nibInstr_meets h he hl, hb]

/-- An instruction that goes on at an address without a delay slot. -/
theorem State.nibInstr_goto {a : Nat} (h : s.nibMeets n w op k = true) (he : ecc ≠ .badFetch)
    (hl : legal (s.nib n) = true) (hb : body (s.nibNoted n ecc) = .goto t a) (ha : a ≤ 0x1FFC) :
    s.nibInstr n w ecc op k known legal body = t.nibEnd n (s.nib n) a .none := by
  rw [State.nibInstr_meets h he hl, hb]
  exact if_neg (by omega)

/-- A branch that is taken. -/
theorem State.nibInstr_jump {a : Nat} (h : s.nibMeets n w op k = true) (he : ecc ≠ .badFetch)
    (hl : legal (s.nib n) = true) (hb : body (s.nibNoted n ecc) = .jump t (some a)) (ha : a % 4 = 0) (hb' : a < 0x2000)
    (hp : (s.nib n).pc ≠ 0x1FFC) :
    s.nibInstr n w ecc op k known legal body = s.nibBranch n t a := by
  rw [State.nibInstr_meets h he hl, hb]
  exact (if_neg (by omega)).trans (if_neg (by omega))

/-- A branch that is not taken. -/
theorem State.nibInstr_fall (h : s.nibMeets n w op k = true) (he : ecc ≠ .badFetch)
    (hl : legal (s.nib n) = true) (hb : body (s.nibNoted n ecc) = .jump t none) (hp : (s.nib n).pc ≠ 0x1FFC) :
    s.nibInstr n w ecc op k known legal body = t.nibEnd n (s.nib n) ((s.nib n).pc + 4) (some ⟨(s.nib n).pc, none⟩) := by
  rw [State.nibInstr_meets h he hl, hb]
  exact if_neg hp

/-- An instruction that raises a cause of its own. -/
theorem State.nibInstr_raise {c a m : Nat} (h : s.nibMeets n w op k = true) (hp : (s.nib n).seqPc ≤ 0x1FFC)
    (he : ecc ≠ .badFetch) (hl : legal (s.nib n) = true) (hb : body (s.nibNoted n ecc) = .raise t c a m) :
    s.nibInstr n w ecc op k known legal body = t.nibFail n c a m := by
  rw [State.nibInstr_meets h he hl, hb]
  exact if_neg (by omega)

/-! ### Every nib instruction is an instance of the frame -/

set_option maxHeartbeats 1000000 in
/-- A nib instruction is the frame with its own word, encoding and kind. -/
theorem exec_nibForm {i : Instr} {f : NibForm} (h : nibForm i = some f) (hg : (s.nib f.n).prog ≠ .gateway) :
    ∃ legal body, exec i s = .next (s.nibInstr f.n f.w f.ecc f.op f.kind (nibKnown f.w) legal body) := by
  by_cases hm : ∃ n w ecc, i = .mbxGet n w ecc
  · obtain ⟨n, w, ecc, rfl⟩ := hm
    cases h
    exact ⟨_, _, congrArg Host.Outcome.next (if_neg hg)⟩
  · unfold nibForm at h
    split at h <;> cases h <;> first | exact absurd ⟨_, _, _, rfl⟩ hm | exact ⟨_, _, rfl⟩ | skip
    all_goals
      simp only [exec, execExt, execExts, execExtb, execExtbs, execExtA, execExtsA, execExtbA, execExtbsA, execIns, execInsb, execInsA,
        execInsbA, State.nibExtract, State.nibInsert]
      exact ⟨_, _, rfl⟩

end Sys2Proof.Machine
end

