-- ==== Sys2Proof/Laws/Table.lean ====
section
/-! SUPPORT. What reading a table gives after it was changed, and that every change keeps the canonical form. -/

namespace Sys2Proof.Machine

variable {α : Type}

/-! ### Reading after a change -/

theorem tfind_tput_same (t : Table α) (i : Nat) (x : α) : tfind (tput t i x) i = some x := by
  induction t with
  | nil => simp [tput, tfind]
  | cons e t ih =>
    obtain ⟨k, v⟩ := e
    simp only [tput]
    split
    · simp [tfind]
    · split
      · simp [tfind]
      · simp [tfind, *]

theorem tfind_tput_other (t : Table α) {i j : Nat} (x : α) (h : j ≠ i) : tfind (tput t i x) j = tfind t j := by
  induction t with
  | nil => simp [tput, tfind, Ne.symm h]
  | cons e t ih =>
    obtain ⟨k, v⟩ := e
    simp only [tput]
    split
    · simp [tfind, Ne.symm h]
    · split
      · simp_all [tfind, Ne.symm h]
      · simp [tfind, ih]

theorem tfind_terase_same (t : Table α) (i : Nat) : tfind (terase t i) i = none := by
  induction t with
  | nil => rfl
  | cons e t ih =>
    simp only [terase]
    split
    · exact ih
    · simp [tfind, *]

theorem tfind_terase_other (t : Table α) {i j : Nat} (h : j ≠ i) : tfind (terase t i) j = tfind t j := by
  induction t with
  | nil => rfl
  | cons e t ih =>
    simp only [terase]
    split
    · rename_i hk
      simp [tfind, ih, hk, Ne.symm h]
    · simp [tfind, ih]

/-- A key reads as what was written there. -/
@[simp] theorem tget_tset_same [DecidableEq α] (d : α) (t : Table α) (i : Nat) (x : α) : tget d (tset d t i x) i = x := by
  unfold tget tset
  split
  · simp [tfind_terase_same, *]
  · simp [tfind_tput_same]

/-- Every other key reads as before. -/
theorem tget_tset_other [DecidableEq α] (d : α) (t : Table α) {i j : Nat} (x : α) (h : j ≠ i) :
    tget d (tset d t i x) j = tget d t j := by
  unfold tget tset
  split
  · rw [tfind_terase_other t h]
  · rw [tfind_tput_other t x h]

@[simp] theorem tget_tupd_same [DecidableEq α] (d : α) (t : Table α) (i : Nat) (f : α → α) :
    tget d (tupd d t i f) i = f (tget d t i) := tget_tset_same ..

theorem tget_tupd_other [DecidableEq α] (d : α) (t : Table α) {i j : Nat} (f : α → α) (h : j ≠ i) :
    tget d (tupd d t i f) j = tget d t j := tget_tset_other d t _ h

/-! ### The canonical form, as pairwise facts -/

/-- Strictly rising keys, pair by pair. -/
theorem tsorted_iff (t : Table α) : tsorted t = true ↔ t.Pairwise (fun a b => a.1 < b.1) := by
  induction t with
  | nil => simp [tsorted]
  | cons e t ih =>
    cases t with
    | nil => simp [tsorted]
    | cons f u =>
      simp only [tsorted, Bool.and_eq_true, decide_eq_true_eq, ih, List.pairwise_cons]
      refine ⟨fun ⟨h, h1, h2⟩ => ⟨fun b hb => ?_, h1, h2⟩, fun ⟨h, h1, h2⟩ => ⟨h f (by simp), h1, h2⟩⟩
      rcases List.mem_cons.1 hb with rfl | hb
      · exact h
      · exact h.trans (h1 b hb)

theorem mem_tput {t : Table α} {i : Nat} {x : α} {e : Nat × α} (h : e ∈ tput t i x) : e = (i, x) ∨ e ∈ t := by
  induction t with
  | nil => simpa [tput] using h
  | cons f t ih =>
    simp only [tput] at h
    split at h
    · simpa using h
    · split at h
      · rcases List.mem_cons.1 h with h | h <;> simp [h]
      · rcases List.mem_cons.1 h with h | h
        · simp [h]
        · rcases ih h with h | h <;> simp [h]

theorem terase_sublist (t : Table α) (i : Nat) : (terase t i).Sublist t := by
  induction t with
  | nil => exact .slnil
  | cons e t ih =>
    simp only [terase]
    split
    · exact .cons _ ih
    · exact .cons_cons _ ih

theorem tsorted_tput {t : Table α} (i : Nat) (x : α) (h : tsorted t = true) : tsorted (tput t i x) = true := by
  rw [tsorted_iff] at *
  induction t with
  | nil => simp [tput]
  | cons f t ih =>
    obtain ⟨h1, h2⟩ := List.pairwise_cons.1 h
    simp only [tput]
    split
    · refine List.pairwise_cons.2 ⟨fun b hb => ?_, h⟩
      rcases List.mem_cons.1 hb with rfl | hb
      · assumption
      · exact lt_trans (by assumption) (h1 b hb)
    · split
      · rename_i hk
        exact List.pairwise_cons.2 ⟨fun b hb => by simpa [hk] using h1 b hb, h2⟩
      · refine List.pairwise_cons.2 ⟨fun b hb => ?_, ih h2⟩
        rcases mem_tput hb with rfl | hb
        · simp only
          omega
        · exact h1 b hb

theorem tsorted_sublist {t u : Table α} (hu : u.Sublist t) (h : tsorted t = true) : tsorted u = true := by
  rw [tsorted_iff] at *
  exact h.sublist hu

/-- What the canonical form says. -/
theorem twf_iff [DecidableEq α] (d : Nat → α) (t : Table α) :
    twf d t = true ↔ tsorted t = true ∧ ∀ e ∈ t, e.2 ≠ d e.1 := by
  simp [twf, List.all_eq_true]

theorem twf_tput [DecidableEq α] {d : Nat → α} {t : Table α} {i : Nat} {x : α} (h : twf d t = true) (hx : x ≠ d i) :
    twf d (tput t i x) = true := by
  rw [twf_iff] at *
  refine ⟨tsorted_tput i x h.1, fun e he => ?_⟩
  rcases mem_tput he with rfl | he
  · exact hx
  · exact h.2 e he

theorem twf_sublist [DecidableEq α] {d : Nat → α} {t u : Table α} (hu : u.Sublist t) (h : twf d t = true) : twf d u = true := by
  rw [twf_iff] at *
  exact ⟨tsorted_sublist hu h.1, fun e he => h.2 e (hu.subset he)⟩

/-- A write keeps the canonical form. -/
theorem twf_tset [DecidableEq α] {d : α} {t : Table α} (i : Nat) (x : α) (h : twf (fun _ => d) t = true) :
    twf (fun _ => d) (tset d t i x) = true := by
  unfold tset
  split
  · exact twf_sublist (terase_sublist t i) h
  · exact twf_tput h (by assumption)

/-- Dropping entries keeps the canonical form. -/
theorem twf_tdrop [DecidableEq α] {d : Nat → α} {t : Table α} (p : Nat → Bool) (h : twf d t = true) : twf d (tdrop t p) = true :=
  twf_sublist List.filter_sublist h

/-- Putting entries that differ from the default, one after another, keeps the canonical form. -/
theorem twf_foldl_tput [DecidableEq α] {d : Nat → α} (l : List (Nat × α)) (f : Nat × α → Nat) {t : Table α} (h : twf d t = true)
    (hl : ∀ e ∈ l, e.2 ≠ d (f e)) : twf d (l.foldl (fun m e => tput m (f e) e.2) t) = true := by
  induction l generalizing t with
  | nil => exact h
  | cons e l ih => exact ih (twf_tput h (hl e (by simp))) (fun e he => hl e (by simp [he]))

end Sys2Proof.Machine
end

