-- ==== Sys2Proof/Laws/State.lean ====
section
/-! SUPPORT. What each update of the state leaves: one lemma per field and update, and what reading gives after writing. -/

namespace Sys2Proof.Machine


section wr
variable (s : State) (d : Die) (off : Nat) (v : Word) 
@[simp] theorem State.wr_held : (s.wr d off v).held = s.held := rfl
@[simp] theorem State.wr_mem : (s.wr d off v).mem = s.mem := rfl
@[simp] theorem State.wr_mram : (s.wr d off v).mram = s.mram := rfl
@[simp] theorem State.wr_bulk : (s.wr d off v).bulk = s.bulk := rfl
@[simp] theorem State.wr_now : (s.wr d off v).now = s.now := rfl
@[simp] theorem State.wr_free : (s.wr d off v).free = s.free := rfl
@[simp] theorem State.wr_answer : (s.wr d off v).answer = s.answer := rfl
@[simp] theorem State.wr_link : (s.wr d off v).link = s.link := rfl
@[simp] theorem State.wr_sds : (s.wr d off v).sds = s.sds := rfl
@[simp] theorem State.wr_field : (s.wr d off v).field = s.field := rfl
@[simp] theorem State.wr_ports : (s.wr d off v).ports = s.ports := rfl
@[simp] theorem State.wr_vol : (s.wr d off v).vol = s.vol := rfl
@[simp] theorem State.wr_keep : (s.wr d off v).keep = s.keep := rfl
@[simp] theorem State.wr_cis : (s.wr d off v).cis = s.cis := rfl
@[simp] theorem State.wr_fuse : (s.wr d off v).fuse = s.fuse := rfl
@[simp] theorem State.wr_pending : (s.wr d off v).pending = s.pending := rfl
end wr

section setF
variable (s : State) (d : Die) (off : Nat) (f : Fld) (x : Nat) 
@[simp] theorem State.setF_held : (s.setF d off f x).held = s.held := rfl
@[simp] theorem State.setF_mem : (s.setF d off f x).mem = s.mem := rfl
@[simp] theorem State.setF_mram : (s.setF d off f x).mram = s.mram := rfl
@[simp] theorem State.setF_bulk : (s.setF d off f x).bulk = s.bulk := rfl
@[simp] theorem State.setF_now : (s.setF d off f x).now = s.now := rfl
@[simp] theorem State.setF_free : (s.setF d off f x).free = s.free := rfl
@[simp] theorem State.setF_answer : (s.setF d off f x).answer = s.answer := rfl
@[simp] theorem State.setF_link : (s.setF d off f x).link = s.link := rfl
@[simp] theorem State.setF_sds : (s.setF d off f x).sds = s.sds := rfl
@[simp] theorem State.setF_field : (s.setF d off f x).field = s.field := rfl
@[simp] theorem State.setF_ports : (s.setF d off f x).ports = s.ports := rfl
@[simp] theorem State.setF_vol : (s.setF d off f x).vol = s.vol := rfl
@[simp] theorem State.setF_keep : (s.setF d off f x).keep = s.keep := rfl
@[simp] theorem State.setF_cis : (s.setF d off f x).cis = s.cis := rfl
@[simp] theorem State.setF_fuse : (s.setF d off f x).fuse = s.fuse := rfl
@[simp] theorem State.setF_pending : (s.setF d off f x).pending = s.pending := rfl
end setF

section updVol
variable (s : State) (d : Die) (f : DieVol → DieVol) 
@[simp] theorem State.updVol_regs : (s.updVol d f).regs = s.regs := rfl
@[simp] theorem State.updVol_held : (s.updVol d f).held = s.held := rfl
@[simp] theorem State.updVol_mem : (s.updVol d f).mem = s.mem := rfl
@[simp] theorem State.updVol_mram : (s.updVol d f).mram = s.mram := rfl
@[simp] theorem State.updVol_bulk : (s.updVol d f).bulk = s.bulk := rfl
@[simp] theorem State.updVol_now : (s.updVol d f).now = s.now := rfl
@[simp] theorem State.updVol_free : (s.updVol d f).free = s.free := rfl
@[simp] theorem State.updVol_answer : (s.updVol d f).answer = s.answer := rfl
@[simp] theorem State.updVol_link : (s.updVol d f).link = s.link := rfl
@[simp] theorem State.updVol_sds : (s.updVol d f).sds = s.sds := rfl
@[simp] theorem State.updVol_field : (s.updVol d f).field = s.field := rfl
@[simp] theorem State.updVol_ports : (s.updVol d f).ports = s.ports := rfl
@[simp] theorem State.updVol_keep : (s.updVol d f).keep = s.keep := rfl
@[simp] theorem State.updVol_cis : (s.updVol d f).cis = s.cis := rfl
@[simp] theorem State.updVol_fuse : (s.updVol d f).fuse = s.fuse := rfl
@[simp] theorem State.updVol_pending : (s.updVol d f).pending = s.pending := rfl
end updVol

section updKeep
variable (s : State) (d : Die) (f : DieKeep → DieKeep) 
@[simp] theorem State.updKeep_regs : (s.updKeep d f).regs = s.regs := rfl
@[simp] theorem State.updKeep_held : (s.updKeep d f).held = s.held := rfl
@[simp] theorem State.updKeep_mem : (s.updKeep d f).mem = s.mem := rfl
@[simp] theorem State.updKeep_mram : (s.updKeep d f).mram = s.mram := rfl
@[simp] theorem State.updKeep_bulk : (s.updKeep d f).bulk = s.bulk := rfl
@[simp] theorem State.updKeep_now : (s.updKeep d f).now = s.now := rfl
@[simp] theorem State.updKeep_free : (s.updKeep d f).free = s.free := rfl
@[simp] theorem State.updKeep_answer : (s.updKeep d f).answer = s.answer := rfl
@[simp] theorem State.updKeep_link : (s.updKeep d f).link = s.link := rfl
@[simp] theorem State.updKeep_sds : (s.updKeep d f).sds = s.sds := rfl
@[simp] theorem State.updKeep_field : (s.updKeep d f).field = s.field := rfl
@[simp] theorem State.updKeep_ports : (s.updKeep d f).ports = s.ports := rfl
@[simp] theorem State.updKeep_vol : (s.updKeep d f).vol = s.vol := rfl
@[simp] theorem State.updKeep_cis : (s.updKeep d f).cis = s.cis := rfl
@[simp] theorem State.updKeep_fuse : (s.updKeep d f).fuse = s.fuse := rfl
@[simp] theorem State.updKeep_pending : (s.updKeep d f).pending = s.pending := rfl
end updKeep

section updCis
variable (s : State) (f : CisSt → CisSt) 
@[simp] theorem State.updCis_regs : (s.updCis f).regs = s.regs := rfl
@[simp] theorem State.updCis_held : (s.updCis f).held = s.held := rfl
@[simp] theorem State.updCis_mem : (s.updCis f).mem = s.mem := rfl
@[simp] theorem State.updCis_mram : (s.updCis f).mram = s.mram := rfl
@[simp] theorem State.updCis_bulk : (s.updCis f).bulk = s.bulk := rfl
@[simp] theorem State.updCis_now : (s.updCis f).now = s.now := rfl
@[simp] theorem State.updCis_free : (s.updCis f).free = s.free := rfl
@[simp] theorem State.updCis_answer : (s.updCis f).answer = s.answer := rfl
@[simp] theorem State.updCis_link : (s.updCis f).link = s.link := rfl
@[simp] theorem State.updCis_sds : (s.updCis f).sds = s.sds := rfl
@[simp] theorem State.updCis_field : (s.updCis f).field = s.field := rfl
@[simp] theorem State.updCis_ports : (s.updCis f).ports = s.ports := rfl
@[simp] theorem State.updCis_vol : (s.updCis f).vol = s.vol := rfl
@[simp] theorem State.updCis_keep : (s.updCis f).keep = s.keep := rfl
@[simp] theorem State.updCis_fuse : (s.updCis f).fuse = s.fuse := rfl
@[simp] theorem State.updCis_pending : (s.updCis f).pending = s.pending := rfl
end updCis

section reply
variable (s : State) (a : Answer) 
@[simp] theorem State.reply_regs : (s.reply a).regs = s.regs := rfl
@[simp] theorem State.reply_held : (s.reply a).held = s.held := rfl
@[simp] theorem State.reply_mem : (s.reply a).mem = s.mem := rfl
@[simp] theorem State.reply_mram : (s.reply a).mram = s.mram := rfl
@[simp] theorem State.reply_bulk : (s.reply a).bulk = s.bulk := rfl
@[simp] theorem State.reply_now : (s.reply a).now = s.now := rfl
@[simp] theorem State.reply_free : (s.reply a).free = s.free := rfl
@[simp] theorem State.reply_link : (s.reply a).link = s.link := rfl
@[simp] theorem State.reply_sds : (s.reply a).sds = s.sds := rfl
@[simp] theorem State.reply_field : (s.reply a).field = s.field := rfl
@[simp] theorem State.reply_ports : (s.reply a).ports = s.ports := rfl
@[simp] theorem State.reply_vol : (s.reply a).vol = s.vol := rfl
@[simp] theorem State.reply_keep : (s.reply a).keep = s.keep := rfl
@[simp] theorem State.reply_cis : (s.reply a).cis = s.cis := rfl
@[simp] theorem State.reply_fuse : (s.reply a).fuse = s.fuse := rfl
@[simp] theorem State.reply_pending : (s.reply a).pending = s.pending := rfl
end reply

section updUpd
variable (s : State) (d : Die) (f : UpdSt → UpdSt) 
@[simp] theorem State.updUpd_regs : (s.updUpd d f).regs = s.regs := rfl
@[simp] theorem State.updUpd_held : (s.updUpd d f).held = s.held := rfl
@[simp] theorem State.updUpd_mem : (s.updUpd d f).mem = s.mem := rfl
@[simp] theorem State.updUpd_mram : (s.updUpd d f).mram = s.mram := rfl
@[simp] theorem State.updUpd_bulk : (s.updUpd d f).bulk = s.bulk := rfl
@[simp] theorem State.updUpd_now : (s.updUpd d f).now = s.now := rfl
@[simp] theorem State.updUpd_free : (s.updUpd d f).free = s.free := rfl
@[simp] theorem State.updUpd_answer : (s.updUpd d f).answer = s.answer := rfl
@[simp] theorem State.updUpd_link : (s.updUpd d f).link = s.link := rfl
@[simp] theorem State.updUpd_sds : (s.updUpd d f).sds = s.sds := rfl
@[simp] theorem State.updUpd_field : (s.updUpd d f).field = s.field := rfl
@[simp] theorem State.updUpd_ports : (s.updUpd d f).ports = s.ports := rfl
@[simp] theorem State.updUpd_keep : (s.updUpd d f).keep = s.keep := rfl
@[simp] theorem State.updUpd_cis : (s.updUpd d f).cis = s.cis := rfl
@[simp] theorem State.updUpd_fuse : (s.updUpd d f).fuse = s.fuse := rfl
@[simp] theorem State.updUpd_pending : (s.updUpd d f).pending = s.pending := rfl
end updUpd

section updPw
variable (s : State) (f : PowerSt → PowerSt) 
@[simp] theorem State.updPw_regs : (s.updPw f).regs = s.regs := rfl
@[simp] theorem State.updPw_held : (s.updPw f).held = s.held := rfl
@[simp] theorem State.updPw_mem : (s.updPw f).mem = s.mem := rfl
@[simp] theorem State.updPw_mram : (s.updPw f).mram = s.mram := rfl
@[simp] theorem State.updPw_bulk : (s.updPw f).bulk = s.bulk := rfl
@[simp] theorem State.updPw_now : (s.updPw f).now = s.now := rfl
@[simp] theorem State.updPw_free : (s.updPw f).free = s.free := rfl
@[simp] theorem State.updPw_answer : (s.updPw f).answer = s.answer := rfl
@[simp] theorem State.updPw_link : (s.updPw f).link = s.link := rfl
@[simp] theorem State.updPw_sds : (s.updPw f).sds = s.sds := rfl
@[simp] theorem State.updPw_field : (s.updPw f).field = s.field := rfl
@[simp] theorem State.updPw_ports : (s.updPw f).ports = s.ports := rfl
@[simp] theorem State.updPw_vol : (s.updPw f).vol = s.vol := rfl
@[simp] theorem State.updPw_keep : (s.updPw f).keep = s.keep := rfl
@[simp] theorem State.updPw_fuse : (s.updPw f).fuse = s.fuse := rfl
@[simp] theorem State.updPw_pending : (s.updPw f).pending = s.pending := rfl
end updPw

section updLed
variable (s : State) (f : LedgerSt → LedgerSt) 
@[simp] theorem State.updLed_regs : (s.updLed f).regs = s.regs := rfl
@[simp] theorem State.updLed_held : (s.updLed f).held = s.held := rfl
@[simp] theorem State.updLed_mem : (s.updLed f).mem = s.mem := rfl
@[simp] theorem State.updLed_mram : (s.updLed f).mram = s.mram := rfl
@[simp] theorem State.updLed_bulk : (s.updLed f).bulk = s.bulk := rfl
@[simp] theorem State.updLed_now : (s.updLed f).now = s.now := rfl
@[simp] theorem State.updLed_free : (s.updLed f).free = s.free := rfl
@[simp] theorem State.updLed_answer : (s.updLed f).answer = s.answer := rfl
@[simp] theorem State.updLed_link : (s.updLed f).link = s.link := rfl
@[simp] theorem State.updLed_sds : (s.updLed f).sds = s.sds := rfl
@[simp] theorem State.updLed_field : (s.updLed f).field = s.field := rfl
@[simp] theorem State.updLed_ports : (s.updLed f).ports = s.ports := rfl
@[simp] theorem State.updLed_vol : (s.updLed f).vol = s.vol := rfl
@[simp] theorem State.updLed_keep : (s.updLed f).keep = s.keep := rfl
@[simp] theorem State.updLed_fuse : (s.updLed f).fuse = s.fuse := rfl
@[simp] theorem State.updLed_pending : (s.updLed f).pending = s.pending := rfl
end updLed

section updSrc
variable (s : State) (d : Die) (n : Nat) (f : EvSrc → EvSrc) 
@[simp] theorem State.updSrc_regs : (s.updSrc d n f).regs = s.regs := rfl
@[simp] theorem State.updSrc_held : (s.updSrc d n f).held = s.held := rfl
@[simp] theorem State.updSrc_mem : (s.updSrc d n f).mem = s.mem := rfl
@[simp] theorem State.updSrc_mram : (s.updSrc d n f).mram = s.mram := rfl
@[simp] theorem State.updSrc_bulk : (s.updSrc d n f).bulk = s.bulk := rfl
@[simp] theorem State.updSrc_now : (s.updSrc d n f).now = s.now := rfl
@[simp] theorem State.updSrc_free : (s.updSrc d n f).free = s.free := rfl
@[simp] theorem State.updSrc_answer : (s.updSrc d n f).answer = s.answer := rfl
@[simp] theorem State.updSrc_link : (s.updSrc d n f).link = s.link := rfl
@[simp] theorem State.updSrc_sds : (s.updSrc d n f).sds = s.sds := rfl
@[simp] theorem State.updSrc_field : (s.updSrc d n f).field = s.field := rfl
@[simp] theorem State.updSrc_ports : (s.updSrc d n f).ports = s.ports := rfl
@[simp] theorem State.updSrc_keep : (s.updSrc d n f).keep = s.keep := rfl
@[simp] theorem State.updSrc_cis : (s.updSrc d n f).cis = s.cis := rfl
@[simp] theorem State.updSrc_fuse : (s.updSrc d n f).fuse = s.fuse := rfl
@[simp] theorem State.updSrc_pending : (s.updSrc d n f).pending = s.pending := rfl
end updSrc

section updQsd
variable (s : State) (d : Die) (sd : Nat) (f : QSd → QSd) 
@[simp] theorem State.updQsd_regs : (s.updQsd d sd f).regs = s.regs := rfl
@[simp] theorem State.updQsd_held : (s.updQsd d sd f).held = s.held := rfl
@[simp] theorem State.updQsd_mem : (s.updQsd d sd f).mem = s.mem := rfl
@[simp] theorem State.updQsd_mram : (s.updQsd d sd f).mram = s.mram := rfl
@[simp] theorem State.updQsd_bulk : (s.updQsd d sd f).bulk = s.bulk := rfl
@[simp] theorem State.updQsd_now : (s.updQsd d sd f).now = s.now := rfl
@[simp] theorem State.updQsd_free : (s.updQsd d sd f).free = s.free := rfl
@[simp] theorem State.updQsd_answer : (s.updQsd d sd f).answer = s.answer := rfl
@[simp] theorem State.updQsd_link : (s.updQsd d sd f).link = s.link := rfl
@[simp] theorem State.updQsd_sds : (s.updQsd d sd f).sds = s.sds := rfl
@[simp] theorem State.updQsd_field : (s.updQsd d sd f).field = s.field := rfl
@[simp] theorem State.updQsd_ports : (s.updQsd d sd f).ports = s.ports := rfl
@[simp] theorem State.updQsd_keep : (s.updQsd d sd f).keep = s.keep := rfl
@[simp] theorem State.updQsd_cis : (s.updQsd d sd f).cis = s.cis := rfl
@[simp] theorem State.updQsd_fuse : (s.updQsd d sd f).fuse = s.fuse := rfl
@[simp] theorem State.updQsd_pending : (s.updQsd d sd f).pending = s.pending := rfl
end updQsd

section updSd
variable (s : State) (sd : Nat) (f : SwitchDie → SwitchDie) 
@[simp] theorem State.updSd_regs : (s.updSd sd f).regs = s.regs := rfl
@[simp] theorem State.updSd_held : (s.updSd sd f).held = s.held := rfl
@[simp] theorem State.updSd_mem : (s.updSd sd f).mem = s.mem := rfl
@[simp] theorem State.updSd_mram : (s.updSd sd f).mram = s.mram := rfl
@[simp] theorem State.updSd_bulk : (s.updSd sd f).bulk = s.bulk := rfl
@[simp] theorem State.updSd_now : (s.updSd sd f).now = s.now := rfl
@[simp] theorem State.updSd_free : (s.updSd sd f).free = s.free := rfl
@[simp] theorem State.updSd_answer : (s.updSd sd f).answer = s.answer := rfl
@[simp] theorem State.updSd_link : (s.updSd sd f).link = s.link := rfl
@[simp] theorem State.updSd_field : (s.updSd sd f).field = s.field := rfl
@[simp] theorem State.updSd_ports : (s.updSd sd f).ports = s.ports := rfl
@[simp] theorem State.updSd_vol : (s.updSd sd f).vol = s.vol := rfl
@[simp] theorem State.updSd_keep : (s.updSd sd f).keep = s.keep := rfl
@[simp] theorem State.updSd_cis : (s.updSd sd f).cis = s.cis := rfl
@[simp] theorem State.updSd_fuse : (s.updSd sd f).fuse = s.fuse := rfl
@[simp] theorem State.updSd_pending : (s.updSd sd f).pending = s.pending := rfl
end updSd

section updChan
variable (s : State) (sd k : Nat) (f : Chan → Chan) 
@[simp] theorem State.updChan_regs : (s.updChan sd k f).regs = s.regs := rfl
@[simp] theorem State.updChan_held : (s.updChan sd k f).held = s.held := rfl
@[simp] theorem State.updChan_mem : (s.updChan sd k f).mem = s.mem := rfl
@[simp] theorem State.updChan_mram : (s.updChan sd k f).mram = s.mram := rfl
@[simp] theorem State.updChan_bulk : (s.updChan sd k f).bulk = s.bulk := rfl
@[simp] theorem State.updChan_now : (s.updChan sd k f).now = s.now := rfl
@[simp] theorem State.updChan_free : (s.updChan sd k f).free = s.free := rfl
@[simp] theorem State.updChan_answer : (s.updChan sd k f).answer = s.answer := rfl
@[simp] theorem State.updChan_link : (s.updChan sd k f).link = s.link := rfl
@[simp] theorem State.updChan_field : (s.updChan sd k f).field = s.field := rfl
@[simp] theorem State.updChan_ports : (s.updChan sd k f).ports = s.ports := rfl
@[simp] theorem State.updChan_vol : (s.updChan sd k f).vol = s.vol := rfl
@[simp] theorem State.updChan_keep : (s.updChan sd k f).keep = s.keep := rfl
@[simp] theorem State.updChan_cis : (s.updChan sd k f).cis = s.cis := rfl
@[simp] theorem State.updChan_fuse : (s.updChan sd k f).fuse = s.fuse := rfl
@[simp] theorem State.updChan_pending : (s.updChan sd k f).pending = s.pending := rfl
end updChan

section updBoot
variable (s : State) (d : Die) (f : BootSt → BootSt) 
@[simp] theorem State.updBoot_regs : (s.updBoot d f).regs = s.regs := rfl
@[simp] theorem State.updBoot_held : (s.updBoot d f).held = s.held := rfl
@[simp] theorem State.updBoot_mem : (s.updBoot d f).mem = s.mem := rfl
@[simp] theorem State.updBoot_mram : (s.updBoot d f).mram = s.mram := rfl
@[simp] theorem State.updBoot_bulk : (s.updBoot d f).bulk = s.bulk := rfl
@[simp] theorem State.updBoot_now : (s.updBoot d f).now = s.now := rfl
@[simp] theorem State.updBoot_free : (s.updBoot d f).free = s.free := rfl
@[simp] theorem State.updBoot_answer : (s.updBoot d f).answer = s.answer := rfl
@[simp] theorem State.updBoot_link : (s.updBoot d f).link = s.link := rfl
@[simp] theorem State.updBoot_sds : (s.updBoot d f).sds = s.sds := rfl
@[simp] theorem State.updBoot_field : (s.updBoot d f).field = s.field := rfl
@[simp] theorem State.updBoot_ports : (s.updBoot d f).ports = s.ports := rfl
@[simp] theorem State.updBoot_keep : (s.updBoot d f).keep = s.keep := rfl
@[simp] theorem State.updBoot_cis : (s.updBoot d f).cis = s.cis := rfl
@[simp] theorem State.updBoot_fuse : (s.updBoot d f).fuse = s.fuse := rfl
@[simp] theorem State.updBoot_pending : (s.updBoot d f).pending = s.pending := rfl
end updBoot

section updLink
variable (s : State) (d : Die) (f : LinkDir → LinkDir) 
@[simp] theorem State.updLink_regs : (s.updLink d f).regs = s.regs := rfl
@[simp] theorem State.updLink_held : (s.updLink d f).held = s.held := rfl
@[simp] theorem State.updLink_mem : (s.updLink d f).mem = s.mem := rfl
@[simp] theorem State.updLink_mram : (s.updLink d f).mram = s.mram := rfl
@[simp] theorem State.updLink_bulk : (s.updLink d f).bulk = s.bulk := rfl
@[simp] theorem State.updLink_now : (s.updLink d f).now = s.now := rfl
@[simp] theorem State.updLink_free : (s.updLink d f).free = s.free := rfl
@[simp] theorem State.updLink_answer : (s.updLink d f).answer = s.answer := rfl
@[simp] theorem State.updLink_sds : (s.updLink d f).sds = s.sds := rfl
@[simp] theorem State.updLink_field : (s.updLink d f).field = s.field := rfl
@[simp] theorem State.updLink_ports : (s.updLink d f).ports = s.ports := rfl
@[simp] theorem State.updLink_vol : (s.updLink d f).vol = s.vol := rfl
@[simp] theorem State.updLink_keep : (s.updLink d f).keep = s.keep := rfl
@[simp] theorem State.updLink_cis : (s.updLink d f).cis = s.cis := rfl
@[simp] theorem State.updLink_fuse : (s.updLink d f).fuse = s.fuse := rfl
@[simp] theorem State.updLink_pending : (s.updLink d f).pending = s.pending := rfl
end updLink

section updCl
variable (s : State) (d : Die) (c : Nat) (f : Cluster → Cluster) 
@[simp] theorem State.updCl_regs : (s.updCl d c f).regs = s.regs := rfl
@[simp] theorem State.updCl_held : (s.updCl d c f).held = s.held := rfl
@[simp] theorem State.updCl_mem : (s.updCl d c f).mem = s.mem := rfl
@[simp] theorem State.updCl_mram : (s.updCl d c f).mram = s.mram := rfl
@[simp] theorem State.updCl_bulk : (s.updCl d c f).bulk = s.bulk := rfl
@[simp] theorem State.updCl_now : (s.updCl d c f).now = s.now := rfl
@[simp] theorem State.updCl_free : (s.updCl d c f).free = s.free := rfl
@[simp] theorem State.updCl_answer : (s.updCl d c f).answer = s.answer := rfl
@[simp] theorem State.updCl_link : (s.updCl d c f).link = s.link := rfl
@[simp] theorem State.updCl_sds : (s.updCl d c f).sds = s.sds := rfl
@[simp] theorem State.updCl_field : (s.updCl d c f).field = s.field := rfl
@[simp] theorem State.updCl_ports : (s.updCl d c f).ports = s.ports := rfl
@[simp] theorem State.updCl_keep : (s.updCl d c f).keep = s.keep := rfl
@[simp] theorem State.updCl_cis : (s.updCl d c f).cis = s.cis := rfl
@[simp] theorem State.updCl_fuse : (s.updCl d c f).fuse = s.fuse := rfl
@[simp] theorem State.updCl_pending : (s.updCl d c f).pending = s.pending := rfl
end updCl

section updNib
variable (s : State) (n : NibId) (f : Nib → Nib) 
@[simp] theorem State.updNib_regs : (s.updNib n f).regs = s.regs := rfl
@[simp] theorem State.updNib_held : (s.updNib n f).held = s.held := rfl
@[simp] theorem State.updNib_mem : (s.updNib n f).mem = s.mem := rfl
@[simp] theorem State.updNib_mram : (s.updNib n f).mram = s.mram := rfl
@[simp] theorem State.updNib_bulk : (s.updNib n f).bulk = s.bulk := rfl
@[simp] theorem State.updNib_now : (s.updNib n f).now = s.now := rfl
@[simp] theorem State.updNib_free : (s.updNib n f).free = s.free := rfl
@[simp] theorem State.updNib_answer : (s.updNib n f).answer = s.answer := rfl
@[simp] theorem State.updNib_link : (s.updNib n f).link = s.link := rfl
@[simp] theorem State.updNib_sds : (s.updNib n f).sds = s.sds := rfl
@[simp] theorem State.updNib_field : (s.updNib n f).field = s.field := rfl
@[simp] theorem State.updNib_ports : (s.updNib n f).ports = s.ports := rfl
@[simp] theorem State.updNib_keep : (s.updNib n f).keep = s.keep := rfl
@[simp] theorem State.updNib_cis : (s.updNib n f).cis = s.cis := rfl
@[simp] theorem State.updNib_fuse : (s.updNib n f).fuse = s.fuse := rfl
@[simp] theorem State.updNib_pending : (s.updNib n f).pending = s.pending := rfl
end updNib

section updLane
variable (s : State) (d : Die) (i : Nat) (f : Lane → Lane) 
@[simp] theorem State.updLane_regs : (s.updLane d i f).regs = s.regs := rfl
@[simp] theorem State.updLane_held : (s.updLane d i f).held = s.held := rfl
@[simp] theorem State.updLane_mem : (s.updLane d i f).mem = s.mem := rfl
@[simp] theorem State.updLane_mram : (s.updLane d i f).mram = s.mram := rfl
@[simp] theorem State.updLane_bulk : (s.updLane d i f).bulk = s.bulk := rfl
@[simp] theorem State.updLane_now : (s.updLane d i f).now = s.now := rfl
@[simp] theorem State.updLane_free : (s.updLane d i f).free = s.free := rfl
@[simp] theorem State.updLane_answer : (s.updLane d i f).answer = s.answer := rfl
@[simp] theorem State.updLane_link : (s.updLane d i f).link = s.link := rfl
@[simp] theorem State.updLane_sds : (s.updLane d i f).sds = s.sds := rfl
@[simp] theorem State.updLane_field : (s.updLane d i f).field = s.field := rfl
@[simp] theorem State.updLane_ports : (s.updLane d i f).ports = s.ports := rfl
@[simp] theorem State.updLane_keep : (s.updLane d i f).keep = s.keep := rfl
@[simp] theorem State.updLane_cis : (s.updLane d i f).cis = s.cis := rfl
@[simp] theorem State.updLane_fuse : (s.updLane d i f).fuse = s.fuse := rfl
@[simp] theorem State.updLane_pending : (s.updLane d i f).pending = s.pending := rfl
end updLane

section updGw
variable (s : State) (d : Die) (f : GwSt → GwSt) 
@[simp] theorem State.updGw_regs : (s.updGw d f).regs = s.regs := rfl
@[simp] theorem State.updGw_held : (s.updGw d f).held = s.held := rfl
@[simp] theorem State.updGw_mem : (s.updGw d f).mem = s.mem := rfl
@[simp] theorem State.updGw_mram : (s.updGw d f).mram = s.mram := rfl
@[simp] theorem State.updGw_bulk : (s.updGw d f).bulk = s.bulk := rfl
@[simp] theorem State.updGw_now : (s.updGw d f).now = s.now := rfl
@[simp] theorem State.updGw_free : (s.updGw d f).free = s.free := rfl
@[simp] theorem State.updGw_answer : (s.updGw d f).answer = s.answer := rfl
@[simp] theorem State.updGw_link : (s.updGw d f).link = s.link := rfl
@[simp] theorem State.updGw_sds : (s.updGw d f).sds = s.sds := rfl
@[simp] theorem State.updGw_field : (s.updGw d f).field = s.field := rfl
@[simp] theorem State.updGw_ports : (s.updGw d f).ports = s.ports := rfl
@[simp] theorem State.updGw_keep : (s.updGw d f).keep = s.keep := rfl
@[simp] theorem State.updGw_cis : (s.updGw d f).cis = s.cis := rfl
@[simp] theorem State.updGw_fuse : (s.updGw d f).fuse = s.fuse := rfl
@[simp] theorem State.updGw_pending : (s.updGw d f).pending = s.pending := rfl
end updGw

section updFb
variable (s : State) (d : Die) (i : Nat) (f : FbCtl → FbCtl) 
@[simp] theorem State.updFb_regs : (s.updFb d i f).regs = s.regs := rfl
@[simp] theorem State.updFb_held : (s.updFb d i f).held = s.held := rfl
@[simp] theorem State.updFb_mem : (s.updFb d i f).mem = s.mem := rfl
@[simp] theorem State.updFb_mram : (s.updFb d i f).mram = s.mram := rfl
@[simp] theorem State.updFb_bulk : (s.updFb d i f).bulk = s.bulk := rfl
@[simp] theorem State.updFb_now : (s.updFb d i f).now = s.now := rfl
@[simp] theorem State.updFb_free : (s.updFb d i f).free = s.free := rfl
@[simp] theorem State.updFb_answer : (s.updFb d i f).answer = s.answer := rfl
@[simp] theorem State.updFb_link : (s.updFb d i f).link = s.link := rfl
@[simp] theorem State.updFb_sds : (s.updFb d i f).sds = s.sds := rfl
@[simp] theorem State.updFb_field : (s.updFb d i f).field = s.field := rfl
@[simp] theorem State.updFb_ports : (s.updFb d i f).ports = s.ports := rfl
@[simp] theorem State.updFb_keep : (s.updFb d i f).keep = s.keep := rfl
@[simp] theorem State.updFb_cis : (s.updFb d i f).cis = s.cis := rfl
@[simp] theorem State.updFb_fuse : (s.updFb d i f).fuse = s.fuse := rfl
@[simp] theorem State.updFb_pending : (s.updFb d i f).pending = s.pending := rfl
end updFb

section updFbSel
variable (s : State) (i : Nat) (f : FbSel → FbSel) 
@[simp] theorem State.updFbSel_regs : (s.updFbSel i f).regs = s.regs := rfl
@[simp] theorem State.updFbSel_held : (s.updFbSel i f).held = s.held := rfl
@[simp] theorem State.updFbSel_mem : (s.updFbSel i f).mem = s.mem := rfl
@[simp] theorem State.updFbSel_mram : (s.updFbSel i f).mram = s.mram := rfl
@[simp] theorem State.updFbSel_bulk : (s.updFbSel i f).bulk = s.bulk := rfl
@[simp] theorem State.updFbSel_now : (s.updFbSel i f).now = s.now := rfl
@[simp] theorem State.updFbSel_free : (s.updFbSel i f).free = s.free := rfl
@[simp] theorem State.updFbSel_answer : (s.updFbSel i f).answer = s.answer := rfl
@[simp] theorem State.updFbSel_link : (s.updFbSel i f).link = s.link := rfl
@[simp] theorem State.updFbSel_sds : (s.updFbSel i f).sds = s.sds := rfl
@[simp] theorem State.updFbSel_ports : (s.updFbSel i f).ports = s.ports := rfl
@[simp] theorem State.updFbSel_vol : (s.updFbSel i f).vol = s.vol := rfl
@[simp] theorem State.updFbSel_keep : (s.updFbSel i f).keep = s.keep := rfl
@[simp] theorem State.updFbSel_cis : (s.updFbSel i f).cis = s.cis := rfl
@[simp] theorem State.updFbSel_fuse : (s.updFbSel i f).fuse = s.fuse := rfl
@[simp] theorem State.updFbSel_pending : (s.updFbSel i f).pending = s.pending := rfl
end updFbSel

section updSat
variable (s : State) (b : Nat) (f : SatBus → SatBus) 
@[simp] theorem State.updSat_regs : (s.updSat b f).regs = s.regs := rfl
@[simp] theorem State.updSat_held : (s.updSat b f).held = s.held := rfl
@[simp] theorem State.updSat_mem : (s.updSat b f).mem = s.mem := rfl
@[simp] theorem State.updSat_mram : (s.updSat b f).mram = s.mram := rfl
@[simp] theorem State.updSat_bulk : (s.updSat b f).bulk = s.bulk := rfl
@[simp] theorem State.updSat_now : (s.updSat b f).now = s.now := rfl
@[simp] theorem State.updSat_free : (s.updSat b f).free = s.free := rfl
@[simp] theorem State.updSat_answer : (s.updSat b f).answer = s.answer := rfl
@[simp] theorem State.updSat_link : (s.updSat b f).link = s.link := rfl
@[simp] theorem State.updSat_sds : (s.updSat b f).sds = s.sds := rfl
@[simp] theorem State.updSat_ports : (s.updSat b f).ports = s.ports := rfl
@[simp] theorem State.updSat_vol : (s.updSat b f).vol = s.vol := rfl
@[simp] theorem State.updSat_keep : (s.updSat b f).keep = s.keep := rfl
@[simp] theorem State.updSat_cis : (s.updSat b f).cis = s.cis := rfl
@[simp] theorem State.updSat_fuse : (s.updSat b f).fuse = s.fuse := rfl
@[simp] theorem State.updSat_pending : (s.updSat b f).pending = s.pending := rfl
end updSat

section updMac
variable (s : State) (d : Die) (p : Nat) (f : MacSt → MacSt) 
@[simp] theorem State.updMac_regs : (s.updMac d p f).regs = s.regs := rfl
@[simp] theorem State.updMac_held : (s.updMac d p f).held = s.held := rfl
@[simp] theorem State.updMac_mem : (s.updMac d p f).mem = s.mem := rfl
@[simp] theorem State.updMac_mram : (s.updMac d p f).mram = s.mram := rfl
@[simp] theorem State.updMac_bulk : (s.updMac d p f).bulk = s.bulk := rfl
@[simp] theorem State.updMac_now : (s.updMac d p f).now = s.now := rfl
@[simp] theorem State.updMac_free : (s.updMac d p f).free = s.free := rfl
@[simp] theorem State.updMac_answer : (s.updMac d p f).answer = s.answer := rfl
@[simp] theorem State.updMac_link : (s.updMac d p f).link = s.link := rfl
@[simp] theorem State.updMac_sds : (s.updMac d p f).sds = s.sds := rfl
@[simp] theorem State.updMac_field : (s.updMac d p f).field = s.field := rfl
@[simp] theorem State.updMac_ports : (s.updMac d p f).ports = s.ports := rfl
@[simp] theorem State.updMac_keep : (s.updMac d p f).keep = s.keep := rfl
@[simp] theorem State.updMac_cis : (s.updMac d p f).cis = s.cis := rfl
@[simp] theorem State.updMac_fuse : (s.updMac d p f).fuse = s.fuse := rfl
@[simp] theorem State.updMac_pending : (s.updMac d p f).pending = s.pending := rfl
end updMac

section updPort
variable (s : State) (p : Nat) (f : PortSel → PortSel) 
@[simp] theorem State.updPort_regs : (s.updPort p f).regs = s.regs := rfl
@[simp] theorem State.updPort_held : (s.updPort p f).held = s.held := rfl
@[simp] theorem State.updPort_mem : (s.updPort p f).mem = s.mem := rfl
@[simp] theorem State.updPort_mram : (s.updPort p f).mram = s.mram := rfl
@[simp] theorem State.updPort_bulk : (s.updPort p f).bulk = s.bulk := rfl
@[simp] theorem State.updPort_now : (s.updPort p f).now = s.now := rfl
@[simp] theorem State.updPort_free : (s.updPort p f).free = s.free := rfl
@[simp] theorem State.updPort_answer : (s.updPort p f).answer = s.answer := rfl
@[simp] theorem State.updPort_link : (s.updPort p f).link = s.link := rfl
@[simp] theorem State.updPort_sds : (s.updPort p f).sds = s.sds := rfl
@[simp] theorem State.updPort_field : (s.updPort p f).field = s.field := rfl
@[simp] theorem State.updPort_vol : (s.updPort p f).vol = s.vol := rfl
@[simp] theorem State.updPort_keep : (s.updPort p f).keep = s.keep := rfl
@[simp] theorem State.updPort_cis : (s.updPort p f).cis = s.cis := rfl
@[simp] theorem State.updPort_fuse : (s.updPort p f).fuse = s.fuse := rfl
@[simp] theorem State.updPort_pending : (s.updPort p f).pending = s.pending := rfl
end updPort

section updSwc
variable (s : State) (d : Die) (f : SwcSt → SwcSt) 
@[simp] theorem State.updSwc_regs : (s.updSwc d f).regs = s.regs := rfl
@[simp] theorem State.updSwc_held : (s.updSwc d f).held = s.held := rfl
@[simp] theorem State.updSwc_mem : (s.updSwc d f).mem = s.mem := rfl
@[simp] theorem State.updSwc_mram : (s.updSwc d f).mram = s.mram := rfl
@[simp] theorem State.updSwc_bulk : (s.updSwc d f).bulk = s.bulk := rfl
@[simp] theorem State.updSwc_now : (s.updSwc d f).now = s.now := rfl
@[simp] theorem State.updSwc_free : (s.updSwc d f).free = s.free := rfl
@[simp] theorem State.updSwc_answer : (s.updSwc d f).answer = s.answer := rfl
@[simp] theorem State.updSwc_link : (s.updSwc d f).link = s.link := rfl
@[simp] theorem State.updSwc_sds : (s.updSwc d f).sds = s.sds := rfl
@[simp] theorem State.updSwc_field : (s.updSwc d f).field = s.field := rfl
@[simp] theorem State.updSwc_ports : (s.updSwc d f).ports = s.ports := rfl
@[simp] theorem State.updSwc_keep : (s.updSwc d f).keep = s.keep := rfl
@[simp] theorem State.updSwc_cis : (s.updSwc d f).cis = s.cis := rfl
@[simp] theorem State.updSwc_fuse : (s.updSwc d f).fuse = s.fuse := rfl
@[simp] theorem State.updSwc_pending : (s.updSwc d f).pending = s.pending := rfl
end updSwc

section updTim
variable (s : State) (d : Die) (f : TimeSt → TimeSt) 
@[simp] theorem State.updTim_regs : (s.updTim d f).regs = s.regs := rfl
@[simp] theorem State.updTim_held : (s.updTim d f).held = s.held := rfl
@[simp] theorem State.updTim_mem : (s.updTim d f).mem = s.mem := rfl
@[simp] theorem State.updTim_mram : (s.updTim d f).mram = s.mram := rfl
@[simp] theorem State.updTim_bulk : (s.updTim d f).bulk = s.bulk := rfl
@[simp] theorem State.updTim_now : (s.updTim d f).now = s.now := rfl
@[simp] theorem State.updTim_free : (s.updTim d f).free = s.free := rfl
@[simp] theorem State.updTim_answer : (s.updTim d f).answer = s.answer := rfl
@[simp] theorem State.updTim_link : (s.updTim d f).link = s.link := rfl
@[simp] theorem State.updTim_sds : (s.updTim d f).sds = s.sds := rfl
@[simp] theorem State.updTim_field : (s.updTim d f).field = s.field := rfl
@[simp] theorem State.updTim_ports : (s.updTim d f).ports = s.ports := rfl
@[simp] theorem State.updTim_keep : (s.updTim d f).keep = s.keep := rfl
@[simp] theorem State.updTim_cis : (s.updTim d f).cis = s.cis := rfl
@[simp] theorem State.updTim_fuse : (s.updTim d f).fuse = s.fuse := rfl
@[simp] theorem State.updTim_pending : (s.updTim d f).pending = s.pending := rfl
end updTim

section updCk
variable (s : State) (d : Die) (p : Nat) (f : PartCk → PartCk) 
@[simp] theorem State.updCk_regs : (s.updCk d p f).regs = s.regs := rfl
@[simp] theorem State.updCk_held : (s.updCk d p f).held = s.held := rfl
@[simp] theorem State.updCk_mem : (s.updCk d p f).mem = s.mem := rfl
@[simp] theorem State.updCk_mram : (s.updCk d p f).mram = s.mram := rfl
@[simp] theorem State.updCk_bulk : (s.updCk d p f).bulk = s.bulk := rfl
@[simp] theorem State.updCk_now : (s.updCk d p f).now = s.now := rfl
@[simp] theorem State.updCk_free : (s.updCk d p f).free = s.free := rfl
@[simp] theorem State.updCk_answer : (s.updCk d p f).answer = s.answer := rfl
@[simp] theorem State.updCk_link : (s.updCk d p f).link = s.link := rfl
@[simp] theorem State.updCk_sds : (s.updCk d p f).sds = s.sds := rfl
@[simp] theorem State.updCk_field : (s.updCk d p f).field = s.field := rfl
@[simp] theorem State.updCk_ports : (s.updCk d p f).ports = s.ports := rfl
@[simp] theorem State.updCk_keep : (s.updCk d p f).keep = s.keep := rfl
@[simp] theorem State.updCk_cis : (s.updCk d p f).cis = s.cis := rfl
@[simp] theorem State.updCk_fuse : (s.updCk d p f).fuse = s.fuse := rfl
@[simp] theorem State.updCk_pending : (s.updCk d p f).pending = s.pending := rfl
end updCk

section updDux
variable (s : State) (d : Die) (x : Nat) (f : DuxSt → DuxSt) 
@[simp] theorem State.updDux_regs : (s.updDux d x f).regs = s.regs := rfl
@[simp] theorem State.updDux_held : (s.updDux d x f).held = s.held := rfl
@[simp] theorem State.updDux_mem : (s.updDux d x f).mem = s.mem := rfl
@[simp] theorem State.updDux_mram : (s.updDux d x f).mram = s.mram := rfl
@[simp] theorem State.updDux_bulk : (s.updDux d x f).bulk = s.bulk := rfl
@[simp] theorem State.updDux_now : (s.updDux d x f).now = s.now := rfl
@[simp] theorem State.updDux_free : (s.updDux d x f).free = s.free := rfl
@[simp] theorem State.updDux_answer : (s.updDux d x f).answer = s.answer := rfl
@[simp] theorem State.updDux_link : (s.updDux d x f).link = s.link := rfl
@[simp] theorem State.updDux_sds : (s.updDux d x f).sds = s.sds := rfl
@[simp] theorem State.updDux_field : (s.updDux d x f).field = s.field := rfl
@[simp] theorem State.updDux_ports : (s.updDux d x f).ports = s.ports := rfl
@[simp] theorem State.updDux_keep : (s.updDux d x f).keep = s.keep := rfl
@[simp] theorem State.updDux_cis : (s.updDux d x f).cis = s.cis := rfl
@[simp] theorem State.updDux_fuse : (s.updDux d x f).fuse = s.fuse := rfl
@[simp] theorem State.updDux_pending : (s.updDux d x f).pending = s.pending := rfl
end updDux

section updCore
variable (s : State) (d : Die) (x : Nat) (b : Die) (f : AppCore → AppCore) 
@[simp] theorem State.updCore_regs : (s.updCore d x b f).regs = s.regs := rfl
@[simp] theorem State.updCore_held : (s.updCore d x b f).held = s.held := rfl
@[simp] theorem State.updCore_mem : (s.updCore d x b f).mem = s.mem := rfl
@[simp] theorem State.updCore_mram : (s.updCore d x b f).mram = s.mram := rfl
@[simp] theorem State.updCore_bulk : (s.updCore d x b f).bulk = s.bulk := rfl
@[simp] theorem State.updCore_now : (s.updCore d x b f).now = s.now := rfl
@[simp] theorem State.updCore_free : (s.updCore d x b f).free = s.free := rfl
@[simp] theorem State.updCore_answer : (s.updCore d x b f).answer = s.answer := rfl
@[simp] theorem State.updCore_link : (s.updCore d x b f).link = s.link := rfl
@[simp] theorem State.updCore_sds : (s.updCore d x b f).sds = s.sds := rfl
@[simp] theorem State.updCore_field : (s.updCore d x b f).field = s.field := rfl
@[simp] theorem State.updCore_ports : (s.updCore d x b f).ports = s.ports := rfl
@[simp] theorem State.updCore_keep : (s.updCore d x b f).keep = s.keep := rfl
@[simp] theorem State.updCore_cis : (s.updCore d x b f).cis = s.cis := rfl
@[simp] theorem State.updCore_fuse : (s.updCore d x b f).fuse = s.fuse := rfl
@[simp] theorem State.updCore_pending : (s.updCore d x b f).pending = s.pending := rfl
end updCore

section updWld
variable (s : State) (d : Die) (f : WldSt → WldSt) 
@[simp] theorem State.updWld_regs : (s.updWld d f).regs = s.regs := rfl
@[simp] theorem State.updWld_held : (s.updWld d f).held = s.held := rfl
@[simp] theorem State.updWld_mem : (s.updWld d f).mem = s.mem := rfl
@[simp] theorem State.updWld_mram : (s.updWld d f).mram = s.mram := rfl
@[simp] theorem State.updWld_bulk : (s.updWld d f).bulk = s.bulk := rfl
@[simp] theorem State.updWld_now : (s.updWld d f).now = s.now := rfl
@[simp] theorem State.updWld_free : (s.updWld d f).free = s.free := rfl
@[simp] theorem State.updWld_answer : (s.updWld d f).answer = s.answer := rfl
@[simp] theorem State.updWld_link : (s.updWld d f).link = s.link := rfl
@[simp] theorem State.updWld_sds : (s.updWld d f).sds = s.sds := rfl
@[simp] theorem State.updWld_field : (s.updWld d f).field = s.field := rfl
@[simp] theorem State.updWld_ports : (s.updWld d f).ports = s.ports := rfl
@[simp] theorem State.updWld_keep : (s.updWld d f).keep = s.keep := rfl
@[simp] theorem State.updWld_cis : (s.updWld d f).cis = s.cis := rfl
@[simp] theorem State.updWld_fuse : (s.updWld d f).fuse = s.fuse := rfl
@[simp] theorem State.updWld_pending : (s.updWld d f).pending = s.pending := rfl
end updWld

section updWire
variable (s : State) (d : Die) (n : Nat) (f : Wire → Wire) 
@[simp] theorem State.updWire_regs : (s.updWire d n f).regs = s.regs := rfl
@[simp] theorem State.updWire_held : (s.updWire d n f).held = s.held := rfl
@[simp] theorem State.updWire_mem : (s.updWire d n f).mem = s.mem := rfl
@[simp] theorem State.updWire_mram : (s.updWire d n f).mram = s.mram := rfl
@[simp] theorem State.updWire_bulk : (s.updWire d n f).bulk = s.bulk := rfl
@[simp] theorem State.updWire_now : (s.updWire d n f).now = s.now := rfl
@[simp] theorem State.updWire_free : (s.updWire d n f).free = s.free := rfl
@[simp] theorem State.updWire_answer : (s.updWire d n f).answer = s.answer := rfl
@[simp] theorem State.updWire_link : (s.updWire d n f).link = s.link := rfl
@[simp] theorem State.updWire_sds : (s.updWire d n f).sds = s.sds := rfl
@[simp] theorem State.updWire_field : (s.updWire d n f).field = s.field := rfl
@[simp] theorem State.updWire_ports : (s.updWire d n f).ports = s.ports := rfl
@[simp] theorem State.updWire_keep : (s.updWire d n f).keep = s.keep := rfl
@[simp] theorem State.updWire_cis : (s.updWire d n f).cis = s.cis := rfl
@[simp] theorem State.updWire_fuse : (s.updWire d n f).fuse = s.fuse := rfl
@[simp] theorem State.updWire_pending : (s.updWire d n f).pending = s.pending := rfl
end updWire

section updSec
variable (s : State) (d : Die) (f : SecSt → SecSt) 
@[simp] theorem State.updSec_regs : (s.updSec d f).regs = s.regs := rfl
@[simp] theorem State.updSec_held : (s.updSec d f).held = s.held := rfl
@[simp] theorem State.updSec_mem : (s.updSec d f).mem = s.mem := rfl
@[simp] theorem State.updSec_mram : (s.updSec d f).mram = s.mram := rfl
@[simp] theorem State.updSec_bulk : (s.updSec d f).bulk = s.bulk := rfl
@[simp] theorem State.updSec_now : (s.updSec d f).now = s.now := rfl
@[simp] theorem State.updSec_free : (s.updSec d f).free = s.free := rfl
@[simp] theorem State.updSec_answer : (s.updSec d f).answer = s.answer := rfl
@[simp] theorem State.updSec_link : (s.updSec d f).link = s.link := rfl
@[simp] theorem State.updSec_sds : (s.updSec d f).sds = s.sds := rfl
@[simp] theorem State.updSec_field : (s.updSec d f).field = s.field := rfl
@[simp] theorem State.updSec_ports : (s.updSec d f).ports = s.ports := rfl
@[simp] theorem State.updSec_keep : (s.updSec d f).keep = s.keep := rfl
@[simp] theorem State.updSec_cis : (s.updSec d f).cis = s.cis := rfl
@[simp] theorem State.updSec_fuse : (s.updSec d f).fuse = s.fuse := rfl
@[simp] theorem State.updSec_pending : (s.updSec d f).pending = s.pending := rfl
end updSec

section updZg
variable (s : State) (d : Die) (f : ZgSt → ZgSt) 
@[simp] theorem State.updZg_regs : (s.updZg d f).regs = s.regs := rfl
@[simp] theorem State.updZg_held : (s.updZg d f).held = s.held := rfl
@[simp] theorem State.updZg_mem : (s.updZg d f).mem = s.mem := rfl
@[simp] theorem State.updZg_mram : (s.updZg d f).mram = s.mram := rfl
@[simp] theorem State.updZg_bulk : (s.updZg d f).bulk = s.bulk := rfl
@[simp] theorem State.updZg_now : (s.updZg d f).now = s.now := rfl
@[simp] theorem State.updZg_free : (s.updZg d f).free = s.free := rfl
@[simp] theorem State.updZg_answer : (s.updZg d f).answer = s.answer := rfl
@[simp] theorem State.updZg_link : (s.updZg d f).link = s.link := rfl
@[simp] theorem State.updZg_sds : (s.updZg d f).sds = s.sds := rfl
@[simp] theorem State.updZg_field : (s.updZg d f).field = s.field := rfl
@[simp] theorem State.updZg_ports : (s.updZg d f).ports = s.ports := rfl
@[simp] theorem State.updZg_keep : (s.updZg d f).keep = s.keep := rfl
@[simp] theorem State.updZg_cis : (s.updZg d f).cis = s.cis := rfl
@[simp] theorem State.updZg_fuse : (s.updZg d f).fuse = s.fuse := rfl
@[simp] theorem State.updZg_pending : (s.updZg d f).pending = s.pending := rfl
end updZg

/-! ### Reading after a change -/

theorem PerDie.get_upd_same {α : Type} (p : PerDie α) (d : Die) (f : α → α) : (p.upd d f).get d = f (p.get d) := by
  fin_cases d <;> rfl

theorem PerDie.get_upd_other {α : Type} (p : PerDie α) {d e : Die} (f : α → α) (h : e ≠ d) : (p.upd d f).get e = p.get e := by
  fin_cases d <;> fin_cases e <;> first | rfl | exact absurd rfl h

@[simp] theorem State.updVol_get (s : State) (d : Die) (f : DieVol → DieVol) : (s.updVol d f).vol.get d = f (s.vol.get d) :=
  PerDie.get_upd_same ..

theorem State.updVol_get_other (s : State) {d e : Die} (f : DieVol → DieVol) (h : e ≠ d) :
    (s.updVol d f).vol.get e = s.vol.get e := PerDie.get_upd_other _ _ h

/-- A register reads as what was written to it. -/
@[simp] theorem State.rd_wr (s : State) (d : Die) (o : Nat) (v : Word) : (s.wr d o v).rd d o = v := by
  unfold State.rd State.wr
  dsimp only
  split <;> rename_i h <;> split at h <;> simp_all [tfind_tput_same, tfind_terase_same]

/-- Every other register reads as before. -/
theorem State.rd_wr_other (s : State) {d e : Die} {o p : Nat} (v : Word) (h : regKey e p ≠ regKey d o) :
    (s.wr d o v).rd e p = s.rd e p := by
  unfold State.rd State.wr
  dsimp only
  split <;> rename_i h1 <;> split at h1 <;> simp_all [tfind_tput_other, tfind_terase_other]

@[simp] theorem State.sd_updSd (s : State) (k : Nat) (f : SwitchDie → SwitchDie) : (s.updSd k f).sd k = f (s.sd k) :=
  tget_tupd_same ..

theorem State.sd_updSd_other (s : State) {k j : Nat} (f : SwitchDie → SwitchDie) (h : j ≠ k) : (s.updSd k f).sd j = s.sd j :=
  tget_tupd_other _ _ _ h

@[simp] theorem State.cl_updCl (s : State) (d : Die) (c : Nat) (f : Cluster → Cluster) : (s.updCl d c f).cl d c = f (s.cl d c) := by
  simp [State.cl, State.updCl]

theorem State.cl_updCl_other (s : State) {d e : Die} {c b : Nat} (f : Cluster → Cluster) (h : (e, b) ≠ (d, c)) :
    (s.updCl d c f).cl e b = s.cl e b := by
  unfold State.cl State.updCl
  by_cases he : e = d
  · subst he
    rw [State.updVol_get]
    exact tget_tupd_other _ _ _ (fun hb => h (by rw [hb]))
  · rw [State.updVol_get_other _ _ he]

/-- A nib is what it was changed to. -/
@[simp] theorem State.nib_updNib (s : State) (n : NibId) (f : Nib → Nib) : (s.updNib n f).nib n = f (s.nib n) := by
  simp [State.nib, State.updNib, Cluster.nib]

/-- Every other nib is as before. -/
theorem State.nib_updNib_other (s : State) {n m : NibId} (f : Nib → Nib) (h : m ≠ n) : (s.updNib n f).nib m = s.nib m := by
  unfold State.nib State.updNib
  by_cases hc : m.d = n.d ∧ m.c = n.c
  · rw [hc.1, hc.2, State.cl_updCl]
    refine tget_tupd_other _ _ _ (fun hk => h ?_)
    obtain ⟨d, c, k⟩ := m
    obtain ⟨d', c', k'⟩ := n
    simp only at hc hk
    rw [hc.1, hc.2, Fin.ext hk]
  · rw [State.cl_updCl_other]
    exact fun he => hc ⟨congrArg Prod.fst he, Fin.ext (congrArg Prod.snd he)⟩

/-- A byte of memory reads as what was written to it. -/
@[simp] theorem State.byteAt_putByte (s : State) (d : Die) (a : Nat) (b : Byte) : (s.putByte d a b).byteAt d a = b := by
  unfold State.byteAt State.putByte
  by_cases h : inMram a = true <;> simp [h, tfind_tput_same]

/-- Every other byte reads as before. -/
theorem State.byteAt_putByte_other (s : State) {d e : Die} {a c : Nat} (b : Byte) (h : memKey e c ≠ memKey d a) :
    (s.putByte d a b).byteAt e c = s.byteAt e c := by
  unfold State.byteAt State.putByte
  by_cases h1 : inMram a = true <;> by_cases h2 : inMram c = true <;>
    simp [h1, h2, tfind_tput_other _ _ h, tget_tset_other _ _ _ h]

/-! ### The canonical form -/

theorem State.wr_regsWf {s : State} {d : Die} {o : Nat} {v : Word} (h : twf regReset s.regs = true) :
    twf regReset (s.wr d o v).regs = true := by
  unfold State.wr
  dsimp only
  split
  · exact twf_sublist (terase_sublist _ _) h
  · exact twf_tput h (by assumption)

theorem State.putByte_mem {s : State} {d : Die} {a : Nat} {b : Byte} (h : twf (fun _ => 0#8) s.mem = true) :
    twf (fun _ => 0#8) (s.putByte d a b).mem = true := by
  unfold State.putByte
  split
  · exact h
  · exact twf_tset _ _ h

theorem State.putByte_mram {s : State} {d : Die} {a : Nat} {b : Byte} (h : tsorted s.mram = true) :
    tsorted (s.putByte d a b).mram = true := by
  unfold State.putByte
  split
  · exact tsorted_tput _ _ h
  · exact h

@[simp] theorem State.putByte_bulk (s : State) (d : Die) (a : Nat) (b : Byte) : (s.putByte d a b).bulk = s.bulk := by
  unfold State.putByte
  split <;> rfl

@[simp] theorem State.putByte_regs (s : State) (d : Die) (a : Nat) (b : Byte) : (s.putByte d a b).regs = s.regs := by
  unfold State.putByte
  split <;> rfl

@[simp] theorem State.putByte_vol (s : State) (d : Die) (a : Nat) (b : Byte) : (s.putByte d a b).vol = s.vol := by
  unfold State.putByte
  split <;> rfl

theorem State.putBytes_mem {s : State} {d : Die} {a : Nat} {l : List Byte} (h : twf (fun _ => 0#8) s.mem = true) :
    twf (fun _ => 0#8) (s.putBytes d a l).mem = true := by
  induction l generalizing s a with
  | nil => exact h
  | cons b l ih => exact ih (State.putByte_mem h)

theorem State.putBytes_mram {s : State} {d : Die} {a : Nat} {l : List Byte} (h : tsorted s.mram = true) :
    tsorted (s.putBytes d a l).mram = true := by
  induction l generalizing s a with
  | nil => exact h
  | cons b l ih => exact ih (State.putByte_mram h)

theorem State.copyRange_mem {s : State} {src dst : Die} {lo hi : Nat} (h : twf (fun _ => 0#8) s.mem = true) :
    twf (fun _ => 0#8) (s.copyRange src dst lo hi).mem = true := by
  unfold State.copyRange
  dsimp only
  refine twf_foldl_tput _ _ (twf_tdrop _ h) (fun e he => ?_)
  exact ((twf_iff _ _).1 h).2 e (List.mem_filter.1 he).1

end Sys2Proof.Machine
end

