-- ==== Sys2Proof/WellFormed.lean ====
section
/-! DEFINITION. Which commands are well formed: the conditions of their operands that their types do not say. Operands of a
fixed width need none. The meanings do not rest on them: a record whose body breaks its rules is judged, not refused. -/

namespace Sys2Proof

/-- A record as the walk over an image yields it: a body whose length is a multiple of 8 and fits its field (R53, R54). -/
def Rec.wf (r : Rec) : Bool := decide (r.body.length % 8 = 0 ∧ r.body.length < 2 ^ 32)

/-- An Iamar frame whose body has the length its header gives (R669). -/
def ZgFrame.wf (f : ZgFrame) : Bool := decide (f.body.length = f.len.toNat)

/-- Whether a command is well formed. -/
def Instr.wf : Instr → Bool
  | .registerWrite _ _ _ _ => true
  | .lowWordReadLatch _ _ _ => true
  | .partnerWindowRead _ _ addr n _ => decide (n.val = 1 ∨ n.val = 2 ∨ n.val = 4 ∨ n.val = 8) && decide (addr.toNat % n.val = 0)
  | .rillTransfer _ _ _ _ _ _ => true
  | .flitReceive _ _ _ => true
  | .flitReplay _ => true
  | .pairLinkRetrain _ => true
  | .retrainComplete => true
  | .pairLinkLoss => true
  | .mirroredWrite _ _ port _ value => decide (value.length = (match port with | .nibProgram => 1 | .pdu => 8 | _ => 4))
  | .mirroredWriteComplete _ => true
  | .powerOnReset => true
  | .brownOut => true
  | .strapSample _ => true
  | .moduleReset _ => true
  | .dieReset _ _ => true
  | .partitionReset _ _ => true
  | .nibClusterReset _ _ _ => true
  | .switchDieReset _ _ => true
  | .rstreqModule _ _ _ => true
  | .rstreqDie _ _ _ _ => true
  | .rstreqPartition _ _ _ _ => true
  | .rstreqNibCluster _ _ _ _ _ => true
  | .rstreqSwitchDie _ _ _ _ => true
  | .resetNAssert => true
  | .resetNRelease => true
  | .qDieRelease _ _ => true
  | .loaderDonation _ => true
  | .ductusVerify _ => true
  | .verificationExchange => true
  | .partnerResultTimeout _ => true
  | .imageDonation _ => true
  | .islandClockRecord _ r => r.wf
  | .channelRecord _ r => r.wf
  | .feedRecord _ r => r.wf
  | .switchDieControlRecord _ r => r.wf
  | .failSafeEntryRecord _ r => r.wf
  | .clusterRecord _ r => r.wf
  | .programRecord _ r => r.wf
  | .subscriptionRecord _ r => r.wf
  | .tickRecord _ r => r.wf
  | .mailboxRecord _ r => r.wf
  | .descriptorBlockRecord _ r => r.wf
  | .fanOutBlockRecord _ r => r.wf
  | .pduBlockRecord _ r => r.wf
  | .gatewayRecord _ r => r.wf
  | .partitionMailboxRecord _ r => r.wf
  | .acfPortRecord _ r => r.wf
  | .valueTableRecord _ r => r.wf
  | .canControllerRecord _ r => r.wf
  | .canFiltersRecord _ r => r.wf
  | .linControllerRecord _ r => r.wf
  | .linFrameTableRecord _ r => r.wf
  | .linScheduleRecord _ r => r.wf
  | .senseInputsRecord _ r => r.wf
  | .satelliteBusRecord _ r => r.wf
  | .portRecord _ r => r.wf
  | .switchRecord _ r => r.wf
  | .switchPortRecord _ r => r.wf
  | .vlanBlockRecord _ r => r.wf
  | .staticEntriesRecord _ r => r.wf
  | .gateListRecord _ r => r.wf
  | .hostQueuesRecord _ r => r.wf
  | .timeRecord _ r => r.wf
  | .phasePlanRecord _ r => r.wf
  | .gptpPortRecord _ r => r.wf
  | .pulseOutputRecord _ r => r.wf
  | .lanePinRecord _ r => r.wf
  | .duplexRecord _ r => r.wf
  | .epochRecord _ r => r.wf
  | .openImageRecord _ r => r.wf
  | .energyPolicyRecord _ r => r.wf
  | .wakePinsRecord _ r => r.wf
  | .feedWatchRecord _ r => r.wf
  | .groupRecord _ r => r.wf
  | .remoteAccessRecord _ r => r.wf
  | .roamingRecord _ r => r.wf
  | .updatePolicyRecord _ r => r.wf
  | .compatibilityRecord _ r => r.wf
  | .faultPolicyRecord _ r => r.wf
  | .debugPolicyRecord _ r => r.wf
  | .sealedKeyStoreRecord _ r => r.wf
  | .partitionRecord _ r => r.wf
  | .gateBlockRecord _ r => r.wf
  | .assignmentBlockRecord _ r => r.wf
  | .sealedWorldRecord _ r => r.wf
  | .sealedCodeRecord _ r => r.wf
  | .regionBlockRecord _ r => r.wf
  | .routeBlockRecord _ r => r.wf
  | .controllerRecord _ r => r.wf
  | .softwareSettersRecord _ r => r.wf
  | .nibStart _ _ => true
  | .sealReady _ => true
  | .seal _ => true
  | .sealReadyTimeout _ => true
  | .switchDiePowerUp _ => true
  | .startEntry _ => true
  | .holdTimeEnd _ => true
  | .switchDiePowerDown _ => true
  | .limpPinChange _ _ => true
  | .undervoltageTurnOff _ _ => true
  | .undervoltageRestart _ => true
  | .overvoltageTurnOff _ _ => true
  | .overvoltageRestart _ => true
  | .settingMismatch _ _ => true
  | .settingMismatchClear _ => true
  | .feedReverse _ => true
  | .feedReverseEnd _ => true
  | .currentLimit _ _ => true
  | .overcurrentTrip _ _ => true
  | .junctionWarning _ _ _ => true
  | .thermalShutdown _ _ _ => true
  | .lampRetry _ _ => true
  | .warmWindowEnd _ _ => true
  | .openLoadOn _ _ _ => true
  | .offStateTest _ _ _ _ => true
  | .offStateTestComplete _ _ _ => true
  | .sensePathTest _ _ _ => true
  | .nvmTableCheck _ _ => true
  | .wireModelStep _ _ _ => true
  | .inductanceEstimate _ _ _ _ _ => true
  | .rampEnd _ _ => true
  | .failSafeTrip _ _ _ => true
  | .pwrRestart _ _ _ _ => true
  | .pwrOltest _ _ _ _ => true
  | .pwrCalcmdCapture _ _ _ _ _ _ => true
  | .pwrCalcmdCommit _ _ _ _ _ => true
  | .pwrCalcmdCancel _ _ _ _ _ => true
  | .pwrCalrefWrite _ _ _ _ => true
  | .dctlEnterTest _ _ _ _ => true
  | .dctlLeaveTest _ _ _ _ => true
  | .dctlEnterRecovery _ _ _ _ => true
  | .cyc _ _ _ => true
  | .svcent _ _ _ => true
  | .steer _ _ _ => true
  | .modeEnterTest _ _ _ => true
  | .modeLeaveTest _ _ _ => true
  | .modeEnterRecovery _ _ _ => true
  | .latch _ _ _ => true
  | .ramp _ _ _ => true
  | .restart _ _ _ => true
  | .oltest _ _ _ => true
  | .bdir _ _ _ => true
  | .calcmdCapture _ _ _ => true
  | .captureComplete _ _ _ => true
  | .calcmdCommit _ _ _ => true
  | .calcmdCancel _ _ _ => true
  | .calref _ _ _ => true
  | .tblstart _ _ _ => true
  | .tbldata _ _ _ => true
  | .tblend _ _ _ => true
  | .tableCommit _ => true
  | .nvmWriteComplete _ => true
  | .forceRelease _ _ _ => true
  | .forceOff _ _ _ => true
  | .forceOn _ _ _ => true
  | .forceTimeout _ _ => true
  | .testTimeout _ => true
  | .serialWatchdogExpiry _ => true
  | .serviceCycle _ _ _ sns_ meas => decide ((sns_.map (·.1)).Nodup) && decide ((meas.map (·.k)).Nodup)
  | .sns _ _ _ => true
  | .dstat _ _ _ => true
  | .evt _ _ _ => true
  | .ack _ _ _ => true
  | .ser _ _ _ => true
  | .tbldig _ _ _ => true
  | .mis _ _ _ => true
  | .tableAckTimeout _ _ => true
  | .inputLineEdge _ _ _ _ _ => true
  | .deferralEnd _ _ => true
  | .lineAbsent _ _ _ _ => true
  | .lineMismatch _ _ => true
  | .lineChangeTimeout _ _ => true
  | .linkSilence _ _ _ => true
  | .pwmPeriodStart _ _ _ => true
  | .nibWatchdogExpiry _ => true
  | .streamEntryArrival _ _ _ _ payload _ => decide (payload.length ≤ 2048)
  | .entryRelease _ _ receiving => decide ((receiving.map (·.1)).Nodup)
  | .sourceStall _ _ _ _ => true
  | .orderEntry _ _ => true
  | .orderEntryUnmatched _ _ => true
  | .localCopyDiscard _ _ _ _ => true
  | .twinLag _ _ _ => true
  | .clusterTick _ _ _ _ => true
  | .imemWrite _ _ _ _ _ => true
  | .nbcHaltNib _ _ _ _ _ => true
  | .nbcResumeNib _ _ _ _ _ => true
  | .nbcHaltAll _ _ _ _ => true
  | .nbcResumeAll _ _ _ _ => true
  | .nbcRequestBist _ _ _ _ => true
  | .reloadComplete _ _ => true
  | .rejoinComplete _ _ => true
  | .spareSubstitution _ _ _ => true
  | .clusterBist _ _ _ => true
  | .add _ _ _ => true
  | .sub _ _ _ => true
  | .opAnd _ _ _ => true
  | .opOr _ _ _ => true
  | .xor _ _ _ => true
  | .shl _ _ _ => true
  | .shr _ _ _ => true
  | .sar _ _ _ => true
  | .ror _ _ _ => true
  | .mul _ _ _ => true
  | .mulh _ _ _ => true
  | .mulhu _ _ _ => true
  | .min _ _ _ => true
  | .max _ _ _ => true
  | .minu _ _ _ => true
  | .maxu _ _ _ => true
  | .abs _ _ _ => true
  | .clz _ _ _ => true
  | .cmp _ _ _ => true
  | .tst _ _ _ => true
  | .addi _ _ _ => true
  | .subi _ _ _ => true
  | .andi _ _ _ => true
  | .ori _ _ _ => true
  | .xori _ _ _ => true
  | .cmpi _ _ _ => true
  | .lui _ _ _ => true
  | .shli _ _ _ => true
  | .shri _ _ _ => true
  | .sari _ _ _ => true
  | .rori _ _ _ => true
  | .sats _ _ _ => true
  | .satu _ _ _ => true
  | .rnd _ _ _ => true
  | .mac _ _ _ => true
  | .macu _ _ _ => true
  | .msu _ _ _ => true
  | .mula _ _ _ => true
  | .mulau _ _ _ => true
  | .mfal _ _ _ => true
  | .mfah _ _ _ => true
  | .mta _ _ _ => true
  | .aclr _ _ _ => true
  | .ext _ _ _ => true
  | .exts _ _ _ => true
  | .extb _ _ _ => true
  | .extbs _ _ _ => true
  | .ins _ _ _ => true
  | .insb _ _ _ => true
  | .extA _ _ _ => true
  | .extsA _ _ _ => true
  | .extbA _ _ _ => true
  | .extbsA _ _ _ => true
  | .insA _ _ _ => true
  | .insbA _ _ _ => true
  | .ldw _ _ _ => true
  | .ldh _ _ _ => true
  | .ldb _ _ _ => true
  | .stw _ _ _ => true
  | .sth _ _ _ => true
  | .stb _ _ _ => true
  | .br _ _ _ => true
  | .bal _ _ _ => true
  | .opLoop _ _ _ => true
  | .loopr _ _ _ => true
  | .trap _ _ _ => true
  | .nop _ _ _ => true
  | .eret _ _ _ => true
  | .wait _ _ _ => true
  | .sync _ _ _ => true
  | .mset _ _ _ => true
  | .mfs _ _ _ => true
  | .mts _ _ _ => true
  | .jr _ _ _ => true
  | .jalr _ _ _ => true
  | .dscLdU _ _ _ => true
  | .dscLdS _ _ _ => true
  | .dscLdP _ _ _ => true
  | .dscLdF _ _ _ => true
  | .sclI _ _ _ => true
  | .sclO _ _ _ => true
  | .dscStS _ _ _ => true
  | .dscStX _ _ _ => true
  | .dscStP _ _ _ => true
  | .dscStO _ _ _ => true
  | .mbxGet _ _ _ => true
  | .mbxPut _ _ _ => true
  | .snsGet _ _ _ => true
  | .tgetL _ _ _ => true
  | .tgetH _ _ _ => true
  | .ocmpLvl _ _ _ => true
  | .ocmpPwm _ _ _ => true
  | .crcStep _ _ _ => true
  | .shadowAgeingPass _ => true
  | .otailWrite _ _ _ _ => true
  | .outboundItem _ => true
  | .iheadWrite _ _ _ _ => true
  | .ecmdRead _ _ _ _ => true
  | .ecmdWrite _ _ _ _ _ _ => true
  | .invalidateOne _ _ _ _ => true
  | .invalidateAll _ _ _ => true
  | .invalidationComplete _ => true
  | .generationSweep _ _ => true
  | .mirrorScrubBlock _ _ => true
  | .signalStoreCopy _ => true
  | .signalStoreEccError _ _ _ => true
  | .tidxWrite _ _ _ => true
  | .canFrameReceive _ _ _ _ _ _ _ _ data _ => decide (data.length ≤ 2048)
  | .shadowFrameTimeout _ _ _ => true
  | .fieldBusSteerRequest _ _ _ _ => true
  | .selectorChange _ => true
  | .controllerSilent _ => true
  | .canFrameSent _ _ => true
  | .busOff _ => true
  | .busOffRecovery _ => true
  | .canWakePattern _ => true
  | .canRestart _ _ _ _ => true
  | .canStandby _ _ _ _ => true
  | .canNormal _ _ _ _ => true
  | .linRunRange _ _ _ _ _ _ => true
  | .linGoToSleep _ _ _ _ => true
  | .linSendWakeup _ _ _ _ => true
  | .linSlotStart _ => true
  | .linFrameReceive _ _ _ _ _ _ data _ => decide (data.length ≤ 9)
  | .linWake _ => true
  | .satelliteAccess _ _ _ _ _ _ _ => true
  | .satelliteBusGrant _ => true
  | .satelliteBusTimeout _ _ => true
  | .satelliteTransactionEnd _ data _ => decide (data.length ≤ 16)
  | .satelliteLockTimeout _ _ => true
  | .senseSample _ _ _ => true
  | .senseDebounceExpiry _ _ => true
  | .macFrameReceive _ _ bytes _ _ _ _ => decide (bytes.length < 65536)
  | .pauseReceive _ _ _ pfc _ times _ => decide (times.length = if pfc then 8 else 1)
  | .pauseExpiry _ _ _ => true
  | .pauseRepeat _ _ => true
  | .linkChange _ _ _ => true
  | .portSteerCommand _ _ _ _ => true
  | .portSelectorChange _ => true
  | .macSilent _ => true
  | .macTransmit _ _ _ _ => true
  | .transmitEcho _ _ _ _ => true
  | .echoTimeout _ _ => true
  | .collision _ _ _ => true
  | .forcedCollision _ _ => true
  | .beaconLoss _ => true
  | .beacon _ => true
  | .lpiEntry _ _ => true
  | .lpiWakeEnd _ _ => true
  | .eeewakeWrite _ _ _ _ => true
  | .verifyTimeout _ _ _ => true
  | .macRetrain _ _ _ _ => true
  | .macRepeatVerify _ _ _ _ => true
  | .frameReassembled _ _ => true
  | .bufferSkip _ _ _ => true
  | .reassemblyTimeout _ _ => true
  | .bufferReadmit _ _ => true
  | .fdbAgeingPass _ => true
  | .txtailWrite _ _ _ _ _ => true
  | .hostDescriptorRead _ _ _ => true
  | .pairPortFrame _ => true
  | .rxheadWrite _ _ _ _ _ => true
  | .hostQueueTimeout _ _ _ => true
  | .gateEntryChange _ _ => true
  | .feedEntry _ => true
  | .feedAck _ => true
  | .shadowFrameDiscard _ _ _ _ => true
  | .switchCoreFailover _ => true
  | .standbyRestart _ => true
  | .flushAll _ _ _ => true
  | .flushPort _ _ _ _ => true
  | .readmitBuffer _ _ _ _ => true
  | .fdbReadByKey _ _ => true
  | .fdbReadByIndex _ _ _ => true
  | .fdbWrite _ _ _ => true
  | .fdbDelete _ _ _ => true
  | .vlanRead _ _ _ => true
  | .vlanWrite _ _ _ _ => true
  | .syncReceive _ _ _ _ _ _ _ => true
  | .announceReceive _ _ _ _ => true
  | .pdelayExchange _ _ _ _ => true
  | .syncTransmit _ _ => true
  | .syncReceiptTimeout _ => true
  | .holdoverLimit _ => true
  | .stepProposal _ _ => true
  | .stepApply _ => true
  | .dieOffsetExchange _ _ => true
  | .rtcSet _ => true
  | .nowRead _ _ => true
  | .snap _ _ _ => true
  | .pulseArm _ _ _ _ => true
  | .periodlWrite _ _ _ _ => true
  | .pulseRise _ _ => true
  | .pulseFall _ _ => true
  | .lanePinMismatch _ => true
  | .egressTransaction _ _ _ => true
  | .stoppedCore _ _ _ => true
  | .lagStall _ _ _ => true
  | .slowCopy _ _ => true
  | .agree _ _ _ _ _ => true
  | .ckpt _ _ _ => true
  | .wgate _ _ _ _ => true
  | .wentry _ _ _ => true
  | .wret _ _ _ => true
  | .hgatpWrite _ _ _ _ => true
  | .eventDelivery _ _ _ => true
  | .wfiWake _ _ _ => true
  | .counterOverflow _ _ => true
  | .cacheEccError _ _ _ _ _ => true
  | .duplexStart _ _ => true
  | .epochEnd _ _ => true
  | .journalSend _ _ => true
  | .journalReceive _ _ _ _ => true
  | .sealAck _ _ => true
  | .sealWait _ _ => true
  | .spareLagTimeout _ _ => true
  | .logAck _ _ _ => true
  | .failover _ _ => true
  | .logExhausted _ _ => true
  | .dieLoss _ => true
  | .syncPass _ _ => true
  | .duplexBist _ _ _ => true
  | .bistInterval _ _ => true
  | .ckpRoleSwapPartition _ _ _ _ => true
  | .ckpRoleSwapDie _ _ _ _ => true
  | .ckpResync _ _ _ _ => true
  | .duxRunBist _ _ _ _ => true
  | .duxRetire _ _ _ _ => true
  | .wldResetAck _ _ _ _ => true
  | .wldRestart _ _ _ => true
  | .pinWrite _ _ _ _ _ => true
  | .sealedWatchdogExpiry _ _ => true
  | .sealedRestartReload codes0 codes1 => codes0.all (fun l => decide (l.length < 2 ^ 24)) && codes1.all (fun l => decide (l.length < 2 ^ 24))
  | .sealedStateNotice _ => true
  | .rgdRead _ _ _ _ _ => true
  | .rgdWrite _ _ _ _ _ _ => true
  | .sourceFire _ _ => true
  | .moderationTimeout _ _ => true
  | .claimM _ _ => true
  | .claimS _ _ => true
  | .claimV _ _ => true
  | .eoiM _ _ _ => true
  | .eoiS _ _ _ => true
  | .eoiV _ _ _ => true
  | .thresholdWrite _ _ _ _ => true
  | .softwareSet _ _ _ => true
  | .timerCompareWrite _ _ _ _ _ => true
  | .timerExpiry _ _ => true
  | .partnerEvcWrite _ => true
  | .laneDisagreement _ => true
  | .holderSilent _ => true
  | .supervisorTimeout => true
  | .regulatorFailure _ => true
  | .regulatorRestart _ _ => true
  | .rtcCrystalStop => true
  | .sleepDrowse _ _ _ _ _ _ => true
  | .sleepDormant _ _ _ _ _ _ => true
  | .sleepSentinel _ _ _ _ _ _ => true
  | .commitPoint _ _ _ _ => true
  | .sleepTimeout => true
  | .standbyRelease _ => true
  | .wakeFromDrowse _ => true
  | .wakeFromDormant _ => true
  | .wakeFromSentinel => true
  | .wakePinEdge _ _ => true
  | .rtcAlarm => true
  | .alarmWrite _ _ _ _ => true
  | .meterSample _ _ _ _ => true
  | .energyReport _ _ => true
  | .balanceFloor => true
  | .grant _ _ _ _ => true
  | .errandAdd _ _ _ _ _ => true
  | .errandCancel _ _ _ _ _ => true
  | .errandDone _ _ _ _ _ => true
  | .errandDue => true
  | .errandDeadline => true
  | .errandOverrun => true
  | .limitUpdate _ _ _ _ _ => true
  | .faultReport _ _ _ => true
  | .reportConfirmTimeout _ => true
  | .roleSwapRequest _ _ _ _ _ _ => true
  | .heartbeatSend _ => true
  | .heartbeat _ _ f => f.wf
  | .memberLoss _ _ => true
  | .viewSend _ => true
  | .view _ _ f => f.wf
  | .joinSend _ => true
  | .join _ _ f => f.wf
  | .admitModule _ _ f => f.wf
  | .isolation _ => true
  | .leave _ _ f => f.wf
  | .coordinatorTakeover _ => true
  | .slowClear _ _ => true
  | .reportSlot _ _ _ _ => true
  | .reportRetry _ _ _ _ => true
  | .report _ _ f => f.wf
  | .iamarAck _ _ f => f.wf
  | .ledgerClose _ _ => true
  | .zgpReport _ _ _ _ => true
  | .zgpLeave _ _ _ _ => true
  | .zgpRejoin _ _ _ _ => true
  | .zgpRelease _ _ _ _ _ => true
  | .publish _ _ _ _ _ => true
  | .roamstate _ _ f => f.wf
  | .roam _ _ f => f.wf
  | .roamingGrant _ _ _ _ => true
  | .remreq _ _ f => f.wf
  | .remoteAccess _ _ _ _ _ _ _ _ => true
  | .remrsp _ _ f => f.wf
  | .remoteTimeout _ _ => true
  | .remoteLockTimeout _ _ => true
  | .updManifest _ _ _ _ => true
  | .updStage _ _ _ _ => true
  | .updInstall _ _ _ _ => true
  | .updCutover _ _ _ _ => true
  | .updAbort _ _ _ _ => true
  | .updClear _ _ _ _ => true
  | .chunkSync _ => true
  | .prep1Complete => true
  | .prep1Timeout => true
  | .updateWrite _ _ => true
  | .boot1Timeout => true
  | .splitLimit => true
  | .cutoverCommit => true
  | .cutoverLimit => true
  | .updateRequest _ => true
  | .update _ _ f => f.wf
  | .grantLapse _ => true
  | .summaryWrite _ _ => true
  | .faultAssert _ _ _ => true
  | .faultRelease _ _ _ => true
  | .blotterRead _ _ _ => true
  | .blotterRelease _ _ _ => true
  | .dump _ _ _ => true
  | .clearsum _ _ _ => true
  | .scrubPass _ _ => true
  | .sramRowRemap _ _ _ _ _ => true
  | .dramRowRepair _ _ _ => true
  | .dramEccError _ _ _ _ => true
  | .fatalFailure _ _ => true
  | .managementWatchdogExpiry _ => true
  | .dumpComplete _ => true
  | .blotterCopy _ => true
  | .katStep _ _ => true
  | .dieGlitch _ => true
  | .cisternGlitch => true
  | .drbgHealthFail _ => true
  | .challenge _ _ _ => true
  | .unlock _ _ _ _ => true
  | .unlockVerified _ => true
  | .challengeExpiry _ => true
  | .zeroise _ => true
  | .measurementRead _ _ => true
  | .secRandom _ _ => true
  | .secKeygen _ _ => true
  | .secLoad _ _ => true
  | .secSave _ _ => true
  | .secGcmEncrypt _ _ => true
  | .secGcmDecrypt _ _ => true
  | .secSign _ _ => true
  | .secAttest _ _ => true
  | .secClearSlot _ _ => true
  | .secSha384 _ _ => true
  | .secOperationComplete _ => true
  | .vauxOverload => true
  | .vauxRetry _ => true
  | .pairLinkUp => true
  | .linkOutOfStep _ _ => true
  | .upstreamFramesAbsent _ _ _ => true
  | .laneLevelApply _ _ => true
  | .msql _ _ _ => true
  | .msqh _ _ _ => true
  | .vout _ _ _ => true
  | .voutb _ _ _ => true
  | .tj _ _ _ => true
  | .chst _ _ _ => true
  | .feed _ _ _ => true
  | .tsub _ _ _ => true
  | .canIntegrated _ _ => true
  | .receiveLpi _ _ _ => true
  | .signalingReceive _ _ _ _ _ _ _ => true
  | .announceReceiptTimeout _ _ => true
  | .applicationCoreInstruction _ _ _ _ => true
  | .partitionResetHeld _ _ => true

end Sys2Proof
end

