-- ==== Sys2Proof/Tests/Slice0.lean ====
section
/-! SUPPORT. Tests: ill-formed commands that the check refuses, examples of the spec, and for every statement of
Certificates/Slice0/Obligations.lean that has hypotheses a concrete state and operands that meet them. -/

set_option linter.all false
set_option maxRecDepth 4000

namespace Sys2Proof.Tests
set_option Elab.async false

open Sys2Proof.Machine

/-! ### Small states -/

/-- A Q-die that runs. -/
def awake : DieKeep := { DieKeep.powerOn with run := .running }
/-- Both dies run and have sealed, with the pair link up on 8 lanes. -/
def live : State :=
  let b : BootSt := { romOk := true, loaderOk := true }
  let s := { State.reset with keep := ⟨awake, awake⟩, vol := ⟨{ boot := b }, { boot := b }⟩ }
  ((s.setF 0 UPD_DSTAT UPD_DSTAT__STATE 4).setF 1 UPD_DSTAT UPD_DSTAT__STATE 4).setF 0 ISL_PLSTAT ISL_PLSTAT__STATE 3
/-- Both dies in a state of the structure loader. -/
def withDstate (n : Nat) : State :=
  (live.setF 0 UPD_DSTAT UPD_DSTAT__STATE n).setF 1 UPD_DSTAT UPD_DSTAT__STATE n
/-- A valid image found by a verification. -/
def verified : VerResult := ⟨0, 0, 0, 0, 0, 0, 0, 0, false⟩
/-- A switch die in service. -/
def sdAt (i : Nat) (f : SwitchDie → SwitchDie) : State :=
  live.updSd i (fun x => f { x with powered := true, started := true, feedOk := true, mode := .service })
/-- A channel of a switch die in service. -/
def chAt (i k : Nat) (f : Chan → Chan) : State := (sdAt i (fun x => x)).updChan i k f
/-- Cluster 0 in authority on Q-die 0 and in shadow on Q-die 1, with a change on each. -/
def clAt (f g : Cluster → Cluster) : State :=
  (((live.setF 0 (NBC_nSTAT 0) NBC_nSTAT__STATE 3).setF 1 (NBC_nSTAT 0) NBC_nSTAT__STATE 4).updCl 0 0 f).updCl 1 0 g
/-- Nib 0 of cluster 0 of Q-die 0 at a word at address 0x100. -/
def nibAt (w : Word) (f : Nib → Nib) : State :=
  ((clAt (fun x => x) (fun x => x)).updNib ⟨0, 0, 0⟩ (fun x => f { x with run := .running, prog := .record, pc := 0x100 })).putBytes 0
    0x40000100 (toLE 4 w.toNat)
/-- Partition 1 at home on duplex 0 of Q-die 0, which runs it, with duplex 1 of Q-die 1 as spare; partition 1 in state `st`. -/
def duxAt (st : Nat) (f : DuxSt → DuxSt) : State :=
  let s := ((live.setF 0 (DUX_dSTAT 0) DUX_dSTAT__STATE 1).setF 0 (DUX_dSTAT 0) DUX_dSTAT__ROLE 1).setF 0 (DUX_dSTAT 0) DUX_dSTAT__PVALID 1
  let s := ((s.setF 0 (DUX_dSTAT 0) DUX_dSTAT__PART 1).setF 1 (DUX_dSTAT 1) DUX_dSTAT__ROLE 2).setF 1 (DUX_dSTAT 1) DUX_dSTAT__SERVES 0
  let s := ((s.setF 0 (CKP_pSTAT 1) CKP_pSTAT__STATE st).setF 1 (CKP_pSTAT 1) CKP_pSTAT__STATE st).setF 0 (WLD_pCFG 1) WLD_pCFG__DEFINED 1
  s.updDux 0 0 f
/-- Both cores of duplex 0 running. -/
def coresAt (f : AppCore → AppCore) : State :=
  duxAt 3 (fun u => { u with cores := ⟨f { run := true }, f { run := true }⟩ })
/-- A journal of partition 1. -/
def aJournal : Journal := { part := 1, die := 0, dux := 0, epoch := 1, endCount := 0, logPos := 0, nextSeq := 0, state := {} }
/-- A module with ID 5 in a zone group of which it is a member, in state `st`. -/
def zgAt (st : Nat) (f : ZgSt → ZgSt) : State :=
  let s := ((live.setF 0 ZGP_CFG ZGP_CFG__USED 1).setF 0 ZGP_CFG ZGP_CFG__ELIG 1).setF 0 UPD_DMODID UPD_DMODID__IDVALID 1
  let s := ((s.setF 0 UPD_DMODID UPD_DMODID__MODID 5).setF 0 ZGP_STAT ZGP_STAT__STATE st).wr 0 (ZGP_MEMw 0) 0x60#32
  s.updZg 0 (fun z => f { z with mask := 1 })
/-- The update in a phase, on both dies. -/
def updAt (ph : Nat) : State := (live.setF 0 UPD_STAT UPD_STAT__PHASE ph).setF 1 UPD_STAT UPD_STAT__PHASE ph
/-- Group time of both dies at 10^14 ns. -/
def later (s : State) : State := { s with now := ⟨10 ^ 14 * 2 ^ 32, 10 ^ 14 * 2 ^ 32⟩ }
/-- A record as the next one that the loader of a die has to judge. -/
def atRec (s : State) (d : Die) (r : Rec) : State := s.setTodoList d [r]
/-- A record of a type for a target (block ID · 65536 + instance) with a body of `n` bytes, zeros after those given. -/
def recOf (typ target n : Nat) (body : List Nat) : Rec :=
  ⟨0, BitVec.ofNat 16 typ, 0, BitVec.ofNat 32 target, 1,
    body.map (fun x => BitVec.ofNat 8 x) ++ List.replicate (n - body.length) 0⟩
/-- A state with region 0 of guard `g` of Q-die 0 set. -/
def regionAt (s : State) (g base limit ctl part : Nat) : State :=
  (((s.wr 0 (RGD_g_rBASE g 0) (BitVec.ofNat 32 base)).wr 0 (RGD_g_rLIMIT g 0) (BitVec.ofNat 32 limit)).wr 0
    (RGD_g_rCTL g 0) (BitVec.ofNat 32 ctl)).wr 0 (RGD_g_rPART g 0) (BitVec.ofNat 32 part)
/-- A zone frame of a type from module 6 of group 0, with a body of `n` bytes, zeros after those given. -/
def zgOf (typ n : Nat) (body : List Nat) : ZgFrame :=
  ⟨6, 1, BitVec.ofNat 8 typ, 6, 0, 0, BitVec.ofNat 16 n, 0, 0,
    body.map (fun x => BitVec.ofNat 8 x) ++ List.replicate (n - body.length) 0⟩
/-- A state in which neither copy of the update journal of a die is valid. -/
def noJournal (s : State) (d : Die) : State :=
  (s.putBytes d (journalBase 0) [0, 0, 0, 0]).putBytes d (journalBase 1) [0, 0, 0, 0]
/-- A state whose update journal on a die shows a phase. -/
def journalAt (s : State) (d : Die) (ph : Nat) : State :=
  (noJournal s d).putBytes d (journalBase 0) ({ phase := ph } : UpdJournal).bytes

/-! ### Ill-formed commands -/

/-- One command for each check of WellFormed, which refuses it. -/
theorem test_ill_formed_refused :
    (Instr.partnerWindowRead 0 (.mgmt 0) 2 4 false).wf = false ∧ (Instr.partnerWindowRead 0 (.mgmt 0) 0 3 false).wf = false ∧
    (Instr.mirroredWrite 0 (.mgmt 0) .fdb 0 [0]).wf = false ∧
    (Instr.serviceCycle 0 0 0 [(1, 0), (1, 0)] []).wf = false ∧
    (Instr.streamEntryArrival 0 0 0 0 (List.replicate 2049 0) false).wf = false ∧
    (Instr.entryRelease 0 0 [(1, 0), (1, 0)]).wf = false ∧
    (Instr.canFrameReceive 0 0 false true false 0 0 0 (List.replicate 2049 0) 0).wf = false ∧
    (Instr.linFrameReceive 0 0 false false true 0 (List.replicate 10 0) 0).wf = false ∧
    (Instr.satelliteTransactionEnd 0 (List.replicate 17 0) 0).wf = false ∧
    (Instr.pauseReceive 0 0 0 true 0 [0] 0).wf = false ∧
    (Instr.islandClockRecord 0 (recOf 0x0C01 0x020001 7 [])).wf = false ∧
    (Instr.heartbeat 0 0 { zgOf 1 16 [] with len := 15 }).wf = false := by
  decide +kernel

/-- An Ethernet frame of 65536 bytes is ill formed. -/
theorem test_long_frame_refused (l : List Byte) (h : l.length = 65536) : (Instr.macFrameReceive 0 0 l false false 0 0).wf = false :=
  show decide (l.length < 65536) = false from decide_eq_false (by omega)

/-- A sealed code of 2^24 bytes is ill formed. -/
theorem test_long_code_refused (l : List Byte) (h : l.length = 2 ^ 24) : (Instr.sealedRestartReload [l] []).wf = false :=
  show ((decide (l.length < 2 ^ 24) && true) && true) = false from by rw [decide_eq_false (by omega)]; rfl

/-! ### Examples of the spec -/

/-- The island record of the example in 02_ductus.md, and its 24 bytes. -/
theorem test_island_record_bytes :
    recBytes ⟨0, 0x0C01, 0x8001, 0x00020002, 0x10, [8, 7, 0, 0, 0, 0, 0, 0]⟩ =
      [0x01, 0x0C, 0x01, 0x80, 8, 0, 0, 0, 2, 0, 2, 0, 0x10, 0, 0, 0, 8, 7, 0, 0, 0, 0, 0, 0] := by
  decide +kernel

/-- The register addresses of the example in 01_module_anatomy.md: MAC of P5, PWR of switch die 11. -/
theorem test_register_addresses : MAC_CFG 5 / 0x1000 * 0x1000 = 0xC5000 ∧ PWR_DSTAT 11 / 0x800 * 0x800 = 0x105800 := by
  decide +kernel

/-- A frame of R174: SVCENT-like type 5 on channel 3 with data 0x1234. -/
theorem test_serial_frame_fields :
    frameType (mkFrame 5 3 0x1234) = 5 ∧ frameCh (mkFrame 5 3 0x1234) = 3 ∧ frameData (mkFrame 5 3 0x1234) = 0x1234 := by
  decide +kernel

/-- EXTB w4, w5, 3, 12 of the example in 07_nib_instruction_set.md leaves w4 = 0xAC5. -/
theorem test_extb_example :
    (match exec (.extb ⟨0, 0, 0⟩ 0x111432C2#32 .clean) (nibAt 0x111432C2#32 (fun x => x.setReg 5 0x007FC53A#32)) with
     | .next t => (t.nib ⟨0, 0, 0⟩).reg 4
     | _ => 0#32) = 0xAC5#32 := by
  decide +kernel

/-- The word of OCMP.PWM w4, w5, w6 of the same chapter, bit by bit. -/
theorem test_ocmp_word :
    (opTio 0x11 true).isOp 0x89158110#32 = true ∧ wRd 0x89158110#32 = 4 ∧ wRs 0x89158110#32 = 5 ∧ wRt 0x89158110#32 = 6 := by
  decide +kernel

/-- A misaligned word load raises cause 2 with the address in EADDR and enters the handler at VBASE + 2 × 16 (example of
06_nib_engines.md). -/
theorem test_misaligned_load_raises :
    (match exec (.ldw ⟨0, 0, 0⟩ 0x40480000#32 .clean)
        (nibAt 0x40480000#32 (fun x => { x.setReg 2 0x132#32 with vbase := 0x1E00 })) with
     | .next t => (fun x : Nib => (x.ecause % 64, x.eaddr.toNat, x.epc, x.pc, x.mode)) (t.nib ⟨0, 0, 0⟩)
     | _ => (0, 0, 0, 0, false)) = (2, 0x132, 0x100, 0x1E20, true) := by
  decide +kernel

/-- The channel record of the example in 04_power_stage.md gives PWR_CH2CFG of instance 11. -/
theorem test_channel_record_example :
    (let r := recOf 0x0201 0x0E000B 24 [2, 0, 2, 2, 240, 0, 95, 3, 50, 0, 100, 0]
     match exec (.channelRecord 0 r) (atRec (withDstate 2) 0 r) with
     | .next t => t.rd 0 (PWR_CHkCFG 11 2)
     | _ => 0#32) = 0x00F02214#32 := by
  decide +kernel

/-- The nominal bit timing of the example in 09_field_buses_and_sense.md obeys the rules of its register. -/
theorem test_can_timing_example : nbtOk 0x004F9F7E#32 = true := by
  decide +kernel

/-! ### States that meet the hypotheses of the statements -/

theorem witness_StepRunsFrontCommand :
    ({ live with pending := [.resetNAssert, .retrainComplete] } : State).pending = .resetNAssert :: [.retrainComplete] := by
  decide +kernel

/-- Both dies running, and both held in reset. -/
theorem witness_EmptyQueueTicks :
    (live.pending = [] ∧ live.alive 0 = true) ∧ (State.reset.pending = [] ∧ State.reset.alive 0 = false) := by
  decide +kernel

/-- A register with rw bits, one with w1c bits, an initiator that may not write, one with lk bits before and after the seal, and undefined OPs. -/
theorem witness_RegisterWriteBits :
    (live.alive 0 = true ∧ ((regDef? (CIS_NOTE 0)).any (fun r => bitOf r.rw 5 && !bitOf r.w1c 5) = true ∧
      arrIdx (TIM_PkPERIODH 0) 0x20 4 (CIS_NOTE 0) = none ∧ live.mayWrite 0 (.mgmt 0) (CIS_NOTE 0) = true)) ∧
    ((regDef? CIS_EVT).any (fun r => (List.range 32).any (fun b => bitOf r.w1c b && !bitOf r.rw b) &&
        (List.range 32).any (fun b => !bitOf r.w1c b && !bitOf r.rw b)) = true ∧
      arrIdx (TIM_PkPERIODH 0) 0x20 4 CIS_EVT = none ∧ live.mayWrite 0 (.mgmt 0) CIS_EVT = true) ∧
    ((regDef? CIS_EVT).isSome = true ∧ live.mayWrite 0 (.part 1) CIS_EVT = false) ∧
    ((regDef? (WLD_pCFG 1)).any (fun r => bitOf r.lk 0) = true ∧ (withDstate 2).isSealed 0 = false ∧ live.isSealed 0 = true) ∧
    ((regDef? SGW_ECMD).isSome = true ∧ live.fld 0 SGW_ERES SGW_ERES__STATE ≠ 1 ∧ SGW_ECMD__OP.get 0#32 = 0 ∧
      (regDef? SWC_FCMD).isSome = true ∧ live.fld 0 SWC_FRES SWC_FRES__STATE ≠ 1 ∧ SWC_FCMD__OP.get 0#32 = 0) ∧
    ((live.zg (live.holder 8)).waits = [] ∧ (regDef? RGD_CMD).isSome = true ∧ RGD_CMD__OP.get (RGD_CMD__CONFIRM.set 0#32 0xA7) = 0 ∧
      RGD_CMD__CONFIRM.get (RGD_CMD__CONFIRM.set 0#32 0xA7) = 0xA7) := by
  decide +kernel

theorem witness_LowWordReadLatches : live.alive 0 = true ∧ isLow64 CIS_RTCL = true ∧ CIS_RTCL < 2 ^ 21 := by
  decide +kernel

/-- A table whose channels 0, 1 and 2 have an ON entry, a LIMP entry and an OFF entry; and no table. -/
theorem witness_HoldTimeEndSetsFailSafe :
    (let s := sdAt 10 (fun x => { x with
        holding := true, mode := .start, live := List.replicate 17 0 ++ [1, 0, 0, 0, 0, 0, 0, 0, 2, 0x80, 0, 0, 0, 0, 0, 0, 0] })
     let x := s.sd 10
     (x.started && x.holding && decide (x.mode = .start) && !x.standby && decide (2 < sdChans 10) && decide (x.action 0 = 1) &&
       decide (x.action 1 = 2) && decide (x.action 2 = 0)) = true) ∧
    (let x := (sdAt 0 (fun x => { x with holding := true, mode := .start })).sd 0
     (x.started && x.holding && decide (x.mode = .start) && !x.standby && decide (x.live = [])) = true) := by
  constructor <;> decide +kernel

/-- A nib that is halted, one at another word, one at a word of another instruction. -/
theorem witness_StoppedNibExecutesNothing :
    (nibForm (.add ⟨0, 0, 0⟩ 0x04000000#32 .clean) = some ⟨⟨0, 0, 0⟩, 0x04000000#32, .clean, aluRR 0, .plain⟩ ∧
      ((nibAt 0x04000000#32 (fun x => { x with run := .haltedCmd })).nib ⟨0, 0, 0⟩).prog ≠ .gateway ∧
      ¬ (nibAt 0x04000000#32 (fun x => { x with run := .haltedCmd })).nibRuns ⟨0, 0, 0⟩) ∧
    (¬ (nibAt 0x04000010#32 (fun x => x)).fetches ⟨0, 0, 0⟩ 0x04000000#32) ∧
    (¬ (aluRR 0).isOp 0x04000010#32 ∧ nibKnown 0x04000010#32) := by
  refine ⟨⟨rfl, ?_, ?_⟩, ?_, ?_⟩ <;> decide +kernel

/-- The conditions that the clauses on the causes share: the nib is not the gateway nib, runs, stands at the word, and the word is the
instruction or none of the set. -/
def stands (s : State) (w : Word) (op : NibOp) : Bool :=
  decide ((s.nib ⟨0, 0, 0⟩).prog ≠ .gateway) && s.nibRuns ⟨0, 0, 0⟩ && s.fetches ⟨0, 0, 0⟩ w && (op.isOp w || !nibKnown w)

theorem witness_NibCausesBeforeEffect :
    (nibForm (.add ⟨0, 0, 0⟩ 0x04000000#32 .badFetch) = some ⟨⟨0, 0, 0⟩, 0x04000000#32, .badFetch, aluRR 0, .plain⟩ ∧
      stands (nibAt 0x04000000#32 (fun x => x)) 0x04000000#32 (aluRR 0) = true) ∧
    -- an undefined word; a word with an unused field not 0; a branch in a slot; a control instruction in the shadow of MSET
    (stands (nibAt 0#32 (fun x => x)) 0#32 (aluRR 0) = true ∧ (aluRR 0).isOp 0#32 = false) ∧
    (stands (nibAt 0x04000008#32 (fun x => x)) 0x04000008#32 (aluRR 0) = true ∧ (aluRR 0).isOp 0x04000008#32 = true ∧
      (aluRR 0).clean 0x04000008#32 = false) ∧
    (nibForm (.bal ⟨0, 0, 0⟩ 0x64000005#32 .clean) = some ⟨⟨0, 0, 0⟩, 0x64000005#32, .clean, opBal, .branch⟩ ∧
      stands (nibAt 0x64000005#32 (fun x => { x with slotOf := some ⟨0xFC, none⟩ })) 0x64000005#32 opBal = true) ∧
    (stands (nibAt 0x64000005#32 (fun x => { x with mset := some ⟨0xFC, false, false, true⟩ })) 0x64000005#32 opBal = true ∧
      ((nibAt 0x64000005#32 (fun x => { x with mset := some ⟨0xFC, false, false, true⟩ })).nib ⟨0, 0, 0⟩).mset.isSome = true) ∧
    -- BAL, JR, TRAP and WAIT at the end of a loop
    (stands (nibAt 0x64000005#32 (fun x => { x with lc0 := 2, le0 := 0x104 })) 0x64000005#32 opBal = true ∧
      opBal.clean 0x64000005#32 = true ∧
      (((nibAt 0x64000005#32 (fun x => { x with lc0 := 2, le0 := 0x104 })).nib ⟨0, 0, 0⟩).loopForm .branch) = some 0x104) ∧
    (nibForm (.jr ⟨0, 0, 0⟩ 0x74000100#32 .clean) = some ⟨⟨0, 0, 0⟩, 0x74000100#32, .clean, opSys 0x10 false true false 0, .branch⟩ ∧
      stands (nibAt 0x74000100#32 (fun x => { x with lc0 := 2, le0 := 0x104 })) 0x74000100#32 (opSys 0x10 false true false 0) = true ∧
      (opSys 0x10 false true false 0).clean 0x74000100#32 = true) ∧
    (nibForm (.trap ⟨0, 0, 0⟩ 0x70000005#32 .clean) = some ⟨⟨0, 0, 0⟩, 0x70000005#32, .clean, opTrap, .special⟩ ∧
      stands (nibAt 0x70000005#32 (fun x => { x with lc1 := 2, le1 := 0x100 })) 0x70000005#32 opTrap = true ∧
      opTrap.clean 0x70000005#32 = true ∧
      (((nibAt 0x70000005#32 (fun x => { x with lc1 := 2, le1 := 0x100 })).nib ⟨0, 0, 0⟩).loopForm .special) = some 0x100) ∧
    (nibForm (.wait ⟨0, 0, 0⟩ 0x74000020#32 .clean) = some ⟨⟨0, 0, 0⟩, 0x74000020#32, .clean, opSys 2 false false false 0, .special⟩ ∧
      stands (nibAt 0x74000020#32 (fun x => { x with lc0 := 2, le0 := 0x100 })) 0x74000020#32 (opSys 2 false false false 0) = true ∧
      (opSys 2 false false false 0).clean 0x74000020#32 = true) := by
  refine ⟨⟨rfl, ?_⟩, ⟨?_, ?_⟩, ⟨?_, ?_, ?_⟩, ⟨rfl, ?_⟩, ⟨?_, ?_⟩, ⟨?_, ?_, ?_⟩, ⟨rfl, ?_, ?_⟩, ⟨rfl, ?_, ?_, ?_⟩, ⟨rfl, ?_, ?_⟩⟩ <;>
    decide +kernel

/-- ADD in its place, with its result to w1. -/
theorem witness_NibComputationFrame :
    nibForm (.add ⟨0, 0, 0⟩ 0x0440C000#32 .clean) = some ⟨⟨0, 0, 0⟩, 0x0440C000#32, .clean, aluRR 0, .plain⟩ ∧
    (nibWrites (.add ⟨0, 0, 0⟩ 0x0440C000#32 .clean)).any (fun c => decide c.legal) = true ∧
    (let s := nibAt 0x0440C000#32 (fun x => x)
     (s.nibMeets ⟨0, 0, 0⟩ 0x0440C000#32 (aluRR 0) .plain && decide ((s.nib ⟨0, 0, 0⟩).seqPc ≤ 0x1FFC) &&
       !(s.nib ⟨0, 0, 0⟩).wdogHit) = true) := by
  refine ⟨rfl, ?_, ?_⟩ <;> decide +kernel

/-- The same instruction at 0x1FFC. -/
theorem witness_NibPastEndOfImem :
    (let s := (nibAt 0x0440C000#32 (fun x => x)).updNib ⟨0, 0, 0⟩ (fun x => { x with pc := 0x1FFC })
     let s := s.putBytes 0 0x40001FFC (toLE 4 0x0440C000)
     (s.nibMeets ⟨0, 0, 0⟩ 0x0440C000#32 (aluRR 0) .plain && decide (0x1FFC < (s.nib ⟨0, 0, 0⟩).seqPc)) = true) := by
  decide +kernel

/-- STW to DMEM, and to the staging buffer. -/
theorem witness_NibStoreFrame :
    nibStoreForm (.stw ⟨0, 0, 0⟩ 0x50480008#32 .clean) = some ⟨⟨0, 0, 0⟩, 0x50480008#32, .clean, 0x14, 4⟩ ∧
    (let s := nibAt 0x50480008#32 (fun x => x)
     let x := s.nib ⟨0, 0, 0⟩
     (s.nibMeets ⟨0, 0, 0⟩ 0x50480008#32 (opImm 0x14) .plain && decide (x.seqPc ≤ 0x1FFC) && !x.wdogHit &&
       decide (nibAddr x 0x50480008#32 % 4 = 0) && (s.nibStore ⟨0, 0, 0⟩ (nibAddr x 0x50480008#32) 4 (x.reg 1).toNat).1.isSome &&
       (nibByte ⟨0, 0, 0⟩ (nibAddr x 0x50480008#32)).isSome) = true) ∧
    (let s := nibAt 0x50480008#32 (fun x => x.setReg 2 0xC0001000#32)
     let x := s.nib ⟨0, 0, 0⟩
     ((s.nibStore ⟨0, 0, 0⟩ (nibAddr x 0x50480008#32) 4 (x.reg 1).toNat).1.isSome &&
       (nibByte ⟨0, 0, 0⟩ (nibAddr x 0x50480008#32)).isNone) = true) := by
  refine ⟨rfl, ?_, ?_⟩ <;> decide +kernel

/-- A die that is not loading; another type; a bad header, critical and not; a record for the other die. -/
theorem witness_RecordsFailAlike :
    (recordForm (.feedRecord 0 (recOf 0x0202 0x0E0000 8 [1])) = some ⟨0, recOf 0x0202 0x0E0000 8 [1], false, 0x0202⟩ ∧
      live.loading 0 (recOf 0x0202 0x0E0000 8 [1]) = false ∧ (recOf 0x0201 0x0E0000 8 [1]).typ.toNat ≠ 0x0202) ∧
    ((let r := recOf 0x0202 0x0F0000 8 [1]
      (atRec (withDstate 2) 0 r).loading 0 r && decide (r.typ.toNat = 0x0202) && !r.headerOk false && r.critical) = true) ∧
    ((let r := { recOf 0x0901 0x030000 8 [1, 0, 0xFF] with flags := 0x10 }
      (atRec (withDstate 2) 0 r).loading 0 r && decide (r.typ.toNat = 0x0901) && !r.headerOk true && !r.critical) = true) ∧
    (recordForm (.duplexRecord 0 { recOf 0x0901 0x030000 8 [1, 0, 0xFF] with flags := 4 }) =
        some ⟨0, { recOf 0x0901 0x030000 8 [1, 0, 0xFF] with flags := 4 }, true, 0x0901⟩ ∧
      (let r := { recOf 0x0901 0x030000 8 [1, 0, 0xFF] with flags := 4 }
       (atRec (withDstate 2) 0 r).loading 0 r && r.headerOk true && !r.forDie 0) = true) := by
  refine ⟨⟨rfl, ?_, ?_⟩, ?_, ?_, ⟨rfl, ?_⟩⟩ <;> decide +kernel

theorem witness_TokensAtModuleReset : live.cis.powered = true := by
  decide +kernel

/-- The largest type, channel and data, and a frame that is found good. -/
theorem witness_SerialFrameRoundTrip : (31 < 32 ∧ 7 < 8 ∧ 0xFFFF < 2 ^ 16) ∧ frameOk (mkFrame 31 7 0xFFFF) = true := by
  decide +kernel

/-- Two records in order, and the walk over their bytes. -/
theorem witness_RecordWalkRoundTrip :
    let l : List Rec := [recOf 0x0202 0x0E0000 8 [1], { recOf 0x0C01 0x020001 16 [2] with index := 1 }]
    (l[0]?.all (fun r => decide (r.index = 0 ∧ r.body.length % 8 = 0)) && l[1]?.all (fun r => decide (r.index = 1 ∧ r.body.length % 8 = 0)) &&
      decide (walkRecs 2 0 (l.flatMap recBytes) = some l)) = true := by
  decide +kernel

theorem witness_StepKeepsCanonicalStorage : State.reset.regsWf = true ∧ Memory.wf live.mem = true := by
  decide +kernel

/-- States and operands for the clauses of AccessesComplete that have hypotheses. -/
theorem witness_AccessesComplete :
  -- registerWrite
  (∃ (s : State) (d : Die) (who : Initiator) (off : BitVec 21) (v : Word), (
      decide (s.alive d) &&
      decide (¬ ((regDef? off.toNat).isNone)) &&
      decide (¬ (selfPage off.toNat && !who.isCore)) : Bool) = true) ∧
  -- lowWordReadLatch
  (∃ (s : State) (d : Die) (who : Initiator) (off : BitVec 21), (
      decide (s.alive d) : Bool) = true) ∧
  -- partnerWindowRead
  (∃ (s : State) (d : Die) (who : Initiator) (addr : BitVec 35) (n : Fin 9) (late : Bool), (
      decide (s.alive d) : Bool) = true) ∧
  -- rillTransfer
  (∃ (s : State) (d : Die) (src : Fin 18) (dst : Fin 18) (payload : BitVec 64) (bad : Bool) (badAgain : Bool), (
      decide (s.alive d) &&
      decide (src ≠ dst) : Bool) = true) ∧
  -- flitReceive
  (∃ (s : State) (d : Die) (lane : Fin 8) (crcOk : Bool), (
      decide (s.linkUp) &&
      decide (¬ s.retraining) &&
      decide (bitOf (s.fld d ISL_PLSTAT ISL_PLSTAT__LANEOK) lane.val) : Bool) = true) ∧
  -- flitReplay
  (∃ (s : State) (d : Die), (
      decide (s.linkUp) &&
      decide (¬ s.retraining) &&
      decide ((s.link.get d).replay) : Bool) = true) ∧
  -- pairLinkRetrain
  (∃ (s : State) (high : Bool), (
      decide ((s.linkUp && !s.retraining) || s.training) : Bool) = true) ∧
  -- retrainComplete
  (∃ (s : State), (
      decide (s.retraining) : Bool) = true) ∧
  -- pairLinkLoss
  (∃ (s : State), (
      decide (s.linkUp) : Bool) = true) ∧
  -- mirroredWrite
  (∃ (s : State) (d : Die) (who : Initiator) (port : MirrorPort) (index : BitVec 24) (value : List Word), (
      decide (s.alive d) : Bool) = true) ∧
  -- mirroredWriteComplete
  (∃ (s : State) (d : Die), (
      (match (s.vol.get d).mirror with
        | _ :: _ => true
        | _ => false) : Bool) = true) ∧
  -- pairLinkUp
  (∃ (s : State), (
      decide (s.training) : Bool) = true) :=
  ⟨⟨live, 0, .mgmt 0, 0, 0, by decide +kernel⟩,
   ⟨live, 0, .mgmt 0, BitVec.ofNat 21 CIS_RTCL, by decide +kernel⟩,
   ⟨live, 0, .mgmt 0, 0, 0, false, by decide +kernel⟩,
   ⟨live, 0, 0, 1, 0, false, false, by decide +kernel⟩,
   ⟨{ live.setF 0 ISL_PLSTAT ISL_PLSTAT__LANEOK 255 with link := ⟨{}, { waiting := [⟨0, .notice 1 2, []⟩] }⟩ }, 0, 0, false, by decide +kernel⟩,
   ⟨{ live with link := ⟨{ replay := true }, {}⟩ }, 0, by decide +kernel⟩,
   ⟨live, false, by decide +kernel⟩,
   ⟨(live.setF 0 ISL_PLSTAT ISL_PLSTAT__STATE 1).setF 0 ISL_PLSTAT ISL_PLSTAT__LANEOK 15, by decide +kernel⟩,
   ⟨live, by decide +kernel⟩,
   ⟨live, 0, .mgmt 0, .fdb, 5, [0, 0x10000, 0, 0], by decide +kernel⟩,
   ⟨live.updVol 0 (fun v => { v with mirror := [⟨.fdb, 5, [0, 0, 0, 0], true, false, false⟩] }), 0, by decide +kernel⟩,
   ⟨(live.setF 0 ISL_PLSTAT ISL_PLSTAT__STATE 1).setF 1 ISL_PLSTAT ISL_PLSTAT__STATE 1, by decide +kernel⟩⟩

/-- States and operands for the clauses of ResetsComplete that have hypotheses. -/
theorem witness_ResetsComplete :
  -- brownOut
  (∃ (s : State), (
      decide (s.cis.powered) : Bool) = true) ∧
  -- nibClusterReset
  (∃ (s : State) (d : Die) (c : Fin 8) (cause : ClusterCause), (
      decide (s.alive d) : Bool) = true) ∧
  -- switchDieReset
  (∃ (s : State) (sd : Fin 19) (cause : SwitchCause), (
      decide ((s.sd sd.val).powered) : Bool) = true) ∧
  -- rstreqModule
  (∃ (s : State) (d : Die) (who : Initiator) (confirm : BitVec 16), (
      (match reqCode who with
        | some _ =>
          decide (s.alive d) &&
          decide (confirm = 0xA5C3#16) &&
          decide (s.cis.resetN)
        | _ => false) : Bool) = true) ∧
  -- rstreqDie
  (∃ (s : State) (d : Die) (who : Initiator) (confirm : BitVec 16) (target : BitVec 5), (
      (match reqCode who with
        | some _ =>
          decide (s.alive d) &&
          decide (confirm = 0xA5C3#16) &&
          decide (s.cis.resetN) &&
          decide (target.toNat < 2)
        | _ => false) : Bool) = true) ∧
  -- rstreqPartition
  (∃ (s : State) (d : Die) (who : Initiator) (confirm : BitVec 16) (target : BitVec 5), (
      (match reqCode who with
        | some _ =>
          decide (s.alive d) &&
          decide (confirm = 0xA5C3#16) &&
          decide (s.cis.resetN) &&
          (let p := target.toNat
          decide (p ≠ 0))
        | _ => false) : Bool) = true) ∧
  -- rstreqNibCluster
  (∃ (s : State) (d : Die) (who : Initiator) (confirm : BitVec 16) (target : BitVec 5) (on : Die), (
      (match reqCode who with
        | some _ =>
          decide (s.alive d) &&
          decide (confirm = 0xA5C3#16) &&
          decide (s.cis.resetN) &&
          (let c := target.toNat
          decide (c < 8))
        | _ => false) : Bool) = true) ∧
  -- rstreqSwitchDie
  (∃ (s : State) (d : Die) (who : Initiator) (confirm : BitVec 16) (target : BitVec 5), (
      (match reqCode who with
        | some _ =>
          decide (s.alive d) &&
          decide (confirm = 0xA5C3#16) &&
          decide (s.cis.resetN) &&
          (let sd := target.toNat
          decide (sd < 19))
        | _ => false) : Bool) = true) ∧
  -- resetNAssert
  (∃ (s : State), (
      decide (s.cis.powered) &&
      decide (s.cis.resetN) : Bool) = true) ∧
  -- resetNRelease
  (∃ (s : State), (
      decide (s.cis.powered) &&
      decide (¬ s.cis.resetN) : Bool) = true) ∧
  -- partitionResetHeld
  (∃ (s : State) (d : Die) (p : Fin 32), (
      decide (s.alive d) &&
      decide (s.bit d (WLD_pSTAT p.val) WLD_pSTAT__RST) &&
      decide (tget 0 (s.vol.get d).flt.heldAt p.val + 1000000000 ≤ s.ns d) : Bool) = true) :=
  ⟨⟨live, by decide +kernel⟩,
   ⟨live, 0, 0, .rstreq, by decide +kernel⟩,
   ⟨sdAt 0 (fun x => x), 0, .rstreq, by decide +kernel⟩,
   ⟨live, 0, .mgmt 0, 0xA5C3, by decide +kernel⟩,
   ⟨live, 0, .mgmt 0, 0xA5C3, 0, by decide +kernel⟩,
   ⟨live, 0, .mgmt 0, 0xA5C3, 1, by decide +kernel⟩,
   ⟨live, 0, .mgmt 0, 0xA5C3, 0, 0, by decide +kernel⟩,
   ⟨live, 0, .mgmt 0, 0xA5C3, 0, by decide +kernel⟩,
   ⟨live, by decide +kernel⟩,
   ⟨live.updCis (fun c => { c with resetN := false }), by decide +kernel⟩,
   ⟨later (live.setF 0 (WLD_pSTAT 1) WLD_pSTAT__RST 1), 0, 1, by decide +kernel⟩⟩

/-- States and operands for the clauses of StartUpCompletes that have hypotheses. -/
theorem witness_StartUpCompletes :
  -- strapSample
  (∃ (s : State) (pins : BitVec 3), (
      decide (s.cis.powered) &&
      decide (s.cis.resetN) &&
      decide (s.cis.straps.length < 8) : Bool) = true) ∧
  -- ductusVerify
  (∃ (s : State) (d : Die), (
      decide (s.alive d) &&
      decide ((s.boot d).loaderOk) &&
      decide (s.dstate d = 0) &&
      decide (¬ (s.writing d)) : Bool) = true) ∧
  -- verificationExchange
  (∃ (s : State), (
      decide (s.linkFlows) &&
      decide (s.alive 0) &&
      decide (s.alive 1) : Bool) = true) ∧
  -- partnerResultTimeout
  (∃ (s : State) (d : Die), (
      (match (s.boot d).own with
        | some o =>
          decide (s.alive d) &&
          decide (s.dstate d = 1) &&
          decide (¬ ((s.boot d).donate)) &&
          decide (¬ (s.linkUp && (s.boot d.other).own.isSome)) &&
          decide (o.code = 0)
        | _ => false) : Bool) = true) ∧
  -- imageDonation
  (∃ (s : State) (d : Die), (
      decide (s.alive d) &&
      decide (s.alive d.other) &&
      decide (s.linkFlows) &&
      decide (s.classZero d.other) &&
      decide ((s.boot d).donate) &&
      decide (s.dstate d = 1) : Bool) = true) ∧
  -- sealReady
  (∃ (s : State) (d : Die), (
      (match (s.boot d).own with
        | some _ =>
          decide (s.alive d) &&
          decide (s.dstate d = 3) &&
          decide ((s.todo d).isEmpty) &&
          decide (¬ ((s.boot d).ready.isSome))
        | _ => false) : Bool) = true) ∧
  -- seal
  (∃ (s : State) (d : Die), (
      (match (s.boot d).ready with
        | some _ =>
          decide (s.alive d) &&
          decide (s.dstate d = 3)
        | _ => false) : Bool) = true) ∧
  -- sealReadyTimeout
  (∃ (s : State) (d : Die), (
      decide (s.alive d) &&
      decide (s.dstate d = 3) &&
      decide ((s.boot d).ready.isSome) &&
      decide ((s.boot d).partnerReady.isNone) &&
      decide (¬ ((s.boot d).joins && s.alive d.other && s.isSealed d.other)) : Bool) = true) ∧
  -- qDieRelease
  (∃ (s : State) (d : Die) (selfOk : Bool), (
      let k := s.keep.get d
      decide (k.run = .held) &&
      decide (k.supplied) &&
      decide (s.cis.powered) &&
      decide (s.cis.resetN) &&
      decide (¬ k.glitchStuck) : Bool) = true) ∧
  -- loaderDonation
  (∃ (s : State) (d : Die), (
      decide (s.alive d) &&
      decide (s.alive d.other) &&
      decide (s.linkFlows) &&
      decide (s.classZero d.other) &&
      decide ((s.boot d).romOk) &&
      decide (¬ ((s.boot d).loaderOk)) &&
      decide (s.fld d CIS_BOOT CIS_BOOT__LCODE ≠ 0) : Bool) = true) ∧
  -- startEntry
  (∃ (s : State) (sd : Fin 19), (
      let x := s.sd sd.val
      decide (x.powered) &&
      decide (¬ x.started) : Bool) = true) ∧
  -- holdTimeEnd
  (∃ (s : State) (sd : Fin 19), (
      let x := s.sd sd.val
      decide (x.started) &&
      decide (x.holding) : Bool) = true) ∧
  -- nvmWriteComplete
  (∃ (s : State) (sd : Fin 19), (
      (match (s.sd sd.val).writing with
        | some _ => decide ((s.sd sd.val).started)
        | _ => false) : Bool) = true) ∧
  -- switchDiePowerUp
  (∃ (s : State) (sd : Fin 19), (
      decide (¬ ((s.sd sd.val).powered)) &&
      decide (¬ (s.cis.feedRev.get (if sdFeedB sd.val then 1 else 0))) : Bool) = true) ∧
  -- switchDiePowerDown
  (∃ (s : State) (sd : Fin 19), (
      decide ((s.sd sd.val).powered) : Bool) = true) ∧
  -- feedReverseEnd
  (∃ (s : State) (feedB : Bool), (
      let e : Die := if feedB then 1 else 0
      decide (s.cis.feedRev.get e) : Bool) = true) ∧
  -- vauxOverload
  (∃ (s : State), (
      decide (s.cis.powered) &&
      decide (s.cis.vaux) &&
      decide (s.fld 0 CIS_STAT CIS_STAT__STATE < 3) : Bool) = true) ∧
  -- vauxRetry
  (∃ (s : State) (overloaded : Bool), (
      decide (s.cis.powered) &&
      decide (s.cis.vauxTrip) &&
      decide (s.cis.vauxAt + 3276 ≤ s.rtc) : Bool) = true) :=
  ⟨⟨live, 0, by decide +kernel⟩,
   ⟨noJournal (withDstate 0) 0, 0, by decide +kernel⟩,
   ⟨live, by decide +kernel⟩,
   ⟨((withDstate 1).setF 0 ISL_PLSTAT ISL_PLSTAT__STATE 0).updBoot 0 (fun b => { b with own := some verified }), 0, by decide +kernel⟩,
   ⟨(withDstate 1).updBoot 0 (fun b => { b with donate := true }), 0, by decide +kernel⟩,
   ⟨(withDstate 3).updBoot 0 (fun b => { b with own := some verified }), 0, by decide +kernel⟩,
   ⟨(withDstate 3).updBoot 0 (fun b => { b with ready := some ⟨0, 0, 0⟩ }), 0, by decide +kernel⟩,
   ⟨(withDstate 3).updBoot 0 (fun b => { b with ready := some ⟨0, 0, 0⟩ }), 0, by decide +kernel⟩,
   ⟨State.reset, 0, false, by decide +kernel⟩,
   ⟨(live.setF 0 CIS_BOOT CIS_BOOT__LCODE 1).updBoot 0 (fun b => { b with loaderOk := false }), 0, by decide +kernel⟩,
   ⟨live.updSd 0 (fun x => { x with powered := true }), 0, by decide +kernel⟩,
   ⟨sdAt 0 (fun x => { x with holding := true }), 0, by decide +kernel⟩,
   ⟨sdAt 0 (fun x => { x with writing := some [1] }), 0, by decide +kernel⟩,
   ⟨live, 0, by decide +kernel⟩,
   ⟨sdAt 0 (fun x => x), 0, by decide +kernel⟩,
   ⟨live.updCis (fun c => { c with feedRev := ⟨true, false⟩ }), false, by decide +kernel⟩,
   ⟨live, by decide +kernel⟩,
   ⟨((live.updCis (fun c => { c with vauxTrip := true })).setF 0 CIS_RTCL whole 0x10000000), false, by decide +kernel⟩⟩

/-- States and operands for the clauses of PowerProtectionCompletes that have hypotheses. -/
theorem witness_PowerProtectionCompletes :
  -- undervoltageTurnOff
  (∃ (s : State) (sd : Fin 19) (volt : BitVec 16), (
      let x := s.sd sd.val
      decide (x.started) &&
      decide (volt.toNat < (if x.set48 then 19520 else 4520)) : Bool) = true) ∧
  -- undervoltageRestart
  (∃ (s : State) (sd : Fin 19), (
      decide ((s.sd sd.val).started) : Bool) = true) ∧
  -- overvoltageTurnOff
  (∃ (s : State) (sd : Fin 19) (volt : BitVec 16), (
      decide ((s.sd sd.val).started) &&
      decide (47200 < volt.toNat) : Bool) = true) ∧
  -- overvoltageRestart
  (∃ (s : State) (sd : Fin 19), (
      decide ((s.sd sd.val).started) : Bool) = true) ∧
  -- settingMismatch
  (∃ (s : State) (sd : Fin 19) (volt : BitVec 16), (
      let x := s.sd sd.val
      let v := volt.toNat
      decide (x.started) &&
      decide ((if x.set48 then decide (4680 ≤ v ∧ v < 16400) else decide (15600 < v))) : Bool) = true) ∧
  -- currentLimit
  (∃ (s : State) (sd : Fin 19) (k : Fin 8), (
      decide (s.sdHas sd.val k.val) &&
      decide ((s.chan sd.val k.val).on) : Bool) = true) ∧
  -- overcurrentTrip
  (∃ (s : State) (sd : Fin 19) (k : Fin 8), (
      let c := s.chan sd.val k.val
      let shut := c.latched && decide (c.limitAt = some (s.sd sd.val).cycles)
      decide (s.sdHas sd.val k.val) &&
      decide (c.inLimit || shut) : Bool) = true) ∧
  -- junctionWarning
  (∃ (s : State) (sd : Fin 19) (k : Fin 8) (temp : BitVec 16), (
      decide (s.sdHas sd.val k.val) &&
      decide (1200 ≤ temp.toInt) : Bool) = true) ∧
  -- thermalShutdown
  (∃ (s : State) (sd : Fin 19) (k : Fin 8) (temp : BitVec 16), (
      decide (s.sdHas sd.val k.val) &&
      decide (1400 ≤ temp.toInt) : Bool) = true) ∧
  -- lampRetry
  (∃ (s : State) (sd : Fin 19) (k : Fin 8), (
      decide (s.sdHas sd.val k.val) &&
      decide ((s.chan sd.val k.val).lampRetry) : Bool) = true) ∧
  -- openLoadOn
  (∃ (s : State) (sd : Fin 19) (k : Fin 8) (below : Bool), (
      let c := s.chan sd.val k.val
      decide (s.sdHas sd.val k.val) &&
      decide (c.on) : Bool) = true) ∧
  -- offStateTest
  (∃ (s : State) (sd : Fin 19) (k : Fin 8) (vout : BitVec 16) (vfeed : BitVec 16), (
      let c := s.chan sd.val k.val
      let x := s.sd sd.val
      let rested : Bool := match c.offAt with | none => true | some t => decide (t + 50 ≤ x.cycles)
      decide (s.sdHas sd.val k.val) &&
      decide (s.chSet sd.val k.val PWR_CHkCFG__OLOFF = 1) &&
      decide (¬ c.on) &&
      decide (¬ x.standby) &&
      decide (rested || c.testAsked) : Bool) = true) ∧
  -- offStateTestComplete
  (∃ (s : State) (sd : Fin 19) (k : Fin 8) (vout : BitVec 16), (
      let c := s.chan sd.val k.val
      decide (s.sdHas sd.val k.val) &&
      decide (c.offTest) : Bool) = true) :=
  ⟨⟨sdAt 0 (fun x => x), 0, 1000, by decide +kernel⟩,
   ⟨sdAt 0 (fun x => x), 0, by decide +kernel⟩,
   ⟨sdAt 0 (fun x => x), 0, 50000, by decide +kernel⟩,
   ⟨sdAt 0 (fun x => x), 0, by decide +kernel⟩,
   ⟨sdAt 0 (fun x => x), 0, 20000, by decide +kernel⟩,
   ⟨chAt 0 0 (fun c => { c with on := true }), 0, 0, by decide +kernel⟩,
   ⟨chAt 0 0 (fun c => { c with inLimit := true }), 0, 0, by decide +kernel⟩,
   ⟨sdAt 0 (fun x => x), 0, 0, 1200, by decide +kernel⟩,
   ⟨sdAt 0 (fun x => x), 0, 0, 1400, by decide +kernel⟩,
   ⟨chAt 0 0 (fun c => { c with lampRetry := true }), 0, 0, by decide +kernel⟩,
   ⟨chAt 0 0 (fun c => { c with on := true }), 0, 0, false, by decide +kernel⟩,
   ⟨(chAt 0 0 (fun c => { c with testAsked := true })).setF 0 (PWR_CHkCFG 0 0) PWR_CHkCFG__OLOFF 1, 0, 0, 0, 0, by decide +kernel⟩,
   ⟨chAt 0 0 (fun c => { c with offTest := true }), 0, 0, 0, by decide +kernel⟩⟩

/-- States and operands for the clauses of ChannelCommandsComplete that have hypotheses. -/
theorem witness_ChannelCommandsComplete :
  -- wireModelStep
  (∃ (s : State) (d : Die) (sd : Fin 19) (k : Fin 8), (
      decide (s.modelled d sd.val k.val) : Bool) = true) ∧
  -- inductanceEstimate
  (∃ (s : State) (d : Die) (sd : Fin 19) (k : Fin 8) (i1 : BitVec 16) (i2 : BitVec 16), (
      decide (s.modelled d sd.val k.val) &&
      decide (s.bit d (PWR_CHkCFG sd.val k.val) PWR_CHkCFG__CLPRED) : Bool) = true) ∧
  -- rampEnd
  (∃ (s : State) (sd : Fin 19) (k : Fin 8), (
      decide (s.sdHas sd.val k.val) &&
      decide ((s.chan sd.val k.val).ramping) : Bool) = true) ∧
  -- pwrCalcmdCapture
  (∃ (s : State) (d : Die) (who : Initiator) (sd : Fin 19) (ch : Fin 8) (low : Bool) (point : Fin 4), (
      decide (s.alive d) &&
      decide (s.mayChannel d who (gch sd.val ch.val)) &&
      decide (ch.val < sdChans sd.val) : Bool) = true) ∧
  -- pwrCalcmdCommit
  (∃ (s : State) (d : Die) (who : Initiator) (sd : Fin 19) (ch : Fin 8) (low : Bool), (
      decide (s.alive d) &&
      decide (s.mayChannel d who (gch sd.val ch.val)) &&
      decide (ch.val < sdChans sd.val) : Bool) = true) ∧
  -- pwrCalcmdCancel
  (∃ (s : State) (d : Die) (who : Initiator) (sd : Fin 19) (ch : Fin 8) (low : Bool), (
      decide (s.alive d) &&
      decide (s.mayChannel d who (gch sd.val ch.val)) &&
      decide (ch.val < sdChans sd.val) : Bool) = true) ∧
  -- pwrCalrefWrite
  (∃ (s : State) (d : Die) (who : Initiator) (sd : Fin 19) (ref : BitVec 16), (
      decide (s.alive d) &&
      decide (s.mayDie d who sd.val) : Bool) = true) ∧
  -- latch
  (∃ (s : State) (d : Die) (sd : Fin 19) (frame : Word), (
      let k := frameCh frame
      decide (s.hearsDown sd.val frame 5) &&
      (let t := s.downHeard d sd.val frame
      decide (t.decides d sd.val frame 5 false false) &&
      decide (t.sdHas sd.val k) &&
      decide (frameData frame % 16 = 1) &&
      decide ((t.chan sd.val k).ramping)) : Bool) = true) ∧
  -- latch
  (∃ (s : State) (d : Die) (sd : Fin 19) (frame : Word), (
      let k := frameCh frame
      decide (s.hearsDown sd.val frame 5) &&
      (let t := s.downHeard d sd.val frame
      decide (t.decides d sd.val frame 5 false false) &&
      decide (t.sdHas sd.val k) &&
      decide (frameData frame % 16 = 1) &&
      decide (¬ (t.chan sd.val k).ramping)) : Bool) = true) ∧
  -- latch
  (∃ (s : State) (d : Die) (sd : Fin 19) (frame : Word), (
      let k := frameCh frame
      decide (s.hearsDown sd.val frame 5) &&
      (let t := s.downHeard d sd.val frame
      decide (t.decides d sd.val frame 5 false false) &&
      decide (t.sdHas sd.val k) &&
      decide (frameData frame % 16 = 2)) : Bool) = true) ∧
  -- ramp
  (∃ (s : State) (d : Die) (sd : Fin 19) (frame : Word), (
      let k := frameCh frame
      let ms := frameData frame % 64
      decide (s.hearsDown sd.val frame 6) &&
      (let t := s.downHeard d sd.val frame
      decide (t.decides d sd.val frame 6 false false) &&
      decide (t.sdHas sd.val k) &&
      decide (ms = 0) &&
      decide ((t.chan sd.val k).ramping) &&
      decide (¬ (t.chan sd.val k).latchPend)) : Bool) = true) ∧
  -- ramp
  (∃ (s : State) (d : Die) (sd : Fin 19) (frame : Word), (
      let k := frameCh frame
      let ms := frameData frame % 64
      decide (s.hearsDown sd.val frame 6) &&
      (let t := s.downHeard d sd.val frame
      decide (t.decides d sd.val frame 6 false false) &&
      decide (t.sdHas sd.val k) &&
      decide (ms = 0) &&
      decide ((t.chan sd.val k).ramping) &&
      decide ((t.chan sd.val k).latchPend)) : Bool) = true) ∧
  -- ramp
  (∃ (s : State) (d : Die) (sd : Fin 19) (frame : Word), (
      let k := frameCh frame
      let ms := frameData frame % 64
      decide (s.hearsDown sd.val frame 6) &&
      (let t := s.downHeard d sd.val frame
      decide (t.decides d sd.val frame 6 false false) &&
      decide (t.sdHas sd.val k) &&
      decide (ms = 0) &&
      decide (¬ (t.chan sd.val k).ramping)) : Bool) = true) ∧
  -- ramp
  (∃ (s : State) (d : Die) (sd : Fin 19) (frame : Word), (
      let k := frameCh frame
      let ms := frameData frame % 64
      decide (s.hearsDown sd.val frame 6) &&
      (let t := s.downHeard d sd.val frame
      decide (t.decides d sd.val frame 6 false false) &&
      decide (t.sdHas sd.val k) &&
      decide (2 ≤ ms) &&
      decide (ms ≤ 50) &&
      decide ((t.chan sd.val k).on)) : Bool) = true) ∧
  -- ramp
  (∃ (s : State) (d : Die) (sd : Fin 19) (frame : Word), (
      let k := frameCh frame
      let ms := frameData frame % 64
      decide (s.hearsDown sd.val frame 6) &&
      (let t := s.downHeard d sd.val frame
      decide (t.decides d sd.val frame 6 false false) &&
      decide (t.sdHas sd.val k) &&
      decide (2 ≤ ms) &&
      decide (ms ≤ 50) &&
      decide (¬ (t.chan sd.val k).on)) : Bool) = true) ∧
  -- restart
  (∃ (s : State) (d : Die) (sd : Fin 19) (frame : Word), (
      let k := frameCh frame
      decide (s.hearsDown sd.val frame 7) &&
      (let t := s.downHeard d sd.val frame
      decide (t.decides d sd.val frame 7 false true) &&
      decide (t.sdHas sd.val k)) : Bool) = true) ∧
  -- oltest
  (∃ (s : State) (d : Die) (sd : Fin 19) (frame : Word), (
      let k := frameCh frame
      decide (s.hearsDown sd.val frame 8) &&
      (let t := s.downHeard d sd.val frame
      decide (t.decides d sd.val frame 8 false true) &&
      decide (t.sdHas sd.val k)) : Bool) = true) ∧
  -- calcmdCapture
  (∃ (s : State) (d : Die) (sd : Fin 19) (frame : Word), (
      let v := frameData frame % 256
      decide (v / 64 = 1) &&
      decide (s.hearsDown sd.val frame 0x0A) &&
      (let t := s.downHeard d sd.val frame
      decide (t.decides d sd.val frame 0x0A false true) &&
      decide (t.sdHas sd.val (v % 8))) : Bool) = true) ∧
  -- captureComplete
  (∃ (s : State) (sd : Fin 19) (mean : BitVec 16) (aborted : Bool), (
      (match (s.sd sd.val).capture.busy with
        | some _ => true
        | _ => false) : Bool) = true) ∧
  -- calcmdCommit
  (∃ (s : State) (d : Die) (sd : Fin 19) (frame : Word), (
      let v := frameData frame % 256
      decide (v / 64 = 2) &&
      decide (s.hearsDown sd.val frame 0x0A) &&
      (let t := s.downHeard d sd.val frame
      decide (t.decides d sd.val frame 0x0A false true) &&
      decide (t.sdHas sd.val (v % 8))) : Bool) = true) ∧
  -- calcmdCancel
  (∃ (s : State) (d : Die) (sd : Fin 19) (frame : Word), (
      let v := frameData frame % 256
      decide (v / 64 = 3) &&
      decide (s.hearsDown sd.val frame 0x0A) &&
      (let t := s.downHeard d sd.val frame
      decide (t.decides d sd.val frame 0x0A false true) &&
      decide (t.sdHas sd.val (v % 8))) : Bool) = true) ∧
  -- calref
  (∃ (s : State) (d : Die) (sd : Fin 19) (frame : Word), (
      decide (s.hearsDown sd.val frame 0x0B) : Bool) = true) ∧
  -- sns
  (∃ (s : State) (d : Die) (sd : Fin 19) (frame : Word), (
      decide (s.hearsUp d frame 0x10) : Bool) = true) :=
  ⟨⟨((((clAt (fun x => x) (fun x => x)).updNib ⟨0, 0, 29⟩ (fun x => { x with run := .inGet })).setF 0 (PWR_CHkCFG 0 0) PWR_CHkCFG__USED 1).setF 0 (PWR_DSTAT 0) PWR_DSTAT__MODE 1), 0, 0, 0, by decide +kernel⟩,
   ⟨((((clAt (fun x => x) (fun x => x)).updNib ⟨0, 0, 29⟩ (fun x => { x with run := .inGet })).setF 0 (PWR_CHkCFG 0 0) PWR_CHkCFG__USED 1).setF 0 (PWR_DSTAT 0) PWR_DSTAT__MODE 1).setF 0 (PWR_CHkCFG 0 0) PWR_CHkCFG__CLPRED 1, 0, 0, 0, 0, 0, by decide +kernel⟩,
   ⟨chAt 0 0 (fun c => { c with ramping := true }), 0, 0, by decide +kernel⟩,
   ⟨live, 0, .mgmt 0, 0, 0, false, 0, by decide +kernel⟩,
   ⟨live, 0, .mgmt 0, 0, 0, false, by decide +kernel⟩,
   ⟨live, 0, .mgmt 0, 0, 0, false, by decide +kernel⟩,
   ⟨live, 0, .mgmt 0, 0, 0, by decide +kernel⟩,
   ⟨chAt 0 0 (fun c => { c with ramping := true, on := true }), 0, 0, mkFrame 5 0 1, by decide +kernel⟩,
   ⟨chAt 0 0 (fun c => { c with on := true }), 0, 0, mkFrame 5 0 1, by decide +kernel⟩,
   ⟨chAt 0 0 (fun c => { c with ramping := true, on := true }), 0, 0, mkFrame 5 0 2, by decide +kernel⟩,
   ⟨chAt 0 0 (fun c => { c with ramping := true, on := true }), 0, 0, mkFrame 6 0 0, by decide +kernel⟩,
   ⟨chAt 0 0 (fun c => { c with ramping := true, on := true, latchPend := true }), 0, 0, mkFrame 6 0 0, by decide +kernel⟩,
   ⟨chAt 0 0 (fun c => { c with on := true }), 0, 0, mkFrame 6 0 0, by decide +kernel⟩,
   ⟨chAt 0 0 (fun c => { c with ramping := true, on := true }), 0, 0, mkFrame 6 0 20, by decide +kernel⟩,
   ⟨chAt 0 0 (fun c => c), 0, 0, mkFrame 6 0 20, by decide +kernel⟩,
   ⟨sdAt 0 (fun x => x), 0, 0, mkFrame 7 0 (0), by decide +kernel⟩,
   ⟨sdAt 0 (fun x => x), 0, 0, mkFrame 8 0 (0), by decide +kernel⟩,
   ⟨sdAt 0 (fun x => x), 0, 0, mkFrame 0x0A 0 (4096 + 64), by decide +kernel⟩,
   ⟨sdAt 0 (fun x => { x with capture := { busy := some 0 } }), 0, 0, false, by decide +kernel⟩,
   ⟨sdAt 0 (fun x => x), 0, 0, mkFrame 0x0A 0 (4096 + 128), by decide +kernel⟩,
   ⟨sdAt 0 (fun x => x), 0, 0, mkFrame 0x0A 0 (4096 + 192), by decide +kernel⟩,
   ⟨sdAt 0 (fun x => x), 0, 0, mkFrame 0x0B 0 (0), by decide +kernel⟩,
   ⟨live, 0, 0, mkFrame 0x10 0 (0), by decide +kernel⟩⟩

/-- States and operands for the clauses of SwitchDieCommandsComplete that have hypotheses. -/
theorem witness_SwitchDieCommandsComplete :
  -- sensePathTest
  (∃ (s : State) (sd : Fin 19) (k : Fin 8) (outside : Bool), (
      let c := s.chan sd.val k.val
      let rested : Bool := match c.offAt with | none => true | some t => decide (t + 50 ≤ (s.sd sd.val).cycles)
      decide (s.sdHas sd.val k.val) &&
      decide (¬ c.on) &&
      decide (rested) &&
      decide (outside) : Bool) = true) ∧
  -- nvmTableCheck
  (∃ (s : State) (sd : Fin 19) (crcOk : Bool), (
      let x := s.sd sd.val
      decide (x.started) &&
      decide (¬ crcOk) &&
      decide (¬ x.nvmFault) : Bool) = true) ∧
  -- failSafeTrip
  (∃ (s : State) (sd : Fin 19) (k : Fin 8) (rms : BitVec 16), (
      let x := s.sd sd.val
      decide (s.sdHas sd.val k.val) &&
      decide (decide (x.mode = .start) && !x.holding || x.lastHold) &&
      decide (x.tripAt sd.val k.val < rms.toNat) : Bool) = true) ∧
  -- dctlEnterTest
  (∃ (s : State) (d : Die) (who : Initiator) (sd : Fin 19) (confirm : BitVec 16), (
      decide (s.alive d) &&
      decide (who.isManager) &&
      decide (confirm = 0x5C3A#16) &&
      decide (s.driver d sd.val = d) : Bool) = true) ∧
  -- dctlLeaveTest
  (∃ (s : State) (d : Die) (who : Initiator) (sd : Fin 19) (confirm : BitVec 16), (
      decide (s.alive d) &&
      decide (who.isManager) &&
      decide (confirm = 0x5C3A#16) &&
      decide (s.driver d sd.val = d) : Bool) = true) ∧
  -- dctlEnterRecovery
  (∃ (s : State) (d : Die) (who : Initiator) (sd : Fin 19) (confirm : BitVec 16), (
      decide (s.alive d) &&
      decide (who.isManager) &&
      decide (confirm = 0x5C3A#16) &&
      decide (s.driver d sd.val = d) : Bool) = true) ∧
  -- cyc
  (∃ (s : State) (d : Die) (sd : Fin 19) (count : BitVec 16), (
      decide (s.alive d) : Bool) = true) ∧
  -- svcent
  (∃ (s : State) (d : Die) (sd : Fin 19) (frame : Word), (
      decide (s.hearsDown sd.val frame 2) &&
      (let t := s.downHeard d sd.val frame
      decide (t.decides d sd.val frame 2 true true) &&
      (let x := t.sd sd.val
      decide (¬ (x.mode = .start ∧ (x.holding = true ∨ x.committed = false ∨ x.wdogCyc = some x.cycles))) &&
      decide (x.accepts d (entryLine frame) (entrySerial frame)))) : Bool) = true) ∧
  -- steer
  (∃ (s : State) (d : Die) (sd : Fin 19) (frame : Word), (
      decide (s.hearsDown sd.val frame 3) &&
      (let t := s.downHeard d sd.val frame
      decide (t.decides d sd.val frame 3 true true) &&
      decide ((t.sd sd.val).accepts d (entryLine frame) (entrySerial frame))) : Bool) = true) ∧
  -- modeEnterTest
  (∃ (s : State) (d : Die) (sd : Fin 19) (frame : Word), (
      decide (s.hearsDown sd.val frame 4) &&
      (let t := s.downHeard d sd.val frame
      decide (t.decides d sd.val frame 4 false false) &&
      decide (frameData frame % 4 = 1) &&
      decide (¬ (t.sd sd.val).lastHold) &&
      decide ((t.sd sd.val).mode = .service) &&
      decide ((t.sd sd.val).testOk)) : Bool) = true) ∧
  -- modeLeaveTest
  (∃ (s : State) (d : Die) (sd : Fin 19) (frame : Word), (
      decide (s.hearsDown sd.val frame 4) &&
      (let t := s.downHeard d sd.val frame
      decide (t.decides d sd.val frame 4 false false) &&
      decide (frameData frame % 4 = 0) &&
      decide (¬ (t.sd sd.val).lastHold) &&
      decide ((t.sd sd.val).mode = .test)) : Bool) = true) ∧
  -- modeEnterRecovery
  (∃ (s : State) (d : Die) (sd : Fin 19) (frame : Word), (
      decide (s.hearsDown sd.val frame 4) &&
      (let t := s.downHeard d sd.val frame
      decide (t.decides d sd.val frame 4 false false) &&
      decide (frameData frame % 4 = 2) &&
      decide (¬ (t.sd sd.val).lastHold) &&
      decide ((t.sd sd.val).mode = .service ∨ (t.sd sd.val).mode = .test)) : Bool) = true) ∧
  -- bdir
  (∃ (s : State) (d : Die) (sd : Fin 19) (frame : Word), (
      let k := frameCh frame
      decide (s.hearsDown sd.val frame 9) &&
      (let t := s.downHeard d sd.val frame
      decide (t.decides d sd.val frame 9 false false) &&
      decide (t.sdHas sd.val k) &&
      decide (sdType sd.val = 4)) : Bool) = true) ∧
  -- tblstart
  (∃ (s : State) (d : Die) (sd : Fin 19) (frame : Word), (
      decide (s.hearsDown sd.val frame 0x0C) : Bool) = true) ∧
  -- tbldata
  (∃ (s : State) (d : Die) (sd : Fin 19) (frame : Word), (
      decide (s.hearsDown sd.val frame 0x0D) : Bool) = true) ∧
  -- tblend
  (∃ (s : State) (d : Die) (sd : Fin 19) (frame : Word), (
      decide (s.hearsDown sd.val frame 0x0E) : Bool) = true) ∧
  -- tableCommit
  (∃ (s : State) (sd : Fin 19), (
      let x := s.sd sd.val
      let pick : Option (Die × List Byte × Option Bool) := match x.rx.q0.done, x.rx.q1.done with
        | some a, some b =>
          if tableDigest a = tableDigest b then some (x.line, a, some false)
          else some (x.line, if x.line = 0 then a else b, some true)
        | some a, none => some (0, a, none)
        | none, some b => some (1, b, none)
        | none, none => none
      (match pick with
        | some (_, _, _) => true
        | _ => false) : Bool) = true) ∧
  -- forceRelease
  (∃ (s : State) (d : Die) (sd : Fin 19) (frame : Word), (
      decide (s.hearsDown sd.val frame 0x0F) &&
      (let t := s.downHeard d sd.val frame
      decide (t.decides d sd.val frame 0x0F false false) &&
      decide (frameData frame % 4 = 0) &&
      decide (t.sdHas sd.val (frameCh frame)) &&
      decide ((t.sd sd.val).mode = .test)) : Bool) = true) ∧
  -- forceOff
  (∃ (s : State) (d : Die) (sd : Fin 19) (frame : Word), (
      decide (s.hearsDown sd.val frame 0x0F) &&
      (let t := s.downHeard d sd.val frame
      decide (t.decides d sd.val frame 0x0F false false) &&
      decide (frameData frame % 4 = 1) &&
      decide (t.sdHas sd.val (frameCh frame)) &&
      decide ((t.sd sd.val).mode = .test)) : Bool) = true) ∧
  -- forceOn
  (∃ (s : State) (d : Die) (sd : Fin 19) (frame : Word), (
      decide (s.hearsDown sd.val frame 0x0F) &&
      (let t := s.downHeard d sd.val frame
      decide (t.decides d sd.val frame 0x0F false false) &&
      decide (frameData frame % 4 = 2) &&
      decide (t.sdHas sd.val (frameCh frame)) &&
      decide ((t.sd sd.val).mode = .test)) : Bool) = true) ∧
  -- forceTimeout
  (∃ (s : State) (sd : Fin 19) (k : Fin 8), (
      decide (s.sdHas sd.val k.val) : Bool) = true) ∧
  -- testTimeout
  (∃ (s : State) (sd : Fin 19), (
      decide ((s.sd sd.val).mode = .test) : Bool) = true) ∧
  -- serialWatchdogExpiry
  (∃ (s : State) (sd : Fin 19), (
      let x := s.sd sd.val
      decide (x.started) &&
      decide (¬ x.standby) : Bool) = true) ∧
  -- serviceCycle
  (∃ (s : State) (sd : Fin 19) (feed : BitVec 32) (tsub : BitVec 16) (sns : List (Fin 8 × BitVec 32)) (meas : List ChanMeas), (
      decide ((s.sd sd.val).started) : Bool) = true) :=
  ⟨⟨sdAt 0 (fun x => x), 0, 0, true, by decide +kernel⟩,
   ⟨sdAt 0 (fun x => x), 0, false, by decide +kernel⟩,
   ⟨sdAt 0 (fun x => { x with mode := .start }), 0, 0, 5000, by decide +kernel⟩,
   ⟨live, 0, .mgmt 0, 0, 0x5C3A, by decide +kernel⟩,
   ⟨live, 0, .mgmt 0, 0, 0x5C3A, by decide +kernel⟩,
   ⟨live, 0, .mgmt 0, 0, 0x5C3A, by decide +kernel⟩,
   ⟨live, 0, 0, 0, by decide +kernel⟩,
   ⟨sdAt 0 (fun x => x), 0, 0, mkFrame 2 0 (0), by decide +kernel⟩,
   ⟨sdAt 0 (fun x => x), 0, 0, mkFrame 3 0 (0), by decide +kernel⟩,
   ⟨sdAt 0 (fun x => { x with table := [0, 0, 0, 0, 0, 0, 0, 1] }), 0, 0, mkFrame 4 0 (4097), by decide +kernel⟩,
   ⟨sdAt 0 (fun x => { x with mode := .test }), 0, 0, mkFrame 4 0 (0), by decide +kernel⟩,
   ⟨sdAt 0 (fun x => x), 0, 0, mkFrame 4 0 (4098), by decide +kernel⟩,
   ⟨sdAt 15 (fun x => x), 0, 15, mkFrame 9 0 (0), by decide +kernel⟩,
   ⟨sdAt 0 (fun x => x), 0, 0, mkFrame 0x0C 0 (0), by decide +kernel⟩,
   ⟨sdAt 0 (fun x => x), 0, 0, mkFrame 0x0D 0 (0), by decide +kernel⟩,
   ⟨sdAt 0 (fun x => x), 0, 0, mkFrame 0x0E 0 (0), by decide +kernel⟩,
   ⟨sdAt 0 (fun x => { x with rx := ⟨{ done := some [1] }, {}⟩ }), 0, by decide +kernel⟩,
   ⟨sdAt 0 (fun x => { x with mode := .test }), 0, 0, mkFrame 0x0F 0 (0), by decide +kernel⟩,
   ⟨sdAt 0 (fun x => { x with mode := .test }), 0, 0, mkFrame 0x0F 0 (4097), by decide +kernel⟩,
   ⟨sdAt 0 (fun x => { x with mode := .test }), 0, 0, mkFrame 0x0F 0 (4098), by decide +kernel⟩,
   ⟨sdAt 0 (fun x => x), 0, 0, by decide +kernel⟩,
   ⟨sdAt 0 (fun x => { x with mode := .test }), 0, by decide +kernel⟩,
   ⟨sdAt 0 (fun x => x), 0, by decide +kernel⟩,
   ⟨sdAt 0 (fun x => x), 0, 0, 0, [], [], by decide +kernel⟩⟩

/-- States and operands for the clauses of UpstreamFramesComplete that have hypotheses. -/
theorem witness_UpstreamFramesComplete :
  -- dstat
  (∃ (s : State) (d : Die) (sd : Fin 19) (frame : Word), (
      decide (s.hearsUp d frame 0x17) : Bool) = true) ∧
  -- evt
  (∃ (s : State) (d : Die) (sd : Fin 19) (frame : Word), (
      decide (s.hearsUp d frame 0x1A) : Bool) = true) ∧
  -- ack
  (∃ (s : State) (d : Die) (sd : Fin 19) (frame : Word), (
      decide (s.hearsUp d frame 0x1B) : Bool) = true) ∧
  -- ser
  (∃ (s : State) (d : Die) (sd : Fin 19) (frame : Word), (
      decide (s.hearsUp d frame 0x1E) : Bool) = true) ∧
  -- tbldig
  (∃ (s : State) (d : Die) (sd : Fin 19) (frame : Word), (
      decide (s.hearsUp d frame 0x1C) : Bool) = true) ∧
  -- mis
  (∃ (s : State) (d : Die) (sd : Fin 19) (frame : Word), (
      decide (s.hearsUp d frame 0x1D) &&
      decide (frameCh frame < sdChans sd.val) : Bool) = true) ∧
  -- tableAckTimeout
  (∃ (s : State) (d : Die) (sd : Fin 19), (
      let q := s.qsd d sd.val
      decide (s.alive d) &&
      decide (0 < q.tblSends) &&
      decide (¬ q.tblAcked) &&
      decide (¬ q.tblFailed) : Bool) = true) ∧
  -- msql
  (∃ (s : State) (d : Die) (sd : Fin 19) (frame : Word), (
      decide (s.hearsUp d frame 0x11) &&
      decide (frameCh frame < sdChans sd.val) : Bool) = true) ∧
  -- msqh
  (∃ (s : State) (d : Die) (sd : Fin 19) (frame : Word), (
      decide (s.hearsUp d frame 0x12) &&
      decide (frameCh frame < sdChans sd.val) : Bool) = true) ∧
  -- vout
  (∃ (s : State) (d : Die) (sd : Fin 19) (frame : Word), (
      decide (s.hearsUp d frame 0x13) &&
      decide (frameCh frame < sdChans sd.val) : Bool) = true) ∧
  -- voutb
  (∃ (s : State) (d : Die) (sd : Fin 19) (frame : Word), (
      decide (s.hearsUp d frame 0x14) &&
      decide (frameCh frame < sdChans sd.val) : Bool) = true) ∧
  -- tj
  (∃ (s : State) (d : Die) (sd : Fin 19) (frame : Word), (
      decide (s.hearsUp d frame 0x15) &&
      decide (frameCh frame < sdChans sd.val) : Bool) = true) ∧
  -- chst
  (∃ (s : State) (d : Die) (sd : Fin 19) (frame : Word), (
      decide (s.hearsUp d frame 0x16) &&
      decide (frameCh frame < sdChans sd.val) : Bool) = true) ∧
  -- feed
  (∃ (s : State) (d : Die) (sd : Fin 19) (frame : Word), (
      decide (s.hearsUp d frame 0x18) : Bool) = true) ∧
  -- tsub
  (∃ (s : State) (d : Die) (sd : Fin 19) (frame : Word), (
      decide (s.hearsUp d frame 0x19) : Bool) = true) :=
  ⟨⟨live, 0, 0, mkFrame 0x17 0 (0), by decide +kernel⟩,
   ⟨live, 0, 0, mkFrame 0x1A 0 (0), by decide +kernel⟩,
   ⟨live, 0, 0, mkFrame 0x1B 0 (0), by decide +kernel⟩,
   ⟨live, 0, 0, mkFrame 0x1E 0 (0), by decide +kernel⟩,
   ⟨live, 0, 0, mkFrame 0x1C 0 (0), by decide +kernel⟩,
   ⟨live, 0, 0, mkFrame 0x1D 0 (0), by decide +kernel⟩,
   ⟨live.updQsd 0 0 (fun q => { q with tblSends := 1 }), 0, 0, by decide +kernel⟩,
   ⟨live, 0, 0, mkFrame 0x11 0 (0), by decide +kernel⟩,
   ⟨live, 0, 0, mkFrame 0x12 0 (0), by decide +kernel⟩,
   ⟨live, 0, 0, mkFrame 0x13 0 (0), by decide +kernel⟩,
   ⟨live, 0, 0, mkFrame 0x14 0 (0), by decide +kernel⟩,
   ⟨live, 0, 0, mkFrame 0x15 0 (0), by decide +kernel⟩,
   ⟨live, 0, 0, mkFrame 0x16 0 (0), by decide +kernel⟩,
   ⟨live, 0, 0, mkFrame 0x18 0 (0), by decide +kernel⟩,
   ⟨live, 0, 0, mkFrame 0x19 0 (0), by decide +kernel⟩⟩

/-- States and operands for the clauses of SteeringEventsComplete that have hypotheses. -/
theorem witness_SteeringEventsComplete :
  -- inputLineEdge
  (∃ (s : State) (sd : Fin 19) (k : Fin 8) (line : Die) (level : Bool) (time : BitVec 64), (
      let now : LineLevel := if level then .high else .low
      decide (s.sdHas sd.val k.val) &&
      decide (s.lineShown sd.val k.val line = now) &&
      decide (¬ ((s.lane line (gch sd.val k.val)).glitch level)) : Bool) = true) ∧
  -- deferralEnd
  (∃ (s : State) (sd : Fin 19) (k : Fin 8), (
      decide (s.sdHas sd.val k.val) &&
      decide ((s.chan sd.val k.val).deferred) : Bool) = true) ∧
  -- lineAbsent
  (∃ (s : State) (sd : Fin 19) (k : Fin 8) (line : Die) (lastPeriod : Option (BitVec 32 × BitVec 32)), (
      decide (s.sdHas sd.val k.val) &&
      decide (s.lineShown sd.val k.val line = .absent) : Bool) = true) ∧
  -- lineMismatch
  (∃ (s : State) (sd : Fin 19) (k : Fin 8), (
      let c := s.chan sd.val k.val
      let x := s.sd sd.val
      decide (s.sdHas sd.val k.val) &&
      decide (c.lineA ≠ .absent) &&
      decide (c.lineB ≠ .absent) &&
      decide (c.lineA ≠ c.lineB) &&
      decide (x.links.q0.acked) &&
      decide (x.links.q1.acked) &&
      decide (¬ c.misOpen) : Bool) = true) ∧
  -- lineChangeTimeout
  (∃ (s : State) (sd : Fin 19) (k : Fin 8), (
      let c := s.chan sd.val k.val
      let x := s.sd sd.val
      decide (s.sdHas sd.val k.val) &&
      decide (x.mode ≠ .start) &&
      decide (¬ x.lastHold) &&
      decide (c.linePend || c.held.isSome) : Bool) = true) ∧
  -- linkSilence
  (∃ (s : State) (sd : Fin 19) (link : Die) (linesAbsent : Bool), (
      decide ((s.sd sd.val).started) &&
      decide (¬ ((s.sd sd.val).standby)) : Bool) = true) ∧
  -- pwmPeriodStart
  (∃ (s : State) (d : Die) (lane : Fin 96) (time : BitVec 64), (
      decide (s.alive d) : Bool) = true) ∧
  -- upstreamFramesAbsent
  (∃ (s : State) (d : Die) (sd : Fin 19) (returned : Bool), (
      decide (s.alive d) : Bool) = true) :=
  ⟨⟨((sdAt 0 (fun x => x)).updLane 0 0 (fun l => { l with driven := true })).updQsd 0 0 (fun q => { q with proof := true }), 0, 0, 0, false, 0, by decide +kernel⟩,
   ⟨chAt 0 0 (fun c => { c with deferred := true }), 0, 0, by decide +kernel⟩,
   ⟨sdAt 0 (fun x => x), 0, 0, 0, none, by decide +kernel⟩,
   ⟨(chAt 0 0 (fun c => { c with lineA := .low, lineB := .high })).updSd 0 (fun x => { x with links := ⟨{ acked := true }, { acked := true }⟩ }), 0, 0, by decide +kernel⟩,
   ⟨chAt 0 0 (fun c => { c with linePend := true }), 0, 0, by decide +kernel⟩,
   ⟨sdAt 0 (fun x => x), 0, 0, false, by decide +kernel⟩,
   ⟨live, 0, 0, 0, by decide +kernel⟩,
   ⟨live, 0, 0, false, by decide +kernel⟩⟩

/-- States and operands for the clauses of StreamsComplete that have hypotheses. -/
theorem witness_StreamsComplete :
  -- streamEntryArrival
  (∃ (s : State) (d : Die) (c : Fin 8) (src : BitVec 16) (stamp : BitVec 64) (payload : List Byte) (err : Bool), (
      decide (isSource src.toNat) &&
      decide (payload.length ≤ 2048) &&
      decide (src.toNat < 0x300) : Bool) = true) ∧
  -- entryRelease
  (∃ (s : State) (d : Die) (c : Fin 8) (receiving : List (Fin 25 × BitVec 64)), (
      decide (s.clRuns d c.val) &&
      decide (s.ordersOwn d c.val) &&
      decide ((s.cl d c.val).orders.isEmpty) : Bool) = true) ∧
  -- sourceStall
  (∃ (s : State) (d : Die) (c : Fin 8) (src : BitVec 16) (mark : BitVec 64), (
      decide (s.clRuns d c.val) &&
      decide (s.ordersOwn d c.val) &&
      decide (isSource src.toNat) &&
      decide (mark.toNat + 1000 * s.fld d (NBC_nSTALL c.val) NBC_nSTALL__LIMIT < s.ns d) &&
      decide (¬ ((s.cl d c.val).excluded.contains src.toNat)) : Bool) = true) ∧
  -- orderEntry
  (∃ (s : State) (d : Die) (c : Fin 8), (
      let x := s.cl d c.val
      decide (s.alive d) &&
      decide (s.clState d c.val = 4 ∨ s.clState d c.val = 5 ∨ s.clState d c.val = 3) &&
      (match x.orders with
        | o :: _ =>
          (match x.held.find? (fun h => decide (h.src = o.src ∧ h.seq = o.seq)) with
            | some h => decide (¬ (o.src ≠ 0x601 ∧ (x.targets h).any (fun k => bitOf o.mask k && (x.nib k).full) = true))
            | _ => false)
        | _ => false) : Bool) = true) ∧
  -- orderEntryUnmatched
  (∃ (s : State) (d : Die) (c : Fin 8), (
      let x := s.cl d c.val
      decide (s.alive d) &&
      (match x.orders with
        | o :: _ => decide (¬ (x.held.any (fun h => decide (h.src = o.src ∧ h.seq = o.seq))))
        | _ => false) : Bool) = true) ∧
  -- localCopyDiscard
  (∃ (s : State) (d : Die) (c : Fin 8) (src : BitVec 16) (seq : BitVec 16), (
      let x := s.cl d c.val
      let is := fun (h : HeldEntry) => decide (h.src = src.toNat ∧ h.seq = seq.toNat ∧ h.stamp + 100000 ≤ x.lastOut)
      decide (s.alive d) &&
      decide (¬ (s.ordersOwn d c.val)) &&
      decide (x.held.any is) &&
      decide (¬ (x.orders.any (fun o => decide (o.src = src.toNat ∧ o.seq = seq.toNat)))) : Bool) = true) ∧
  -- twinLag
  (∃ (s : State) (d : Die) (c : Fin 8) (lag : BitVec 16), (
      decide (s.alive d) &&
      decide (¬ (s.ordersOwn d c.val)) &&
      decide (¬ ((s.cl d c.val).orders.isEmpty)) : Bool) = true) ∧
  -- clusterTick
  (∃ (s : State) (d : Die) (c : Fin 8) (t : Fin 16) (time : BitVec 64), (
      (match tget none (s.cl d c.val).ticks t.val with
        | some k => decide (time.toNat % k.period = k.phase % k.period)
        | _ => false) : Bool) = true) :=
  ⟨⟨live, 0, 0, 0, 0, [], false, by decide +kernel⟩,
   ⟨clAt (fun x => x) (fun x => x), 0, 0, [], by decide +kernel⟩,
   ⟨later (clAt (fun x => x) (fun x => x)), 0, 0, 0, 0, by decide +kernel⟩,
   ⟨clAt (fun x => x) (fun x => { x with orders := [⟨0, 0x51, 7, 1, false⟩], held := [⟨0x51, 7, 0, [], false, none, false⟩] }), 1, 0, by decide +kernel⟩,
   ⟨clAt (fun x => x) (fun x => { x with orders := [⟨0, 0x51, 7, 1, false⟩] }), 1, 0, by decide +kernel⟩,
   ⟨clAt (fun x => x) (fun x => { x with held := [⟨0x51, 7, 0, [], false, none, false⟩], lastOut := 200000 }), 1, 0, 0x51, 7, by decide +kernel⟩,
   ⟨clAt (fun x => x) (fun x => { x with orders := [⟨0, 0x51, 7, 1, false⟩] }), 1, 0, 0, by decide +kernel⟩,
   ⟨clAt (fun x => { x with ticks := [(0, some ⟨10000, 0⟩)] }) (fun x => x), 0, 0, 0, 0, by decide +kernel⟩⟩

/-- States and operands for the clauses of ClustersComplete that have hypotheses. -/
theorem witness_ClustersComplete :
  -- nibStart
  (∃ (s : State) (d : Die) (c : Fin 8), (
      decide (s.alive d) &&
      decide (s.dstate d = 2) &&
      decide (¬ ((s.cl d c.val).started)) &&
      decide ((s.todo d).all Rec.lateStep) &&
      decide (¬ (s.copyDue d)) : Bool) = true) ∧
  -- nibWatchdogExpiry
  (∃ (s : State) (n : NibId), (
      decide (s.alive n.d) &&
      decide ((s.nib n).run = .running) : Bool) = true) ∧
  -- imemWrite
  (∃ (s : State) (who : Initiator) (n : NibId) (word : Fin 2048) (v : Word) (mirror : Bool), (
      decide (s.alive n.d) &&
      decide (s.imemOk n who) : Bool) = true) ∧
  -- nbcHaltNib
  (∃ (s : State) (d : Die) (who : Initiator) (confirm : BitVec 16) (c : Fin 8) (k : BitVec 5), (
      decide (nbcOk who confirm) &&
      decide (s.alive d) : Bool) = true) ∧
  -- nbcResumeNib
  (∃ (s : State) (d : Die) (who : Initiator) (confirm : BitVec 16) (c : Fin 8) (k : BitVec 5), (
      decide (nbcOk who confirm) &&
      decide (s.alive d) &&
      decide (s.resumable c.val (fun i => decide (i = k.toNat))) : Bool) = true) ∧
  -- nbcHaltAll
  (∃ (s : State) (d : Die) (who : Initiator) (confirm : BitVec 16) (c : Fin 8), (
      decide (nbcOk who confirm) &&
      decide (s.alive d) : Bool) = true) ∧
  -- nbcResumeAll
  (∃ (s : State) (d : Die) (who : Initiator) (confirm : BitVec 16) (c : Fin 8), (
      decide (nbcOk who confirm) &&
      decide (s.alive d) &&
      decide (s.resumable c.val (fun _ => true)) : Bool) = true) ∧
  -- nbcRequestBist
  (∃ (s : State) (d : Die) (who : Initiator) (confirm : BitVec 16) (c : Fin 8), (
      decide (nbcOk who confirm) &&
      decide (s.alive d) : Bool) = true) ∧
  -- reloadComplete
  (∃ (s : State) (d : Die) (c : Fin 8), (
      decide (s.alive d) &&
      decide (s.clState d c.val = 5) &&
      decide ((s.cl d c.val).rejoin = .reload) &&
      decide (s.clRuns d.other c.val) &&
      decide (s.hasAuth d.other c.val) &&
      decide (s.linkFlows) : Bool) = true) ∧
  -- rejoinComplete
  (∃ (s : State) (d : Die) (c : Fin 8), (
      decide (s.alive d) &&
      decide (s.clState d c.val = 5) &&
      decide ((s.cl d c.val).rejoin = .cut) &&
      decide (s.clRuns d.other c.val) &&
      decide (¬ ((s.cl d.other c.val).nibs.any (fun e => e.2.queue.any (fun q => isCut q.src q.payload)))) : Bool) = true) ∧
  -- spareSubstitution
  (∃ (s : State) (d : Die) (c : Fin 8) (slot : Fin 32), (
      decide (s.alive d) &&
      decide (s.slotFails d c.val slot.val) &&
      decide ((s.hasAuth d c.val → s.clRuns d.other c.val)) &&
      (let serves := (List.range 30).find? (fun k => decide (s.slotFor d c.val k = some slot.val))
      decide (serves = none)) : Bool) = true) ∧
  -- spareSubstitution
  (∃ (s : State) (d : Die) (c : Fin 8) (slot : Fin 32), (
      decide (s.alive d) &&
      decide (s.slotFails d c.val slot.val) &&
      decide ((s.hasAuth d c.val → s.clRuns d.other c.val)) &&
      (let serves := (List.range 30).find? (fun k => decide (s.slotFor d c.val k = some slot.val))
      let retire := fun (st : State) =>
        let t := st.setF d (NBC_nRETIRE c.val) NBC_nRETIRE__SLOT (withBit (st.rd d (NBC_nRETIRE c.val)).toNat slot.val true)
        let t1 := if slot.val = 30 then t.setF d (NBC_nSPMAP c.val) NBC_nSPMAP__V30 0
          else if slot.val = 31 then t.setF d (NBC_nSPMAP c.val) NBC_nSPMAP__V31 0 else t
        t1.updCl d c.val (fun x => { x with bistFailed := x.bistFailed.filter (fun i => decide (i ≠ slot.val)) })
      (match serves with
        | some _ =>
          let s1 := retire (if s.hasAuth d c.val then s.moveToken c.val d.other else s)
          (match s1.freeSpares d c.val with
            | _ :: _ => true
            | _ => false)
        | _ => false)) : Bool) = true) ∧
  -- spareSubstitution
  (∃ (s : State) (d : Die) (c : Fin 8) (slot : Fin 32), (
      decide (s.alive d) &&
      decide (s.slotFails d c.val slot.val) &&
      decide ((s.hasAuth d c.val → s.clRuns d.other c.val)) &&
      (let serves := (List.range 30).find? (fun k => decide (s.slotFor d c.val k = some slot.val))
      let retire := fun (st : State) =>
        let t := st.setF d (NBC_nRETIRE c.val) NBC_nRETIRE__SLOT (withBit (st.rd d (NBC_nRETIRE c.val)).toNat slot.val true)
        let t1 := if slot.val = 30 then t.setF d (NBC_nSPMAP c.val) NBC_nSPMAP__V30 0
          else if slot.val = 31 then t.setF d (NBC_nSPMAP c.val) NBC_nSPMAP__V31 0 else t
        t1.updCl d c.val (fun x => { x with bistFailed := x.bistFailed.filter (fun i => decide (i ≠ slot.val)) })
      (match serves with
        | some _ =>
          let s1 := retire (if s.hasAuth d c.val then s.moveToken c.val d.other else s)
          decide (s1.freeSpares d c.val = [])
        | _ => false)) : Bool) = true) ∧
  -- clusterBist
  (∃ (s : State) (d : Die) (c : Fin 8) (failed : BitVec 32), (
      decide (s.bistOk d c.val) : Bool) = true) :=
  ⟨⟨withDstate 2, 0, 0, by decide +kernel⟩,
   ⟨(clAt (fun x => x) (fun x => x)).updNib ⟨0, 0, 0⟩ (fun x => { x with run := .running }), ⟨0, 0, 0⟩, by decide +kernel⟩,
   ⟨withDstate 2, .loader 0, ⟨0, 0, 0⟩, 0, 0, false, by decide +kernel⟩,
   ⟨live, 0, .mgmt 0, 0x3B5A, 0, 0, by decide +kernel⟩,
   ⟨(clAt (fun x => x) (fun x => x)).updNib ⟨0, 0, 0⟩ (fun x => { x with run := .haltedCmd }), 0, .mgmt 0, 0x3B5A, 0, 0, by decide +kernel⟩,
   ⟨live, 0, .mgmt 0, 0x3B5A, 0, by decide +kernel⟩,
   ⟨(clAt (fun x => x) (fun x => x)).updNib ⟨0, 0, 0⟩ (fun x => { x with run := .haltedCmd }), 0, .mgmt 0, 0x3B5A, 0, by decide +kernel⟩,
   ⟨live, 0, .mgmt 0, 0x3B5A, 0, by decide +kernel⟩,
   ⟨(clAt (fun x => x) (fun x => { x with rejoin := .reload })).setF 1 (NBC_nSTAT 0) NBC_nSTAT__STATE 5, 1, 0, by decide +kernel⟩,
   ⟨(clAt (fun x => x) (fun x => { x with rejoin := .cut })).setF 1 (NBC_nSTAT 0) NBC_nSTAT__STATE 5, 1, 0, by decide +kernel⟩,
   ⟨(clAt (fun x => { x with bistFailed := [30] }) (fun x => x)), 0, 0, 30, by decide +kernel⟩,
   ⟨(clAt (fun x => { x with bistFailed := [3] }) (fun x => x)), 0, 0, 3, by decide +kernel⟩,
   ⟨((clAt (fun x => { x with bistFailed := [3] }) (fun x => x)).setF 0 (NBC_nSPMAP 0) NBC_nSPMAP__V30 1).setF 0 (NBC_nSPMAP 0) NBC_nSPMAP__V31 1, 0, 0, 3, by decide +kernel⟩,
   ⟨clAt (fun x => x) (fun x => x), 1, 0, 0, by decide +kernel⟩⟩

/-- States and operands for the clauses of NibArithmeticCompletes that have hypotheses. -/
theorem witness_NibArithmeticCompletes :
  -- add
  (∃ (s : State) (n : NibId) (w : Word) (ecc : EccFind), (
      decide (s.nibMeets n w (aluRR 0x000) .plain) &&
      decide ((s.nib n).seqPc ≤ 0x1FFC) &&
      decide (ecc ≠ .badFetch) : Bool) = true) ∧
  -- sub
  (∃ (s : State) (n : NibId) (w : Word) (ecc : EccFind), (
      decide (s.nibMeets n w (aluRR 0x001) .plain) &&
      decide ((s.nib n).seqPc ≤ 0x1FFC) &&
      decide (ecc ≠ .badFetch) : Bool) = true) ∧
  -- opAnd
  (∃ (s : State) (n : NibId) (w : Word) (ecc : EccFind), (
      decide (s.nibMeets n w (aluRR 0x002) .plain) &&
      decide ((s.nib n).seqPc ≤ 0x1FFC) &&
      decide (ecc ≠ .badFetch) : Bool) = true) ∧
  -- opOr
  (∃ (s : State) (n : NibId) (w : Word) (ecc : EccFind), (
      decide (s.nibMeets n w (aluRR 0x003) .plain) &&
      decide ((s.nib n).seqPc ≤ 0x1FFC) &&
      decide (ecc ≠ .badFetch) : Bool) = true) ∧
  -- xor
  (∃ (s : State) (n : NibId) (w : Word) (ecc : EccFind), (
      decide (s.nibMeets n w (aluRR 0x004) .plain) &&
      decide ((s.nib n).seqPc ≤ 0x1FFC) &&
      decide (ecc ≠ .badFetch) : Bool) = true) ∧
  -- shl
  (∃ (s : State) (n : NibId) (w : Word) (ecc : EccFind), (
      decide (s.nibMeets n w (aluRR 0x005) .plain) &&
      decide ((s.nib n).seqPc ≤ 0x1FFC) &&
      decide (ecc ≠ .badFetch) : Bool) = true) ∧
  -- shr
  (∃ (s : State) (n : NibId) (w : Word) (ecc : EccFind), (
      decide (s.nibMeets n w (aluRR 0x006) .plain) &&
      decide ((s.nib n).seqPc ≤ 0x1FFC) &&
      decide (ecc ≠ .badFetch) : Bool) = true) ∧
  -- sar
  (∃ (s : State) (n : NibId) (w : Word) (ecc : EccFind), (
      decide (s.nibMeets n w (aluRR 0x007) .plain) &&
      decide ((s.nib n).seqPc ≤ 0x1FFC) &&
      decide (ecc ≠ .badFetch) : Bool) = true) ∧
  -- ror
  (∃ (s : State) (n : NibId) (w : Word) (ecc : EccFind), (
      decide (s.nibMeets n w (aluRR 0x008) .plain) &&
      decide ((s.nib n).seqPc ≤ 0x1FFC) &&
      decide (ecc ≠ .badFetch) : Bool) = true) ∧
  -- mul
  (∃ (s : State) (n : NibId) (w : Word) (ecc : EccFind), (
      decide (s.nibMeets n w (aluRR 0x009) .plain) &&
      decide ((s.nib n).seqPc ≤ 0x1FFC) &&
      decide (ecc ≠ .badFetch) : Bool) = true) ∧
  -- mulh
  (∃ (s : State) (n : NibId) (w : Word) (ecc : EccFind), (
      decide (s.nibMeets n w (aluRR 0x00A) .plain) &&
      decide ((s.nib n).seqPc ≤ 0x1FFC) &&
      decide (ecc ≠ .badFetch) : Bool) = true) ∧
  -- mulhu
  (∃ (s : State) (n : NibId) (w : Word) (ecc : EccFind), (
      decide (s.nibMeets n w (aluRR 0x00B) .plain) &&
      decide ((s.nib n).seqPc ≤ 0x1FFC) &&
      decide (ecc ≠ .badFetch) : Bool) = true) ∧
  -- min
  (∃ (s : State) (n : NibId) (w : Word) (ecc : EccFind), (
      decide (s.nibMeets n w (aluRR 0x00C) .plain) &&
      decide ((s.nib n).seqPc ≤ 0x1FFC) &&
      decide (ecc ≠ .badFetch) : Bool) = true) ∧
  -- max
  (∃ (s : State) (n : NibId) (w : Word) (ecc : EccFind), (
      decide (s.nibMeets n w (aluRR 0x00D) .plain) &&
      decide ((s.nib n).seqPc ≤ 0x1FFC) &&
      decide (ecc ≠ .badFetch) : Bool) = true) ∧
  -- minu
  (∃ (s : State) (n : NibId) (w : Word) (ecc : EccFind), (
      decide (s.nibMeets n w (aluRR 0x00E) .plain) &&
      decide ((s.nib n).seqPc ≤ 0x1FFC) &&
      decide (ecc ≠ .badFetch) : Bool) = true) ∧
  -- maxu
  (∃ (s : State) (n : NibId) (w : Word) (ecc : EccFind), (
      decide (s.nibMeets n w (aluRR 0x00F) .plain) &&
      decide ((s.nib n).seqPc ≤ 0x1FFC) &&
      decide (ecc ≠ .badFetch) : Bool) = true) ∧
  -- abs
  (∃ (s : State) (n : NibId) (w : Word) (ecc : EccFind), (
      decide (s.nibMeets n w opAbs .plain) &&
      decide ((s.nib n).seqPc ≤ 0x1FFC) &&
      decide (ecc ≠ .badFetch) : Bool) = true) ∧
  -- clz
  (∃ (s : State) (n : NibId) (w : Word) (ecc : EccFind), (
      decide (s.nibMeets n w opClz .plain) &&
      decide ((s.nib n).seqPc ≤ 0x1FFC) &&
      decide (ecc ≠ .badFetch) : Bool) = true) ∧
  -- cmp
  (∃ (s : State) (n : NibId) (w : Word) (ecc : EccFind), (
      decide (s.nibMeets n w opCmp .plain) &&
      decide ((s.nib n).seqPc ≤ 0x1FFC) &&
      decide (ecc ≠ .badFetch) : Bool) = true) ∧
  -- tst
  (∃ (s : State) (n : NibId) (w : Word) (ecc : EccFind), (
      decide (s.nibMeets n w opTst .plain) &&
      decide ((s.nib n).seqPc ≤ 0x1FFC) &&
      decide (ecc ≠ .badFetch) : Bool) = true) :=
  ⟨⟨nibAt 0x0448C000#32 (fun x => x), ⟨0, 0, 0⟩, 0x0448C000#32, .clean, by decide +kernel⟩,
   ⟨nibAt 0x0448C010#32 (fun x => x), ⟨0, 0, 0⟩, 0x0448C010#32, .clean, by decide +kernel⟩,
   ⟨nibAt 0x0448C020#32 (fun x => x), ⟨0, 0, 0⟩, 0x0448C020#32, .clean, by decide +kernel⟩,
   ⟨nibAt 0x0448C030#32 (fun x => x), ⟨0, 0, 0⟩, 0x0448C030#32, .clean, by decide +kernel⟩,
   ⟨nibAt 0x0448C040#32 (fun x => x), ⟨0, 0, 0⟩, 0x0448C040#32, .clean, by decide +kernel⟩,
   ⟨nibAt 0x0448C050#32 (fun x => x), ⟨0, 0, 0⟩, 0x0448C050#32, .clean, by decide +kernel⟩,
   ⟨nibAt 0x0448C060#32 (fun x => x), ⟨0, 0, 0⟩, 0x0448C060#32, .clean, by decide +kernel⟩,
   ⟨nibAt 0x0448C070#32 (fun x => x), ⟨0, 0, 0⟩, 0x0448C070#32, .clean, by decide +kernel⟩,
   ⟨nibAt 0x0448C080#32 (fun x => x), ⟨0, 0, 0⟩, 0x0448C080#32, .clean, by decide +kernel⟩,
   ⟨nibAt 0x0448C090#32 (fun x => x), ⟨0, 0, 0⟩, 0x0448C090#32, .clean, by decide +kernel⟩,
   ⟨nibAt 0x0448C0A0#32 (fun x => x), ⟨0, 0, 0⟩, 0x0448C0A0#32, .clean, by decide +kernel⟩,
   ⟨nibAt 0x0448C0B0#32 (fun x => x), ⟨0, 0, 0⟩, 0x0448C0B0#32, .clean, by decide +kernel⟩,
   ⟨nibAt 0x0448C0C0#32 (fun x => x), ⟨0, 0, 0⟩, 0x0448C0C0#32, .clean, by decide +kernel⟩,
   ⟨nibAt 0x0448C0D0#32 (fun x => x), ⟨0, 0, 0⟩, 0x0448C0D0#32, .clean, by decide +kernel⟩,
   ⟨nibAt 0x0448C0E0#32 (fun x => x), ⟨0, 0, 0⟩, 0x0448C0E0#32, .clean, by decide +kernel⟩,
   ⟨nibAt 0x0448C0F0#32 (fun x => x), ⟨0, 0, 0⟩, 0x0448C0F0#32, .clean, by decide +kernel⟩,
   ⟨nibAt 0x04480100#32 (fun x => x), ⟨0, 0, 0⟩, 0x04480100#32, .clean, by decide +kernel⟩,
   ⟨nibAt 0x04480110#32 (fun x => x), ⟨0, 0, 0⟩, 0x04480110#32, .clean, by decide +kernel⟩,
   ⟨nibAt 0x0408C200#32 (fun x => x), ⟨0, 0, 0⟩, 0x0408C200#32, .clean, by decide +kernel⟩,
   ⟨nibAt 0x0408C210#32 (fun x => x), ⟨0, 0, 0⟩, 0x0408C210#32, .clean, by decide +kernel⟩⟩

/-- States and operands for the clauses of NibImmediatesComplete that have hypotheses. -/
theorem witness_NibImmediatesComplete :
  -- addi
  (∃ (s : State) (n : NibId) (w : Word) (ecc : EccFind), (
      decide (s.nibMeets n w (opImm 0x08) .plain) &&
      decide ((s.nib n).seqPc ≤ 0x1FFC) &&
      decide (ecc ≠ .badFetch) : Bool) = true) ∧
  -- subi
  (∃ (s : State) (n : NibId) (w : Word) (ecc : EccFind), (
      decide (s.nibMeets n w (opImm 0x09) .plain) &&
      decide ((s.nib n).seqPc ≤ 0x1FFC) &&
      decide (ecc ≠ .badFetch) : Bool) = true) ∧
  -- andi
  (∃ (s : State) (n : NibId) (w : Word) (ecc : EccFind), (
      decide (s.nibMeets n w (opImm 0x0A) .plain) &&
      decide ((s.nib n).seqPc ≤ 0x1FFC) &&
      decide (ecc ≠ .badFetch) : Bool) = true) ∧
  -- ori
  (∃ (s : State) (n : NibId) (w : Word) (ecc : EccFind), (
      decide (s.nibMeets n w (opImm 0x0B) .plain) &&
      decide ((s.nib n).seqPc ≤ 0x1FFC) &&
      decide (ecc ≠ .badFetch) : Bool) = true) ∧
  -- xori
  (∃ (s : State) (n : NibId) (w : Word) (ecc : EccFind), (
      decide (s.nibMeets n w (opImm 0x0C) .plain) &&
      decide ((s.nib n).seqPc ≤ 0x1FFC) &&
      decide (ecc ≠ .badFetch) : Bool) = true) ∧
  -- cmpi
  (∃ (s : State) (n : NibId) (w : Word) (ecc : EccFind), (
      decide (s.nibMeets n w opCmpi .plain) &&
      decide ((s.nib n).seqPc ≤ 0x1FFC) &&
      decide (ecc ≠ .badFetch) : Bool) = true) ∧
  -- lui
  (∃ (s : State) (n : NibId) (w : Word) (ecc : EccFind), (
      decide (s.nibMeets n w opLui .plain) &&
      decide ((s.nib n).seqPc ≤ 0x1FFC) &&
      decide (ecc ≠ .badFetch) : Bool) = true) ∧
  -- shli
  (∃ (s : State) (n : NibId) (w : Word) (ecc : EccFind), (
      decide (s.nibMeets n w (opXar 0x00) .plain) &&
      decide ((s.nib n).seqPc ≤ 0x1FFC) &&
      decide (ecc ≠ .badFetch) &&
      decide (wPos w < 32) &&
      decide (wLen w = 0) : Bool) = true) ∧
  -- shri
  (∃ (s : State) (n : NibId) (w : Word) (ecc : EccFind), (
      decide (s.nibMeets n w (opXar 0x01) .plain) &&
      decide ((s.nib n).seqPc ≤ 0x1FFC) &&
      decide (ecc ≠ .badFetch) &&
      decide (wPos w < 32) &&
      decide (wLen w = 0) : Bool) = true) ∧
  -- sari
  (∃ (s : State) (n : NibId) (w : Word) (ecc : EccFind), (
      decide (s.nibMeets n w (opXar 0x02) .plain) &&
      decide ((s.nib n).seqPc ≤ 0x1FFC) &&
      decide (ecc ≠ .badFetch) &&
      decide (wPos w < 32) &&
      decide (wLen w = 0) : Bool) = true) ∧
  -- rori
  (∃ (s : State) (n : NibId) (w : Word) (ecc : EccFind), (
      decide (s.nibMeets n w (opXar 0x03) .plain) &&
      decide ((s.nib n).seqPc ≤ 0x1FFC) &&
      decide (ecc ≠ .badFetch) &&
      decide (wPos w < 32) &&
      decide (wLen w = 0) : Bool) = true) ∧
  -- sats
  (∃ (s : State) (n : NibId) (w : Word) (ecc : EccFind), (
      decide (s.nibMeets n w (opXar 0x08) .plain) &&
      decide ((s.nib n).seqPc ≤ 0x1FFC) &&
      decide (ecc ≠ .badFetch) &&
      decide (wPos w = 0) &&
      decide (wLen w < 32) : Bool) = true) ∧
  -- satu
  (∃ (s : State) (n : NibId) (w : Word) (ecc : EccFind), (
      decide (s.nibMeets n w (opXar 0x09) .plain) &&
      decide ((s.nib n).seqPc ≤ 0x1FFC) &&
      decide (ecc ≠ .badFetch) &&
      decide (wPos w = 0) &&
      decide (wLen w < 32) : Bool) = true) ∧
  -- rnd
  (∃ (s : State) (n : NibId) (w : Word) (ecc : EccFind), (
      decide (s.nibMeets n w opRnd .plain) &&
      decide ((s.nib n).seqPc ≤ 0x1FFC) &&
      decide (ecc ≠ .badFetch) &&
      decide (wLen w < 4) : Bool) = true) ∧
  -- mac
  (∃ (s : State) (n : NibId) (w : Word) (ecc : EccFind), (
      decide (s.nibMeets n w (opMacs 0) .plain) &&
      decide ((s.nib n).seqPc ≤ 0x1FFC) &&
      decide (ecc ≠ .badFetch) : Bool) = true) ∧
  -- macu
  (∃ (s : State) (n : NibId) (w : Word) (ecc : EccFind), (
      decide (s.nibMeets n w (opMacs 1) .plain) &&
      decide ((s.nib n).seqPc ≤ 0x1FFC) &&
      decide (ecc ≠ .badFetch) : Bool) = true) ∧
  -- msu
  (∃ (s : State) (n : NibId) (w : Word) (ecc : EccFind), (
      decide (s.nibMeets n w (opMacs 2) .plain) &&
      decide ((s.nib n).seqPc ≤ 0x1FFC) &&
      decide (ecc ≠ .badFetch) : Bool) = true) ∧
  -- mula
  (∃ (s : State) (n : NibId) (w : Word) (ecc : EccFind), (
      decide (s.nibMeets n w (opMulas 3) .plain) &&
      decide ((s.nib n).seqPc ≤ 0x1FFC) &&
      decide (ecc ≠ .badFetch) : Bool) = true) ∧
  -- mulau
  (∃ (s : State) (n : NibId) (w : Word) (ecc : EccFind), (
      decide (s.nibMeets n w (opMulas 4) .plain) &&
      decide ((s.nib n).seqPc ≤ 0x1FFC) &&
      decide (ecc ≠ .badFetch) : Bool) = true) ∧
  -- mfal
  (∃ (s : State) (n : NibId) (w : Word) (ecc : EccFind), (
      decide (s.nibMeets n w (opMfas 8) .plain) &&
      decide ((s.nib n).seqPc ≤ 0x1FFC) &&
      decide (ecc ≠ .badFetch) : Bool) = true) ∧
  -- mfah
  (∃ (s : State) (n : NibId) (w : Word) (ecc : EccFind), (
      decide (s.nibMeets n w (opMfas 9) .plain) &&
      decide ((s.nib n).seqPc ≤ 0x1FFC) &&
      decide (ecc ≠ .badFetch) : Bool) = true) ∧
  -- mta
  (∃ (s : State) (n : NibId) (w : Word) (ecc : EccFind), (
      decide (s.nibMeets n w (opMulas 10) .plain) &&
      decide ((s.nib n).seqPc ≤ 0x1FFC) &&
      decide (ecc ≠ .badFetch) : Bool) = true) :=
  ⟨⟨nibAt 0x2048C000#32 (fun x => x), ⟨0, 0, 0⟩, 0x2048C000#32, .clean, by decide +kernel⟩,
   ⟨nibAt 0x2448C000#32 (fun x => x), ⟨0, 0, 0⟩, 0x2448C000#32, .clean, by decide +kernel⟩,
   ⟨nibAt 0x2848C000#32 (fun x => x), ⟨0, 0, 0⟩, 0x2848C000#32, .clean, by decide +kernel⟩,
   ⟨nibAt 0x2C48C000#32 (fun x => x), ⟨0, 0, 0⟩, 0x2C48C000#32, .clean, by decide +kernel⟩,
   ⟨nibAt 0x3048C000#32 (fun x => x), ⟨0, 0, 0⟩, 0x3048C000#32, .clean, by decide +kernel⟩,
   ⟨nibAt 0x3408C000#32 (fun x => x), ⟨0, 0, 0⟩, 0x3408C000#32, .clean, by decide +kernel⟩,
   ⟨nibAt 0x38400000#32 (fun x => x), ⟨0, 0, 0⟩, 0x38400000#32, .clean, by decide +kernel⟩,
   ⟨nibAt 0x0C01F000#32 (fun x => x), ⟨0, 0, 0⟩, 0x0C01F000#32, .clean, by decide +kernel⟩,
   ⟨nibAt 0x0C01F001#32 (fun x => x), ⟨0, 0, 0⟩, 0x0C01F001#32, .clean, by decide +kernel⟩,
   ⟨nibAt 0x0C01F002#32 (fun x => x), ⟨0, 0, 0⟩, 0x0C01F002#32, .clean, by decide +kernel⟩,
   ⟨nibAt 0x0C01F003#32 (fun x => x), ⟨0, 0, 0⟩, 0x0C01F003#32, .clean, by decide +kernel⟩,
   ⟨nibAt 0x0C0001C8#32 (fun x => x), ⟨0, 0, 0⟩, 0x0C0001C8#32, .clean, by decide +kernel⟩,
   ⟨nibAt 0x0C0001C9#32 (fun x => x), ⟨0, 0, 0⟩, 0x0C0001C9#32, .clean, by decide +kernel⟩,
   ⟨nibAt 0x0C000090#32 (fun x => x), ⟨0, 0, 0⟩, 0x0C000090#32, .clean, by decide +kernel⟩,
   ⟨nibAt 0x0808C000#32 (fun x => x), ⟨0, 0, 0⟩, 0x0808C000#32, .clean, by decide +kernel⟩,
   ⟨nibAt 0x0808C010#32 (fun x => x), ⟨0, 0, 0⟩, 0x0808C010#32, .clean, by decide +kernel⟩,
   ⟨nibAt 0x0808C020#32 (fun x => x), ⟨0, 0, 0⟩, 0x0808C020#32, .clean, by decide +kernel⟩,
   ⟨nibAt 0x0808C030#32 (fun x => x), ⟨0, 0, 0⟩, 0x0808C030#32, .clean, by decide +kernel⟩,
   ⟨nibAt 0x0808C040#32 (fun x => x), ⟨0, 0, 0⟩, 0x0808C040#32, .clean, by decide +kernel⟩,
   ⟨nibAt 0x08400080#32 (fun x => x), ⟨0, 0, 0⟩, 0x08400080#32, .clean, by decide +kernel⟩,
   ⟨nibAt 0x08400090#32 (fun x => x), ⟨0, 0, 0⟩, 0x08400090#32, .clean, by decide +kernel⟩,
   ⟨nibAt 0x0808C0A0#32 (fun x => x), ⟨0, 0, 0⟩, 0x0808C0A0#32, .clean, by decide +kernel⟩⟩

/-- States and operands for the clauses of NibBitFieldsComplete that have hypotheses. -/
theorem witness_NibBitFieldsComplete :
  -- aclr
  (∃ (s : State) (n : NibId) (w : Word) (ecc : EccFind), (
      decide (s.nibMeets n w opAclr .plain) &&
      decide ((s.nib n).seqPc ≤ 0x1FFC) &&
      decide (ecc ≠ .badFetch) : Bool) = true) ∧
  -- ext
  (∃ (s : State) (n : NibId) (w : Word) (ecc : EccFind), (
      decide (s.nibMeets n w (opField 0) .plain) &&
      decide ((s.nib n).seqPc ≤ 0x1FFC) &&
      decide (ecc ≠ .badFetch) &&
      (let ps := fieldPos false (wPos w) (wLen w + 1)
      decide (inBounds 32 ps)) : Bool) = true) ∧
  -- exts
  (∃ (s : State) (n : NibId) (w : Word) (ecc : EccFind), (
      decide (s.nibMeets n w (opField 1) .plain) &&
      decide ((s.nib n).seqPc ≤ 0x1FFC) &&
      decide (ecc ≠ .badFetch) &&
      (let ps := fieldPos false (wPos w) (wLen w + 1)
      decide (inBounds 32 ps)) : Bool) = true) ∧
  -- extb
  (∃ (s : State) (n : NibId) (w : Word) (ecc : EccFind), (
      decide (s.nibMeets n w (opField 2) .plain) &&
      decide ((s.nib n).seqPc ≤ 0x1FFC) &&
      decide (ecc ≠ .badFetch) &&
      (let ps := fieldPos true (wPos w) (wLen w + 1)
      decide (inBounds 32 ps)) : Bool) = true) ∧
  -- extbs
  (∃ (s : State) (n : NibId) (w : Word) (ecc : EccFind), (
      decide (s.nibMeets n w (opField 3) .plain) &&
      decide ((s.nib n).seqPc ≤ 0x1FFC) &&
      decide (ecc ≠ .badFetch) &&
      (let ps := fieldPos true (wPos w) (wLen w + 1)
      decide (inBounds 32 ps)) : Bool) = true) ∧
  -- ins
  (∃ (s : State) (n : NibId) (w : Word) (ecc : EccFind), (
      decide (s.nibMeets n w (opField 4) .plain) &&
      decide ((s.nib n).seqPc ≤ 0x1FFC) &&
      decide (ecc ≠ .badFetch) &&
      (let ps := fieldPos false (wPos w) (wLen w + 1)
      decide (inBounds 32 ps)) : Bool) = true) ∧
  -- insb
  (∃ (s : State) (n : NibId) (w : Word) (ecc : EccFind), (
      decide (s.nibMeets n w (opField 6) .plain) &&
      decide ((s.nib n).seqPc ≤ 0x1FFC) &&
      decide (ecc ≠ .badFetch) &&
      (let ps := fieldPos true (wPos w) (wLen w + 1)
      decide (inBounds 32 ps)) : Bool) = true) ∧
  -- extA
  (∃ (s : State) (n : NibId) (w : Word) (ecc : EccFind), (
      decide (s.nibMeets n w (opFieldA 16) .plain) &&
      decide ((s.nib n).seqPc ≤ 0x1FFC) &&
      decide (ecc ≠ .badFetch) &&
      (let ps := fieldPos false (wPos w) (wLen w + 1)
      decide (inBounds 64 ps)) : Bool) = true) ∧
  -- extsA
  (∃ (s : State) (n : NibId) (w : Word) (ecc : EccFind), (
      decide (s.nibMeets n w (opFieldA 17) .plain) &&
      decide ((s.nib n).seqPc ≤ 0x1FFC) &&
      decide (ecc ≠ .badFetch) &&
      (let ps := fieldPos false (wPos w) (wLen w + 1)
      decide (inBounds 64 ps)) : Bool) = true) ∧
  -- extbA
  (∃ (s : State) (n : NibId) (w : Word) (ecc : EccFind), (
      decide (s.nibMeets n w (opFieldA 18) .plain) &&
      decide ((s.nib n).seqPc ≤ 0x1FFC) &&
      decide (ecc ≠ .badFetch) &&
      (let ps := fieldPos true (wPos w) (wLen w + 1)
      decide (inBounds 64 ps)) : Bool) = true) ∧
  -- extbsA
  (∃ (s : State) (n : NibId) (w : Word) (ecc : EccFind), (
      decide (s.nibMeets n w (opFieldA 19) .plain) &&
      decide ((s.nib n).seqPc ≤ 0x1FFC) &&
      decide (ecc ≠ .badFetch) &&
      (let ps := fieldPos true (wPos w) (wLen w + 1)
      decide (inBounds 64 ps)) : Bool) = true) ∧
  -- insA
  (∃ (s : State) (n : NibId) (w : Word) (ecc : EccFind), (
      decide (s.nibMeets n w (opFieldI 0x14) .plain) &&
      decide ((s.nib n).seqPc ≤ 0x1FFC) &&
      decide (ecc ≠ .badFetch) &&
      (let ps := fieldPos false (wPos w) (wLen w + 1)
      decide (inBounds 64 ps)) : Bool) = true) ∧
  -- insbA
  (∃ (s : State) (n : NibId) (w : Word) (ecc : EccFind), (
      decide (s.nibMeets n w (opFieldI 0x16) .plain) &&
      decide ((s.nib n).seqPc ≤ 0x1FFC) &&
      decide (ecc ≠ .badFetch) &&
      (let ps := fieldPos true (wPos w) (wLen w + 1)
      decide (inBounds 64 ps)) : Bool) = true) :=
  ⟨⟨nibAt 0x080000B0#32 (fun x => x), ⟨0, 0, 0⟩, 0x080000B0#32, .clean, by decide +kernel⟩,
   ⟨nibAt 0x100050C0#32 (fun x => x), ⟨0, 0, 0⟩, 0x100050C0#32, .clean, by decide +kernel⟩,
   ⟨nibAt 0x100050C1#32 (fun x => x), ⟨0, 0, 0⟩, 0x100050C1#32, .clean, by decide +kernel⟩,
   ⟨nibAt 0x100050C2#32 (fun x => x), ⟨0, 0, 0⟩, 0x100050C2#32, .clean, by decide +kernel⟩,
   ⟨nibAt 0x100050C3#32 (fun x => x), ⟨0, 0, 0⟩, 0x100050C3#32, .clean, by decide +kernel⟩,
   ⟨nibAt 0x100050C4#32 (fun x => x), ⟨0, 0, 0⟩, 0x100050C4#32, .clean, by decide +kernel⟩,
   ⟨nibAt 0x100050C6#32 (fun x => x), ⟨0, 0, 0⟩, 0x100050C6#32, .clean, by decide +kernel⟩,
   ⟨nibAt 0x100050D0#32 (fun x => x), ⟨0, 0, 0⟩, 0x100050D0#32, .clean, by decide +kernel⟩,
   ⟨nibAt 0x100050D1#32 (fun x => x), ⟨0, 0, 0⟩, 0x100050D1#32, .clean, by decide +kernel⟩,
   ⟨nibAt 0x100050D2#32 (fun x => x), ⟨0, 0, 0⟩, 0x100050D2#32, .clean, by decide +kernel⟩,
   ⟨nibAt 0x100050D3#32 (fun x => x), ⟨0, 0, 0⟩, 0x100050D3#32, .clean, by decide +kernel⟩,
   ⟨nibAt 0x100050D4#32 (fun x => x), ⟨0, 0, 0⟩, 0x100050D4#32, .clean, by decide +kernel⟩,
   ⟨nibAt 0x100050D6#32 (fun x => x), ⟨0, 0, 0⟩, 0x100050D6#32, .clean, by decide +kernel⟩⟩

/-- States and operands for the clauses of NibMemoryAndBranchesComplete that have hypotheses. -/
theorem witness_NibMemoryAndBranchesComplete :
  -- ldw
  (∃ (s : State) (n : NibId) (w : Word) (ecc : EccFind), (
      decide (s.nibMeets n w (opImm 0x10) .plain) &&
      decide ((s.nib n).seqPc ≤ 0x1FFC) &&
      decide (ecc ≠ .badFetch) &&
      (let e := s.nibNoted n ecc
      let a := nibAddr (e.nib n) w
      decide (a % 4 = 0) &&
      decide ((e.nibLoad n a 4).1.isSome) &&
      (match e.dataEcc n a ecc with
        | some u =>
          (match u.nibLoad n a 4 with
            | (some _, _) => true
            | _ => false)
        | _ => false)) : Bool) = true) ∧
  -- ldh
  (∃ (s : State) (n : NibId) (w : Word) (ecc : EccFind), (
      decide (s.nibMeets n w (opImm 0x11) .plain) &&
      decide ((s.nib n).seqPc ≤ 0x1FFC) &&
      decide (ecc ≠ .badFetch) &&
      (let e := s.nibNoted n ecc
      let a := nibAddr (e.nib n) w
      decide (a % 2 = 0) &&
      decide ((e.nibLoad n a 2).1.isSome) &&
      (match e.dataEcc n a ecc with
        | some u =>
          (match u.nibLoad n a 2 with
            | (some _, _) => true
            | _ => false)
        | _ => false)) : Bool) = true) ∧
  -- ldb
  (∃ (s : State) (n : NibId) (w : Word) (ecc : EccFind), (
      decide (s.nibMeets n w (opImm 0x12) .plain) &&
      decide ((s.nib n).seqPc ≤ 0x1FFC) &&
      decide (ecc ≠ .badFetch) &&
      (let e := s.nibNoted n ecc
      let a := nibAddr (e.nib n) w
      decide ((e.nibLoad n a 1).1.isSome) &&
      (match e.dataEcc n a ecc with
        | some u =>
          (match u.nibLoad n a 1 with
            | (some _, _) => true
            | _ => false)
        | _ => false)) : Bool) = true) ∧
  -- stw
  (∃ (s : State) (n : NibId) (w : Word) (ecc : EccFind), (
      decide (s.nibMeets n w (opImm 0x14) .plain) &&
      decide ((s.nib n).seqPc ≤ 0x1FFC) &&
      decide (ecc ≠ .badFetch) &&
      (let e := s.nibNoted n ecc
      let a := nibAddr (e.nib n) w
      decide (a % 4 = 0) &&
      (match e.nibStore n a 4 ((e.nib n).reg (wRd w)).toNat with
        | (some _, _) => true
        | _ => false)) : Bool) = true) ∧
  -- sth
  (∃ (s : State) (n : NibId) (w : Word) (ecc : EccFind), (
      decide (s.nibMeets n w (opImm 0x15) .plain) &&
      decide ((s.nib n).seqPc ≤ 0x1FFC) &&
      decide (ecc ≠ .badFetch) &&
      (let e := s.nibNoted n ecc
      let a := nibAddr (e.nib n) w
      decide (a % 2 = 0) &&
      (match e.nibStore n a 2 ((e.nib n).reg (wRd w)).toNat with
        | (some _, _) => true
        | _ => false)) : Bool) = true) ∧
  -- stb
  (∃ (s : State) (n : NibId) (w : Word) (ecc : EccFind), (
      decide (s.nibMeets n w (opImm 0x16) .plain) &&
      decide ((s.nib n).seqPc ≤ 0x1FFC) &&
      decide (ecc ≠ .badFetch) &&
      (let e := s.nibNoted n ecc
      let a := nibAddr (e.nib n) w
      (match e.nibStore n a 1 ((e.nib n).reg (wRd w)).toNat with
        | (some _, _) => true
        | _ => false)) : Bool) = true) ∧
  -- br
  (∃ (s : State) (n : NibId) (w : Word) (ecc : EccFind), (
      decide (s.nibMeets n w (opImm 0x18) .branch) &&
      decide (ecc ≠ .badFetch) &&
      decide (0xD < wRd w ∨ wRs w = 0) &&
      decide ((s.nib n).pc ≠ 0x1FFC) &&
      (let e := s.nibNoted n ecc
      let x := e.nib n
      decide (¬ condHolds (wRd w) x.flags (x.reg (wRs w)))) : Bool) = true) ∧
  -- br
  (∃ (s : State) (n : NibId) (w : Word) (ecc : EccFind), (
      decide (s.nibMeets n w (opImm 0x18) .branch) &&
      decide (ecc ≠ .badFetch) &&
      decide (0xD < wRd w ∨ wRs w = 0) &&
      decide ((s.nib n).pc ≠ 0x1FFC) &&
      (let e := s.nibNoted n ecc
      let x := e.nib n
      let a := brTarget x.pc w
      decide (condHolds (wRd w) x.flags (x.reg (wRs w))) &&
      decide (a % 4 = 0) &&
      decide (a < 0x2000)) : Bool) = true) ∧
  -- bal
  (∃ (s : State) (n : NibId) (w : Word) (ecc : EccFind), (
      decide (s.nibMeets n w opBal .branch) &&
      decide (ecc ≠ .badFetch) &&
      decide ((s.nib n).pc ≠ 0x1FFC) &&
      (let e := s.nibNoted n ecc
      let a := brTarget (e.nib n).pc w
      decide (a % 4 = 0) &&
      decide (a < 0x2000)) : Bool) = true) ∧
  -- opLoop
  (∃ (s : State) (n : NibId) (w : Word) (ecc : EccFind), (
      decide (s.nibMeets n w (opImm 0x1A) .special) &&
      decide (ecc ≠ .badFetch) &&
      decide (¬ (s.nib n).mode) &&
      (let e := s.nibNoted n ecc
      let x := e.nib n
      let count := w.toNat / 2 ^ 11 % 2 ^ 14
      let start := x.pc + 4
      let last := 4 * wEnd w
      decide (start ≤ last) &&
      decide ((if bitOf w.toNat 25 then x.lc1 = 0 ∧ (x.lc0 = 0 ∨ (x.ls0 ≤ start ∧ last < x.le0)) else x.lc0 = 0 ∧ x.lc1 = 0)) &&
      decide (count ≠ 0) &&
      decide ((s.nib n).seqPc ≤ 0x1FFC)) : Bool) = true) ∧
  -- opLoop
  (∃ (s : State) (n : NibId) (w : Word) (ecc : EccFind), (
      decide (s.nibMeets n w (opImm 0x1A) .special) &&
      decide (ecc ≠ .badFetch) &&
      decide (¬ (s.nib n).mode) &&
      (let e := s.nibNoted n ecc
      let x := e.nib n
      let count := w.toNat / 2 ^ 11 % 2 ^ 14
      let start := x.pc + 4
      let last := 4 * wEnd w
      decide (start ≤ last) &&
      decide ((if bitOf w.toNat 25 then x.lc1 = 0 ∧ (x.lc0 = 0 ∨ (x.ls0 ≤ start ∧ last < x.le0)) else x.lc0 = 0 ∧ x.lc1 = 0)) &&
      decide (count = 0) &&
      (let a := (match x.slotOf with | some sl => sl.target.getD (last + 4) | none => last + 4)
      decide (a ≤ 0x1FFC))) : Bool) = true) ∧
  -- loopr
  (∃ (s : State) (n : NibId) (w : Word) (ecc : EccFind), (
      decide (s.nibMeets n w opLoopr .special) &&
      decide (ecc ≠ .badFetch) &&
      decide (¬ (s.nib n).mode) &&
      (let e := s.nibNoted n ecc
      let x := e.nib n
      let count := (x.reg (wRs w)).toNat
      let start := x.pc + 4
      let last := 4 * wEnd w
      decide (start ≤ last) &&
      decide ((if bitOf w.toNat 25 then x.lc1 = 0 ∧ (x.lc0 = 0 ∨ (x.ls0 ≤ start ∧ last < x.le0)) else x.lc0 = 0 ∧ x.lc1 = 0)) &&
      decide (count ≠ 0) &&
      decide ((s.nib n).seqPc ≤ 0x1FFC)) : Bool) = true) ∧
  -- loopr
  (∃ (s : State) (n : NibId) (w : Word) (ecc : EccFind), (
      decide (s.nibMeets n w opLoopr .special) &&
      decide (ecc ≠ .badFetch) &&
      decide (¬ (s.nib n).mode) &&
      (let e := s.nibNoted n ecc
      let x := e.nib n
      let count := (x.reg (wRs w)).toNat
      let start := x.pc + 4
      let last := 4 * wEnd w
      decide (start ≤ last) &&
      decide ((if bitOf w.toNat 25 then x.lc1 = 0 ∧ (x.lc0 = 0 ∨ (x.ls0 ≤ start ∧ last < x.le0)) else x.lc0 = 0 ∧ x.lc1 = 0)) &&
      decide (count = 0) &&
      (let a := (match x.slotOf with | some sl => sl.target.getD (last + 4) | none => last + 4)
      decide (a ≤ 0x1FFC))) : Bool) = true) ∧
  -- nop
  (∃ (s : State) (n : NibId) (w : Word) (ecc : EccFind), (
      decide (s.nibMeets n w (opSys 0 false false false 0) .plain) &&
      decide ((s.nib n).seqPc ≤ 0x1FFC) &&
      decide (ecc ≠ .badFetch) : Bool) = true) ∧
  -- jr
  (∃ (s : State) (n : NibId) (w : Word) (ecc : EccFind), (
      decide (s.nibMeets n w (opSys 0x10 false true false 0) .branch) &&
      decide (ecc ≠ .badFetch) &&
      decide ((s.nib n).pc ≠ 0x1FFC) &&
      (let e := s.nibNoted n ecc
      let a := ((e.nib n).reg (wRs w)).toNat
      decide (a % 4 = 0) &&
      decide (a < 0x2000)) : Bool) = true) ∧
  -- jalr
  (∃ (s : State) (n : NibId) (w : Word) (ecc : EccFind), (
      decide (s.nibMeets n w (opSys 0x11 true true false 0) .branch) &&
      decide (ecc ≠ .badFetch) &&
      decide (wRd w ≠ wRs w) &&
      decide ((s.nib n).pc ≠ 0x1FFC) &&
      (let e := s.nibNoted n ecc
      let a := ((e.nib n).reg (wRs w)).toNat
      decide (a % 4 = 0) &&
      decide (a < 0x2000)) : Bool) = true) :=
  ⟨⟨nibAt 0x40480008#32 (fun x => x), ⟨0, 0, 0⟩, 0x40480008#32, .clean, by decide +kernel⟩,
   ⟨nibAt 0x44480008#32 (fun x => x), ⟨0, 0, 0⟩, 0x44480008#32, .clean, by decide +kernel⟩,
   ⟨nibAt 0x48480008#32 (fun x => x), ⟨0, 0, 0⟩, 0x48480008#32, .clean, by decide +kernel⟩,
   ⟨nibAt 0x50480008#32 (fun x => x), ⟨0, 0, 0⟩, 0x50480008#32, .clean, by decide +kernel⟩,
   ⟨nibAt 0x54480008#32 (fun x => x), ⟨0, 0, 0⟩, 0x54480008#32, .clean, by decide +kernel⟩,
   ⟨nibAt 0x58480008#32 (fun x => x), ⟨0, 0, 0⟩, 0x58480008#32, .clean, by decide +kernel⟩,
   ⟨nibAt 0x60400005#32 (fun x => x), ⟨0, 0, 0⟩, 0x60400005#32, .clean, by decide +kernel⟩,
   ⟨nibAt 0x60800005#32 (fun x => x), ⟨0, 0, 0⟩, 0x60800005#32, .clean, by decide +kernel⟩,
   ⟨nibAt 0x64000005#32 (fun x => x), ⟨0, 0, 0⟩, 0x64000005#32, .clean, by decide +kernel⟩,
   ⟨nibAt 0x68001850#32 (fun x => x), ⟨0, 0, 0⟩, 0x68001850#32, .clean, by decide +kernel⟩,
   ⟨nibAt 0x68000050#32 (fun x => x), ⟨0, 0, 0⟩, 0x68000050#32, .clean, by decide +kernel⟩,
   ⟨nibAt 0x6C040050#32 (fun x => x.setReg 1 3#32), ⟨0, 0, 0⟩, 0x6C040050#32, .clean, by decide +kernel⟩,
   ⟨nibAt 0x6C040050#32 (fun x => x), ⟨0, 0, 0⟩, 0x6C040050#32, .clean, by decide +kernel⟩,
   ⟨nibAt 0x74000000#32 (fun x => x), ⟨0, 0, 0⟩, 0x74000000#32, .clean, by decide +kernel⟩,
   ⟨nibAt 0x74040100#32 (fun x => x.setReg 1 0x200#32), ⟨0, 0, 0⟩, 0x74040100#32, .clean, by decide +kernel⟩,
   ⟨nibAt 0x77C40110#32 (fun x => x.setReg 1 0x200#32), ⟨0, 0, 0⟩, 0x77C40110#32, .clean, by decide +kernel⟩⟩

/-- States and operands for the clauses of NibControlCompletes that have hypotheses. -/
theorem witness_NibControlCompletes :
  -- trap
  (∃ (s : State) (n : NibId) (w : Word) (ecc : EccFind), (
      decide (s.nibMeets n w opTrap .special) &&
      decide ((s.nib n).seqPc ≤ 0x1FFC) &&
      decide (ecc ≠ .badFetch) : Bool) = true) ∧
  -- mfs
  (∃ (s : State) (n : NibId) (w : Word) (ecc : EccFind), (
      decide (s.nibMeets n w (opSys 8 true false true 0) .plain) &&
      decide ((s.nib n).seqPc ≤ 0x1FFC) &&
      decide (ecc ≠ .badFetch) &&
      decide (srLegal (s.nib n) (wRt w)) &&
      decide (wRt w ≠ 0x0C) : Bool) = true) ∧
  -- mfs
  (∃ (s : State) (n : NibId) (w : Word) (ecc : EccFind), (
      decide (s.nibMeets n w (opSys 8 true false true 0) .plain) &&
      decide ((s.nib n).seqPc ≤ 0x1FFC) &&
      decide (ecc ≠ .badFetch) &&
      decide (srLegal (s.nib n) (wRt w)) &&
      decide (wRt w = 0x0C) : Bool) = true) ∧
  -- mts
  (∃ (s : State) (n : NibId) (w : Word) (ecc : EccFind), (
      decide (s.nibMeets n w (opSys 9 false true true 0) .plain) &&
      decide ((s.nib n).seqPc ≤ 0x1FFC) &&
      decide (ecc ≠ .badFetch) &&
      decide (srLegal (s.nib n) (wRt w)) &&
      (let e := s.nibNoted n ecc
      let v := ((e.nib n).reg (wRs w)).toNat
      let addr := decide (wRt w = 5 ∨ wRt w = 6 ∨ wRt w = 8 ∨ wRt w = 9)
      decide (¬ (addr && decide (v % 4 ≠ 0))) &&
      decide (¬ (addr && decide (0x2000 ≤ v)))) : Bool) = true) ∧
  -- eret
  (∃ (s : State) (n : NibId) (w : Word) (ecc : EccFind), (
      decide (s.nibMeets n w (opSys 1 false false false 0) .special) &&
      decide (ecc ≠ .badFetch) &&
      decide ((s.nib n).mode) &&
      (let e := s.nibNoted n ecc
      let x := e.nib n
      decide (x.epc % 4 = 0) &&
      decide (x.epc ≤ 0x1FFC)) : Bool) = true) ∧
  -- wait
  (∃ (s : State) (n : NibId) (w : Word) (ecc : EccFind), (
      decide (s.nibMeets n w (opSys 2 false false false 0) .special) &&
      decide ((s.nib n).seqPc ≤ 0x1FFC) &&
      decide (ecc ≠ .badFetch) &&
      (let e := s.nibNoted n ecc
      let t := e.meetControl n
      let x := t.nib n
      decide (x.run = .haltedCmd)) : Bool) = true) ∧
  -- wait
  (∃ (s : State) (n : NibId) (w : Word) (ecc : EccFind), (
      decide (s.nibMeets n w (opSys 2 false false false 0) .special) &&
      decide ((s.nib n).seqPc ≤ 0x1FFC) &&
      decide (ecc ≠ .badFetch) &&
      (let e := s.nibNoted n ecc
      let t := e.meetControl n
      let x := t.nib n
      decide (x.run ≠ .haltedCmd) &&
      decide (firstTaken x.queue = none)) : Bool) = true) ∧
  -- wait
  (∃ (s : State) (n : NibId) (w : Word) (ecc : EccFind), (
      decide (s.nibMeets n w (opSys 2 false false false 0) .special) &&
      decide ((s.nib n).seqPc ≤ 0x1FFC) &&
      decide (ecc ≠ .badFetch) &&
      (let e := s.nibNoted n ecc
      let t := e.meetControl n
      let x := t.nib n
      decide (x.run ≠ .haltedCmd) &&
      (match firstTaken x.queue with
        | some q => decide ((q.line = none ∨ ¬ x.ie))
        | _ => false)) : Bool) = true) ∧
  -- wait
  (∃ (s : State) (n : NibId) (w : Word) (ecc : EccFind), (
      decide (s.nibMeets n w (opSys 2 false false false 0) .special) &&
      decide ((s.nib n).seqPc ≤ 0x1FFC) &&
      decide (ecc ≠ .badFetch) &&
      (let e := s.nibNoted n ecc
      let t := e.meetControl n
      let x := t.nib n
      decide (x.run ≠ .haltedCmd) &&
      (match firstTaken x.queue with
        | some q =>
          (match q.line with
            | some _ => decide (x.ie)
            | _ => false)
        | _ => false)) : Bool) = true) ∧
  -- sync
  (∃ (s : State) (n : NibId) (w : Word) (ecc : EccFind), (
      decide (s.nibMeets n w (opSys 3 false false false 0) .plain) &&
      decide ((s.nib n).seqPc ≤ 0x1FFC) &&
      decide (ecc ≠ .badFetch) : Bool) = true) ∧
  -- mset
  (∃ (s : State) (n : NibId) (w : Word) (ecc : EccFind), (
      decide (s.nibMeets n w (opSys 4 false false false 7) .mset) &&
      decide ((s.nib n).seqPc ≤ 0x1FFC) &&
      decide (ecc ≠ .badFetch) &&
      decide ((if (s.nib n).mode then bitOf w.toNat 2 else !bitOf w.toNat 1 && !bitOf w.toNat 2)) : Bool) = true) ∧
  -- mbxGet
  (∃ (s : State) (n : NibId) (w : Word) (ecc : EccFind), (
      decide ((s.nib n).prog = .gateway) &&
      decide (s.nibRuns n) : Bool) = true) ∧
  -- mbxGet
  (∃ (s : State) (n : NibId) (w : Word) (ecc : EccFind), (
      decide ((s.nib n).prog ≠ .gateway) &&
      decide (s.nibMeets n w (opSig 0x20 true false false) .plain) &&
      decide ((s.nib n).seqPc ≤ 0x1FFC) &&
      decide (ecc ≠ .badFetch) &&
      (let e := s.nibNoted n ecc
      let t := e.meetControl n
      let x := t.nib n
      decide (x.run = .haltedCmd)) : Bool) = true) ∧
  -- mbxGet
  (∃ (s : State) (n : NibId) (w : Word) (ecc : EccFind), (
      decide ((s.nib n).prog ≠ .gateway) &&
      decide (s.nibMeets n w (opSig 0x20 true false false) .plain) &&
      decide ((s.nib n).seqPc ≤ 0x1FFC) &&
      decide (ecc ≠ .badFetch) &&
      (let e := s.nibNoted n ecc
      let t := e.meetControl n
      let x := t.nib n
      decide (x.run ≠ .haltedCmd) &&
      decide (firstTaken x.queue = none)) : Bool) = true) ∧
  -- mbxGet
  (∃ (s : State) (n : NibId) (w : Word) (ecc : EccFind), (
      decide ((s.nib n).prog ≠ .gateway) &&
      decide (s.nibMeets n w (opSig 0x20 true false false) .plain) &&
      decide ((s.nib n).seqPc ≤ 0x1FFC) &&
      decide (ecc ≠ .badFetch) &&
      (let e := s.nibNoted n ecc
      let t := e.meetControl n
      let x := t.nib n
      decide (x.run ≠ .haltedCmd) &&
      (match firstTaken x.queue with
        | some _ => true
        | _ => false)) : Bool) = true) ∧
  -- mbxPut
  (∃ (s : State) (n : NibId) (w : Word) (ecc : EccFind), (
      decide (s.nibMeets n w (opSig 0x21 false true true) .plain) &&
      decide ((s.nib n).seqPc ≤ 0x1FFC) &&
      decide (ecc ≠ .badFetch) &&
      (let e := s.nibNoted n ecc
      let x := e.nib n
      let len := (x.reg (wRs w)).toNat
      let m := wRt w
      decide (len ≤ 2048) &&
      decide ((tget {} x.boxes m).held ≠ 0)) : Bool) = true) :=
  ⟨⟨nibAt 0x70000005#32 (fun x => x), ⟨0, 0, 0⟩, 0x70000005#32, .clean, by decide +kernel⟩,
   ⟨nibAt 0x74410080#32 (fun x => x), ⟨0, 0, 0⟩, 0x74410080#32, .clean, by decide +kernel⟩,
   ⟨nibAt 0x74430080#32 (fun x => x), ⟨0, 0, 0⟩, 0x74430080#32, .clean, by decide +kernel⟩,
   ⟨nibAt 0x74050090#32 (fun x => x), ⟨0, 0, 0⟩, 0x74050090#32, .clean, by decide +kernel⟩,
   ⟨nibAt 0x74000010#32 (fun x => { x with mode := true, epc := 0x200 }), ⟨0, 0, 0⟩, 0x74000010#32, .clean, by decide +kernel⟩,
   ⟨nibAt 0x74000020#32 (fun x => { x with queue := [⟨0x601, 0, 0, [0], false, false, false, none, 0, none⟩] }), ⟨0, 0, 0⟩, 0x74000020#32, .clean, by decide +kernel⟩,
   ⟨nibAt 0x74000020#32 (fun x => x), ⟨0, 0, 0⟩, 0x74000020#32, .clean, by decide +kernel⟩,
   ⟨nibAt 0x74000020#32 (fun x => { x with queue := [⟨0x51, 0, 0, [], false, false, false, none, 0, none⟩] }), ⟨0, 0, 0⟩, 0x74000020#32, .clean, by decide +kernel⟩,
   ⟨nibAt 0x74000020#32 (fun x => { x with ie := true, queue := [⟨0x51, 0, 0, [], false, false, false, some 2, 0, none⟩] }), ⟨0, 0, 0⟩, 0x74000020#32, .clean, by decide +kernel⟩,
   ⟨nibAt 0x74000030#32 (fun x => x), ⟨0, 0, 0⟩, 0x74000030#32, .clean, by decide +kernel⟩,
   ⟨nibAt 0x74000041#32 (fun x => x), ⟨0, 0, 0⟩, 0x74000041#32, .clean, by decide +kernel⟩,
   ⟨nibAt 0x80000200#32 (fun x => { x with prog := .gateway }), ⟨0, 0, 0⟩, 0x80000200#32, .clean, by decide +kernel⟩,
   ⟨nibAt 0x80400200#32 (fun x => { x with queue := [⟨0x601, 0, 0, [0], false, false, false, none, 0, none⟩] }), ⟨0, 0, 0⟩, 0x80400200#32, .clean, by decide +kernel⟩,
   ⟨nibAt 0x80400200#32 (fun x => x), ⟨0, 0, 0⟩, 0x80400200#32, .clean, by decide +kernel⟩,
   ⟨nibAt 0x80400200#32 (fun x => { x with queue := [⟨0x51, 0, 0, [], false, false, false, none, 0, none⟩] }), ⟨0, 0, 0⟩, 0x80400200#32, .clean, by decide +kernel⟩,
   ⟨nibAt 0x80048210#32 (fun x => { x with boxes := [(2, { kind := 1, target := 0, size := 1, held := 1 })] }), ⟨0, 0, 0⟩, 0x80048210#32, .clean, by decide +kernel⟩⟩

/-- States and operands for the clauses of NibSignalsComplete that have hypotheses. -/
theorem witness_NibSignalsComplete :
  -- dscLdU
  (∃ (s : State) (n : NibId) (w : Word) (ecc : EccFind), (
      decide (s.nibMeets n w (opSig 0 true true false) .plain) &&
      decide ((s.nib n).seqPc ≤ 0x1FFC) &&
      decide (ecc ≠ .badFetch) &&
      (let e := s.nibNoted n ecc
      let i := ((e.nib n).reg (wRs w)).toNat
      decide (i < 262144) &&
      decide (e.descOk n i) &&
      (match e.sigEcc n (descAddr i) i .read ecc with
        | some u => decide (u.descOk n i)
        | _ => false)) : Bool) = true) ∧
  -- dscLdS
  (∃ (s : State) (n : NibId) (w : Word) (ecc : EccFind), (
      decide (s.nibMeets n w (opSig 1 true true false) .plain) &&
      decide ((s.nib n).seqPc ≤ 0x1FFC) &&
      decide (ecc ≠ .badFetch) &&
      (let e := s.nibNoted n ecc
      let i := ((e.nib n).reg (wRs w)).toNat
      decide (i < 262144) &&
      decide (e.descOk n i) &&
      decide (e.sigOk n (shadowAddr i) 8 .read) &&
      (match e.sigEcc n (shadowAddr i) i .read ecc with
        | some u =>
          decide (u.descOk n i) &&
          decide (u.sigOk n (shadowAddr i) 8 .read)
        | _ => false)) : Bool) = true) ∧
  -- dscLdP
  (∃ (s : State) (n : NibId) (w : Word) (ecc : EccFind), (
      decide (s.nibMeets n w (opSig 2 true true true) .plain) &&
      decide ((s.nib n).seqPc ≤ 0x1FFC) &&
      decide (ecc ≠ .badFetch) &&
      (let e := s.nibNoted n ecc
      let i := ((e.nib n).reg (wRs w)).toNat
      decide (i < 65536) &&
      decide (e.sigOk n (pduAddr i) 32 .read) &&
      (match e.sigEcc n (pduAddr i) i .read ecc with
        | some u => decide (u.sigOk n (pduAddr i) 32 .read)
        | _ => false)) : Bool) = true) ∧
  -- dscLdF
  (∃ (s : State) (n : NibId) (w : Word) (ecc : EccFind), (
      decide (s.nibMeets n w (opSig 3 true true true) .plain) &&
      decide ((s.nib n).seqPc ≤ 0x1FFC) &&
      decide (ecc ≠ .badFetch) &&
      (let e := s.nibNoted n ecc
      let i := ((e.nib n).reg (wRs w)).toNat
      decide (i < 262144) &&
      decide (e.sigOk n (fanAddr i) 16 .read) &&
      (match e.sigEcc n (fanAddr i) i .read ecc with
        | some u => decide (u.sigOk n (fanAddr i) 16 .read)
        | _ => false)) : Bool) = true) ∧
  -- sclI
  (∃ (s : State) (n : NibId) (w : Word) (ecc : EccFind), (
      decide (s.nibMeets n w (opSig 8 false true false) .plain) &&
      decide ((s.nib n).seqPc ≤ 0x1FFC) &&
      decide (ecc ≠ .badFetch) &&
      (let e := s.nibNoted n ecc
      let i := ((e.nib n).reg (wRs w)).toNat
      decide (i < 262144) &&
      decide (e.descOk n i) &&
      (match e.sigEcc n (descAddr i) i .read ecc with
        | some u => decide (u.descOk n i)
        | _ => false)) : Bool) = true) ∧
  -- sclO
  (∃ (s : State) (n : NibId) (w : Word) (ecc : EccFind), (
      decide (s.nibMeets n w (opSig 9 false true false) .plain) &&
      decide ((s.nib n).seqPc ≤ 0x1FFC) &&
      decide (ecc ≠ .badFetch) &&
      (let e := s.nibNoted n ecc
      let i := ((e.nib n).reg (wRs w)).toNat
      decide (i < 262144) &&
      decide (e.sigOk n (fanAddr i) 16 .read) &&
      (match e.sigEcc n (fanAddr i) i .read ecc with
        | some u => decide (u.sigOk n (fanAddr i) 16 .read)
        | _ => false)) : Bool) = true) ∧
  -- dscStS
  (∃ (s : State) (n : NibId) (w : Word) (ecc : EccFind), (
      decide (s.nibMeets n w (opSig 0x10 false true false) .plain) &&
      decide ((s.nib n).seqPc ≤ 0x1FFC) &&
      decide (ecc ≠ .badFetch) &&
      (let e := s.nibNoted n ecc
      let i := ((e.nib n).reg (wRs w)).toNat
      decide (i < 262144) &&
      decide (e.sigOk n (shadowAddr i) 8 .write) &&
      (match e.sigEcc n (shadowAddr i) i .write ecc with
        | some u => decide (u.sigOk n (shadowAddr i) 8 .write)
        | _ => false)) : Bool) = true) ∧
  -- dscStP
  (∃ (s : State) (n : NibId) (w : Word) (ecc : EccFind), (
      decide (s.nibMeets n w (opSig 0x12 false true true) .plain) &&
      decide ((s.nib n).seqPc ≤ 0x1FFC) &&
      decide (ecc ≠ .badFetch) &&
      (let e := s.nibNoted n ecc
      let i := ((e.nib n).reg (wRs w)).toNat
      decide (i < 262144) &&
      decide (e.sigOk n (fanAddr i) 16 .read) &&
      decide (((e.nib n).reg (wRt w)).toNat < 2048) &&
      (match e.sigEcc n (fanAddr i) i .read ecc with
        | some u =>
          decide (u.sigOk n (fanAddr i) 16 .read) &&
          (let f := u.fan n.d i
          let off := ((u.nib n).reg (wRt w)).toNat
          let ps := fieldPos (fMsb f) (fStart f) (fLen f)
          decide (inBounds (8 * (2048 - off)) ps))
        | _ => false)) : Bool) = true) ∧
  -- dscStO
  (∃ (s : State) (n : NibId) (w : Word) (ecc : EccFind), (
      decide (s.nibMeets n w (opSig 0x13 false true true) .plain) &&
      decide ((s.nib n).seqPc ≤ 0x1FFC) &&
      decide (ecc ≠ .badFetch) &&
      (let e := s.nibNoted n ecc
      let i := ((e.nib n).reg (wRs w)).toNat
      decide (i < 262144) &&
      decide (e.sigOk n (fanAddr i) 16 .read) &&
      decide (((e.nib n).reg (wRt w)).toNat < 2048) &&
      (match e.sigEcc n (fanAddr i) i .read ecc with
        | some u =>
          decide (u.sigOk n (fanAddr i) 16 .read) &&
          (let f := u.fan n.d i
          let off := ((u.nib n).reg (wRt w)).toNat
          let ps := fieldPos (fMsb f) (fStart f) (fLen f)
          decide (inBounds (8 * (2048 - off)) ps))
        | _ => false)) : Bool) = true) ∧
  -- snsGet
  (∃ (s : State) (n : NibId) (w : Word) (ecc : EccFind), (
      decide (s.nibMeets n w opSns .plain) &&
      decide ((s.nib n).seqPc ≤ 0x1FFC) &&
      decide (ecc ≠ .badFetch) &&
      (let e := s.nibNoted n ecc
      let x := e.nib n
      let src := wImm w % 2 ^ 14
      decide (src ≠ 0x600) &&
      decide (x.subs.any (fun u => u.silent && decide (u.first ≤ src ∧ src ≤ u.last)) = true)) : Bool) = true) ∧
  -- tgetL
  (∃ (s : State) (n : NibId) (w : Word) (ecc : EccFind), (
      decide (s.nibMeets n w (opTio 0 false) .plain) &&
      decide ((s.nib n).seqPc ≤ 0x1FFC) &&
      decide (ecc ≠ .badFetch) : Bool) = true) ∧
  -- tgetH
  (∃ (s : State) (n : NibId) (w : Word) (ecc : EccFind), (
      decide (s.nibMeets n w (opTio 1 false) .plain) &&
      decide ((s.nib n).seqPc ≤ 0x1FFC) &&
      decide (ecc ≠ .badFetch) : Bool) = true) ∧
  -- ocmpLvl
  (∃ (s : State) (n : NibId) (w : Word) (ecc : EccFind), (
      decide (s.nibMeets n w (opTio 0x10 true) .plain) &&
      decide ((s.nib n).seqPc ≤ 0x1FFC) &&
      decide (ecc ≠ .badFetch) &&
      (let e := s.nibNoted n ecc
      let x := e.nib n
      let i := (x.reg (wRd w)).toNat
      decide (e.ownsLane n.d n.c.val i)) : Bool) = true) ∧
  -- ocmpPwm
  (∃ (s : State) (n : NibId) (w : Word) (ecc : EccFind), (
      decide (s.nibMeets n w (opTio 0x11 true) .plain) &&
      decide ((s.nib n).seqPc ≤ 0x1FFC) &&
      decide (ecc ≠ .badFetch) &&
      (let e := s.nibNoted n ecc
      let x := e.nib n
      let i := (x.reg (wRd w)).toNat
      let p := (x.reg (wRs w)).toNat
      let on := (x.reg (wRt w)).toNat
      decide (e.ownsLane n.d n.c.val i) &&
      decide (p % 2 = 0) &&
      decide (on % 2 = 0) &&
      decide (on ≤ p) &&
      decide (laneMinPeriod i ≤ p) &&
      decide (p ≤ 1000000000)) : Bool) = true) ∧
  -- crcStep
  (∃ (s : State) (n : NibId) (w : Word) (ecc : EccFind), (
      let width := wFn w / 4 % 4
      let poly := nibPoly width (wFlags w % 4)
      decide (s.nibMeets n w opCrc .plain) &&
      decide ((s.nib n).seqPc ≤ 0x1FFC) &&
      decide (ecc ≠ .badFetch) &&
      decide (wFn w < 16) &&
      decide (poly.isSome) : Bool) = true) ∧
  -- laneLevelApply
  (∃ (s : State) (d : Die) (lane : Fin 96), (
      (match (s.lane d lane.val).pend with
        | some (.level _ t) =>
          let l := s.lane d lane.val
          decide (s.alive d) &&
          decide (¬ l.pwm) &&
          decide (t ≤ s.ns d)
        | _ => false) : Bool) = true) ∧
  -- dscStX
  (∃ (s : State) (n : NibId) (w : Word) (ecc : EccFind), (
      decide (s.nibMeets n w (opSig 0x11 false true false) .plain) &&
      decide ((s.nib n).seqPc ≤ 0x1FFC) &&
      decide (ecc ≠ .badFetch) &&
      (let e := s.nibNoted n ecc
      let i := ((e.nib n).reg (wRs w)).toNat
      decide (i < 262144) &&
      decide (e.sigOk n (shadowAddr i) 8 .write) &&
      (match e.sigEcc n (shadowAddr i) i .write ecc with
        | some u => decide (u.sigOk n (shadowAddr i) 8 .write)
        | _ => false)) : Bool) = true) :=
  ⟨⟨regionAt (nibAt 0x80480000#32 (fun x => x)) 3 0x30000 0x30BFF 0x80000622 1, ⟨0, 0, 0⟩, 0x80480000#32, .clean, by decide +kernel⟩,
   ⟨regionAt (nibAt 0x80480010#32 (fun x => x)) 3 0x30000 0x30BFF 0x80000622 1, ⟨0, 0, 0⟩, 0x80480010#32, .clean, by decide +kernel⟩,
   ⟨regionAt (nibAt 0x80480020#32 (fun x => x)) 3 0x30000 0x30BFF 0x80000622 1, ⟨0, 0, 0⟩, 0x80480020#32, .clean, by decide +kernel⟩,
   ⟨regionAt (nibAt 0x80480030#32 (fun x => x)) 3 0x30000 0x30BFF 0x80000622 1, ⟨0, 0, 0⟩, 0x80480030#32, .clean, by decide +kernel⟩,
   ⟨regionAt (nibAt 0x80080080#32 (fun x => x)) 3 0x30000 0x30BFF 0x80000622 1, ⟨0, 0, 0⟩, 0x80080080#32, .clean, by decide +kernel⟩,
   ⟨regionAt (nibAt 0x80080090#32 (fun x => x)) 3 0x30000 0x30BFF 0x80000622 1, ⟨0, 0, 0⟩, 0x80080090#32, .clean, by decide +kernel⟩,
   ⟨regionAt (nibAt 0x80080100#32 (fun x => x)) 3 0x30000 0x30BFF 0x80000622 1, ⟨0, 0, 0⟩, 0x80080100#32, .clean, by decide +kernel⟩,
   ⟨regionAt (nibAt 0x80080120#32 (fun x => x)) 3 0x30000 0x30BFF 0x80000622 1, ⟨0, 0, 0⟩, 0x80080120#32, .clean, by decide +kernel⟩,
   ⟨regionAt (nibAt 0x80080130#32 (fun x => x)) 3 0x30000 0x30BFF 0x80000622 1, ⟨0, 0, 0⟩, 0x80080130#32, .clean, by decide +kernel⟩,
   ⟨nibAt 0x84400051#32 (fun x => { x with subs := [⟨0x51, 0x51, true, none⟩] }), ⟨0, 0, 0⟩, 0x84400051#32, .clean, by decide +kernel⟩,
   ⟨nibAt 0x88400000#32 (fun x => x), ⟨0, 0, 0⟩, 0x88400000#32, .clean, by decide +kernel⟩,
   ⟨nibAt 0x88400010#32 (fun x => x), ⟨0, 0, 0⟩, 0x88400010#32, .clean, by decide +kernel⟩,
   ⟨((nibAt 0x8848C100#32 (fun x => x.setReg 1 80#32)).setF 0 (NBC_nCFG 0) NBC_nCFG__LANES 1), ⟨0, 0, 0⟩, 0x8848C100#32, .clean, by decide +kernel⟩,
   ⟨((nibAt 0x8848C110#32 (fun x => ((x.setReg 1 80#32).setReg 2 20000#32).setReg 3 10000#32)).setF 0 (NBC_nCFG 0) NBC_nCFG__LANES 1), ⟨0, 0, 0⟩, 0x8848C110#32, .clean, by decide +kernel⟩,
   ⟨nibAt 0x8C480000#32 (fun x => x), ⟨0, 0, 0⟩, 0x8C480000#32, .clean, by decide +kernel⟩,
   ⟨live.updLane 0 5 (fun l => { l with pend := some (.level true 0) }), 0, 5, by decide +kernel⟩,
   ⟨regionAt (nibAt 0x80080110#32 (fun x => x)) 3 0x30000 0x30BFF 0x80000622 1, ⟨0, 0, 0⟩, 0x80080110#32, .clean, by decide +kernel⟩⟩

/-- States and operands for the clauses of SignalGatewayCompletes that have hypotheses. -/
theorem witness_SignalGatewayCompletes :
  -- shadowAgeingPass
  (∃ (s : State) (d : Die), (
      decide (s.alive d) : Bool) = true) ∧
  -- otailWrite
  (∃ (s : State) (d : Die) (who : Initiator) (p : Fin 32) (v : Word), (
      decide (s.alive d) &&
      decide (isPart who p.val) : Bool) = true) ∧
  -- outboundItem
  (∃ (s : State) (p : Fin 32), (
      let d := s.homeDie p.val
      decide (s.alive d) &&
      decide (s.bit d (SGW_PpGEOM p.val) SGW_PpGEOM__USED) &&
      decide (s.rd d (SGW_PpOTAIL p.val) ≠ s.rd d (SGW_PpOHEAD p.val)) &&
      decide (¬ ((tget none (s.vol.get d).gw.taking p.val).isSome)) : Bool) = true) ∧
  -- iheadWrite
  (∃ (s : State) (d : Die) (who : Initiator) (p : Fin 32) (v : Word), (
      decide (s.alive d) &&
      decide (isPart who p.val) : Bool) = true) ∧
  -- ecmdRead
  (∃ (s : State) (d : Die) (who : Initiator) (table : BitVec 2) (index : BitVec 18), (
      let t := table.toNat
      decide (s.sgwOk d who) &&
      decide (s.fld d SGW_ERES SGW_ERES__STATE ≠ 1) &&
      decide (t ≠ 3) &&
      decide (index.toNat < tableCount t) : Bool) = true) ∧
  -- ecmdWrite
  (∃ (s : State) (d : Die) (who : Initiator) (table : BitVec 2) (index : BitVec 18) (mirror : Bool) (clear : Bool), (
      decide (s.sgwOk d who) &&
      decide (s.fld d SGW_ERES SGW_ERES__STATE ≠ 1) : Bool) = true) ∧
  -- invalidateOne
  (∃ (s : State) (d : Die) (who : Initiator) (index : BitVec 18) (mirror : Bool), (
      decide (s.sgwOk d who) : Bool) = true) ∧
  -- invalidateAll
  (∃ (s : State) (d : Die) (who : Initiator) (mirror : Bool), (
      decide (s.sgwOk d who) : Bool) = true) ∧
  -- invalidationComplete
  (∃ (s : State) (d : Die), (
      decide (s.alive d) &&
      decide (s.fld d SGW_INVRES SGW_INVRES__STATE = 1) : Bool) = true) ∧
  -- generationSweep
  (∃ (s : State) (d : Die) (c : Fin 8), (
      decide (s.alive d) : Bool) = true) ∧
  -- signalStoreCopy
  (∃ (s : State) (d : Die), (
      decide (s.copyDue d) &&
      decide (s.linkFlows) : Bool) = true) ∧
  -- signalStoreEccError
  (∃ (s : State) (d : Die) (addr : BitVec 32) (corrected : Bool), (
      let a := addr.toNat / 8 * 8
      decide (s.alive d) &&
      decide (0x30000000 ≤ a) &&
      decide (a < 0x30C00000) : Bool) = true) ∧
  -- tidxWrite
  (∃ (s : State) (d : Die) (who : Initiator) (index : BitVec 18), (
      decide (s.sgwOk d who) : Bool) = true) :=
  ⟨⟨live, 0, by decide +kernel⟩,
   ⟨live, 0, .part 0, 0, 0, by decide +kernel⟩,
   ⟨(live.setF 0 (SGW_PpGEOM 1) SGW_PpGEOM__USED 1).wr 0 (SGW_PpOTAIL 1) 1#32, 1, by decide +kernel⟩,
   ⟨live, 0, .part 0, 0, 0, by decide +kernel⟩,
   ⟨live, 0, .mgmt 0, 0, 0, by decide +kernel⟩,
   ⟨live, 0, .mgmt 0, 1, 0, false, false, by decide +kernel⟩,
   ⟨live, 0, .mgmt 0, 0, false, by decide +kernel⟩,
   ⟨live, 0, .mgmt 0, false, by decide +kernel⟩,
   ⟨live.setF 0 SGW_INVRES SGW_INVRES__STATE 1, 0, by decide +kernel⟩,
   ⟨live, 0, 0, by decide +kernel⟩,
   ⟨live.setF 0 UPD_DSTAT UPD_DSTAT__STATE 2, 0, by decide +kernel⟩,
   ⟨live, 0, 0x30000000, false, by decide +kernel⟩,
   ⟨live, 0, .mgmt 0, 0, by decide +kernel⟩⟩

/-- States and operands for the clauses of CanCompletes that have hypotheses. -/
theorem witness_CanCompletes :
  -- shadowFrameTimeout
  (∃ (s : State) (d : Die) (c : Fin 16) (part : Bool), (
      decide ((s.fbSel c).die ≠ d) &&
      (match (if part then (s.fb d c).partQ else (s.fb d c).nibQ) with
        | _ :: _ => true
        | _ => false) : Bool) = true) ∧
  -- selectorChange
  (∃ (s : State) (i : Fin 28), (
      (match (s.fbSel i).pend with
        | some _ => true
        | _ => false) : Bool) = true) ∧
  -- controllerSilent
  (∃ (s : State) (i : Fin 28), (
      let d := (s.fbSel i).die
      decide (¬ (s.alive d && s.clocked d 15)) : Bool) = true) ∧
  -- canFrameSent
  (∃ (s : State) (c : Fin 16) (good : Bool), (
      let d := (s.fbSel c).die
      decide (s.alive d) &&
      decide (s.canOn d c) &&
      (match bestItem ((s.fb d c).nibQ ++ (s.fb d c).partQ) with
        | some _ => true
        | _ => false) : Bool) = true) ∧
  -- busOff
  (∃ (s : State) (c : Fin 16), (
      let d := (s.fbSel c).die
      decide (s.canOn d c) : Bool) = true) ∧
  -- canRestart
  (∃ (s : State) (d : Die) (who : Initiator) (c : Fin 16) (confirm : BitVec 8), (
      decide (s.alive d) &&
      decide (s.mayField d who c) &&
      decide (confirm = 0x5A#8) &&
      decide (s.fld d (FBB_CcSTAT c) FBB_CcSTAT__STATE = 5) : Bool) = true) ∧
  -- canStandby
  (∃ (s : State) (d : Die) (who : Initiator) (c : Fin 16) (confirm : BitVec 8), (
      decide (s.alive d) &&
      decide (s.mayField d who c) &&
      decide (confirm = 0x5A#8) &&
      decide (s.fld d (FBB_CcSTAT c) FBB_CcSTAT__STATE ≠ 0) : Bool) = true) ∧
  -- canNormal
  (∃ (s : State) (d : Die) (who : Initiator) (c : Fin 16) (confirm : BitVec 8), (
      decide (s.alive d) &&
      decide (s.mayField d who c) &&
      decide (confirm = 0x5A#8) &&
      decide (s.fld d (FBB_CcSTAT c) FBB_CcSTAT__STATE = 6) : Bool) = true) ∧
  -- canIntegrated
  (∃ (s : State) (d : Die) (c : Fin 16), (
      decide (s.alive d) &&
      decide (s.fld d (FBB_CcSTAT c.val) FBB_CcSTAT__STATE = 1) : Bool) = true) :=
  ⟨⟨live.updFb 1 0 (fun x => { x with nibQ := [⟨{}, none, 0⟩] }), 1, 0, false, by decide +kernel⟩,
   ⟨live.updFbSel 0 (fun x => { x with pend := some 1 }), 0, by decide +kernel⟩,
   ⟨live.wr 0 ISL_RUN 0#32, 0, by decide +kernel⟩,
   ⟨(live.setF 0 (FBB_CcSTAT 0) FBB_CcSTAT__STATE 3).updFb 0 0 (fun x => { x with nibQ := [⟨{}, none, 0⟩] }), 0, false, by decide +kernel⟩,
   ⟨live.setF 0 (FBB_CcSTAT 0) FBB_CcSTAT__STATE 3, 0, by decide +kernel⟩,
   ⟨live.setF 0 (FBB_CcSTAT 0) FBB_CcSTAT__STATE 5, 0, .mgmt 0, 0, 0x5A, by decide +kernel⟩,
   ⟨live.setF 0 (FBB_CcSTAT 0) FBB_CcSTAT__STATE 3, 0, .mgmt 0, 0, 0x5A, by decide +kernel⟩,
   ⟨live.setF 0 (FBB_CcSTAT 0) FBB_CcSTAT__STATE 6, 0, .mgmt 0, 0, 0x5A, by decide +kernel⟩,
   ⟨live.setF 0 (FBB_CcSTAT 0) FBB_CcSTAT__STATE 1, 0, 0, by decide +kernel⟩⟩

/-- States and operands for the clauses of LinSatelliteAndSenseComplete that have hypotheses. -/
theorem witness_LinSatelliteAndSenseComplete :
  -- linRunRange
  (∃ (s : State) (d : Die) (who : Initiator) (l : Fin 12) (first : BitVec 6) (count : BitVec 7) (confirm : BitVec 8), (
      let i := 16 + l.val
      decide (s.alive d) &&
      decide (s.mayField d who i) &&
      decide (confirm = 0x5A#8) &&
      decide (s.bit d (FBB_CcCFG i) FBB_LlCFG__MASTER) &&
      decide (1 ≤ count.toNat) &&
      decide (first.toNat + count.toNat ≤ 64) : Bool) = true) ∧
  -- linGoToSleep
  (∃ (s : State) (d : Die) (who : Initiator) (l : Fin 12) (confirm : BitVec 8), (
      let i := 16 + l.val
      decide (s.alive d) &&
      decide (s.mayField d who i) &&
      decide (confirm = 0x5A#8) &&
      decide (s.bit d (FBB_CcCFG i) FBB_LlCFG__MASTER) &&
      decide (s.fld d (FBB_CcSTAT i) FBB_LlSTAT__STATE = 2) : Bool) = true) ∧
  -- linSendWakeup
  (∃ (s : State) (d : Die) (who : Initiator) (l : Fin 12) (confirm : BitVec 8), (
      let i := 16 + l.val
      decide (s.alive d) &&
      decide (s.mayField d who i) &&
      decide (confirm = 0x5A#8) &&
      decide (s.fld d (FBB_CcSTAT i) FBB_LlSTAT__STATE ≠ 0) : Bool) = true) ∧
  -- linWake
  (∃ (s : State) (l : Fin 12), (
      let i := 16 + l.val
      decide (s.fld s.anyDie (FBB_CcSTAT i) FBB_LlSTAT__STATE = 1) : Bool) = true) ∧
  -- satelliteBusGrant
  (∃ (s : State) (b : Fin 4), (
      let x := s.sat b
      let may := x.waiting.filter (fun a => match x.lock with
        | some l => decide (a.die = l.die ∧ a.who = l.who)
        | none => true)
      let first := match may.find? (fun a => decide (a.die ≠ x.last)) with
        | some a => some a
        | none => may.head?
      decide (¬ x.running.isSome) &&
      (match first with
        | some _ => true
        | _ => false) : Bool) = true) ∧
  -- satelliteBusTimeout
  (∃ (s : State) (b : Fin 4) (d : Die), (
      (match (s.sat b).waiting.find? (fun a => decide (a.die = d)) with
        | some _ => true
        | _ => false) : Bool) = true) ∧
  -- satelliteTransactionEnd
  (∃ (s : State) (b : Fin 4) (data : List Byte) (crc : BitVec 8), (
      (match (s.sat b).running with
        | some _ => true
        | _ => false) : Bool) = true) ∧
  -- satelliteLockTimeout
  (∃ (s : State) (b : Fin 4) (age : BitVec 16), (
      (match (s.sat b).lock with
        | some _ => true
        | _ => false) : Bool) = true) :=
  ⟨⟨(live.setF 0 (FBB_CcCFG 16) FBB_LlCFG__MASTER 1).setF 0 (FBB_CcSTAT 16) FBB_LlSTAT__STATE 2, 0, .mgmt 0, 0, 0, 1, 0x5A, by decide +kernel⟩,
   ⟨(live.setF 0 (FBB_CcCFG 16) FBB_LlCFG__MASTER 1).setF 0 (FBB_CcSTAT 16) FBB_LlSTAT__STATE 2, 0, .mgmt 0, 0, 0x5A, by decide +kernel⟩,
   ⟨(live.setF 0 (FBB_CcCFG 16) FBB_LlCFG__MASTER 1).setF 0 (FBB_CcSTAT 16) FBB_LlSTAT__STATE 1, 0, .mgmt 0, 0, 0x5A, by decide +kernel⟩,
   ⟨(live.setF 0 (FBB_CcCFG 16) FBB_LlCFG__MASTER 1).setF 0 (FBB_CcSTAT 16) FBB_LlSTAT__STATE 1, 0, by decide +kernel⟩,
   ⟨live.updSat 0 (fun x => { x with waiting := [⟨0, 0, 0, false, 0, [], .none, none⟩] }), 0, by decide +kernel⟩,
   ⟨live.updSat 0 (fun x => { x with waiting := [⟨0, 0, 0, false, 0, [], .none, none⟩] }), 0, 0, by decide +kernel⟩,
   ⟨live.updSat 0 (fun x => { x with running := some ⟨0, 0, 0, false, 0, [], .none, none⟩ }), 0, [], 0, by decide +kernel⟩,
   ⟨live.updSat 0 (fun x => { x with lock := some ⟨0, 0, 0, false, 0, [], .none, none⟩ }), 0, 0, by decide +kernel⟩⟩

/-- States and operands for the clauses of EthernetPortsComplete that have hypotheses. -/
theorem witness_EthernetPortsComplete :
  -- pauseExpiry
  (∃ (s : State) (d : Die) (p : Fin 24) (cls : Fin 8), (
      decide (¬ (s.paused d p cls)) : Bool) = true) ∧
  -- pauseRepeat
  (∃ (s : State) (d : Die) (p : Fin 24), (
      let bits := s.fld d (SWC_PpOCC p) SWC_PpOCC__XOFF
      decide (bits ≠ 0) &&
      decide (s.fld d (MAC_CFG p) MAC_CFG__FCMODE ≠ 0) &&
      decide (¬ ((s.mac d p).ctl.contains (bits, true))) : Bool) = true) ∧
  -- linkChange
  (∃ (s : State) (p : Fin 24) (up : Bool) (sqi : BitVec 3), (
      decide (¬ (up ∧ !s.portOn p)) &&
      decide ((s.port p).link ≠ up) : Bool) = true) ∧
  -- portSelectorChange
  (∃ (s : State) (p : Fin 24), (
      let e := (s.port p).die
      (match (s.port p).pend with
        | some _ =>
          decide (¬ ((s.mac e p).preempted.isSome)) &&
          decide (¬ ((s.swc e).awaiting.any (fun x => decide (x.port = p.val))))
        | _ => false) : Bool) = true) ∧
  -- macSilent
  (∃ (s : State) (p : Fin 24), (
      let d := (s.port p).die
      decide (¬ (s.alive d && s.clocked d 13)) : Bool) = true) ∧
  -- macTransmit
  (∃ (s : State) (d : Die) (p : Fin 24) (busy : Bool) (frags : BitVec 8), (
      decide (s.macConnected d p) : Bool) = true) ∧
  -- transmitEcho
  (∃ (s : State) (d : Die) (p : Fin 24) (len : BitVec 16) (fcs : BitVec 32), (
      decide ((s.port p).die ≠ d) &&
      decide (s.alive d) : Bool) = true) ∧
  -- echoTimeout
  (∃ (s : State) (d : Die) (p : Fin 24), (
      (match (s.mac d p).echoes with
        | _ :: _ => true
        | _ => false) : Bool) = true) ∧
  -- collision
  (∃ (s : State) (d : Die) (p : Fin 24) (late : Bool), (
      (match (s.mac d p).tx with
        | some _ => decide (s.csma d p)
        | _ => false) : Bool) = true) ∧
  -- forcedCollision
  (∃ (s : State) (d : Die) (p : Fin 24), (
      decide (s.macConnected d p) &&
      decide (isSb p) &&
      decide (s.fld d (MAC_CFG p) MAC_CFG__ROLE = 0) &&
      decide (s.bit d (MAC_CFG p) MAC_CFG__FORCECOL) &&
      decide (s.fld d (SWC_PpOCC p) SWC_PpOCC__XOFF ≠ 0) : Bool) = true) ∧
  -- lpiEntry
  (∃ (s : State) (d : Die) (p : Fin 24), (
      decide (s.macConnected d p) &&
      decide (s.bit d (MAC_CFG p) MAC_CFG__EEEEN) &&
      decide (¬ (s.bit d (MAC_STAT p) MAC_STAT__LPITX)) &&
      decide (¬ (s.hasWork d p)) : Bool) = true) ∧
  -- eeewakeWrite
  (∃ (s : State) (d : Die) (who : Initiator) (p : Fin 24) (v : Word), (
      decide (s.mayMac d who p) : Bool) = true) ∧
  -- verifyTimeout
  (∃ (s : State) (d : Die) (p : Fin 24) (answered : Bool), (
      (match (s.mac d p).verify with
        | some _ => true
        | _ => false) : Bool) = true) ∧
  -- macRetrain
  (∃ (s : State) (d : Die) (who : Initiator) (p : Fin 24) (confirm : BitVec 8), (
      decide (s.mayMac d who p) &&
      decide (confirm = 0xC5#8) : Bool) = true) ∧
  -- macRepeatVerify
  (∃ (s : State) (d : Die) (who : Initiator) (p : Fin 24) (confirm : BitVec 8), (
      decide (s.mayMac d who p) &&
      decide (confirm = 0xC5#8) &&
      decide (s.bit d (MAC_CFG p) MAC_CFG__PREEN) : Bool) = true) ∧
  -- receiveLpi
  (∃ (s : State) (d : Die) (p : Fin 24) (enter : Bool), (
      decide (s.alive d) &&
      decide (s.bit d (MAC_CFG p) MAC_CFG__EEEEN) &&
      decide ((s.port p).link) : Bool) = true) :=
  ⟨⟨live, 0, 0, 0, by decide +kernel⟩,
   ⟨(live.setF 0 (SWC_PpOCC 0) SWC_PpOCC__XOFF 1).setF 0 (MAC_CFG 0) MAC_CFG__FCMODE 1, 0, 0, by decide +kernel⟩,
   ⟨live.setF 0 (MAC_CFG 0) MAC_CFG__EN 1, 0, true, 0, by decide +kernel⟩,
   ⟨live.updPort 0 (fun x => { x with pend := some 1 }), 0, by decide +kernel⟩,
   ⟨live.wr 0 ISL_RUN 0#32, 0, by decide +kernel⟩,
   ⟨((live.setF 0 (MAC_CFG 0) MAC_CFG__EN 1).updPort 0 (fun x => { x with link := true })), 0, 0, false, 0, by decide +kernel⟩,
   ⟨live, 1, 0, 0, 0, by decide +kernel⟩,
   ⟨live.updMac 0 0 (fun m => { m with echoes := [(64, 0)] }), 0, 0, by decide +kernel⟩,
   ⟨live.updMac 0 18 (fun m => { m with tx := some { len := 64, fcs := 0, bytes := [] } }), 0, 18, false, by decide +kernel⟩,
   ⟨(((live.setF 0 (MAC_CFG 18) MAC_CFG__EN 1).updPort 18 (fun x => { x with link := true })).setF 0 (MAC_CFG 18) MAC_CFG__FORCECOL 1).setF 0 (SWC_PpOCC 18) SWC_PpOCC__XOFF 1, 0, 18, by decide +kernel⟩,
   ⟨((live.setF 0 (MAC_CFG 0) MAC_CFG__EN 1).updPort 0 (fun x => { x with link := true })).setF 0 (MAC_CFG 0) MAC_CFG__EEEEN 1, 0, 0, by decide +kernel⟩,
   ⟨live, 0, .mgmt 0, 0, 0, by decide +kernel⟩,
   ⟨live.updMac 0 0 (fun m => { m with verify := some 1 }), 0, 0, false, by decide +kernel⟩,
   ⟨live, 0, .mgmt 0, 0, 0xC5, by decide +kernel⟩,
   ⟨live.setF 0 (MAC_CFG 0) MAC_CFG__PREEN 1, 0, .mgmt 0, 0, 0xC5, by decide +kernel⟩,
   ⟨(live.setF 0 (MAC_CFG 0) MAC_CFG__EEEEN 1).updPort 0 (fun x => { x with link := true }), 0, 0, false, by decide +kernel⟩⟩

/-- States and operands for the clauses of SwitchCoreCompletes that have hypotheses. -/
theorem witness_SwitchCoreCompletes :
  -- frameReassembled
  (∃ (s : State) (d : Die) (ingress : Fin 60), (
      (match (s.swc d).oldest ingress with
        | some _ => true
        | _ => false) : Bool) = true) ∧
  -- bufferSkip
  (∃ (s : State) (d : Die) (b : Fin 16) (testOk : Bool), (
      decide (¬ ((s.laneBuf d b).skipped)) : Bool) = true) ∧
  -- reassemblyTimeout
  (∃ (s : State) (d : Die) (ingress : Fin 60), (
      (match (s.swc d).oldest ingress with
        | some f =>
          let due : Bool := ((tget none (s.swc d).flights f.id).bind (·.first)).any (fun t => decide (t + 1000000 ≤ s.ns d))
          (match (s.swc d).heldIn f with
            | _ :: _ => decide (due)
            | _ => false)
        | _ => false) : Bool) = true) ∧
  -- bufferReadmit
  (∃ (s : State) (d : Die) (b : Fin 16), (
      decide (s.readmitOk d b) : Bool) = true) ∧
  -- fdbAgeingPass
  (∃ (s : State) (d : Die), (
      let limit := s.fld d SWC_CFG SWC_CFG__AGETIME
      decide (s.swActive d) &&
      decide (limit ≠ 0) : Bool) = true) ∧
  -- txtailWrite
  (∃ (s : State) (d : Die) (who : Initiator) (part : Fin 32) (q : Fin 8) (v : Word), (
      decide (s.alive d) &&
      decide (Initiator.isPage who part) &&
      decide (s.bit d (SWC_HpqGEOM part q) SWC_HpqGEOM__USED) : Bool) = true) ∧
  -- hostDescriptorRead
  (∃ (s : State) (d : Die) (part : Fin 32) (q : Fin 8), (
      let p := part.val
      let geom := s.rd d (SWC_HpqGEOM p q)
      let head := s.rd d (SWC_HpqTXHEAD p q)
      let a := (s.rd d (SWC_HpqTXB p q)).toNat * 4096 + head.toNat % 2 ^ SWC_HpqGEOM__TXN.get geom * 32
      let b := s.bytesAt d a 32
      let len := u16 b 8
      decide (s.alive d) &&
      decide (s.homeDie p = d) &&
      decide (bitOf geom.toNat 12) &&
      decide (head ≠ s.rd d (SWC_HpqTXTAIL p q)) &&
      decide (tget 0 (s.swc d).charges (24 * 9 + 8) + cells (len + 4) ≤ s.xoffAt d 24) &&
      decide (¬ (s.pairPort d && decide (s.xoffAt d.other 26 < tget 0 (s.swc d.other).charges (26 * 9 + 8) + cells (len + 4)))) : Bool) = true) ∧
  -- pairPortFrame
  (∃ (s : State) (d : Die), (
      (match (s.swc d).p26 with
        | _ :: _ => true
        | _ => false) : Bool) = true) ∧
  -- rxheadWrite
  (∃ (s : State) (d : Die) (who : Initiator) (part : Fin 32) (q : Fin 8) (v : Word), (
      decide (s.alive d) &&
      decide (Initiator.isPage who part) : Bool) = true) ∧
  -- hostQueueTimeout
  (∃ (s : State) (d : Die) (part : Fin 32) (q : Fin 8), (
      (match tget [] (s.swc d).queues (ringQ part q) with
        | _ :: _ => true
        | _ => false) : Bool) = true) ∧
  -- gateEntryChange
  (∃ (s : State) (d : Die) (p : Fin 24), (
      (match s.gateDue d p with
        | some (_, _) => true
        | _ => false) : Bool) = true) ∧
  -- feedAck
  (∃ (s : State) (d : Die), (
      (match (s.swc d).awaiting.find? (fun e => !e.acked) with
        | some _ => true
        | _ => false) : Bool) = true) ∧
  -- shadowFrameDiscard
  (∃ (s : State) (d : Die) (p : Fin 25) (part : Fin 32) (k : Fin 8), (
      let key := if p.val = 24 then ringQ part k else portQ p k
      decide (¬ (s.swActive d)) &&
      (match tget [] (s.swc d).queues key with
        | _ :: _ => true
        | _ => false) : Bool) = true) ∧
  -- switchCoreFailover
  (∃ (s : State) (d : Die), (
      let e := d.other
      decide (s.holder 8 = d) &&
      decide (s.alive e) : Bool) = true) ∧
  -- standbyRestart
  (∃ (s : State) (d : Die), (
      decide (¬ (s.swActive d)) &&
      decide (s.alive d) : Bool) = true) ∧
  -- flushAll
  (∃ (s : State) (d : Die) (who : Initiator) (confirm : BitVec 8), (
      decide (s.alive d) &&
      decide (who.isManager) &&
      decide (confirm = 0x6B#8) : Bool) = true) ∧
  -- flushPort
  (∃ (s : State) (d : Die) (who : Initiator) (confirm : BitVec 8) (port : BitVec 5), (
      decide (s.alive d) &&
      decide (who.isManager) &&
      decide (confirm = 0x6B#8) : Bool) = true) ∧
  -- readmitBuffer
  (∃ (s : State) (d : Die) (who : Initiator) (confirm : BitVec 8) (b : Fin 16), (
      decide (s.alive d) &&
      decide (who.isManager) &&
      decide (confirm = 0x6B#8) : Bool) = true) :=
  ⟨⟨live.updSwc 0 (fun x => { x with fabric := [{ id := 1, ingress := 0, cls := 0, stamp := 0, len := 64, fcs := 0, bytes := [] }] }), 0, 0, by decide +kernel⟩,
   ⟨live, 0, 0, false, by decide +kernel⟩,
   ⟨later (live.updSwc 0 (fun x => { x with fabric := [{ id := 1, ingress := 0, cls := 0, stamp := 0, len := 64, fcs := 0, bytes := [] }], flights := [(1, some { cells := 1, first := some 0 })], bufs := [(0, { skipped := true })], bufCells := [(0, [⟨1, 0, 0⟩])] })), 0, 0, by decide +kernel⟩,
   ⟨live.updSwc 0 (fun x => { x with bufs := [(0, { skipped := true, tested := true })] }), 0, 0, by decide +kernel⟩,
   ⟨live.setF 0 SWC_CFG SWC_CFG__AGETIME 10, 0, by decide +kernel⟩,
   ⟨(live.setF 0 (SWC_HpqGEOM 1 0) SWC_HpqGEOM__USED 1), 0, .part 1, 1, 0, 0, by decide +kernel⟩,
   ⟨(((live.setF 0 (SWC_PpQUOTA 24) SWC_PpQUOTA__XOFF 100).setF 1 (SWC_PpQUOTA 26) SWC_PpQUOTA__XOFF 100).wr 0 (SWC_HpqTXTAIL 1 0) 1#32).wr 0 (SWC_HpqGEOM 1 0) 0x1006#32, 0, 1, 0, by decide +kernel⟩,
   ⟨live.updSwc 0 (fun x => { x with p26 := [⟨0, 0, 0, 0, 0, 0, 0, 0, 0, []⟩] }), 0, by decide +kernel⟩,
   ⟨live, 0, .part 0, 0, 0, 0, by decide +kernel⟩,
   ⟨live.updSwc 0 (fun x => { x with queues := [(ringQ 1 0, [1])] }), 0, 1, 0, by decide +kernel⟩,
   ⟨live.updSwc 0 (fun x => { x with gates := [(0, { entries := [(255, 1000)] })] }), 0, 0, by decide +kernel⟩,
   ⟨live.updSwc 0 (fun x => { x with awaiting := [⟨0, 0, 0, 0, 0, 64, 0, 0, 1, false⟩] }), 0, by decide +kernel⟩,
   ⟨live.updSwc 1 (fun x => { x with queues := [(portQ 0 0, [1])] }), 1, 0, 0, 0, by decide +kernel⟩,
   ⟨live, 0, by decide +kernel⟩,
   ⟨live, 1, by decide +kernel⟩,
   ⟨live, 0, .mgmt 0, 0x6B, by decide +kernel⟩,
   ⟨live, 0, .mgmt 0, 0x6B, 0, by decide +kernel⟩,
   ⟨live, 0, .mgmt 0, 0x6B, 0, by decide +kernel⟩⟩

/-- States and operands for the clauses of SwitchTablesComplete that have hypotheses. -/
theorem witness_SwitchTablesComplete :
  -- fdbReadByKey
  (∃ (s : State) (d : Die) (who : Initiator), (
      let v := s.fbuf d
      decide (s.alive d) &&
      decide (who.isManager) &&
      (match (s.swc d).fdbFind (fdbAddr v) (fdbVid v) with
        | some _ => true
        | _ => false) : Bool) = true) ∧
  -- fdbReadByIndex
  (∃ (s : State) (d : Die) (who : Initiator) (i : BitVec 14), (
      decide (s.alive d) &&
      decide (who.isManager) : Bool) = true) ∧
  -- fdbWrite
  (∃ (s : State) (d : Die) (who : Initiator) (mirror : Bool), (
      let v0 := s.fbuf d
      let v := withBit (withBit v0 61 true) 62 true
      decide (s.alive d) &&
      decide (who.isManager) &&
      decide (fdbRule v) &&
      (match (s.swc d).fdbPut v with
        | some (_, _) => true
        | _ => false) : Bool) = true) ∧
  -- fdbDelete
  (∃ (s : State) (d : Die) (who : Initiator) (mirror : Bool), (
      let v := s.fbuf d
      decide (s.alive d) &&
      decide (who.isManager) &&
      (match (s.swc d).fdbFind (fdbAddr v) (fdbVid v) with
        | some _ => true
        | _ => false) : Bool) = true) ∧
  -- vlanRead
  (∃ (s : State) (d : Die) (who : Initiator) (vid : BitVec 12), (
      decide (s.alive d) &&
      decide (who.isManager) &&
      decide (vid.toNat ≠ 0) &&
      decide (vid.toNat ≠ 4095) : Bool) = true) ∧
  -- vlanWrite
  (∃ (s : State) (d : Die) (who : Initiator) (mirror : Bool) (vid : BitVec 12), (
      let m := (s.rd d SWC_VBUF0).toNat
      let u := (s.rd d SWC_VBUF1).toNat
      decide (s.alive d) &&
      decide (who.isManager) &&
      decide (vid.toNat ≠ 0) &&
      decide (vid.toNat ≠ 4095) &&
      decide (m < 2 ^ 26) &&
      decide (u < 2 ^ 26) : Bool) = true) :=
  ⟨⟨(live.setFbuf 0 (2 ^ 48)).updSwc 0 (fun x => match x.fdbPut (2 ^ 48 + 2 ^ 62) with | some (_, y) => y | none => x), 0, .mgmt 0, by decide +kernel⟩,
   ⟨live, 0, .mgmt 0, 0, by decide +kernel⟩,
   ⟨live.setFbuf 0 (2 ^ 48), 0, .mgmt 0, false, by decide +kernel⟩,
   ⟨(live.setFbuf 0 (2 ^ 48)).updSwc 0 (fun x => match x.fdbPut (2 ^ 48 + 2 ^ 62) with | some (_, y) => y | none => x), 0, .mgmt 0, false, by decide +kernel⟩,
   ⟨live, 0, .mgmt 0, 1, by decide +kernel⟩,
   ⟨live, 0, .mgmt 0, false, 1, by decide +kernel⟩⟩

/-- States and operands for the clauses of GroupTimeCompletes that have hypotheses. -/
theorem witness_GroupTimeCompletes :
  -- syncReceive
  (∃ (s : State) (d : Die) (p : Fin 24) (domain : BitVec 8) (origin : BitVec 64) (corr : BitVec 64) (log : Fin 8) (stamp : BitVec 64), (
      decide (s.alive d) : Bool) = true) ∧
  -- announceReceive
  (∃ (s : State) (d : Die) (p : Fin 24) (domain : BitVec 8) (gm : Announce), (
      decide (s.alive d) : Bool) = true) ∧
  -- pdelayExchange
  (∃ (s : State) (d : Die) (p : Fin 24) (delay : BitVec 32) (ratio : BitVec 32), (
      decide (¬ (isSb p)) &&
      decide (s.timeActive d) &&
      decide ((s.gport d p).state ≠ 0) &&
      decide (s.bit d (MAC_CFG p) MAC_CFG__EN) : Bool) = true) ∧
  -- syncTransmit
  (∃ (s : State) (d : Die) (p : Fin 24), (
      decide (s.timeActive d) &&
      decide (s.fld d (TIM_GpSTAT p) TIM_GpSTAT__STATE = 1) : Bool) = true) ∧
  -- syncReceiptTimeout
  (∃ (s : State) (d : Die), (
      let st := s.fld d TIM_STAT TIM_STAT__STATE
      let slave := s.fld d TIM_STAT TIM_STAT__SLAVE
      let waits := (s.tim d).syncAt.any (fun e => decide (s.ns d < e.1 + (s.gport d slave).syncTimeout * e.2))
      decide (st = 1 ∨ st = 2) &&
      decide (waits = false) : Bool) = true) ∧
  -- holdoverLimit
  (∃ (s : State) (d : Die), (
      let waits := (s.tim d).holdAt.any (fun t => decide (s.ns d < t + s.fld d TIM_CFG TIM_CFG__HOLDLIM * 1000000000))
      decide (s.fld d TIM_STAT TIM_STAT__STATE = 3) &&
      decide (waits = false) : Bool) = true) ∧
  -- stepProposal
  (∃ (s : State) (d : Die) (ts : BitVec 64), (
      let x := s.tim d
      let soon : Bool := match x.stepped with
        | some t => decide (s.ns d < t + 1000000000)
        | none => false
      (match x.want with
        | some _ =>
          decide (s.timeAlone d) &&
          decide (¬ x.step.isSome) &&
          decide (¬ soon) &&
          decide (s.ns d + 200000 ≤ ts.toNat)
        | _ => false) : Bool) = true) ∧
  -- stepApply
  (∃ (s : State) (d : Die), (
      (match (s.tim d).step with
        | some (_, ts) => decide (ts ≤ s.ns d)
        | _ => false) : Bool) = true) ∧
  -- dieOffsetExchange
  (∃ (s : State) (d : Die) (offset : BitVec 32), (
      let quiet : Bool := match (s.tim d).stepped with
        | some t => decide (s.ns d < t + 1000000)
        | none => false
      decide (s.alive d) &&
      decide (s.alive d.other) &&
      decide (s.linkFlows) &&
      decide (¬ quiet) : Bool) = true) ∧
  -- rtcSet
  (∃ (s : State) (d : Die), (
      decide (s.timeActive d) &&
      decide (s.fld d TIM_STAT TIM_STAT__STATE = 2) : Bool) = true) ∧
  -- snap
  (∃ (s : State) (d : Die) (who : Initiator) (confirm : BitVec 8), (
      decide (s.alive d) &&
      decide (who.isManager) &&
      decide (confirm = 0x7D#8) : Bool) = true) ∧
  -- pulseArm
  (∃ (s : State) (d : Die) (who : Initiator) (k : Fin 4) (v : Word), (
      decide (s.mayPulse d who k) : Bool) = true) ∧
  -- periodlWrite
  (∃ (s : State) (d : Die) (who : Initiator) (k : Fin 4) (v : Word), (
      decide (s.mayPulse d who k) : Bool) = true) ∧
  -- pulseRise
  (∃ (s : State) (d : Die) (k : Fin 4), (
      let x := s.pulse d k
      decide (s.alive d) &&
      decide (x.armed) &&
      decide (¬ x.high) &&
      decide (x.next ≤ s.ns d + 4) : Bool) = true) ∧
  -- pulseFall
  (∃ (s : State) (d : Die) (k : Fin 4), (
      let x := s.pulse d k
      decide (¬ (x.high ∧ s.ns d + 4 < x.fallAt)) : Bool) = true) ∧
  -- lanePinMismatch
  (∃ (s : State) (j : Fin 16), (
      decide ((s.tim s.anyDie).pins.contains j.val) : Bool) = true) ∧
  -- signalingReceive
  (∃ (s : State) (d : Die) (p : Fin 24) (domain : BitVec 8) (request : Bool) (sync : BitVec 8) (pdelay : BitVec 8) (ann : BitVec 8), (
      decide (s.alive d) : Bool) = true) ∧
  -- announceReceiptTimeout
  (∃ (s : State) (d : Die) (p : Fin 24), (
      let g := s.gport d p
      let waits := (tget none (s.tim d).annHeard p).any (fun t => decide (s.ns d < t + g.annTimeout * logNs g.logAnn))
      decide (s.alive d) &&
      decide (waits = false) : Bool) = true) :=
  ⟨⟨live, 0, 0, 0, 0, 0, 0, 0, by decide +kernel⟩,
   ⟨live, 0, 0, 0, ⟨0,0,0,0,0,0,0⟩, by decide +kernel⟩,
   ⟨live.setF 0 (MAC_CFG 0) MAC_CFG__EN 1, 0, 0, 0, 0, by decide +kernel⟩,
   ⟨live.setF 0 (TIM_GpSTAT 0) TIM_GpSTAT__STATE 1, 0, 0, by decide +kernel⟩,
   ⟨live.setF 0 TIM_STAT TIM_STAT__STATE 2, 0, by decide +kernel⟩,
   ⟨live.setF 0 TIM_STAT TIM_STAT__STATE 3, 0, by decide +kernel⟩,
   ⟨live.updTim 0 (fun x => { x with want := some 5 }), 0, 200000, by decide +kernel⟩,
   ⟨live.updTim 0 (fun x => { x with step := some (5, 0) }), 0, by decide +kernel⟩,
   ⟨live, 0, 0, by decide +kernel⟩,
   ⟨live.setF 0 TIM_STAT TIM_STAT__STATE 2, 0, by decide +kernel⟩,
   ⟨live, 0, .mgmt 0, 0x7D, by decide +kernel⟩,
   ⟨live, 0, .mgmt 0, 0, 0, by decide +kernel⟩,
   ⟨live, 0, .mgmt 0, 0, 0, by decide +kernel⟩,
   ⟨live.updPulse 0 0 (fun x => { x with armed := true }), 0, 0, by decide +kernel⟩,
   ⟨live, 0, 0, by decide +kernel⟩,
   ⟨live.updTim 0 (fun x => { x with pins := [3] }), 3, by decide +kernel⟩,
   ⟨live, 0, 0, 0, false, 0, 0, 0, by decide +kernel⟩,
   ⟨live, 0, 0, by decide +kernel⟩⟩

/-- States and operands for the clauses of EpochsComplete that have hypotheses. -/
theorem witness_EpochsComplete :
  -- epochEnd
  (∃ (s : State) (d : Die) (dux : Fin 12), (
      let x := dux.val
      (match s.runningOn d x with
        | some _ => decide (s.duxUp d x)
        | _ => false) : Bool) = true) ∧
  -- journalReceive
  (∃ (s : State) (d : Die) (dux : Fin 12) (magic : Word) (crc : BitVec 64), (
      let y := dux.val
      let u := s.dux d y
      (match u.arriving with
        | some _ => decide (s.duxUp d y)
        | _ => false) : Bool) = true) ∧
  -- sealAck
  (∃ (s : State) (d : Die) (dux : Fin 12), (
      let x := dux.val
      (match (s.dux d x).journal with
        | some _ =>
          decide (s.duxUp d x) &&
          decide ((s.dux d x).acked)
        | _ => false) : Bool) = true) ∧
  -- spareLagTimeout
  (∃ (s : State) (d : Die) (dux : Fin 12), (
      let x := dux.val
      (match (s.dux d x).journal with
        | some j =>
          let lim := 2000 * s.fld d (CKP_pCFG j.part) CKP_pCFG__EPOCH
          decide (s.duxUp d x) &&
          decide ((s.dux d x).endedAt + lim ≤ s.ns d)
        | _ => false) : Bool) = true) ∧
  -- logAck
  (∃ (s : State) (d : Die) (dux : Fin 12) (pos : BitVec 64), (
      let x := dux.val
      (match s.spareOf d x with
        | some y =>
          decide (s.duxUp d x) &&
          decide (s.linkFlows) &&
          decide (pos.toNat ≤ (s.dux d.other y).storedPos) &&
          decide ((s.dux d x).logAcked ≤ pos.toNat)
        | _ => false) : Bool) = true) ∧
  -- failover
  (∃ (s : State) (d : Die) (dux : Fin 12), (
      let y := dux.val
      let x := s.fld d (DUX_dSTAT y) DUX_dSTAT__SERVES
      let ps := (s.homed d.other x).filter (fun p => decide (s.ckState d p = 6))
      (match (s.dux d y).last with
        | some _ =>
          decide (s.duxUp d y) &&
          decide (s.duxRole d y = 2) &&
          decide (ps ≠ [])
        | _ => false) : Bool) = true) ∧
  -- logExhausted
  (∃ (s : State) (d : Die) (dux : Fin 12), (
      let x := dux.val
      decide ((s.dux d x).replay = some []) &&
      decide (s.duxUp d x) : Bool) = true) ∧
  -- dieLoss
  (∃ (s : State) (d : Die), (
      decide (¬ (s.alive d)) &&
      decide (¬ s.linkUp) &&
      decide (s.alive d.other) : Bool) = true) ∧
  -- syncPass
  (∃ (s : State) (d : Die) (dux : Fin 12), (
      let x := dux.val
      let ps := (s.homed d x).filter (fun p => !s.bit d (CKP_pSTAT p) CKP_pSTAT__SHED)
      let st := fun p => s.ckState d p
      (match s.spareOf d x with
        | some y =>
          let ok : Bool := s.duxUp d x && s.duxUp d.other y && s.linkFlows && s.joint d && s.isSealed d.other && (s.dux d x).replay.isNone &&
            decide (ps ≠ []) && ps.all (fun p => decide (st p = 1 ∨ st p = 2 ∨ st p = 4 ∨ st p = 5))
          decide (ok)
        | _ => false) : Bool) = true) :=
  ⟨⟨coresAt (fun c => { c with sealed := true }), 0, 0, by decide +kernel⟩,
   ⟨duxAt 3 (fun u => { u with arriving := some aJournal }), 0, 0, 0, 0, by decide +kernel⟩,
   ⟨(duxAt 3 (fun u => { u with journal := some aJournal, acked := true })).updCk 0 1 (fun k => { k with sealedNo := 1 }), 0, 0, by decide +kernel⟩,
   ⟨later (duxAt 3 (fun u => { u with journal := some aJournal })), 0, 0, by decide +kernel⟩,
   ⟨duxAt 3 (fun u => u), 0, 0, 0, by decide +kernel⟩,
   ⟨((duxAt 6 (fun u => u)).updDux 1 1 (fun u => { u with last := some aJournal })), 1, 1, by decide +kernel⟩,
   ⟨duxAt 3 (fun u => { u with replay := some [] }), 0, 0, by decide +kernel⟩,
   ⟨{ (live.setF 0 ISL_PLSTAT ISL_PLSTAT__STATE 0) with keep := ⟨DieKeep.powerOn, awake⟩ }, 0, by decide +kernel⟩,
   ⟨duxAt 1 (fun u => u), 0, 0, by decide +kernel⟩⟩

/-- States and operands for the clauses of DuplexesComplete that have hypotheses. -/
theorem witness_DuplexesComplete :
  -- egressTransaction
  (∃ (s : State) (d : Die) (dux : Fin 12) (line : Option (BitVec 48)), (
      let x := dux.val
      decide (s.duxUp d x) : Bool) = true) ∧
  -- stoppedCore
  (∃ (s : State) (d : Die) (dux : Fin 12) (core : Die), (
      let x := dux.val
      let o := s.core d x core.other
      let waits := o.wait.isSome || o.offer.isSome || decide ((s.core d x core).out.length < o.out.length)
      decide (s.duxUp d x) &&
      decide (s.duxState d x = 1 ∨ s.duxState d x = 2) &&
      decide (waits) &&
      decide (¬ (s.coreWfi d x 0)) &&
      decide (¬ (s.coreWfi d x 1)) : Bool) = true) ∧
  -- lagStall
  (∃ (s : State) (d : Die) (dux : Fin 12) (us : BitVec 16), (
      let x := dux.val
      let u := s.dux d x
      decide (s.duxUp d x) &&
      decide (s.duxState d x = 1 ∨ s.duxState d x = 2) &&
      decide (8192 < u.lag ∨ 20 < us.toNat) : Bool) = true) ∧
  -- slowCopy
  (∃ (s : State) (d : Die) (dux : Fin 12), (
      let x := dux.val
      (match (s.dux d x).stallAt with
        | some t =>
          decide (s.duxUp d x) &&
          decide (s.duxState d x = 3) &&
          decide (t + 200000 ≤ s.ns d)
        | _ => false) : Bool) = true) ∧
  -- agree
  (∃ (s : State) (d : Die) (dux : Fin 12) (core : Die) (rd : Fin 32) (rs1 : Fin 32), (
      let x := dux.val
      decide (s.coreMeets d x core) : Bool) = true) ∧
  -- eventDelivery
  (∃ (s : State) (d : Die) (dux : Fin 12) (line : Fin 6), (
      let x := dux.val
      let u := s.dux d x
      decide (s.duxUp d x) &&
      decide (¬ u.replay.isSome) &&
      decide (¬ u.call.isSome) &&
      decide (¬ u.endAt.isSome) &&
      decide (¬ ((s.runningOn d x).isNone)) : Bool) = true) ∧
  -- duplexBist
  (∃ (s : State) (d : Die) (dux : Fin 12) (passed : Bool), (
      let x := dux.val
      let st := s.duxState d x
      decide (s.alive d) &&
      decide (decide (st = 5) || decide (st = 6)) : Bool) = true) ∧
  -- bistInterval
  (∃ (s : State) (d : Die) (dux : Fin 12), (
      let x := dux.val
      let u := s.dux d x
      let hours := s.fld d (DUX_dCFG x) DUX_dCFG__BISTINT
      decide (s.duxUp d x) &&
      decide (0 < hours) &&
      decide (u.lastBist + hours * 3600000000000 ≤ s.ns d) : Bool) = true) ∧
  -- ckpRoleSwapPartition
  (∃ (s : State) (d : Die) (who : Initiator) (confirm : BitVec 8) (p : Fin 32), (
      let h := s.homeDie p.val
      let x := s.homeDux d p.val
      decide (s.duxHears d who confirm 0x4E) &&
      decide (s.homedAt h p.val x) &&
      decide (s.canSwap h x) : Bool) = true) ∧
  -- ckpRoleSwapDie
  (∃ (s : State) (d : Die) (who : Initiator) (confirm : BitVec 8) (die : Die), (
      let xs := (List.range 12).filter (fun x => decide (s.duxRole die x = 1) && decide (s.homed die x ≠ []))
      decide (s.duxHears d who confirm 0x4E) &&
      decide (xs ≠ []) &&
      decide (xs.all (fun x => s.canSwap die x)) : Bool) = true) ∧
  -- ckpResync
  (∃ (s : State) (d : Die) (who : Initiator) (confirm : BitVec 8) (p : Fin 32), (
      let h := s.homeDie p.val
      let x := s.homeDux d p.val
      let st := s.ckState d p.val
      decide (s.duxHears d who confirm 0x4E) &&
      decide (s.linkUp) &&
      decide ((s.spareOf h x).isSome) &&
      decide (st = 3 ∨ st = 4 ∨ st = 5) &&
      decide (¬ (s.bit d (CKP_pSTAT p.val) CKP_pSTAT__SHED)) : Bool) = true) ∧
  -- duxRunBist
  (∃ (s : State) (d : Die) (who : Initiator) (confirm : BitVec 8) (dux : BitVec 4), (
      let x := dux.toNat
      decide (s.duxHears d who confirm 0x3D) &&
      decide (x < 12) &&
      decide (s.duxUp d x ≠ false) : Bool) = true) ∧
  -- duxRetire
  (∃ (s : State) (d : Die) (who : Initiator) (confirm : BitVec 8) (dux : BitVec 4), (
      let x := dux.toNat
      decide (s.duxHears d who confirm 0x3D) &&
      decide (x < 12) &&
      decide (s.duxRole d x ≠ 1) &&
      decide (s.duxRole d x ≠ 3) : Bool) = true) :=
  ⟨⟨live, 0, 0, none, by decide +kernel⟩,
   ⟨(coresAt (fun c => { c with sealed := true })).updCore 0 0 1 (fun c => { c with wait := some 0 }), 0, 0, 0, by decide +kernel⟩,
   ⟨coresAt (fun c => { c with sealed := true }), 0, 0, 100, by decide +kernel⟩,
   ⟨later ((duxAt 3 (fun u => { u with stallAt := some 0 })).setF 0 (DUX_dSTAT 0) DUX_dSTAT__STATE 3), 0, 0, by decide +kernel⟩,
   ⟨coresAt (fun c => { c with sealed := true }), 0, 0, 0, 1, 2, by decide +kernel⟩,
   ⟨coresAt (fun c => { c with sealed := true }), 0, 0, 0, by decide +kernel⟩,
   ⟨(duxAt 3 (fun u => u)).setF 0 (DUX_dSTAT 0) DUX_dSTAT__STATE 5, 0, 0, false, by decide +kernel⟩,
   ⟨later ((duxAt 3 (fun u => u)).setF 0 (DUX_dCFG 0) DUX_dCFG__BISTINT 1), 0, 0, by decide +kernel⟩,
   ⟨duxAt 3 (fun u => u), 0, .mgmt 0, 0x4E, 1, by decide +kernel⟩,
   ⟨duxAt 3 (fun u => u), 0, .mgmt 0, 0x4E, 0, by decide +kernel⟩,
   ⟨duxAt 4 (fun u => u), 0, .mgmt 0, 0x4E, 1, by decide +kernel⟩,
   ⟨live, 0, .mgmt 0, 0x3D, 0, by decide +kernel⟩,
   ⟨live, 0, .mgmt 0, 0x3D, 0, by decide +kernel⟩⟩

/-- States and operands for the clauses of WorldsComplete that have hypotheses. -/
theorem witness_WorldsComplete :
  -- wgate
  (∃ (s : State) (d : Die) (dux : Fin 12) (core : Die) (imm : BitVec 8), (
      let x := dux.val
      decide (s.coreMeets d x core) : Bool) = true) ∧
  -- wentry
  (∃ (s : State) (d : Die) (dux : Fin 12) (core : Die), (
      let x := dux.val
      decide (s.canRun d x core) : Bool) = true) ∧
  -- wret
  (∃ (s : State) (d : Die) (dux : Fin 12) (core : Die), (
      let x := dux.val
      decide (s.coreMeets d x core) : Bool) = true) ∧
  -- hgatpWrite
  (∃ (s : State) (d : Die) (dux : Fin 12) (core : Die) (v : BitVec 64), (
      let x := dux.val
      decide (s.coreMeets d x core) : Bool) = true) ∧
  -- wldResetAck
  (∃ (s : State) (d : Die) (who : Initiator) (confirm : BitVec 8) (p : Fin 32), (
      decide (s.duxHears d who confirm 0x9E) &&
      decide (s.bit d (WLD_pSTAT p) WLD_pSTAT__RST) &&
      decide (s.fld d (ZGP_RpSTAT p) ZGP_RpSTAT__ROLE = 0 ∨ s.fld d (ZGP_RpSTAT p) ZGP_RpSTAT__STATE = 1) : Bool) = true) ∧
  -- wldRestart
  (∃ (s : State) (d : Die) (who : Initiator) (confirm : BitVec 8), (
      decide (s.duxHears d who confirm 0x9E) &&
      decide (s.fld d WLD_STAT WLD_STAT__SSTATE = 2) : Bool) = true) ∧
  -- pinWrite
  (∃ (s : State) (d : Die) (who : Initiator) (pin : Fin 16) (oe : Bool) (out : Bool), (
      let j := pin.val
      decide (s.alive d) &&
      decide (s.ownsPin d who j) : Bool) = true) ∧
  -- sealedWatchdogExpiry
  (∃ (s : State) (d : Die) (dux : Fin 12), (
      let x := dux.val
      (match (s.dux d x).call with
        | some k =>
          let st := s.duxState d x
          decide (s.duxUp d x) &&
          decide (¬ ((s.dux d x).replay.isSome)) &&
          decide (st ≠ 3) &&
          decide (st ≠ 4) &&
          decide (200000 ≤ s.callNs d k)
        | _ => false) : Bool) = true) ∧
  -- sealedRestartReload
  (∃ (s : State) (codes0 : List (List Byte)) (codes1 : List (List Byte)), (
      let late := s.onDies (fun st d => if (st.wld d).restartAt + 10000000 ≤ st.ns d then
          (List.range 12).foldl (fun st x => if (st.dux d x).journal.isSome then st.goAlone d x 5 else st) st
        else st)
      let busy := fun (d : Die) => late.alive d && (List.range 12).any (fun x => (late.dux d x).journal.isSome || (late.dux d x).ckpt) &&
        decide (late.ns d < (late.wld d).restartAt + 10000000)
      let on := fun (d : Die) => late.alive d && decide (late.fld d WLD_STAT WLD_STAT__SSTATE = 3)
      let here := fun (d : Die) => on d || (on d.other && late.joint d)
      decide (on 0 || on 1) &&
      decide (¬ (here 0 && busy 0)) &&
      decide (¬ (here 1 && busy 1)) : Bool) = true) ∧
  -- sealedStateNotice
  (∃ (s : State) (d : Die), (
      (match (s.wld d).notice with
        | some _ => decide (s.alive d)
        | _ => false) : Bool) = true) ∧
  -- rgdRead
  (∃ (s : State) (d : Die) (who : Initiator) (confirm : BitVec 8) (guard : BitVec 4) (region : Fin 64), (
      let g := guard.toNat
      decide (s.duxHears d who confirm 0xA7) &&
      decide (g < 13) : Bool) = true) ∧
  -- rgdWrite
  (∃ (s : State) (d : Die) (who : Initiator) (confirm : BitVec 8) (mirror : Bool) (guard : BitVec 4) (region : Fin 64), (
      let g := guard.toNat
      let r := region.val
      let w := fun i => (s.rd d (RGD_BUFi i)).toNat
      decide (s.duxHears d who confirm 0xA7) &&
      (let why := s.rgdReason d g r (w 0) (w 1) (w 2) (w 3)
      decide (why = 0)) : Bool) = true) :=
  ⟨⟨coresAt (fun c => { c with sealed := true }), 0, 0, 0, 0, by decide +kernel⟩,
   ⟨coresAt (fun c => { c with sealed := true }), 0, 0, 0, by decide +kernel⟩,
   ⟨coresAt (fun c => { c with sealed := true }), 0, 0, 0, by decide +kernel⟩,
   ⟨coresAt (fun c => { c with sealed := true }), 0, 0, 0, 0, by decide +kernel⟩,
   ⟨live.setF 0 (WLD_pSTAT 1) WLD_pSTAT__RST 1, 0, .mgmt 0, 0x9E, 1, by decide +kernel⟩,
   ⟨live.setF 0 WLD_STAT WLD_STAT__SSTATE 2, 0, .mgmt 0, 0x9E, by decide +kernel⟩,
   ⟨(live.setF 0 (WLD_PINj 3) WLD_PINj__VALID 1).setF 0 (WLD_PINj 3) WLD_PINj__PART 1, 0, .part 1, 3, false, false, by decide +kernel⟩,
   ⟨later (duxAt 3 (fun u => { u with call := some ⟨0, 1, 0, 0⟩ })), 0, 0, by decide +kernel⟩,
   ⟨live.setF 0 WLD_STAT WLD_STAT__SSTATE 3, [], [], by decide +kernel⟩,
   ⟨live.updWld 0 (fun w => { w with notice := some 1 }), 0, by decide +kernel⟩,
   ⟨live, 0, .mgmt 0, 0xA7, 0, 0, by decide +kernel⟩,
   ⟨live, 0, .mgmt 0, 0xA7, false, 0, 0, by decide +kernel⟩⟩

/-- States and operands for the clauses of CoresAndEventsComplete that have hypotheses. -/
theorem witness_CoresAndEventsComplete :
  -- ckpt
  (∃ (s : State) (d : Die) (dux : Fin 12) (core : Die), (
      let x := dux.val
      decide (s.coreMeets d x core) : Bool) = true) ∧
  -- wfiWake
  (∃ (s : State) (d : Die) (dux : Fin 12) (core : Die), (
      let x := dux.val
      decide (s.duxUp d x) &&
      decide (s.coreWfi d x core) : Bool) = true) ∧
  -- counterOverflow
  (∃ (s : State) (d : Die) (dux : Fin 12), (
      let x := dux.val
      let u := s.dux d x
      decide (s.duxUp d x) &&
      decide (¬ u.call.isSome) &&
      decide (¬ u.replay.isSome) &&
      decide (¬ (s.lineSet d x 13)) &&
      decide (¬ ((s.runningOn d x).isNone)) : Bool) = true) ∧
  -- cacheEccError
  (∃ (s : State) (d : Die) (dux : Fin 12) (core : Die) (kind : Fin 4) (line : BitVec 48), (
      let x := dux.val
      decide (s.duxUp d x) : Bool) = true) ∧
  -- duplexStart
  (∃ (s : State) (d : Die) (dux : Fin 12), (
      let x := dux.val
      let shed := fun p => s.bit d (CKP_pSTAT p) CKP_pSTAT__SHED
      let role := s.duxRole d x
      let ps := (s.homed d x).filter (fun p => s.defined d p && decide (if shed p = true then role = 2 else role = 1))
      (match ps with
        | _ :: _ =>
          decide (s.alive d) &&
          decide (s.isSealed d) &&
          decide (s.duxState d x = 0) &&
          decide (¬ (s.apart && decide (d = 1)))
        | _ => false) : Bool) = true) ∧
  -- applicationCoreInstruction
  (∃ (s : State) (d : Die) (dux : Fin 12) (core : Die) (w : Word), (
      let x := dux.val
      decide (¬ (moduleInsn w)) &&
      decide (¬ (csrInsn w && decide (csrOf w = 0x680) && csrWrites w)) &&
      decide (s.coreMeets d x core) : Bool) = true) ∧
  -- sourceFire
  (∃ (s : State) (d : Die) (src : Fin 1024), (
      decide (s.alive d) &&
      decide (isEdgeSrc src.val) &&
      decide (src.val ≠ guestWait) : Bool) = true) ∧
  -- moderationTimeout
  (∃ (s : State) (d : Die) (src : Fin 1024), (
      let n := src.val
      decide (s.alive d) &&
      decide ((s.src d n).pending) &&
      decide (s.bit d (EVC_sROUTE n) EVC_sROUTE__MOD) &&
      decide (s.bit d (EVC_sMOD n) EVC_sMOD__TIME) &&
      decide ((s.src d n).firstAt + 1000 * s.fld d (EVC_sMOD n) EVC_sMOD__TIME ≤ s.ns d) : Bool) = true) ∧
  -- claimM
  (∃ (s : State) (d : Die) (dux : Fin 12), (
      decide (s.duxUp d dux.val) &&
      decide ((s.runningOn d dux.val).isSome) &&
      decide ((s.replayHead d dux.val).isNone) : Bool) = true) ∧
  -- claimS
  (∃ (s : State) (d : Die) (dux : Fin 12), (
      decide (s.duxUp d dux.val) &&
      decide ((s.runningOn d dux.val).isSome) &&
      decide ((s.replayHead d dux.val).isNone) : Bool) = true) ∧
  -- claimV
  (∃ (s : State) (d : Die) (dux : Fin 12), (
      decide (s.duxUp d dux.val) &&
      decide ((s.runningOn d dux.val).isSome) &&
      decide ((s.replayHead d dux.val).isNone) : Bool) = true) ∧
  -- eoiM
  (∃ (s : State) (d : Die) (dux : Fin 12) (src : Fin 1024), (
      decide (s.duxUp d dux.val) &&
      decide ((s.runningOn d dux.val).isSome) : Bool) = true) ∧
  -- eoiS
  (∃ (s : State) (d : Die) (dux : Fin 12) (src : Fin 1024), (
      decide (s.duxUp d dux.val) &&
      decide ((s.runningOn d dux.val).isSome) : Bool) = true) ∧
  -- eoiV
  (∃ (s : State) (d : Die) (dux : Fin 12) (src : Fin 1024), (
      decide (s.duxUp d dux.val) &&
      decide ((s.runningOn d dux.val).isSome) : Bool) = true) ∧
  -- thresholdWrite
  (∃ (s : State) (d : Die) (dux : Fin 12) (level : Fin 3) (thr : BitVec 6), (
      decide (s.duxUp d dux.val) &&
      decide (¬ ((s.runningOn d dux.val).isNone)) : Bool) = true) ∧
  -- softwareSet
  (∃ (s : State) (d : Die) (who : Initiator) (set : BitVec 16), (
      let m := s.settable d who set.toNat
      decide (s.alive d) &&
      decide (m ≠ 0) : Bool) = true) ∧
  -- timerCompareWrite
  (∃ (s : State) (d : Die) (who : Initiator) (t : Fin 48) (high : Bool) (v : Word), (
      let k := t.val
      decide (s.alive d) &&
      decide (Initiator.mayTimer who k) : Bool) = true) ∧
  -- partnerEvcWrite
  (∃ (s : State) (d : Die), (
      (match (s.vol.get d).evcIn with
        | (_, _, _) :: _ => true
        | _ => false) : Bool) = true) :=
  ⟨⟨coresAt (fun c => { c with sealed := true }), 0, 0, 0, by decide +kernel⟩,
   ⟨(coresAt (fun c => { c with sealed := true })).setF 0 (DUX_dSTAT 0) DUX_dSTAT__WFIA 1, 0, 0, 0, by decide +kernel⟩,
   ⟨coresAt (fun c => { c with sealed := true }), 0, 0, by decide +kernel⟩,
   ⟨live, 0, 0, 0, 0, 0, by decide +kernel⟩,
   ⟨(duxAt 3 (fun u => u)).setF 0 (DUX_dSTAT 0) DUX_dSTAT__STATE 0, 0, 0, by decide +kernel⟩,
   ⟨coresAt (fun c => { c with sealed := true }), 0, 0, 0, 0x00000013#32, by decide +kernel⟩,
   ⟨live, 0, 0, by decide +kernel⟩,
   ⟨later (((live.updSrc 0 0x60 (fun e => { e with pending := true })).setF 0 (EVC_sROUTE 0x60) EVC_sROUTE__MOD 1).setF 0 (EVC_sMOD 0x60) EVC_sMOD__TIME 1), 0, 0x60, by decide +kernel⟩,
   ⟨coresAt (fun c => { c with sealed := true }), 0, 0, by decide +kernel⟩,
   ⟨coresAt (fun c => { c with sealed := true }), 0, 0, by decide +kernel⟩,
   ⟨coresAt (fun c => { c with sealed := true }), 0, 0, by decide +kernel⟩,
   ⟨coresAt (fun c => { c with sealed := true }), 0, 0, 0, by decide +kernel⟩,
   ⟨coresAt (fun c => { c with sealed := true }), 0, 0, 0, by decide +kernel⟩,
   ⟨coresAt (fun c => { c with sealed := true }), 0, 0, 0, by decide +kernel⟩,
   ⟨coresAt (fun c => { c with sealed := true }), 0, 0, 0, 0, by decide +kernel⟩,
   ⟨live, 0, .mgmt 0, 1, by decide +kernel⟩,
   ⟨live, 0, .mgmt 0, 0, false, 0, by decide +kernel⟩,
   ⟨live.updVol 0 (fun v => { v with evcIn := [(0, 0, 0)] }), 0, by decide +kernel⟩⟩

/-- States and operands for the clauses of CisternSupervisionCompletes that have hypotheses. -/
theorem witness_CisternSupervisionCompletes :
  -- laneDisagreement
  (∃ (s : State) (lane : Fin 3), (
      let l := lane.val
      let fenced := s.fld 0 CIS_LANE CIS_LANE__FENCED
      decide (¬ (bitOf fenced l)) : Bool) = true) ∧
  -- supervisorTimeout
  (∃ (s : State), (
      decide (s.pstate ≤ 1) : Bool) = true) ∧
  -- regulatorFailure
  (∃ (s : State) (d : Die), (
      decide ((s.keep.get d).supplied) : Bool) = true) ∧
  -- regulatorRestart
  (∃ (s : State) (d : Die) (ok : Bool), (
      let f := if d = 0 then CIS_STAT__REG0 else CIS_STAT__REG1
      let ts := (tget [] s.cis.pw.regTimes d.val).filter (fun t => decide (s.rtc < t + rtcDay))
      decide (s.bit 0 CIS_STAT f) &&
      decide (ts.length < 3) &&
      decide (s.pstate < 2) &&
      decide (32768 ≤ (s.rtc - tget 0 s.cis.pw.failAt d.val) * 10) : Bool) = true) ∧
  -- sleepDrowse
  (∃ (s : State) (d : Die) (who : Initiator) (confirm : BitVec 8) (tag : BitVec 8) (pin : Fin 8) (usePin : Bool), (
      decide (s.alive d) &&
      decide (who.isManager) &&
      decide (confirm.toNat = 0xD5) &&
      decide (s.newTag 0 who tag.toNat) &&
      decide (¬ s.bit 0 CIS_STAT CIS_STAT__PREP) : Bool) = true) ∧
  -- sleepDormant
  (∃ (s : State) (d : Die) (who : Initiator) (confirm : BitVec 8) (tag : BitVec 8) (pin : Fin 8) (usePin : Bool), (
      decide (s.alive d) &&
      decide (who.isManager) &&
      decide (confirm.toNat = 0xD5) &&
      decide (s.newTag 0 who tag.toNat) &&
      decide (¬ s.bit 0 CIS_STAT CIS_STAT__PREP) : Bool) = true) ∧
  -- sleepSentinel
  (∃ (s : State) (d : Die) (who : Initiator) (confirm : BitVec 8) (tag : BitVec 8) (pin : Fin 8) (usePin : Bool), (
      decide (s.alive d) &&
      decide (who.isManager) &&
      decide (confirm.toNat = 0xD5) &&
      decide (s.newTag 0 who tag.toNat) &&
      decide (¬ s.bit 0 CIS_STAT CIS_STAT__PREP) &&
      (let w := if usePin then pin.val else s.fld 0 CIS_CFG CIS_CFG__SPIN
      decide (bitOf (s.rd 0 CIS_WAKECFG).toNat (4 * w))) : Bool) = true) ∧
  -- commitPoint
  (∃ (s : State) (can : BitVec 4) (eth : BitVec 24) (edges : BitVec 8) (prepUs : BitVec 16), (
      let s := s.lagOn
      decide (s.bit 0 CIS_STAT CIS_STAT__PREP) &&
      decide (s.prepared) : Bool) = true) ∧
  -- sleepTimeout
  (∃ (s : State), (
      decide (s.bit 0 CIS_STAT CIS_STAT__PREP) &&
      decide (¬ s.prepared) &&
      decide (s.cis.pw.prepAt + 20000000 ≤ s.ns s.anyDie) : Bool) = true) ∧
  -- standbyRelease
  (∃ (s : State) (sd : Fin 19), (
      decide (s.inRun) &&
      decide ((s.sd sd.val).standby) : Bool) = true) ∧
  -- wakeFromDrowse
  (∃ (s : State) (eth : BitVec 24), (
      let src := Nat.lor s.cis.pw.latched (s.sources 1 0#4 eth 0#8)
      decide (s.pstate = 1) &&
      decide (src ≠ 0) : Bool) = true) ∧
  -- wakeFromDormant
  (∃ (s : State) (eth : BitVec 24), (
      let src := Nat.lor s.cis.pw.latched (s.sources 2 0#4 eth 0#8)
      decide (s.pstate = 2) &&
      decide (src ≠ 0) : Bool) = true) ∧
  -- wakeFromSentinel
  (∃ (s : State), (
      let src := Nat.lor s.cis.pw.latched (s.sources 3 0#4 0#24 0#8)
      decide (s.pstate = 3) &&
      decide (src ≠ 0) : Bool) = true) ∧
  -- rtcAlarm
  (∃ (s : State), (
      decide (s.alarmPassed) : Bool) = true) ∧
  -- alarmWrite
  (∃ (s : State) (d : Die) (who : Initiator) (high : Bool) (v : Word), (
      decide (s.alive d) &&
      decide (who.isManager) : Bool) = true) :=
  ⟨⟨live, 0, by decide +kernel⟩,
   ⟨live, by decide +kernel⟩,
   ⟨live, 0, by decide +kernel⟩,
   ⟨((live.setF 0 CIS_STAT CIS_STAT__REG0 1).setF 0 CIS_RTCL whole 0x10000000), 0, false, by decide +kernel⟩,
   ⟨live, 0, .mgmt 0, 0xD5, 0, 0, false, by decide +kernel⟩,
   ⟨live, 0, .mgmt 0, 0xD5, 0, 0, false, by decide +kernel⟩,
   ⟨live, 0, .mgmt 0, 0xD5, 0, 0, false, by decide +kernel⟩,
   ⟨live.setF 0 CIS_STAT CIS_STAT__PREP 1, 0, 0, 0, 0, by decide +kernel⟩,
   ⟨(later (live.setF 0 CIS_STAT CIS_STAT__PREP 1)).updMac 0 0 (fun m => { m with tx := some { len := 64, fcs := 0, bytes := [] } }), by decide +kernel⟩,
   ⟨live.updSd 0 (fun x => { x with standby := true }), 0, by decide +kernel⟩,
   ⟨(live.setF 0 CIS_STAT CIS_STAT__STATE 1).updPw (fun p => { p with latched := 64 }), 0, by decide +kernel⟩,
   ⟨(live.setF 0 CIS_STAT CIS_STAT__STATE 2).updPw (fun p => { p with latched := 64 }), 0, by decide +kernel⟩,
   ⟨(live.setF 0 CIS_STAT CIS_STAT__STATE 3).updPw (fun p => { p with latched := 64 }), by decide +kernel⟩,
   ⟨(live.wr64 0 CIS_ALARML CIS_ALARMH 5).wr64 0 CIS_RTCL CIS_RTCH 6, by decide +kernel⟩,
   ⟨live, 0, .mgmt 0, false, 0, by decide +kernel⟩⟩

/-- States and operands for the clauses of CisternEnergyCompletes that have hypotheses. -/
theorem witness_CisternEnergyCompletes :
  -- energyReport
  (∃ (s : State) (d : Die) (c : Fin 8), (
      decide (s.alive d) &&
      decide (s.inRun) &&
      decide (s.holder c.val = d) : Bool) = true) ∧
  -- grant
  (∃ (s : State) (d : Die) (who : Initiator) (amount : BitVec 24) (tag : BitVec 8), (
      decide (s.alive d) &&
      decide (s.newTag 1 who tag.toNat) &&
      decide (s.inMask who) : Bool) = true) ∧
  -- errandAdd
  (∃ (s : State) (d : Die) (who : Initiator) (confirm : BitVec 8) (tag : BitVec 8) (slot : Fin 16), (
      decide (s.alive d) &&
      decide (confirm.toNat = 0xE3) &&
      decide (s.newTag 2 who tag.toNat) &&
      decide (s.inMask who) : Bool) = true) ∧
  -- errandCancel
  (∃ (s : State) (d : Die) (who : Initiator) (confirm : BitVec 8) (tag : BitVec 8) (slot : Fin 16), (
      decide (s.alive d) &&
      decide (confirm.toNat = 0xE3) &&
      decide (s.newTag 2 who tag.toNat) &&
      decide (s.inMask who) : Bool) = true) ∧
  -- errandDone
  (∃ (s : State) (d : Die) (who : Initiator) (confirm : BitVec 8) (tag : BitVec 8) (slot : Fin 16), (
      decide (s.alive d) &&
      decide (confirm.toNat = 0xE3) &&
      decide (s.newTag 2 who tag.toNat) &&
      decide (s.inMask who) : Bool) = true) ∧
  -- errandOverrun
  (∃ (s : State), (
      (match s.cis.led.running with
        | some i =>
          decide (s.cis.led.forErrand = true) &&
          decide (s.cis.led.runStart + (s.errand i).limit ≤ s.rtcSec)
        | _ => false) : Bool) = true) ∧
  -- faultReport
  (∃ (s : State) (d : Die) (t : Fin 9) (answer : Option Bool), (
      decide (s.alive d) : Bool) = true) ∧
  -- reportConfirmTimeout
  (∃ (s : State) (t : Fin 9), (
      (match tget none s.cis.pw.asked t.val with
        | some d => decide (tget 0 s.cis.pw.askedAt t.val + 2000 ≤ s.ns d)
        | _ => false) : Bool) = true) ∧
  -- roleSwapRequest
  (∃ (s : State) (d : Die) (who : Initiator) (confirm : BitVec 8) (tag : BitVec 8) (token : BitVec 4) (die : Die), (
      let t := token.toNat
      let ts := if t = 15 then List.range 9 else [t]
      decide (s.alive d) &&
      decide (who.isManager) &&
      decide (confirm.toNat = 0xB6) &&
      decide (t ≤ 8 ∨ t = 15) &&
      decide (s.newTag 3 who tag.toNat) &&
      decide (ts.all (fun t => s.swapOk t die)) : Bool) = true) :=
  ⟨⟨live, 0, 0, by decide +kernel⟩,
   ⟨live, 0, .mgmt 0, 0, 0, by decide +kernel⟩,
   ⟨live, 0, .mgmt 0, 0xE3, 0, 0, by decide +kernel⟩,
   ⟨live, 0, .mgmt 0, 0xE3, 0, 0, by decide +kernel⟩,
   ⟨live, 0, .mgmt 0, 0xE3, 0, 0, by decide +kernel⟩,
   ⟨live.updLed (fun l => { l with running := some 0, forErrand := true }), by decide +kernel⟩,
   ⟨live, 0, 0, none, by decide +kernel⟩,
   ⟨later (live.updPw (fun p => { p with asked := [(0, some 0)] })), 0, by decide +kernel⟩,
   ⟨live, 0, .mgmt 0, 0xB6, 0, 0, 0, by decide +kernel⟩⟩

/-- States and operands for the clauses of ZoneViewCompletes that have hypotheses. -/
theorem witness_ZoneViewCompletes :
  -- heartbeatSend
  (∃ (s : State) (d : Die), (
      let st := s.zgState d
      decide (s.zgOn d) &&
      decide (st ≠ 6) &&
      decide (st ≠ 7) &&
      decide (s.zgDue d 0x01 9900000 = true) : Bool) = true) ∧
  -- heartbeat
  (∃ (s : State) (d : Die) (port : Fin 24) (f : ZgFrame), (
      decide (s.hearsZg d port f 0x01) : Bool) = true) ∧
  -- memberLoss
  (∃ (s : State) (d : Die) (m : Fin 1024), (
      let x := s.zgMember d m
      let silent : Bool := match x.heard with
        | some t => decide (t + 34000000 ≤ s.ns d)
        | none => true
      decide (s.zgOn d) &&
      decide (s.isMem d m) &&
      decide (silent) &&
      decide (¬ x.lost) &&
      decide (¬ x.left) &&
      decide (m.val ≠ s.ownId d) : Bool) = true) ∧
  -- viewSend
  (∃ (s : State) (d : Die), (
      decide (s.zgOn d) &&
      decide (s.zgState d = 3) &&
      decide (s.zgDue d 0x04 49500000 = true) : Bool) = true) ∧
  -- view
  (∃ (s : State) (d : Die) (port : Fin 24) (f : ZgFrame), (
      decide (s.hearsZg d port f 0x04) : Bool) = true) ∧
  -- joinSend
  (∃ (s : State) (d : Die), (
      let st := s.zgState d
      decide (s.zgOn d) &&
      decide (((st = 1 ∨ st = 5) ∧ s.zgDue d 0x02 90000000 = true) ∨ (st = 4 ∧ (s.zg d).refusedAt + 1000000000 ≤ s.ns d)) : Bool) = true) ∧
  -- join
  (∃ (s : State) (d : Die) (port : Fin 24) (f : ZgFrame), (
      decide (s.hearsZg d port f 0x02) &&
      decide (s.zgState d = 3) : Bool) = true) ∧
  -- admitModule
  (∃ (s : State) (d : Die) (port : Fin 24) (f : ZgFrame), (
      decide (s.hearsZg d port f 0x03) &&
      (let st := s.zgState d
      decide (¬ (st ≠ 1 ∧ st ≠ 4 ∧ st ≠ 5))) : Bool) = true) ∧
  -- isolation
  (∃ (s : State) (d : Die), (
      let st := s.zgState d
      let old : Bool := match (s.zg d).viewAt with
        | some t => decide (t + 99000000 ≤ s.ns d)
        | none => false
      decide (s.zgOn d) &&
      decide (1 ≤ st) &&
      decide (old) : Bool) = true) ∧
  -- leave
  (∃ (s : State) (d : Die) (port : Fin 24) (f : ZgFrame), (
      decide (s.hearsZg d port f 0x0C) &&
      (let m := zgFrom f
      decide (m ≠ s.ownId d)) : Bool) = true) ∧
  -- coordinatorTakeover
  (∃ (s : State) (d : Die), (
      let st := s.zgState d
      decide (s.zgOn d) &&
      decide (s.selfElig d) &&
      decide (st ≠ 3) &&
      decide (st ≠ 6) &&
      decide (st ≠ 7) : Bool) = true) ∧
  -- slowClear
  (∃ (s : State) (d : Die) (m : Fin 1024), (
      let x := s.zgMember d m
      decide (s.zgOn d) &&
      decide (s.zgState d = 3) &&
      decide (s.isSlow d m) &&
      decide (x.lastLate + 10000000000 ≤ s.ns d) &&
      decide (x.slowRep + 10000000000 ≤ s.ns d) : Bool) = true) ∧
  -- reportSlot
  (∃ (s : State) (d : Die) (m : Fin 1024) (kind : BitVec 8) (detail : Word), (
      let k := kind.toNat
      let t := detail.toNat
      decide (s.zgOn d) &&
      (match (s.zg d).obs.find? (fun o => decide (o.subj = m.val ∧ o.kind = k ∧ o.detail = t)) with
        | some o =>
          decide (¬ o.done) &&
          decide (o.due ≤ s.ns d)
        | _ => false) : Bool) = true) ∧
  -- reportRetry
  (∃ (s : State) (d : Die) (m : Fin 1024) (kind : BitVec 8) (detail : Word), (
      let k := kind.toNat
      let t := detail.toNat
      decide (s.zgOn d) &&
      (match (s.zg d).obs.find? (fun o => decide (o.subj = m.val ∧ o.kind = k ∧ o.detail = t)) with
        | some o =>
          decide (o.done) &&
          decide (o.due + 100000000 ≤ s.ns d)
        | _ => false) : Bool) = true) ∧
  -- report
  (∃ (s : State) (d : Die) (port : Fin 24) (f : ZgFrame), (
      decide (s.hearsZg d port f 0x05) : Bool) = true) ∧
  -- iamarAck
  (∃ (s : State) (d : Die) (port : Fin 24) (f : ZgFrame), (
      decide (s.hearsZg d port f 0x06) : Bool) = true) ∧
  -- ledgerClose
  (∃ (s : State) (d : Die) (e : Fin 256), (
      let w := s.rd d (ZGP_LEDe e 0)
      let k := ZGP_LEDe__KIND.get w
      decide (s.zgOn d) &&
      decide (ZGP_LEDe__OPEN.get w = 1) &&
      decide (k ≠ 1) &&
      decide (k ≠ 2) &&
      decide ((tget (0, 0) (s.zg d).led e).2 + 10000000000 ≤ s.ns d) : Bool) = true) :=
  ⟨⟨zgAt 2 (fun z => z), 0, by decide +kernel⟩,
   ⟨zgAt 2 (fun z => z), 0, 0, zgOf 1 16 [], by decide +kernel⟩,
   ⟨later (zgAt 2 (fun z => z)), 0, 6, by decide +kernel⟩,
   ⟨zgAt 3 (fun z => z), 0, by decide +kernel⟩,
   ⟨zgAt 2 (fun z => z), 0, 0, zgOf 4 268 [], by decide +kernel⟩,
   ⟨zgAt 1 (fun z => z), 0, by decide +kernel⟩,
   ⟨zgAt 3 (fun z => z), 0, 0, zgOf 2 0 [], by decide +kernel⟩,
   ⟨zgAt 1 (fun z => z), 0, 0, zgOf 3 8 [], by decide +kernel⟩,
   ⟨later (zgAt 2 (fun z => { z with viewAt := some 0 })), 0, by decide +kernel⟩,
   ⟨zgAt 2 (fun z => z), 0, 0, zgOf 12 8 [], by decide +kernel⟩,
   ⟨zgAt 2 (fun z => z), 0, by decide +kernel⟩,
   ⟨later ((zgAt 3 (fun z => z)).wr 0 (ZGP_SLOWw 0) 0x40#32), 0, 6, by decide +kernel⟩,
   ⟨zgAt 2 (fun z => { z with obs := [⟨6, 1, 0, 0, false, false⟩] }), 0, 6, 1, 0, by decide +kernel⟩,
   ⟨later (zgAt 2 (fun z => { z with obs := [⟨6, 1, 0, 0, false, true⟩] })), 0, 6, 1, 0, by decide +kernel⟩,
   ⟨zgAt 2 (fun z => z), 0, 0, zgOf 5 8 [], by decide +kernel⟩,
   ⟨zgAt 2 (fun z => z), 0, 0, zgOf 6 20 [], by decide +kernel⟩,
   ⟨later (((zgAt 2 (fun z => z)).setF 0 (ZGP_LEDe 0 0) ZGP_LEDe__OPEN 1).setF 0 (ZGP_LEDe 0 0) ZGP_LEDe__KIND 3), 0, 0, by decide +kernel⟩⟩

/-- States and operands for the clauses of ZoneRemoteCompletes that have hypotheses. -/
theorem witness_ZoneRemoteCompletes :
  -- zgpReport
  (∃ (s : State) (d : Die) (who : Initiator) (confirm : BitVec 8) (tag : BitVec 8), (
      decide (s.alive d) &&
      decide (who.isManager) &&
      decide (confirm = 0x8C#8) &&
      decide (s.tagNew d 0 who tag.toNat) : Bool) = true) ∧
  -- zgpLeave
  (∃ (s : State) (d : Die) (who : Initiator) (confirm : BitVec 8) (tag : BitVec 8), (
      decide (s.alive d) &&
      decide (who.isManager) &&
      decide (confirm = 0x8C#8) &&
      decide (s.tagNew d 0 who tag.toNat) : Bool) = true) ∧
  -- zgpRejoin
  (∃ (s : State) (d : Die) (who : Initiator) (confirm : BitVec 8) (tag : BitVec 8), (
      decide (s.alive d) &&
      decide (who.isManager) &&
      decide (confirm = 0x8C#8) &&
      decide (s.tagNew d 0 who tag.toNat) : Bool) = true) ∧
  -- zgpRelease
  (∃ (s : State) (d : Die) (who : Initiator) (confirm : BitVec 8) (tag : BitVec 8) (p : Fin 32), (
      decide (s.alive d) &&
      decide (who.isManager) &&
      decide (confirm = 0x8C#8) &&
      decide (s.tagNew d 0 who tag.toNat) : Bool) = true) ∧
  -- publish
  (∃ (s : State) (d : Die) (who : Initiator) (confirm : BitVec 8) (tag : BitVec 8) (p : Fin 32), (
      decide (s.alive d) &&
      decide (who = .part p) &&
      decide (confirm = 0x9A#8) &&
      decide (s.tagNew d 1 who tag.toNat) : Bool) = true) ∧
  -- roamstate
  (∃ (s : State) (d : Die) (port : Fin 24) (f : ZgFrame), (
      decide (s.hearsZg d port f 0x09) &&
      (let b := f.body
      let m := zgFrom f
      let own := s.ownId d
      let hp := u8 b 0
      let off := u32 b 8
      let mine := (List.range 32).find? (fun p => match s.roamOf d p with
        | some r =>
          decide (s.fld d (ZGP_RpSTAT p) ZGP_RpSTAT__STATE ≠ 1 ∧ r.part = hp) &&
            (if s.fld d (ZGP_RpSTAT p) ZGP_RpSTAT__ROLE = 2 then decide (r.home = m)
             else decide (tget none (s.zg d).grants (roamKey own hp) = some m ∨ (s.zg d).released.contains (roamKey own hp) = true))
        | none => false)
      (match mine with
        | some p =>
          (match s.roamOf d p with
            | some r =>
              decide (off + (b.length - 12) ≤ r.size) &&
              decide (off % 1024 = 0)
            | _ => false)
        | _ => false)) : Bool) = true) ∧
  -- roam
  (∃ (s : State) (d : Die) (port : Fin 24) (f : ZgFrame), (
      decide (s.hearsZg d port f 0x0A) : Bool) = true) ∧
  -- roamingGrant
  (∃ (s : State) (d : Die) (home : Fin 1024) (part : Fin 32) (taker : Fin 1024), (
      let key := roamKey home part
      let z := s.zg d
      let runs := (tget none z.grants key).getD home.val
      let x := s.zgMember d runs
      let gone : Bool := x.left || (!s.isMem d runs && (match x.heard with
        | some t => decide (t + 150000000 ≤ s.ns d)
        | none => true))
      let free := z.released.contains key || (decide (runs ≠ s.ownId d) && gone)
      let ready := s.isMem d taker &&
        (if z.released.contains key && s.isMem d home then decide (taker = home)
         else !s.isSlow d taker && (tget [] z.holders key).contains taker.val)
      decide (s.zgOn d) &&
      decide (s.zgState d = 3) &&
      decide (free) &&
      decide (ready) : Bool) = true) ∧
  -- remreq
  (∃ (s : State) (d : Die) (port : Fin 24) (f : ZgFrame), (
      decide (s.hearsZg d port f 0x07) &&
      decide (d = s.holder 8) : Bool) = true) ∧
  -- remoteAccess
  (∃ (s : State) (d : Die) (who : Initiator) (addr : BitVec 40) (size : Fin 9) (op : Fin 8) (fn : BitVec 8) (data : Word) (seq : Word), (
      decide (s.alive d) : Bool) = true) ∧
  -- remrsp
  (∃ (s : State) (d : Die) (port : Fin 24) (f : ZgFrame), (
      decide (s.hearsZg d port f 0x08) &&
      (let b := f.body
      (match (s.zg d).reqs.find? (fun q => decide (q.tag = u16 b 0 ∧ q.member = zgFrom f) && q.sent.isSome) with
        | some _ => true
        | _ => false)) : Bool) = true) ∧
  -- remoteLockTimeout
  (∃ (s : State) (d : Die) (inst : BitVec 16), (
      (match (s.zg d).locks.find? (fun l => decide (l.inst = inst.toNat ∧ l.since + 47500 ≤ s.ns d)) with
        | some _ => true
        | _ => false) : Bool) = true) :=
  ⟨⟨live, 0, .mgmt 0, 0x8C, 0, by decide +kernel⟩,
   ⟨live, 0, .mgmt 0, 0x8C, 0, by decide +kernel⟩,
   ⟨live, 0, .mgmt 0, 0x8C, 0, by decide +kernel⟩,
   ⟨live, 0, .mgmt 0, 0x8C, 0, 0, by decide +kernel⟩,
   ⟨live, 0, .part 0, 0x9A, 0, 0, by decide +kernel⟩,
   ⟨(zgAt 2 (fun z => { z with roam := [(2, some ⟨6, 1, 0x100000000, 4096⟩)] })).setF 0 (ZGP_RpSTAT 2) ZGP_RpSTAT__ROLE 2, 0, 0, zgOf 9 13 [1], by decide +kernel⟩,
   ⟨zgAt 2 (fun z => z), 0, 0, zgOf 10 12 [], by decide +kernel⟩,
   ⟨zgAt 3 (fun z => { z with released := [roamKey 5 1] }), 0, 5, 1, 5, by decide +kernel⟩,
   ⟨zgAt 2 (fun z => z), 0, 0, zgOf 7 20 [], by decide +kernel⟩,
   ⟨zgAt 2 (fun z => z), 0, .mgmt 0, 0x1106000000, 4, 1, 0, 0, 0, by decide +kernel⟩,
   ⟨zgAt 2 (fun z => { z with reqs := [⟨0, 6, .mgmt 0, 0, 0, 0, 0, 0, 0, some 0⟩] }), 0, 0, zgOf 8 12 [], by decide +kernel⟩,
   ⟨later (zgAt 2 (fun z => { z with locks := [⟨0x800, 0, 6, 0⟩] })), 0, 0x800, by decide +kernel⟩⟩

/-- States and operands for the clauses of UpdateCompletes that have hypotheses. -/
theorem witness_UpdateCompletes :
  -- updManifest
  (∃ (s : State) (d : Die) (who : Initiator) (confirm : BitVec 8) (tag : BitVec 8), (
      decide (s.alive d) &&
      decide ((s.boot d).loaderOk) &&
      decide (who.isOwner (s.fld d UPD_CFG UPD_CFG__PART)) &&
      decide (confirm = 0xF1#8) &&
      decide (s.tagNew d 2 who tag.toNat) : Bool) = true) ∧
  -- updStage
  (∃ (s : State) (d : Die) (who : Initiator) (confirm : BitVec 8) (tag : BitVec 8), (
      decide (s.alive d) &&
      decide ((s.boot d).loaderOk) &&
      decide (who.isOwner (s.fld d UPD_CFG UPD_CFG__PART)) &&
      decide (confirm = 0xF1#8) &&
      decide (s.tagNew d 2 who tag.toNat) : Bool) = true) ∧
  -- updInstall
  (∃ (s : State) (d : Die) (who : Initiator) (confirm : BitVec 8) (tag : BitVec 8), (
      decide (s.alive d) &&
      decide ((s.boot d).loaderOk) &&
      decide (who.isOwner (s.fld d UPD_CFG UPD_CFG__PART)) &&
      decide (confirm = 0xF1#8) &&
      decide (s.tagNew d 2 who tag.toNat) : Bool) = true) ∧
  -- updCutover
  (∃ (s : State) (d : Die) (who : Initiator) (confirm : BitVec 8) (tag : BitVec 8), (
      decide (s.alive d) &&
      decide ((s.boot d).loaderOk) &&
      decide (who.isOwner (s.fld d UPD_CFG UPD_CFG__PART)) &&
      decide (confirm = 0xF1#8) &&
      decide (s.tagNew d 2 who tag.toNat) : Bool) = true) ∧
  -- updAbort
  (∃ (s : State) (d : Die) (who : Initiator) (confirm : BitVec 8) (tag : BitVec 8), (
      decide (s.alive d) &&
      decide ((s.boot d).loaderOk) &&
      decide (who.isOwner (s.fld d UPD_CFG UPD_CFG__PART)) &&
      decide (confirm = 0xF1#8) &&
      decide (s.tagNew d 2 who tag.toNat) : Bool) = true) ∧
  -- updClear
  (∃ (s : State) (d : Die) (who : Initiator) (confirm : BitVec 8) (tag : BitVec 8), (
      decide (s.alive d) &&
      decide ((s.boot d).loaderOk) &&
      decide (who.isOwner (s.fld d UPD_CFG UPD_CFG__PART)) &&
      decide (confirm = 0xF1#8) &&
      decide (s.tagNew d 2 who tag.toNat) : Bool) = true) ∧
  -- chunkSync
  (∃ (s : State) (d : Die), (
      let o := d.other
      let ph := s.updPhase
      decide (s.alive d) &&
      decide (s.alive o) &&
      decide (s.linkFlows) &&
      decide (s.isSealed d) &&
      decide (s.isSealed o) &&
      decide (ph = 1 ∨ ph = 2) : Bool) = true) ∧
  -- prep1Complete
  (∃ (s : State), (
      let homes := (List.range 12).any (fun x => decide (s.duxRole 1 x = 1) && decide (s.homed 1 x ≠ []))
      decide (s.updPhase = 3) &&
      decide (homes = false) &&
      decide ((List.range 9).all (fun t => decide (s.holder t = 0)) = true) : Bool) = true) ∧
  -- prep1Timeout
  (∃ (s : State), (
      decide (s.updPhase = 3) &&
      decide (s.phaseAt 0 + 1000000000 ≤ s.ns 0) : Bool) = true) ∧
  -- updateWrite
  (∃ (s : State) (d : Die) (units : BitVec 16), (
      decide (s.alive d) &&
      decide ((s.boot d).loaderOk) &&
      decide (s.writing d) : Bool) = true) ∧
  -- boot1Timeout
  (∃ (s : State), (
      decide (s.updPhase = 5) &&
      decide (s.alive 1 = true) &&
      decide (s.isSealed 1 = false) &&
      decide ((s.vol.get 0).upd.relAt + 2000000000 ≤ s.ns 0) : Bool) = true) ∧
  -- splitLimit
  (∃ (s : State), (
      decide (s.updPhase = 6) &&
      decide (s.phaseAt 0 + s.fld 0 UPD_LIM UPD_LIM__SPLIT * 1000000000 ≤ s.ns 0) : Bool) = true) ∧
  -- cutoverCommit
  (∃ (s : State), (
      decide (s.updPhase = 7) &&
      decide (s.handedOver) &&
      decide (s.linkUp) &&
      decide (s.alive 0) &&
      decide (s.alive 1) &&
      decide (s.isSealed 1) : Bool) = true) ∧
  -- cutoverLimit
  (∃ (s : State), (
      decide (s.updPhase = 7) &&
      decide (s.phaseAt 0 + s.fld 0 UPD_LIM UPD_LIM__CUT * 1000000 ≤ s.ns 0) : Bool) = true) ∧
  -- updateRequest
  (∃ (s : State) (d : Die), (
      let soon : Bool := match (s.vol.get d).upd.sentAt with
        | some t => decide (s.ns d < t + 900000000)
        | none => false
      decide (s.alive d) &&
      decide (s.holder 8 = d) &&
      decide (¬ soon) : Bool) = true) ∧
  -- update
  (∃ (s : State) (d : Die) (port : Fin 24) (f : ZgFrame), (
      decide (s.hearsZg d port f 0x0B) : Bool) = true) ∧
  -- grantLapse
  (∃ (s : State) (d : Die), (
      (match (s.vol.get d).upd.holder with
        | some m =>
          let gone : Bool := decide (m ≠ s.ownId d) && ((s.zgMember d m).lost || (s.zgMember d m).left || !s.isMem d m)
          decide (s.alive d) &&
          decide (gone || decide ((s.vol.get d).upd.grantAt + 10000000000 ≤ s.ns d))
        | _ => false) : Bool) = true) :=
  ⟨⟨live, 0, .mgmt 0, 0xF1, 0, by decide +kernel⟩,
   ⟨live, 0, .mgmt 0, 0xF1, 0, by decide +kernel⟩,
   ⟨live, 0, .mgmt 0, 0xF1, 0, by decide +kernel⟩,
   ⟨live, 0, .mgmt 0, 0xF1, 0, by decide +kernel⟩,
   ⟨live, 0, .mgmt 0, 0xF1, 0, by decide +kernel⟩,
   ⟨live, 0, .mgmt 0, 0xF1, 0, by decide +kernel⟩,
   ⟨updAt 1, 0, by decide +kernel⟩,
   ⟨updAt 3, by decide +kernel⟩,
   ⟨noJournal (later (updAt 3)) 0, by decide +kernel⟩,
   ⟨journalAt live 1 4, 1, 0, by decide +kernel⟩,
   ⟨later ((updAt 5).setF 1 UPD_DSTAT UPD_DSTAT__STATE 2), by decide +kernel⟩,
   ⟨noJournal (later (updAt 6)) 0, by decide +kernel⟩,
   ⟨updAt 7, by decide +kernel⟩,
   ⟨noJournal (later (updAt 7)) 0, by decide +kernel⟩,
   ⟨live, 0, by decide +kernel⟩,
   ⟨zgAt 2 (fun z => z), 0, 0, zgOf 11 24 [], by decide +kernel⟩,
   ⟨later (live.updUpd 0 (fun u => { u with holder := some 0 })), 0, by decide +kernel⟩⟩

/-- States and operands for the clauses of FaultsComplete that have hypotheses. -/
theorem witness_FaultsComplete :
  -- summaryWrite
  (∃ (s : State) (d : Die) (cls : Fin 24), (
      let f := (s.vol.get d).flt
      let e := tget {} f.sums cls.val
      let due : Bool := match tget none f.sumWritten cls.val with
        | some t => decide (t + 10000000000 ≤ s.ns d)
        | none => true
      decide (s.alive d) &&
      decide (due) &&
      decide (0 < cls.val) &&
      decide (0 < e.count) : Bool) = true) ∧
  -- faultAssert
  (∃ (s : State) (d : Die) (who : Initiator) (confirm : BitVec 8), (
      decide (s.alive d) &&
      decide (who.isManager) &&
      decide (confirm = 0xB4#8) : Bool) = true) ∧
  -- faultRelease
  (∃ (s : State) (d : Die) (who : Initiator) (confirm : BitVec 8), (
      decide (s.alive d) &&
      decide (who.isManager) &&
      decide (confirm = 0xB4#8) : Bool) = true) ∧
  -- blotterRead
  (∃ (s : State) (d : Die) (who : Initiator) (confirm : BitVec 8), (
      decide (s.alive d) &&
      decide (who.isManager) &&
      decide (confirm = 0xB4#8) : Bool) = true) ∧
  -- blotterRelease
  (∃ (s : State) (d : Die) (who : Initiator) (confirm : BitVec 8), (
      decide (s.alive d) &&
      decide (who.isManager) &&
      decide (confirm = 0xB4#8) : Bool) = true) ∧
  -- dump
  (∃ (s : State) (d : Die) (who : Initiator) (confirm : BitVec 8), (
      decide (s.alive d) &&
      decide (who.isManager) &&
      decide (confirm = 0xB4#8) : Bool) = true) ∧
  -- clearsum
  (∃ (s : State) (d : Die) (who : Initiator) (confirm : BitVec 8), (
      decide (s.alive d) &&
      decide (who.isManager) &&
      decide (confirm = 0xB4#8) : Bool) = true) ∧
  -- scrubPass
  (∃ (s : State) (d : Die) (dram : Bool), (
      decide (s.alive d) : Bool) = true) ∧
  -- sramRowRemap
  (∃ (s : State) (d : Die) (mem : Fin 12) (bank : BitVec 8) (row : BitVec 24) (lost : Bool), (
      decide (s.alive d) &&
      decide (bank.toNat < sramBanks mem.val) &&
      decide (¬ ((s.keep.get d).rows.any (fun r => decide (r.1 = mem.val ∧ r.2.1 = bank.toNat ∧ r.2.2.1 = row.toNat)))) : Bool) = true) ∧
  -- dramRowRepair
  (∃ (s : State) (d : Die) (bank : Fin 64) (row : BitVec 24), (
      decide (s.alive d) : Bool) = true) ∧
  -- dramEccError
  (∃ (s : State) (d : Die) (dux : Fin 12) (addr : BitVec 48) (applying : Bool), (
      let x := dux.val
      let a := addr.toNat
      decide (s.duxUp d x) &&
      decide (0x100000000 ≤ a) &&
      decide (a < 0x300000000) : Bool) = true) ∧
  -- fatalFailure
  (∃ (s : State) (d : Die) (cause : Fin 5), (
      decide (s.alive d) &&
      decide (0 < cause.val) : Bool) = true) ∧
  -- managementWatchdogExpiry
  (∃ (s : State) (d : Die), (
      decide (s.alive d) : Bool) = true) ∧
  -- dumpComplete
  (∃ (s : State) (d : Die), (
      let f := (s.vol.get d).flt
      (match f.fatal with
        | some _ =>
          decide ((s.keep.get d).run = .dumping) &&
          decide ((s.keep.get d.other).run ≠ .dumping)
        | _ => false) : Bool) = true) ∧
  -- blotterCopy
  (∃ (s : State) (d : Die), (
      let k := s.keep.get d
      (match oldestDump k.dramDumps (fun m => m.complete && !m.copied) with
        | some i =>
          (match tget none k.dramDumps i with
            | some _ =>
              decide (s.alive d) &&
              decide (s.isSealed d)
            | _ => false)
        | _ => false) : Bool) = true) ∧
  -- katStep
  (∃ (s : State) (d : Die) (pass : Bool), (
      decide (s.alive d) : Bool) = true) :=
  ⟨⟨live.updVol 0 (fun v => { v with flt := { v.flt with sums := [(5, { count := 1 })] } }), 0, 5, by decide +kernel⟩,
   ⟨live, 0, .mgmt 0, 0xB4, by decide +kernel⟩,
   ⟨live, 0, .mgmt 0, 0xB4, by decide +kernel⟩,
   ⟨live, 0, .mgmt 0, 0xB4, by decide +kernel⟩,
   ⟨live, 0, .mgmt 0, 0xB4, by decide +kernel⟩,
   ⟨live, 0, .mgmt 0, 0xB4, by decide +kernel⟩,
   ⟨live, 0, .mgmt 0, 0xB4, by decide +kernel⟩,
   ⟨live, 0, false, by decide +kernel⟩,
   ⟨live, 0, 1, 0, 0, false, by decide +kernel⟩,
   ⟨live, 0, 0, 0, by decide +kernel⟩,
   ⟨coresAt (fun c => { c with sealed := true }), 0, 0, 0x100000000, false, by decide +kernel⟩,
   ⟨live, 0, 1, by decide +kernel⟩,
   ⟨live, 0, by decide +kernel⟩,
   ⟨(live.updKeep 0 (fun k => { k with run := .dumping })).updVol 0 (fun v => { v with flt := { v.flt with fatal := some 1 } }), 0, by decide +kernel⟩,
   ⟨live.updKeep 0 (fun k => { k with dramDumps := [(0, some ⟨1, 0, true, false, false, 64, 0, false, 0⟩)] }), 0, by decide +kernel⟩,
   ⟨live, 0, false, by decide +kernel⟩⟩

/-- States and operands for the clauses of SecurityCompletes that have hypotheses. -/
theorem witness_SecurityCompletes :
  -- dieGlitch
  (∃ (s : State) (d : Die), (
      decide ((s.keep.get d).supplied) : Bool) = true) ∧
  -- cisternGlitch
  (∃ (s : State), (
      decide (s.cis.powered) : Bool) = true) ∧
  -- drbgHealthFail
  (∃ (s : State) (d : Die), (
      decide (s.alive d) : Bool) = true) ∧
  -- challenge
  (∃ (s : State) (d : Die) (who : Initiator) (confirm : BitVec 8), (
      decide (s.alive d) &&
      decide (who.isManager || decide (who = .debug)) &&
      decide (confirm = 0xDB#8) : Bool) = true) ∧
  -- unlock
  (∃ (s : State) (d : Die) (who : Initiator) (confirm : BitVec 8) (scope : BitVec 2), (
      decide (s.alive d) &&
      decide (who.isManager || decide (who = .debug)) &&
      decide (confirm = 0xDB#8) &&
      decide (scope ≠ 0#2) : Bool) = true) ∧
  -- unlockVerified
  (∃ (s : State) (d : Die), (
      (match (s.sec d).verifying with
        | some (_, _) => decide (s.alive d)
        | _ => false) : Bool) = true) ∧
  -- challengeExpiry
  (∃ (s : State) (d : Die), (
      decide ((s.sec d).chal.isSome) &&
      decide ((s.sec d).chalAt + 60000000000 ≤ s.ns d) : Bool) = true) ∧
  -- zeroise
  (∃ (s : State) (d : Die), (
      decide (s.alive d) : Bool) = true) ∧
  -- measurementRead
  (∃ (s : State) (d : Die) (who : Initiator), (
      decide (s.alive d) &&
      decide (who.isManager || decide (who = .debug)) : Bool) = true) ∧
  -- secRandom
  (∃ (s : State) (d : Die) (cmd : SecCmd), (
      (match s.secReq d cmd.who with
        | some q =>
          decide (s.secStarts d cmd q) &&
          decide (s.secOpen d false true)
        | _ => false) : Bool) = true) ∧
  -- secKeygen
  (∃ (s : State) (d : Die) (cmd : SecCmd), (
      (match s.secReq d cmd.who with
        | some q =>
          decide (s.secStarts d cmd q) &&
          decide (s.secOpen d true true)
        | _ => false) : Bool) = true) ∧
  -- secLoad
  (∃ (s : State) (d : Die) (cmd : SecCmd), (
      (match s.secReq d cmd.who with
        | some q =>
          decide (s.secStarts d cmd q) &&
          decide (s.secOpen d true false)
        | _ => false) : Bool) = true) ∧
  -- secSave
  (∃ (s : State) (d : Die) (cmd : SecCmd), (
      (match s.secReq d cmd.who with
        | some q =>
          decide (s.secStarts d cmd q) &&
          decide (s.secOpen d true false)
        | _ => false) : Bool) = true) ∧
  -- secGcmEncrypt
  (∃ (s : State) (d : Die) (cmd : SecCmd), (
      (match s.secReq d cmd.who with
        | some q =>
          decide (s.secStarts d cmd q) &&
          decide (s.secOpen d true false)
        | _ => false) : Bool) = true) ∧
  -- secGcmDecrypt
  (∃ (s : State) (d : Die) (cmd : SecCmd), (
      (match s.secReq d cmd.who with
        | some q =>
          decide (s.secStarts d cmd q) &&
          decide (s.secOpen d true false)
        | _ => false) : Bool) = true) ∧
  -- secSign
  (∃ (s : State) (d : Die) (cmd : SecCmd), (
      (match s.secReq d cmd.who with
        | some q =>
          decide (s.secStarts d cmd q) &&
          decide (s.secOpen d true false)
        | _ => false) : Bool) = true) ∧
  -- secAttest
  (∃ (s : State) (d : Die) (cmd : SecCmd), (
      (match s.secReq d cmd.who with
        | some q =>
          decide (s.secStarts d cmd q) &&
          decide (s.secOpen d true false)
        | _ => false) : Bool) = true) ∧
  -- secClearSlot
  (∃ (s : State) (d : Die) (cmd : SecCmd), (
      (match s.secReq d cmd.who with
        | some q =>
          decide (s.secStarts d cmd q) &&
          decide (s.secOpen d true false)
        | _ => false) : Bool) = true) ∧
  -- secSha384
  (∃ (s : State) (d : Die) (cmd : SecCmd), (
      (match s.secReq d cmd.who with
        | some q =>
          decide (s.secStarts d cmd q) &&
          decide (s.secOpen d false false)
        | _ => false) : Bool) = true) ∧
  -- secOperationComplete
  (∃ (s : State) (d : Die), (
      (match (s.sec d).op with
        | some _ => decide (s.alive d)
        | _ => false) : Bool) = true) :=
  ⟨⟨live, 0, by decide +kernel⟩,
   ⟨live, by decide +kernel⟩,
   ⟨live, 0, by decide +kernel⟩,
   ⟨live, 0, .mgmt 0, 0xDB, by decide +kernel⟩,
   ⟨live, 0, .mgmt 0, 0xDB, 1, by decide +kernel⟩,
   ⟨live.updSec 0 (fun x => { x with verifying := some (1, true) }), 0, by decide +kernel⟩,
   ⟨later (live.updSec 0 (fun x => { x with chal := some 0 })), 0, by decide +kernel⟩,
   ⟨live, 0, by decide +kernel⟩,
   ⟨live, 0, .mgmt 0, by decide +kernel⟩,
   ⟨live, 0, ⟨.sealed 0, 0, 1, 0xC9⟩, by decide +kernel⟩,
   ⟨live.setF 0 SEC_STAT SEC_STAT__VAULT 1, 0, ⟨.sealed 0, 0, 1, 0xC9⟩, by decide +kernel⟩,
   ⟨live.setF 0 SEC_STAT SEC_STAT__VAULT 1, 0, ⟨.sealed 0, 0, 1, 0xC9⟩, by decide +kernel⟩,
   ⟨live.setF 0 SEC_STAT SEC_STAT__VAULT 1, 0, ⟨.sealed 0, 0, 1, 0xC9⟩, by decide +kernel⟩,
   ⟨live.setF 0 SEC_STAT SEC_STAT__VAULT 1, 0, ⟨.sealed 0, 0, 1, 0xC9⟩, by decide +kernel⟩,
   ⟨live.setF 0 SEC_STAT SEC_STAT__VAULT 1, 0, ⟨.sealed 0, 0, 1, 0xC9⟩, by decide +kernel⟩,
   ⟨live.setF 0 SEC_STAT SEC_STAT__VAULT 1, 0, ⟨.sealed 0, 0, 1, 0xC9⟩, by decide +kernel⟩,
   ⟨live.setF 0 SEC_STAT SEC_STAT__VAULT 1, 0, ⟨.sealed 0, 0, 1, 0xC9⟩, by decide +kernel⟩,
   ⟨live.setF 0 SEC_STAT SEC_STAT__VAULT 1, 0, ⟨.sealed 0, 0, 1, 0xC9⟩, by decide +kernel⟩,
   ⟨live, 0, ⟨.sealed 0, 0, 1, 0xC9⟩, by decide +kernel⟩,
   ⟨live.updSec 0 (fun x => { x with op := some ⟨1, 0, [], 0, none⟩ }), 0, by decide +kernel⟩⟩

/-- States and operands for the clauses of PowerRecordsComplete that have hypotheses. -/
theorem witness_PowerRecordsComplete :
  -- islandClockRecord
  (∃ (s : State) (d : Die) (r : Rec), (
      let b := r.body
      let n := r.inst
      let f := u16 b 0
      let gated := u8 b 2
      decide (s.takesRecord d r 0 false 0x0C01) &&
      decide (b.length = 8) &&
      decide (gated < 2) &&
      decide (zeroBytes b 3 5) &&
      decide ((if 1 ≤ n ∧ n ≤ 3 then decide (800 ≤ f ∧ f ≤ 2200 ∧ f % 100 = 0 ∧ gated = 0) else decide (4 ≤ n ∧ n ≤ 11 ∧ f = 400) && (decide (gated = 0) || !s.clusterAssigned d (n - 4)))) : Bool) = true) ∧
  -- channelRecord
  (∃ (s : State) (d : Die) (r : Rec), (
      let b := r.body
      decide (s.takesRecord d r (u8 b 0) false 0x0201) &&
      decide (r.inst < 19) &&
      decide (channelOk r.inst b) : Bool) = true) ∧
  -- feedRecord
  (∃ (s : State) (d : Die) (r : Rec), (
      let b := r.body
      decide (s.takesRecord d r 0 false 0x0202) &&
      decide (r.inst = 0) &&
      decide (b.length = 8) &&
      decide (u8 b 0 ≤ 1) &&
      decide (u8 b 1 ≤ 1) &&
      decide (zeroBytes b 2 6) : Bool) = true) ∧
  -- switchDieControlRecord
  (∃ (s : State) (d : Die) (r : Rec), (
      decide (s.takesRecord d r 0 false 0x0203) &&
      decide (controlBodyOk r) : Bool) = true) ∧
  -- failSafeEntryRecord
  (∃ (s : State) (d : Die) (r : Rec), (
      let b := r.body
      decide (s.takesRecord d r (u8 b 0) false 0x0204) &&
      decide (r.inst < 19) &&
      decide (entryOk r.inst b) : Bool) = true) ∧
  -- clusterRecord
  (∃ (s : State) (d : Die) (r : Rec), (
      let u := s.noteLanes d r
      decide (u.takesRecord d r 0 false 0x0301) &&
      decide (clusterForm r) &&
      decide (s.replaced d r || !s.lanesClash d r) : Bool) = true) ∧
  -- programRecord
  (∃ (s : State) (d : Die) (r : Rec), (
      decide (s.takesRecord d r (r.seq.toNat) false 0x0302) &&
      decide (s.progJudge d r = .good) : Bool) = true) ∧
  -- subscriptionRecord
  (∃ (s : State) (d : Die) (r : Rec), (
      let b := r.body
      let first := u16 b 4
      let last := u16 b 6
      let silent : Bool := decide (u8 b 1 % 2 = 1)
      let event := decide (u8 b 1 / 2 % 2 = 1)
      let u : Subscr := ⟨first, last, silent || decide (first = 0x600), if event then some (u8 b 2) else none⟩
      decide (s.takesRecord d r (r.seq.toNat) false 0x0303) &&
      decide (r.inst < 8) &&
      decide (b.length = 8) &&
      decide (u8 b 1 < 4) &&
      decide (u8 b 3 = 0) &&
      decide (first ≤ last) &&
      decide (last < 0x601) &&
      decide (s.nibNameOk d r.inst (u8 b 0)) &&
      decide (¬ (silent && event)) &&
      decide ((if event then decide (u8 b 2 < 16) else decide (u8 b 2 = 0))) &&
      decide ((List.range (last + 1 - first)).all (fun i => isSource (first + i))) &&
      decide (¬ (event && decide (last = 0x600))) &&
      decide (!silent || decide (first = 0x600) || decide (0x20 ≤ first ∧ last ≤ 0xCF)) &&
      decide (silentSources (((s.cl d r.inst).nib (u8 b 0)).subs ++ [u]) ≤ 32) : Bool) = true) ∧
  -- tickRecord
  (∃ (s : State) (d : Die) (r : Rec), (
      let b := r.body
      decide (s.takesRecord d r (u8 b 0) false 0x0304) &&
      decide (tickForm r) &&
      decide (¬ (decide (u8 b 0 = 15) && s.controls d r.inst)) : Bool) = true) ∧
  -- mailboxRecord
  (∃ (s : State) (d : Die) (r : Rec), (
      let b := r.body
      let target := u16 b 4
      let ok : Bool := match u8 b 2 with
        | 1 => decide (target < 24)
        | 2 => decide (target < 28)
        | 3 => decide (1 ≤ target ∧ target < 32) && s.defined d target
        | 4 => decide (target < 256 ∧ target % 32 < 30)
        | _ => false
      decide (s.takesRecord d r (u8 b 0 * 16 + u8 b 1) false 0x0305) &&
      decide (r.inst < 8) &&
      decide (b.length = 8) &&
      decide (u8 b 1 < 16) &&
      decide (u8 b 3 = 0) &&
      decide (1 ≤ u16 b 6) &&
      decide (u16 b 6 ≤ 256) &&
      decide (s.nibNameOk d r.inst (u8 b 0)) &&
      decide (ok) &&
      decide (decide (u8 b 2 ≠ 2 ∨ 16 ≤ target) || decide (s.boxCredits d target r.inst (u8 b 0) (u8 b 1) + u16 b 6 ≤ 32)) : Bool) = true) :=
  ⟨⟨atRec (withDstate 2) 0 (recOf 0x0C01 0x20001 8 [32, 3]), 0, recOf 0x0C01 0x20001 8 [32, 3], by decide +kernel⟩,
   ⟨atRec (withDstate 2) 0 (recOf 0x0201 0xE0000 24 [0, 0, 7, 0, 10, 0, 0, 0, 100, 0, 10]), 0, recOf 0x0201 0xE0000 24 [0, 0, 7, 0, 10, 0, 0, 0, 100, 0, 10], by decide +kernel⟩,
   ⟨atRec (withDstate 2) 0 (recOf 0x0202 0xE0000 8 [1]), 0, recOf 0x0202 0xE0000 8 [1], by decide +kernel⟩,
   ⟨atRec (withDstate 2) 0 (recOf 0x0203 0xE0000 8 [1, 1]), 0, recOf 0x0203 0xE0000 8 [1, 1], by decide +kernel⟩,
   ⟨atRec (withDstate 2) 0 (recOf 0x0204 0xE0000 8 [0, 1, 0, 0, 1]), 0, recOf 0x0204 0xE0000 8 [0, 1, 0, 0, 1], by decide +kernel⟩,
   ⟨atRec (withDstate 2) 0 (recOf 0x0301 0x80000 8 [0, 0, 100]), 0, recOf 0x0301 0x80000 8 [0, 0, 100], by decide +kernel⟩,
   ⟨atRec (withDstate 2) 0 (recOf 0x0302 0x80000 32 [1, 0, 0, 0, 2, 0, 0, 0, 0, 0, 0, 0, 1, 0, 16]), 0, recOf 0x0302 0x80000 32 [1, 0, 0, 0, 2, 0, 0, 0, 0, 0, 0, 0, 1, 0, 16], by decide +kernel⟩,
   ⟨atRec (withDstate 2) 0 (recOf 0x0303 0x80000 8 [0, 2, 1]), 0, recOf 0x0303 0x80000 8 [0, 2, 1], by decide +kernel⟩,
   ⟨atRec (withDstate 2) 0 (recOf 0x0304 0x80000 16 [0, 0, 0, 0, 16, 39]), 0, recOf 0x0304 0x80000 16 [0, 0, 0, 0, 16, 39], by decide +kernel⟩,
   ⟨atRec (withDstate 2) 0 (recOf 0x0305 0x80000 8 [0, 0, 2, 0, 0, 0, 1]), 0, recOf 0x0305 0x80000 8 [0, 0, 2, 0, 0, 0, 1], by decide +kernel⟩⟩

/-- States and operands for the clauses of GatewayRecordsComplete that have hypotheses. -/
theorem witness_GatewayRecordsComplete :
  -- descriptorBlockRecord
  (∃ (s : State) (d : Die) (r : Rec), (
      decide (s.takesRecord d r (r.seq.toNat) false 0x0401) &&
      decide (s.blockJudge d r 0 = .good) : Bool) = true) ∧
  -- fanOutBlockRecord
  (∃ (s : State) (d : Die) (r : Rec), (
      decide (s.takesRecord d r (r.seq.toNat) false 0x0402) &&
      decide (s.blockJudge d r 1 = .good) : Bool) = true) ∧
  -- pduBlockRecord
  (∃ (s : State) (d : Die) (r : Rec), (
      decide (s.takesRecord d r (r.seq.toNat) false 0x0403) &&
      decide (s.blockJudge d r 2 = .good) : Bool) = true) ∧
  -- gatewayRecord
  (∃ (s : State) (d : Die) (r : Rec), (
      let b := r.body
      decide (s.takesRecord d r 0 false 0x0404) &&
      decide (r.inst < 8) &&
      decide (b.length = 16) &&
      decide (u32 b 0 < 2 ^ 30) &&
      decide (u8 b 4 < 15) &&
      decide (u8 b 5 = 0) &&
      decide (16 ≤ u16 b 6) &&
      decide (u16 b 6 ≤ 512) &&
      decide (1 ≤ u16 b 8) &&
      decide (u16 b 8 ≤ 1000) &&
      decide (¬ r.late) &&
      decide (zeroBytes b 10 6) &&
      decide (¬ (bitOf (u32 b 0) 29 && s.controls d r.inst)) &&
      decide (s.depths d r.inst (u32 b 0) (u16 b 6) ≤ 4096) &&
      decide (100000 ≤ s.tickAhead d r.inst (u8 b 4)) &&
      decide (s.tickAhead d r.inst (u8 b 4) ≤ 1000000) : Bool) = true) ∧
  -- partitionMailboxRecord
  (∃ (s : State) (d : Die) (r : Rec), (
      let b := r.body
      decide (s.takesRecord d r 0 false 0x0405) &&
      decide (r.inst < 32) &&
      decide (b.length = 24) &&
      decide (s.defined d r.inst) &&
      decide (6 ≤ u8 b 16) &&
      decide (u8 b 16 ≤ 11) &&
      decide (4 ≤ u8 b 17) &&
      decide (u8 b 17 ≤ 12) &&
      decide (6 ≤ u8 b 18) &&
      decide (u8 b 18 ≤ 11) &&
      decide (4 ≤ u8 b 19) &&
      decide (u8 b 19 ≤ 12) &&
      decide (¬ r.late) &&
      decide (zeroBytes b 20 4) &&
      decide (s.ringOk d r.inst (u64 b 0) (ringSize (u8 b 16) (u8 b 17))) &&
      decide (s.ringOk d r.inst (u64 b 8) (ringSize (u8 b 18) (u8 b 19))) : Bool) = true) ∧
  -- acfPortRecord
  (∃ (s : State) (d : Die) (r : Rec), (
      let b := r.body
      decide (s.takesRecord d r 0 false 0x0406) &&
      decide (r.inst < 24) &&
      decide (b.length = 24) &&
      decide (u16 b 6 < 2 ^ 15) &&
      decide (u16 b 6 % 2 ^ 12 ≠ 4095) &&
      decide (u8 b 16 < 2) &&
      decide (u8 b 17 < 2) &&
      decide (zeroBytes b 18 6) : Bool) = true) ∧
  -- valueTableRecord
  (∃ (s : State) (d : Die) (r : Rec), (
      let b := r.body
      decide (s.takesRecord d r (r.seq.toNat) false 0x0407) &&
      decide (r.inst < 8) &&
      decide (u32 b 0 % 8 = 0) &&
      decide (1 ≤ u32 b 4) &&
      decide (b.length = 8 + 8 * u32 b 4) &&
      decide (u32 b 0 + 8 * u32 b 4 ≤ 0x3F000) : Bool) = true) :=
  ⟨⟨atRec (((withDstate 2).setF 0 (WLD_pCFG 31) WLD_pCFG__DEFINED 1)) 0 (recOf 0x0401 0x90000 24 [0, 0, 0, 0, 1, 0, 0, 0, 0, 0, 0, 248, 255, 127, 0, 0, 0, 0, 0, 0, 0, 240, 255, 255]), 0, recOf 0x0401 0x90000 24 [0, 0, 0, 0, 1, 0, 0, 0, 0, 0, 0, 248, 255, 127, 0, 0, 0, 0, 0, 0, 0, 240, 255, 255], by decide +kernel⟩,
   ⟨atRec (withDstate 2) 0 (recOf 0x0402 0x90000 24 [0, 0, 0, 0, 1]), 0, recOf 0x0402 0x90000 24 [0, 0, 0, 0, 1], by decide +kernel⟩,
   ⟨atRec (withDstate 2) 0 (recOf 0x0403 0x90000 40 [0, 0, 0, 0, 1]), 0, recOf 0x0403 0x90000 40 [0, 0, 0, 0, 1], by decide +kernel⟩,
   ⟨live.setF 0 UPD_DSTAT UPD_DSTAT__STATE 2 |>.setTodoList 0 [recOf 0x0404 0x090000 16 [1, 0, 0, 0, 0, 0, 16, 0, 1], recOf 0x0304 0x080000 16 [0, 0, 0, 0, 0xA0, 0x86, 1]], 0, recOf 0x0404 0x090000 16 [1, 0, 0, 0, 0, 0, 16, 0, 1], by decide +kernel⟩,
   ⟨atRec (((regionAt (withDstate 2) 0 0x100000 0x100000 0x800006A1 2).setF 0 (WLD_pCFG 1) WLD_pCFG__DEFINED 1)) 0 (recOf 0x0405 0x90001 24 [0, 0, 0, 0, 1, 0, 0, 0, 0, 4, 0, 0, 1, 0, 0, 0, 6, 4, 6, 4]), 0, recOf 0x0405 0x90001 24 [0, 0, 0, 0, 1, 0, 0, 0, 0, 4, 0, 0, 1, 0, 0, 0, 6, 4, 6, 4], by decide +kernel⟩,
   ⟨atRec (withDstate 2) 0 (recOf 0x0406 0x90000 24 []), 0, recOf 0x0406 0x90000 24 [], by decide +kernel⟩,
   ⟨atRec (withDstate 2) 0 (recOf 0x0407 0x90000 16 [0, 0, 0, 0, 1]), 0, recOf 0x0407 0x90000 16 [0, 0, 0, 0, 1], by decide +kernel⟩⟩

/-- States and operands for the clauses of FieldAndPortRecordsComplete that have hypotheses. -/
theorem witness_FieldAndPortRecordsComplete :
  -- canControllerRecord
  (∃ (s : State) (d : Die) (r : Rec), (
      let c := r.inst
      let w := bodyWord r 0
      let cfg := w 3
      let mode := FBB_CcCFG__MODE.get cfg
      let wakes := (List.range 16).filter (fun k => decide (k ≠ c) && s.bit d (FBB_CcCFG k) FBB_CcCFG__DWAKE)
      let ok : Bool := decide (c < 16 ∧ r.body.length = 24 ∧ cfg.toNat < 2 ^ 24 ∧ (w 4).toNat < 2 ^ 16) && !r.late && nbtOk (w 0) &&
        (if 2 ≤ mode then dbtOk (w 1) 8 else decide (w 1 = 0#32)) && (if mode = 3 then dbtOk (w 2) 20 else decide (w 2 = 0#32)) &&
        s.defined d (FBB_CcCFG__PART.get cfg) && (decide (FBB_CcCFG__PART.get cfg ≠ 0) || !(bitOf cfg.toNat 2 || bitOf cfg.toNat 12)) &&
        !(bitOf cfg.toNat 23 && decide (4 ≤ wakes.length))
      decide (s.takesRecord d r 0 false 0x0501) &&
      decide (ok) : Bool) = true) ∧
  -- canFiltersRecord
  (∃ (s : State) (d : Die) (r : Rec), (
      let first := u32 r.body 0
      let n := u32 r.body 4
      decide (s.takesRecord d r (r.seq.toNat) false 0x0502) &&
      decide (r.inst < 16) &&
      decide (r.body.length = 8 + 8 * n) &&
      decide (first < 64) &&
      decide (first + n ≤ 64) &&
      decide ((List.range n).all (fun i => decide (bitOf (bodyWord r 12 (2 * i)).toNat 29 = false))) : Bool) = true) ∧
  -- linControllerRecord
  (∃ (s : State) (d : Die) (r : Rec), (
      let cfg := bodyWord r 0 0
      let baud := FBB_LlCFG__BAUD.get cfg
      decide (s.takesRecord d r 0 false 0x0503) &&
      decide (16 ≤ r.inst) &&
      decide (r.inst < 28) &&
      decide (r.body.length = 8) &&
      decide (1000 ≤ baud) &&
      decide (baud ≤ 20000) &&
      decide (FBB_LlCFG__BREAK.get cfg ≤ 13) &&
      decide (¬ r.late) &&
      decide (zeroBytes r.body 4 4) &&
      decide (s.defined d (FBB_LlCFG__PART.get cfg)) &&
      decide (decide (FBB_LlCFG__PART.get cfg ≠ 0) || !(bitOf cfg.toNat 16 || bitOf cfg.toNat 26)) : Bool) = true) ∧
  -- linFrameTableRecord
  (∃ (s : State) (d : Die) (r : Rec), (
      decide (s.takesRecord d r (r.seq.toNat) false 0x0504) &&
      decide (linTableOk r (fun w => decide (w.toNat < 2 ^ 7 ∧ FBB_LlFRMi__DIR.get w ≠ 3 ∧ 1 ≤ FBB_LlFRMi__LEN.get w ∧ FBB_LlFRMi__LEN.get w ≤ 8))) : Bool) = true) ∧
  -- linScheduleRecord
  (∃ (s : State) (d : Die) (r : Rec), (
      decide (s.takesRecord d r (r.seq.toNat) false 0x0505) &&
      decide (linTableOk r (fun w => decide (w.toNat < 2 ^ 16 ∧ w.toNat / 64 % 4 = 0 ∧ 1 ≤ FBB_LlSCHs__TIME.get w))) &&
      decide (s.bit d (FBB_CcCFG r.inst) FBB_LlCFG__MASTER) : Bool) = true) ∧
  -- senseInputsRecord
  (∃ (s : State) (d : Die) (r : Rec), (
      let first := u32 r.body 0
      let n := u32 r.body 4
      decide (s.takesRecord d r (r.seq.toNat) false 0x0506) &&
      decide (r.inst = 0) &&
      decide (r.body.length = 8 + 8 * n) &&
      decide (first + n ≤ 96) &&
      decide (¬ r.late) &&
      decide ((List.range n).all (fun i => senseOk (bodyWord r 8 (2 * i)) (bodyWord r 12 (2 * i)))) : Bool) = true) ∧
  -- satelliteBusRecord
  (∃ (s : State) (d : Die) (r : Rec), (
      let cfg := bodyWord r 0 0
      let n := FBB_SATbCFG__N.get cfg
      decide (s.takesRecord d r 0 false 0x0507) &&
      decide (r.inst < 4) &&
      decide (r.body.length = 24) &&
      decide (cfg.toNat < 2 ^ 10) &&
      decide (cfg.toNat / 128 % 2 = 0) &&
      decide (2 ≤ n) &&
      decide (n ≤ 64) &&
      decide (bitOf cfg.toNat 9) &&
      decide (¬ r.late) &&
      decide (zeroBytes r.body 20 4) &&
      decide ((List.range 4).all (fun c => decide ((bodyWord r 4 c).toNat < 2 ^ 27 ∧ FBB_SATbPRc__WSIZE.get (bodyWord r 4 c) ≠ 3))) : Bool) = true) ∧
  -- portRecord
  (∃ (s : State) (d : Die) (r : Rec), (
      let b := r.body
      let p := r.inst
      decide (s.takesRecord d r 0 false 0x0601) &&
      decide (portBodyOk p b) &&
      decide (s.sharesOk d 27 0) &&
      decide (s.defined d (u8 b 4)) : Bool) = true) :=
  ⟨⟨atRec (withDstate 2) 0 (recOf 0x0501 0xA0000 24 [119, 38]), 0, recOf 0x0501 0xA0000 24 [119, 38], by decide +kernel⟩,
   ⟨atRec (withDstate 2) 0 (recOf 0x0502 0xA0000 16 [0, 0, 0, 0, 1]), 0, recOf 0x0502 0xA0000 16 [0, 0, 0, 0, 1], by decide +kernel⟩,
   ⟨atRec (withDstate 2) 0 (recOf 0x0503 0xA0010 8 [232, 3]), 0, recOf 0x0503 0xA0010 8 [232, 3], by decide +kernel⟩,
   ⟨atRec (withDstate 2) 0 (recOf 0x0504 0xA0010 16 [0, 0, 0, 0, 1, 0, 0, 0, 8]), 0, recOf 0x0504 0xA0010 16 [0, 0, 0, 0, 1, 0, 0, 0, 8], by decide +kernel⟩,
   ⟨atRec ((withDstate 2).setF 0 (FBB_CcCFG 16) FBB_LlCFG__MASTER 1) 0 (recOf 0x0505 0xA0010 16 [0, 0, 0, 0, 1, 0, 0, 0, 0, 1]), 0, recOf 0x0505 0xA0010 16 [0, 0, 0, 0, 1, 0, 0, 0, 0, 1], by decide +kernel⟩,
   ⟨atRec (withDstate 2) 0 (recOf 0x0506 0xA0000 16 [0, 0, 0, 0, 1]), 0, recOf 0x0506 0xA0000 16 [0, 0, 0, 0, 1], by decide +kernel⟩,
   ⟨atRec (withDstate 2) 0 (recOf 0x0507 0xA0000 24 [2, 2]), 0, recOf 0x0507 0xA0000 24 [2, 2], by decide +kernel⟩,
   ⟨atRec (withDstate 2) 0 (recOf 0x0601 0xB0000 32 [1, 0, 0, 0, 0, 0, 0, 0, 2]), 0, recOf 0x0601 0xB0000 32 [1, 0, 0, 0, 0, 0, 0, 0, 2], by decide +kernel⟩⟩

/-- States and operands for the clauses of SwitchAndTimeRecordsComplete that have hypotheses. -/
theorem witness_SwitchAndTimeRecordsComplete :
  -- switchRecord
  (∃ (s : State) (d : Die) (r : Rec), (
      let b := r.body
      let t := u32 b 0
      decide (s.takesRecord d r 0 false 0x0701) &&
      decide (r.inst = 0) &&
      decide (b.length = 8) &&
      decide (t = 0 ∨ (10 ≤ t ∧ t ≤ 1000000)) &&
      decide (¬ r.late) &&
      decide (zeroBytes b 4 4) : Bool) = true) ∧
  -- switchPortRecord
  (∃ (s : State) (d : Die) (r : Rec), (
      let b := r.body
      let p := r.inst
      decide (s.takesRecord d r 0 false 0x0702) &&
      decide (s.switchPortOk d p b) &&
      decide (¬ r.late) : Bool) = true) ∧
  -- vlanBlockRecord
  (∃ (s : State) (d : Die) (r : Rec), (
      let b := r.body
      let first := u32 b 0
      let n := u32 b 4
      decide (s.takesRecord d r 0 false 0x0703) &&
      decide (r.inst = 0) &&
      decide (b.length = 8 + 8 * n) &&
      decide (1 ≤ first) &&
      decide (first ≤ 4094) &&
      decide (first + n ≤ 4095) &&
      decide ((List.range (2 * n)).all (fun i => decide (u32 b (8 + 4 * i) < 2 ^ 26))) : Bool) = true) ∧
  -- staticEntriesRecord
  (∃ (s : State) (d : Die) (r : Rec), (
      let b := r.body
      let n := u32 b 0
      let entry := fun i => leBytes b (8 + 16 * i) 16
      let fill := fun (x : SwcSt) => (List.range n).foldl (fun (o : Option SwcSt) i => match o with
        | some y => (y.fdbPut (entry i)).map (·.2)
        | none => none) (some { x with fdb := x.fdb.filter (fun e => !fdbStatic e.2) })
      decide (s.takesRecord d r 0 false 0x0704) &&
      decide (r.inst = 0) &&
      decide (1 ≤ n) &&
      decide (n ≤ 16384) &&
      decide (b.length = 8 + 16 * n) &&
      decide (zeroBytes b 4 4) &&
      decide ((List.range n).all (fun i => fdbRule (entry i) && fdbStatic (entry i) && fdbValid (entry i) && s.fdbDefined d (entry i))) &&
      decide ((fill (s.swc d)).isSome) : Bool) = true) ∧
  -- gateListRecord
  (∃ (s : State) (d : Die) (r : Rec), (
      let b := r.body
      let n := u32 b 12
      let cyc := u32 b 8
      let ivl := fun i => u32 b (20 + 8 * i)
      decide (s.takesRecord d r 0 false 0x0705) &&
      decide (r.inst < 24) &&
      decide (1 ≤ n) &&
      decide (n ≤ 64) &&
      decide (b.length = 16 + 8 * n) &&
      decide (1000 ≤ cyc) &&
      decide (cyc ≤ 1000000000) &&
      decide (¬ r.late) &&
      decide ((List.range n).all (fun i => zeroBytes b (17 + 8 * i) 3 && decide (100 ≤ ivl i ∧ ivl i ≤ 1000000000))) &&
      decide (((List.range n).map ivl).sum = cyc) : Bool) = true) ∧
  -- hostQueuesRecord
  (∃ (s : State) (d : Die) (r : Rec), (
      let b := r.body
      let p := r.inst
      let o := fun q => 8 + 16 * q
      let qOk := fun q =>
        if u8 b (o q + 11) = 0 then decide (u8 b (o q + 8) < 16 ∧ u8 b (o q + 9) < 16 ∧ u8 b (o q + 10) < 16)
        else decide (u8 b (o q + 11) = 1 ∧ 4 ≤ u8 b (o q + 8) ∧ u8 b (o q + 8) ≤ 12 ∧ 4 ≤ u8 b (o q + 9) ∧ u8 b (o q + 9) ≤ 12 ∧
            7 ≤ u8 b (o q + 10) ∧ u8 b (o q + 10) ≤ 12) &&
          s.hostRingOk d p (4096 * u32 b (o q)) (32 * 2 ^ u8 b (o q + 8)) &&
          s.hostRingOk d p (4096 * u32 b (o q + 4)) (2 ^ (u8 b (o q + 9) + u8 b (o q + 10)))
      decide (s.takesRecord d r 0 false 0x0706) &&
      decide (p < 32) &&
      decide (b.length = 136) &&
      decide (u32 b 0 < 2) &&
      decide (s.defined d p) &&
      decide (¬ r.late) &&
      decide (zeroBytes b 4 4) &&
      decide ((List.range 8).all (fun q => zeroBytes b (o q + 12) 4 && qOk q)) : Bool) = true) ∧
  -- timeRecord
  (∃ (s : State) (d : Die) (r : Rec), (
      let b := r.body
      let thr := u32 b 8
      let hold := u16 b 12
      decide (s.takesRecord d r 0 false 0x0801) &&
      decide (r.inst = 0) &&
      decide (b.length = 16) &&
      decide (u8 b 0 < 2) &&
      decide (u8 b 3 = 0) &&
      decide (100 ≤ thr) &&
      decide (thr ≤ 1000000) &&
      decide (1 ≤ hold) &&
      decide (hold ≤ 16383) &&
      decide (u16 b 14 = 0) &&
      decide (¬ r.late) : Bool) = true) ∧
  -- phasePlanRecord
  (∃ (s : State) (d : Die) (r : Rec), (
      let b := r.body
      decide (s.takesRecord d r 0 false 0x0802) &&
      decide (r.inst = 0) &&
      decide (b.length = 328) &&
      decide (¬ r.late) &&
      decide (zeroBytes b 4 4) : Bool) = true) ∧
  -- gptpPortRecord
  (∃ (s : State) (d : Die) (r : Rec), (
      let b := r.body
      let p := r.inst
      let st := u8 b 0
      let i8 := fun i => toSigned 8 (u8 b i)
      let ext := s.extCfg d
      let stOk : Bool := if isSb p then decide (st ≤ 1)
        else decide (st ≤ 3) && (!(decide (st = 1) || decide (st = 2)) || ext) && (decide (st ≠ 3) || !ext)
      let twoSlaves := decide (st = 2) && ((s.tim d).ports.any (fun e => decide (e.1 ≠ p ∧ e.2.state = 2)) ||
        (List.range 24).any (fun q => decide (q ≠ p) &&
          (lastRec (s.vol.get d).boot.recs d 0x0803 q (fun _ => true)).any (fun r => decide (u8 r.body 0 = 2))))
      decide (s.takesRecord d r 0 false 0x0803) &&
      decide (p < 24) &&
      decide (b.length = 8) &&
      decide (-7 ≤ i8 1) &&
      decide (i8 1 ≤ 0) &&
      decide (-3 ≤ i8 2) &&
      decide (i8 2 ≤ 3) &&
      decide (-3 ≤ i8 3) &&
      decide (i8 3 ≤ 3) &&
      decide (2 ≤ u8 b 4) &&
      decide (u8 b 4 ≤ 10) &&
      decide (2 ≤ u8 b 5) &&
      decide (u8 b 5 ≤ 10) &&
      decide (5 ≤ u16 b 6) &&
      decide (u16 b 6 ≤ 1000) &&
      decide (stOk) &&
      decide (¬ twoSlaves) &&
      decide (¬ r.late) : Bool) = true) ∧
  -- pulseOutputRecord
  (∃ (s : State) (d : Die) (r : Rec), (
      decide (s.takesRecord d r 0 false 0x0804) &&
      decide (r.inst < 4) &&
      decide (r.body.length = 8) &&
      decide (u8 r.body 0 < 32) &&
      decide (s.defined d (u8 r.body 0)) &&
      decide (zeroBytes r.body 1 7) &&
      decide (¬ r.late) : Bool) = true) ∧
  -- lanePinRecord
  (∃ (s : State) (d : Die) (r : Rec), (
      let named := (List.range 8).any (fun c => (s.laneRecOf d c).any (fun q => bitOf (u16 q.body 0) r.inst))
      decide (s.takesRecord d r 0 false 0x0805) &&
      decide (r.inst < 16) &&
      decide (r.body.length = 8) &&
      decide (u8 r.body 0 < 2) &&
      decide (zeroBytes r.body 1 7) &&
      decide (¬ r.late) &&
      decide (decide (u8 r.body 0 = 0) || (named && !(s.vol.get d).boot.recs.any (assignsPin r.inst))) : Bool) = true) :=
  ⟨⟨atRec (withDstate 2) 0 (recOf 0x0701 0xC0000 8 [10]), 0, recOf 0x0701 0xC0000 8 [10], by decide +kernel⟩,
   ⟨atRec (withDstate 2) 0 (recOf 0x0702 0xC0000 48 [1, 0, 0, 0, 0, 0, 0, 0, 16]), 0, recOf 0x0702 0xC0000 48 [1, 0, 0, 0, 0, 0, 0, 0, 16], by decide +kernel⟩,
   ⟨atRec (withDstate 2) 0 (recOf 0x0703 0xC0000 16 [1, 0, 0, 0, 1]), 0, recOf 0x0703 0xC0000 16 [1, 0, 0, 0, 1], by decide +kernel⟩,
   ⟨atRec (withDstate 2) 0 (recOf 0x0704 0xC0000 24 [1, 0, 0, 0, 0, 0, 0, 0, 2, 0, 0, 0, 0, 0, 1, 96, 0, 0, 0, 0, 0, 0, 0, 0]), 0, recOf 0x0704 0xC0000 24 [1, 0, 0, 0, 0, 0, 0, 0, 2, 0, 0, 0, 0, 0, 1, 96, 0, 0, 0, 0, 0, 0, 0, 0], by decide +kernel⟩,
   ⟨atRec (withDstate 2) 0 (recOf 0x0705 0xC0000 24 [0, 0, 0, 0, 0, 0, 0, 0, 232, 3, 0, 0, 1, 0, 0, 0, 0, 0, 0, 0, 232, 3]), 0, recOf 0x0705 0xC0000 24 [0, 0, 0, 0, 0, 0, 0, 0, 232, 3, 0, 0, 1, 0, 0, 0, 0, 0, 0, 0, 232, 3], by decide +kernel⟩,
   ⟨atRec (((withDstate 2).setF 0 (WLD_pCFG 1) WLD_pCFG__DEFINED 1)) 0 (recOf 0x0706 0xC0001 136 [1]), 0, recOf 0x0706 0xC0001 136 [1], by decide +kernel⟩,
   ⟨atRec (withDstate 2) 0 (recOf 0x0801 0xD0000 16 [0, 0, 0, 0, 0, 0, 0, 0, 100, 0, 0, 0, 1]), 0, recOf 0x0801 0xD0000 16 [0, 0, 0, 0, 0, 0, 0, 0, 100, 0, 0, 0, 1], by decide +kernel⟩,
   ⟨atRec (withDstate 2) 0 (recOf 0x0802 0xD0000 328 []), 0, recOf 0x0802 0xD0000 328 [], by decide +kernel⟩,
   ⟨atRec (withDstate 2) 0 (recOf 0x0803 0xD0000 8 [0, 0, 0, 0, 2, 2, 5]), 0, recOf 0x0803 0xD0000 8 [0, 0, 0, 0, 2, 2, 5], by decide +kernel⟩,
   ⟨atRec (withDstate 2) 0 (recOf 0x0804 0xD0000 8 []), 0, recOf 0x0804 0xD0000 8 [], by decide +kernel⟩,
   ⟨atRec (withDstate 2) 0 (recOf 0x0805 0xD0000 8 []), 0, recOf 0x0805 0xD0000 8 [], by decide +kernel⟩⟩

/-- States and operands for the clauses of ModuleRecordsComplete that have hypotheses. -/
theorem witness_ModuleRecordsComplete :
  -- duplexRecord
  (∃ (s : State) (d : Die) (r : Rec), (
      let b := r.body
      let x := r.inst
      let serves := u8 b 2
      let otherHome := (s.plannedDux d d.other serves).1
      let taken := (List.range 12).any (fun y => decide (y ≠ x) && decide (s.plannedDux d d y = (2, serves)))
      let ok : Bool := decide (x < 12 ∧ b.length = 8 ∧ u8 b 0 ≤ 2 ∧ u8 b 1 ≤ 168 ∧ r.block = 3) && zeroBytes b 3 5 && !r.late &&
        (if u8 b 0 = 2 then decide (serves = 0xFF) || (decide (serves < 12) && !taken && decide (otherHome = 1))
         else decide (serves = 0xFF))
      let j := if !ok then Judged.malformed
        else if bitOf (s.rd d DUX_RETIRE).toNat x then .notApplicable else .good
      decide (s.takesRecord d r 0 true 0x0901) &&
      decide (j = .good) : Bool) = true) ∧
  -- epochRecord
  (∃ (s : State) (d : Die) (r : Rec), (
      let b := r.body
      let p := r.inst
      let hd : Die := if u8 b 0 = 1 then 1 else 0
      let shed := decide (u8 b 3 = 1)
      let role := (s.plannedDux d hd (u8 b 1)).1
      let form := decide (p < 32 ∧ b.length = 16 ∧ r.block = 4 ∧ u8 b 0 ≤ 1 ∧ u8 b 1 < 12 ∧ u8 b 3 ≤ 1 ∧ 50 ≤ u16 b 4 ∧
          u16 b 4 ≤ 10000 ∧ 64 ≤ u16 b 6 ∧ u16 b 6 ≤ 16384 ∧ u16 b 8 ≤ 2000) && zeroBytes b 10 6 && !r.late &&
        (if shed then decide (u8 b 2 = 0xFF) else decide (u8 b 2 < 12))
      let place := if shed then decide (role = 2)
        else decide (role = 1) && decide (s.plannedDux d hd.other (u8 b 2) = (2, u8 b 1))
      let q := (s.putEpochRec d p b).budget d hd.val
      let ok : Bool := form && place && s.bit d (WLD_pCFG p) WLD_pCFG__DEFINED && decide (q.1 ≤ 80000000000 ∧ q.2 ≤ 2000)
      decide (s.takesRecord d r 0 false 0x0902) &&
      decide (ok) : Bool) = true) ∧
  -- openImageRecord
  (∃ (s : State) (d : Die) (r : Rec), (
      let b := r.body
      let a := u64 b 0
      let n := u32 b 8
      let w := s.wld d
      let overlap := w.images.any (fun e => decide (a < e.1 + e.2 ∧ e.1 < a + n)) || (s.vol.get d).boot.recs.any (fun q =>
        openImageForm q && decide (q.index ≠ r.index ∧ a < u64 q.body 0 + u32 q.body 8 ∧ u64 q.body 0 < a + n))
      let entry := decide (u32 b 12 = 1)
      decide (s.takesRecord d r (r.seq.toNat) false 0x0903) &&
      decide (openImageForm r) &&
      decide (¬ r.late) &&
      decide (¬ overlap) &&
      decide (¬ (entry && w.entry.isSome)) &&
      decide ((0x20000000 ≤ a ∧ a + n ≤ 0x20800000) ∨ (0x100000000 ≤ a ∧ a + n ≤ 0x300000000)) &&
      decide (s.someRegion d a n (fun c => decide (RGD_g_rCTL__CLASS.get (BitVec.ofNat 32 c) = 0 ∧ RGD_g_rCTL__X.get (BitVec.ofNat 32 c) = 1) && bitOf c 0)) : Bool) = true) ∧
  -- energyPolicyRecord
  (∃ (s : State) (d : Die) (r : Rec), (
      let b := r.body
      let pin := u8 b 21
      decide (s.takesRecord d r 0 false 0x0A01) &&
      decide (r.inst = 0) &&
      decide (r.block = 1) &&
      decide (b.length = 32) &&
      decide (u32 b 0 ≤ u32 b 8) &&
      decide (u32 b 12 < u32 b 8) &&
      decide (u8 b 20 ≤ 1) &&
      decide (pin ≤ 7) &&
      decide (u16 b 22 = 0) &&
      decide (u32 b 24 < 2 ^ 24) &&
      decide (u32 b 28 = 0) &&
      decide (s.maskDefined d (u32 b 16)) &&
      decide (bitOf (s.rd 0 CIS_WAKECFG).toNat (4 * pin)) &&
      decide (s.cisAgrees d r) : Bool) = true) ∧
  -- wakePinsRecord
  (∃ (s : State) (d : Die) (r : Rec), (
      let b := r.body
      decide (s.takesRecord d r 0 false 0x0A02) &&
      decide (r.inst = 0) &&
      decide (r.block = 1) &&
      decide (b.length = 8) &&
      decide (b.all (fun x => decide (x.toNat < 16))) &&
      decide (s.cisAgrees d r) : Bool) = true) ∧
  -- feedWatchRecord
  (∃ (s : State) (d : Die) (r : Rec), (
      let b := r.body
      decide (s.takesRecord d r 0 false 0x0A03) &&
      decide (r.inst = 0) &&
      decide (r.block = 1) &&
      decide (b.length = 8) &&
      decide (u16 b 0 ≤ 200) &&
      decide (u16 b 2 ≤ 300) &&
      decide (u32 b 4 = 0) &&
      decide (s.cisAgrees d r) : Bool) = true) ∧
  -- groupRecord
  (∃ (s : State) (d : Die) (r : Rec), (
      let b := r.body
      let et := if u16 b 4 = 0 then 0x88B5 else u16 b 4
      let vl := u16 b 14
      decide (s.takesRecord d r 0 false 0x0B01) &&
      decide (r.inst = 0) &&
      decide (b.length = 32) &&
      decide (u32 b 0 ≠ 0) &&
      decide (0x0600 ≤ et) &&
      decide (et ≠ 0x22F0) &&
      decide (et ≠ 0x8100) &&
      decide (et ≠ 0x8808) &&
      decide (et ≠ 0x88F7) &&
      decide (u8 b 6 < 2) &&
      decide (u8 b 7 = 0) &&
      decide (vl % 4096 ≤ 4094) &&
      decide (vl < 2 ^ 15) &&
      decide (u32 b 16 ≠ 0) &&
      decide (u32 b 16 < 2 ^ 24) &&
      decide (bitOf (u8 b 8) 0) &&
      decide (zeroBytes b 20 12) : Bool) = true) ∧
  -- remoteAccessRecord
  (∃ (s : State) (d : Die) (r : Rec), (
      let b := r.body
      let masked := fun (m : Nat) => decide (m < 2 ^ 20) && !bitOf m 0 && !bitOf m 0x11 && !bitOf m 0x13
      decide (s.takesRecord d r 0 false 0x0B02) &&
      decide (r.inst = 0) &&
      decide (b.length = 16) &&
      decide (u16 b 0 ≤ u16 b 2) &&
      decide (u16 b 2 ≤ 1023) &&
      decide (u32 b 12 = 0) &&
      decide (masked (u32 b 4)) &&
      decide (masked (u32 b 8)) : Bool) = true) ∧
  -- roamingRecord
  (∃ (s : State) (d : Die) (r : Rec), (
      let b := r.body
      let p := r.inst
      let role := u8 b 0
      let base := u64 b 8
      let size := u32 b 16
      let may := s.someRegion d base size (fun c => decide (RGD_g_rCTL__W.get (BitVec.ofNat 32 c) = 1)) &&
        (List.range 64).any (fun i => match guardOf base with
          | some (g, o) => s.regionHas d g i o size && bitOf (s.rd d (RGD_g_rPART g i)).toNat p &&
              decide (RGD_g_rCTL__W.get (s.rd d (RGD_g_rCTL g i)) = 1)
          | none => false)
      decide (s.takesRecord d r 0 false 0x0B03) &&
      decide (1 ≤ p) &&
      decide (p ≤ 31) &&
      decide (b.length = 24) &&
      decide (role = 1 ∨ role = 2) &&
      decide (u16 b 2 ≤ 1023) &&
      decide (1 ≤ u8 b 4) &&
      decide (u8 b 4 ≤ 31) &&
      decide (leBytes b 5 3 = 0) &&
      decide (base % 4096 = 0) &&
      decide (0x100000000 ≤ base) &&
      decide (base + size ≤ 0x300000000) &&
      decide (4096 ≤ size) &&
      decide (size ≤ 65536) &&
      decide (size % 4096 = 0) &&
      decide (u32 b 20 = 0) &&
      decide ((if role = 1 then decide (u8 b 1 = 0 ∧ u16 b 2 = s.ownId d) else decide (1 ≤ u8 b 1 ∧ u8 b 1 ≤ 4))) &&
      decide (s.bit d (WLD_pCFG p) WLD_pCFG__ROAMING) &&
      decide (may) : Bool) = true) ∧
  -- updatePolicyRecord
  (∃ (s : State) (d : Die) (r : Rec), (
      let b := r.body
      let cut := u16 b 4
      let lim := u16 b 6
      decide (s.takesRecord d r 0 false 0x0D01) &&
      decide (r.inst = 0) &&
      decide (b.length = 16) &&
      decide (u8 b 0 < 32) &&
      decide (u8 b 1 = 0) &&
      decide (u16 b 2 % 2 = 0) &&
      decide (cut = 0 ∨ (10 ≤ cut ∧ cut ≤ 1000)) &&
      decide (lim = 0 ∨ 60 ≤ lim) &&
      decide (s.defined d (u8 b 0)) &&
      decide (zeroBytes b 8 8) : Bool) = true) ∧
  -- compatibilityRecord
  (∃ (s : State) (d : Die) (r : Rec), (
      let b := r.body
      decide (s.takesRecord d r 0 false 0x0D02) &&
      decide (r.inst = 0) &&
      decide (b.length = 8) &&
      decide (u16 b 0 = (s.fld d UPD_DEPOCH UPD_DEPOCH__SFEPOCH + 65535) % 65536) &&
      decide (u8 b 2 < 2) &&
      decide (zeroBytes b 3 5) : Bool) = true) ∧
  -- faultPolicyRecord
  (∃ (s : State) (d : Die) (r : Rec), (
      let b := r.body
      decide (s.takesRecord d r 0 false 0x0E01) &&
      decide (r.target.toNat = 0x100000) &&
      decide (b.length = 8) &&
      decide (u8 b 0 < 128) &&
      decide (u8 b 1 ≤ 1) &&
      decide (zeroBytes b 2 6) : Bool) = true) ∧
  -- debugPolicyRecord
  (∃ (s : State) (d : Die) (r : Rec), (
      let b := r.body
      decide (s.takesRecord d r 0 false 0x0F01) &&
      decide (r.target.toNat = 0x130000) &&
      decide (b.length = 8) &&
      decide (u8 b 0 ≤ Config.debugLimit.val) &&
      decide (zeroBytes b 1 7) : Bool) = true) ∧
  -- sealedKeyStoreRecord
  (∃ (s : State) (d : Die) (r : Rec), (
      let b := r.body
      let a := u64 b 0
      let n := u32 b 8
      decide (s.takesRecord d r 0 false 0x0F02) &&
      decide (r.target.toNat = 0x110000) &&
      decide (b.length = 16) &&
      decide (a % 4096 = 0) &&
      decide (4096 ≤ n) &&
      decide (n ≤ 65536) &&
      decide (n % 4096 = 0) &&
      decide (u32 b 12 = 0) &&
      decide (s.sealedMram d a n) : Bool) = true) :=
  ⟨⟨atRec (withDstate 2) 0 (recOf 0x0901 0x30000 8 [1, 0, 255]), 0, recOf 0x0901 0x30000 8 [1, 0, 255], by decide +kernel⟩,
   ⟨atRec ((duxAt 3 (fun u => u)).setF 0 UPD_DSTAT UPD_DSTAT__STATE 2) 0 (recOf 0x0902 0x40001 16 [0, 0, 1, 0, 50, 0, 64]), 0, recOf 0x0902 0x40001 16 [0, 0, 1, 0, 50, 0, 64], by decide +kernel⟩,
   ⟨atRec (regionAt (withDstate 2) 0 0x100000 0x100000 0x80000801 1) 0 (recOf 0x0903 0x30000 24 [0, 0, 0, 0, 1, 0, 0, 0, 8]), 0, recOf 0x0903 0x30000 24 [0, 0, 0, 0, 1, 0, 0, 0, 8], by decide +kernel⟩,
   ⟨atRec ((withDstate 2).wr 0 CIS_WAKECFG 1#32) 0 (recOf 0x0A01 0x10000 32 [0, 0, 0, 0, 0, 0, 0, 0, 1]), 0, recOf 0x0A01 0x10000 32 [0, 0, 0, 0, 0, 0, 0, 0, 1], by decide +kernel⟩,
   ⟨atRec (withDstate 2) 0 (recOf 0x0A02 0x10000 8 []), 0, recOf 0x0A02 0x10000 8 [], by decide +kernel⟩,
   ⟨atRec (withDstate 2) 0 (recOf 0x0A03 0x10000 8 []), 0, recOf 0x0A03 0x10000 8 [], by decide +kernel⟩,
   ⟨atRec (withDstate 2) 0 (recOf 0x0B01 0x120000 32 [1, 0, 0, 0, 0, 0, 0, 0, 1, 0, 0, 0, 0, 0, 0, 0, 1]), 0, recOf 0x0B01 0x120000 32 [1, 0, 0, 0, 0, 0, 0, 0, 1, 0, 0, 0, 0, 0, 0, 0, 1], by decide +kernel⟩,
   ⟨atRec (withDstate 2) 0 (recOf 0x0B02 0x120000 16 []), 0, recOf 0x0B02 0x120000 16 [], by decide +kernel⟩,
   ⟨atRec ((regionAt (withDstate 2) 0 0x100000 0x100000 0x80000601 2).setF 0 (WLD_pCFG 1) WLD_pCFG__ROAMING 1) 0 (recOf 0x0B03 0x120001 24 [1, 0, 0, 0, 1, 0, 0, 0, 0, 0, 0, 0, 1, 0, 0, 0, 0, 16]), 0, recOf 0x0B03 0x120001 24 [1, 0, 0, 0, 1, 0, 0, 0, 0, 0, 0, 0, 1, 0, 0, 0, 0, 16], by decide +kernel⟩,
   ⟨atRec (withDstate 2) 0 (recOf 0x0D01 0xF0000 16 []), 0, recOf 0x0D01 0xF0000 16 [], by decide +kernel⟩,
   ⟨atRec (withDstate 2) 0 (recOf 0x0D02 0xF0000 8 [255, 255]), 0, recOf 0x0D02 0xF0000 8 [255, 255], by decide +kernel⟩,
   ⟨atRec (withDstate 2) 0 (recOf 0x0E01 0x100000 8 []), 0, recOf 0x0E01 0x100000 8 [], by decide +kernel⟩,
   ⟨atRec (withDstate 2) 0 (recOf 0x0F01 0x130000 8 []), 0, recOf 0x0F01 0x130000 8 [], by decide +kernel⟩,
   ⟨atRec ((withDstate 2).updBoot 0 (fun b => { b with recs := [recOf 0x0110 0x070002 24 [0, 0, 0, 0, 1, 0, 0, 0, 0, 0, 1, 0, 0, 0, 1, 0, 0, 0, 0, 0, 64, 64, 0, 128]] })) 0 (recOf 0x0F02 0x110000 16 [0, 0, 0, 16, 0, 0, 0, 0, 0, 16]), 0, recOf 0x0F02 0x110000 16 [0, 0, 0, 16, 0, 0, 0, 0, 0, 16], by decide +kernel⟩⟩

/-- States and operands for the clauses of WorldRecordsComplete that have hypotheses. -/
theorem witness_WorldRecordsComplete :
  -- partitionRecord
  (∃ (s : State) (d : Die) (r : Rec), (
      let b := r.body
      let p := r.inst
      decide (s.takesRecord d r 0 false 0x0101) &&
      decide (p < 32) &&
      decide (b.length = 24) &&
      decide (r.block = 6) &&
      decide (u8 b 0 ≤ 1) &&
      decide (u8 b 1 = 0) &&
      decide (u64 b 8 % 1024 = 0) &&
      decide (u64 b 8 < 2 ^ 48) &&
      decide (zeroBytes b 4 4) &&
      decide (zeroBytes b 16 8) &&
      decide (decide (u8 b 0 = 0) || (s.todo d).any (fun q => decide (q.typ.toNat = 0x0B03 ∧ q.inst = p))) : Bool) = true) ∧
  -- gateBlockRecord
  (∃ (s : State) (d : Die) (r : Rec), (
      let b := r.body
      let first := u32 b 0
      let n := u32 b 4
      let e := fun i => 8 + 16 * i
      let entryOk := fun i =>
        decide (u64 b (e i) < 2 ^ 48 ∧ u64 b (e i) % 4 = 0 ∧ u8 b (e i + 12) < 16 ∧ u8 b (e i + 13) ≤ 1 ∧ u16 b (e i + 14) = 0)
      decide (s.takesRecord d r (r.seq.toNat) false 0x0102) &&
      decide (r.inst = 0) &&
      decide (r.block = 6) &&
      decide (first ≤ 255) &&
      decide (1 ≤ n) &&
      decide (first + n ≤ 256) &&
      decide (b.length = 8 + 16 * n) &&
      decide ((List.range n).all entryOk) : Bool) = true) ∧
  -- assignmentBlockRecord
  (∃ (s : State) (d : Die) (r : Rec), (
      let b := r.body
      let n := u32 b 0
      let e := fun i => 8 + 8 * i
      let entryOk := fun i =>
        let kind := u8 b (e i)
        let idx := u16 b (e i + 2)
        let w := u8 b (e i + 1)
        decide (kind ≤ 2 ∧ w ≤ 1 ∧ idx < (if kind = 0 then 80 else 16)) && zeroBytes b (e i + 5) 3 &&
          (if w = 1 then decide (u8 b (e i + 4) = 0) else decide (u8 b (e i + 4) < 32)) &&
          !(decide (kind = 1) && (s.vol.get d).boot.recs.any (fun q => lanePinRec idx q && q.forDie d))
      decide (s.takesRecord d r (r.seq.toNat) false 0x0103) &&
      decide (r.inst = 0) &&
      decide (r.block = 6) &&
      decide (1 ≤ n) &&
      decide (n ≤ 112) &&
      decide (u32 b 4 = 0) &&
      decide (b.length = 8 + 8 * n) &&
      decide ((List.range n).all entryOk) : Bool) = true) ∧
  -- sealedWorldRecord
  (∃ (s : State) (d : Die) (r : Rec), (
      let b := r.body
      decide (s.takesRecord d r 0 false 0x0104) &&
      decide (r.inst = 0) &&
      decide (r.block = 6) &&
      decide (b.length = 8) &&
      decide (u8 b 0 ≤ 1) &&
      decide (1 ≤ u8 b 1) &&
      decide (u8 b 1 ≤ 15) &&
      decide (zeroBytes b 2 6) : Bool) = true) ∧
  -- sealedCodeRecord
  (∃ (s : State) (d : Die) (r : Rec), (
      let b := r.body
      let a := u64 b 0
      let n := u32 b 8
      let overlap := (s.wld d).codes.any (fun e => decide (a < e.2.1 + e.2.2.length ∧ e.2.1 < a + n)) ||
        (s.todo d).any (fun q => sealedCodeForm q && decide (q ≠ r ∧ a < u64 q.body 0 + u32 q.body 8 ∧ u64 q.body 0 < a + n))
      decide (s.takesRecord d r (r.seq.toNat) false 0x0105) &&
      decide (sealedCodeForm r) &&
      decide (¬ overlap) : Bool) = true) ∧
  -- regionBlockRecord
  (∃ (s : State) (d : Die) (r : Rec), (
      let b := r.body
      let g := r.inst
      let first := u32 b 0
      let n := u32 b 4
      let w := fun i k => u32 b (8 + 16 * i + 4 * k)
      decide (s.takesRecord d r (r.seq.toNat) false 0x0110) &&
      decide (g < 13) &&
      decide (r.block = 7) &&
      decide (first ≤ 63) &&
      decide (1 ≤ n) &&
      decide (first + n ≤ 64) &&
      decide (b.length = 8 + 16 * n) &&
      decide ((List.range n).all (fun i => regionForm g (w i 0) (w i 1) (w i 3) && !ringOpen g (w i 0) (w i 1) (w i 3))) : Bool) = true) ∧
  -- routeBlockRecord
  (∃ (s : State) (d : Die) (r : Rec), (
      let b := r.body
      let first := u32 b 0
      let n := u32 b 4
      let e := fun i => 8 + 8 * i
      let entryOk := fun i =>
        let src := first + i
        let mod := decide (u8 b (e i + 3) = 1)
        routable src && decide (u8 b (e i) < 32) && s.defined d (u8 b (e i)) && lineOk src (u8 b (e i + 1)) &&
          decide (u8 b (e i + 2) ≤ 63 ∧ u8 b (e i + 3) ≤ 1 ∧ u8 b (e i + 5) = 0) &&
          (if mod then isEdgeSrc src && decide (1 ≤ u8 b (e i + 4)) else decide (u8 b (e i + 4) = 0 ∧ u16 b (e i + 6) = 0))
      decide (s.takesRecord d r (r.seq.toNat) false 0x0120) &&
      decide (r.inst = 0) &&
      decide (r.block = 5) &&
      decide (first ≤ 1023) &&
      decide (first + n ≤ 1024) &&
      decide (b.length = 8 + 8 * n) &&
      decide ((List.range n).all entryOk) : Bool) = true) ∧
  -- controllerRecord
  (∃ (s : State) (d : Die) (r : Rec), (
      let b := r.body
      decide (s.takesRecord d r 0 false 0x0121) &&
      decide (r.inst = 0) &&
      decide (r.block = 5) &&
      decide (b.length = 8) &&
      decide (u8 b 0 ≤ 63) &&
      decide (zeroBytes b 1 7) : Bool) = true) ∧
  -- softwareSettersRecord
  (∃ (s : State) (d : Die) (r : Rec), (
      let b := r.body
      decide (s.takesRecord d r 0 false 0x0122) &&
      decide (r.inst = 0) &&
      decide (r.block = 5) &&
      decide (b.length = 64) &&
      decide ((List.range 16).all (fun i => s.maskDefined d (u32 b (4 * i)))) : Bool) = true) :=
  ⟨⟨atRec (withDstate 2) 0 (recOf 0x0101 0x60000 24 []), 0, recOf 0x0101 0x60000 24 [], by decide +kernel⟩,
   ⟨atRec (withDstate 2) 0 (recOf 0x0102 0x60000 24 [0, 0, 0, 0, 1]), 0, recOf 0x0102 0x60000 24 [0, 0, 0, 0, 1], by decide +kernel⟩,
   ⟨atRec (withDstate 2) 0 (recOf 0x0103 0x60000 16 [1]), 0, recOf 0x0103 0x60000 16 [1], by decide +kernel⟩,
   ⟨atRec (withDstate 2) 0 (recOf 0x0104 0x60000 8 [0, 1]), 0, recOf 0x0104 0x60000 8 [0, 1], by decide +kernel⟩,
   ⟨atRec (withDstate 2) 0 (recOf 0x0105 0x60000 24 [0, 0, 0, 0, 1, 0, 0, 0, 8]), 0, recOf 0x0105 0x60000 24 [0, 0, 0, 0, 1, 0, 0, 0, 8], by decide +kernel⟩,
   ⟨atRec (withDstate 2) 0 (recOf 0x0110 0x70000 24 [0, 0, 0, 0, 1]), 0, recOf 0x0110 0x70000 24 [0, 0, 0, 0, 1], by decide +kernel⟩,
   ⟨atRec (withDstate 2) 0 (recOf 0x0120 0x50000 16 [0, 0, 0, 0, 1]), 0, recOf 0x0120 0x50000 16 [0, 0, 0, 0, 1], by decide +kernel⟩,
   ⟨atRec (withDstate 2) 0 (recOf 0x0121 0x50000 8 []), 0, recOf 0x0121 0x50000 8 [], by decide +kernel⟩,
   ⟨atRec (withDstate 2) 0 (recOf 0x0122 0x50000 64 []), 0, recOf 0x0122 0x50000 64 [], by decide +kernel⟩⟩

end Sys2Proof.Tests
end

section
/-! SUPPORT. LOW_WORD_READ_LATCH by the debug port (R10, R769): register space outside the DBG block is open to it from scope 1 on,
so that at scope 0 its read of a low word completes with an error and gives no value. -/

namespace Sys2Proof.Machine

variable {s : State} {d : Die} {who : Initiator}

/-- Without an answer of the block the read is all ones with an error response (R33). -/
theorem exec_lowWordReadLatch_of_not_blockAnswers {off : BitVec 21} (halive : s.alive d = true)
    (hblock : s.blockAnswers d who off.toNat = false) :
    exec (.lowWordReadLatch d who off) s = .next (s.reply (.errorBytes (List.replicate 4 0xFF#8))) := by
  change execLowWordReadLatch d who off s = _
  simp [execLowWordReadLatch, halive, hblock]

/-- Outside the SEC and DBG blocks the debug port reads from scope 1 on (R769). -/
theorem State.blockAnswers_debug {off : Nat} (hsec : off / 0x10000 ≠ 0x14) (hdbg : off / 0x10000 ≠ 0x16) :
    s.blockAnswers d .debug off = s.debugAt d 1 := by
  simp [State.blockAnswers, hsec, hdbg]

/-- Below scope 1 the debug port gets no value from register space outside the SEC and DBG blocks. -/
theorem exec_lowWordReadLatch_debug_of_locked {off : BitVec 21} (halive : s.alive d = true) (hlocked : s.debugAt d 1 = false)
    (hsec : off.toNat / 0x10000 ≠ 0x14) (hdbg : off.toNat / 0x10000 ≠ 0x16) :
    exec (.lowWordReadLatch d .debug off) s = .next (s.reply (.errorBytes (List.replicate 4 0xFF#8))) :=
  exec_lowWordReadLatch_of_not_blockAnswers halive ((State.blockAnswers_debug hsec hdbg).trans hlocked)

/-- The state after reset with Q-die 0 running: its debug scope is still the 0 of the module reset (R769). -/
def runningLocked : State := State.reset.updKeep 0 (fun k => { k with run := .running })

theorem runningLocked_alive : runningLocked.alive 0 = true := by decide

theorem runningLocked_debugAt_one : runningLocked.debugAt 0 1 = false := by decide +kernel

theorem isLow64_CIS_RTCL : isLow64 CIS_RTCL = true := by decide

/-- Refutes O5: the statement ranges over every initiator, and at debug scope 0 the debug port is refused the register space outside
the DBG block (R769). On Q-die 0 of `runningLocked` its read of CIS_RTCL answers an error and no value. -/
theorem not_lowWordReadLatches : ¬ Obligations.LowWordReadLatches := by
  unfold Obligations.LowWordReadLatches
  intro h
  obtain ⟨t, hexec, hvalue, -⟩ := h runningLocked 0 .debug (BitVec.ofNat 21 CIS_RTCL) runningLocked_alive isLow64_CIS_RTCL
  have herror := exec_lowWordReadLatch_debug_of_locked (off := BitVec.ofNat 21 CIS_RTCL) runningLocked_alive
    runningLocked_debugAt_one (by decide) (by decide)
  obtain rfl := Host.Outcome.next.inj (herror.symm.trans hexec)
  cases hvalue

end Sys2Proof.Machine
end

section
/-! SUPPORT. HOLD_TIME_END (R84): what settling the channels of a switch die changes and what it leaves, and the level called for at
each channel of a die in START once its hold time has ended. -/

namespace Sys2Proof.Machine

variable {s s' : State} {sd k j n t : Nat} {b : Bool}

/-! ### What a settled channel leaves of its die -/

/-- A switch die without its channels and its capture, which is all that settling a channel changes. -/
def SwitchDie.frame (x : SwitchDie) : SwitchDie := { x with chans := [], capture := {} }

section frame
variable (x : SwitchDie)
@[simp] theorem SwitchDie.frame_mode : x.frame.mode = x.mode := rfl
@[simp] theorem SwitchDie.frame_holding : x.frame.holding = x.holding := rfl
@[simp] theorem SwitchDie.frame_standby : x.frame.standby = x.standby := rfl
@[simp] theorem SwitchDie.frame_live : x.frame.live = x.live := rfl
@[simp] theorem SwitchDie.frame_feedOk : x.frame.feedOk = x.feedOk := rfl
end frame

/-- The channels of a die are part of the switch dies alone. -/
theorem State.sd_eq_of_sds (h : s'.sds = s.sds) : s'.sd sd = s.sd sd := by
  simp only [State.sd, h]

theorem State.chan_eq_of_sds (h : s'.sds = s.sds) : s'.chan sd k = s.chan sd k := by
  simp only [State.chan, State.sd_eq_of_sds h]

@[simp] theorem State.setBoth_sds (off : Nat) (f : Fld) (x : Nat) : (s.setBoth off f x).sds = s.sds := rfl
@[simp] theorem State.setBoth_cis (off : Nat) (f : Fld) (x : Nat) : (s.setBoth off f x).cis = s.cis := rfl

@[simp] theorem State.frame_updChan (f : Chan → Chan) : ((s.updChan sd k f).sd sd).frame = (s.sd sd).frame := by
  simp [State.updChan, SwitchDie.frame]

@[simp] theorem State.chan_updChan (f : Chan → Chan) : (s.updChan sd k f).chan sd k = f (s.chan sd k) := by
  simp [State.chan, State.updChan]

theorem State.chan_updChan_other (f : Chan → Chan) (h : j ≠ k) : (s.updChan sd k f).chan sd j = s.chan sd j := by
  simp [State.chan, State.updChan, tget_tupd_other _ _ _ h]

@[simp] theorem State.abortCapture_cis : (s.abortCapture sd k).cis = s.cis := by
  unfold State.abortCapture
  dsimp only
  split <;> rfl

/-- An aborted capture is noted in the die's capture and in CALRES (R150); the rest of the die stands. -/
theorem State.abortCapture_sd : ∃ c, (s.abortCapture sd k).sd sd = { s.sd sd with capture := c } := by
  unfold State.abortCapture
  dsimp only
  split
  · rw [State.sd_eq_of_sds (State.setBoth_sds ..), State.sd_updSd]
    exact ⟨_, rfl⟩
  · exact ⟨_, rfl⟩

@[simp] theorem State.frame_abortCapture : ((s.abortCapture sd k).sd sd).frame = (s.sd sd).frame := by
  obtain ⟨c, hc⟩ := State.abortCapture_sd (s := s) (sd := sd) (k := k)
  rw [hc]
  rfl

@[simp] theorem State.chan_abortCapture : (s.abortCapture sd k).chan sd j = s.chan sd j := by
  obtain ⟨c, hc⟩ := State.abortCapture_sd (s := s) (sd := sd) (k := k)
  simp only [State.chan, hc]

/-- A channel's output set changes that channel, not the level called for at it, and may abort a capture. -/
theorem State.setOn_cases : s.setOn sd k b = s ∨
    ∃ f : Chan → Chan, (∀ c, (f c).want = c.want) ∧ s.setOn sd k b = (s.abortCapture sd k).updChan sd k f := by
  unfold State.setOn
  dsimp only
  split
  · exact .inl rfl
  · right
    split
    all_goals
      refine ⟨_, ?_, rfl⟩
      intro c
      rfl

@[simp] theorem State.setOn_cis : (s.setOn sd k b).cis = s.cis := by
  obtain h | ⟨f, -, h⟩ := State.setOn_cases (s := s) (sd := sd) (k := k) (b := b) <;> simp [h]

@[simp] theorem State.frame_setOn : ((s.setOn sd k b).sd sd).frame = (s.sd sd).frame := by
  obtain h | ⟨f, -, h⟩ := State.setOn_cases (s := s) (sd := sd) (k := k) (b := b) <;> simp [h]

@[simp] theorem State.want_setOn : ((s.setOn sd k b).chan sd k).want = (s.chan sd k).want := by
  obtain h | ⟨f, hf, h⟩ := State.setOn_cases (s := s) (sd := sd) (k := k) (b := b)
  · rw [h]
  · rw [h, State.chan_updChan, hf, State.chan_abortCapture]

theorem State.chan_setOn_other (h : j ≠ k) : (s.setOn sd k b).chan sd j = s.chan sd j := by
  obtain e | ⟨f, -, e⟩ := State.setOn_cases (s := s) (sd := sd) (k := k) (b := b)
  · rw [e]
  · rw [e, State.chan_updChan_other f h, State.chan_abortCapture]

@[simp] theorem Chan.wants_want (c : Chan) : (c.wants b t).want = b := by
  unfold Chan.wants
  split
  · assumption
  · rfl

/-- A settled channel is noted with the level its mode calls for, and unless it ramps its output is set. -/
theorem State.settle_cases :
    s.settle sd k = s.updChan sd k (fun c => c.wants (s.calls sd k) (s.sd sd).time) ∨
    ∃ b, s.settle sd k = (s.updChan sd k (fun c => c.wants (s.calls sd k) (s.sd sd).time)).setOn sd k b := by
  unfold State.settle State.settleAt
  dsimp only
  split
  · exact .inl rfl
  · exact .inr ⟨_, rfl⟩

@[simp] theorem State.settle_cis : (s.settle sd k).cis = s.cis := by
  obtain h | ⟨b, h⟩ := State.settle_cases (s := s) (sd := sd) (k := k) <;> simp [h]

@[simp] theorem State.frame_settle : ((s.settle sd k).sd sd).frame = (s.sd sd).frame := by
  obtain h | ⟨b, h⟩ := State.settle_cases (s := s) (sd := sd) (k := k) <;> simp [h]

/-- A settled channel wants what its mode calls for. -/
@[simp] theorem State.want_settle : ((s.settle sd k).chan sd k).want = s.calls sd k := by
  obtain h | ⟨b, h⟩ := State.settle_cases (s := s) (sd := sd) (k := k) <;> simp [h]

theorem State.chan_settle_other (h : j ≠ k) : (s.settle sd k).chan sd j = s.chan sd j := by
  obtain e | ⟨b, e⟩ := State.settle_cases (s := s) (sd := sd) (k := k)
  · rw [e, State.chan_updChan_other _ h]
  · rw [e, State.chan_setOn_other h, State.chan_updChan_other _ h]

/-! ### The fail-safe state after the hold time -/

/-- A die whose channels follow their fail-safe entries: in START after its hold time, and not in standby. -/
structure SwitchDie.FollowsEntries (x : SwitchDie) : Prop where
  start : x.mode = .start
  released : x.holding = false
  awake : x.standby = false

/-- Such a die calls for the fail-safe state of each channel. -/
theorem State.calls_of_followsEntries (h : (s.sd sd).FollowsEntries) : s.calls sd k = s.failSafe sd k := by
  simp [State.calls, h.start, h.released, h.awake]

/-- What settling leaves of a die decides whether it follows its entries. -/
theorem SwitchDie.FollowsEntries.of_frame {x y : SwitchDie} (h : x.FollowsEntries) (hf : y.frame = x.frame) : y.FollowsEntries where
  start := by simpa [h.start] using congrArg SwitchDie.mode hf
  released := by simpa [h.released] using congrArg SwitchDie.holding hf
  awake := by simpa [h.awake] using congrArg SwitchDie.standby hf

/-- The fail-safe states come from what settling leaves of a die and from the limp pins. -/
theorem State.failSafe_eq_of_frame (hf : (s'.sd sd).frame = (s.sd sd).frame) (hc : s'.cis = s.cis) :
    s'.failSafe sd k = s.failSafe sd k := by
  have hlive : (s'.sd sd).live = (s.sd sd).live := by simpa using congrArg SwitchDie.live hf
  have hfeed : (s'.sd sd).feedOk = (s.sd sd).feedOk := by simpa using congrArg SwitchDie.feedOk hf
  simp only [State.failSafe, SwitchDie.action, SwitchDie.limpOf, hlive, hfeed, hc]

/-- The first `n` channels of a die settled. -/
def State.settleFirst (s : State) (sd n : Nat) : State := (List.range n).foldl (fun st k => st.settle sd k) s

theorem State.settleAll_eq_settleFirst : s.settleAll sd = s.settleFirst sd (sdChans sd) := rfl

@[simp] theorem State.settleFirst_zero : s.settleFirst sd 0 = s := rfl

@[simp] theorem State.settleFirst_succ : s.settleFirst sd (n + 1) = (s.settleFirst sd n).settle sd n := by
  simp [State.settleFirst, List.range_succ]

@[simp] theorem State.settleFirst_cis : (s.settleFirst sd n).cis = s.cis := by
  induction n with
  | zero => rfl
  | succ n ih => simp [ih]

@[simp] theorem State.frame_settleFirst : ((s.settleFirst sd n).sd sd).frame = (s.sd sd).frame := by
  induction n with
  | zero => rfl
  | succ n ih => simp [ih]

theorem State.holding_settleFirst : ((s.settleFirst sd n).sd sd).holding = (s.sd sd).holding := by
  rw [← SwitchDie.frame_holding, State.frame_settleFirst, SwitchDie.frame_holding]

/-- Settling the channels in turn leaves each settled one at the fail-safe state it had at first. -/
theorem State.want_settleFirst (h : (s.sd sd).FollowsEntries) (hk : k < n) :
    ((s.settleFirst sd n).chan sd k).want = s.failSafe sd k := by
  induction n with
  | zero => omega
  | succ n ih =>
    rw [State.settleFirst_succ]
    by_cases hkn : k = n
    · subst hkn
      rw [State.want_settle, State.calls_of_followsEntries (h.of_frame State.frame_settleFirst),
        State.failSafe_eq_of_frame State.frame_settleFirst State.settleFirst_cis]
    · rw [State.chan_settle_other hkn, ih (by omega)]

theorem State.want_settleAll (h : (s.sd sd).FollowsEntries) (hk : k < sdChans sd) :
    ((s.settleAll sd).chan sd k).want = s.failSafe sd k :=
  State.want_settleFirst h hk

/-- The fail-safe state of a channel, entry by entry (R84 to R86). -/
theorem State.failSafe_on (h : (s.sd sd).action k = 1) : s.failSafe sd k = (s.sd sd).feedOk := by
  simp [State.failSafe, h]

theorem State.failSafe_limp (h : (s.sd sd).action k = 2) :
    s.failSafe sd k = (s.cis.limp.getLsbD ((s.sd sd).limpOf k % 4) == bitOf ((s.sd sd).limpOf k) 7) := by
  simp [State.failSafe, h]

theorem State.failSafe_off (h1 : (s.sd sd).action k ≠ 1) (h2 : (s.sd sd).action k ≠ 2) : s.failSafe sd k = false := by
  unfold State.failSafe
  dsimp only
  split
  · exact absurd ‹_› h1
  · exact absurd ‹_› h2
  · rfl

/-- Without a table every entry reads as OFF. -/
theorem SwitchDie.action_of_live_nil {x : SwitchDie} (h : x.live = []) : x.action k = 0 := by
  simp [SwitchDie.action, h, u8, leBytes]

/-! ### The end of the hold time -/

/-- The hold time of a die ended and its channels settled. -/
def State.endHoldTime (s : State) (sd : Nat) : State := (s.updSd sd (fun x => { x with holding := false })).settleAll sd

/-- The table sent by a sealed die that has sent none since the switch die began anew (R93, R196). -/
def State.sendFirstTable (s : State) (sd : Nat) (d : Die) : State :=
  if s.alive d && s.isSealed d && !(s.apart && decide (d = 1)) && decide ((s.qsd d sd).tblSends = 0) then s.firstTable d sd else s

@[simp] theorem State.sendFirstTable_sds (d : Die) : (s.sendFirstTable sd d).sds = s.sds := by
  unfold State.sendFirstTable
  split <;> rfl

theorem exec_holdTimeEnd (sd : Fin 19) (hstarted : (s.sd sd).started = true) (hholding : (s.sd sd).holding = true) :
    exec (.holdTimeEnd sd) s = .next (((s.endHoldTime sd).sendFirstTable sd 0).sendFirstTable sd 1) := by
  change execHoldTimeEnd sd s = _
  simp only [execHoldTimeEnd, hstarted, hholding]
  rfl

theorem State.endHoldTime_holding : ((s.endHoldTime sd).sd sd).holding = false := by
  rw [State.endHoldTime, State.settleAll_eq_settleFirst, State.holding_settleFirst, State.sd_updSd]

/-- Ending the hold time does not touch what the fail-safe states come from. -/
theorem State.failSafe_updSd_holding (b : Bool) :
    (s.updSd sd (fun x => { x with holding := b })).failSafe sd k = s.failSafe sd k := by
  simp only [State.failSafe, State.sd_updSd, SwitchDie.action, SwitchDie.limpOf]
  rfl

theorem State.want_endHoldTime (hstart : (s.sd sd).mode = .start) (hawake : (s.sd sd).standby = false) (hk : k < sdChans sd) :
    ((s.endHoldTime sd).chan sd k).want = s.failSafe sd k := by
  have hfollows : ((s.updSd sd (fun x => { x with holding := false })).sd sd).FollowsEntries := by
    rw [State.sd_updSd]
    exact ⟨hstart, rfl, hawake⟩
  exact (State.want_settleAll hfollows hk).trans (State.failSafe_updSd_holding false)

/-- Settles O6: after the hold time each channel is called to its fail-safe state, which its entry names; sending the table to the die
leaves the die as it is. -/
theorem holdTimeEndSetsFailSafe : Obligations.HoldTimeEndSetsFailSafe := by
  unfold Obligations.HoldTimeEndSetsFailSafe
  intro s sd hstarted hholding hstart hstandby
  have hawake : (s.sd sd).standby = false := by simpa using hstandby
  have hsds : (((s.endHoldTime sd).sendFirstTable sd 0).sendFirstTable sd 1).sds = (s.endHoldTime sd).sds := by
    simp
  refine ⟨_, exec_holdTimeEnd sd hstarted hholding, ?_, fun k hk => ?_⟩
  · rw [State.sd_eq_of_sds hsds, State.endHoldTime_holding]
  · rw [State.chan_eq_of_sds hsds, State.want_endHoldTime hstart hawake hk]
    refine ⟨State.failSafe_on, State.failSafe_limp, State.failSafe_off, fun hlive => ?_⟩
    have hoff : (s.sd sd).action k = 0 := SwitchDie.action_of_live_nil hlive
    exact State.failSafe_off (by simp [hoff]) (by simp [hoff])

end Sys2Proof.Machine
end

section
/-! SUPPORT. Serial frames (R174, R175): the CRC-8 fits its eight bits, so that a frame is its upper 24 bits, which hold TYPE, CH and
DATA side by side, followed by their CRC. Every field then reads back, and a word with a good CRC has no other bits. -/

namespace Sys2Proof.Machine

variable {typ ch data : Nat} {f : Word}

/-! ### The width of the CRC -/

theorem crc8Bit_lt (c : Nat) (b : Bool) : crc8Bit c b < 256 := by
  have hshift : c * 2 % 256 < 2 ^ 8 := Nat.mod_lt _ (by decide)
  simp only [crc8Bit]
  split
  · exact Nat.xor_lt_two_pow hshift (by decide)
  · exact hshift

theorem crc8Bits_lt (x n : Nat) {c : Nat} (hc : c < 256) : crc8Bits x n c < 256 := by
  induction n generalizing c with
  | zero => exact hc
  | succ n ih => exact ih (crc8Bit_lt c _)

theorem crc8_lt (x : Nat) : crc8 x < 256 :=
  Nat.xor_lt_two_pow (n := 8) (crc8Bits_lt x 24 (by decide)) (by decide)

/-! ### A frame from its fields -/

/-- Bits 31:8 of the frame of a type, a channel and data: the part that the CRC covers. -/
def frameTop (typ ch data : Nat) : Nat := (typ % 32) * 2 ^ 19 + (ch % 8) * 2 ^ 16 + data % 2 ^ 16

theorem frameTop_lt : frameTop typ ch data < 2 ^ 24 := by
  unfold frameTop
  omega

theorem mkFrame_eq_frameTop :
    mkFrame typ ch data = BitVec.ofNat 32 (frameTop typ ch data * 256 + crc8 (frameTop typ ch data)) := rfl

/-- Both parts fit their places, so that the word drops no bit of them. -/
theorem mkFrame_toNat : (mkFrame typ ch data).toNat = frameTop typ ch data * 256 + crc8 (frameTop typ ch data) := by
  have htop : frameTop typ ch data < 2 ^ 24 := frameTop_lt
  have hcrc := crc8_lt (frameTop typ ch data)
  rw [mkFrame_eq_frameTop, BitVec.toNat_ofNat]
  exact Nat.mod_eq_of_lt (by omega)

@[simp] theorem mkFrame_toNat_div : (mkFrame typ ch data).toNat / 256 = frameTop typ ch data := by
  have hcrc := crc8_lt (frameTop typ ch data)
  rw [mkFrame_toNat]
  omega

@[simp] theorem mkFrame_toNat_mod : (mkFrame typ ch data).toNat % 256 = crc8 (frameTop typ ch data) := by
  rw [mkFrame_toNat, Nat.mul_add_mod', Nat.mod_eq_of_lt (crc8_lt _)]

/-! ### The fields of a word -/

/-- The fields lie in bits 31:8, which the division by 256 leaves. -/
theorem frameType_eq : frameType f = f.toNat / 256 / 2 ^ 19 := by
  rw [frameType, Nat.div_div_eq_div_mul, ← Nat.pow_add 2 8 19]

theorem frameCh_eq : frameCh f = f.toNat / 256 / 2 ^ 16 % 8 := by
  rw [frameCh, Nat.div_div_eq_div_mul, ← Nat.pow_add 2 8 16]

theorem frameData_eq : frameData f = f.toNat / 256 % 2 ^ 16 := rfl

theorem frameOk_iff : frameOk f = true ↔ crc8 (f.toNat / 256) = f.toNat % 256 := decide_eq_true_iff

@[simp] theorem frameType_mkFrame : frameType (mkFrame typ ch data) = typ % 32 := by
  rw [frameType_eq, mkFrame_toNat_div, frameTop]
  omega

@[simp] theorem frameCh_mkFrame : frameCh (mkFrame typ ch data) = ch % 8 := by
  rw [frameCh_eq, mkFrame_toNat_div, frameTop]
  omega

@[simp] theorem frameData_mkFrame : frameData (mkFrame typ ch data) = data % 2 ^ 16 := by
  rw [frameData_eq, mkFrame_toNat_div, frameTop]
  omega

@[simp] theorem frameOk_mkFrame : frameOk (mkFrame typ ch data) = true := by
  rw [frameOk_iff, mkFrame_toNat_div, mkFrame_toNat_mod]

/-! ### A good word from its fields -/

/-- The three fields cover bits 31:8 of a word. -/
@[simp] theorem frameTop_fields : frameTop (frameType f) (frameCh f) (frameData f) = f.toNat / 256 := by
  have hword : f.toNat < 2 ^ 32 := f.isLt
  rw [frameTop, frameType_eq, frameCh_eq, frameData_eq]
  omega

theorem mkFrame_fields_of_frameOk (hok : frameOk f = true) : mkFrame (frameType f) (frameCh f) (frameData f) = f := by
  apply BitVec.eq_of_toNat_eq
  calc (mkFrame (frameType f) (frameCh f) (frameData f)).toNat
      = f.toNat / 256 * 256 + crc8 (f.toNat / 256) := by rw [mkFrame_toNat, frameTop_fields]
    _ = f.toNat / 256 * 256 + f.toNat % 256 := by rw [frameOk_iff.mp hok]
    _ = f.toNat := Nat.div_add_mod' _ _

/-! ### The direction of a type -/

theorem isDown_iff : isDown typ = true ↔ 1 ≤ typ ∧ typ ≤ 0x0F := decide_eq_true_iff

theorem isUp_iff : isUp typ = true ↔ 0x10 ≤ typ ∧ typ ≤ 0x1E := decide_eq_true_iff

/-- Settles O16: a frame is its fields and their CRC, each in a place that holds it whole, and a word with a good CRC consists of these
places alone. -/
theorem serialFrameRoundTrip : Obligations.SerialFrameRoundTrip := by
  unfold Obligations.SerialFrameRoundTrip
  refine ⟨fun typ ch data htyp hch hdata => ⟨?_, ?_, ?_, ?_, frameOk_mkFrame⟩, fun f => mkFrame_fields_of_frameOk,
    fun typ => ⟨isDown_iff, isUp_iff⟩⟩
  · rw [frameType_mkFrame, Nat.mod_eq_of_lt htyp]
  · rw [frameCh_mkFrame, Nat.mod_eq_of_lt hch]
  · rw [frameData_mkFrame, Nat.mod_eq_of_lt hdata]
  · rw [mkFrame_toNat_mod, mkFrame_toNat_div]

end Sys2Proof.Machine
end

section
/-! SUPPORT. The record walk (R53, R54): the header of a record is its fields in little-endian bytes, which read back, so that one turn
of the walk takes exactly the bytes of one record. -/

namespace Sys2Proof.Machine
set_option Elab.async false

/-! ### Little-endian bytes -/

@[simp] theorem length_toLE (n x : Nat) : (toLE n x).length = n := by
  induction n generalizing x with
  | zero => rfl
  | succ n ih => simp [toLE, ih]

/-- Bytes are read one place further behind one more byte. -/
theorem leBytes_cons (b : Byte) (l : List Byte) (i n : Nat) : leBytes (b :: l) (i + 1) n = leBytes l i n := by
  induction n generalizing i with
  | zero => rfl
  | succ n ih => simp only [leBytes, ih, List.getD_cons_succ]

theorem leBytes_append_right (a l : List Byte) (i n : Nat) : leBytes (a ++ l) (a.length + i) n = leBytes l i n := by
  induction a with
  | nil => simp
  | cons b a ih =>
    rw [List.cons_append, List.length_cons, Nat.add_right_comm, leBytes_cons]
    exact ih

/-- What `n` bytes hold reads back, cut to their width. -/
theorem leBytes_toLE (n x : Nat) (l : List Byte) : leBytes (toLE n x ++ l) 0 n = x % 256 ^ n := by
  induction n generalizing x with
  | zero => simp [leBytes, Nat.mod_one]
  | succ n ih =>
    have hfirst : (BitVec.ofNat 8 x : Byte).toNat = x % 256 := BitVec.toNat_ofNat x 8
    have hrest : leBytes (BitVec.ofNat 8 x :: (toLE n (x / 256) ++ l)) 1 n = x / 256 % 256 ^ n := by
      rw [leBytes_cons, ih]
    simp only [leBytes, toLE, List.cons_append, List.getD_cons_zero, hfirst, hrest]
    rw [Nat.pow_succ', Nat.mod_mul]

/-- The bytes of a value read from a list are those of the list. -/
theorem toLE_leBytes {l : List Byte} {i n : Nat} (h : i + n ≤ l.length) : toLE n (leBytes l i n) = slice l i n := by
  induction n generalizing i with
  | zero => simp [toLE, slice]
  | succ n ih =>
    have hi : i < l.length := by omega
    have hbyte : (l.getD i 0).toNat = l[i].toNat := by rw [List.getD_eq_getElem _ _ hi]
    have hlt : l[i].toNat < 256 := l[i].isLt
    have hfirst : BitVec.ofNat 8 (leBytes l i (n + 1)) = l[i] := by
      apply BitVec.eq_of_toNat_eq
      rw [leBytes, hbyte, BitVec.toNat_ofNat]
      omega
    have hrest : leBytes l i (n + 1) / 256 = leBytes l (i + 1) n := by
      rw [leBytes, hbyte]
      omega
    rw [toLE, hfirst, hrest, ih (by omega), slice, slice, List.drop_eq_getElem_cons hi, List.take_succ_cons]

theorem leBytes_lt (l : List Byte) (i n : Nat) : leBytes l i n < 256 ^ n := by
  induction n generalizing i with
  | zero => simp [leBytes]
  | succ n ih =>
    have hbyte : (l.getD i 0).toNat < 256 := (l.getD i 0).isLt
    have hrest := ih (i + 1)
    rw [leBytes, Nat.pow_succ']
    omega

/-! ### The header of a record -/

@[simp] theorem length_recBytes (r : Rec) : (recBytes r).length = 16 + r.body.length := by
  simp [recBytes]
  omega

/-- A field of the header, behind the bytes before it. -/
theorem leBytes_field (a b : List Byte) (n x : Nat) (hx : x < 256 ^ n) : leBytes (a ++ (toLE n x ++ b)) a.length n = x := by
  have h := leBytes_append_right a (toLE n x ++ b) 0 n
  rw [Nat.add_zero] at h
  rw [h, leBytes_toLE, Nat.mod_eq_of_lt hx]

section
variable (r : Rec) (rest : List Byte)

theorem recBytes_append : recBytes r ++ rest = toLE 2 r.typ.toNat ++ (toLE 2 r.flags.toNat ++ (toLE 4 r.body.length ++
    (toLE 4 r.target.toNat ++ (toLE 4 r.seq.toNat ++ (r.body ++ rest))))) := by
  simp only [recBytes, List.append_assoc]

theorem u16_recBytes_typ : u16 (recBytes r ++ rest) 0 = r.typ.toNat := by
  rw [recBytes_append]
  exact leBytes_field [] _ 2 _ r.typ.isLt

theorem u16_recBytes_flags : u16 (recBytes r ++ rest) 2 = r.flags.toNat := by
  rw [recBytes_append]
  exact leBytes_field (toLE 2 r.typ.toNat) _ 2 _ r.flags.isLt

theorem u32_recBytes_len (h : r.body.length < 2 ^ 32) : u32 (recBytes r ++ rest) 4 = r.body.length := by
  rw [recBytes_append, ← List.append_assoc]
  exact leBytes_field (toLE 2 r.typ.toNat ++ toLE 2 r.flags.toNat) _ 4 _ h

theorem u32_recBytes_target : u32 (recBytes r ++ rest) 8 = r.target.toNat := by
  rw [recBytes_append, ← List.append_assoc, ← List.append_assoc]
  exact leBytes_field (toLE 2 r.typ.toNat ++ toLE 2 r.flags.toNat ++ toLE 4 r.body.length) _ 4 _ r.target.isLt

theorem u32_recBytes_seq : u32 (recBytes r ++ rest) 12 = r.seq.toNat := by
  rw [recBytes_append, ← List.append_assoc, ← List.append_assoc, ← List.append_assoc]
  exact leBytes_field (toLE 2 r.typ.toNat ++ toLE 2 r.flags.toNat ++ toLE 4 r.body.length ++ toLE 4 r.target.toNat) _ 4 _ r.seq.isLt

theorem slice_recBytes_body : slice (recBytes r ++ rest) 16 r.body.length = r.body := by
  have hhead : recBytes r ++ rest = (toLE 2 r.typ.toNat ++ toLE 2 r.flags.toNat ++ toLE 4 r.body.length ++ toLE 4 r.target.toNat ++
      toLE 4 r.seq.toNat) ++ (r.body ++ rest) := by simp [recBytes]
  rw [slice, hhead, List.drop_left' (by simp), List.take_left]

end

/-! ### One turn of the walk -/

/-- Standing at the bytes of a record the walk takes that record and goes on behind it. -/
theorem walkRecs_recBytes {r : Rec} (n : Nat) (rest : List Byte) (hlen : r.body.length % 8 = 0) (hfit : r.body.length < 2 ^ 32) :
    walkRecs (n + 1) r.index (recBytes r ++ rest) = (walkRecs n (r.index + 1) rest).map (r :: ·) := by
  have hdrop : (recBytes r ++ rest).drop (16 + r.body.length) = rest := List.drop_left' (length_recBytes r)
  simp only [walkRecs, u32_recBytes_len r rest hfit, hdrop, slice_recBytes_body, u16_recBytes_typ, u16_recBytes_flags,
    u32_recBytes_target, u32_recBytes_seq, BitVec.ofNat_toNat, BitVec.setWidth_eq, List.length_append, length_recBytes]
  exact if_neg (by omega)

/-- The record that the walk reads from the front of some bytes. -/
def recAt (k : Nat) (l : List Byte) : Rec :=
  { index := k, typ := BitVec.ofNat 16 (u16 l 0), flags := BitVec.ofNat 16 (u16 l 2), target := BitVec.ofNat 32 (u32 l 8),
    seq := BitVec.ofNat 32 (u32 l 12), body := slice l 16 (u32 l 4) }

/-- A walk that goes on has read a record that fits. -/
theorem walkRecs_succ_eq_some {n k : Nat} {l : List Byte} {found : List Rec} (h : walkRecs (n + 1) k l = some found) :
    16 + u32 l 4 ≤ l.length ∧ ∃ tail, walkRecs n (k + 1) (l.drop (16 + u32 l 4)) = some tail ∧ found = recAt k l :: tail := by
  simp only [walkRecs] at h
  split at h
  · cases h
  · obtain ⟨tail, htail, rfl⟩ := Option.map_eq_some_iff.1 h
    exact ⟨by omega, tail, htail, rfl⟩

theorem slice_append_slice (l : List Byte) (i m n : Nat) : slice l i m ++ slice l (i + m) n = slice l i (m + n) := by
  simp only [slice, List.take_add, List.drop_drop]

/-- The bytes of a record read from the front are the bytes it was read from. -/
theorem recBytes_recAt {l : List Byte} (k : Nat) (h : 16 + u32 l 4 ≤ l.length) : recBytes (recAt k l) = l.take (16 + u32 l 4) := by
  have hbody : (slice l 16 (u32 l 4)).length = u32 l 4 := by
    simp only [slice, List.length_take, List.length_drop]
    omega
  have htyp : (BitVec.ofNat 16 (u16 l 0)).toNat = u16 l 0 := Nat.mod_eq_of_lt (leBytes_lt l 0 2)
  have hflags : (BitVec.ofNat 16 (u16 l 2)).toNat = u16 l 2 := Nat.mod_eq_of_lt (leBytes_lt l 2 2)
  have htarget : (BitVec.ofNat 32 (u32 l 8)).toNat = u32 l 8 := Nat.mod_eq_of_lt (leBytes_lt l 8 4)
  have hseq : (BitVec.ofNat 32 (u32 l 12)).toNat = u32 l 12 := Nat.mod_eq_of_lt (leBytes_lt l 12 4)
  calc recBytes (recAt k l)
      = slice l 0 2 ++ slice l 2 2 ++ slice l 4 4 ++ slice l 8 4 ++ slice l 12 4 ++ slice l 16 (u32 l 4) := by
        simp only [recBytes, recAt, hbody, htyp, hflags, htarget, hseq]
        rw [u16, u16, u32, u32, u32, toLE_leBytes (by omega), toLE_leBytes (by omega), toLE_leBytes (by omega),
          toLE_leBytes (by omega), toLE_leBytes (by omega)]
    _ = slice l 0 (16 + u32 l 4) := by
        rw [slice_append_slice l 0 2 2, slice_append_slice l 0 4 4, slice_append_slice l 0 8 4, slice_append_slice l 0 12 4,
          slice_append_slice l 0 16 (u32 l 4)]
    _ = l.take (16 + u32 l 4) := rfl

/-! ### The whole walk -/

theorem walkRecs_flatMap_recBytes {l : List Rec} {k : Nat}
    (h : ∀ j r, l[j]? = some r → r.index = k + j ∧ r.body.length % 8 = 0 ∧ r.body.length < 2 ^ 32) :
    walkRecs l.length k (l.flatMap recBytes) = some l := by
  induction l generalizing k with
  | nil => rfl
  | cons r l ih =>
    obtain ⟨hindex, hlen, hfit⟩ := h 0 r rfl
    obtain rfl : r.index = k := hindex
    have htail : walkRecs l.length (r.index + 1) (l.flatMap recBytes) = some l := by
      refine ih (fun j q hq => ?_)
      obtain ⟨hq1, hq2⟩ := h (j + 1) q hq
      exact ⟨by omega, hq2⟩
    rw [List.length_cons, List.flatMap_cons, walkRecs_recBytes _ _ hlen hfit, htail]
    rfl

theorem walkRecs_sound {n k : Nat} {bytes : List Byte} {l : List Rec} (h : walkRecs n k bytes = some l) :
    l.length = n ∧ bytes = l.flatMap recBytes := by
  induction n generalizing k bytes l with
  | zero =>
    simp only [walkRecs] at h
    split at h
    · cases h
      exact ⟨rfl, by assumption⟩
    · cases h
  | succ n ih =>
    obtain ⟨hfits, tail, htail, rfl⟩ := walkRecs_succ_eq_some h
    obtain ⟨hlen, hbytes⟩ := ih htail
    refine ⟨by rw [List.length_cons, hlen], ?_⟩
    rw [List.flatMap_cons, recBytes_recAt k hfits, ← hbytes, List.take_append_drop]

/-- Settles O17: each turn of the walk takes the bytes of one record, by induction on the records and on the turns. -/
theorem recordWalkRoundTrip : Obligations.RecordWalkRoundTrip :=
  ⟨fun _ _ h => walkRecs_flatMap_recBytes h, fun _ _ _ _ h => walkRecs_sound h⟩

end Sys2Proof.Machine
end

section
/-! SUPPORT. Statements about one command or one function: the step, a cycle without a command, the state after reset, the tokens at a
module reset, the order of the signature checks. -/

namespace Sys2Proof.Machine
set_option Elab.async false

variable {s : State}

/-! ### The step -/

theorem step_of_pending_nil (h : s.pending = []) : step s = .next s.tick := by
  rw [step, h]

theorem step_of_pending_cons {c : Instr} {rest : List Instr} (h : s.pending = c :: rest) :
    step s = exec c { s with pending := rest } := by
  rw [step, h]

/-- Settles O1. -/
theorem stepRunsFrontCommand : Obligations.StepRunsFrontCommand :=
  fun _ _ _ h => step_of_pending_cons h

/-! ### One cycle of the clocks (R466, R481) -/

theorem State.rtcCarried_cases (frac rtc : Nat) :
    ∃ r c, (s.updCis (fun c => { c with rtcFrac := frac })).wr64 0 CIS_RTCL CIS_RTCH rtc = { s with regs := r, cis := c } :=
  ⟨_, _, rfl⟩

/-- A tick of the RTC changes registers and the Cistern alone. -/
theorem State.tickRtc_cases : ∃ r c, s.tickRtc = { s with regs := r, cis := c } := by
  unfold State.tickRtc
  dsimp only
  split
  · exact ⟨_, _, rfl⟩
  · split
    · exact ⟨_, _, rfl⟩
    · exact State.rtcCarried_cases _ _

/-- The group time of a die after a cycle, from its TIM_FREQ. -/
def State.ticked (s : State) (d : Die) : Nat :=
  if s.alive d then ((s.now.get d : Int) + 2 * 2 ^ 32 + 2 * toSigned 32 (s.rd d TIM_FREQ).toNat).toNat else s.now.get d

theorem PerDie.upd_const {α : Type} (p : PerDie α) (d : Die) (f : α → α) : p.upd d f = p.upd d (fun _ => f (p.get d)) := by
  fin_cases d <;> rfl

theorem PerDie.upd_eq_self {α : Type} (p : PerDie α) (d : Die) {f : α → α} (h : f (p.get d) = p.get d) : p.upd d f = p := by
  obtain ⟨x, y⟩ := p
  fin_cases d
  · exact congrArg (PerDie.mk · y) h
  · exact congrArg (PerDie.mk x ·) h

/-- A die's tick moves its own group time alone. -/
theorem State.tickTime_eq (d : Die) : s.tickTime d = { s with now := s.now.upd d (fun _ => s.ticked d) } := by
  unfold State.tickTime State.ticked
  split
  · dsimp only
    rw [PerDie.upd_const]
  · rw [PerDie.upd_eq_self _ _ rfl]

theorem State.ticked_now (d : Die) (n : PerDie Nat) (h : n.get d = s.now.get d) : { s with now := n }.ticked d = s.ticked d := by
  unfold State.ticked
  rw [h]
  rfl

/-- A cycle moves both group times by their own ticks, and beside them only registers and the Cistern. -/
theorem State.tick_eq : ∃ r c, s.tick = { s with now := ⟨s.ticked 0, s.ticked 1⟩, regs := r, cis := c } := by
  have hboth : (s.tickTime 0).tickTime 1 = { s with now := ⟨s.ticked 0, s.ticked 1⟩ } := by
    have hother : { s with now := s.now.upd 0 (fun _ => s.ticked 0) }.ticked 1 = s.ticked 1 :=
      State.ticked_now 1 _ (PerDie.get_upd_other _ _ (by decide))
    rw [State.tickTime_eq, State.tickTime_eq, hother]
    rfl
  obtain ⟨r, c, htick⟩ := State.tickRtc_cases (s := (s.tickTime 0).tickTime 1)
  exact ⟨r, c, by rw [State.tick, htick, hboth]⟩

theorem State.tick_now (d : Die) : s.tick.now.get d = s.ticked d := by
  obtain ⟨r, c, h⟩ := State.tick_eq (s := s)
  rw [h]
  fin_cases d <;> rfl

/-- Settles O2. -/
theorem emptyQueueTicks : Obligations.EmptyQueueTicks := by
  unfold Obligations.EmptyQueueTicks
  intro s hempty
  refine ⟨step_of_pending_nil hempty, fun d hd => ?_, fun d hd => ?_, ?_⟩
  · rw [State.tick_now, State.ticked, if_pos hd]
  · rw [State.tick_now, State.ticked, if_neg hd]
  · obtain ⟨r, c, h⟩ := State.tick_eq (s := s)
    rw [h]
    exact ⟨rfl, rfl, rfl, rfl, rfl, rfl, hempty⟩

/-! ### The state after reset (R81, R104) -/

/-- Registers that the reset state does not list read their reset values. -/
theorem State.rd_of_tfind_none {d : Die} {o : Nat} (h : tfind s.regs (regKey d o) = none) : s.rd d o = regReset (regKey d o) := by
  rw [State.rd, h]

theorem reset_regs_canonical : State.reset.regsWf = true := by decide +kernel

theorem reset_alive (d : Die) : State.reset.alive d = false := by fin_cases d <;> rfl

theorem reset_held (d : Die) : (State.reset.keep.get d).run = .held := by fin_cases d <;> rfl

theorem reset_nib (n : NibId) : State.reset.nib n = {} := by
  obtain ⟨d, c, k⟩ := n
  fin_cases d <;> rfl

/-- Settles O3. -/
theorem resetLeaves : Obligations.ResetLeaves := by
  unfold Obligations.ResetLeaves
  refine ⟨fun d o hbal hmod => ?_, rfl, rfl, rfl, fun d => ⟨reset_held d, reset_alive d⟩, fun n => ?_, fun _ => rfl, rfl,
    reset_regs_canonical, rfl, rfl, rfl⟩
  · exact State.rd_of_tfind_none (by simp [State.reset, tfind, hbal.symm, hmod.symm])
  · rw [reset_nib]

/-! ### Tokens at a module reset (R40) -/

variable {d e : Die} {o p c : Nat}

theorem tfind_tdrop_of_mem {α : Type} (t : Table α) (gone : Nat → Bool) {i : Nat} (h : gone i = true) :
    tfind (tdrop t gone) i = none := by
  induction t with
  | nil => rfl
  | cons f t ih =>
    obtain ⟨k, v⟩ := f
    by_cases hk : gone k = true
    · simpa [tdrop, hk] using ih
    · have hne : k ≠ i := fun e => hk (e ▸ h)
      simpa [tdrop, hk, tfind, hne] using ih

theorem State.rd_setF_other (f : Fld) (x : Nat) (h : regKey e p ≠ regKey d o) : (s.setF d o f x).rd e p = s.rd e p :=
  State.rd_wr_other s _ h

theorem State.rd_addSat_other (f : Fld) (x : Nat) (h : regKey e p ≠ regKey d o) : (s.addSat d o f x).rd e p = s.rd e p :=
  State.rd_wr_other s _ h

/-- A register is read from the register file alone. -/
theorem State.rd_of_regs {u : State} (h : u.regs = s.regs) : u.rd d o = s.rd d o := by
  rw [State.rd, h, State.rd]

/-- A cause record is written to its own register alone. -/
theorem State.rd_causeRecord_other (cause req : Nat) (h : regKey e p ≠ regKey d o) :
    (s.causeRecord d o cause req).rd e p = s.rd e p := by
  rw [State.causeRecord, State.rd_setF_other _ _ h, State.rd_addSat_other _ _ h, State.rd_setF_other _ _ h, State.rd_setF_other _ _ h]

theorem State.rd_causeAgain_other (cause req : Nat) (going : Bool) (h : regKey e p ≠ regKey d o) :
    (s.causeAgain d o cause req going).rd e p = s.rd e p := by
  unfold State.causeAgain
  split
  · rfl
  · exact State.rd_causeRecord_other cause req h

theorem State.rd_ports_field (ports : Table PortSel) (field : FieldDie) :
    { s with ports := ports, field := field }.rd d o = s.rd d o := rfl

/-- The token register is none of those that a module reset keeps. -/
theorem State.rd_clearCis_token (cause : Nat) : (s.clearCis cause).rd 0 CIS_TOKEN = 0#32 := by
  have hgone : tfind (s.clearCis cause).regs (regKey 0 CIS_TOKEN) = none := by
    unfold State.clearCis
    dsimp only
    refine tfind_tdrop_of_mem _ _ ?_
    have hnotCause : isCauseReg (regKey 0 CIS_TOKEN % 0x1000000) = false := by decide
    have hnotKept : keptReg (regKey 0 CIS_TOKEN % 0x1000000) = false := by decide +kernel
    have hcis : regKey 0 CIS_TOKEN % 0x1000000 < 0x10000 := by decide
    simp only [hnotCause, hnotKept, hcis]
    split <;> rfl
  rw [State.rd_of_tfind_none hgone]
  decide +kernel

/-- A module reset leaves the token register at its reset value. -/
theorem State.rd_moduleReset_token (cause req : Nat) : (s.moduleReset cause req).rd 0 CIS_TOKEN = 0#32 := by
  unfold State.moduleReset
  dsimp only
  rw [State.rd_of_regs (State.updCis_regs _ _), State.rd_causeAgain_other _ _ _ (by decide)]
  split
  · rw [State.wr64, State.rd_wr_other _ _ (by decide), State.rd_wr_other _ _ (by decide), State.rd_ports_field,
      State.rd_clearCis_token]
  · rw [State.rd_ports_field, State.rd_clearCis_token]

theorem State.holder_moduleReset (cause req t : Nat) : (s.moduleReset cause req).holder t = 0 := by
  have hzero : CIS_TOKEN__DIE.get 0#32 = 0 := by decide
  rw [State.holder, State.fld, State.rd_moduleReset_token, hzero]
  simp [bitOf]

/-- Every cause ends in a module reset. -/
theorem exec_moduleReset (cause : ModuleCause) (h : s.cis.powered = true) :
    ∃ u code req, exec (.moduleReset cause) s = .next (State.moduleReset u code req) := by
  change ∃ u code req, execModuleReset cause s = .next (State.moduleReset u code req)
  cases cause <;> simp only [execModuleReset, h, reduceCtorEq, reduceIte, Bool.not_true, Bool.false_eq_true] <;> exact ⟨_, _, _, rfl⟩

/-- Settles O13. -/
theorem tokensAtModuleReset : Obligations.TokensAtModuleReset := by
  unfold Obligations.TokensAtModuleReset
  intro s cause hpowered
  obtain ⟨u, code, req, hexec⟩ := exec_moduleReset cause hpowered
  exact ⟨_, hexec, fun t _ => State.holder_moduleReset code req t⟩

/-! ### The signature checks (R49 to R52) -/

/-- Settles O14: the checks are one chain, in which the ECDSA signature comes before the ML-DSA signature. -/
theorem signatureChecksInOrder : Obligations.SignatureChecksInOrder := by
  unfold Obligations.SignatureChecksInOrder
  intro fuse formOk g ctx msg
  unfold sigCode
  by_cases hform : (formOk && sigFormOk g) = true
  · obtain ⟨h1, h2⟩ := Bool.and_eq_true_iff.1 hform
    by_cases hslot : sigSlotOk g = true
    · by_cases hecdsa : sigEcdsa g msg = true
      · by_cases hmldsa : sigMldsa g ctx msg = true
        · by_cases hfuse : u32 g 16 < fuse
          · simp [h1, h2, hslot, hecdsa, hmldsa, hfuse]
          · simp [h1, h2, hslot, hecdsa, hmldsa, hfuse, Nat.le_of_not_lt hfuse]
        · simp [h1, h2, hslot, hecdsa, hmldsa]
      · simp [h1, h2, hslot, hecdsa]
    · simp [h1, h2, hslot]
  · simp only [hform]
    rw [Bool.and_eq_true_iff] at hform
    simp only [Bool.not_false, reduceIte]
    exact ⟨⟨fun h => absurd h (by decide), fun h => absurd ⟨h.1, h.2.1⟩ hform⟩,
      ⟨fun h => absurd h (by decide), fun h => absurd ⟨h.1, h.2.1⟩ hform⟩,
      ⟨fun h => absurd h (by decide), fun h => absurd ⟨h.1, h.2.1⟩ hform⟩⟩

/-! ### The words of the nib set (R266 to R268) -/

/-- Whether two instructions ask for different values of a bit that both look at. -/
def NibOp.differ (a b : NibOp) : Bool :=
  decide (BitVec.ofNat 32 a.val &&& BitVec.ofNat 32 b.mask ≠ BitVec.ofNat 32 b.val &&& BitVec.ofNat 32 a.mask)

/-- Such instructions share no word: both would read the bits that both look at. -/
theorem NibOp.not_isOp_both {a b : NibOp} (h : a.differ b = true) (w : Word) : ¬ (a.isOp w ∧ b.isOp w) := by
  rintro ⟨ha, hb⟩
  simp only [NibOp.isOp, NibOp.differ, decide_eq_true_eq] at ha hb h
  refine h ?_
  rw [← ha, ← hb, BitVec.and_assoc, BitVec.and_assoc, BitVec.and_comm (BitVec.ofNat 32 a.mask)]

theorem nibOps_pairwise_differ : nibOps.Pairwise (fun a b => a.differ b = true) := by decide +kernel

/-- Settles O15. -/
theorem nibWordsAreUnambiguous : Obligations.NibWordsAreUnambiguous :=
  nibOps_pairwise_differ.imp NibOp.not_isOp_both

end Sys2Proof.Machine
end

section
/-! SUPPORT. What every operation of the machine keeps: the queue of waiting commands, and the canonical form of the storage. One rule per
operation, in the order of the model: an operation that follows others on a state keeps what they kept, so that the proof for an
operation reads as its definition does. -/

namespace Sys2Proof.Machine
set_option Elab.async false

/-- What an operation keeps from `s` to `t`: the queue of waiting commands, and the canonical form of the storage. -/
structure State.Keeps (s t : State) : Prop where
  pending : t.pending = s.pending
  canonical : s.Canonical → t.Canonical

/-- A command that goes on from `s`, to a state that keeps what `s` has. -/
def State.Completes (s : State) (o : Out) : Prop := ∃ t, o = .next t ∧ s.Keeps t

/-- The state that an instruction's effect leaves. -/
def NibDo.state : NibDo → State
  | .raise t _ _ _ => t
  | .done t => t
  | .jump t _ => t
  | .goto t _ => t
  | .hold t => t

/-- The state to which a pass has come. -/
def GwOut.state : GwOut → State
  | .go t _ => t
  | .stop t _ => t

/-- The storage and the queue of a state. -/
def State.storage (s : State) : Table Word × List Host.Cell × List Host.Cell × List Host.Cell × List Instr :=
  (s.regs, s.mem, s.mram, s.bulk, s.pending)

variable {s t u : State}

/-! ### Rules -/

theorem State.Keeps.refl (s : State) : s.Keeps s := ⟨rfl, id⟩

theorem State.Keeps.trans (h : s.Keeps t) (h' : t.Keeps u) : s.Keeps u :=
  ⟨h'.pending.trans h.pending, fun hs => h'.canonical (h.canonical hs)⟩

/-- A change outside the storage and the queue. -/
theorem State.Keeps.same (h : s.Keeps t) (hu : u.storage = t.storage := by rfl) : s.Keeps u := by
  simp only [State.storage, Prod.mk.injEq] at hu
  obtain ⟨hregs, hmem, hmram, hbulk, hpending⟩ := hu
  refine h.trans ⟨hpending, fun hc => ?_⟩
  simpa only [State.Canonical, State.regsWf, hregs, hmem, hmram, hbulk] using hc

theorem State.Keeps.withLink {l : PerDie LinkDir} (h : s.Keeps t) : s.Keeps { t with link := l } := h.same

theorem State.Keeps.nextFree {n : Nat} (h : s.Keeps t) : s.Keeps { t with free := n } := h.same

theorem State.Keeps.withPorts {p : Table PortSel} {f : FieldDie} (h : s.Keeps t) : s.Keeps { t with ports := p, field := f } := h.same

section
variable {α : Type} {c : Prop} {inst : Decidable c}

theorem State.Keeps.ite {a b : State} (ha : s.Keeps a) (hb : s.Keeps b) : s.Keeps (if c then a else b) := by
  split
  · exact ha
  · exact hb

theorem State.Keeps.iteSnd {a b : α × State} (ha : s.Keeps a.2) (hb : s.Keeps b.2) : s.Keeps (if c then a else b).2 := by
  split
  · exact ha
  · exact hb

theorem State.Keeps.iteFst {a b : State × α} (ha : s.Keeps a.1) (hb : s.Keeps b.1) : s.Keeps (if c then a else b).1 := by
  split
  · exact ha
  · exact hb

theorem State.Keeps.iteDo {a b : NibDo} (ha : s.Keeps a.state) (hb : s.Keeps b.state) : s.Keeps (if c then a else b).state := by
  split
  · exact ha
  · exact hb

theorem State.Keeps.iteGw {a b : GwOut} (ha : s.Keeps a.state) (hb : s.Keeps b.state) : s.Keeps (if c then a else b).state := by
  split
  · exact ha
  · exact hb

theorem State.Completes.ite {a b : Out} (ha : s.Completes a) (hb : s.Completes b) : s.Completes (if c then a else b) := by
  split
  · exact ha
  · exact hb

end

theorem State.Keeps.pair {α : Type} {x : α} (h : s.Keeps t) : s.Keeps (x, t).2 := h
theorem State.Keeps.pairFst {α : Type} {x : α} (h : s.Keeps t) : s.Keeps (t, x).1 := h
theorem State.Keeps.raise {c a m} (h : s.Keeps t) : s.Keeps (NibDo.raise t c a m).state := h
theorem State.Keeps.done (h : s.Keeps t) : s.Keeps (NibDo.done t).state := h
theorem State.Keeps.jump {a} (h : s.Keeps t) : s.Keeps (NibDo.jump t a).state := h
theorem State.Keeps.goto {pc} (h : s.Keeps t) : s.Keeps (NibDo.goto t pc).state := h
theorem State.Keeps.hold (h : s.Keeps t) : s.Keeps (NibDo.hold t).state := h

theorem State.Keeps.foldl {α : Type} {f : State → α → State} {l : List α} (h : s.Keeps t)
    (hf : ∀ u x, s.Keeps u → s.Keeps (f u x)) : s.Keeps (l.foldl f t) := by
  induction l generalizing t with
  | nil => exact h
  | cons x l ih => exact ih (hf _ _ h)

theorem State.Keeps.go {p} (h : s.Keeps t) : s.Keeps (GwOut.go t p).state := h
theorem State.Keeps.stop {w} (h : s.Keeps t) : s.Keeps (GwOut.stop t w).state := h

theorem State.Keeps.bind {o f} (h : s.Keeps (GwOut.state o)) (hf : ∀ u p, s.Keeps u → s.Keeps (f u p).state) :
    s.Keeps (o.bind f).state := by
  cases o with
  | go u p => exact hf u p h
  | stop => exact h

theorem State.Keeps.gwEach {α : Type} {l : List α} {p f} (h : s.Keeps t)
    (hf : ∀ u p x, s.Keeps u → s.Keeps (f u p x).state) : s.Keeps (Machine.gwEach l t p f).state := by
  have hall : ∀ o : GwOut, s.Keeps o.state → s.Keeps (l.foldl (fun o a => o.bind (fun s p => f s p a)) o).state := by
    induction l with
    | nil => exact fun o ho => ho
    | cons x l ih => exact fun o ho => ih _ (ho.bind (fun _ _ hu => hf _ _ _ hu))
  exact hall _ h.go

/-- What an operation that may fail keeps where it answers a state. -/
def State.KeepsSome (s : State) (o : Option State) : Prop := ∀ u, o = some u → s.Keeps u

theorem State.KeepsSome.none : s.KeepsSome .none := fun _ hu => nomatch hu

theorem State.KeepsSome.some (h : s.Keeps t) : s.KeepsSome (.some t) := fun _ hu => Option.some.inj hu ▸ h

theorem State.KeepsSome.ite {c : Prop} {inst : Decidable c} {a b : Option State} (ha : s.KeepsSome a) (hb : s.KeepsSome b) :
    s.KeepsSome (if c then a else b) := by
  split
  · exact ha
  · exact hb

theorem State.KeepsSome.getD {o : Option State} (ho : s.KeepsSome o) (h : s.Keeps t) : s.Keeps (o.getD t) := by
  cases o with
  | none => exact h
  | some u => exact ho u rfl

/-- What a switch die decides on a command keeps what its effect keeps. -/
def State.KeepsDecided (s : State) : Decided → Prop
  | .done eff => ∀ u, s.Keeps u → s.Keeps (eff u)
  | _ => True

theorem State.KeepsDecided.discard : s.KeepsDecided .discard := trivial
theorem State.KeepsDecided.refuse : s.KeepsDecided .refuse := trivial
theorem State.KeepsDecided.done {eff : State → State} (h : ∀ u, s.Keeps u → s.Keeps (eff u)) : s.KeepsDecided (.done eff) := h

theorem State.KeepsDecided.ite {c : Prop} {inst : Decidable c} {a b : Decided} (ha : s.KeepsDecided a) (hb : s.KeepsDecided b) :
    s.KeepsDecided (if c then a else b) := by
  split
  · exact ha
  · exact hb

/-- The state in what a call answered. -/
theorem State.Keeps.ofSnd {α : Type} {p : α × State} {x : α} (h : s.Keeps p.2) (e : p = (x, u)) : s.Keeps u := by
  subst e
  exact h

theorem State.KeepsSome.ofFst {α : Type} {p : Option State × α} {x : α} (h : s.KeepsSome p.1) (e : p = (.some u, x)) :
    s.Keeps u := by
  subst e
  exact h u rfl

theorem State.Keeps.ofDo {r r' : NibDo} (h : s.Keeps r.state) (e : r = r') : s.Keeps r'.state := by
  subst e
  exact h

theorem State.Completes.next (h : s.Keeps t) : s.Completes (.next t) := ⟨t, rfl, h⟩

/-! ### The storage -/

theorem State.Keeps.wr {d off v} (h : s.Keeps t) : s.Keeps (t.wr d off v) :=
  h.trans ⟨rfl, fun ⟨hregs, hmem, hmram, hbulk⟩ => ⟨State.wr_regsWf hregs, hmem, hmram, hbulk⟩⟩

theorem State.Keeps.putByte {d a b} (h : s.Keeps t) : s.Keeps (t.putByte d a b) :=
  h.trans ⟨by unfold State.putByte; split <;> rfl, fun ⟨hregs, hmem, hmram, hbulk⟩ =>
    ⟨(congrArg (twf regReset) (State.putByte_regs ..)).trans hregs, State.putByte_mem hmem, State.putByte_mram hmram,
      (congrArg tsorted (State.putByte_bulk ..)).trans hbulk⟩⟩

theorem State.Keeps.putBytes {d a l} (h : s.Keeps t) : s.Keeps (t.putBytes d a l) := by
  induction l generalizing t a with
  | nil => exact h
  | cons b l ih => exact ih h.putByte

theorem State.Keeps.copyRange {src dst lo hi} (h : s.Keeps t) : s.Keeps (t.copyRange src dst lo hi) :=
  h.trans ⟨rfl, fun ⟨hregs, hmem, hmram, hbulk⟩ => ⟨hregs, State.copyRange_mem hmem, hmram, hbulk⟩⟩

theorem State.Keeps.bulkPut {k l} (h : s.Keeps t) : s.Keeps (t.bulkPut k l) := by
  induction l generalizing t k with
  | nil => exact h
  | cons b l ih =>
    exact ih (h.trans ⟨rfl, fun ⟨hregs, hmem, hmram, hbulk⟩ => ⟨hregs, hmem, hmram, tsorted_tput _ _ hbulk⟩⟩)

/-- Registers dropped, memory bytes dropped, a memory byte set. -/
theorem State.Keeps.dropRegs {p : Nat → Bool} (h : s.Keeps t) : s.Keeps { t with regs := tdrop t.regs p } :=
  h.trans ⟨rfl, fun ⟨hregs, hmem, hmram, hbulk⟩ => ⟨twf_tdrop p hregs, hmem, hmram, hbulk⟩⟩

theorem State.Keeps.dropMem {p : Nat → Bool} (h : s.Keeps t) : s.Keeps { t with mem := tdrop t.mem p } :=
  h.trans ⟨rfl, fun ⟨hregs, hmem, hmram, hbulk⟩ => ⟨hregs, twf_tdrop p hmem, hmram, hbulk⟩⟩

theorem State.Keeps.setCell {k : Nat} {b : Byte} (h : s.Keeps t) : s.Keeps { t with mem := tset 0#8 t.mem k b } :=
  h.trans ⟨rfl, fun ⟨hregs, hmem, hmram, hbulk⟩ => ⟨hregs, twf_tset k b hmem, hmram, hbulk⟩⟩


/-! ### Ops -/

theorem State.Keeps.setF {d off f x} (h : s.Keeps t) : s.Keeps (t.setF d off f x) := h.wr

theorem State.Keeps.addSat {d off f n} (h : s.Keeps t) : s.Keeps (t.addSat d off f n) := h.setF

theorem State.Keeps.incWrap {d off f} (h : s.Keeps t) : s.Keeps (t.incWrap d off f) := h.setF

theorem State.Keeps.setBoth {off f x} (h : s.Keeps t) : s.Keeps (t.setBoth off f x) := h.setF.setF

theorem State.Keeps.wr64 {d lo hi x} (h : s.Keeps t) : s.Keeps (t.wr64 d lo hi x) := h.wr.wr

theorem State.Keeps.updVol {d f} (h : s.Keeps t) : s.Keeps (t.updVol d f) := h.same

theorem State.Keeps.updKeep {d f} (h : s.Keeps t) : s.Keeps (t.updKeep d f) := h.same

theorem State.Keeps.updUpd {d f} (h : s.Keeps t) : s.Keeps (t.updUpd d f) := h.updVol

theorem State.Keeps.updCis {f} (h : s.Keeps t) : s.Keeps (t.updCis f) := h.same

theorem State.Keeps.reply {a} (h : s.Keeps t) : s.Keeps (t.reply a) := h.same

theorem State.Keeps.withFree {f} (h : s.Keeps t) (hf : ∀ u x, s.Keeps x → s.Keeps (f u x)) : s.Keeps (t.withFree f) :=
  hf _ _ h.same

theorem State.Keeps.updPw {f} (h : s.Keeps t) : s.Keeps (t.updPw f) := h.updCis

theorem State.Keeps.updLed {f} (h : s.Keeps t) : s.Keeps (t.updLed f) := h.updCis

theorem State.Keeps.latchWake {mask} (h : s.Keeps t) : s.Keeps (t.latchWake mask) := .ite h h.updPw

theorem State.Keeps.plSend {d cls body cipher} (h : s.Keeps t) : s.Keeps (t.plSend d cls body cipher) := .ite h.withLink h

theorem State.Keeps.plNotice {d cls kind arg} (h : s.Keeps t) : s.Keeps (t.plNotice d cls kind arg) := h.plSend

theorem State.Keeps.holdReset {d p} (h : s.Keeps t) : s.Keeps (t.holdReset d p) := .ite h h.setF.updVol

theorem State.Keeps.causeRecord {d off cause req} (h : s.Keeps t) : s.Keeps (t.causeRecord d off cause req) :=
  h.setF.setF.addSat.setF

theorem State.Keeps.causeAgain {d off cause req going} (h : s.Keeps t) : s.Keeps (t.causeAgain d off cause req going) :=
  .ite h h.causeRecord

theorem State.Keeps.putMasked {d a mask l} (h : s.Keeps t) : s.Keeps (t.putMasked d a mask l) :=
  h.foldl (fun _ _ hu => .ite hu.putByte hu)

theorem State.Keeps.dropCopies {d a n} (h : s.Keeps t) : s.Keeps (t.dropCopies d a n) := h.updVol

theorem State.Keeps.dmaPut {d a l} (h : s.Keeps t) : s.Keeps (t.dmaPut d a l) := h.dropCopies.putBytes

theorem State.Keeps.dmaMasked {d a mask l} (h : s.Keeps t) : s.Keeps (t.dmaMasked d a mask l) := h.dropCopies.putMasked

theorem State.Keeps.updSrc {d n f} (h : s.Keeps t) : s.Keeps (t.updSrc d n f) := h.updVol

theorem State.Keeps.fire {d n} (h : s.Keeps t) : s.Keeps (t.fire d n) := h.updSrc

theorem State.Keeps.fireBoth {n} (h : s.Keeps t) : s.Keeps (t.fireBoth n) := by
  unfold State.fireBoth
  extract_lets s0
  have h0 : s.Keeps s0 := .ite h.fire h
  exact .ite h0.fire h0

theorem State.Keeps.sealSummary {d} (h : s.Keeps t) : s.Keeps (t.sealSummary d) := h.putBytes

theorem State.Keeps.recordSev {d src cls sev subj code detail} (h : s.Keeps t) :
    s.Keeps (t.recordSev d src cls sev subj code detail) := by
  unfold State.recordSev
  refine .ite h ?_
  extract_lets det now sumUp s1 supKey quiet i unread bytes s2 s3 s4 s5 k s6 s7
  have h1 : s.Keeps s1 := h.addSat.updVol
  have h2 : s.Keeps s2 := h1.putBytes
  have h3 : s.Keeps s3 := h2.wr
  have h4 : s.Keeps s4 := .ite h3.addSat h3
  have h5 : s.Keeps s5 := .ite h4.updVol h4
  have h6 : s.Keeps s6 := .ite h5.putBytes.putBytes.sealSummary h5
  have h7 : s.Keeps s7 := .ite h6.updCis h6
  exact .ite h1.addSat h7.fire

theorem State.Keeps.record {d src cls subj code detail} (h : s.Keeps t) : s.Keeps (t.record d src cls subj code detail) :=
  h.recordSev

theorem State.Keeps.recordBoth {src cls subj code detail} (h : s.Keeps t) : s.Keeps (t.recordBoth src cls subj code detail) :=
  h.record.record

theorem State.Keeps.recordBothSev {src cls sev subj code detail} (h : s.Keeps t) :
    s.Keeps (t.recordBothSev src cls sev subj code detail) := h.recordSev.recordSev

theorem State.Keeps.setTodoList {d l} (h : s.Keeps t) : s.Keeps (t.setTodoList d l) := h.updVol

theorem State.Keeps.stopNibs {d} (h : s.Keeps t) : s.Keeps (t.stopNibs d) := h.updVol.foldl (fun _ _ hu => hu.setF)

theorem State.Keeps.noStructure {d code} (h : s.Keeps t) : s.Keeps (t.noStructure d code) := h.stopNibs.setF.setF.setF.setTodoList

theorem State.Keeps.recordFails {d r code} (h : s.Keeps t) : s.Keeps (t.recordFails d r code) :=
  .ite h.wr.noStructure (.record (.updVol (.ite h.addSat.wr h.addSat)))

theorem State.Keeps.noteApplied {d r sub} (h : s.Keeps t) : s.Keeps (t.noteApplied d r sub) := h.updVol

theorem State.Keeps.rillArrive {d h'} (h : s.Keeps t) : s.Keeps (t.rillArrive d h') :=
  .ite h.reply (.ite h.incWrap.reply h.incWrap.incWrap.record.reply)

theorem State.Keeps.rillsRun {d} (h : s.Keeps t) : s.Keeps (t.rillsRun d) := h.updVol.foldl (fun _ _ hu => hu.rillArrive)

theorem State.Keeps.clockIslands {d} (h : s.Keeps t) : s.Keeps (t.clockIslands d) := h.setF.rillsRun

theorem State.Keeps.setTodo {d l} (h : s.Keeps t) : s.Keeps (t.setTodo d l) := by
  unfold State.setTodo
  extract_lets s1
  have h1 : s.Keeps s1 := h.setTodoList
  exact .ite h1.clockIslands h1

theorem State.Keeps.goOn {d l} (h : s.Keeps t) : s.Keeps (t.goOn d l) := by
  induction l generalizing t with
  | nil => exact h.setTodo
  | cons r l ih =>
    unfold State.goOn
    extract_lets s1
    have h1 : s.Keeps s1 := .ite h (.ite h.recordFails (.ite h.recordFails h))
    exact .ite h.setTodo (.ite (ih h1) h1)

theorem State.Keeps.judged {d} (h : s.Keeps t) : s.Keeps (t.judged d) := .ite h.goOn h

theorem State.Keeps.applyRec {d r sub dieOnlyOk typ body eff} (h : s.Keeps t) (heff : ∀ u, s.Keeps u → s.Keeps (eff u)) :
    s.Keeps (t.applyRec d r sub dieOnlyOk typ body eff) := by
  unfold State.applyRec
  refine .ite h ?_
  refine .ite h.judged ?_
  refine .ite h.recordFails.judged ?_
  refine .ite h.judged ?_
  split
  · exact h.recordFails.judged
  · exact h.recordFails.judged
  · split
    · exact .ite (.judged (.noteApplied (heff _ h))) h.judged
    · exact .judged (.noteApplied (heff _ h))

theorem State.Keeps.putEntry {d r key f} (h : s.Keeps t) (hf : ∀ u, s.Keeps u → s.Keeps (f u)) : s.Keeps (t.putEntry d r key f) :=
  .ite (.updVol (hf _ h)) h

theorem State.Keeps.afterLast {s' d r kind f} (h : s.Keeps t) (hf : ∀ u, s.Keeps u → s.Keeps (f u)) :
    s.Keeps (t.afterLast s' d r kind f) := .ite (hf _ h) h

theorem State.Keeps.updQsd {d sd f} (h : s.Keeps t) : s.Keeps (t.updQsd d sd f) := h.updVol

theorem State.Keeps.updSd {sd f} (h : s.Keeps t) : s.Keeps (t.updSd sd f) := h.same

theorem State.Keeps.updChan {sd k f} (h : s.Keeps t) : s.Keeps (t.updChan sd k f) := h.updSd

theorem State.Keeps.sendFrame {d sd typ ch data} (h : s.Keeps t) : s.Keeps (t.sendFrame d sd typ ch data) := h.updQsd

theorem State.Keeps.sendCmd {d sd typ ch low} (h : s.Keeps t) : s.Keeps (t.sendCmd d sd typ ch low) := h.updQsd.sendFrame

theorem State.Keeps.showProt {d} (h : s.Keeps t) : s.Keeps (t.showProt d) := h.foldl (fun _ _ hu => hu.setF)

/-! ### EventOps -/

theorem State.Keeps.updCk {d p f} (h : s.Keeps t) : s.Keeps (t.updCk d p f) := h.updVol

theorem State.Keeps.updDux {d x f} (h : s.Keeps t) : s.Keeps (t.updDux d x f) := h.updVol

theorem State.Keeps.setStack {d x part lvl l} (h : s.Keeps t) : s.Keeps (t.setStack d x part lvl l) := h.updVol

theorem State.Keeps.setThr {d x part lvl thr} (h : s.Keeps t) : s.Keeps (t.setThr d x part lvl thr) := h.updVol

theorem State.Keeps.takeSrc {d x n} (h : s.Keeps t) : s.Keeps (t.takeSrc d x n) := .ite h.updSrc (.ite h.updSrc h.updSrc)

theorem State.Keeps.claim {d x lvl} (h : s.Keeps t) : s.Keeps (t.claim d x lvl).2 := by
  unfold State.claim
  extract_lets part st
  split
  · exact .pair h
  · exact .iteSnd (.pair h.setF) (.pair h.setStack.takeSrc.incWrap)

theorem State.Keeps.eoi {d x lvl n} (h : s.Keeps t) : s.Keeps (t.eoi d x lvl n) := by
  unfold State.eoi
  extract_lets part
  split
  · exact h.setF
  · extract_lets key s1
    have h1 : s.Keeps s1 := h.setStack.updSrc
    exact .ite h1 h1.setF

theorem State.Keeps.claimLogged {d x lvl word} (h : s.Keeps t) : s.Keeps (t.claimLogged d x lvl word) :=
  .ite (.ite h.setStack.updSrc (.ite h.setStack.updSrc h.setStack)) h

theorem State.Keeps.shadowClaim {d word} (h : s.Keeps t) : s.Keeps (t.shadowClaim d word) := .ite h.updSrc h

theorem State.Keeps.passEvc {d kind idx v} (h : s.Keeps t) : s.Keeps (t.passEvc d kind idx v) := .ite h.plSend h

theorem State.Keeps.fireMask {d m} (h : s.Keeps t) : s.Keeps (t.fireMask d m) := h.foldl (fun _ _ hu => hu.fire)

theorem State.Keeps.loadSnapshot {d x k} (h : s.Keeps t) : s.Keeps (t.loadSnapshot d x k) :=
  .foldl (h.setStack.setStack.setThr.setThr.foldl (fun _ _ hu => hu.setStack.setThr)) (fun _ _ hu => hu.updSrc)

theorem State.Keeps.handOver {d p} (h : s.Keeps t) : s.Keeps (t.handOver d p) :=
  h.foldl (fun _ _ hu => .ite (.ite hu.addSat hu) (.ite hu.updSrc.addSat hu))

theorem State.Keeps.evcPartReset {d p} (h : s.Keeps t) : s.Keeps (t.evcPartReset d p) :=
  .wr (.wr (.updVol (h.setStack.setThr.foldl (fun _ _ hu => .ite hu hu.updSrc))))

theorem State.Keeps.putRetention {off l} (h : s.Keeps t) : s.Keeps (t.putRetention off l) := h.foldl (fun _ _ hu => hu.wr)

theorem State.Keeps.pendAgain {d n} (h : s.Keeps t) : s.Keeps (t.pendAgain d n) := h.withFree (fun _ _ hu => hu.updSrc)

theorem State.Keeps.evcRestore {d} (h : s.Keeps t) : s.Keeps (t.evcRestore d) := by
  unfold State.evcRestore
  extract_lets b s1 s2 s3
  have h1 : s.Keeps s1 := h.foldl (fun _ _ hu => hu.pendAgain)
  have h2 : s.Keeps s2 := h1.foldl (fun _ _ hu => hu.wr64)
  have h3 : s.Keeps s3 := h2.foldl (fun _ _ hu => hu.setThr.setThr)
  exact .ite (h3.foldl (fun _ _ hu => hu.setThr)) h.setF.recordBoth

theorem State.Keeps.restoreDue {d} (h : s.Keeps t) : s.Keeps (t.restoreDue d) := .ite h.updCis.evcRestore h

/-! ### Guard -/

theorem State.Keeps.guardRefuse {d g a t' k} (h : s.Keeps t) : s.Keeps (t.guardRefuse d g a t' k) :=
  .ite h.addSat h.addSat.wr.wr.setF.setF.setF.setF.setF.setF

theorem State.Keeps.memRefuse {d a t' k} (h : s.Keeps t) : s.Keeps (t.memRefuse d a t' k) := by
  unfold State.memRefuse
  split
  · exact h.guardRefuse
  · exact h

theorem State.Keeps.satCount {d b} (h : s.Keeps t) : s.Keeps (t.satCount d b) := h.addSat.fire

/-! ### Nib -/

theorem State.Keeps.updCl {d c f} (h : s.Keeps t) : s.Keeps (t.updCl d c f) := h.updVol

theorem State.Keeps.updNib {n f} (h : s.Keeps t) : s.Keeps (t.updNib n f) := h.updCl

theorem State.Keeps.nibPut {d c a l} (h : s.Keeps t) : s.Keeps (t.nibPut d c a l) := .ite h.putBytes.putBytes h.putBytes

theorem State.Keeps.nibRecord {n cause epc eaddr halted code} (h : s.Keeps t) :
    s.Keeps (t.nibRecord n cause epc eaddr halted code) := h.recordSev

theorem State.Keeps.nibExcRegs {n cause epc hmode ds} (h : s.Keeps t) : s.Keeps (t.nibExcRegs n cause epc hmode ds) :=
  h.setF.setF.setF.setF.setF.addSat.setF

theorem State.Keeps.nibEcc {n cls mem a} (h : s.Keeps t) : s.Keeps (t.nibEcc n cls mem a) := h.recordBoth

theorem State.Keeps.streamHold {d c src stamp payload err msg} (h : s.Keeps t) :
    s.Keeps (t.streamHold d c src stamp payload err msg) := .ite h.updCl h

theorem State.Keeps.streamIn {d c src stamp payload err} (h : s.Keeps t) : s.Keeps (t.streamIn d c src stamp payload err) :=
  h.streamHold

theorem State.Keeps.streamBoth {c src payload} (h : s.Keeps t) : s.Keeps (t.streamBoth c src payload) := h.streamIn.streamIn

theorem State.Keeps.nibHalt {n cause eaddr ds} (h : s.Keeps t) : s.Keeps (t.nibHalt n cause eaddr ds) := by
  unfold State.nibHalt
  extract_lets x tw same s0 s1 s2 s3 fresh
  have h0 : s.Keeps s0 := h.updNib
  have h1 : s.Keeps s1 := .ite h0.updNib h0
  have h2 : s.Keeps s2 := h1.nibExcRegs
  have h3 : s.Keeps s3 := .ite h2 h2.nibRecord
  exact .ite h3.streamBoth h3

theorem State.Keeps.nibTake {n cause eaddr epc ds mem} (h : s.Keeps t) : s.Keeps (t.nibTake n cause eaddr epc ds mem) := by
  unfold State.nibTake
  extract_lets x s0 s1 s2
  have h0 : s.Keeps s0 := .ite h.nibEcc.updNib h
  have h1 : s.Keeps s1 := h0.updNib
  have h2 : s.Keeps s2 := h1.nibExcRegs
  exact .ite h0.nibHalt (.ite h1 (.ite h2 h2.nibRecord))

theorem State.Keeps.nibRaise {n cause eaddr mem} (h : s.Keeps t) : s.Keeps (t.nibRaise n cause eaddr mem) := by
  unfold State.nibRaise
  extract_lets x inSlot
  refine .ite h.nibTake ?_
  split
  · exact h.nibTake
  · exact h.nibTake
  · exact h.nibTake

theorem State.Keeps.nibFail {n cause eaddr mem} (h : s.Keeps t) : s.Keeps (t.nibFail n cause eaddr mem) := h.updNib.nibRaise

theorem State.Keeps.nibBoundary {n} (h : s.Keeps t) : s.Keeps (t.nibBoundary n) := .ite h.nibTake h

theorem State.Keeps.nibEnd {n old pc slot} (h : s.Keeps t) : s.Keeps (t.nibEnd n old pc slot) := h.updNib.nibBoundary

theorem State.Keeps.nibInstr {n w ecc op k known legal body} (h : s.Keeps t) (hbody : ∀ u, s.Keeps u → s.Keeps (body u).state) :
    s.Keeps (t.nibInstr n w ecc op k known legal body) := by
  unfold State.nibInstr
  extract_lets x s0
  have h0 : s.Keeps s0 := .ite h.nibEcc h
  refine .ite h (.ite h0.nibFail (.ite h0.nibFail ?_))
  split
  · exact h0.nibFail
  have hdo : s.Keeps (body s0).state := hbody s0 h0
  generalize body s0 = r at hdo ⊢
  cases r with
  | raise => exact .ite hdo.nibFail hdo.nibFail
  | done => exact .ite h0.nibFail hdo.nibEnd
  | goto => exact .ite h0.nibFail hdo.nibEnd
  | hold => exact hdo
  | jump _ target =>
    cases target with
    | some a => exact .ite h0.nibFail (.ite h0.nibFail hdo.updNib.nibEnd)
    | none => exact .ite h0.nibFail hdo.nibEnd

theorem State.Keeps.nibSelf {n f} (h : s.Keeps t) : s.Keeps (t.nibSelf n f).state := .done h.updNib

/-! ### NibAlu -/

theorem State.Keeps.nibAlu {n w ecc op cmp f} (h : s.Keeps t) : s.Keeps (t.nibAlu n w ecc op cmp f) :=
  h.nibInstr (fun _ hu => hu.nibSelf)

theorem State.Keeps.nibImm {n w ecc op legal f} (h : s.Keeps t) : s.Keeps (t.nibImm n w ecc op legal f) :=
  h.nibInstr (fun _ hu => hu.nibSelf)

theorem State.Keeps.nibAcc {n w ecc op f rd} (h : s.Keeps t) : s.Keeps (t.nibAcc n w ecc op f rd) :=
  h.nibInstr (fun _ hu => hu.nibSelf)

theorem State.Keeps.nibExtract {n w ecc op acc msb signed} (h : s.Keeps t) :
    s.Keeps (t.nibExtract n w ecc op acc msb signed) := by
  unfold State.nibExtract
  exact h.nibInstr (fun _ hu => hu.nibSelf)

theorem State.Keeps.nibInsert {n w ecc op acc msb} (h : s.Keeps t) : s.Keeps (t.nibInsert n w ecc op acc msb) := by
  unfold State.nibInsert
  exact h.nibInstr (fun _ hu => hu.nibSelf)

theorem execAdd_completes {n w ecc} (h : s.Keeps t) : s.Completes (execAdd n w ecc t) := .next h.nibAlu

theorem execSub_completes {n w ecc} (h : s.Keeps t) : s.Completes (execSub n w ecc t) := .next h.nibAlu

theorem execAnd_completes {n w ecc} (h : s.Keeps t) : s.Completes (execAnd n w ecc t) := .next h.nibAlu

theorem execOr_completes {n w ecc} (h : s.Keeps t) : s.Completes (execOr n w ecc t) := .next h.nibAlu

theorem execXor_completes {n w ecc} (h : s.Keeps t) : s.Completes (execXor n w ecc t) := .next h.nibAlu

theorem execShl_completes {n w ecc} (h : s.Keeps t) : s.Completes (execShl n w ecc t) := .next h.nibAlu

theorem execShr_completes {n w ecc} (h : s.Keeps t) : s.Completes (execShr n w ecc t) := .next h.nibAlu

theorem execSar_completes {n w ecc} (h : s.Keeps t) : s.Completes (execSar n w ecc t) := .next h.nibAlu

theorem execRor_completes {n w ecc} (h : s.Keeps t) : s.Completes (execRor n w ecc t) := .next h.nibAlu

theorem execMul_completes {n w ecc} (h : s.Keeps t) : s.Completes (execMul n w ecc t) := .next h.nibAlu

theorem execMulh_completes {n w ecc} (h : s.Keeps t) : s.Completes (execMulh n w ecc t) := .next h.nibAlu

theorem execMulhu_completes {n w ecc} (h : s.Keeps t) : s.Completes (execMulhu n w ecc t) := .next h.nibAlu

theorem execMin_completes {n w ecc} (h : s.Keeps t) : s.Completes (execMin n w ecc t) := .next h.nibAlu

theorem execMax_completes {n w ecc} (h : s.Keeps t) : s.Completes (execMax n w ecc t) := .next h.nibAlu

theorem execMinu_completes {n w ecc} (h : s.Keeps t) : s.Completes (execMinu n w ecc t) := .next h.nibAlu

theorem execMaxu_completes {n w ecc} (h : s.Keeps t) : s.Completes (execMaxu n w ecc t) := .next h.nibAlu

theorem execAbs_completes {n w ecc} (h : s.Keeps t) : s.Completes (execAbs n w ecc t) :=
  .next (h.nibInstr (fun _ hu => hu.nibSelf))

theorem execClz_completes {n w ecc} (h : s.Keeps t) : s.Completes (execClz n w ecc t) := .next h.nibAlu

theorem execCmp_completes {n w ecc} (h : s.Keeps t) : s.Completes (execCmp n w ecc t) := .next h.nibAlu

theorem execTst_completes {n w ecc} (h : s.Keeps t) : s.Completes (execTst n w ecc t) := .next h.nibAlu

theorem execAddi_completes {n w ecc} (h : s.Keeps t) : s.Completes (execAddi n w ecc t) := .next h.nibImm

theorem execSubi_completes {n w ecc} (h : s.Keeps t) : s.Completes (execSubi n w ecc t) := .next h.nibImm

theorem execAndi_completes {n w ecc} (h : s.Keeps t) : s.Completes (execAndi n w ecc t) := .next h.nibImm

theorem execOri_completes {n w ecc} (h : s.Keeps t) : s.Completes (execOri n w ecc t) := .next h.nibImm

theorem execXori_completes {n w ecc} (h : s.Keeps t) : s.Completes (execXori n w ecc t) := .next h.nibImm

theorem execCmpi_completes {n w ecc} (h : s.Keeps t) : s.Completes (execCmpi n w ecc t) :=
  .next (h.nibInstr (fun _ hu => hu.nibSelf))

theorem execLui_completes {n w ecc} (h : s.Keeps t) : s.Completes (execLui n w ecc t) := .next h.nibImm

theorem execShli_completes {n w ecc} (h : s.Keeps t) : s.Completes (execShli n w ecc t) := .next h.nibImm

theorem execShri_completes {n w ecc} (h : s.Keeps t) : s.Completes (execShri n w ecc t) := .next h.nibImm

theorem execSari_completes {n w ecc} (h : s.Keeps t) : s.Completes (execSari n w ecc t) := .next h.nibImm

theorem execRori_completes {n w ecc} (h : s.Keeps t) : s.Completes (execRori n w ecc t) := .next h.nibImm

theorem execSats_completes {n w ecc} (h : s.Keeps t) : s.Completes (execSats n w ecc t) := .next h.nibImm

theorem execSatu_completes {n w ecc} (h : s.Keeps t) : s.Completes (execSatu n w ecc t) := .next h.nibImm

theorem execRnd_completes {n w ecc} (h : s.Keeps t) : s.Completes (execRnd n w ecc t) := .next h.nibImm

theorem execMac_completes {n w ecc} (h : s.Keeps t) : s.Completes (execMac n w ecc t) := .next h.nibAcc

theorem execMacu_completes {n w ecc} (h : s.Keeps t) : s.Completes (execMacu n w ecc t) := .next h.nibAcc

theorem execMsu_completes {n w ecc} (h : s.Keeps t) : s.Completes (execMsu n w ecc t) := .next h.nibAcc

theorem execMula_completes {n w ecc} (h : s.Keeps t) : s.Completes (execMula n w ecc t) := .next h.nibAcc

theorem execMulau_completes {n w ecc} (h : s.Keeps t) : s.Completes (execMulau n w ecc t) := .next h.nibAcc

theorem execMfal_completes {n w ecc} (h : s.Keeps t) : s.Completes (execMfal n w ecc t) := .next h.nibAcc

theorem execMfah_completes {n w ecc} (h : s.Keeps t) : s.Completes (execMfah n w ecc t) := .next h.nibAcc

theorem execMta_completes {n w ecc} (h : s.Keeps t) : s.Completes (execMta n w ecc t) := .next h.nibAcc

theorem execAclr_completes {n w ecc} (h : s.Keeps t) : s.Completes (execAclr n w ecc t) := .next h.nibAcc

theorem execExt_completes {n w ecc} (h : s.Keeps t) : s.Completes (execExt n w ecc t) := .next h.nibExtract

theorem execExtA_completes {n w ecc} (h : s.Keeps t) : s.Completes (execExtA n w ecc t) := .next h.nibExtract

theorem execExts_completes {n w ecc} (h : s.Keeps t) : s.Completes (execExts n w ecc t) := .next h.nibExtract

theorem execExtsA_completes {n w ecc} (h : s.Keeps t) : s.Completes (execExtsA n w ecc t) := .next h.nibExtract

theorem execExtb_completes {n w ecc} (h : s.Keeps t) : s.Completes (execExtb n w ecc t) := .next h.nibExtract

theorem execExtbA_completes {n w ecc} (h : s.Keeps t) : s.Completes (execExtbA n w ecc t) := .next h.nibExtract

theorem execExtbs_completes {n w ecc} (h : s.Keeps t) : s.Completes (execExtbs n w ecc t) := .next h.nibExtract

theorem execExtbsA_completes {n w ecc} (h : s.Keeps t) : s.Completes (execExtbsA n w ecc t) := .next h.nibExtract

theorem execIns_completes {n w ecc} (h : s.Keeps t) : s.Completes (execIns n w ecc t) := .next h.nibInsert

theorem execInsb_completes {n w ecc} (h : s.Keeps t) : s.Completes (execInsb n w ecc t) := .next h.nibInsert

theorem execInsA_completes {n w ecc} (h : s.Keeps t) : s.Completes (execInsA n w ecc t) := .next h.nibInsert

theorem execInsbA_completes {n w ecc} (h : s.Keeps t) : s.Completes (execInsbA n w ecc t) := .next h.nibInsert

theorem execCrcStep_completes {n w ecc} (h : s.Keeps t) : s.Completes (execCrcStep n w ecc t) :=
  .next (h.nibInstr (fun _ hu => hu.nibSelf))

/-! ### NibFlow -/

theorem State.Keeps.haltDone {d c} (h : s.Keeps t) : s.Keeps (t.haltDone d c) := .ite h h.setF

theorem State.Keeps.nibControl {f n} (h : s.Keeps t) : s.Keeps (State.nibControl f t n) := by
  induction f generalizing t with
  | zero => exact h
  | succ f ih =>
    unfold State.nibControl
    extract_lets x
    split
    · exact .ite h (.ite h.updNib.haltDone (ih h.updNib.updNib))
    · exact h

theorem State.Keeps.meetControl {n} (h : s.Keeps t) : s.Keeps (t.meetControl n) := h.nibControl

theorem execBr_completes {n w ecc} (h : s.Keeps t) : s.Completes (execBr n w ecc t) := .next (h.nibInstr (fun _ hu => .jump hu))

theorem execBal_completes {n w ecc} (h : s.Keeps t) : s.Completes (execBal n w ecc t) :=
  .next (h.nibInstr (fun _ hu => .jump hu.updNib))

theorem execJr_completes {n w ecc} (h : s.Keeps t) : s.Completes (execJr n w ecc t) := .next (h.nibInstr (fun _ hu => .jump hu))

theorem execJalr_completes {n w ecc} (h : s.Keeps t) : s.Completes (execJalr n w ecc t) :=
  .next (h.nibInstr (fun _ hu => .jump hu.updNib))

theorem State.Keeps.nibLoop {n w count} (h : s.Keeps t) : s.Keeps (t.nibLoop n w count).state :=
  .iteDo (.raise h) (.iteDo (.goto h.updNib) (.done h.updNib))

theorem execLoop_completes {n w ecc} (h : s.Keeps t) : s.Completes (execLoop n w ecc t) :=
  .next (h.nibInstr (fun _ hu => hu.nibLoop))

theorem execLoopr_completes {n w ecc} (h : s.Keeps t) : s.Completes (execLoopr n w ecc t) :=
  .next (h.nibInstr (fun _ hu => hu.nibLoop))

theorem execTrap_completes {n w ecc} (h : s.Keeps t) : s.Completes (execTrap n w ecc t) :=
  .next (h.nibInstr (fun _ hu => .raise hu))

theorem execNop_completes {n w ecc} (h : s.Keeps t) : s.Completes (execNop n w ecc t) := .next (h.nibInstr (fun _ hu => .done hu))

theorem execEret_completes {n w ecc} (h : s.Keeps t) : s.Completes (execEret n w ecc t) :=
  .next (h.nibInstr (fun _ hu => .iteDo (.raise hu) (.goto hu.updNib)))

theorem execWait_completes {n w ecc} (h : s.Keeps t) : s.Completes (execWait n w ecc t) := by
  unfold execWait
  refine .next ?_
  refine .nibInstr h (fun _ hu => ?_)
  extract_lets t' x
  have h_t' : s.Keeps t' := hu.meetControl
  refine .iteDo (.hold h_t') ?_
  split
  · exact .hold h_t'.updNib
  · split
    · exact .iteDo (.raise h_t') (.done h_t')
    · exact .done h_t'

theorem execSync_completes {n w ecc} (h : s.Keeps t) : s.Completes (execSync n w ecc t) :=
  .next (h.nibInstr (fun _ hu => .done hu))

theorem execMset_completes {n w ecc} (h : s.Keeps t) : s.Completes (execMset n w ecc t) :=
  .next (h.nibInstr (fun _ hu => hu.nibSelf))

theorem execMfs_completes {n w ecc} (h : s.Keeps t) : s.Completes (execMfs n w ecc t) :=
  .next (h.nibInstr (fun _ hu => .iteDo (.done (hu.withFree (fun _ _ hv => hv.updNib))) hu.nibSelf))

theorem execMts_completes {n w ecc} (h : s.Keeps t) : s.Completes (execMts n w ecc t) :=
  .next (h.nibInstr (fun _ hu => .iteDo (.raise hu) (.iteDo (.raise hu) hu.nibSelf)))

/-! ### Signal -/

theorem State.Keeps.updGw {d f} (h : s.Keeps t) : s.Keeps (t.updGw d f) := h.updVol

theorem State.Keeps.setTag {d e t'} (h : s.Keeps t) : s.Keeps (t.setTag d e t') := h.updGw

theorem State.Keeps.storeShadow {d e v time} (h : s.Keeps t) : s.Keeps (t.storeShadow d e v time) := h.putBytes.setTag

theorem State.Keeps.dropShadow {d e} (h : s.Keeps t) : s.Keeps (t.dropShadow d e) := h.setTag

theorem State.Keeps.descRead {d c e} (h : s.Keeps t) : s.Keeps (t.descRead d c e).2 := by
  unfold State.descRead
  extract_lets x v key
  split
  · exact .pair h.updCl
  · exact .pair h.updCl

theorem State.Keeps.dropLines {d which} (h : s.Keeps t) : s.Keeps (t.dropLines d which) := h.foldl (fun _ _ hu => hu.updCl)

/-! ### NibMem -/

theorem State.Keeps.cacheEcc {n e ecc} (h : s.Keeps t) : s.Keeps (t.cacheEcc n e ecc) := .ite h.nibEcc (.ite h.updCl h)

theorem State.Keeps.storeRepair {d a} (h : s.Keeps t) : s.Keeps (t.storeRepair d a) := h.putBytes.addSat.recordBoth

theorem State.Keeps.storeEcc {n a ecc} (h : s.Keeps t) : s.KeepsSome (t.storeEcc n a ecc) :=
  .ite (.some h.addSat) (.ite (.some h) (.ite (.some h.storeRepair) .none))

theorem State.Keeps.dataEcc {n a ecc} (h : s.Keeps t) : s.KeepsSome (t.dataEcc n a ecc) :=
  .ite (.some h) (.ite (.ite (.some h.cacheEcc) h.storeEcc) (.ite (.some h.nibEcc) (.ite .none (.some h))))

theorem State.Keeps.nibLoad {n a size} (h : s.Keeps t) : s.Keeps (t.nibLoad n a size).2 := by
  unfold State.nibLoad
  extract_lets x o e r
  refine .iteSnd (.pair h) ?_
  refine .iteSnd (.iteSnd (.pair h) (.pair h.guardRefuse)) ?_
  refine .iteSnd (.iteSnd (.pair h.descRead) (.pair h.guardRefuse)) ?_
  split
  · exact .pair h
  · exact .pair h

theorem State.Keeps.linkPort {n sd v} (h : s.Keeps t) : s.KeepsSome (t.linkPort n sd v) :=
  .ite (.some (.ite h.sendCmd h)) .none

theorem State.Keeps.nibStore {n a size v} (h : s.Keeps t) : s.Keeps (t.nibStore n a size v).2 :=
  .iteSnd h (.iteSnd (.iteSnd h h.guardRefuse) (.iteSnd h (.iteSnd h h)))

theorem State.Keeps.nibStore_fst {n a size v} (h : s.Keeps t) : s.KeepsSome (t.nibStore n a size v).1 := by
  unfold State.nibStore
  split
  · exact .some h.nibPut
  split
  · dsimp only
    split
    · exact .some h.nibPut
    · exact .none
  split
  · exact .some h.updNib
  split
  · exact h.linkPort
  · exact .none

theorem State.Keeps.nibLd {n w ecc maj size} (h : s.Keeps t) : s.Keeps (t.nibLd n w ecc maj size) := by
  refine .nibInstr h (fun _ hu => .iteDo hu.raise ?_)
  split
  · exact .raise (hu.nibLoad.ofSnd (by assumption))
  have hload := hu.nibLoad.ofSnd (by assumption)
  split
  · exact hload.raise
  have hecc := hu.dataEcc _ (by assumption)
  split
  · exact .raise (hecc.nibLoad.ofSnd (by assumption))
  · exact .done (.updNib (hecc.nibLoad.ofSnd (by assumption)))

theorem State.Keeps.nibSt {n w ecc maj size} (h : s.Keeps t) : s.Keeps (t.nibSt n w ecc maj size) := by
  refine .nibInstr h (fun _ hu => .iteDo hu.raise ?_)
  split
  · exact .raise (hu.nibStore.ofSnd (by assumption))
  · exact .done (hu.nibStore_fst.ofFst (by assumption))

theorem execLdw_completes {n w ecc} (h : s.Keeps t) : s.Completes (execLdw n w ecc t) := .next h.nibLd

theorem execLdh_completes {n w ecc} (h : s.Keeps t) : s.Completes (execLdh n w ecc t) := .next h.nibLd

theorem execLdb_completes {n w ecc} (h : s.Keeps t) : s.Completes (execLdb n w ecc t) := .next h.nibLd

theorem execStw_completes {n w ecc} (h : s.Keeps t) : s.Completes (execStw n w ecc t) := .next h.nibSt

theorem execSth_completes {n w ecc} (h : s.Keeps t) : s.Completes (execSth n w ecc t) := .next h.nibSt

theorem execStb_completes {n w ecc} (h : s.Keeps t) : s.Completes (execStb n w ecc t) := .next h.nibSt

theorem execSnsGet_completes {n w ecc} (h : s.Keeps t) : s.Completes (execSnsGet n w ecc t) :=
  .next (h.nibInstr (fun _ hu => .iteDo hu.nibSelf (.raise hu)))

theorem execTgetL_completes {n w ecc} (h : s.Keeps t) : s.Completes (execTgetL n w ecc t) :=
  .next (h.nibInstr (fun _ hu => hu.nibSelf))

theorem execTgetH_completes {n w ecc} (h : s.Keeps t) : s.Completes (execTgetH n w ecc t) :=
  .next (h.nibInstr (fun _ hu => hu.nibSelf))

theorem State.Keeps.pinLevel {j l} (h : s.Keeps t) : s.Keeps (t.pinLevel j l) := .ite h.setBoth h.setBoth.fireBoth

theorem State.Keeps.settlePin {lane} (h : s.Keeps t) : s.Keeps (t.settlePin lane) := by
  unfold State.settlePin
  extract_lets j s1
  have h1 : s.Keeps s1 := .ite h.updCis h
  exact .ite h h1.pinLevel

theorem State.Keeps.steerPins {t' d} (h : s.Keeps t) : s.Keeps (t.steerPins t' d) := h.foldl (fun _ _ hu => .ite hu hu.updCis)

theorem State.Keeps.updLane {d i f} (h : s.Keeps t) : s.Keeps (t.updLane d i f) := h.updVol

/-! ### Tokens -/

theorem State.Keeps.clearBytes {d a n} (h : s.Keeps t) : s.Keeps (t.clearBytes d a n) := h.dropMem

theorem State.Keeps.loadImage {d c k im} (h : s.Keeps t) : s.Keeps (t.loadImage d c k im) :=
  h.clearBytes.clearBytes.putBytes.putBytes

theorem State.Keeps.dropWires {d c} (h : s.Keeps t) : s.Keeps (t.dropWires d c) := h.updVol

theorem State.Keeps.dropCrcs {c} (h : s.Keeps t) : s.Keeps (t.dropCrcs c) := by
  unfold State.dropCrcs
  exact h.updGw.updGw

theorem State.Keeps.dropCut {d c} (h : s.Keeps t) : s.Keeps (t.dropCut d c) := h.updCl

theorem State.Keeps.clusterReset {d c cause req} (h : s.Keeps t) : s.Keeps (t.clusterReset d c cause req) := by
  unfold State.clusterReset
  extract_lets s0 x s1 s2
  have h0 : s.Keeps s0 := h.causeRecord.dropWires.clearBytes.dropCut.dropCut.dropCrcs
  have h1 : s.Keeps s1 := h0.foldl (fun _ _ hu => .ite hu hu.loadImage)
  have h2 : s.Keeps s2 := h1.updCl
  exact .ite h0.setF h2.setF.setF

theorem State.Keeps.endRejoin {d c} (h : s.Keeps t) : s.Keeps (t.endRejoin d c) :=
  .ite (.ite h.updCl.setF.clusterReset h.updCl.setF) h

theorem State.Keeps.steerAll {d c} (h : s.Keeps t) : s.Keeps (t.steerAll d c) := h.foldl (fun _ _ hu => .ite hu.sendCmd hu)

theorem State.Keeps.arbiterMove {t' d} (h : s.Keeps t) : s.Keeps (t.arbiterMove t' d) := h.setF.incWrap.addSat.setF

theorem State.Keeps.grantAll {d} (h : s.Keeps t) : s.Keeps (t.grantAll d) := h.foldl (fun _ _ hu => .ite hu hu.arbiterMove)

theorem State.Keeps.updFbSel {i f} (h : s.Keeps t) : s.Keeps (t.updFbSel i f) := h.same

theorem State.Keeps.fieldRequest {i sender names count} (h : s.Keeps t) : s.Keeps (t.fieldRequest i sender names count) :=
  .ite h (.ite (.ite h.updFbSel h) (.ite h.updFbSel h))

theorem State.Keeps.steerField {d c} (h : s.Keeps t) : s.Keeps (t.steerField d c) :=
  h.foldl (fun _ _ hu => .ite hu.fieldRequest hu)

theorem State.Keeps.moveToken {t' d} (h : s.Keeps t) : s.Keeps (t.moveToken t' d) := by
  unfold State.moveToken
  refine .ite h ?_
  extract_lets s3 ser s4 s5 s6 s7 was busy s3'
  have h3 : s.Keeps s3 := h.arbiterMove
  have h4 : s.Keeps s4 := h3.setF.setF
  have h5 : s.Keeps s5 := h4.setBoth
  have h6 : s.Keeps s6 := .ite h5.setF h5
  have h7 : s.Keeps s7 := .ite h6.setF h6
  have h3' : s.Keeps s3' := h3.updCis
  exact .ite h7.endRejoin.steerAll.steerField.steerPins.plNotice h3'.setBoth.plNotice

theorem State.Keeps.moveAll {d} (h : s.Keeps t) : s.Keeps (t.moveAll d) := h.foldl (fun _ _ hu => hu.moveToken)

/-! ### Window -/

theorem State.Keeps.imemPut {n i v keep} (h : s.Keeps t) : s.Keeps (t.imemPut n i v keep) := by
  unfold State.imemPut
  extract_lets a old s1 s2
  have h1 : s.Keeps s1 := h.putBytes
  have h2 : s.Keeps s2 := h1.updNib
  exact .ite h2.updCl h2

theorem State.Keeps.imemBoth {n i v} (h : s.Keeps t) : s.Keeps (t.imemBoth n i v) := .ite h.imemPut.imemPut h.imemPut

theorem State.Keeps.windowWrite {d who a mask l} (h : s.Keeps t) : s.Keeps (t.windowWrite d who a mask l) := by
  unfold State.windowWrite
  split
  · exact .ite h.imemPut h
  · exact .ite h.imemBoth h
  · exact .ite h.putMasked h
  · exact h.putMasked
  · exact .ite h.putMasked.putMasked h.putMasked
  · exact h

/-! ### NibStream -/

theorem State.Keeps.nibRestart {n} (h : s.Keeps t) : s.Keeps (t.nibRestart n) := h.putBytes.updNib.recordSev

theorem State.Keeps.meetHalted {n} (h : s.Keeps t) : s.Keeps (t.meetHalted n) := by
  unfold State.meetHalted
  extract_lets x q ahead s1 s2
  have h1 : s.Keeps s1 := h.updNib
  have h2 : s.Keeps s2 := .ite h1.haltDone h1
  exact .ite h2 h2.updNib

theorem State.Keeps.meetNow {n} (h : s.Keeps t) : s.Keeps (t.meetNow n) := by
  unfold State.meetNow
  extract_lets s0 x
  have h0 : s.Keeps s0 := h.updNib
  split
  · exact h0.meetControl
  · exact h0.meetControl
  · exact h0.meetHalted
  · exact h0.meetHalted
  · exact h0.meetHalted
  · exact h0

theorem State.Keeps.deliver {d c h' stamp late mask} (h : s.Keeps t) : s.Keeps (t.deliver d c h' stamp late mask) := by
  unfold State.deliver
  extract_lets all s1 s2 free
  have h1 : s.Keeps s1 := h.foldl (fun _ _ hu => .ite (.ite hu.nibRestart hu.updNib.meetNow) hu.updNib.addSat)
  have h2 : s.Keeps s2 := .ite h1.addSat h1
  exact .ite h2.updGw.updGw h2

theorem State.Keeps.cutOut {d c} (h : s.Keeps t) : s.Keeps (t.cutOut d c) := .ite h.copyRange.copyRange.dropCrcs.updCl h

theorem execEntryRelease_completes {d c receiving} (h : s.Keeps t) : s.Completes (execEntryRelease d c receiving t) := by
  unfold execEntryRelease
  refine .next ?_
  refine .ite h ?_
  extract_lets excl s0 x
  have h0 : s.Keeps s0 := h.updCl
  split
  · exact h0
  · extract_lets mask s1 s2
    have h1 : s.Keeps s1 := h0.updCl
    have h2 : s.Keeps s2 := h1.deliver
    exact .ite h1.cutOut.deliver (.ite h2.incWrap.plSend h2)

theorem execSourceStall_completes {d c src mark} (h : s.Keeps t) : s.Completes (execSourceStall d c src mark t) :=
  .next (.ite h.updCl h)

theorem execStreamEntryArrival_completes {d c src stamp payload err} (h : s.Keeps t) :
    s.Completes (execStreamEntryArrival d c src stamp payload err t) := .next (.ite h.streamIn h)

theorem execClusterTick_completes {d c t' time} (h : s.Keeps t) : s.Completes (execClusterTick d c t' time t) := by
  unfold execClusterTick
  refine .next ?_
  split
  · exact .ite h.streamIn h
  · exact h

theorem execOrderEntry_completes {d c} (h : s.Keeps t) : s.Completes (execOrderEntry d c t) := by
  unfold execOrderEntry
  refine .next ?_
  extract_lets x
  refine .ite h ?_
  split
  · exact h
  · split
    · exact h
    · exact .ite h h.updCl.deliver.incWrap

theorem execOrderEntryUnmatched_completes {d c} (h : s.Keeps t) : s.Completes (execOrderEntryUnmatched d c t) := by
  unfold execOrderEntryUnmatched
  refine .next ?_
  extract_lets x
  refine .ite h ?_
  split
  · exact h
  · refine .ite h ?_
    extract_lets s1
    have h1 : s.Keeps s1 := h.addSat.recordBoth
    exact .ite h1.updCl h1.clusterReset

theorem execLocalCopyDiscard_completes {d c src seq} (h : s.Keeps t) : s.Completes (execLocalCopyDiscard d c src seq t) :=
  .next (.ite h.updCl.addSat h)

theorem execTwinLag_completes {d c lag} (h : s.Keeps t) : s.Completes (execTwinLag d c lag t) :=
  .next (.ite h.setF.recordBoth.clusterReset h)

theorem State.Keeps.addProtection {d c} (h : s.Keeps t) : s.Keeps (t.addProtection d c) := .ite h.updNib.updCl h

theorem execNibStart_completes {d c} (h : s.Keeps t) : s.Completes (execNibStart d c t) := by
  unfold execNibStart
  refine .next ?_
  refine .ite h ?_
  extract_lets s2 x gated st s3 s4 s5
  have h2 : s.Keeps s2 := h.addProtection
  have h3 : s.Keeps s3 := .ite h2 h2.updCl
  have h4 : s.Keeps s4 := h3.setF.updCl
  have h5 : s.Keeps s5 := h4.restoreDue.setF
  exact .ite h5.goOn h4

theorem execNibWatchdogExpiry_completes {n} (h : s.Keeps t) : s.Completes (execNibWatchdogExpiry n t) :=
  .next (.ite h.updNib.nibBoundary h)

theorem State.Keeps.nbcResult {c r} (h : s.Keeps t) : s.Keeps (t.nbcResult c r) := h.setBoth

theorem State.Keeps.bistAsk {c asked} (h : s.Keeps t) : s.Keeps (t.bistAsk c asked) := h.updCl.updCl

theorem State.Keeps.nbcHalt {c k ok} (h : s.Keeps t) : s.Keeps (t.nbcHalt c k ok) :=
  .ite h.streamBoth.nbcResult.bistAsk h.nbcResult

theorem execNbcHaltNib_completes {d who confirm c k} (h : s.Keeps t) : s.Completes (execNbcHaltNib d who confirm c k t) :=
  .next (.ite h h.nbcHalt)

theorem execNbcHaltAll_completes {d who confirm c} (h : s.Keeps t) : s.Completes (execNbcHaltAll d who confirm c t) :=
  .next (.ite h h.nbcHalt)

theorem State.Keeps.resumeOn {d c p} (h : s.Keeps t) : s.Keeps (t.resumeOn d c p) := h.updCl

theorem execNbcResumeNib_completes {d who confirm c k} (h : s.Keeps t) : s.Completes (execNbcResumeNib d who confirm c k t) :=
  .next (.ite h (.ite h.resumeOn.resumeOn.nbcResult h.nbcResult))

theorem execNbcResumeAll_completes {d who confirm c} (h : s.Keeps t) : s.Completes (execNbcResumeAll d who confirm c t) :=
  .next (.ite h (.ite h.resumeOn.resumeOn.nbcResult h.nbcResult))

theorem execNbcRequestBist_completes {d who confirm c} (h : s.Keeps t) : s.Completes (execNbcRequestBist d who confirm c t) :=
  .next (.ite h h.nbcResult.bistAsk)

theorem execClusterBist_completes {d c failed} (h : s.Keeps t) : s.Completes (execClusterBist d c failed t) := by
  unfold execClusterBist
  refine .next ?_
  refine .ite ?_ h
  extract_lets s1
  have h1 : s.Keeps s1 := h.updCl.clusterReset
  exact .ite h1.nbcResult.bistAsk h1

theorem execImemWrite_completes {who n word v mirror} (h : s.Keeps t) : s.Completes (execImemWrite who n word v mirror t) :=
  .next (.ite h (.ite h.imemBoth h.imemPut))

theorem execReloadComplete_completes {d c} (h : s.Keeps t) : s.Completes (execReloadComplete d c t) :=
  .next (.ite h.streamIn.updCl h)

theorem execRejoinComplete_completes {d c} (h : s.Keeps t) : s.Completes (execRejoinComplete d c t) := .next (.ite h.updCl.setF h)

theorem execSpareSubstitution_completes {d c slot} (h : s.Keeps t) : s.Completes (execSpareSubstitution d c slot t) := by
  unfold execSpareSubstitution
  refine .next ?_
  extract_lets mine serves retire s1
  have hretire : ∀ u, s.Keeps u → s.Keeps (retire u) := fun _ hu => .updCl (.ite hu.setF.setF (.ite hu.setF.setF hu.setF))
  refine .ite h ?_
  clear_value serves
  split
  · exact hretire _ h
  have h1 : s.Keeps s1 := hretire _ (.ite h.moveToken h)
  split
  · exact .clusterReset (.updNib (.recordBoth (.ite h1.setF.setF h1.setF.setF)))
  · exact h1.updNib.recordBoth

theorem State.Keeps.noteLanes {d r} (h : s.Keeps t) : s.Keeps (t.noteLanes d r) := .ite h.updCl h

theorem execClusterRecord_completes {d r} (h : s.Keeps t) : s.Completes (execClusterRecord d r t) :=
  .next (h.noteLanes.applyRec (fun _ hu => .ite hu hu.setF.setF))

theorem State.Keeps.showPatch {d c} (h : s.Keeps t) : s.Keeps (t.showPatch d c) := h.setF

theorem execProgramRecord_completes {d r} (h : s.Keeps t) : s.Completes (execProgramRecord d r t) := by
  unfold execProgramRecord
  refine .next ?_
  refine .applyRec h (fun _ hu => ?_)
  extract_lets b n im
  refine .showPatch ?_
  refine .foldl hu (fun _ _ hv => ?_)
  extract_lets x st1 st2
  have ht1 : s.Keeps st1 := hv.loadImage.updCl
  have ht2 : s.Keeps st2 := ht1.updNib
  exact .ite (.ite ht2.record ht2) hv

theorem execSubscriptionRecord_completes {d r} (h : s.Keeps t) : s.Completes (execSubscriptionRecord d r t) :=
  .next (h.applyRec (fun _ hu => hu.updNib))

theorem execTickRecord_completes {d r} (h : s.Keeps t) : s.Completes (execTickRecord d r t) :=
  .next (h.applyRec (fun _ hu => hu.updCl))

theorem execMailboxRecord_completes {d r} (h : s.Keeps t) : s.Completes (execMailboxRecord d r t) :=
  .next (h.applyRec (fun _ hu => hu.updNib))

/-! ### SwitchOps -/

theorem State.Keeps.updSwc {d f} (h : s.Keeps t) : s.Keeps (t.updSwc d f) := h.updVol

theorem State.Keeps.updMac {d p f} (h : s.Keeps t) : s.Keeps (t.updMac d p f) := h.updVol

theorem State.Keeps.updPort {p f} (h : s.Keeps t) : s.Keeps (t.updPort p f) := h.withPorts

theorem State.Keeps.macCount {d p i} (h : s.Keeps t) : s.Keeps (t.macCount d p i) := .ite (.setF (.ite h.wr.setF h.wr.setF)) h.wr

theorem State.Keeps.fdbCount {d} (h : s.Keeps t) : s.Keeps (t.fdbCount d) := h.setF.setF

theorem State.Keeps.fdbSet {d i v} (h : s.Keeps t) : s.Keeps (t.fdbSet d i v) := h.updSwc.fdbCount

theorem State.Keeps.fdbBoth {d i v} (h : s.Keeps t) : s.Keeps (t.fdbBoth d i v) := .ite h.fdbSet.fdbSet h.fdbSet

theorem State.Keeps.learn {d port part src vid} (h : s.Keeps t) : s.Keeps (t.learn d port part src vid) := by
  unfold State.learn
  refine .ite h ?_
  extract_lets x
  split
  · exact .ite h h.fdbBoth
  · split
    · exact h.fdbBoth
    · exact h.addSat

theorem State.Keeps.setXoff {d p cc on} (h : s.Keeps t) : s.Keeps (t.setXoff d p cc on) :=
  .ite h (.ite (.ite h.setF.setF h.setF.setF.updMac) h.setF)

theorem State.Keeps.charge {d p cc f} (h : s.Keeps t) : s.Keeps (t.charge d p cc f) := h.updSwc.setF

theorem State.Keeps.keepReserved {d} (h : s.Keeps t) : s.Keeps (t.keepReserved d) := h.charge

theorem State.Keeps.pauseViolation {d p} (h : s.Keeps t) : s.Keeps (t.pauseViolation d p) := by
  unfold State.pauseViolation
  extract_lets s1 now
  have h1 : s.Keeps s1 := h.addSat
  split
  · exact .ite h1 h1.updSwc.record
  · exact h1.updSwc.record

theorem State.Keeps.admitFrame {d p cls len} (h : s.Keeps t) : s.Keeps (t.admitFrame d p cls len).2 :=
  .iteSnd (.iteSnd (.pair h.pauseViolation) (.pair (.ite h.charge.setXoff h.charge))) (.iteSnd (.pair h.addSat) (.pair h.charge))

theorem State.Keeps.freeFrame {d f} (h : s.Keeps t) : s.Keeps (t.freeFrame d f) := by
  unfold State.freeFrame
  extract_lets s1 cc s2
  have h1 : s.Keeps s1 := h.updSwc
  have h2 : s.Keeps s2 := h1.charge
  exact .ite h1.updSwc (.ite h2.setXoff h2)

theorem State.Keeps.unref {d id} (h : s.Keeps t) : s.Keeps (t.unref d id) := by
  unfold State.unref
  split
  · exact h
  · exact .ite h.freeFrame h.updSwc

theorem State.Keeps.dequeue {d key id} (h : s.Keeps t) : s.Keeps (t.dequeue d key id) := h.updSwc.unref

theorem State.Keeps.toFabric {d f} (h : s.Keeps t) : s.Keeps (t.toFabric d f) := h.updSwc

theorem State.Keeps.intake {d f} (h : s.Keeps t) : s.Keeps (t.intake d f) := .ite h.admitFrame.toFabric h.admitFrame

theorem State.Keeps.queueGptp {d p kind q fields follow} (h : s.Keeps t) : s.Keeps (t.queueGptp d p kind q fields follow) :=
  .ite h h.updMac

theorem State.Keeps.nextGptp {d p kind} (h : s.Keeps t) : s.Keeps (t.nextGptp d p kind).2 := .pair (.ite h.updVol.updVol h.updVol)

theorem State.Keeps.gptpArrive {d p stamp l} (h : s.Keeps t) : s.Keeps (t.gptpArrive d p stamp l) :=
  .ite h.addSat (.ite h.queueGptp h)

theorem State.Keeps.forward {d p part stamp len fcs l cls} (h : s.Keeps t) :
    s.Keeps (t.forward d p part stamp len fcs l cls) := by
  unfold State.forward
  extract_lets group acf
  refine .ite h.gptpArrive ?_
  refine .ite (.ite h.addSat h.intake) ?_
  refine .ite h ?_
  split
  · exact h.addSat
  · extract_lets s1 c all dst ports s2
    have h1 : s.Keeps s1 := h.learn
    have h2 : s.Keeps s2 := .ite h1.addSat h1
    exact .ite h2 h2.intake

theorem State.Keeps.badDelivered {d f} (h : s.Keeps t) : s.Keeps (t.badDelivered d f) := .ite h.macCount h

theorem State.Keeps.hostWrite {d part q f} (h : s.Keeps t) : s.Keeps (t.hostWrite d part q f) :=
  .ite h.dmaPut.wr.updSwc.fire.badDelivered h.memRefuse.setF

theorem State.Keeps.sendFeed {d port part ring f} (h : s.Keeps t) : s.Keeps (t.sendFeed d port part ring f) :=
  h.updSwc.incWrap.plSend

theorem State.Keeps.hostTry {d part q n} (h : s.Keeps t) : s.Keeps (t.hostTry d part q n) := by
  induction n generalizing t with
  | zero => exact h
  | succ n ih =>
    unfold State.hostTry
    extract_lets mine
    split
    · exact h
    · exact .ite h (.ite (.ite h h.sendFeed) (ih h.updSwc.hostWrite.dequeue))

theorem State.Keeps.hostMove {d part q} (h : s.Keeps t) : s.Keeps (t.hostMove d part q) := h.hostTry

theorem State.Keeps.toNibs {d f} (h : s.Keeps t) : s.Keeps (t.toNibs d f) := h.badDelivered.foldl (fun _ _ hu => hu.streamIn)

theorem State.Keeps.place {d f} (h : s.Keeps t) : s.Keeps (t.place d f) := by
  unfold State.place
  extract_lets outs bad s0 s1 go rings n s2 push now wake s3 s4
  have h0 : s.Keeps s0 := .ite h.toNibs h
  have h1 : s.Keeps s1 := h0.foldl (fun _ _ hu => hu.addSat)
  have h2 : s.Keeps s2 := h1.updSwc
  have h3 : s.Keeps s3 := h2.foldl (fun _ _ hu => .updSwc (.ite hu.updSwc hu))
  have h4 : s.Keeps s4 := h3.foldl (fun _ _ hu => hu.updSwc)
  exact .ite h1.freeFrame (h4.foldl (fun _ _ hu => hu.hostMove))

theorem State.Keeps.creditBack {d c k box} (h : s.Keeps t) : s.Keeps (t.creditBack d c k box) := h.streamIn

theorem State.Keeps.takeNibItems {d n} (h : s.Keeps t) : s.Keeps (t.takeNibItems d n) := by
  induction n generalizing t with
  | zero => exact h
  | succ n ih =>
    unfold State.takeNibItems
    split
    · exact h
    · extract_lets drop
      split
      · exact ih h.updVol.creditBack.addSat
      · exact .ite h (ih h.updVol.creditBack.intake)

/-! ### FieldOps -/

theorem State.Keeps.updFb {d i f} (h : s.Keeps t) : s.Keeps (t.updFb d i f) := h.updVol

theorem State.Keeps.setAlive {off f x} (h : s.Keeps t) : s.Keeps (t.setAlive off f x) := by
  unfold State.setAlive
  extract_lets s0
  have h0 : s.Keeps s0 := .ite h.setF h
  exact .ite h0.setF h0

theorem State.Keeps.fbDrop {d i} (h : s.Keeps t) : s.Keeps (t.fbDrop d i) := h.addSat.setF

theorem State.Keeps.fbCredit {d credit} (h : s.Keeps t) : s.Keeps (t.fbCredit d credit) := by
  unfold State.fbCredit
  split
  · exact h.creditBack
  · exact h

theorem State.Keeps.fbRestart {d i} (h : s.Keeps t) : s.Keeps (t.fbRestart d i) := h.updFb.foldl (fun _ _ hu => hu.fbCredit)

theorem State.Keeps.nthMiss {d key n} (h : s.Keeps t) : s.Keeps (t.nthMiss d key n).2 := .pair h.updVol

theorem State.Keeps.fbMismatch {d i} (h : s.Keeps t) : s.Keeps (t.fbMismatch d i) :=
  .recordBoth (.setF (.addSat (.ite h.nthMiss.fbRestart h.nthMiss)))

theorem State.Keeps.setCan {c st tec re} (h : s.Keeps t) : s.Keeps (t.setCan c st tec re) := h.setAlive.setAlive.setAlive

theorem State.Keeps.canCount {c tec re} (h : s.Keeps t) : s.Keeps (t.canCount c tec re) := .ite h.setCan.setAlive h.setCan

theorem State.Keeps.canResult {c sent good} (h : s.Keeps t) : s.Keeps (t.canResult c sent good) := .ite h.canCount h.canCount

theorem State.Keeps.canQueue {d c f credit} (h : s.Keeps t) : s.Keeps (t.canQueue d c f credit) := by
  unfold State.canQueue
  split
  · exact h.updFb
  · exact .ite h.fbDrop h.updFb

theorem State.Keeps.linWrite {d i ident data} (h : s.Keeps t) : s.Keeps (t.linWrite d i ident data) := h.updFb

theorem State.Keeps.toController {d i} (h : s.Keeps t) : s.Keeps (t.toController d i) := by
  unfold State.toController
  extract_lets t' credit drop f w
  have h_drop : s.Keeps drop := h.fbDrop.fbCredit
  refine .ite ?_ ?_
  · clear_value f
    split
    · exact .ite h.canQueue h_drop
    · exact h_drop
  · refine .ite h_drop ?_
    clear_value w
    split
    · exact h.linWrite.fbCredit
    · exact h_drop

theorem State.Keeps.partItem {d i bytes} (h : s.Keeps t) : s.Keeps (t.partItem d i bytes) := by
  unfold State.partItem
  refine .ite ?_ ?_
  · split
    · exact .ite h.canQueue h.fbDrop
    · exact h.fbDrop
  · split
    · exact .ite h.fbDrop h.linWrite
    · exact h.fbDrop

theorem State.Keeps.fieldToHost {d i part stamp payload} (h : s.Keeps t) : s.Keeps (t.fieldToHost d i part stamp payload) :=
  .ite h.fbDrop h.updSwc.toFabric

theorem State.Keeps.fieldDeliver {d i src stamp act payload err} (h : s.Keeps t) :
    s.Keeps (t.fieldDeliver d i src stamp act payload err) := by
  unfold State.fieldDeliver
  extract_lets ok s1
  have h1 : s.Keeps s1 := .ite (h.foldl (fun _ _ hu => hu.streamIn)) h
  exact .ite h1.fieldToHost h1

theorem State.Keeps.canOwn {d c f} (h : s.Keeps t) : s.Keeps (t.canOwn d c f) := by
  unfold State.canOwn
  extract_lets same s1
  have h1 : s.Keeps s1 := h.addSat
  split
  · extract_lets s2
    have h2 : s.Keeps s2 := h1.updFb.fbCredit
    exact .ite h2 h2.fbMismatch
  · exact h1.fbMismatch

/-! ### Mac -/

theorem State.Keeps.macCounts {d p l} (h : s.Keeps t) : s.Keeps (t.macCounts d p l) := h.foldl (fun _ _ hu => hu.macCount)

theorem State.Keeps.addOctets {d lo hi n} (h : s.Keeps t) : s.Keeps (t.addOctets d lo hi n) := h.wr64

theorem State.Keeps.countSent {d p f} (h : s.Keeps t) : s.Keeps (t.countSent d p f) :=
  .addOctets (.ite h.macCounts.macCount h.macCounts)

theorem State.Keeps.showPause {d p} (h : s.Keeps t) : s.Keeps (t.showPause d p) := h.setF

theorem State.Keeps.pauseClass {d p c quanta} (h : s.Keeps t) : s.Keeps (t.pauseClass d p c quanta) := h.updMac

theorem State.Keeps.pauseAct {d p l} (h : s.Keeps t) : s.Keeps (t.pauseAct d p l) :=
  .showPause (.ite (h.foldl (fun _ _ hu => hu.pauseClass)) (h.foldl (fun _ _ hu => .ite hu.pauseClass hu)))

theorem State.Keeps.dropQueued {d key id off} (h : s.Keeps t) : s.Keeps (t.dropQueued d key id off) := h.dequeue.addSat

theorem State.Keeps.dropPort {d p} (h : s.Keeps t) : s.Keeps (t.dropPort d p) :=
  h.foldl (fun _ _ hu => hu.foldl (fun _ _ hv => hv.dropQueued))

theorem State.Keeps.macDown {d p} (h : s.Keeps t) : s.Keeps (t.macDown d p) :=
  .dropPort (.setF (.updSwc (.setF (.setF (.setF (.wr (.updMac (.ite h.macCount h))))))))

theorem State.Keeps.macVerify {d p} (h : s.Keeps t) : s.Keeps (t.macVerify d p) := h.setF.updMac

theorem State.Keeps.macCmdDone {d p} (h : s.Keeps t) : s.Keeps (t.macCmdDone d p) := .ite h.setF h

theorem State.Keeps.macUp {d p} (h : s.Keeps t) : s.Keeps (t.macUp d p) := h.macVerify.macCmdDone.setF

theorem State.Keeps.onDies {f} (h : s.Keeps t) (hf : ∀ u x, s.Keeps u → s.Keeps (f u x)) : s.Keeps (t.onDies f) := by
  unfold State.onDies
  extract_lets s0
  have h0 : s.Keeps s0 := .ite (hf _ _ h) h
  exact .ite (hf _ _ h0) h0

theorem State.Keeps.linkDown {p} (h : s.Keeps t) : s.Keeps (t.linkDown p) := h.updPort.onDies (fun _ _ hu => hu.macDown)

theorem State.Keeps.finishTx {d p} (h : s.Keeps t) : s.Keeps (t.finishTx d p) := by
  unfold State.finishTx
  extract_lets m
  split
  · exact h
  · exact .showPause (.countSent (.ite h.updMac.updMac h.updMac))

theorem State.Keeps.portSwitch {p d auto} (h : s.Keeps t) : s.Keeps (t.portSwitch p d auto) := by
  unfold State.portSwitch
  exact .onDies (.updPort (.ite h h.setF.setF)) (fun _ _ hu => hu.setF)

theorem State.Keeps.portSteer {p sender names serial} (h : s.Keeps t) : s.Keeps (t.portSteer p sender names serial) :=
  .ite h (.ite (.ite h.updPort.portSwitch h.updPort) h)

theorem State.Keeps.sayAgain {d p bits on} (h : s.Keeps t) : s.Keeps (t.sayAgain d p bits on) := .ite h h.updMac

theorem State.Keeps.portSilent {p} (h : s.Keeps t) : s.Keeps (t.portSilent p) := by
  unfold State.portSilent
  extract_lets d m lost s1 s2 s3
  have h1 : s.Keeps s1 := h.onDies (fun _ _ hu => hu.macCounts)
  have h2 : s.Keeps s2 := h1.updMac.onDies (fun _ _ hu => hu.setF)
  have h3 : s.Keeps s3 := by
    unfold s3
    split
    · exact h2.sayAgain
    · exact h2
  exact h3.portSwitch

theorem State.Keeps.settleCredit {d p c} (h : s.Keeps t) : s.Keeps (t.settleCredit d p c) := .ite h h.updSwc

theorem State.Keeps.dropUnfit {d p c n} (h : s.Keeps t) : s.Keeps (t.dropUnfit d p c n) := by
  induction n generalizing t with
  | zero => exact h
  | succ n ih =>
    unfold State.dropUnfit
    extract_lets key
    split
    · exact h
    · refine .ite (ih h.dropQueued) ?_
      split
      · exact .ite (ih h.dropQueued) h
      · exact h

theorem State.Keeps.takeQueued {d p f} (h : s.Keeps t) : s.Keeps (t.takeQueued d p f) := by
  unfold State.takeQueued
  extract_lets s' slope key t' rate s1
  have h' : s.Keeps s' := h.settleCredit
  have h1 : s.Keeps s1 := .ite h' h'.updSwc
  exact h1.dequeue

theorem State.Keeps.putOnWire {d p f} (h : s.Keeps t) : s.Keeps (t.putOnWire d p f) := h.updMac.reply

theorem State.Keeps.resume {d p} (h : s.Keeps t) : s.Keeps (t.resume d p) := by
  unfold State.resume
  extract_lets m
  split
  · exact h
  · exact .ite h.updMac.macCount.reply h

theorem State.Keeps.startFrame {d p f} (h : s.Keeps t) : s.Keeps (t.startFrame d p f) := h.takeQueued.putOnWire

theorem State.Keeps.shadowMis {d p} (h : s.Keeps t) : s.Keeps (t.shadowMis d p) := h.macCount.setF.recordBoth

theorem State.Keeps.dequeued {d p f} (h : s.Keeps t) : s.Keeps (t.dequeued d p f) :=
  .ite h.updMac.countSent (.ite h.updMac h.updMac.shadowMis)

theorem State.Keeps.sendUnit {d p f} (h : s.Keeps t) : s.Keeps (t.sendUnit d p f) := by
  unfold State.sendUnit
  extract_lets s1 s2
  have h1 : s.Keeps s1 := h.putOnWire
  have h2 : s.Keeps s2 := .ite h1.plNotice.dequeued h1
  split
  · exact h2
  · exact h2.updMac

theorem State.Keeps.preparePort {d p} (h : s.Keeps t) : s.Keeps (t.preparePort d p) :=
  h.foldl (fun _ _ hu => hu.dropUnfit.settleCredit)

theorem State.Keeps.selectFrame {d p} (h : s.Keeps t) : s.Keeps (t.selectFrame d p) := by
  unfold State.selectFrame
  refine .ite h.resume ?_
  extract_lets s1
  have h1 : s.Keeps s1 := h.preparePort
  split
  · exact h1.resume
  · exact .ite h1.sendFeed h1.startFrame

theorem State.Keeps.macSend {d p} (h : s.Keeps t) : s.Keeps (t.macSend d p) := by
  unfold State.macSend
  extract_lets m
  split
  · exact h.updMac.putOnWire
  · exact h.putOnWire
  · exact h.updMac.sendUnit
  · split
    · exact h.selectFrame
    · extract_lets s1
      have h1 : s.Keeps s1 := h.updSwc
      split
      · exact h1
      · exact .ite h h1.startFrame

theorem State.Keeps.leaveLpi {d p} (h : s.Keeps t) : s.Keeps (t.leaveLpi d p) := h.setF.updMac

theorem State.Keeps.preempt {d p n} (h : s.Keeps t) : s.Keeps (t.preempt d p n) := h.updMac.showPause

theorem State.Keeps.echoFrags {d p len fcs} (h : s.Keeps t) : s.Keeps (t.echoFrags d p len fcs) := by
  unfold State.echoFrags
  split
  · exact h.updMac.macCounts
  · exact h

theorem State.Keeps.echo {d p len fcs} (h : s.Keeps t) : s.Keeps (t.echo d p len fcs) := by
  unfold State.echo
  extract_lets s' m same firsts
  have h' : s.Keeps s' := h.echoFrags
  split
  · exact h'.updMac.countSent
  · split
    · exact h'.updMac.countSent
    · exact .ite h'.updMac h'.updMac.shadowMis

theorem State.Keeps.feedApply {d e} (h : s.Keeps t) : s.Keeps (t.feedApply d e) := by
  unfold State.feedApply
  extract_lets x q pop ahead s1 s2
  have h_pop : s.Keeps pop := h.updSwc
  have h1 : s.Keeps s1 := h_pop.foldl (fun _ _ hu => hu.dequeue.addSat)
  have h2 : s.Keeps s2 := h1.incWrap.setF
  split
  · exact .ite h2.hostWrite.dequeue h2.dequeue.dequeued
  · exact h_pop.addSat.recordBoth

theorem State.Keeps.feedTake {d} (h : s.Keeps t) : s.Keeps (t.feedTake d) := by
  unfold State.feedTake
  split
  · exact h.feedApply
  · exact h

theorem State.Keeps.feedMeets {d f} (h : s.Keeps t) : s.Keeps (t.feedMeets d f) := h.foldl (fun _ _ hu => .ite hu.feedApply hu)

/-! ### ReadReg -/

theorem State.Keeps.readAs {d who off dux} (h : s.Keeps t) : s.Keeps (t.readAs d who off dux).2 :=
  .iteSnd (.pair h) (.pair (h.foldl (fun _ _ hu => hu.same)))

/-! ### Ethernet -/

theorem State.Keeps.headDefault {d p} (h : s.Keeps t) : s.Keeps (t.headDefault d p) := .ite h h.setF

theorem execPortRecord_completes {d r} (h : s.Keeps t) : s.Completes (execPortRecord d r t) := by
  unfold execPortRecord
  extract_lets b p rate w
  refine .next ?_
  refine .applyRec h (fun _ hu => ?_)
  extract_lets s1 s2 s3 s4 s5 s5' s6
  have h1 : s.Keeps s1 := hu.wr.wr.wr
  have h2 : s.Keeps s2 := h1.wr.wr.wr
  have h3 : s.Keeps s3 := h2.wr.wr.wr
  have h4 : s.Keeps s4 := h3.wr.setF
  have h5 : s.Keeps s5 := .ite h4.setF h4
  have h5' : s.Keeps s5' := .ite h5 h5.setF
  have h6 : s.Keeps s6 := h5'.setF.headDefault
  exact .ite h6.macVerify h6

theorem State.Keeps.coreFrame {d f} (h : s.Keeps t) : s.Keeps (t.coreFrame d f) := .ite h.forward h.intake

theorem State.Keeps.toCore {d f} (h : s.Keeps t) : s.Keeps (t.toCore d f) := .ite h.coreFrame (.ite h.updMac h)

theorem State.Keeps.drainFifos {d} (h : s.Keeps t) : s.Keeps (t.drainFifos d) :=
  .ite h (h.foldl (fun _ _ hu => hu.updMac.foldl (fun _ _ hv => hv.coreFrame)))

theorem State.Keeps.macGood {d p stamp l fcs} (h : s.Keeps t) : s.Keeps (t.macGood d p stamp l fcs) := by
  unfold State.macGood
  extract_lets n s1
  have h1 : s.Keeps s1 := h.macCounts.addOctets
  exact .ite (.ite h1.macCounts.pauseAct h1.macCount) h1.toCore

theorem State.Keeps.macBad {d p stamp l fcs n fcsOk sym reasm} (h : s.Keeps t) :
    s.Keeps (t.macBad d p stamp l fcs n fcsOk sym reasm) := by
  unfold State.macBad
  extract_lets s1 part host nib flags
  have h1 : s.Keeps s1 := h.macCounts.addOctets
  exact .ite h1.toCore h1

theorem State.Keeps.macReceive {d p stamp bytes sym reasm frags} (h : s.Keeps t) :
    s.Keeps (t.macReceive d p stamp bytes sym reasm frags) := .ite h (.ite h.macCounts.macGood h.macCounts.macBad)

theorem execMacFrameReceive_completes {d p bytes sym reasm frags stamp} (h : s.Keeps t) :
    s.Completes (execMacFrameReceive d p bytes sym reasm frags stamp t) := .next h.macReceive

theorem execPauseReceive_completes {d p src pfc enable times stamp} (h : s.Keeps t) :
    s.Completes (execPauseReceive d p src pfc enable times stamp t) := .next h.macReceive

theorem execPauseExpiry_completes {d p cls} (h : s.Keeps t) : s.Completes (execPauseExpiry d p cls t) :=
  .next (.ite h h.updMac.showPause)

theorem execPauseRepeat_completes {d p} (h : s.Keeps t) : s.Completes (execPauseRepeat d p t) := .next (.ite h h.updMac)

theorem execLinkChange_completes {p up sqi} (h : s.Keeps t) : s.Completes (execLinkChange p up sqi t) :=
  .next (.ite h (.ite h (.ite (h.updPort.onDies (fun _ _ hu => hu.macUp)) h.linkDown)))

theorem execPortSteerCommand_completes {p sender names serial} (h : s.Keeps t) :
    s.Completes (execPortSteerCommand p sender names serial t) := .next h.portSteer

theorem execPortSelectorChange_completes {p} (h : s.Keeps t) : s.Completes (execPortSelectorChange p t) := by
  unfold execPortSelectorChange
  extract_lets e
  refine .next ?_
  split
  · exact .ite h h.finishTx.portSwitch
  · exact h

theorem execMacSilent_completes {p} (h : s.Keeps t) : s.Completes (execMacSilent p t) := .next (.ite h h.portSilent)

theorem State.Keeps.macNext {d p} (h : s.Keeps t) : s.Keeps (t.macNext d p) := .ite (.ite h.leaveLpi h) (.ite h h.macSend)

theorem execMacTransmit_completes {d p busy frags} (h : s.Keeps t) : s.Completes (execMacTransmit d p busy frags t) :=
  .next (.ite h (.ite (.ite h.preempt.macNext h) (.takeNibItems (.ite (.ite h.finishTx.macCount h.finishTx) h.finishTx.macNext))))

theorem execTransmitEcho_completes {d p len fcs} (h : s.Keeps t) : s.Completes (execTransmitEcho d p len fcs t) :=
  .next (.ite h h.finishTx.echo)

theorem execEchoTimeout_completes {d p} (h : s.Keeps t) : s.Completes (execEchoTimeout d p t) := by
  unfold execEchoTimeout
  refine .next ?_
  split
  · exact h.updMac.shadowMis
  · exact h

theorem State.Keeps.giveUp {d p f} (h : s.Keeps t) : s.Keeps (t.giveUp d p f) := h.updMac.updMac

theorem execCollision_completes {d p late} (h : s.Keeps t) : s.Completes (execCollision d p late t) := by
  unfold execCollision
  refine .next ?_
  split
  · exact h
  · exact .ite h (.ite h.macCount.giveUp.macCount (.ite h.macCount.giveUp.macCount h.macCount.updMac))

theorem execForcedCollision_completes {d p} (h : s.Keeps t) : s.Completes (execForcedCollision d p t) := by
  unfold execForcedCollision
  refine .next ?_
  refine .ite ?_ h
  extract_lets s1
  have h1 : s.Keeps s1 := h.macCount.updMac
  exact .ite h1.macCount h1

theorem execBeaconLoss_completes {p} (h : s.Keeps t) : s.Completes (execBeaconLoss p t) :=
  .next (h.onDies (fun _ _ hu => .ite hu.finishTx.updMac.setF.macCount.setF hu))

theorem execBeacon_completes {p} (h : s.Keeps t) : s.Completes (execBeacon p t) :=
  .next (h.onDies (fun _ _ hu => .ite hu.finishTx.updMac.setF hu))

theorem execLpiEntry_completes {d p} (h : s.Keeps t) : s.Completes (execLpiEntry d p t) := .next (.ite h.finishTx.setF.macCount h)

theorem execLpiWakeEnd_completes {d p} (h : s.Keeps t) : s.Completes (execLpiWakeEnd d p t) := .next h.updMac

theorem execReceiveLpi_completes {d p enter} (h : s.Keeps t) : s.Completes (execReceiveLpi d p enter t) :=
  .next (.ite h (.ite h.setF.macCount h.setF))

theorem execEeewakeWrite_completes {d who p v} (h : s.Keeps t) : s.Completes (execEeewakeWrite d who p v t) :=
  .next (.ite h.setF h)

theorem execVerifyTimeout_completes {d p answered} (h : s.Keeps t) : s.Completes (execVerifyTimeout d p answered t) := by
  unfold execVerifyTimeout
  refine .next ?_
  split
  · exact h
  · exact .ite h.updMac.setF.macCmdDone (.ite h.updMac h.updMac.setF.macCmdDone)

theorem execMacRetrain_completes {d who p confirm} (h : s.Keeps t) : s.Completes (execMacRetrain d who p confirm t) :=
  .next (.ite (.setF (.ite h.linkDown h)) h)

theorem execMacRepeatVerify_completes {d who p confirm} (h : s.Keeps t) : s.Completes (execMacRepeatVerify d who p confirm t) :=
  .next (.ite (.ite (.setF (h.onDies (fun _ _ hu => .ite hu.updMac.setF hu))) h.setF) h)

/-! ### NibSig -/

theorem State.Keeps.compareItem {n box p crc first} (h : s.Keeps t) : s.Keeps (t.compareItem n box p crc first) := by
  unfold State.compareItem
  extract_lets key
  split
  · exact .ite h.updGw h.updGw.recordBoth
  · exact h.updGw

theorem State.Keeps.inboundPut {n box p bytes time} (h : s.Keeps t) : s.Keeps (t.inboundPut n box p bytes time) := by
  unfold State.inboundPut
  extract_lets d slot idx seq s0 back put
  have h0 : s.Keeps s0 := .ite h.compareItem h
  have hback : ∀ u e, s.Keeps u → s.Keeps (back u e) := fun _ _ hu => .ite hu.creditBack hu
  have hput : ∀ u e, s.Keeps u → s.Keeps (put u e) := fun _ _ hu => .ite hu.dmaPut.wr.fire.updGw hu
  exact .ite h0.creditBack (.ite h0 (.ite (hback _ _ (hback _ _ h0.memRefuse.setF)) (hput _ _ (hput _ _ h0))))

theorem State.Keeps.pduSent {d i time} (h : s.Keeps t) : s.Keeps (t.pduSent d i time) := h.putBytes

theorem State.Keeps.sendItem {n box bytes} (h : s.Keeps t) : s.Keeps (t.sendItem n box bytes) := by
  unfold State.sendItem
  extract_lets x b d put
  refine .ite h.streamHold ?_
  refine .ite h.inboundPut ?_
  refine .ite ?_ (.ite h.toController h.updGw.takeNibItems)
  split
  · exact .ite h.pduSent.toController h.pduSent.updGw.takeNibItems
  · exact h.addSat.creditBack

theorem execMbxPut_completes {n w ecc} (h : s.Keeps t) : s.Completes (execMbxPut n w ecc t) :=
  .next (h.nibInstr (fun _ hu => .iteDo (.raise hu) (.iteDo (.raise hu) (.done hu.updNib.sendItem))))

theorem State.Keeps.msgTaken {d e} (h : s.Keeps t) : s.Keeps (t.msgTaken d e) := by
  unfold State.msgTaken
  split
  · exact h.creditBack
  · exact h

theorem State.Keeps.mbxGet {n rd} (h : s.Keeps t) : s.Keeps (t.mbxGet n rd).state := by
  unfold State.mbxGet
  extract_lets t' x
  have h_t' : s.Keeps t' := h.meetControl
  refine .iteDo (.hold h_t') ?_
  split
  · exact .hold h_t'.updNib
  · exact .done h_t'.updNib.msgTaken

theorem State.Keeps.sigEcc {n a i k ecc} (h : s.Keeps t) : s.KeepsSome (t.sigEcc n a i k ecc) :=
  .ite (.some h.cacheEcc) (.ite (.some h) h.storeEcc)

theorem State.Keeps.nibSig {n w ecc op bound addr k ok body pre} (h : s.Keeps t)
    (hbody : ∀ u i, s.Keeps u → s.Keeps (body u i).state) : s.Keeps (t.nibSig n w ecc op bound addr k ok body pre) := by
  refine .nibInstr h (fun _ hu => .iteDo hu.raise (.iteDo hu.guardRefuse.raise ?_))
  split
  · exact hu.raise
  split
  · exact hu.raise
  have hecc := hu.sigEcc _ (by assumption)
  exact .iteDo hecc.guardRefuse.raise (hbody _ _ hecc)

theorem execDscLdU_completes {n w ecc} (h : s.Keeps t) : s.Completes (execDscLdU n w ecc t) :=
  .next (h.nibSig (fun _ _ hu => .done hu.descRead.updNib))

theorem execDscLdS_completes {n w ecc} (h : s.Keeps t) : s.Completes (execDscLdS n w ecc t) :=
  .next (h.nibSig (fun _ _ hu => .done hu.descRead.updNib))

theorem execDscLdP_completes {n w ecc} (h : s.Keeps t) : s.Completes (execDscLdP n w ecc t) :=
  .next (h.nibSig (fun _ _ hu => hu.nibSelf))

theorem execDscLdF_completes {n w ecc} (h : s.Keeps t) : s.Completes (execDscLdF n w ecc t) :=
  .next (h.nibSig (fun _ _ hu => hu.nibSelf))

theorem execSclI_completes {n w ecc} (h : s.Keeps t) : s.Completes (execSclI n w ecc t) :=
  .next (h.nibSig (fun _ _ hu => .done hu.descRead.updNib))

theorem execSclO_completes {n w ecc} (h : s.Keeps t) : s.Completes (execSclO n w ecc t) :=
  .next (h.nibSig (fun _ _ hu => hu.nibSelf))

theorem execDscStS_completes {n w ecc} (h : s.Keeps t) : s.Completes (execDscStS n w ecc t) :=
  .next (h.nibSig (fun _ _ hu => .done hu.storeShadow))

theorem execDscStX_completes {n w ecc} (h : s.Keeps t) : s.Completes (execDscStX n w ecc t) :=
  .next (h.nibSig (fun _ _ hu => .done hu.dropShadow))

theorem State.Keeps.stageField {n w i v} (h : s.Keeps t) : s.Keeps (t.stageField n w i v).state := .iteDo (.raise h) h.nibSelf

theorem execDscStP_completes {n w ecc} (h : s.Keeps t) : s.Completes (execDscStP n w ecc t) :=
  .next (h.nibSig (fun _ _ hu => hu.stageField))

theorem execDscStO_completes {n w ecc} (h : s.Keeps t) : s.Completes (execDscStO n w ecc t) :=
  .next (h.nibSig (fun _ _ hu => hu.stageField))

/-! ### Gateway -/

theorem State.Keeps.mirrorLate {d r f} (h : s.Keeps t) (hf : ∀ u x, s.Keeps u → s.Keeps (f u x)) : s.Keeps (t.mirrorLate d r f) :=
  .ite h (.ite (.ite (hf _ _ (hf _ _ h)) (hf _ _ h)) (hf _ _ h))

theorem State.Keeps.blockWrite {d r t'} (h : s.Keeps t) : s.Keeps (t.blockWrite d r t') :=
  h.foldl (fun _ _ hu => hu.putEntry (fun _ hv => hv.mirrorLate (fun _ _ hw => .ite hw.putBytes.dropLines hw.putBytes)))

theorem State.Keeps.checkKeys {d} (h : s.Keeps t) : s.Keeps (t.checkKeys d) := by
  unfold State.checkKeys
  split
  · exact h.record
  · exact h

theorem execDescriptorBlockRecord_completes {d r} (h : s.Keeps t) : s.Completes (execDescriptorBlockRecord d r t) :=
  .next (h.applyRec (fun _ hu => hu.blockWrite))

theorem execFanOutBlockRecord_completes {d r} (h : s.Keeps t) : s.Completes (execFanOutBlockRecord d r t) :=
  .next (h.applyRec (fun _ hu => hu.blockWrite))

theorem execPduBlockRecord_completes {d r} (h : s.Keeps t) : s.Completes (execPduBlockRecord d r t) :=
  .next (.afterLast (h.applyRec (fun _ hu => hu.blockWrite)) (fun _ hu => hu.checkKeys))

theorem execGatewayRecord_completes {d r} (h : s.Keeps t) : s.Completes (execGatewayRecord d r t) :=
  .next (h.applyRec (fun _ hu => hu.updCl))

theorem execPartitionMailboxRecord_completes {d r} (h : s.Keeps t) : s.Completes (execPartitionMailboxRecord d r t) :=
  .next (h.applyRec (fun _ hu => hu.wr64.wr64.wr))

theorem execAcfPortRecord_completes {d r} (h : s.Keeps t) : s.Completes (execAcfPortRecord d r t) :=
  .next (h.applyRec (fun _ hu => hu.mirrorLate (fun _ _ hv => hv.wr.wr.wr64.wr)))

theorem execValueTableRecord_completes {d r} (h : s.Keeps t) : s.Completes (execValueTableRecord d r t) :=
  .next (h.applyRec (fun _ hu => hu.foldl (fun _ _ hv => hv.putEntry (fun _ hw => hw.mirrorLate (fun _ _ hx => hx.putBytes)))))

theorem execShadowAgeingPass_completes {d} (h : s.Keeps t) : s.Completes (execShadowAgeingPass d t) := .next (.ite h.updGw h)

theorem execOtailWrite_completes {d who p v} (h : s.Keeps t) : s.Completes (execOtailWrite d who p v t) :=
  .next (.ite h (.ite h.setF h.wr))

theorem execOutboundItem_completes {p} (h : s.Keeps t) : s.Completes (execOutboundItem p t) := by
  unfold execOutboundItem
  refine .next ?_
  extract_lets d i slot a len seq next s1 s1' both age bytes named s2
  have h1 : s.Keeps s1 := h.wr.fire
  have h1' : s.Keeps s1' := .ite h1.wr.fire h1
  have hboth : ∀ f : State → Die → State, (∀ u e, s.Keeps u → s.Keeps (f u e)) → s.Keeps (both s1' f) := by
    intro f hf
    exact .ite (hf _ _ (hf _ _ h1')) (hf _ _ h1')
  clear_value both
  have h2 : s.Keeps s2 := by
    refine hboth _ (fun u e hu => ?_)
    extract_lets v w
    have hw : s.Keeps w := .foldl hu.wr (fun _ _ hv => hv.streamIn)
    exact .ite hw hw.updGw
  refine .ite h (.ite h1'.setF (.ite ?_ h2.plNotice))
  exact hboth _ (fun _ _ hu => hu.addSat)

theorem execIheadWrite_completes {d who p v} (h : s.Keeps t) : s.Completes (execIheadWrite d who p v t) := by
  unfold execIheadWrite
  refine .next (.ite h ?_)
  extract_lets passed items go
  have hgo : ∀ u e, s.Keeps u → s.Keeps (go u e) := fun _ _ hu => .ite hu (hu.wr.updGw.foldl (fun _ _ hv => hv.creditBack))
  exact hgo _ _ (hgo _ _ h)

theorem State.Keeps.ecmdDone {d st partner reason} (h : s.Keeps t) : s.Keeps (t.ecmdDone d st partner reason) := h.setF.setF.setF

theorem execEcmdRead_completes {d who table index} (h : s.Keeps t) : s.Completes (execEcmdRead d who table index t) :=
  .next (.ite h (.ite h.ecmdDone (.ite h.ecmdDone (.ecmdDone (h.foldl (fun _ _ hu => hu.wr))))))

theorem State.Keeps.ecmdPut {d t' i b clear} (h : s.Keeps t) : s.Keeps (t.ecmdPut d t' i b clear) :=
  .ite h.putBytes.dropShadow h.putBytes

theorem State.Keeps.ecmdWrite {d t' i mirror clear} (h : s.Keeps t) : s.Keeps (t.ecmdWrite d t' i mirror clear) :=
  .ite h.ecmdDone (.ite h.ecmdDone (.ite h.ecmdDone (.ite h.ecmdPut.plSend.updVol.ecmdDone h.ecmdPut.ecmdDone)))

theorem execEcmdWrite_completes {d who table index mirror clear} (h : s.Keeps t) :
    s.Completes (execEcmdWrite d who table index mirror clear t) := .next (.ite h h.ecmdWrite)

theorem State.Keeps.invalidate {d which mirror} (h : s.Keeps t) : s.Keeps (t.invalidate d which mirror) := by
  unfold State.invalidate
  extract_lets s1
  have h1 : s.Keeps s1 := h.dropLines.setF
  exact .ite h1.dropLines h1

theorem execInvalidateOne_completes {d who index mirror} (h : s.Keeps t) : s.Completes (execInvalidateOne d who index mirror t) :=
  .next (.ite h.invalidate h)

theorem execInvalidateAll_completes {d who mirror} (h : s.Keeps t) : s.Completes (execInvalidateAll d who mirror t) :=
  .next (.ite h.invalidate h)

theorem execInvalidationComplete_completes {d} (h : s.Keeps t) : s.Completes (execInvalidationComplete d t) :=
  .next (.ite h.setF h)

theorem execGenerationSweep_completes {d c} (h : s.Keeps t) : s.Completes (execGenerationSweep d c t) :=
  .next (.ite h h.updCl.addSat)

theorem execMirrorScrubBlock_completes {table block} (h : s.Keeps t) : s.Completes (execMirrorScrubBlock table block t) := by
  unfold execMirrorScrubBlock
  extract_lets t' per stop s0 width
  have h0 : s.Keeps s0 := h.setBoth.plNotice.plNotice
  refine .next ?_
  refine .ite ?_ ?_
  · exact .ite (.setF (.ite h.setF h)) (.ite h.setF h)
  · exact .ite h (h0.foldl (fun _ _ hu => .ite hu hu.addSat.wr.addSat.wr.recordBoth))

theorem execSignalStoreCopy_completes {d} (h : s.Keeps t) : s.Completes (execSignalStoreCopy d t) :=
  .next (.ite (.wr (.updVol (h.plNotice.copyRange.updGw.foldl (fun _ _ hu => .ite hu.copyRange hu)))) h)

theorem execSignalStoreEccError_completes {d addr corrected} (h : s.Keeps t) :
    s.Completes (execSignalStoreEccError d addr corrected t) := .next (.ite h (.ite h.addSat (.ite h.storeRepair
        h.reply.recordBoth)))

theorem execTidxWrite_completes {d who index} (h : s.Keeps t) : s.Completes (execTidxWrite d who index t) :=
  .next (.ite h.wr.wr.wr64 h)

/-! ### SwitchCore -/

theorem execSwitchRecord_completes {d r} (h : s.Keeps t) : s.Completes (execSwitchRecord d r t) :=
  .next (h.applyRec (fun _ hu => hu.setF))

theorem State.Keeps.putPort {d p pvid dpcp accept learn map xoff xon head cable} (h : s.Keeps t) :
    s.Keeps (t.putPort d p pvid dpcp accept learn map xoff xon head cable) := h.wr.wr.wr.wr

theorem execSwitchPortRecord_completes {d r} (h : s.Keeps t) : s.Completes (execSwitchPortRecord d r t) :=
  .next (h.applyRec (fun _ hu => hu.putPort.foldl (fun _ _ hv => hv.wr)))

theorem State.Keeps.swcDefaults {d} (h : s.Keeps t) : s.Keeps (t.swcDefaults d) := by
  unfold State.swcDefaults
  extract_lets s1
  have h1 : s.Keeps s1 := h.foldl (fun _ _ hu => .ite hu.putPort hu)
  exact .ite h1.setF h1

theorem execVlanBlockRecord_completes {d r} (h : s.Keeps t) : s.Completes (execVlanBlockRecord d r t) :=
  .next (h.applyRec (fun _ hu => hu.mirrorLate (fun _ _ hv => hv.updSwc)))

theorem execStaticEntriesRecord_completes {d r} (h : s.Keeps t) : s.Completes (execStaticEntriesRecord d r t) :=
  .next (h.applyRec (fun _ hu => hu.mirrorLate (fun _ _ hv => hv.updSwc.fdbCount)))

theorem execGateListRecord_completes {d r} (h : s.Keeps t) : s.Completes (execGateListRecord d r t) :=
  .next (h.applyRec (fun _ hu => hu.updSwc))

theorem execHostQueuesRecord_completes {d r} (h : s.Keeps t) : s.Completes (execHostQueuesRecord d r t) :=
  .next (h.applyRec (fun _ hu => hu.setF.foldl (fun _ _ hv => hv.wr.wr.wr)))

theorem execFrameReassembled_completes {d ingress} (h : s.Keeps t) : s.Completes (execFrameReassembled d ingress t) := by
  unfold execFrameReassembled
  refine .next ?_
  split
  · exact h
  · exact .ite h.updSwc.updSwc.place.feedMeets.takeNibItems h.updSwc

theorem State.Keeps.updBuf {d b f} (h : s.Keeps t) : s.Keeps (t.updBuf d b f) := h.updSwc

theorem execBufferSkip_completes {d b testOk} (h : s.Keeps t) : s.Completes (execBufferSkip d b testOk t) :=
  .next (.ite h h.updSwc.updBuf.setF.setF.recordBoth)

theorem execReassemblyTimeout_completes {d ingress} (h : s.Keeps t) : s.Completes (execReassemblyTimeout d ingress t) := by
  unfold execReassemblyTimeout
  refine .next ?_
  split
  · exact h
  · extract_lets due s1
    have h1 : s.Keeps s1 := h.updSwc.freeFrame.addSat
    split
    · exact h
    · exact .ite h h1.recordBoth.takeNibItems

theorem State.Keeps.readmit {d b} (h : s.Keeps t) : s.Keeps (t.readmit d b) := h.updBuf.setF

theorem execBufferReadmit_completes {d b} (h : s.Keeps t) : s.Completes (execBufferReadmit d b t) := .next (.ite h.readmit h)

theorem execFdbAgeingPass_completes {d} (h : s.Keeps t) : s.Completes (execFdbAgeingPass d t) := by
  unfold execFdbAgeingPass
  extract_lets limit pass s1
  have h1 : s.Keeps s1 := h.updSwc.fdbCount
  exact .next (.ite h (.ite h1.updSwc.fdbCount h1))

theorem execTxtailWrite_completes {d who part q v} (h : s.Keeps t) : s.Completes (execTxtailWrite d who part q v t) :=
  .next (.ite h (.ite h.setF (h.onDies (fun _ _ hu => hu.wr))))

theorem State.Keeps.txAdvance {d part q head} (h : s.Keeps t) : s.Keeps (t.txAdvance d part q head) :=
  .ite (.ite (.fire (.wr (.ite h.wr.fire h))) (.ite h.wr.fire h)) (.ite h.wr.fire h)

theorem State.Keeps.hostAdmit {d f} (h : s.Keeps t) : s.Keeps (t.hostAdmit d f) := by
  unfold State.hostAdmit
  extract_lets len
  split
  · exact h.forward
  · exact h.intake
  · exact h.partItem

theorem execHostDescriptorRead_completes {d part q} (h : s.Keeps t) : s.Completes (execHostDescriptorRead d part q t) := by
  unfold execHostDescriptorRead
  extract_lets p geom head t' a b buf len next seq gap f s1
  have h1 : s.Keeps s1 := h.wr.txAdvance.hostAdmit
  refine .next ?_
  refine .ite ?_ ?_
  · exact h
  · refine .ite ?_ ?_
    · exact h.memRefuse.setF.txAdvance
    · exact .ite h.setF.txAdvance (.ite h.addSat.txAdvance (.ite h.memRefuse.setF.txAdvance (.ite h1.charge.plSend h1)))

theorem execPairPortFrame_completes {d} (h : s.Keeps t) : s.Completes (execPairPortFrame d t) := by
  unfold execPairPortFrame
  refine .next ?_
  split
  · exact h
  · exact h.updSwc.charge.wr.txAdvance.hostAdmit

theorem execRxheadWrite_completes {d who part q v} (h : s.Keeps t) : s.Completes (execRxheadWrite d who part q v t) :=
  .next (.ite (h.onDies (fun _ _ hu => hu.wr.hostMove.takeNibItems)) h)

theorem execHostQueueTimeout_completes {d part q} (h : s.Keeps t) : s.Completes (execHostQueueTimeout d part q t) := by
  unfold execHostQueueTimeout
  refine .next ?_
  split
  · exact h
  · exact h.dequeue.addSat.takeNibItems

theorem execGateEntryChange_completes {d p} (h : s.Keeps t) : s.Completes (execGateEntryChange d p t) := by
  unfold execGateEntryChange
  refine .next ?_
  split
  · exact h
  · extract_lets g s1 open_ s2 s3
    have h1 : s.Keeps s1 := h.foldl (fun _ _ hu => hu.settleCredit)
    have h2 : s.Keeps s2 := h1.wr
    have h3 : s.Keeps s3 := h2.updSwc
    exact .ite h3.leaveLpi h3

theorem execFeedEntry_completes {d} (h : s.Keeps t) : s.Completes (execFeedEntry d t) := .next h.feedTake.takeNibItems

theorem State.Keeps.ringStart {d e} (h : s.Keeps t) : s.Keeps (t.ringStart d e) := by
  unfold State.ringStart
  extract_lets s1
  have h1 : s.Keeps s1 := h.updSwc
  split
  · exact h1.hostWrite.dequeue.hostMove
  · exact h1

theorem execFeedAck_completes {d} (h : s.Keeps t) : s.Completes (execFeedAck d t) := by
  unfold execFeedAck
  refine .next ?_
  split
  · exact h
  · exact .ite h.ringStart.takeNibItems (.ite h.updSwc.macNext.takeNibItems h.updSwc)

theorem execShadowFrameDiscard_completes {d p part k} (h : s.Keeps t) : s.Completes (execShadowFrameDiscard d p part k t) := by
  unfold execShadowFrameDiscard
  extract_lets key
  refine .next ?_
  refine .ite h ?_
  split
  · exact h
  · exact h.dequeue.addSat.takeNibItems

theorem State.Keeps.steerPorts {d} (h : s.Keeps t) : s.Keeps (t.steerPorts d) := h.foldl (fun _ _ hu => hu.portSteer)

theorem State.Keeps.drainFeed {d} (h : s.Keeps t) : s.Keeps (t.drainFeed d) := h.foldl (fun _ _ hu => hu.feedTake)

theorem State.Keeps.leaveOut {d e f} (h : s.Keeps t) : s.Keeps (t.leaveOut d e f) := .ite h.updSwc.freeFrame h.updSwc

theorem State.Keeps.coreTakes {d} (h : s.Keeps t) : s.Keeps (t.coreTakes d) := by
  unfold State.coreTakes
  extract_lets s1 left s2 s3 now s4
  have h1 : s.Keeps s1 := h.drainFeed
  have h2 : s.Keeps s2 := by
    refine .foldl h1 (fun _ _ hu => ?_)
    split
    · exact hu.leaveOut
    · exact hu
  have h3 : s.Keeps s3 := by
    refine .foldl h2 (fun _ _ hu => ?_)
    extract_lets lost st1
    have ht1 : s.Keeps st1 := .ite hu.addSat hu
    exact .ite ht1.updMac ht1
  have h4 : s.Keeps s4 := h3.updSwc
  exact h4.withLink.setF

theorem execSwitchCoreFailover_completes {d} (h : s.Keeps t) : s.Completes (execSwitchCoreFailover d t) :=
  .next (.ite h (.coreTakes (.steerPorts (.moveToken (.updSwc (h.foldl (fun _ _ hu => .ite hu.portSilent hu)))))))

theorem execStandbyRestart_completes {d} (h : s.Keeps t) : s.Completes (execStandbyRestart d t) :=
  .next (.ite h (.setF (.foldl (h.updSwc.foldl (fun _ _ hu => hu.wr)) (fun _ _ hu => hu.updMac))))

theorem State.Keeps.flush {d p} (h : s.Keeps t) : s.Keeps (t.flush d p) := h.updSwc.fdbCount

theorem State.Keeps.swcCmd {d who confirm act} (h : s.Keeps t) (hact : ∀ u, s.Keeps u → s.Keeps (act u)) :
    s.Keeps (t.swcCmd d who confirm act) := .ite (hact _ h) h

theorem execFlushAll_completes {d who confirm} (h : s.Keeps t) : s.Completes (execFlushAll d who confirm t) :=
  .next (h.swcCmd (fun _ hu => .setF (hu.onDies (fun _ _ hv => .ite hv.flush hv))))

theorem execFlushPort_completes {d who confirm port} (h : s.Keeps t) : s.Completes (execFlushPort d who confirm port t) :=
  .next (h.swcCmd (fun _ hu => .ite hu.setF (.setF (hu.onDies (fun _ _ hv => .ite hv.flush hv)))))

theorem execReadmitBuffer_completes {d who confirm b} (h : s.Keeps t) : s.Completes (execReadmitBuffer d who confirm b t) :=
  .next (h.swcCmd (fun _ hu => .ite hu.readmit.setF hu.setF))

theorem State.Keeps.setFbuf {d v} (h : s.Keeps t) : s.Keeps (t.setFbuf d v) := h.foldl (fun _ _ hu => hu.wr)

theorem State.Keeps.fres {d state reason index partner} (h : s.Keeps t) : s.Keeps (t.fres d state reason index partner) := h.wr

theorem execFdbReadByKey_completes {d who} (h : s.Keeps t) : s.Completes (execFdbReadByKey d who t) := by
  unfold execFdbReadByKey
  extract_lets v
  refine .next ?_
  refine .ite h ?_
  split
  · exact h.setFbuf.fres
  · exact h.fres

theorem execFdbReadByIndex_completes {d who i} (h : s.Keeps t) : s.Completes (execFdbReadByIndex d who i t) :=
  .next (.ite h h.setFbuf.fres)

theorem State.Keeps.mirrorDo {d mirror f} (h : s.Keeps t) (hf : ∀ u x, s.Keeps u → s.Keeps (f u x)) :
    s.Keeps (t.mirrorDo d mirror f) := .ite (hf _ _ (hf _ _ h)) (hf _ _ h)

theorem execFdbWrite_completes {d who mirror} (h : s.Keeps t) : s.Completes (execFdbWrite d who mirror t) := by
  unfold execFdbWrite
  extract_lets v0 v reach
  refine .next ?_
  refine .ite h ?_
  refine .ite h.fres ?_
  split
  · exact h.fres
  · exact .fres (h.mirrorDo (fun _ _ hu => hu.updSwc.fdbCount))

theorem execFdbDelete_completes {d who mirror} (h : s.Keeps t) : s.Completes (execFdbDelete d who mirror t) := by
  unfold execFdbDelete
  extract_lets v reach
  refine .next ?_
  refine .ite h ?_
  split
  · exact h.fres
  · refine .fres ?_
    refine .mirrorDo h (fun _ _ hu => ?_)
    split
    · exact hu.fdbSet
    · exact hu

theorem execVlanRead_completes {d who vid} (h : s.Keeps t) : s.Completes (execVlanRead d who vid t) :=
  .next (.ite h (.ite h.setF h.wr.wr.setF))

theorem execVlanWrite_completes {d who mirror vid} (h : s.Keeps t) : s.Completes (execVlanWrite d who mirror vid t) :=
  .next (.ite h (.ite h.setF (.setF (h.mirrorDo (fun _ _ hu => hu.updSwc)))))

/-! ### TimeUnit -/

theorem State.Keeps.updTim {d f} (h : s.Keeps t) : s.Keeps (t.updTim d f) := h.updVol

theorem State.Keeps.wrSigned {d off x} (h : s.Keeps t) : s.Keeps (t.wrSigned d off x) := h.wr

theorem execTimeRecord_completes {d r} (h : s.Keeps t) : s.Completes (execTimeRecord d r t) :=
  .next (h.applyRec (fun _ hu => hu.wr.wr.wr))

theorem State.Keeps.timeDefaults {d} (h : s.Keeps t) : s.Keeps (t.timeDefaults d) := .ite h.wr h

theorem execPhasePlanRecord_completes {d r} (h : s.Keeps t) : s.Completes (execPhasePlanRecord d r t) :=
  .next (h.applyRec (fun _ hu => hu.updVol))

theorem execGptpPortRecord_completes {d r} (h : s.Keeps t) : s.Completes (execGptpPortRecord d r t) := by
  unfold execGptpPortRecord
  extract_lets b p st i8 ext stOk twoSlaves g
  refine .next ?_
  refine .applyRec h (fun _ hu => ?_)
  extract_lets s1
  have h1 : s.Keeps s1 := hu.updTim.setF
  exact .ite h1.setF h1

theorem execPulseOutputRecord_completes {d r} (h : s.Keeps t) : s.Completes (execPulseOutputRecord d r t) :=
  .next (h.applyRec (fun _ hu => hu.updTim))

theorem execLanePinRecord_completes {d r} (h : s.Keeps t) : s.Completes (execLanePinRecord d r t) :=
  .next (h.applyRec (fun _ hu => hu.updTim))

theorem State.Keeps.setAdj {d adj} (h : s.Keeps t) : s.Keeps (t.setAdj d adj) := h.updTim.wrSigned

theorem State.Keeps.servo {d theta ns} (h : s.Keeps t) : s.Keeps (t.servo d theta ns) :=
  .ite h.updTim.setAdj.setF (.ite h.updTim.setF h.updTim.setAdj.setF)

theorem State.Keeps.servoState {d theta} (h : s.Keeps t) : s.Keeps (t.servoState d theta) := by
  unfold State.servoState
  extract_lets st good s1
  have h1 : s.Keeps s1 := .updTim (.ite h.setF.setF h)
  exact .ite h1.setF.setF h1

theorem execSyncReceive_completes {d p domain origin corr log stamp} (h : s.Keeps t) :
    s.Completes (execSyncReceive d p domain origin corr log stamp t) := .next (.ite h (.ite h.addSat (.ite h
        h.servoState.wrSigned.updTim.servo)))

theorem State.Keeps.holdover {d} (h : s.Keeps t) : s.Keeps (t.holdover d) := h.updTim.wrSigned.setF

theorem execSyncReceiptTimeout_completes {d} (h : s.Keeps t) : s.Completes (execSyncReceiptTimeout d t) :=
  .next (.ite h.holdover.setF.setF h)

theorem execHoldoverLimit_completes {d} (h : s.Keeps t) : s.Completes (execHoldoverLimit d t) := .next (.ite h.setF.setF h)

theorem State.Keeps.setGm {d id} (h : s.Keeps t) : s.Keeps (t.setGm d id) := .ite h (.ite h.wr.wr.setF h.wr.wr.setF.holdover)

theorem State.Keeps.bmca {d} (h : s.Keeps t) : s.Keeps (t.bmca d) := by
  unfold State.bmca
  refine .ite h ?_
  extract_lets own cap cand best s1 s2 s2'
  have h1 : s.Keeps s1 := h.foldl (fun _ _ hu => .ite hu.setF hu)
  have h2 : s.Keeps s2 := h1.setF.setF
  have h2' : s.Keeps s2' := h2.updTim
  clear_value best
  split
  · exact h1.setF.setF.setGm
  · exact .setF (.wrSigned (.setF (.ite h2'.setGm h2')))

theorem execAnnounceReceive_completes {d p domain gm} (h : s.Keeps t) : s.Completes (execAnnounceReceive d p domain gm t) :=
  .next (.ite h (.ite h.addSat (.ite h (.ite (.ite h.setGm h) (.ite h h.updTim.bmca)))))

theorem execAnnounceReceiptTimeout_completes {d p} (h : s.Keeps t) : s.Completes (execAnnounceReceiptTimeout d p t) :=
  .next (.ite h.updTim.bmca h)

theorem execSignalingReceive_completes {d p domain request sync pdelay ann} (h : s.Keeps t) :
    s.Completes (execSignalingReceive d p domain request sync pdelay ann t) := .next (.ite h (.ite h.addSat (.ite h h.updTim)))

theorem execPdelayExchange_completes {d p delay ratio} (h : s.Keeps t) : s.Completes (execPdelayExchange d p delay ratio t) := by
  unfold execPdelayExchange
  extract_lets put r s1
  have h1 : s.Keeps s1 := h.nextGptp.queueGptp.wr.wr.setF
  exact .next (.ite h (.ite h1.wr.wr.setF h1))

theorem State.Keeps.announce {d p} (h : s.Keeps t) : s.Keeps (t.announce d p) := .ite h h.nextGptp.queueGptp.updTim

theorem execSyncTransmit_completes {d p} (h : s.Keeps t) : s.Completes (execSyncTransmit d p t) :=
  .next (.ite h.nextGptp.queueGptp.announce h)

theorem execStepProposal_completes {d ts} (h : s.Keeps t) : s.Completes (execStepProposal d ts t) := by
  unfold execStepProposal
  extract_lets x soon
  refine .next ?_
  split
  · refine .ite h ?_
    extract_lets put s1
    have h1 : s.Keeps s1 := h.updTim.setF
    exact .ite h1.updTim.setF h1
  · exact h

theorem State.Keeps.gateSeek {d p} (h : s.Keeps t) : s.Keeps (t.gateSeek d p) := .ite h h.wr.updSwc

theorem execStepApply_completes {d} (h : s.Keeps t) : s.Completes (execStepApply d t) := by
  unfold execStepApply
  refine .next ?_
  split
  · exact h
  · refine .ite h ?_
    refine .ite h.updTim.setF ?_
    extract_lets old t' s1 new s2 s2' s3 s4
    have h1 : s.Keeps s1 := h.same
    have h2 : s.Keeps s2 := h1.updTim
    have h2' : s.Keeps s2' := h2.updVol
    have h3 : s.Keeps s3 := h2'.setF.setF.addSat
    have h4 : s.Keeps s4 := h3.addSat
    exact h4.foldl (fun _ _ hu => hu.gateSeek)

theorem State.Keeps.timeFromPartner {d} (h : s.Keeps t) : s.Keeps (t.timeFromPartner d) := h.same.updTim.wr.setF

theorem execDieOffsetExchange_completes {d offset} (h : s.Keeps t) : s.Completes (execDieOffsetExchange d offset t) :=
  .next (.ite h (.ite h.timeFromPartner (.ite (.timeFromPartner (.recordBoth (h.wr.updTim.onDies (fun _ _ hu =>
      hu.updTim.setF)))) h.wr.updTim)))

theorem execRtcSet_completes {d} (h : s.Keeps t) : s.Completes (execRtcSet d t) := .next (.ite h.wr64.updCis h)

theorem execNowRead_completes {d who} (h : s.Keeps t) : s.Completes (execNowRead d who t) := .next h.same.reply

theorem execSnap_completes {d who confirm} (h : s.Keeps t) : s.Completes (execSnap d who confirm t) := .next (.ite h.wr64.wr h)

theorem State.Keeps.updPulse {d k f} (h : s.Keeps t) : s.Keeps (t.updPulse d k f) := h.updTim

theorem execPulseArm_completes {d who k v} (h : s.Keeps t) : s.Completes (execPulseArm d who k v t) :=
  .next (.ite h (.ite h.wr.updPulse.setF h.wr.updPulse.setF))

theorem execPeriodlWrite_completes {d who k v} (h : s.Keeps t) : s.Completes (execPeriodlWrite d who k v t) :=
  .next (.ite h.updPulse h)

theorem State.Keeps.periodHigh {d k v} (h : s.Keeps t) : s.Keeps (t.periodHigh d k v) := by
  unfold State.periodHigh
  split
  · exact h.wr.wr.updPulse
  · exact h.wr

theorem execPulseRise_completes {d k} (h : s.Keeps t) : s.Completes (execPulseRise d k t) := by
  unfold execPulseRise
  extract_lets x after s1 s2
  have h1 : s.Keeps s1 := h.updPulse.fire
  have h2 : s.Keeps s2 := h1.setF
  exact .next (.ite h (.ite h1 (.ite h2.setF.setF h2.setF)))

theorem execPulseFall_completes {d k} (h : s.Keeps t) : s.Completes (execPulseFall d k t) := .next (.ite h h.updPulse.updCis)

theorem execLanePinMismatch_completes {j} (h : s.Keeps t) : s.Completes (execLanePinMismatch j t) :=
  .next (.ite (.recordBoth (h.onDies (fun _ _ hu => hu.addSat))) h)

/-! ### RegWrite -/

theorem State.Keeps.regWrite {d who off v} (h : s.Keeps t) : s.Keeps (t.regWrite d who off v) := by
  unfold State.regWrite
  split
  · exact h
  · refine .ite (.ite h h.wr) ?_
    refine .ite ?_ h
    split
    · exact h.periodHigh
    · exact h.wr

/-! ### CoreOps -/

theorem State.Keeps.updCore {d x b f} (h : s.Keeps t) : s.Keeps (t.updCore d x b f) := h.updDux

theorem State.Keeps.setWfi {d x b v} (h : s.Keeps t) : s.Keeps (t.setWfi d x b v) := h.setF

theorem State.Keeps.settleDeliv {d x} (h : s.Keeps t) : s.Keeps (t.settleDeliv d x) := h.updDux

theorem State.Keeps.easeLag {d x} (h : s.Keeps t) : s.Keeps (t.easeLag d x) := .ite h.setF.setF.updDux h

theorem State.Keeps.logOn {d x typ count body} (h : s.Keeps t) : s.Keeps (t.logOn d x typ count body) := by
  unfold State.logOn
  extract_lets r s1
  have h1 : s.Keeps s1 := h.updDux
  split
  · exact .ite h h1.plSend
  · exact h

theorem State.Keeps.reachDeliv {d x b back} (h : s.Keeps t) : s.Keeps (t.reachDeliv d x b back) :=
  .ite h (.updCore (.updDux (h.foldl (fun _ _ hu => hu.logOn))))

theorem State.Keeps.logIn {d y r} (h : s.Keeps t) : s.Keeps (t.logIn d y r) := .ite h.updDux.shadowClaim h.updDux

theorem State.Keeps.coreWrite {d x b a l} (h : s.Keeps t) : s.Keeps (t.coreWrite d x b a l) := h.updCore.updDux

theorem State.Keeps.showCall {d x p gate} (h : s.Keeps t) : s.Keeps (t.showCall d x p gate) := by
  unfold State.showCall
  extract_lets s1
  have h1 : s.Keeps s1 := h.setF
  split
  · exact h1.wr
  · exact h1.wr

theorem State.Keeps.leaveCall {d x b} (h : s.Keeps t) : s.Keeps (t.leaveCall d x b) := by
  unfold State.leaveCall
  extract_lets s1 due
  have h1 : s.Keeps s1 := h.updCore.reachDeliv
  split
  · exact .ite h1 h1.updDux.showCall
  · exact h1

theorem State.Keeps.abortCore {d x b code} (h : s.Keeps t) : s.Keeps (t.abortCore d x b code) := .ite h h.updCore.leaveCall

theorem State.Keeps.cutRun {d p} (h : s.Keeps t) : s.Keeps (t.cutRun d p) := by
  unfold State.cutRun
  split
  · exact h
  · exact .ite h.wr.updUpd h.updUpd

theorem State.Keeps.retire {d x b regs} (h : s.Keeps t) : s.Keeps (t.retire d x b regs) := by
  unfold State.retire
  extract_lets l s1 c s2
  have h1 : s.Keeps s1 := h.updCore
  have h2 : s.Keeps s2 := by
    unfold s2
    split
    · exact h1.abortCore
    · exact h1.reachDeliv
  exact h2.settleDeliv.easeLag.cutRun

theorem State.Keeps.sealedFaultRecord {d x b cause tval} (h : s.Keeps t) : s.Keeps (t.sealedFaultRecord d x b cause tval) := by
  unfold State.sealedFaultRecord
  split
  · exact .ite h.recordBoth.addSat.logOn h
  · exact h

theorem State.Keeps.trap {d x b cause tval} (h : s.Keeps t) : s.Keeps (t.trap d x b cause tval) :=
  .ite h.sealedFaultRecord.abortCore h.updCore

theorem State.Keeps.insn {d x b f} (h : s.Keeps t) (hf : ∀ u, s.Keeps u → s.Keeps (f u)) : s.Keeps (t.insn d x b f) := by
  unfold State.insn
  extract_lets c
  refine .ite h ?_
  refine .ite h.trap ?_
  refine .ite h.trap ?_
  split
  · exact h.trap
  · exact hf _ h

theorem State.Keeps.replayPop {d x} (h : s.Keeps t) : s.Keeps (t.replayPop d x) := by
  unfold State.replayPop
  split
  · exact h.updDux
  · exact h

theorem State.Keeps.partnerLatch {d who a n} (h : s.Keeps t) : s.Keeps (t.partnerLatch d who a n) := .ite h.readAs h

theorem State.Keeps.readNow {d x t' a n} (h : s.Keeps t) : s.Keeps (t.readNow d x t' a n).2 := by
  unfold State.readNow
  split
  · exact .pair h.readAs
  · exact .pair h.plNotice.plNotice.partnerLatch
  · exact .pair h.same
  · exact .pair h
  · exact .pair h

theorem State.Keeps.present {d x b t'} (h : s.Keeps t) : s.Keeps (t.present d x b t') := h.updCore

theorem State.Keeps.fill {d x b a w} (h : s.Keeps t) : s.Keeps (t.fill d x b a w) := .ite h h.updCore.present

theorem State.Keeps.accessJ {d x b w q a} (h : s.Keeps t) : s.Keeps (t.accessJ d x b w q a) := by
  unfold State.accessJ
  extract_lets s1 c old ok s2
  have h1 : s.Keeps s1 := h.fill.fill
  have h2 : s.Keeps s2 := h1.updCore
  split
  · exact h1.retire
  · exact h1.coreWrite.retire
  · exact h1.coreWrite.retire
  · exact h1.updCore.retire
  · exact .retire (.ite h2.coreWrite h2)

theorem State.Keeps.accessOut {d x b w q a cls} (h : s.Keeps t) : s.Keeps (t.accessOut d x b w q a cls) := by
  unfold State.accessOut
  extract_lets c wait got
  split
  · exact h.present.retire
  · exact .ite h.present.updCore h.readNow.present.retire
  · exact h.present.updCore
  · exact h.present.updCore
  · exact h.present.updCore

/-! ### PartReset -/

theorem State.Keeps.release {d o} (h : s.Keeps t) : s.Keeps (t.release d o) := by
  unfold State.release
  extract_lets t' s1
  have h_t' : s.Keeps t' := h.dmaMasked
  have h1 : s.Keeps s1 := by
    unfold s1
    split
    · exact .ite h_t'.plSend h_t'
    · exact h.regWrite
    · exact h.dmaMasked
    · exact h.dmaMasked
    · exact h.windowWrite
    · exact h
  exact h1.updCk

theorem State.Keeps.releaseHeld {d x p epoch} (h : s.Keeps t) : s.Keeps (t.releaseHeld d x p epoch) :=
  h.updDux.foldl (fun _ _ hu => hu.release)

theorem State.Keeps.releasePrompt {d x} (h : s.Keeps t) : s.Keeps (t.releasePrompt d x) :=
  h.updDux.foldl (fun _ _ hu => hu.release)

theorem State.Keeps.clearHostQueues {d p} (h : s.Keeps t) : s.Keeps (t.clearHostQueues d p) :=
  h.foldl (fun _ _ hu => .wr (.wr (.wr (.wr (hu.foldl (fun _ _ hv => hv.dequeue))))))

theorem State.Keeps.clearMailboxes {d p} (h : s.Keeps t) : s.Keeps (t.clearMailboxes d p) := h.updVol.wr.wr.wr.wr

theorem State.Keeps.setCk {p st} (h : s.Keeps t) : s.Keeps (t.setCk p st) := h.setBoth

theorem State.Keeps.goAlone {d x st} (h : s.Keeps t) : s.Keeps (t.goAlone d x st) := by
  unfold State.goAlone
  extract_lets s1 s2 s3 s4 s5
  have h1 : s.Keeps s1 := h.foldl (fun _ _ hu => .ite hu.setCk hu)
  have h2 : s.Keeps s2 := by
    unfold s2
    split
    · exact h1.releaseHeld
    · exact h1
  have h3 : s.Keeps s3 := h2.updDux
  have h4 : s.Keeps s4 := by
    unfold s4
    split
    · exact h3.updDux
    · exact h3
  have h5 : s.Keeps s5 := .ite h4.setF h4
  exact h5.releasePrompt

theorem State.Keeps.clearEpochs {d p} (h : s.Keeps t) : s.Keeps (t.clearEpochs d p) :=
  h.updCk.updVol.foldl (fun _ _ hu => .ite hu.goAlone hu)

theorem State.Keeps.endCallOf {d x} (h : s.Keeps t) : s.Keeps (t.endCallOf d x) := h.updDux.logOn

theorem State.Keeps.partResetOn {d p} (h : s.Keeps t) : s.Keeps (t.partResetOn d p) := by
  unfold State.partResetOn
  refine .ite h ?_
  extract_lets s1 s2 s3
  have h1 : s.Keeps s1 := h.foldl (fun _ _ hu => hu.endCallOf.addSat)
  have h2 : s.Keeps s2 := h1.clearEpochs.clearHostQueues.clearMailboxes.evcPartReset
  have h3 : s.Keeps s3 := h2.holdReset
  exact .ite h3.fire h3

theorem State.Keeps.partReset {p cause req} (h : s.Keeps t) : s.Keeps (t.partReset p cause req) := by
  unfold State.partReset
  refine .ite h.updCis ?_
  extract_lets s1 forget s2
  have h1 : s.Keeps s1 := h.updCis
  have h2 : s.Keeps s2 := h1.updVol.updVol
  exact .partResetOn (.partResetOn (.ite h2 h2.causeRecord))

theorem State.Keeps.partResetDue {p} (h : s.Keeps t) : s.Keeps (t.partResetDue p) := by
  unfold State.partResetDue
  split
  · exact h
  · exact h.updCis.partReset

/-! ### Egress -/

theorem State.Keeps.faultReset {p} (h : s.Keeps t) : s.Keeps (t.faultReset p) := .partReset (.ite h.setCk h)

theorem State.Keeps.homesFail {d x} (h : s.Keeps t) : s.Keeps (t.homesFail d x) :=
  h.foldl (fun _ _ hu => .ite hu.setCk.updCk hu.faultReset)

theorem State.Keeps.duxFails {d x records} (h : s.Keeps t) (hrecords : ∀ u, s.Keeps u → s.Keeps (records u)) :
    s.Keeps (t.duxFails d x records) := by
  unfold State.duxFails
  extract_lets s1 s2
  have h1 : s.Keeps s1 := h.setF.updDux
  have h2 : s.Keeps s2 := .plNotice (hrecords _ h1)
  split
  · exact h2.homesFail
  · exact h2.goAlone.homesFail
  · exact h2

theorem State.Keeps.failDux {d x kind addr} (h : s.Keeps t) : s.Keeps (t.failDux d x kind addr) := by
  unfold State.failDux
  exact h.addSat.setF.setF.wr.wr.duxFails (fun _ hu => hu.recordBoth)

theorem execStoppedCore_completes {d dux core} (h : s.Keeps t) : s.Completes (execStoppedCore d dux core t) :=
  .next (.ite h.failDux h)

theorem execLagStall_completes {d dux us} (h : s.Keeps t) : s.Completes (execLagStall d dux us t) :=
  .next (.ite h.setF.addSat.setF.updDux h)

theorem execSlowCopy_completes {d dux} (h : s.Keeps t) : s.Completes (execSlowCopy d dux t) := by
  unfold execSlowCopy
  refine .next ?_
  extract_lets x
  split
  · exact .ite h.failDux h
  · exact h

theorem State.Keeps.recordSeq {p seq} (h : s.Keeps t) : s.Keeps (t.recordSeq p seq) := h.updKeep.updKeep

theorem State.Keeps.emit {d x t' prompt} (h : s.Keeps t) : s.Keeps (t.emit d x t' prompt) := by
  unfold State.emit
  extract_lets seq o nxt count s1 s2
  have h1 : s.Keeps s1 := h.updCore.updCore.setBoth
  have h2 : s.Keeps s2 := .ite h1.recordSeq h1
  exact .ite h2.updDux.releasePrompt h2.updDux

theorem State.Keeps.selfWrite {d x off v} (h : s.Keeps t) : s.Keeps (t.selfWrite d x off v) := .ite h.eoi h.setThr.passEvc

theorem State.Keeps.joinedRead {d x t' a n} (h : s.Keeps t) : s.Keeps (t.joinedRead d x t' a n).2 :=
  .iteSnd (.pair h.claim) h.readNow

theorem State.Keeps.atomicPut {d a l} (h : s.Keeps t) : s.Keeps (t.atomicPut d a l) := .ite h.dmaPut.plSend h.dmaPut

theorem State.Keeps.atomicOnce {d x t'} (h : s.Keeps t) : s.Keeps (t.atomicOnce d x t').2 := by
  unfold State.atomicOnce
  refine .iteSnd (.pair h.same) ?_
  extract_lets old both
  split
  · exact .pair h.atomicPut
  · exact .pair h.updCore.updCore
  · exact .iteSnd (.pair h.updCore.updCore.atomicPut) (.pair h.updCore.updCore)

theorem State.Keeps.giveBoth {d x got} (h : s.Keeps t) : s.Keeps (t.giveBoth d x got) := by
  unfold State.giveBoth
  extract_lets one
  have hone : ∀ u b, s.Keeps u → s.Keeps (one u b) := by
    intro u b hu
    unfold one
    extract_lets c
    clear_value c
    split
    · exact hu.retire
    · exact hu
  exact hone _ _ (hone _ _ h)

theorem State.Keeps.replayTake {d x l} (h : s.Keeps t) : s.Keeps (t.replayTake d x l).2 := by
  induction l generalizing t with
  | nil => exact h
  | cons p l ih =>
    unfold State.replayTake
    split
    · exact ih h.replayPop
    · exact h

theorem State.Keeps.joined {d x t'} (h : s.Keeps t) : s.Keeps (t.joined d x t') := by
  unfold State.joined
  extract_lets typ pieces taken got s' off s1 n q
  have h' : s.Keeps s' := h.replayTake
  have h1 : s.Keeps s1 := .ite h'.claimLogged (.ite h'.claimLogged (.ite h'.claimLogged h'))
  split
  · exact h1.giveBoth
  · exact .giveBoth (.foldl (.iteSnd h.atomicOnce h.joinedRead) (fun _ _ hu => hu.logOn))

theorem State.Keeps.forwardPair {d x t'} (h : s.Keeps t) : s.Keeps (t.forwardPair d x t') := by
  unfold State.forwardPair
  extract_lets g
  split
  · exact .ite h.joined h
  · exact h.joined
  · exact .ite h.selfWrite h.emit
  · exact h

theorem State.Keeps.writeBack {d x a} (h : s.Keeps t) : s.Keeps (t.writeBack d x a) :=
  .ite h.updCore.updCore (.ite h (.ite h.updCore.updCore.trap.trap (.ite h.putBytes.updCore.updCore h.failDux)))

theorem execEgressTransaction_completes {d dux line} (h : s.Keeps t) : s.Completes (execEgressTransaction d dux line t) := by
  unfold execEgressTransaction
  refine .next ?_
  extract_lets x
  refine .ite h ?_
  split
  · exact h.writeBack
  · split
    · split
      · exact h.failDux
      · exact h.updCore.updCore.forwardPair
    · exact h

theorem execAgree_completes {d dux core rd rs1} (h : s.Keeps t) : s.Completes (execAgree d dux core rd rs1 t) := by
  unfold execAgree
  refine .next ?_
  extract_lets x
  refine .insn h (fun _ hu => ?_)
  extract_lets v s1 logged n s2
  have h1 : s.Keeps s1 := hu.updCore
  have h2 : s.Keeps s2 := h1.incWrap
  split
  · extract_lets res s3 put s4
    have h3 : s.Keeps s3 := .ite h2 h2.addSat
    have h4 : s.Keeps s4 := h3.retire.retire
    exact .ite h4.replayPop h4.logOn
  · exact h1

theorem State.Keeps.schedule {d x bit on body} (h : s.Keeps t) : s.Keeps (t.schedule d x bit on body) :=
  h.updDux.reachDeliv.reachDeliv.settleDeliv

theorem execEventDelivery_completes {d dux line} (h : s.Keeps t) : s.Completes (execEventDelivery d dux line t) := by
  unfold execEventDelivery
  refine .next ?_
  extract_lets x u bit
  refine .ite h ?_
  split
  · exact .ite h h.schedule
  · exact .ite h.schedule h

/-! ### Duplex -/

theorem execDuplexRecord_completes {d r} (h : s.Keeps t) : s.Completes (execDuplexRecord d r t) :=
  .next (h.applyRec (fun _ hu => hu.wr.setF.setF))

theorem State.Keeps.duxDefaults {d} (h : s.Keeps t) : s.Keeps (t.duxDefaults d) :=
  h.foldl (fun _ _ hu => .ite hu.setF hu.wr.setF.setF)

theorem State.Keeps.putEpochRec {d p b} (h : s.Keeps t) : s.Keeps (t.putEpochRec d p b) := h.wr.wr.wr.wr

theorem State.Keeps.ownSelectors {d p h'} (h : s.Keeps t) : s.Keeps (t.ownSelectors d p h') :=
  h.foldl (fun _ _ hu => .ite hu.updFbSel hu)

theorem execEpochRecord_completes {d r} (h : s.Keeps t) : s.Completes (execEpochRecord d r t) :=
  .next (h.applyRec (fun _ hu => hu.putEpochRec.ownSelectors))

theorem State.Keeps.setEpoch {p n} (h : s.Keeps t) : s.Keeps (t.setEpoch p n) := h.updCk.updCk.setBoth

theorem State.Keeps.setSealed {p n} (h : s.Keeps t) : s.Keeps (t.setSealed p n) := h.updCk.updCk.setBoth

theorem State.Keeps.newEpoch {d x p e} (h : s.Keeps t) : s.Keeps (t.newEpoch d x p e) := by
  unfold State.newEpoch
  extract_lets u q n s1 cut s2 s3 s4 s5
  have h1 : s.Keeps s1 := h.logOn
  have h2 : s.Keeps s2 := h1.updDux
  have h3 : s.Keeps s3 := .ite h2.replayPop h2
  have h4 : s.Keeps s4 := h3.reachDeliv.reachDeliv.settleDeliv
  have h5 : s.Keeps s5 := h4.setEpoch.setF
  exact .ite h5 h5.setEpoch

theorem State.Keeps.splitLine {d a l} (h : s.Keeps t) : s.Keeps (t.splitLine d a l) := .ite h.plSend h

theorem State.Keeps.endEpoch {d x p e} (h : s.Keeps t) : s.Keeps (t.endEpoch d x p e) := by
  unfold State.endEpoch
  extract_lets u j s1 s2 s3 s1'
  have h1 : s.Keeps s1 := h.updDux
  have h2 : s.Keeps s2 := h1.setBoth
  have h3 : s.Keeps s3 := h2.setBoth
  have h1' : s.Keeps s1' := .newEpoch (.releasePrompt (.releaseHeld (h.foldl (fun _ _ hu => hu.splitLine))))
  refine .ite h.failDux ?_
  split
  · exact h.failDux
  · exact .ite (.ite h3.setF.updDux h3.newEpoch) (.ite h1'.updCore.updCore h1')

theorem execEpochEnd_completes {d dux} (h : s.Keeps t) : s.Completes (execEpochEnd d dux t) := by
  unfold execEpochEnd
  refine .next ?_
  extract_lets x u a b e
  split
  · exact h
  · refine .ite h ?_
    split
    · exact .ite h.updDux h
    · exact .ite h.endEpoch h

theorem execJournalSend_completes {d dux} (h : s.Keeps t) : s.Completes (execJournalSend d dux t) := by
  unfold execJournalSend
  refine .next ?_
  extract_lets x
  split
  · exact .ite h.updDux.plSend h
  · exact h

theorem State.Keeps.takeOver {d x j log} (h : s.Keeps t) : s.Keeps (t.takeOver d x j log) := h.updDux.wr

theorem State.Keeps.setHome {ps d x spare st} (h : s.Keeps t) : s.Keeps (t.setHome ps d x spare st) :=
  h.foldl (fun _ _ hu => hu.setBoth.setBoth.setBoth.setCk)

theorem State.Keeps.drivePins {d p} (h : s.Keeps t) : s.Keeps (t.drivePins d p) := h.foldl (fun _ _ hu => .ite hu.pinLevel hu)

theorem State.Keeps.homeMoves {d p} (h : s.Keeps t) : s.Keeps (t.homeMoves d p) :=
  .drivePins (h.updCk.updCk.foldl (fun _ _ hu => .ite hu.fieldRequest hu))

theorem State.Keeps.setRole {d x role serves} (h : s.Keeps t) : s.Keeps (t.setRole d x role serves) := h.setF.setF

theorem State.Keeps.idleDux {d x} (h : s.Keeps t) : s.Keeps (t.idleDux d x) := h.updDux.setF.setF

theorem State.Keeps.stopSheddable {d x} (h : s.Keeps t) : s.Keeps (t.stopSheddable d x) :=
  h.foldl (fun _ _ hu => .ite hu.partReset hu)

theorem State.Keeps.finishSwap {d x y j} (h : s.Keeps t) : s.Keeps (t.finishSwap d x y j) := by
  unfold State.finishSwap
  extract_lets ps s1 s2 s3 s4 s5
  have h1 : s.Keeps s1 := h.stopSheddable.takeOver
  have h2 : s.Keeps s2 := h1.idleDux.setRole.setRole
  have h3 : s.Keeps s3 := h2.setHome
  have h4 : s.Keeps s4 := h3.foldl (fun _ _ hu => hu.updCk.updCk.homeMoves)
  have h5 : s.Keeps s5 := h4.loadSnapshot.setEpoch
  exact h5.updDux.updDux.setBoth

theorem State.Keeps.sealEpoch {d y x j} (h : s.Keeps t) : s.Keeps (t.sealEpoch d y x j) := by
  unfold State.sealEpoch
  extract_lets s1 s2 s3 s4
  have h1 : s.Keeps s1 := h.foldl (fun _ _ hu => hu.dmaPut)
  have h2 : s.Keeps s2 := h1.updDux
  have h3 : s.Keeps s3 := h2.setSealed.updVol
  have h4 : s.Keeps s4 := .ite (h3.foldl (fun _ _ hu => hu.setCk)) h3
  exact h4.plSend

theorem State.Keeps.sealAck {d x j} (h : s.Keeps t) : s.Keeps (t.sealAck d x j) := by
  unfold State.sealAck
  extract_lets u us s1 s2 s3
  have h1 : s.Keeps s1 := h.releaseHeld.updDux
  have h2 : s.Keeps s2 := h1.setBoth
  have h3 : s.Keeps s3 := h2.setBoth
  exact .ite h3.setF h3

theorem execJournalReceive_completes {d dux magic crc} (h : s.Keeps t) : s.Completes (execJournalReceive d dux magic crc t) := by
  unfold execJournalReceive
  refine .next ?_
  extract_lets y u x
  split
  · exact h
  · exact .ite h (.ite (.ite h.sealEpoch.sealAck.finishSwap h.sealEpoch) (.ite h.goAlone.recordBoth h.updDux.updDux))

theorem execSealAck_completes {d dux} (h : s.Keeps t) : s.Completes (execSealAck d dux t) := by
  unfold execSealAck
  refine .next ?_
  extract_lets x
  split
  · exact .ite h.sealAck h
  · exact h

theorem execSealWait_completes {d dux} (h : s.Keeps t) : s.Completes (execSealWait d dux t) := by
  unfold execSealWait
  refine .next ?_
  extract_lets x u
  split
  · exact .ite h.setF.addSat.updDux h
  · exact h

theorem execSpareLagTimeout_completes {d dux} (h : s.Keeps t) : s.Completes (execSpareLagTimeout d dux t) := by
  unfold execSpareLagTimeout
  refine .next ?_
  extract_lets x
  split
  · exact .ite h.goAlone.recordBoth h
  · exact h

theorem execLogAck_completes {d dux pos} (h : s.Keeps t) : s.Completes (execLogAck d dux pos t) := by
  unfold execLogAck
  refine .next ?_
  extract_lets x
  split
  · exact .ite h.updDux.releasePrompt h
  · exact h

theorem execFailover_completes {d dux} (h : s.Keeps t) : s.Completes (execFailover d dux t) := by
  unfold execFailover
  refine .next ?_
  extract_lets y x ps log again counts
  split
  · exact h
  · refine .ite h ?_
    extract_lets s1 s2 s3 s4 s5
    have h1 : s.Keeps s1 := h.foldl (fun _ _ hu => hu.recordBoth)
    have h2 : s.Keeps s2 := h1.stopSheddable.takeOver
    have h3 : s.Keeps s3 := h2.setRole.setRole.setHome
    have h4 : s.Keeps s4 := h3.setBoth.setEpoch
    have h5 : s.Keeps s5 := .ite (h4.foldl (fun _ _ hu => hu.release)) h4
    exact h5.loadSnapshot.updDux

theorem execLogExhausted_completes {d dux} (h : s.Keeps t) : s.Completes (execLogExhausted d dux t) := by
  unfold execLogExhausted
  refine .next ?_
  extract_lets x ps s1
  have h1 : s.Keeps s1 := h.updDux.setF
  split
  · exact .ite h (h1.foldl (fun _ _ hu => hu.setCk.setBoth.setBoth.updCk.homeMoves.handOver.fireBoth.partResetDue))
  · exact h

theorem State.Keeps.homesAlone {d} (h : s.Keeps t) : s.Keeps (t.homesAlone d) := h.foldl (fun _ _ hu => .ite hu.goAlone hu)

theorem State.Keeps.losePartitions {d} (h : s.Keeps t) : s.Keeps (t.losePartitions d) :=
  .homesAlone (h.foldl (fun _ _ hu => hu.foldl (fun _ _ hv => .ite hv.setCk.updCk hv.setCk)))

theorem execSyncPass_completes {d dux} (h : s.Keeps t) : s.Completes (execSyncPass d dux t) := by
  unfold execSyncPass
  refine .next ?_
  extract_lets x ps st s1
  have h1 : s.Keeps s1 := h.plNotice.foldl (fun _ _ hu => hu.dropCopies.copyRange)
  split
  · exact h
  · exact .ite h (h1.updDux.updDux.updDux.foldl (fun _ _ hu => hu.setBoth.setCk.setEpoch.setSealed))

theorem State.Keeps.retireDux {d x} (h : s.Keeps t) : s.Keeps (t.retireDux d x) := h.wr.idleDux.setRole.recordBoth

theorem State.Keeps.giveSpare {d y h'} (h : s.Keeps t) : s.Keeps (t.giveSpare d y h') :=
  h.setRole.foldl (fun _ _ hu => .ite hu hu.setBoth)

theorem State.Keeps.bistDone {d x} (h : s.Keeps t) : s.Keeps (t.bistDone d x) := .ite h.setF.updDux h

theorem execDuplexBist_completes {d dux passed} (h : s.Keeps t) : s.Completes (execDuplexBist d dux passed t) := by
  unfold execDuplexBist
  refine .next ?_
  extract_lets x st s0 day twice home s1 serves lost s1' s2
  have h0 : s.Keeps s0 := h.bistDone.updDux
  have h1 : s.Keeps s1 := h0.idleDux
  have h1' : s.Keeps s1' := by
    unfold s1'
    clear_value lost
    split
    · exact h0.goAlone
    · exact h0
  have h2 : s.Keeps s2 := h1'.stopSheddable.retireDux
  refine .ite h ?_
  refine .ite ?_ ?_
  · refine .ite ?_ h1
    clear_value home
    split
    · exact h1.giveSpare
    · exact h1
  · clear_value lost
    split
    · exact h2.stopSheddable.giveSpare.recordBoth
    · exact .recordBoth (h2.foldl (fun _ _ hu => hu.setBoth))
    · exact h2

theorem State.Keeps.askSwap {d x} (h : s.Keeps t) : s.Keeps (t.askSwap d x) := h.foldl (fun _ _ hu => hu.updCk.updCk)

theorem execBistInterval_completes {d dux} (h : s.Keeps t) : s.Completes (execBistInterval d dux t) :=
  .next (.ite (.ite h.stopSheddable.setF (.ite h.askSwap h)) h)

theorem State.Keeps.ckpResult {r} (h : s.Keeps t) : s.Keeps (t.ckpResult r) := h.setBoth

theorem execCkpRoleSwapPartition_completes {d who confirm p} (h : s.Keeps t) :
    s.Completes (execCkpRoleSwapPartition d who confirm p t) := .next (.ite h (.ite h.askSwap.ckpResult h.ckpResult))

theorem execCkpRoleSwapDie_completes {d who confirm die} (h : s.Keeps t) : s.Completes (execCkpRoleSwapDie d who confirm die t) :=
  .next (.ite h (.ite (.ckpResult (h.foldl (fun _ _ hu => hu.askSwap))) h.ckpResult))

theorem execCkpResync_completes {d who confirm p} (h : s.Keeps t) : s.Completes (execCkpResync d who confirm p t) :=
  .next (.ite h (.ite h.goAlone.setCk.ckpResult h.ckpResult))

theorem execDuxRunBist_completes {d who confirm dux} (h : s.Keeps t) : s.Completes (execDuxRunBist d who confirm dux t) :=
  .next (.ite h (.ite h.setF (.ite (.ite h.askSwap.updDux.setF h.setF) (.ite h.stopSheddable.setF.updDux.setF h.setF))))

theorem execDuxRetire_completes {d who confirm dux} (h : s.Keeps t) : s.Completes (execDuxRetire d who confirm dux t) :=
  .next (.ite h (.ite h.setF (.setF (.retireDux (.stopSheddable (.ite h.goAlone h))))))

/-! ### World -/

theorem State.Keeps.updWld {d f} (h : s.Keeps t) : s.Keeps (t.updWld d f) := h.updVol

theorem State.Keeps.worldEnd {s' d r} (h : s.Keeps t) : s.Keeps (t.worldEnd s' d r) :=
  h.afterLast (fun _ hu => .ite hu hu.recordFails)

theorem execPartitionRecord_completes {d r} (h : s.Keeps t) : s.Completes (execPartitionRecord d r t) :=
  .next (.worldEnd (h.applyRec (fun _ hu => hu.wr.wr64)))

theorem execGateBlockRecord_completes {d r} (h : s.Keeps t) : s.Completes (execGateBlockRecord d r t) :=
  .next (.worldEnd (h.applyRec (fun _ hu => hu.foldl (fun _ _ hv => hv.putEntry (fun _ hw => hw.wr.wr.wr)))))

theorem execAssignmentBlockRecord_completes {d r} (h : s.Keeps t) : s.Completes (execAssignmentBlockRecord d r t) :=
  .next (.worldEnd (h.applyRec (fun _ hu => hu.foldl (fun _ _ hv => hv.putEntry (fun _ hw => hw.wr)))))

theorem execSealedWorldRecord_completes {d r} (h : s.Keeps t) : s.Completes (execSealedWorldRecord d r t) :=
  .next (.worldEnd (h.applyRec (fun _ hu => hu.wr)))

theorem execSealedCodeRecord_completes {d r} (h : s.Keeps t) : s.Completes (execSealedCodeRecord d r t) :=
  .next (.worldEnd (h.applyRec (fun _ hu => hu.updWld.updWld.putBytes)))

theorem State.Keeps.putRegion {d g r w0 w1 w2 w3} (h : s.Keeps t) : s.Keeps (t.putRegion d g r w0 w1 w2 w3) := h.wr.wr.wr.wr

theorem execRegionBlockRecord_completes {d r} (h : s.Keeps t) : s.Completes (execRegionBlockRecord d r t) :=
  .next (.worldEnd (h.applyRec (fun _ hu => hu.foldl (fun _ _ hv => hv.putEntry (fun _ hw => hw.putRegion)))))

theorem State.Keeps.setSealedState {d st} (h : s.Keeps t) : s.Keeps (t.setSealedState d st) := .ite h.setF.fire.plSend h.setF.fire

theorem State.Keeps.endCalls {d} (h : s.Keeps t) : s.Keeps (t.endCalls d) :=
  .ite h (.updVol (h.foldl (fun _ _ hu => hu.endCallOf.addSat)))

theorem State.Keeps.beginRestart {d} (h : s.Keeps t) : s.Keeps (t.beginRestart d) := by
  unfold State.beginRestart
  extract_lets s1 s2
  have h1 : s.Keeps s1 := h.setSealedState
  have h2 : s.Keeps s2 := h1.updWld.endCalls
  exact .ite h2.endCalls h2

theorem execSealedWatchdogExpiry_completes {d dux} (h : s.Keeps t) : s.Completes (execSealedWatchdogExpiry d dux t) := by
  unfold execSealedWatchdogExpiry
  refine .next ?_
  extract_lets x st s1
  have h1 : s.Keeps s1 := h.endCallOf.addSat
  split
  · exact h
  · refine .ite h ?_
    extract_lets s2 s3
    have h2 : s.Keeps s2 := h1.recordBoth.updDux
    have h3 : s.Keeps s3 := h2.setSealedState
    exact .ite h2 (.ite h3.setSealedState (.ite h3.beginRestart h3))

theorem execSealedStateNotice_completes {d} (h : s.Keeps t) : s.Completes (execSealedStateNotice d t) := by
  unfold execSealedStateNotice
  refine .next ?_
  split
  · exact .ite h.updWld.setF.fire h
  · exact h

theorem execWldRestart_completes {d who confirm} (h : s.Keeps t) : s.Completes (execWldRestart d who confirm t) :=
  .next (.ite h (.ite (.ite h.beginRestart.setF h.setSealedState.setF) h.setF))

theorem State.Keeps.zeroRange {d a n} (h : s.Keeps t) : s.Keeps (t.zeroRange d a n) :=
  .ite h.dropCopies.putBytes h.dropCopies.dropMem

theorem State.Keeps.zeroClr {d} (h : s.Keeps t) : s.Keeps (t.zeroClr d) :=
  h.foldl (fun _ _ hu => hu.foldl (fun _ _ hv => .ite (.ite hv.zeroRange.zeroRange hv.zeroRange) hv))

theorem State.Keeps.extendBmr {d block} (h : s.Keeps t) : s.Keeps (t.extendBmr d block) := h.updVol

theorem State.Keeps.reload {d bodies} (h : s.Keeps t) : s.Keeps (t.reload d bodies) := by
  unfold State.reload
  refine .ite h ?_
  extract_lets w s1 dests s2 dig n s3 s4 s5 s6
  have h1 : s.Keeps s1 := h.zeroClr
  have h2 : s.Keeps s2 := h1.foldl (fun _ _ hu => hu.dmaPut)
  have h3 : s.Keeps s3 := h2.extendBmr
  have h4 : s.Keeps s4 := h3.updWld.updVol.wr
  have h5 : s.Keeps s5 := h4.setF.setF.setF
  have h6 : s.Keeps s6 := h5.setF
  exact .ite h2.setF.fire h6.recordSev.fire

theorem execSealedRestartReload_completes {codes0 codes1} (h : s.Keeps t) :
    s.Completes (execSealedRestartReload codes0 codes1 t) := by
  unfold execSealedRestartReload
  refine .next ?_
  extract_lets late busy on here s1
  have h_late : s.Keeps late := h.onDies (fun _ _ hu => .ite (hu.foldl (fun _ _ hv => .ite hv.goAlone hv)) hu)
  have h1 : s.Keeps s1 := .ite h_late.reload h_late
  exact .ite h (.ite h1.reload h1)

theorem execWgate_completes {d dux core imm} (h : s.Keeps t) : s.Completes (execWgate d dux core imm t) := by
  unfold execWgate
  refine .next ?_
  extract_lets x g
  refine .insn h (fun _ hu => ?_)
  extract_lets c p s1 a base s1' s2
  have h1 : s.Keeps s1 := .ite hu.addSat hu
  have h1' : s.Keeps s1' := hu.coreWrite.retire
  have h2 : s.Keeps s2 := h1'.updCore
  refine .ite hu.trap ?_
  split
  · exact .retire (.ite h1.logOn h1)
  · exact .ite h2 h2.updDux.showCall

theorem execWentry_completes {d dux core} (h : s.Keeps t) : s.Completes (execWentry d dux core t) :=
  .next (.ite h (.ite h.updCore.retire (h.insn (fun _ hu => hu.trap))))

theorem execWret_completes {d dux core} (h : s.Keeps t) : s.Completes (execWret d dux core t) := by
  unfold execWret
  refine .next ?_
  extract_lets x
  refine .insn h (fun _ hu => ?_)
  extract_lets c slot r r1 s1
  have h1 : s.Keeps s1 := hu.retire.leaveCall
  exact .ite hu.trap (.ite h1.incWrap h1)

theorem execHgatpWrite_completes {d dux core v} (h : s.Keeps t) : s.Completes (execHgatpWrite d dux core v t) :=
  .next (h.insn (fun _ hu => .ite hu.trap (.ite hu.trap (.ite hu.retire (.ite hu.updDux.retire (.trap (.ite hu.addSat hu)))))))

theorem execPartitionReset_completes {p policy} (h : s.Keeps t) : s.Completes (execPartitionReset p policy t) := .next h.partReset

theorem execWldResetAck_completes {d who confirm p} (h : s.Keeps t) : s.Completes (execWldResetAck d who confirm p t) :=
  .next (.ite h (.ite h.setBoth.setF h.setF))

theorem execPinWrite_completes {d who pin oe out} (h : s.Keeps t) : s.Completes (execPinWrite d who pin oe out t) :=
  .next (.ite (.ite h.setF.setF.pinLevel h.setF.setF) h)

theorem State.Keeps.rgdResult {d st partner reason} (h : s.Keeps t) : s.Keeps (t.rgdResult d st partner reason) := h.wr

theorem execRgdRead_completes {d who confirm guard region} (h : s.Keeps t) :
    s.Completes (execRgdRead d who confirm guard region t) := .next (.ite h (.ite h.rgdResult h.wr.wr.wr.wr.rgdResult))

theorem execRgdWrite_completes {d who confirm mirror guard region} (h : s.Keeps t) :
    s.Completes (execRgdWrite d who confirm mirror guard region t) := .next (.ite h (.ite h.rgdResult (.ite
        h.putRegion.putRegion.rgdResult h.putRegion.rgdResult)))

/-! ### AppCores -/

theorem execOpenImageRecord_completes {d r} (h : s.Keeps t) : s.Completes (execOpenImageRecord d r t) :=
  .next (h.applyRec (fun _ hu => hu.updWld.putBytes))

theorem execDuplexStart_completes {d dux} (h : s.Keeps t) : s.Completes (execDuplexStart d dux t) := by
  unfold execDuplexStart
  refine .next ?_
  extract_lets x shed role ps
  clear_value ps
  split
  · exact h
  · refine .ite h ?_
    split
    · exact .ite h h.record.updWld
    · exact h.updDux.setF.setF.setF.foldl (fun _ _ hu => .ite hu.setF hu)

theorem execCkpt_completes {d dux core} (h : s.Keeps t) : s.Completes (execCkpt d dux core t) :=
  .next (h.insn (fun _ hu => .ite hu.trap (.ite hu.trap (.ite hu.trap hu.retire.updDux))))

theorem execWfiWake_completes {d dux core} (h : s.Keeps t) : s.Completes (execWfiWake d dux core t) := by
  unfold execWfiWake
  refine .next ?_
  extract_lets x c s1
  have h1 : s.Keeps s1 := h.setWfi
  refine .ite h ?_
  split
  · exact .ite (.ite h1 h1.replayPop) (.ite h.setWfi h)
  · exact .ite (.ite h1.logOn h1) h

theorem execCounterOverflow_completes {d dux} (h : s.Keeps t) : s.Completes (execCounterOverflow d dux t) :=
  .next (.ite h (.ite h.updDux h.schedule))

theorem execCacheEccError_completes {d dux core kind line} (h : s.Keeps t) :
    s.Completes (execCacheEccError d dux core kind line t) := by
  unfold execCacheEccError
  refine .next ?_
  extract_lets x rec7
  refine .ite h ?_
  split
  · exact h.recordBoth
  · exact h.recordBoth
  · exact h.updCore.recordBoth
  · exact h.updCore

theorem State.Keeps.csrAccess {d x b w} (h : s.Keeps t) : s.Keeps (t.csrAccess d x b w) := by
  unfold State.csrAccess
  extract_lets c n rd src v old writes new r1 base
  refine .ite h.trap ?_
  split
  · exact h.trap
  · exact h.same.retire

theorem State.Keeps.xlateTrap {d x b k va r} (h : s.Keeps t) : s.Keeps (t.xlateTrap d x b k va r) := by
  unfold State.xlateTrap
  split
  · exact h.trap
  · exact h.trap
  · exact h.trap

theorem State.Keeps.xlate {d g c k va} (h : s.Keeps t) : s.Keeps (t.xlate d g c k va).2.2 := by
  unfold State.xlate
  dsimp only
  split
  · exact h
  split
  · exact h.nextFree
  split
  · exact h.nextFree
  · exact h.nextFree

theorem State.Keeps.coreAccess {d x b w q} (h : s.Keeps t) : s.Keeps (t.coreAccess d x b w q) := by
  unfold State.coreAccess
  extract_lets c k atomic t' s1
  have h1 : s.Keeps s1 := .updCore h.xlate
  split
  · split
    · exact h1.accessJ
    · exact h1.accessOut
    · exact .trap (.ite (.ite h1 h1.satCount) (.ite h1 h1.memRefuse))
    · exact h1.trap
  · exact h1.xlateTrap

theorem State.Keeps.coreInsn {d x b w} (h : s.Keeps t) : s.Keeps (t.coreInsn d x b w) := by
  unfold State.coreInsn
  extract_lets c base s1
  have h1 : s.Keeps s1 := h.retire
  refine .ite h.trap ?_
  refine .ite h.trap ?_
  refine .ite h.csrAccess ?_
  split
  · exact h.trap
  · refine .ite (.ite h.retire h) ?_
    refine .ite h.updCore.retire ?_
    refine .ite (.ite h1 h1.setWfi) ?_
    split
    · exact h.coreAccess
    · exact h.retire

theorem execApplicationCoreInstruction_completes {d dux core w} (h : s.Keeps t) :
    s.Completes (execApplicationCoreInstruction d dux core w t) := by
  unfold execApplicationCoreInstruction
  refine .next (.ite h (.insn h (fun _ hu => ?_)))
  extract_lets c va t' s1
  have h1 : s.Keeps s1 := .updCore hu.xlate
  split
  · exact .ite h1.coreInsn (.trap (.ite h1 h1.memRefuse))
  · exact h1.xlateTrap

/-! ### EventCtl -/

theorem execRouteBlockRecord_completes {d r} (h : s.Keeps t) : s.Completes (execRouteBlockRecord d r t) :=
  .next (.worldEnd (h.applyRec (fun _ hu => hu.foldl (fun _ _ hv => hv.putEntry (fun _ hw => hw.wr.wr)))))

theorem execControllerRecord_completes {d r} (h : s.Keeps t) : s.Completes (execControllerRecord d r t) :=
  .next (.worldEnd (h.applyRec (fun _ hu => hu.setF)))

theorem execSoftwareSettersRecord_completes {d r} (h : s.Keeps t) : s.Completes (execSoftwareSettersRecord d r t) :=
  .next (.worldEnd (h.applyRec (fun _ hu => hu.foldl (fun _ _ hv => hv.wr))))

theorem execSourceFire_completes {d src} (h : s.Keeps t) : s.Completes (execSourceFire d src t) := .next (.ite h.fire h)

theorem execModerationTimeout_completes {d src} (h : s.Keeps t) : s.Completes (execModerationTimeout d src t) :=
  .next (.ite h.updSrc h)

theorem State.Keeps.claimRow {d x lvl off} (h : s.Keeps t) : s.Keeps (t.claimRow d x lvl off) := by
  unfold State.claimRow
  refine .ite h.reply ?_
  extract_lets a taken w r
  split
  · exact h.replayTake.claimLogged.reply
  · exact h.claim.logOn.reply

theorem execClaimM_completes {d dux} (h : s.Keeps t) : s.Completes (execClaimM d dux t) := .next h.claimRow

theorem execClaimS_completes {d dux} (h : s.Keeps t) : s.Completes (execClaimS d dux t) := .next h.claimRow

theorem execClaimV_completes {d dux} (h : s.Keeps t) : s.Completes (execClaimV d dux t) := .next h.claimRow

theorem State.Keeps.eoiRow {d x lvl n} (h : s.Keeps t) : s.Keeps (t.eoiRow d x lvl n) := .ite h h.eoi

theorem execEoiM_completes {d dux src} (h : s.Keeps t) : s.Completes (execEoiM d dux src t) := .next h.eoiRow

theorem execEoiS_completes {d dux src} (h : s.Keeps t) : s.Completes (execEoiS d dux src t) := .next h.eoiRow

theorem execEoiV_completes {d dux src} (h : s.Keeps t) : s.Completes (execEoiV d dux src t) := .next h.eoiRow

theorem execThresholdWrite_completes {d dux level thr} (h : s.Keeps t) : s.Completes (execThresholdWrite d dux level thr t) :=
  .next (.ite h h.selfWrite)

theorem execSoftwareSet_completes {d who set} (h : s.Keeps t) : s.Completes (execSoftwareSet d who set t) :=
  .next (.ite h h.fireMask.passEvc)

theorem execTimerCompareWrite_completes {d who t' high v} (h : s.Keeps t) :
    s.Completes (execTimerCompareWrite d who t' high v t) := .next (.ite h (.ite h.updVol.wr.wr.passEvc h.updVol))

theorem execTimerExpiry_completes {d t'} (h : s.Keeps t) : s.Completes (execTimerExpiry d t' t) := .next h.reply

theorem execPartnerEvcWrite_completes {d} (h : s.Keeps t) : s.Completes (execPartnerEvcWrite d t) := by
  unfold execPartnerEvcWrite
  refine .next ?_
  split
  · exact h
  · exact .ite h.updVol.fireMask (.ite h.updVol.wr64 h.updVol.setThr)

/-! ### FieldBus -/

theorem State.Keeps.canForward {c d} (h : s.Keeps t) : s.Keeps (t.canForward c d) := .ite h h.setF.setF.setF

theorem execCanControllerRecord_completes {d r} (h : s.Keeps t) : s.Completes (execCanControllerRecord d r t) := by
  unfold execCanControllerRecord
  extract_lets c w cfg mode wakes ok
  refine .next ?_
  refine .applyRec h (fun _ hu => ?_)
  extract_lets s1 s2 s3 base
  have h1 : s.Keeps s1 := hu.wr.wr.wr.wr.wr.wr
  have h2 : s.Keeps s2 := .ite h1.setF h1.setF.canForward
  have h3 : s.Keeps s3 := h2.updFbSel
  exact h3.same

theorem execCanFiltersRecord_completes {d r} (h : s.Keeps t) : s.Completes (execCanFiltersRecord d r t) :=
  .next (h.applyRec (fun _ hu => hu.foldl (fun _ _ hv => hv.putEntry (fun _ hw => hw.wr.wr))))

theorem execLinControllerRecord_completes {d r} (h : s.Keeps t) : s.Completes (execLinControllerRecord d r t) :=
  .next (h.applyRec (fun _ hu => hu.wr.setF.updFbSel))

theorem execLinFrameTableRecord_completes {d r} (h : s.Keeps t) : s.Completes (execLinFrameTableRecord d r t) :=
  .next (h.applyRec (fun _ hu => hu.foldl (fun _ _ hv => hv.wr)))

theorem execLinScheduleRecord_completes {d r} (h : s.Keeps t) : s.Completes (execLinScheduleRecord d r t) :=
  .next (h.applyRec (fun _ hu => .updFb (hu.foldl (fun _ _ hv => hv.wr))))

theorem execSenseInputsRecord_completes {d r} (h : s.Keeps t) : s.Completes (execSenseInputsRecord d r t) :=
  .next (h.applyRec (fun _ hu => hu.foldl (fun _ _ hv => hv.wr.wr)))

theorem execSatelliteBusRecord_completes {d r} (h : s.Keeps t) : s.Completes (execSatelliteBusRecord d r t) :=
  .next (h.applyRec (fun _ hu => hu.wr.foldl (fun _ _ hv => hv.wr)))

theorem State.Keeps.canReceive {d c own good remote idw ctl af data stamp} (h : s.Keeps t) :
    s.Keeps (t.canReceive d c own good remote idw ctl af data stamp) := by
  unfold State.canReceive
  extract_lets sel f ctl1 s1 s1' act
  have h1 : s.Keeps s1 := h.addSat
  have h1' : s.Keeps s1' := .ite h.canResult h
  exact .ite h (.ite (.ite h h.canOwn) (.ite (.ite h1.canResult h1) (.ite h1'.addSat h1'.addSat.fieldDeliver)))

theorem execCanFrameReceive_completes {d c own good remote idw ctl af data stamp} (h : s.Keeps t) :
    s.Completes (execCanFrameReceive d c own good remote idw ctl af data stamp t) := .next h.canReceive

theorem execShadowFrameTimeout_completes {d c part} (h : s.Keeps t) : s.Completes (execShadowFrameTimeout d c part t) := by
  unfold execShadowFrameTimeout
  refine .next ?_
  refine .ite h ?_
  split
  · exact h
  · exact h.updFb.fbDrop.fbCredit

theorem execCanFrameSent_completes {c good} (h : s.Keeps t) : s.Completes (execCanFrameSent c good t) := by
  unfold execCanFrameSent
  extract_lets d
  refine .next ?_
  refine .ite h ?_
  split
  · exact h
  · exact .ite h.addSat.canResult h.updFb.addSat.fbCredit.canResult

theorem execFieldBusSteerRequest_completes {i sender names count} (h : s.Keeps t) :
    s.Completes (execFieldBusSteerRequest i sender names count t) := .next h.fieldRequest

theorem State.Keeps.fbSwitch {i d} (h : s.Keeps t) : s.Keeps (t.fbSwitch i d) := h.updFbSel

theorem execSelectorChange_completes {i} (h : s.Keeps t) : s.Completes (execSelectorChange i t) := by
  unfold execSelectorChange
  refine .next ?_
  split
  · exact .fbSwitch (.ite h.canForward h)
  · exact h

theorem execControllerSilent_completes {i} (h : s.Keeps t) : s.Completes (execControllerSilent i t) := .next (.ite h h.fbSwitch)

theorem execBusOff_completes {c} (h : s.Keeps t) : s.Completes (execBusOff c t) := .next (.ite h.setCan.addSat.setAlive h)

theorem State.Keeps.canRejoin {c} (h : s.Keeps t) : s.Keeps (t.canRejoin c) := h.setCan

theorem execBusOffRecovery_completes {c} (h : s.Keeps t) : s.Completes (execBusOffRecovery c t) :=
  .next (.ite (.ite h.canRejoin h.setAlive) (.ite h.canRejoin h))

theorem execCanWakePattern_completes {c} (h : s.Keeps t) : s.Completes (execCanWakePattern c t) := by
  unfold execCanWakePattern
  extract_lets d s1
  have h1 : s.Keeps s1 := .ite h.setAlive h
  refine .next ?_
  split
  · exact .ite h1 h1.latchWake
  · exact h1

theorem State.Keeps.fbCommand {d who i confirm act} (h : s.Keeps t) (hact : ∀ u, s.Keeps u → s.Keeps (act u)) :
    s.Keeps (t.fbCommand d who i confirm act) := .ite (hact _ h) h

theorem execCanRestart_completes {d who c confirm} (h : s.Keeps t) : s.Completes (execCanRestart d who c confirm t) :=
  .next (h.fbCommand (fun _ hu => .ite hu.canRejoin hu))

theorem execCanStandby_completes {d who c confirm} (h : s.Keeps t) : s.Completes (execCanStandby d who c confirm t) :=
  .next (h.fbCommand (fun _ hu => .ite hu hu.setAlive))

theorem execCanNormal_completes {d who c confirm} (h : s.Keeps t) : s.Completes (execCanNormal d who c confirm t) :=
  .next (h.fbCommand (fun _ hu => .ite hu.setAlive hu))

theorem State.Keeps.onBoth {f} (h : s.Keeps t) (hf : ∀ u x, s.Keeps u → s.Keeps (f u x)) : s.Keeps (t.onBoth f) := by
  unfold State.onBoth
  extract_lets s0
  have h0 : s.Keeps s0 := .ite (hf _ _ h) h
  exact .ite (hf _ _ h0) h0

theorem execLinRunRange_completes {d who l first count confirm} (h : s.Keeps t) :
    s.Completes (execLinRunRange d who l first count confirm t) := .next (h.fbCommand (fun _ hu => .ite (hu.onBoth (fun _ _ hv =>
        hv.updFb)) hu))

theorem execLinGoToSleep_completes {d who l confirm} (h : s.Keeps t) : s.Completes (execLinGoToSleep d who l confirm t) :=
  .next (h.fbCommand (fun _ hu => .ite (hu.setAlive.onBoth (fun _ _ hv => hv.addSat)) hu))

theorem execLinSendWakeup_completes {d who l confirm} (h : s.Keeps t) : s.Completes (execLinSendWakeup d who l confirm t) :=
  .next (h.fbCommand (fun _ hu => .ite hu hu.setAlive))

theorem State.Keeps.linSlot {d i} (h : s.Keeps t) : s.Keeps (t.linSlot d i) := by
  unfold State.linSlot
  extract_lets x start go
  split
  · exact h.updFb.setF
  · exact .ite h h.updFb.setF

theorem State.Keeps.linBegin {d i} (h : s.Keeps t) : s.Keeps (t.linBegin d i) := h.updFb

theorem execLinSlotStart_completes {l} (h : s.Keeps t) : s.Completes (execLinSlotStart l t) :=
  .next (h.onBoth (fun _ _ hu => .ite hu.linSlot.linBegin hu))

theorem State.Keeps.linReceive {d i ownHeader ownResponse good ident data stamp} (h : s.Keeps t) :
    s.Keeps (t.linReceive d i ownHeader ownResponse good ident data stamp) := by
  unfold State.linReceive
  refine .ite h ?_
  extract_lets shadow bad s1 s2 dir len body s3 s3' s4
  have h1 : s.Keeps s1 := .ite h.fbMismatch h
  have h2 : s.Keeps s2 := .ite h1.addSat h1
  have h3 : s.Keeps s3 := h2.addSat
  have h3' : s.Keeps s3' := .ite h2 (.ite h2.addSat.fieldDeliver (.ite h3.fieldDeliver h3))
  have h4 : s.Keeps s4 := h3'.updFb
  exact .ite h4.setF h4

theorem execLinFrameReceive_completes {d l ownHeader ownResponse good ident data stamp} (h : s.Keeps t) :
    s.Completes (execLinFrameReceive d l ownHeader ownResponse good ident data stamp t) := .next h.linReceive

theorem execLinWake_completes {l} (h : s.Keeps t) : s.Completes (execLinWake l t) := .next (.ite h.setAlive.setAlive h)

theorem State.Keeps.updSat {b f} (h : s.Keeps t) : s.Keeps (t.updSat b f) := h.same

theorem State.Keeps.satFail {d b read n} (h : s.Keeps t) : s.Keeps (t.satFail d b read n) := h.satCount.reply

theorem State.Keeps.satLock {b l} (h : s.Keeps t) : s.Keeps (t.satLock b l) := by
  unfold State.satLock
  extract_lets s1
  have h1 : s.Keeps s1 := h.updSat
  split
  · exact h1.setAlive.setAlive.setAlive
  · exact h1.setAlive

theorem execSatelliteAccess_completes {d who addr n write lock data} (h : s.Keeps t) :
    s.Completes (execSatelliteAccess d who addr n write lock data t) := .next (.ite h.reply (.ite h.satFail (.ite h.reply (.ite
        h.updSat.reply (.ite h.reply h.updSat)))))

theorem execSatelliteBusGrant_completes {b} (h : s.Keeps t) : s.Completes (execSatelliteBusGrant b t) := by
  unfold execSatelliteBusGrant
  extract_lets x may first
  refine .next ?_
  refine .ite h ?_
  clear_value first
  split
  · exact h
  · exact h.updSat.reply

theorem State.Keeps.loseField (h : s.Keeps t) : s.Keeps (t.loseField) := by
  unfold State.loseField
  extract_lets s1 base
  have h1 : s.Keeps s1 := h.foldl (fun _ _ hu => hu.foldl (fun _ _ hv => hv.satFail))
  exact h1.same

theorem execSatelliteBusTimeout_completes {b d} (h : s.Keeps t) : s.Completes (execSatelliteBusTimeout b d t) := by
  unfold execSatelliteBusTimeout
  refine .next ?_
  split
  · exact h.updSat.satFail
  · exact h

theorem execSatelliteTransactionEnd_completes {b data crc} (h : s.Keeps t) :
    s.Completes (execSatelliteTransactionEnd b data crc t) := by
  unfold execSatelliteTransactionEnd
  refine .next ?_
  split
  · exact h
  · extract_lets pr bad v s1 m
    have h1 : s.Keeps s1 := h.updSat
    refine .ite h1.satFail ?_
    split
    · exact h1.reply
    · exact h1.satLock.reply
    · exact h1.satLock.reply
    · exact h1.reply
    · exact h.updSat.reply

theorem execSatelliteLockTimeout_completes {b age} (h : s.Keeps t) : s.Completes (execSatelliteLockTimeout b age t) := by
  unfold execSatelliteLockTimeout
  refine .next ?_
  split
  · exact h
  · extract_lets held x pend s1 s2 s3
    have h1 : s.Keeps s1 := h.satLock
    have h2 : s.Keeps s2 := by
      unfold s2
      clear_value pend
      split
      · exact h1.updSat.reply
      · exact h1.updSat
    have h3 : s.Keeps s3 := h2.onBoth (fun _ _ hu => hu.addSat.fire)
    exact h3.recordBoth

theorem execSenseSample_completes {n mv stamp} (h : s.Keeps t) : s.Completes (execSenseSample n mv stamp t) :=
  .next (h.onBoth (fun _ _ hu => .ite hu (hu.wr.foldl (fun _ _ hv => hv.streamIn))))

theorem execSenseDebounceExpiry_completes {n high} (h : s.Keeps t) : s.Completes (execSenseDebounceExpiry n high t) :=
  .next (h.onBoth (fun _ _ hu => .ite hu.setF.setF hu))

/-! ### SwitchDie -/

theorem State.Keeps.sdEvent {sd k code} (h : s.Keeps t) : s.Keeps (t.sdEvent sd k code) := h.updSd

theorem State.Keeps.sdWait {sd f} (h : s.Keeps t) : s.Keeps (t.sdWait sd f) := h.updSd

theorem State.Keeps.sdAck {d sd typ ch tag result} (h : s.Keeps t) : s.Keeps (t.sdAck d sd typ ch tag result) := h.updSd

theorem State.Keeps.abortCapture {sd k} (h : s.Keeps t) : s.Keeps (t.abortCapture sd k) := .ite h.updSd.setBoth h

theorem State.Keeps.setOn {sd k b} (h : s.Keeps t) : s.Keeps (t.setOn sd k b) := by
  unfold State.setOn
  extract_lets c x s1 opens
  have h1 : s.Keeps s1 := h.abortCapture
  exact .ite h (.ite h1.updChan h1.updChan)

theorem State.Keeps.settleAt {sd k t'} (h : s.Keeps t) : s.Keeps (t.settleAt sd k t') := .ite h.updChan h.updChan.setOn

theorem State.Keeps.settle {sd k} (h : s.Keeps t) : s.Keeps (t.settle sd k) := h.settleAt

theorem State.Keeps.settleAll {sd} (h : s.Keeps t) : s.Keeps (t.settleAll sd) := h.foldl (fun _ _ hu => hu.settle)

theorem State.Keeps.endForce {sd k} (h : s.Keeps t) : s.Keeps (t.endForce sd k) := .ite h h.updChan.sdEvent

theorem State.Keeps.latch {sd k trip} (h : s.Keeps t) : s.Keeps (t.latch sd k trip) := by
  unfold State.latch
  extract_lets now limited refused s1 s2
  have h1 : s.Keeps s1 := h.setOn.updChan
  have h2 : s.Keeps s2 := h1.endForce
  exact .ite h2.sdEvent h2

theorem State.Keeps.rampDone {sd k} (h : s.Keeps t) : s.Keeps (t.rampDone sd k) := by
  unfold State.rampDone
  extract_lets c s1
  have h1 : s.Keeps s1 := h.updChan.setOn.sdEvent
  exact .ite h1.latch h1

theorem State.Keeps.feedOff {sd} (h : s.Keeps t) : s.Keeps (t.feedOff sd) := by
  unfold State.feedOff
  refine .foldl h (fun _ _ hu => ?_)
  extract_lets c s1
  have h1 : s.Keeps s1 := hu.setOn.updChan
  exact .ite h1.latch h1

theorem State.Keeps.sdMode {sd m} (h : s.Keeps t) : s.Keeps (t.sdMode sd m) :=
  .settleAll (.updSd (h.foldl (fun _ _ hu => hu.endForce)))

theorem State.Keeps.forceFailSafe {sd} (h : s.Keeps t) : s.Keeps (t.forceFailSafe sd) :=
  .sdMode (.updSd (h.foldl (fun _ _ hu => .ite hu.updChan.latch hu.updChan)))

theorem State.Keeps.steerTo {sd d} (h : s.Keeps t) : s.Keeps (t.steerTo sd d) := by
  unfold State.steerTo
  extract_lets was s1 s2
  have h1 : s.Keeps s1 := h.updSd
  have h2 : s.Keeps s2 := h1.foldl (fun _ _ hu => hu.updChan)
  exact .ite h2 h2.settleAll

theorem State.Keeps.enterHold {sd} (h : s.Keeps t) : s.Keeps (t.enterHold sd) :=
  .sdEvent (.settleAll (.updSd (h.foldl (fun _ _ hu => hu.updChan))))

theorem State.Keeps.endHold {sd} (h : s.Keeps t) : s.Keeps (t.endHold sd) := h.updSd

theorem State.Keeps.downFrame {d sd f typ act} (h : s.Keeps t) (hact : ∀ u, s.Keeps u → s.Keeps (act u)) :
    s.Keeps (t.downFrame d sd f typ act) := by
  unfold State.downFrame
  extract_lets s0 s1
  have h0 : s.Keeps s0 := h.updQsd
  have h1 : s.Keeps s1 := h0.addSat
  exact .ite h0 (.ite (.ite h1 h1.setF) (.ite (hact _ h0.updSd) h0))

theorem State.Keeps.command {d sd f typ either startOk decideCmd} (h : s.Keeps t)
    (hdecide : ∀ u, s.Keeps u → s.KeepsDecided (decideCmd u)) : s.Keeps (t.command d sd f typ either startOk decideCmd) := by
  refine .downFrame h (fun u hu => .ite hu.updSd.sdAck (.ite hu.updSd.sdAck (.ite hu.updSd.sdAck ?_)))
  have hdone := hdecide u hu
  split
  · exact hu
  · exact hu.updSd.sdAck
  · rename_i eff heq
    rw [heq] at hdone
    exact (hdone u hu).updSd.sdAck

/-! ### Clamp -/

theorem State.Keeps.updWire {d n f} (h : s.Keeps t) : s.Keeps (t.updWire d n f) := h.updVol

theorem State.Keeps.switchOff {d n} (h : s.Keeps t) : s.Keeps (t.switchOff d n) := by
  unfold State.switchOff
  extract_lets sd k ep permitted er rampLim s1 ms s2
  have h1 : s.Keeps s1 := h.updWire
  have h2 : s.Keeps s2 := h1.updLane
  exact .ite (.ite h1.updLane (.ite h2.sendCmd h2)) h.updLane

theorem State.Keeps.laneCmd {n i c} (h : s.Keeps t) : s.Keeps (t.laneCmd n i c) := by
  unfold State.laneCmd
  extract_lets l t'
  have h_t' : s.Keeps t' := h.updLane
  refine .ite (.ite (.ite h_t'.sendCmd h_t') h) ?_
  split
  · exact .ite h.updLane.switchOff h.updLane
  · exact h.updLane

theorem execOcmpLvl_completes {n w ecc} (h : s.Keeps t) : s.Completes (execOcmpLvl n w ecc t) :=
  .next (h.nibInstr (fun _ hu => .iteDo (.done hu.laneCmd) (.raise hu)))

theorem execOcmpPwm_completes {n w ecc} (h : s.Keeps t) : s.Completes (execOcmpPwm n w ecc t) :=
  .next (h.nibInstr (fun _ hu => .iteDo (.raise hu) (.iteDo (.raise hu) (.done hu.laneCmd))))

theorem execLaneLevelApply_completes {d lane} (h : s.Keeps t) : s.Completes (execLaneLevelApply d lane t) := by
  unfold execLaneLevelApply
  refine .next ?_
  split
  · exact .ite (.ite h.updLane.switchOff h.updLane.updLane.settlePin) h
  · exact h

theorem State.Keeps.rampPeriod {d lane t0 len time} (h : s.Keeps t) : s.Keeps (t.rampPeriod d lane t0 len time) :=
  .ite h.updLane h.updLane

theorem State.Keeps.periodStart {d lane t'} (h : s.Keeps t) : s.Keeps (t.periodStart d lane t') := by
  unfold State.periodStart
  extract_lets l own run full s1
  have h1 : s.Keeps s1 := h.updLane
  split
  · exact .ite h.rampPeriod h
  · split
    · exact .ite h.updLane (.ite h.updLane h)
    · exact .ite (.ite h1.switchOff h1.updLane) (.ite h.updLane h)
    · exact .ite h.updLane h

theorem execPwmPeriodStart_completes {d lane time} (h : s.Keeps t) : s.Completes (execPwmPeriodStart d lane time t) :=
  .next (.ite h h.settlePin.periodStart.settlePin)

/-! ### Power -/

theorem execChannelRecord_completes {d r} (h : s.Keeps t) : s.Completes (execChannelRecord d r t) :=
  .next (h.applyRec (fun _ hu => hu.wr.wr.wr.wr))

theorem execFeedRecord_completes {d r} (h : s.Keeps t) : s.Completes (execFeedRecord d r t) :=
  .next (h.applyRec (fun _ hu => hu.foldl (fun _ _ hv => hv.setF)))

theorem execUndervoltageTurnOff_completes {sd volt} (h : s.Keeps t) : s.Completes (execUndervoltageTurnOff sd volt t) :=
  .next (.ite h.updSd.feedOff h)

theorem execUndervoltageRestart_completes {sd} (h : s.Keeps t) : s.Completes (execUndervoltageRestart sd t) :=
  .next (.ite h.updSd.settleAll h)

theorem execOvervoltageTurnOff_completes {sd volt} (h : s.Keeps t) : s.Completes (execOvervoltageTurnOff sd volt t) :=
  .next (.ite h.updSd.feedOff h)

theorem execOvervoltageRestart_completes {sd} (h : s.Keeps t) : s.Completes (execOvervoltageRestart sd t) :=
  .next (.ite h.updSd.settleAll h)

theorem execSettingMismatch_completes {sd volt} (h : s.Keeps t) : s.Completes (execSettingMismatch sd volt t) :=
  .next (.ite h.updSd h)

theorem execSettingMismatchClear_completes {sd} (h : s.Keeps t) : s.Completes (execSettingMismatchClear sd t) := .next h.updSd

theorem execCurrentLimit_completes {sd k} (h : s.Keeps t) : s.Completes (execCurrentLimit sd k t) := .next (.ite h.updChan h)

theorem execOvercurrentTrip_completes {sd k} (h : s.Keeps t) : s.Completes (execOvercurrentTrip sd k t) :=
  .next (.ite (.ite h.sdEvent.updChan (.ite (.ite h.sdEvent.setOn.updChan h.sdEvent.latch.sdEvent) h.sdEvent.latch)) h)

theorem execJunctionWarning_completes {sd k temp} (h : s.Keeps t) : s.Completes (execJunctionWarning sd k temp t) :=
  .next (.ite h.updChan.sdEvent h)

theorem execThermalShutdown_completes {sd k temp} (h : s.Keeps t) : s.Completes (execThermalShutdown sd k temp t) :=
  .next (.ite h.updChan.latch.sdEvent h)

theorem execLampRetry_completes {sd k} (h : s.Keeps t) : s.Completes (execLampRetry sd k t) := .next (.ite h.updChan.settle h)

theorem execWarmWindowEnd_completes {sd k} (h : s.Keeps t) : s.Completes (execWarmWindowEnd sd k t) := .next h.updChan

theorem execOpenLoadOn_completes {sd k below} (h : s.Keeps t) : s.Completes (execOpenLoadOn sd k below t) :=
  .next (.ite (.ite (.ite h h.updChan.sdEvent) (.ite h.updChan h)) h)

theorem execOffStateTest_completes {sd k vout vfeed} (h : s.Keeps t) : s.Completes (execOffStateTest sd k vout vfeed t) :=
  .next (.ite h.updChan h)

theorem execOffStateTestComplete_completes {sd k vout} (h : s.Keeps t) : s.Completes (execOffStateTestComplete sd k vout t) :=
  .next (.ite (.ite h.updChan.sdEvent (.ite h.updChan.sdEvent h.updChan)) h)

theorem State.Keeps.wireTrip {d sd k w} (h : s.Keeps t) : s.Keeps (t.wireTrip d sd k w) := by
  unfold State.wireTrip
  extract_lets n s1 s2
  have h1 : s.Keeps s1 := h.setF.record
  have h2 : s.Keeps s2 := .ite h1 h1.switchOff
  exact .ite h2.sendCmd h2

theorem State.Keeps.showEst {d sd k} (h : s.Keeps t) : s.Keeps (t.showEst d sd k) := .ite h.setF.setF h

theorem execWireModelStep_completes {d sd k} (h : s.Keeps t) : s.Completes (execWireModelStep d sd k t) := by
  unfold execWireModelStep
  refine .next ?_
  refine .ite ?_ h
  extract_lets n w g msq res t' lim len loss hot warm w1 s0 s1 s2 cool s3 s4
  have h0 : s.Keeps s0 := h.updWire
  have h1 : s.Keeps s1 := .ite h0 h0.showEst
  have h2 : s.Keeps s2 := h1.wr
  have h3 : s.Keeps s3 := h2.setF
  have h4 : s.Keeps s4 := .ite h3.setF h3
  exact .ite h4.wireTrip h4

theorem State.Keeps.declareL {d sd k l} (h : s.Keeps t) : s.Keeps (t.declareL d sd k l) := h.updWire.showEst

theorem execInductanceEstimate_completes {d sd k i1 i2} (h : s.Keeps t) : s.Completes (execInductanceEstimate d sd k i1 i2 t) :=
  .next (.ite (.ite h.declareL h.declareL) h)

theorem execRampEnd_completes {sd k} (h : s.Keeps t) : s.Completes (execRampEnd sd k t) := .next (.ite h.rampDone h)

theorem State.Keeps.sendByHolder {d sd typ ch low} (h : s.Keeps t) : s.Keeps (t.sendByHolder d sd typ ch low) :=
  .ite h.sendCmd (.ite h.plSend h)

theorem State.Keeps.chanCmd {d who sd k typ} (h : s.Keeps t) : s.Keeps (t.chanCmd d who sd k typ) :=
  .ite h (.ite h.reply (.ite h.sendByHolder h))

theorem execPwrRestart_completes {d who sd k} (h : s.Keeps t) : s.Completes (execPwrRestart d who sd k t) := .next h.chanCmd

theorem execPwrOltest_completes {d who sd k} (h : s.Keeps t) : s.Completes (execPwrOltest d who sd k t) := .next h.chanCmd

theorem execPwrCalcmdCapture_completes {d who sd ch low point} (h : s.Keeps t) :
    s.Completes (execPwrCalcmdCapture d who sd ch low point t) := .next (.ite h.sendByHolder h)

theorem execPwrCalcmdCommit_completes {d who sd ch low} (h : s.Keeps t) : s.Completes (execPwrCalcmdCommit d who sd ch low t) :=
  .next (.ite h.sendByHolder h)

theorem execPwrCalcmdCancel_completes {d who sd ch low} (h : s.Keeps t) : s.Completes (execPwrCalcmdCancel d who sd ch low t) :=
  .next (.ite h.sendByHolder h)

theorem execPwrCalrefWrite_completes {d who sd ref} (h : s.Keeps t) : s.Completes (execPwrCalrefWrite d who sd ref t) :=
  .next (.ite h.setF.sendFrame h)

theorem execLatch_completes {d sd frame} (h : s.Keeps t) : s.Completes (execLatch d sd frame t) := by
  unfold execLatch
  extract_lets k
  refine .next ?_
  refine .command h (fun _ hu => ?_)
  refine .ite .refuse ?_
  split
  · exact .done (fun _ hv => .ite (.ite hv.updChan.sdEvent hv.updChan) hv.latch)
  · exact .done (fun _ hv => hv.latch)
  · exact .refuse

theorem execRamp_completes {d sd frame} (h : s.Keeps t) : s.Completes (execRamp d sd frame t) := by
  unfold execRamp
  extract_lets k ms
  refine .next ?_
  refine .command h (fun _ _ => .ite .refuse (.ite (.done (fun _ hv => .ite hv (.ite hv.latch hv.updChan))) (.ite (.done (fun _
      hv => .ite hv.updChan hv)) .refuse)))

theorem execRestart_completes {d sd frame} (h : s.Keeps t) : s.Completes (execRestart d sd frame t) :=
  .next (h.command (fun _ _ => .ite .refuse (.done (fun _ hv => .ite (.ite hv.updChan.sdEvent hv.updChan) (.ite hv.updChan.settle
      hv.sdEvent)))))

theorem execOltest_completes {d sd frame} (h : s.Keeps t) : s.Completes (execOltest d sd frame t) :=
  .next (h.command (fun _ _ => .ite .refuse (.done (fun _ hv => .ite hv.updChan hv))))

theorem State.Keeps.showCapture {sd} (h : s.Keeps t) : s.Keeps (t.showCapture sd) := h.setBoth.setBoth

theorem State.Keeps.updCapture {sd f} (h : s.Keeps t) : s.Keeps (t.updCapture sd f) := h.updSd.showCapture

theorem execCalcmdCapture_completes {d sd frame} (h : s.Keeps t) : s.Completes (execCalcmdCapture d sd frame t) :=
  .next (.ite h (h.command (fun _ _ => .ite .refuse (.done (fun _ hv => hv.updCapture)))))

theorem execCaptureComplete_completes {sd mean aborted} (h : s.Keeps t) :
    s.Completes (execCaptureComplete sd mean aborted t) := by
  unfold execCaptureComplete
  extract_lets code
  refine .next ?_
  split
  · exact .ite h.updCapture h.updCapture
  · exact h

theorem State.Keeps.calJudge {sd ch low g o offsetOnly} (h : s.Keeps t) : s.Keeps (t.calJudge sd ch low g o offsetOnly) := by
  unfold State.calJudge
  extract_lets n det bad s1 v s2
  have h1 : s.Keeps s1 := h.updChan
  have h2 : s.Keeps s2 := h1.wr.wr.updCapture
  exact .ite h.updCapture.recordBoth (.ite h2.recordBoth h2)

theorem State.Keeps.calCommit {sd ch low} (h : s.Keeps t) : s.Keeps (t.calCommit sd ch low) := by
  unfold State.calCommit
  extract_lets pts refs hi lo g0
  refine .ite ?_ (.ite (h.withFree (fun _ _ hu => hu.calJudge)) h.calJudge)
  split
  · exact h.calJudge
  · exact h.withFree (fun _ _ hu => hu.calJudge)

theorem execCalcmdCommit_completes {d sd frame} (h : s.Keeps t) : s.Completes (execCalcmdCommit d sd frame t) :=
  .next (.ite h (h.command (fun _ _ => .ite .refuse (.done (fun _ hv => hv.updCapture.calCommit)))))

theorem execCalcmdCancel_completes {d sd frame} (h : s.Keeps t) : s.Completes (execCalcmdCancel d sd frame t) :=
  .next (.ite h (h.command (fun _ _ => .ite .refuse (.done (fun _ hv => hv.updCapture)))))

theorem execCalref_completes {d sd frame} (h : s.Keeps t) : s.Completes (execCalref d sd frame t) :=
  .next (h.downFrame (fun _ hu => hu.updSd))

theorem State.Keeps.upFrame {d sd f typ act} (h : s.Keeps t) (hact : ∀ u, s.Keeps u → s.Keeps (act u)) :
    s.Keeps (t.upFrame d sd f typ act) := by
  unfold State.upFrame
  extract_lets s0 s1
  have h0 : s.Keeps s0 := h.updSd
  have h1 : s.Keeps s1 := h0.addSat
  exact .ite h0 (.ite (.ite h1 h1.setF) (.ite (hact _ h0) h0))

theorem State.Keeps.steady {d sd k i} (h : s.Keeps t) : s.Keeps (t.steady d sd k i) := by
  unfold State.steady
  extract_lets n w now
  split
  · exact h.updWire
  · exact .ite h.updWire.showEst h

theorem execSns_completes {d sd frame} (h : s.Keeps t) : s.Completes (execSns d sd frame t) := by
  unfold execSns
  extract_lets k v
  refine .next ?_
  refine .upFrame h (fun _ hu => ?_)
  refine .ite ?_ hu
  extract_lets s1 e s1' s2
  have h1 : s.Keeps s1 := hu.setF
  have h1' : s.Keeps s1' := h1.updWire
  have h2 : s.Keeps s2 := .ite h1'.steady h1'
  exact h2.foldl (fun _ _ hv => hv.streamIn)

/-! ### Steering -/

theorem execSwitchDieControlRecord_completes {d r} (h : s.Keeps t) : s.Completes (execSwitchDieControlRecord d r t) :=
  .next (h.applyRec (fun _ hu => hu.wr.showProt))

theorem execFailSafeEntryRecord_completes {d r} (h : s.Keeps t) : s.Completes (execFailSafeEntryRecord d r t) :=
  .next (h.applyRec (fun _ hu => hu.wr))

theorem State.Keeps.sendTable {d sd} (h : s.Keeps t) : s.Keeps (t.sendTable d sd) := h.updQsd

theorem State.Keeps.firstTable {d sd} (h : s.Keeps t) : s.Keeps (t.firstTable d sd) := h.updQsd.sendTable

theorem State.Keeps.tableAgain {d sd} (h : s.Keeps t) : s.Keeps (t.tableAgain d sd) := .ite h.sendTable h.updQsd.record

theorem State.Keeps.sendEntry {d sd} (h : s.Keeps t) : s.Keeps (t.sendEntry d sd) :=
  .ite h (.ite h (.ite h.sendCmd (.ite h.sendCmd h)))

theorem State.Keeps.dctl {d who sd confirm mode} (h : s.Keeps t) : s.Keeps (t.dctl d who sd confirm mode) :=
  .ite h (.ite h.setF.sendCmd h.setF)

theorem execDctlEnterTest_completes {d who sd confirm} (h : s.Keeps t) : s.Completes (execDctlEnterTest d who sd confirm t) :=
  .next h.dctl

theorem execDctlLeaveTest_completes {d who sd confirm} (h : s.Keeps t) : s.Completes (execDctlLeaveTest d who sd confirm t) :=
  .next h.dctl

theorem execDctlEnterRecovery_completes {d who sd confirm} (h : s.Keeps t) :
    s.Completes (execDctlEnterRecovery d who sd confirm t) := .next h.dctl

theorem State.Keeps.dctlNone {d who sd v} (h : s.Keeps t) : s.Keeps (t.dctlNone d who sd v) := .ite h.setF h

theorem execCyc_completes {d sd count} (h : s.Keeps t) : s.Completes (execCyc d sd count t) := by
  unfold execCyc
  refine .next ?_
  refine .ite ?_ h
  extract_lets s1
  have h1 : s.Keeps s1 := h.addSat.updQsd
  exact .ite h1.updSd h1

theorem State.Keeps.takeLine {d sd ser} (h : s.Keeps t) : s.Keeps (t.takeLine d sd ser) := h.steerTo.updSd.sdWait

theorem State.Keeps.takeSettings {d sd} (h : s.Keeps t) : s.Keeps (t.takeSettings d sd) := h.foldl (fun _ _ hu => hu.updChan)

theorem State.Keeps.enterService {d sd ser} (h : s.Keeps t) : s.Keeps (t.enterService d sd ser) := by
  unfold State.enterService
  extract_lets x s1 sound
  have h1 : s.Keeps s1 := h.takeLine.takeSettings.endHold.updSd
  split
  · exact h1.sdMode
  · exact .ite h1.sdMode h1.settleAll
  · exact h1.settleAll
  · exact h1.settleAll

theorem execSvcent_completes {d sd frame} (h : s.Keeps t) : s.Completes (execSvcent d sd frame t) :=
  .next (h.command (fun _ _ => .ite .discard (.ite (.done (fun _ hv => hv.enterService)) .refuse)))

theorem execSteer_completes {d sd frame} (h : s.Keeps t) : s.Completes (execSteer d sd frame t) :=
  .next (h.command (fun _ _ => .ite (.done (fun _ hv => hv.takeLine)) .refuse))

theorem State.Keeps.modeFrame {d sd f req ok m} (h : s.Keeps t) : s.Keeps (t.modeFrame d sd f req ok m) :=
  .ite h (h.command (fun _ _ => .ite (.done (fun _ hv => hv.sdMode)) .refuse))

theorem execModeEnterTest_completes {d sd frame} (h : s.Keeps t) : s.Completes (execModeEnterTest d sd frame t) :=
  .next h.modeFrame

theorem execModeLeaveTest_completes {d sd frame} (h : s.Keeps t) : s.Completes (execModeLeaveTest d sd frame t) :=
  .next h.modeFrame

theorem execModeEnterRecovery_completes {d sd frame} (h : s.Keeps t) : s.Completes (execModeEnterRecovery d sd frame t) :=
  .next h.modeFrame

theorem execBdir_completes {d sd frame} (h : s.Keeps t) : s.Completes (execBdir d sd frame t) :=
  .next (h.command (fun _ _ => .ite (.done (fun _ hv => hv.updChan)) .refuse))

theorem State.Keeps.showTable {sd st} (h : s.Keeps t) : s.Keeps (t.showTable sd st) := h.updSd.setBoth.setBoth.setBoth

theorem State.Keeps.updRx {d sd f} (h : s.Keeps t) : s.Keeps (t.updRx d sd f) := h.updSd

theorem execTblstart_completes {d sd frame} (h : s.Keeps t) : s.Completes (execTblstart d sd frame t) :=
  .next (h.downFrame (fun _ hu => hu.updRx.showTable))

theorem execTbldata_completes {d sd frame} (h : s.Keeps t) : s.Completes (execTbldata d sd frame t) :=
  .next (h.downFrame (fun _ hu => hu.updRx))

theorem execTblend_completes {d sd frame} (h : s.Keeps t) : s.Completes (execTblend d sd frame t) :=
  .next (h.downFrame (fun _ hu => .ite hu.updRx hu.updRx.sdAck.sdEvent.showTable))

theorem State.Keeps.tableInForce {sd img written} (h : s.Keeps t) : s.Keeps (t.tableInForce sd img written) := by
  unfold State.tableInForce
  extract_lets acks s1 s2 s3
  have h1 : s.Keeps s1 := h.updSd
  have h2 : s.Keeps s2 := by
    unfold s2
    split
    · exact h1.sdAck
    · exact h1
  have h3 : s.Keeps s3 := by
    unfold s3
    split
    · exact h2.sdAck
    · exact h2
  exact h3.showTable

theorem execTableCommit_completes {sd} (h : s.Keeps t) : s.Completes (execTableCommit sd t) := by
  unfold execTableCommit
  refine .next ?_
  extract_lets x pick ack
  clear_value pick
  split
  · exact h
  · extract_lets s1 t' s2
    have h1 : s.Keeps s1 := h.updSd
    have h_t' : s.Keeps t' := h1.sdEvent
    have h2 : s.Keeps s2 := .ite (.ite h_t'.sdMode h_t') h1
    exact .ite h2.tableInForce h2.updSd

theorem State.Keeps.forceFrame {d sd f req eff} (h : s.Keeps t) (heff : ∀ u, s.Keeps u → s.Keeps (eff u)) :
    s.Keeps (t.forceFrame d sd f req eff) := .ite h (h.command (fun _ _ => .ite (.done heff) .refuse))

theorem State.Keeps.force {sd k b} (h : s.Keeps t) : s.Keeps (t.force sd k b) := by
  unfold State.force
  extract_lets c s1
  have h1 : s.Keeps s1 := h.updChan.setBoth
  exact .ite h1.latch h1.settle

theorem execForceRelease_completes {d sd frame} (h : s.Keeps t) : s.Completes (execForceRelease d sd frame t) :=
  .next (h.forceFrame (fun _ hu => hu.endForce.settle))

theorem execForceOff_completes {d sd frame} (h : s.Keeps t) : s.Completes (execForceOff d sd frame t) :=
  .next (h.forceFrame (fun _ hu => hu.force))

theorem execForceOn_completes {d sd frame} (h : s.Keeps t) : s.Completes (execForceOn d sd frame t) :=
  .next (h.forceFrame (fun _ hu => hu.force))

theorem execForceTimeout_completes {sd k} (h : s.Keeps t) : s.Completes (execForceTimeout sd k t) :=
  .next (.ite h.endForce.settle h)

theorem execTestTimeout_completes {sd} (h : s.Keeps t) : s.Completes (execTestTimeout sd t) := .next (.ite h.sdMode h)

theorem execSerialWatchdogExpiry_completes {sd} (h : s.Keeps t) : s.Completes (execSerialWatchdogExpiry sd t) := by
  unfold execSerialWatchdogExpiry
  refine .next ?_
  extract_lets x s1
  have h1 : s.Keeps s1 := h.updSd.setBoth
  refine .ite h ?_
  split
  · exact .ite h (.ite h1.sdMode h1.forceFailSafe.sdEvent)
  · exact h1
  · exact h1.forceFailSafe.sdEvent

theorem execSensePathTest_completes {sd k outside} (h : s.Keeps t) : s.Completes (execSensePathTest sd k outside t) :=
  .next (.ite h.updChan.recordBoth h)

theorem execNvmTableCheck_completes {sd crcOk} (h : s.Keeps t) : s.Completes (execNvmTableCheck sd crcOk t) := by
  unfold execNvmTableCheck
  refine .next ?_
  extract_lets x s1
  have h1 : s.Keeps s1 := h.updSd.sdEvent.showTable
  exact .ite (.ite h1.sdMode (.ite h1.settleAll h1)) h

theorem execFailSafeTrip_completes {sd k rms} (h : s.Keeps t) : s.Completes (execFailSafeTrip sd k rms t) :=
  .next (.ite h.latch.sdEvent h)

theorem State.Keeps.takeEdge {sd k level t'} (h : s.Keeps t) : s.Keeps (t.takeEdge sd k level t') := by
  unfold State.takeEdge
  extract_lets c m p s1 s2
  have h1 : s.Keeps s1 := h.updChan
  have h2 : s.Keeps s2 := .ite h1 h1.sdEvent
  exact .ite h.settleAt (.ite h.updChan.settleAt (.ite h.updChan.settleAt (.ite h2 h2.sdEvent)))

theorem execInputLineEdge_completes {sd k line level time} (h : s.Keeps t) :
    s.Completes (execInputLineEdge sd k line level time t) := by
  unfold execInputLineEdge
  extract_lets now x s1 s2 turn s3
  have h1 : s.Keeps s1 := h.updChan
  have h2 : s.Keeps s2 := .ite h1.updChan h1
  have h3 : s.Keeps s3 := h2.updChan
  exact .next (.ite h (.ite h1 (.ite h2 h3.takeEdge)))

theorem execDeferralEnd_completes {sd k} (h : s.Keeps t) : s.Completes (execDeferralEnd sd k t) :=
  .next (.ite h.updChan.settleAt h)

theorem execLineAbsent_completes {sd k line lastPeriod} (h : s.Keeps t) : s.Completes (execLineAbsent sd k line lastPeriod t) :=
  .next (.ite h (.ite h.updChan h.updChan.updChan))

theorem execLineMismatch_completes {sd k} (h : s.Keeps t) : s.Completes (execLineMismatch sd k t) :=
  .next (.ite h.updChan.sdEvent.sdWait h)

theorem execLineChangeTimeout_completes {sd k} (h : s.Keeps t) : s.Completes (execLineChangeTimeout sd k t) := by
  unfold execLineChangeTimeout
  refine .next ?_
  extract_lets c x s1
  have h1 : s.Keeps s1 := h.updChan
  refine .ite ?_ h
  split
  · exact h1.settle
  · exact h1.takeEdge

theorem execLinkSilence_completes {sd link linesAbsent} (h : s.Keeps t) :
    s.Completes (execLinkSilence sd link linesAbsent t) := by
  unfold execLinkSilence
  refine .next ?_
  refine .ite h ?_
  extract_lets s1 x s2
  have h1 : s.Keeps s1 := h.updSd
  have h2 : s.Keeps s2 := h1.steerTo.updSd
  refine .ite h1 ?_
  refine .ite ?_ (.ite h1.enterHold h1)
  refine .sdEvent ?_
  split
  · exact h2.sdWait
  · exact h2

theorem execLinkOutOfStep_completes {sd link} (h : s.Keeps t) : s.Completes (execLinkOutOfStep sd link t) := .next h.updSd

theorem execUpstreamFramesAbsent_completes {d sd returned} (h : s.Keeps t) :
    s.Completes (execUpstreamFramesAbsent d sd returned t) := .next (.ite h (.ite h.updQsd (.ite h.updQsd.sendEntry h)))

theorem State.Keeps.sample {sd k ua} (h : s.Keeps t) : s.Keeps (t.sample sd k ua).1 :=
  .pairFst (.ite h.updChan h.updChan.abortCapture)

theorem State.Keeps.samples {sd l} (h : s.Keeps t) : s.Keeps (t.samples sd l).1 := by
  induction l generalizing t with
  | nil => exact h
  | cons e l ih => exact .iteFst (ih h.sample) (ih h)

theorem State.Keeps.watchClamp {sd k feed vout} (h : s.Keeps t) : s.Keeps (t.watchClamp sd k feed vout) :=
  .ite h.updChan.sdEvent h.updChan

theorem State.Keeps.cycleChan {sd k} (h : s.Keeps t) : s.Keeps (t.cycleChan sd k) :=
  .ite (h.updChan.withFree (fun _ _ hu => hu.updChan.settleAt)) h.updChan

theorem execServiceCycle_completes {sd feed tsub sns meas} (h : s.Keeps t) :
    s.Completes (execServiceCycle sd feed tsub sns meas t) := by
  unfold execServiceCycle
  refine .next ?_
  refine .ite h ?_
  extract_lets nch mine s1 q s3 x even fixed dig tail room go stay
  have h1 : s.Keeps s1 := h.foldl (fun _ _ hu => hu.updChan.watchClamp)
  have h3 : s.Keeps s3 := h1.samples.foldl (fun _ _ hu => hu.cycleChan)
  exact .ite h3.updSd h3.updSd

theorem State.Keeps.keepFrame {d sd f} (h : s.Keeps t) : s.Keeps (t.keepFrame d sd f) := h.updQsd

theorem State.Keeps.statusEntry {d sd} (h : s.Keeps t) : s.Keeps (t.statusEntry d sd) :=
  .ite h (h.updQsd.foldl (fun _ _ hu => hu.streamIn))

theorem State.Keeps.feedEvent {d sd was now f kind} (h : s.Keeps t) : s.Keeps (t.feedEvent d sd was now f kind) :=
  .ite h.setF.record h

theorem State.Keeps.showDie {d sd} (h : s.Keeps t) : s.Keeps (t.showDie d sd) := h.wr.wr

theorem State.Keeps.holdRecord {d sd} (h : s.Keeps t) : s.Keeps (t.holdRecord d sd) := h.updQsd.record

theorem execDstat_completes {d sd frame} (h : s.Keeps t) : s.Completes (execDstat d sd frame t) := by
  unfold execDstat
  refine .next ?_
  refine .upFrame h (fun _ hu => ?_)
  extract_lets v x was uv ov mm s0 s1 line s2 ended s3a s3 s4 s5
  have h0 : s.Keeps s0 := hu.statusEntry.keepFrame
  have h1 : s.Keeps s1 := h0.wr
  have h2 : s.Keeps s2 := h1.setF.setF.setF.setF.setF
  have h3a : s.Keeps s3a := h2.showDie.setF
  have h3 : s.Keeps s3 := .ite h3a.holdRecord h3a
  have h4 : s.Keeps s4 := h3.feedEvent.feedEvent.feedEvent
  have h5 : s.Keeps s5 := .ite h4.updVol h4
  exact .ite h5.sendEntry h5

theorem State.Keeps.showCounts {d sd k} (h : s.Keeps t) : s.Keeps (t.showCounts d sd k) := h.wr.setF.setF.wr

theorem State.Keeps.onEvent {d sd k code n late} (h : s.Keeps t) : s.Keeps (t.onEvent d sd k code n late) := by
  unfold State.onEvent
  extract_lets src g trips showTrips bit s1 w
  have h1 : s.Keeps s1 := h.setF.record
  split
  · exact h.setF.record
  · exact h.setF
  · exact .ite h1.moveToken h1
  · exact .ite h.setF (.ite h h.holdRecord)
  · exact h.setF.showCounts.record
  · exact h.setF.record
  · exact .record (.ite h h.setF)
  · exact .record (.ite h h.setF)
  · exact h.setF.record
  · exact h.setF
  · exact h.setF
  · exact .ite h.wr.showCounts h.wr.showCounts.record
  · exact h.wr.showCounts.record
  · exact h.wr.record
  · exact h.wr.record
  · exact h.wr.record
  · exact h.wr.record
  · exact h.showCounts.updWire
  · exact .ite h.wr h

theorem execEvt_completes {d sd frame} (h : s.Keeps t) : s.Completes (execEvt d sd frame t) := by
  unfold execEvt
  refine .next ?_
  refine .upFrame h (fun _ hu => ?_)
  extract_lets k code key n s1
  have h1 : s.Keeps s1 := hu.keepFrame.updQsd
  exact .ite h1 h1.onEvent

theorem State.Keeps.catchUp {d sd} (h : s.Keeps t) : s.Keeps (t.catchUp d sd) := h.foldl (fun _ _ hu => .ite hu hu.updQsd.onEvent)

theorem execAck_completes {d sd frame} (h : s.Keeps t) : s.Completes (execAck d sd frame t) := by
  unfold execAck
  refine .next ?_
  refine .upFrame h (fun _ hu => ?_)
  extract_lets v typ res tag ch s1 s1' q
  have h1 : s.Keeps s1 := hu.keepFrame.updQsd
  have h1' : s.Keeps s1' := .ite h1.catchUp h1
  exact .ite (.ite h1'.updQsd.sendEntry (.ite h1'.tableAgain h1')) h1'

theorem execSer_completes {d sd frame} (h : s.Keeps t) : s.Completes (execSer d sd frame t) := by
  unfold execSer
  refine .next ?_
  refine .upFrame h (fun _ hu => ?_)
  extract_lets v s1 s2
  have h1 : s.Keeps s1 := hu.keepFrame
  have h2 : s.Keeps s2 := h1.updQsd.setF
  exact .ite (.ite h2.sendEntry h2) h1

theorem execTbldig_completes {d sd frame} (h : s.Keeps t) : s.Completes (execTbldig d sd frame t) := by
  unfold execTbldig
  refine .next ?_
  refine .upFrame h (fun _ hu => ?_)
  extract_lets v s1
  have h1 : s.Keeps s1 := hu.keepFrame.updQsd
  split
  · exact h1.wr
  · exact h1

theorem State.Keeps.chanFrame {d sd f typ act} (h : s.Keeps t) (hact : ∀ u x y, s.Keeps u → s.Keeps (act u x y)) :
    s.Keeps (t.chanFrame d sd f typ act) := h.upFrame (fun _ hu => .ite (hact _ _ _ hu.keepFrame) hu.keepFrame)

theorem execMis_completes {d sd frame} (h : s.Keeps t) : s.Completes (execMis d sd frame t) :=
  .next (h.chanFrame (fun _ _ _ hu => hu.setF))

theorem execMsql_completes {d sd frame} (h : s.Keeps t) : s.Completes (execMsql d sd frame t) :=
  .next (h.chanFrame (fun _ _ _ hu => hu.updQsd))

theorem execMsqh_completes {d sd frame} (h : s.Keeps t) : s.Completes (execMsqh d sd frame t) :=
  .next (h.chanFrame (fun _ _ _ hu => hu.updQsd.setF))

theorem execVout_completes {d sd frame} (h : s.Keeps t) : s.Completes (execVout d sd frame t) :=
  .next (h.chanFrame (fun _ _ _ hu => hu.setF))

theorem execVoutb_completes {d sd frame} (h : s.Keeps t) : s.Completes (execVoutb d sd frame t) :=
  .next (h.chanFrame (fun _ _ _ hu => .ite hu.setF hu))

theorem execTj_completes {d sd frame} (h : s.Keeps t) : s.Completes (execTj d sd frame t) :=
  .next (h.chanFrame (fun _ _ _ hu => hu.updQsd.setF))

theorem execChst_completes {d sd frame} (h : s.Keeps t) : s.Completes (execChst d sd frame t) :=
  .next (h.chanFrame (fun _ _ _ hu => hu.wr.showCounts))

theorem execFeed_completes {d sd frame} (h : s.Keeps t) : s.Completes (execFeed d sd frame t) :=
  .next (h.upFrame (fun _ hu => hu.keepFrame.setF))

theorem execTsub_completes {d sd frame} (h : s.Keeps t) : s.Completes (execTsub d sd frame t) :=
  .next (h.upFrame (fun _ hu => hu.keepFrame.setF))

theorem execTableAckTimeout_completes {d sd} (h : s.Keeps t) : s.Completes (execTableAckTimeout d sd t) :=
  .next (.ite h.tableAgain h)

/-! ### Resets -/

theorem State.Keeps.clearDie {d} (h : s.Keeps t) : s.Keeps (t.clearDie d) := by
  have hdrop : s.Keeps { t with regs := tdrop t.regs (fun k => ownKey d k && !keptReg (k % 0x1000000)) } := h.dropRegs
  exact (hdrop.dropMem (p := clearedByte d)).same

theorem State.Keeps.loseDram {d} (h : s.Keeps t) : s.Keeps (t.loseDram d) := h.updKeep.dropMem

theorem State.Keeps.pairDown (h : s.Keeps t) : s.Keeps (t.pairDown) := by
  unfold State.pairDown
  extract_lets s1 base
  have h1 : s.Keeps s1 := h.updUpd.updUpd
  have h_base : s.Keeps base := h1.setBoth.setBoth
  exact h_base.withLink.keepReserved.keepReserved

theorem State.Keeps.takePaths {lost} (h : s.Keeps t) : s.Keeps (t.takePaths lost) :=
  .foldl (h.foldl (fun _ _ hu => .ite hu.portSilent hu)) (fun _ _ hu => .ite hu.fbSwitch hu)

theorem State.Keeps.takeover {d} (h : s.Keeps t) : s.Keeps (t.takeover d) := by
  unfold State.takeover
  refine .ite h ?_
  extract_lets s1
  have h1 : s.Keeps s1 := h.moveAll.takePaths
  exact .ite h1.steerPorts.coreTakes h1

theorem State.Keeps.stopDie {d run} (h : s.Keeps t) : s.Keeps (t.stopDie d run) := h.updCis.updKeep.takeover.clearDie.pairDown

theorem State.Keeps.fatal {d cause} (h : s.Keeps t) : s.Keeps (t.fatal d cause) := by
  unfold State.fatal
  exact .withFree (.pairDown (.takeover (.updKeep (.updVol (.ite h.addSat h))))) (fun _ _ hu => hu.recordSev)

theorem State.Keeps.withdrawRec {d typ} (h : s.Keeps t) : s.Keeps (t.withdrawRec d typ) := by
  unfold State.withdrawRec
  split
  · exact h
  · refine .ite h ?_
    refine .ite h.updPw ?_
    extract_lets s1 s2 s3
    have h1 : s.Keeps s1 := h.foldl (fun _ _ hu => hu.wr)
    have h2 : s.Keeps s2 := h1.updPw
    have h3 : s.Keeps s3 := h2.updPw
    exact .ite h2 (.ite h3.wr64 h3)

theorem State.Keeps.withdraw {d} (h : s.Keeps t) : s.Keeps (t.withdraw d) := .ite h h.withdrawRec.withdrawRec.withdrawRec

theorem State.Keeps.sleepResult {r} (h : s.Keeps t) : s.Keeps (t.sleepResult r) := h.setF

theorem State.Keeps.resumeNibs (h : s.Keeps t) : s.Keeps (t.resumeNibs) := h.foldl (fun _ _ hu => hu.resumeOn.resumeOn)

theorem State.Keeps.sleepOver {r} (h : s.Keeps t) : s.Keeps (t.sleepOver r) := h.setF.sleepResult.setF.resumeNibs

theorem State.Keeps.dieReset {d cause req} (h : s.Keeps t) : s.Keeps (t.dieReset d cause req) :=
  .ite h (.stopDie (.withdraw (.causeRecord (.ite h.sleepOver h))))

theorem State.Keeps.clearCis {cause} (h : s.Keeps t) : s.Keeps (t.clearCis cause) := h.dropRegs.same

theorem State.Keeps.nonceLost {d} (h : s.Keeps t) : s.Keeps (t.nonceLost d) := by
  unfold State.nonceLost
  extract_lets gone l
  exact .ite h (.foldl h.same (fun _ _ hu => hu.setCell))

theorem State.Keeps.moduleReset {cause req} (h : s.Keeps t) : s.Keeps (t.moduleReset cause req) := by
  unfold State.moduleReset
  extract_lets asleep starts hold s0 s1 s2 base s3 s4
  have h0 : s.Keeps s0 := h.nonceLost.nonceLost
  have h1 : s.Keeps s1 := h0.updKeep.clearDie.wr.updKeep.clearDie.wr.pairDown
  have h2 : s.Keeps s2 := h1.clearCis
  have h3 : s.Keeps s3 := h2.withPorts
  have h4 : s.Keeps s4 := .ite h3.wr64 h3
  exact h4.causeAgain.updCis

theorem State.Keeps.forgetSd {sd} (h : s.Keeps t) : s.Keeps (t.forgetSd sd) := h.updQsd.updQsd.wr.wr

theorem State.Keeps.switchDieReset {sd cause req} (h : s.Keeps t) : s.Keeps (t.switchDieReset sd cause req) :=
  h.causeAgain.updSd.forgetSd

theorem State.Keeps.enterStandby {sd} (h : s.Keeps t) : s.Keeps (t.enterStandby sd) :=
  .ite h (.settleAll (.updSd (h.foldl (fun _ _ hu => hu.updChan))))

theorem State.Keeps.leaveStandby {sd} (h : s.Keeps t) : s.Keeps (t.leaveStandby sd) := h.updSd.settleAll

/-! ### ZoneOps -/

theorem State.Keeps.updZg {d f} (h : s.Keeps t) : s.Keeps (t.updZg d f) := h.updVol

theorem State.Keeps.updZgBoth {f} (h : s.Keeps t) : s.Keeps (t.updZgBoth f) := h.updZg.updZg

theorem State.Keeps.setMem {d m b} (h : s.Keeps t) : s.Keeps (t.setMem d m b) := h.wr

theorem State.Keeps.setSlow {d m b} (h : s.Keeps t) : s.Keeps (t.setSlow d m b) := h.wr

theorem State.Keeps.updMember {d m f} (h : s.Keeps t) : s.Keeps (t.updMember d m f) := h.updZg

theorem State.Keeps.zgSend {typ dst body} (h : s.Keeps t) : s.Keeps (t.zgSend typ dst body) :=
  .ite h (.foldl (.ite h.updZg.updZg h.updZg) (fun _ _ hu => hu.updMac))

theorem State.Keeps.zgTx {d typ dst body} (h : s.Keeps t) : s.Keeps (t.zgTx d typ dst body) := .ite h.updZg.zgSend h.updZg

theorem State.Keeps.zgCast {d typ body} (h : s.Keeps t) : s.Keeps (t.zgCast d typ body) := h.zgTx

theorem State.Keeps.zgHear {d port f typ act} (h : s.Keeps t) (hact : ∀ u, s.Keeps u → s.Keeps (act u)) :
    s.Keeps (t.zgHear d port f typ act) := .ite h (.ite (hact _ h) h.addSat)

theorem State.Keeps.entryLearned {d e} (h : s.Keeps t) : s.Keeps (t.entryLearned d e) := h.record.setF

theorem State.Keeps.ackEntry {d e} (h : s.Keeps t) : s.Keeps (t.ackEntry d e) := h.zgCast

theorem State.Keeps.openLedger {d subj kind detail byId n} (h : s.Keeps t) :
    s.Keeps (t.openLedger d subj kind detail byId n) := by
  unfold State.openLedger
  split
  · exact h.addSat.updZg
  · exact h.wr.wr.wr.wr.updZg.entryLearned.ackEntry

theorem State.Keeps.closeEntries {d subj kind} (h : s.Keeps t) : s.Keeps (t.closeEntries d subj kind) :=
  h.foldl (fun _ _ hu => .ite hu.setF hu)

theorem State.Keeps.observe {d subj kind detail} (h : s.Keeps t) : s.Keeps (t.observe d subj kind detail) :=
  .ite h.openLedger (.ite h h.updZg)

theorem State.Keeps.updObs {d subj kind detail f} (h : s.Keeps t) : s.Keeps (t.updObs d subj kind detail f) := h.updZg

theorem State.Keeps.showSpan {d} (h : s.Keeps t) : s.Keeps (t.showSpan d) := h.wr

theorem State.Keeps.showView {d n coord b1 b2} (h : s.Keeps t) : s.Keeps (t.showView d n coord b1 b2) := by
  unfold State.showView
  extract_lets own st inV s1 s2 s3 s4 new s5 s6 s7
  have h1 : s.Keeps s1 := .ite h h.setF
  have h2 : s.Keeps s2 := .ite h1 h1.setF
  have h3 : s.Keeps s3 := h2.wr.setF.wr
  have h4 : s.Keeps s4 := h3.setF
  have h5 : s.Keeps s5 := h4.setF
  have h6 : s.Keeps s6 := h5.setF
  have h7 : s.Keeps s7 := .showSpan (.ite h6.updZg h6)
  exact .ite h7.holdover.setF.setF h7

theorem State.Keeps.sendView {d} (h : s.Keeps t) : s.Keeps (t.sendView d) := by
  unfold State.sendView
  extract_lets body s1
  have h1 : s.Keeps s1 := h.zgCast
  refine .foldl h1 (fun _ _ hu => ?_)
  split
  · exact hu.zgCast
  · exact hu

theorem State.Keeps.makeView {d coord} (h : s.Keeps t) : s.Keeps (t.makeView d coord) := h.showView.sendView

theorem State.Keeps.changeView {d} (h : s.Keeps t) : s.Keeps (t.changeView d) := h.makeView

theorem State.Keeps.dropMember {d m} (h : s.Keeps t) : s.Keeps (t.dropMember d m) := .setSlow (.setMem (.ite h.closeEntries h))

theorem State.Keeps.ackPending {d} (h : s.Keeps t) : s.Keeps (t.ackPending d) :=
  .foldl (h.updZg.foldl (fun _ _ hu => hu.openLedger)) (fun _ _ hu => hu.openLedger)

theorem State.Keeps.takeCharge {d} (h : s.Keeps t) : s.Keeps (t.takeCharge d) := h.setMem.makeView.ackPending

theorem State.Keeps.adoptView {d b} (h : s.Keeps t) : s.Keeps (t.adoptView d b) := by
  unfold State.adoptView
  extract_lets s1 s2
  have h1 : s.Keeps s1 := by
    refine .foldl h (fun _ _ hu => ?_)
    extract_lets bit mem slow a c
    have h_a : s.Keeps a := .ite hu.closeEntries.updMember hu
    have h_c : s.Keeps c := .ite h_a.closeEntries h_a
    exact .ite h_c h_c.setMem.setSlow
  have h2 : s.Keeps s2 := h1.showView
  exact .ite h2.ackPending h2

theorem State.Keeps.sendLeave {d reason} (h : s.Keeps t) : s.Keeps (t.sendLeave d reason) := h.zgCast

theorem State.Keeps.outOfView {d st} (h : s.Keeps t) : s.Keeps (t.outOfView d st) :=
  .ite (.setF (.setF (.setF (h.foldl (fun _ _ hu => .ite hu.dropMember hu))))) h

theorem State.Keeps.sleepLeave (h : s.Keeps t) : s.Keeps (t.sleepLeave) := .ite h.sendLeave.outOfView.outOfView h

theorem State.Keeps.setRoam {d p st holder} (h : s.Keeps t) : s.Keeps (t.setRoam d p st holder) := h.setF.setF

theorem State.Keeps.stopRoam {d p st holder} (h : s.Keeps t) : s.Keeps (t.stopRoam d p st holder) :=
  .ite h.setRoam.partReset h.setRoam

theorem State.Keeps.applyGrant {d key holder} (h : s.Keeps t) : s.Keeps (t.applyGrant d key holder) := by
  unfold State.applyGrant
  extract_lets own was s1
  have h1 : s.Keeps s1 := h.updZg
  refine .foldl h1 (fun _ _ hu => ?_)
  split
  · exact .ite hu (.ite (.ite hu.setRoam hu.setRoam.setF) hu.stopRoam)
  · exact hu

theorem State.Keeps.sendRegion {d r snap m} (h : s.Keeps t) : s.Keeps (t.sendRegion d r snap m) :=
  h.foldl (fun _ _ hu => hu.zgSend)

theorem State.Keeps.tagNote {d reg who tag} (h : s.Keeps t) : s.Keeps (t.tagNote d reg who tag) := h.updVol

theorem State.Keeps.zgCmd {d who confirm tag act} (h : s.Keeps t) (hact : ∀ u, s.Keeps u → s.Keeps (act u).1) :
    s.Keeps (t.zgCmd d who confirm tag act) := .ite (.setF (hact _ h.tagNote)) h

theorem State.Keeps.remErr {d m reason} (h : s.Keeps t) : s.Keeps (t.remErr d m reason) := h.setF.setF.addSat.setF

theorem State.Keeps.remReply {op size} (h : s.Keeps t) : s.Keeps (t.remReply op size) := h.reply

theorem State.Keeps.remFail {d m op reason} (h : s.Keeps t) : s.Keeps (t.remFail d m op reason) := .ite h.remErr h.remErr.remReply

theorem State.Keeps.sendReqs {d m n} (h : s.Keeps t) : s.Keeps (t.sendReqs d m n) := by
  induction n generalizing t with
  | zero => exact h
  | succ n ih =>
    unfold State.sendReqs
    extract_lets mine
    split
    · exact .ite (ih h.updZg.remFail) (.ite h (ih h.updZg.zgSend))
    · exact h

theorem State.Keeps.endLock {inst} (h : s.Keeps t) : s.Keeps (t.endLock inst) := h.updZgBoth

theorem State.Keeps.answerReq {d f st data} (h : s.Keeps t) : s.Keeps (t.answerReq d f st data) := h.zgSend

theorem State.Keeps.serveReq {d f} (h : s.Keeps t) : s.Keeps (t.serveReq d f) := by
  unfold State.serveReq
  extract_lets b m op wide e off data part seq blk inst ok locked put now key stale s1
  have h1 : s.Keeps s1 := .ite h h.updZgBoth
  refine .ite h.answerReq ?_
  refine .ite h.updZgBoth.answerReq ?_
  refine .ite h.answerReq ?_
  clear_value op
  split
  · exact h.answerReq
  · exact .ite h.answerReq h1.regWrite.answerReq
  · exact h.updZgBoth.answerReq
  · clear_value locked
    split
    · exact .ite h.regWrite.endLock.answerReq h.answerReq
    · exact h.answerReq
  · split
    · exact h.regWrite.answerReq
    · exact h.answerReq
  · exact h.answerReq

theorem State.Keeps.serveWaits {d n} (h : s.Keeps t) : s.Keeps (t.serveWaits d n) := by
  induction n generalizing t with
  | zero => exact h
  | succ n ih =>
    unfold State.serveWaits
    split
    · exact ih h.updZg.serveReq
    · exact h

theorem State.Keeps.localWrite {d off} (h : s.Keeps t) : s.Keeps (t.localWrite d off) := h.updZgBoth.serveWaits

theorem State.Keeps.zgStart {d} (h : s.Keeps t) : s.Keeps (t.zgStart d) := by
  unfold State.zgStart
  extract_lets own s1
  have h1 : s.Keeps s1 := by
    refine .foldl h (fun _ _ hu => ?_)
    split
    · exact .ite hu.setRoam hu.setRoam.holdReset
    · exact hu
  exact .ite h1.setF.updZg h1

/-! ### Cistern -/

theorem State.Keeps.noteTag {reg who tag} (h : s.Keeps t) : s.Keeps (t.noteTag reg who tag) := by
  unfold State.noteTag
  split
  · exact h.updPw
  · exact h

theorem State.Keeps.cisWrite {d r eff} (h : s.Keeps t) (heff : ∀ u, s.Keeps u → s.Keeps (eff u)) :
    s.Keeps (t.cisWrite d r eff) := by
  unfold State.cisWrite
  split
  · exact .ite (.updPw (heff _ h)) h
  · exact .updPw (heff _ h)

theorem execEnergyPolicyRecord_completes {d r} (h : s.Keeps t) : s.Completes (execEnergyPolicyRecord d r t) := by
  unfold execEnergyPolicyRecord
  extract_lets b pin
  refine .next ?_
  refine .applyRec h (fun _ hu => ?_)
  refine .cisWrite hu (fun _ hv => ?_)
  extract_lets s1 s2
  have h1 : s.Keeps s1 := hv.wr.wr.wr
  have h2 : s.Keeps s2 := h1.updPw
  exact .ite h2.wr64 h2

theorem execWakePinsRecord_completes {d r} (h : s.Keeps t) : s.Completes (execWakePinsRecord d r t) :=
  .next (h.applyRec (fun _ hu => hu.cisWrite (fun _ hv => hv.wr)))

theorem execFeedWatchRecord_completes {d r} (h : s.Keeps t) : s.Completes (execFeedWatchRecord d r t) :=
  .next (h.applyRec (fun _ hu => hu.cisWrite (fun _ hv => hv.wr)))

theorem execLaneDisagreement_completes {lane} (h : s.Keeps t) : s.Completes (execLaneDisagreement lane t) := by
  unfold execLaneDisagreement
  refine .next ?_
  extract_lets l fenced ts s1 s2
  have h1 : s.Keeps s1 := h.addSat.updPw
  have h2 : s.Keeps s2 := h1.recordBoth
  exact .ite h (.ite h.moduleReset (.ite h2.setF.setF h2))

theorem execSupervisorTimeout_completes (h : s.Keeps t) : s.Completes (execSupervisorTimeout t) := .next (.ite h.moduleReset h)

theorem execRegulatorFailure_completes {d} (h : s.Keeps t) : s.Completes (execRegulatorFailure d t) :=
  .next (.ite h (.updPw (.setF (.updKeep (.loseDram (.stopDie (.ite h h.loseField)))))))

theorem execRegulatorRestart_completes {d ok} (h : s.Keeps t) : s.Completes (execRegulatorRestart d ok t) :=
  .next (.ite h (.ite h.updPw.setF.updKeep.dieReset h.updPw))

theorem execRtcCrystalStop_completes (h : s.Keeps t) : s.Completes (execRtcCrystalStop t) := .next h.setF.setF

theorem State.Keeps.prepare (h : s.Keeps t) : s.Keeps (t.prepare) :=
  h.setF.updVol.updVol.foldl (fun _ _ hu => .ite hu hu.streamBoth)

theorem State.Keeps.sleepReq {d who confirm tag pin usePin target} (h : s.Keeps t) :
    s.Keeps (t.sleepReq d who confirm tag pin usePin target) := by
  unfold State.sleepReq
  refine .ite h ?_
  extract_lets w s1
  have h1 : s.Keeps s1 := h.noteTag.setF.setF
  exact .ite h1.sleepResult h1.updPw.sleepResult.prepare

theorem execSleepDrowse_completes {d who confirm tag pin usePin} (h : s.Keeps t) :
    s.Completes (execSleepDrowse d who confirm tag pin usePin t) := .next h.sleepReq

theorem execSleepDormant_completes {d who confirm tag pin usePin} (h : s.Keeps t) :
    s.Completes (execSleepDormant d who confirm tag pin usePin t) := .next h.sleepReq

theorem execSleepSentinel_completes {d who confirm tag pin usePin} (h : s.Keeps t) :
    s.Completes (execSleepSentinel d who confirm tag pin usePin t) := .next h.sleepReq

theorem State.Keeps.setBalance {x} (h : s.Keeps t) : s.Keeps (t.setBalance x) := h.wr64

theorem State.Keeps.credit {mwh} (h : s.Keeps t) : s.Keeps (t.credit mwh).2 := .iteSnd (.pair h.setBalance) (.pair h.setBalance)

theorem State.Keeps.setErrand {i st} (h : s.Keeps t) : s.Keeps (t.setErrand i st) := h.setF

theorem State.Keeps.refuseErrand {i reason} (h : s.Keeps t) : s.Keeps (t.refuseErrand i reason) := by
  unfold State.refuseErrand
  extract_lets s1 tell
  have h1 : s.Keeps s1 := h.setErrand.setF.setF
  exact .ite (.record (.ite h1.record h1.updLed)) (.updLed (.ite h1.record h1.updLed))

theorem State.Keeps.reportErrands {d} (h : s.Keeps t) : s.Keeps (t.reportErrands d) := .updLed (h.foldl (fun _ _ hu => hu.record))

theorem State.Keeps.endErrandWake (h : s.Keeps t) : s.Keeps (t.endErrandWake) := .ite h h.setF.setF.updLed

theorem State.Keeps.defaultGrant {target} (h : s.Keeps t) : s.Keeps (t.defaultGrant target) := .ite h.credit h

theorem State.Keeps.gateIslands {d on} (h : s.Keeps t) : s.Keeps (t.gateIslands d on) :=
  .rillsRun (h.foldl (fun _ _ hu => hu.setF))

theorem State.Keeps.offBoth (h : s.Keeps t) : s.Keeps (t.offBoth) :=
  h.loseField.updKeep.clearDie.loseDram.updKeep.clearDie.loseDram.pairDown

theorem State.Keeps.clearRetention (h : s.Keeps t) : s.Keeps t.clearRetention := h.dropRegs

theorem State.Keeps.enterSentinel (h : s.Keeps t) : s.Keeps (t.enterSentinel) :=
  h.setF.updCis.offBoth.clearRetention.foldl (fun _ _ hu => hu.updSd.forgetSd)

theorem State.Keeps.floorReached (h : s.Keeps t) : s.Keeps (t.floorReached) := by
  unfold State.floorReached
  refine .ite ?_ h
  extract_lets s1 s2
  have h1 : s.Keeps s1 := h.foldl (fun _ _ hu => .ite hu.refuseErrand hu)
  have h2 : s.Keeps s2 := h1.updPw
  exact h2.setF.enterSentinel

theorem State.Keeps.lagOn (h : s.Keeps t) : s.Keeps (t.lagOn) :=
  .ite h (h.onDies (fun _ _ hu => hu.foldl (fun _ _ hv => .ite hv.goAlone hv)))

theorem execCommitPoint_completes {can eth edges prepUs} (h : s.Keeps t) :
    s.Completes (execCommitPoint can eth edges prepUs t) := by
  unfold execCommitPoint
  refine .next ?_
  extract_lets s' t' s0 s1 s2 s3 s4 s5
  have h' : s.Keeps s' := h.lagOn
  have h0 : s.Keeps s0 := h'.setF.setF
  have h1 : s.Keeps s1 := h0.sleepLeave.defaultGrant.endErrandWake
  have h2 : s.Keeps s2 := h1.setF.updPw
  have h3 : s.Keeps s3 := h2.foldl (fun _ _ hu => hu.enterStandby)
  have h4 : s.Keeps s4 := h3.onDies (fun _ _ hu => hu.putRetention)
  have h5 : s.Keeps s5 := h4.foldl (fun _ _ hu => .ite hu.setErrand hu)
  refine .ite ?_ ?_
  · exact h'
  · exact .ite h0.sleepOver (.ite h2.enterSentinel (.ite h3.gateIslands.gateIslands.setF h5.setF.offBoth.floorReached))

theorem execSleepTimeout_completes (h : s.Keeps t) : s.Completes (execSleepTimeout t) := .next (.ite h.sleepOver h)

theorem execStandbyRelease_completes {sd} (h : s.Keeps t) : s.Completes (execStandbyRelease sd t) := .next (.ite h.leaveStandby h)

theorem State.Keeps.showWake {src} (h : s.Keeps t) : s.Keeps (t.showWake src) := by
  unfold State.showWake
  exact h.wr.sleepResult.setF.updPw

theorem execWakeFromDrowse_completes {eth} (h : s.Keeps t) : s.Completes (execWakeFromDrowse eth t) :=
  .next (.ite h (h.showWake.setF.gateIslands.gateIslands.resumeNibs.drainFifos.drainFifos.foldl (fun _ _ hu => hu.sendEntry)))

theorem execWakeFromDormant_completes {eth} (h : s.Keeps t) : s.Completes (execWakeFromDormant eth t) := by
  unfold execWakeFromDormant
  refine .next ?_
  extract_lets src s1 up s2
  have h1 : s.Keeps s1 := h.showWake.setF
  have h2 : s.Keeps s2 := .updPw (.grantAll (.ite (.ite h1 h1.updKeep.causeRecord) (.causeRecord (.updKeep (.ite h1
      h1.updKeep.causeRecord)))))
  exact .ite h (.ite h2.updLed h2)

theorem execWakeFromSentinel_completes (h : s.Keeps t) : s.Completes (execWakeFromSentinel t) :=
  .next (.ite h h.updKeep.updKeep.moduleReset.wr.setF)

theorem execWakePinEdge_completes {pin level} (h : s.Keeps t) : s.Completes (execWakePinEdge pin level t) :=
  .next (.ite h.updPw.latchWake h.updPw)

theorem execRtcAlarm_completes (h : s.Keeps t) : s.Completes (execRtcAlarm t) := .next (.ite h.setF.latchWake h)

theorem execAlarmWrite_completes {d who high v} (h : s.Keeps t) : s.Completes (execAlarmWrite d who high v t) :=
  .next (.ite h (.ite h.wr.wr.updPw h.updPw))

theorem State.Keeps.integrate {lo hi acc unit} (h : s.Keeps t) : s.Keeps (t.integrate lo hi acc unit).2 := .pair h.wr64

theorem execMeterSample_completes {feedB volt cur own} (h : s.Keeps t) : s.Completes (execMeterSample feedB volt cur own t) := by
  unfold execMeterSample
  refine .next ?_
  extract_lets f asleep v i l q e acc spent s1 s2 l4 mean s3 s4
  have h1 : s.Keeps s1 := .ite h.integrate.integrate.setBalance h.integrate.integrate
  have h2 : s.Keeps s2 := h1.updLed
  have h3 : s.Keeps s3 := h2.setF.wr
  have h4 : s.Keeps s4 := h3.setF.updPw
  exact .ite h2 (.ite h4.wr h4)

theorem State.Keeps.addChannel {d n} (h : s.Keeps t) : s.Keeps (t.addChannel d n) := h.integrate.wr64.updLed.updWire.updWire

theorem execEnergyReport_completes {d c} (h : s.Keeps t) : s.Completes (execEnergyReport d c t) :=
  .next (.ite (h.foldl (fun _ _ hu => hu.addChannel)) h)

theorem execBalanceFloor_completes (h : s.Keeps t) : s.Completes (execBalanceFloor t) := .next h.floorReached

theorem execGrant_completes {d who amount tag} (h : s.Keeps t) : s.Completes (execGrant d who amount tag t) := by
  unfold execGrant
  refine .next ?_
  refine .ite h ?_
  extract_lets s1 r
  have h1 : s.Keeps s1 := h.noteTag.setF.setF
  exact .ite h1.credit.setF.updPw h1.setF

theorem State.Keeps.errandResult {r reason} (h : s.Keeps t) : s.Keeps (t.errandResult r reason) := h.setF.setF

theorem State.Keeps.errandCmd {d who confirm tag act} (h : s.Keeps t) (hact : ∀ u, s.Keeps u → s.Keeps (act u)) :
    s.Keeps (t.errandCmd d who confirm tag act) := .ite h (.ite (hact _ h.noteTag) h.noteTag.errandResult)

theorem execErrandAdd_completes {d who confirm tag slot} (h : s.Keeps t) : s.Completes (execErrandAdd d who confirm tag slot t) :=
  .next (h.errandCmd (fun _ hu => .ite hu.errandResult (.ite hu.errandResult (.ite hu.errandResult hu.updLed.wr.errandResult))))

theorem execErrandCancel_completes {d who confirm tag slot} (h : s.Keeps t) :
    s.Completes (execErrandCancel d who confirm tag slot t) := .next (h.errandCmd (fun _ hu => hu.wr.updLed.errandResult))

theorem execErrandDone_completes {d who confirm tag slot} (h : s.Keeps t) :
    s.Completes (execErrandDone d who confirm tag slot t) := .next (h.errandCmd (fun _ hu => .ite
        hu.setErrand.updLed.errandResult hu.errandResult))

theorem execErrandDue_completes (h : s.Keeps t) : s.Completes (execErrandDue t) := by
  unfold execErrandDue
  refine .next ?_
  refine .ite (h.foldl (fun _ _ hu => .ite hu.setErrand.setF hu)) ?_
  refine .ite ?_ h
  split
  · exact h
  · exact .ite h.setErrand.updLed.latchWake h.setErrand

theorem execErrandDeadline_completes (h : s.Keeps t) : s.Completes (execErrandDeadline t) :=
  .next (h.foldl (fun _ _ hu => .ite hu.refuseErrand hu))

theorem execErrandOverrun_completes (h : s.Keeps t) : s.Completes (execErrandOverrun t) := by
  unfold execErrandOverrun
  refine .next ?_
  split
  · exact .ite h.setF h
  · exact h

theorem execLimitUpdate_completes {tplate meanA meanB q0 q1} (h : s.Keeps t) :
    s.Completes (execLimitUpdate tplate meanA meanB q0 q1 t) := by
  unfold execLimitUpdate
  refine .next ?_
  extract_lets t' stud agg s1 thr ws wa warn s2 s3 high
  have h2 : s.Keeps s2 := .ite h.wr.setF h.wr
  have hhigh : ∀ u d q, s.Keeps u → s.Keeps (high u d q) :=
    fun _ _ _ hu => .ite (hu.setF.withFree (fun _ _ hv => hv.record)) hu
  exact hhigh _ _ _ (hhigh _ _ _ h2.wr)

theorem State.Keeps.faultMove {t' d} (h : s.Keeps t) : s.Keeps (t.faultMove t' d) := by
  unfold State.faultMove
  refine .ite h ?_
  extract_lets s1
  have h1 : s.Keeps s1 := h.moveToken.updPw
  exact .ite h1.steerPorts.coreTakes h1

theorem execHolderSilent_completes {d} (h : s.Keeps t) : s.Completes (execHolderSilent d t) :=
  .next (h.foldl (fun _ _ hu => .ite hu.faultMove hu))

theorem execFaultReport_completes {d t' answer} (h : s.Keeps t) : s.Completes (execFaultReport d t' answer t) := by
  unfold execFaultReport
  refine .next ?_
  refine .ite h ?_
  refine .ite h.faultMove ?_
  split
  · exact h.faultMove
  · exact h.updPw.recordBoth
  · exact h.updPw

theorem execReportConfirmTimeout_completes {t'} (h : s.Keeps t) : s.Completes (execReportConfirmTimeout t' t) := by
  unfold execReportConfirmTimeout
  refine .next ?_
  split
  · exact .ite h.faultMove h
  · exact h

theorem State.Keeps.swapTo {t' d} (h : s.Keeps t) : s.Keeps (t.swapTo t' d) :=
  .ite h (.ite h.drainFeed.moveToken.steerPorts h.moveToken)

theorem execRoleSwapRequest_completes {d who confirm tag token die} (h : s.Keeps t) :
    s.Completes (execRoleSwapRequest d who confirm tag token die t) := .next (.ite h (.ite (.setF (h.noteTag.foldl (fun _ _ hu =>
        hu.swapTo))) h.noteTag.setF))

/-! ### Blotter -/

theorem State.Keeps.clearSummary {d} (h : s.Keeps t) : s.Keeps (t.clearSummary d) := h.putBytes.updVol

theorem State.Keeps.showSumok {d rebuilt} (h : s.Keeps t) : s.Keeps (t.showSumok d rebuilt) := h.updKeep.setF

theorem State.Keeps.loadSummary {d} (h : s.Keeps t) : s.Keeps (t.loadSummary d) :=
  .ite h.updVol.putBytes.sealSummary.showSumok h.clearSummary.showSumok

theorem State.Keeps.takeHandover {d n b} (h : s.Keeps t) : s.Keeps (t.takeHandover d n b) := .ite h.updWire.updLane h.updWire

theorem State.Keeps.dumpFlags {d slot flags} (h : s.Keeps t) : s.Keeps (t.dumpFlags d slot flags) := h.putBytes.putBytes

/-! ### Faults -/

theorem execFaultPolicyRecord_completes {d r} (h : s.Keeps t) : s.Completes (execFaultPolicyRecord d r t) :=
  .next (h.applyRec (fun _ hu => hu.setF.setF))

theorem execSummaryWrite_completes {d cls} (h : s.Keeps t) : s.Completes (execSummaryWrite d cls t) :=
  .next (.ite h.putBytes.updVol h)

theorem State.Keeps.fltResult {d r reason} (h : s.Keeps t) : s.Keeps (t.fltResult d r reason) := h.setF.setF

theorem State.Keeps.fltCmd {d who confirm act} (h : s.Keeps t) (hact : ∀ u, s.Keeps u → s.Keeps (act u)) :
    s.Keeps (t.fltCmd d who confirm act) := .ite (hact _ h) h

theorem State.Keeps.setCond7 {d b} (h : s.Keeps t) : s.Keeps (t.setCond7 d b) := h.updVol.fltResult

theorem execFaultAssert_completes {d who confirm} (h : s.Keeps t) : s.Completes (execFaultAssert d who confirm t) :=
  .next (h.fltCmd (fun _ hu => hu.setCond7))

theorem execFaultRelease_completes {d who confirm} (h : s.Keeps t) : s.Completes (execFaultRelease d who confirm t) :=
  .next (h.fltCmd (fun _ hu => hu.setCond7))

theorem execBlotterRead_completes {d who confirm} (h : s.Keeps t) : s.Completes (execBlotterRead d who confirm t) := by
  unfold execBlotterRead
  refine .next ?_
  refine .fltCmd h (fun _ hu => ?_)
  split
  · exact hu.fltResult
  · exact .ite hu.dmaPut.fltResult hu.fltResult

theorem execBlotterRelease_completes {d who confirm} (h : s.Keeps t) : s.Completes (execBlotterRelease d who confirm t) := by
  unfold execBlotterRelease
  refine .next ?_
  refine .fltCmd h (fun _ hu => ?_)
  split
  · exact hu.fltResult
  · exact hu.updKeep.setF.fltResult

theorem execClearsum_completes {d who confirm} (h : s.Keeps t) : s.Completes (execClearsum d who confirm t) :=
  .next (h.fltCmd (fun _ hu => hu.clearSummary.showSumok.fltResult))

theorem execFatalFailure_completes {d cause} (h : s.Keeps t) : s.Completes (execFatalFailure d cause t) := .next (.ite h.fatal h)

theorem execManagementWatchdogExpiry_completes {d} (h : s.Keeps t) : s.Completes (execManagementWatchdogExpiry d t) :=
  .next (.ite h.fatal h)

theorem execDump_completes {d who confirm} (h : s.Keeps t) : s.Completes (execDump d who confirm t) :=
  .next (h.fltCmd (fun _ hu => .ite hu.fltResult.fatal hu.fltResult))

theorem execDumpComplete_completes {d} (h : s.Keeps t) : s.Completes (execDumpComplete d t) := by
  unfold execDumpComplete
  refine .next ?_
  extract_lets f all secs cut
  split
  · exact h
  · refine .ite h ?_
    extract_lets bytes s1
    have h1 : s.Keeps s1 := by
      unfold s1
      split
      · exact h
      · exact h.putBytes.updKeep
    exact .ite h1.moduleReset (.ite h1.dieReset h1.dieReset)

theorem execBlotterCopy_completes {d} (h : s.Keeps t) : s.Completes (execBlotterCopy d t) := by
  unfold execBlotterCopy
  refine .next ?_
  extract_lets k dst s1
  have h1 : s.Keeps s1 := .ite h.addSat h
  split
  · exact h
  · split
    · exact h
    · refine .ite h ?_
      extract_lets s2 s3 bits
      have h2 : s.Keeps s2 := h1.bulkPut.dumpFlags
      have h3 : s.Keeps s3 := h2.updKeep
      exact h3.setF.setF.setF

theorem execScrubPass_completes {d dram} (h : s.Keeps t) : s.Completes (execScrubPass d dram t) := .next (.ite h.addSat h)

theorem execSramRowRemap_completes {d mem bank row lost} (h : s.Keeps t) : s.Completes (execSramRowRemap d mem bank row lost t) :=
  .next (.ite h (.ite h.record h.updKeep.addSat.setF.record))

theorem execDramRowRepair_completes {d bank row} (h : s.Keeps t) : s.Completes (execDramRowRepair d bank row t) :=
  .next (.ite h (.ite h.record h.updKeep.addSat.setF.record))

theorem execDramEccError_completes {d dux addr applying} (h : s.Keeps t) :
    s.Completes (execDramEccError d dux addr applying t) := by
  unfold execDramEccError
  refine .next ?_
  extract_lets x a one
  refine .ite ?_ ?_
  · exact h
  · refine .ite ?_ ?_
    · exact .ite (.record (.ite h.goAlone h)) (h.duxFails (fun _ hu => hu.record))
    · exact .reply (.record (.ite (.trap (.ite h.trap h)) (.ite h.trap h)))

theorem execKatStep_completes {d pass} (h : s.Keeps t) : s.Completes (execKatStep d pass t) :=
  .next (.ite h (.ite h.updVol h.updVol.setF))

theorem execPartitionResetHeld_completes {d p} (h : s.Keeps t) : s.Completes (execPartitionResetHeld d p t) :=
  .next (.ite h.updVol h)

/-! ### Security -/

theorem State.Keeps.updSec {d f} (h : s.Keeps t) : s.Keeps (t.updSec d f) := h.updVol

theorem State.Keeps.draw {d} (h : s.Keeps t) : s.Keeps (t.draw d).2 := .pair h.updKeep

theorem State.Keeps.drawBytes {d n} (h : s.Keeps t) : s.Keeps (t.drawBytes d n).2 := .pair h.updKeep

theorem State.Keeps.eraseKeys {d} (h : s.Keeps t) : s.Keeps (t.eraseKeys d) := by
  unfold State.eraseKeys
  refine .ite h ?_
  extract_lets k s1 busy s2 s3 s4 reps
  have h1 : s.Keeps s1 := h.putBytes
  have h2 : s.Keeps s2 := h1.updSec.updKeep
  have h3 : s.Keeps s3 := .ite h2.setF.setF h2
  have h4 : s.Keeps s4 := h3.setF.record
  exact h4.updCis

theorem execDebugPolicyRecord_completes {d r} (h : s.Keeps t) : s.Completes (execDebugPolicyRecord d r t) :=
  .next (h.applyRec (fun _ hu => hu.updSec.setF))

theorem execSealedKeyStoreRecord_completes {d r} (h : s.Keeps t) : s.Completes (execSealedKeyStoreRecord d r t) :=
  .next (h.applyRec (fun _ hu => hu.updSec))

theorem execDieGlitch_completes {d} (h : s.Keeps t) : s.Completes (execDieGlitch d t) := .next (.ite h h.addSat.updKeep.dieReset)

theorem execCisternGlitch_completes (h : s.Keeps t) : s.Completes (execCisternGlitch t) :=
  .next (.ite h.addSat.addSat.moduleReset h)

theorem execDrbgHealthFail_completes {d} (h : s.Keeps t) : s.Completes (execDrbgHealthFail d t) := .next (.ite h.updSec.record h)

theorem State.Keeps.dbgResult {d r reason} (h : s.Keeps t) : s.Keeps (t.dbgResult d r reason) := h.setF.setF

theorem State.Keeps.dbgRefuseFree {d} (h : s.Keeps t) : s.Keeps (t.dbgRefuseFree d) := h.withFree (fun _ _ hu => hu.dbgResult)

theorem State.Keeps.dbgCmd {d who confirm act} (h : s.Keeps t) (hact : ∀ u, s.Keeps u → s.Keeps (act u)) :
    s.Keeps (t.dbgCmd d who confirm act) := .ite (hact _ h) h

theorem execChallenge_completes {d who confirm} (h : s.Keeps t) : s.Completes (execChallenge d who confirm t) :=
  .next (h.dbgCmd (fun _ hu => .ite hu.dbgResult (.ite hu.dbgRefuseFree (.dbgResult (hu.draw.updSec.foldl (fun _ _ hv =>
      hv.wr))))))

theorem execUnlock_completes {d who confirm scope} (h : s.Keeps t) : s.Completes (execUnlock d who confirm scope t) := by
  unfold execUnlock
  refine .next ?_
  refine .dbgCmd h (fun _ hu => ?_)
  refine .ite hu ?_
  refine .ite hu.dbgResult ?_
  refine .ite hu.dbgRefuseFree ?_
  refine .ite hu.dbgResult ?_
  split
  · exact hu.dbgResult
  · exact .ite hu.updSec.dbgResult hu.updSec.dbgResult

theorem State.Keeps.openScope {d scope} (h : s.Keeps t) : s.Keeps (t.openScope d scope) := h.setF.dieReset

theorem execUnlockVerified_completes {d} (h : s.Keeps t) : s.Completes (execUnlockVerified d t) := by
  unfold execUnlockVerified
  refine .next ?_
  split
  · exact h
  · exact .ite h (.ite h.updSec.setF.setF.dbgResult (.ite h.updSec.setF.dbgResult (.ite h.openScope h.updCis)))

theorem execChallengeExpiry_completes {d} (h : s.Keeps t) : s.Completes (execChallengeExpiry d t) := .next (.ite h.updSec h)

theorem execZeroise_completes {d} (h : s.Keeps t) : s.Completes (execZeroise d t) :=
  .next (.ite h (.ite (.ite (.openScope (.ite h.eraseKeys.openScope h.eraseKeys)) (.ite h.eraseKeys.openScope h.eraseKeys))
      h.eraseKeys))

theorem execMeasurementRead_completes {d who} (h : s.Keeps t) : s.Completes (execMeasurementRead d who t) :=
  .next (.ite h.readAs.reply h)

theorem State.Keeps.secCmd {d c keyOp draws act} (h : s.Keeps t) (hact : ∀ u, s.Keeps u → s.Keeps (act u).2) :
    s.Keeps (t.secCmd d c keyOp draws act) := by
  unfold State.secCmd
  split
  · exact h
  · extract_lets reg s1 start r
    have h1 : s.Keeps s1 := h.updVol
    refine .ite ?_ ?_
    · exact h
    · refine .ite ?_ ?_
      · exact h1.withFree (fun _ _ hu => hu.updSec.setF.setF)
      · exact .ite h1.updSec.setF.setF (.ite h1.updSec.setF.setF (.setF (.setF (.updSec (hact _ h1)))))

theorem execSecRandom_completes {d cmd} (h : s.Keeps t) : s.Completes (execSecRandom d cmd t) :=
  .next (h.secCmd (fun _ hu => .iteSnd (.pair hu.same) (.iteSnd (.pair hu) (.pair hu.drawBytes))))

theorem execSecKeygen_completes {d cmd} (h : s.Keeps t) : s.Completes (execSecKeygen d cmd t) :=
  .next (h.secCmd (fun _ hu => .iteSnd (.pair hu) (.iteSnd (.pair hu) (.pair hu.draw))))

theorem execSecLoad_completes {d cmd} (h : s.Keeps t) : s.Completes (execSecLoad d cmd t) := by
  unfold execSecLoad
  refine .next ?_
  refine .secCmd h (fun _ hu => ?_)
  refine .iteSnd (.pair hu) ?_
  split
  · exact .pair hu
  · exact .pair hu

theorem execSecSave_completes {d cmd} (h : s.Keeps t) : s.Completes (execSecSave d cmd t) := by
  unfold execSecSave
  refine .next ?_
  refine .secCmd h (fun _ hu => ?_)
  split
  · exact .pair hu
  · exact .iteSnd (.pair hu) (.iteSnd (.pair hu.draw.putBytes.updKeep) (.pair hu.draw))

theorem State.Keeps.gcm {d cmd f} (h : s.Keeps t) : s.Keeps (t.gcm d cmd f).2 := by
  unfold State.gcm
  split
  · exact .pair h
  · refine .iteSnd (.pair h) ?_
    extract_lets q
    split
    · exact .pair h
    · exact .iteSnd (.pair h) (.pair h)

theorem execSecGcmEncrypt_completes {d cmd} (h : s.Keeps t) : s.Completes (execSecGcmEncrypt d cmd t) :=
  .next (h.secCmd (fun _ hu => hu.gcm))

theorem execSecGcmDecrypt_completes {d cmd} (h : s.Keeps t) : s.Completes (execSecGcmDecrypt d cmd t) :=
  .next (h.secCmd (fun _ hu => hu.gcm))

theorem State.Keeps.secDigest {d cmd n f} (h : s.Keeps t) : s.Keeps (t.secDigest d cmd n f).2 :=
  .iteSnd (.pair h) (.iteSnd (.pair h) (.pair h))

theorem execSecSign_completes {d cmd} (h : s.Keeps t) : s.Completes (execSecSign d cmd t) := by
  unfold execSecSign
  refine .next ?_
  refine .secCmd h (fun _ hu => ?_)
  split
  · exact .pair hu
  · exact hu.secDigest

theorem execSecAttest_completes {d cmd} (h : s.Keeps t) : s.Completes (execSecAttest d cmd t) :=
  .next (h.secCmd (fun _ hu => .iteSnd (.pair hu) hu.secDigest))

theorem execSecClearSlot_completes {d cmd} (h : s.Keeps t) : s.Completes (execSecClearSlot d cmd t) :=
  .next (h.secCmd (fun _ hu => .pair hu.updSec))

theorem execSecSha384_completes {d cmd} (h : s.Keeps t) : s.Completes (execSecSha384 d cmd t) :=
  .next (h.secCmd (fun _ hu => hu.secDigest))

theorem execSecOperationComplete_completes {d} (h : s.Keeps t) : s.Completes (execSecOperationComplete d t) := by
  unfold execSecOperationComplete
  refine .next ?_
  split
  · exact h
  · refine .ite h ?_
    extract_lets s1 show3 s2 s3
    have h1 : s.Keeps s1 := h.updSec
    have h2 : s.Keeps s2 := h1.dmaPut
    have h3 : s.Keeps s3 := by
      unfold s3
      split
      · exact h2.updSec
      · exact h2
    exact .ite h1.setF.setF.setF h3.setF.setF.setF

/-! ### ZoneGroup -/

theorem execGroupRecord_completes {d r} (h : s.Keeps t) : s.Completes (execGroupRecord d r t) :=
  .next (h.applyRec (fun _ hu => hu.wr.wr.updZg))

theorem execRemoteAccessRecord_completes {d r} (h : s.Keeps t) : s.Completes (execRemoteAccessRecord d r t) :=
  .next (h.applyRec (fun _ hu => hu.updZg))

theorem execRoamingRecord_completes {d r} (h : s.Keeps t) : s.Completes (execRoamingRecord d r t) :=
  .next (h.applyRec (fun _ hu => hu.setF.updZg))

theorem execHeartbeatSend_completes {d} (h : s.Keeps t) : s.Completes (execHeartbeatSend d t) := .next (.ite h.zgCast h)

theorem State.Keeps.ownDuplicate {d} (h : s.Keeps t) : s.Keeps (t.ownDuplicate d) := .ite h h.setF.setF.updCis.record

theorem State.Keeps.judgeLate {d m} (h : s.Keeps t) : s.Keeps (t.judgeLate d m) := by
  unfold State.judgeLate
  extract_lets s0 s1
  have h0 : s.Keeps s0 := h.updMember
  have h1 : s.Keeps s1 := h0.observe
  exact .ite (.ite h1.setSlow.changeView h1) (.ite (.ite h0.dropMember.takeCharge h0) h0.observe)

theorem execHeartbeat_completes {d port f} (h : s.Keeps t) : s.Completes (execHeartbeat d port f t) := by
  unfold execHeartbeat
  refine .next ?_
  refine .zgHear h (fun _ hu => ?_)
  extract_lets m x now src s1 late s1' s2 s2'
  have h1 : s.Keeps s1 := hu.updZg
  have h1' : s.Keeps s1' := hu.updMember
  have h2 : s.Keeps s2 := .ite h1'.showSpan h1'
  have h2' : s.Keeps s2' := .ite h2.changeView h2
  exact .ite hu.ownDuplicate (.ite (.ite h1.dropMember.changeView h1) (.ite h2'.judgeLate h2'))

theorem State.Keeps.memberGone {d m} (h : s.Keeps t) : s.Keeps (t.memberGone d m) :=
  .ite h.dropMember.changeView (.ite h.dropMember.takeCharge h)

theorem execMemberLoss_completes {d m} (h : s.Keeps t) : s.Completes (execMemberLoss d m t) :=
  .next (.ite h.updMember.observe.memberGone h)

theorem execViewSend_completes {d} (h : s.Keeps t) : s.Completes (execViewSend d t) := .next (.ite h.sendView.updZg h)

theorem execView_completes {d port f} (h : s.Keeps t) : s.Completes (execView d port f t) := by
  unfold execView
  refine .next ?_
  refine .zgHear h (fun _ hu => ?_)
  extract_lets m own s1 s2
  have h1 : s.Keeps s1 := hu.updZg
  have h2 : s.Keeps s2 := h1.foldl (fun _ _ hv => .ite hv.dropMember hv)
  exact .ite h1 (.ite (.ite h1 h2.showView) (.ite h1.adoptView h1))

theorem execJoinSend_completes {d} (h : s.Keeps t) : s.Completes (execJoinSend d t) := .next (.ite h.zgCast.updZg h)

theorem execJoin_completes {d port f} (h : s.Keeps t) : s.Completes (execJoin d port f t) :=
  .next (h.zgHear (fun _ hu => .ite hu (.ite hu.zgTx hu.zgTx.closeEntries.updMember.setMem.changeView)))

theorem execAdmit_completes {d port f} (h : s.Keeps t) : s.Completes (execAdmit d port f t) :=
  .next (h.zgHear (fun _ hu => .ite hu (.ite (.ite hu.setF hu) hu.setF.setF.updZg)))

theorem execIsolation_completes {d} (h : s.Keeps t) : s.Completes (execIsolation d t) :=
  .next (.ite (h.setF.setF.setF.setF.updZg.foldl (fun _ _ hu => .ite hu.stopRoam hu)) h)

theorem execLeave_completes {d port f} (h : s.Keeps t) : s.Completes (execLeave d port f t) := by
  unfold execLeave
  refine .next ?_
  refine .zgHear h (fun _ hu => ?_)
  extract_lets m s1
  have h1 : s.Keeps s1 := hu.updMember.updZg
  exact .ite hu (.ite h1.memberGone.dropMember h1)

theorem execCoordinatorTakeover_completes {d} (h : s.Keeps t) : s.Completes (execCoordinatorTakeover d t) :=
  .next (.ite h (.ite h.dropMember.takeCharge (.ite h.dropMember.takeCharge (.ite (.takeCharge (h.foldl (fun _ _ hu => .ite
      hu.dropMember hu))) h))))

theorem execSlowClear_completes {d m} (h : s.Keeps t) : s.Completes (execSlowClear d m t) :=
  .next (.ite h.setSlow.closeEntries.changeView h)

theorem execReportSlot_completes {d m kind detail} (h : s.Keeps t) : s.Completes (execReportSlot d m kind detail t) := by
  unfold execReportSlot
  extract_lets k t' s1
  have h1 : s.Keeps s1 := h.updObs
  refine .next ?_
  refine .ite h ?_
  split
  · exact .ite h (.ite h1.addSat h1.zgCast.addSat)
  · exact h

theorem execReportRetry_completes {d m kind detail} (h : s.Keeps t) : s.Completes (execReportRetry d m kind detail t) := by
  unfold execReportRetry
  extract_lets k t' due
  refine .next ?_
  refine .ite h ?_
  split
  · exact .ite h h.updObs
  · exact h

theorem execReport_completes {d port f} (h : s.Keeps t) : s.Completes (execReport d port f t) := by
  unfold execReport
  refine .next ?_
  refine .zgHear h (fun _ hu => ?_)
  extract_lets b subj kind detail s0 s1 s2 s2'
  have h0 : s.Keeps s0 := .ite hu.updMember hu
  have h1 : s.Keeps s1 := h0.updObs
  have h2 : s.Keeps s2 := h1.openLedger
  have h2' : s.Keeps s2' := by
    unfold s2'
    split
    · exact h1.updZg
    · exact h1.updZg
  exact .ite (.ite h2.setSlow.changeView h2) h2'

theorem execIamarAck_completes {d port f} (h : s.Keeps t) : s.Completes (execIamarAck d port f t) := by
  unfold execIamarAck
  refine .next ?_
  refine .zgHear h (fun _ hu => ?_)
  extract_lets b e w subj kind detail known s1 open_ cut s2 s3
  have h1 : s.Keeps s1 := hu.foldl (fun _ _ hv => hv.wr)
  have h2 : s.Keeps s2 := h1.updZg
  have h3 : s.Keeps s3 := .ite h2.addSat h2
  exact .ite h3 h3.entryLearned

theorem execLedgerClose_completes {d e} (h : s.Keeps t) : s.Completes (execLedgerClose d e t) := .next (.ite h.setF h)

theorem execZgpReport_completes {d who confirm tag} (h : s.Keeps t) : s.Completes (execZgpReport d who confirm tag t) :=
  .next (h.zgCmd (fun _ hu => .iteFst (.pairFst hu.observe) (.pairFst hu)))

theorem execZgpLeave_completes {d who confirm tag} (h : s.Keeps t) : s.Completes (execZgpLeave d who confirm tag t) :=
  .next (h.zgCmd (fun _ hu => .iteFst (.pairFst hu.zgSend.outOfView.outOfView) (.pairFst hu)))

theorem execZgpRejoin_completes {d who confirm tag} (h : s.Keeps t) : s.Completes (execZgpRejoin d who confirm tag t) :=
  .next (h.zgCmd (fun _ hu => .iteFst (.pairFst (.ite (.updZg (.setF (.ite hu.setF.updZg hu))) (.ite hu.setF.updZg hu)))
      (.pairFst hu)))

theorem execZgpRelease_completes {d who confirm tag p} (h : s.Keeps t) : s.Completes (execZgpRelease d who confirm tag p t) := by
  unfold execZgpRelease
  refine .next ?_
  refine .zgCmd h (fun _ hu => ?_)
  split
  · refine .iteFst ?_ (.pairFst hu)
    extract_lets key snap s1 s2 s3 s4
    have h1 : s.Keeps s1 := hu.stopRoam
    have h2 : s.Keeps s2 := h1.setBoth.setRoam
    have h3 : s.Keeps s3 := .ite h2 h2.sendRegion
    have h4 : s.Keeps s4 := h3.updZgBoth
    exact .pairFst h4.zgSend
  · exact .pairFst hu

theorem execPublish_completes {d who confirm tag p} (h : s.Keeps t) : s.Completes (execPublish d who confirm tag p t) := by
  unfold execPublish
  refine .next ?_
  refine .ite h ?_
  extract_lets s0 snap s1
  have h0 : s.Keeps s0 := h.tagNote
  have h1 : s.Keeps s1 := h0.setBoth
  split
  · exact .ite (h1.foldl (fun _ _ hu => hu.sendRegion)) h0
  · exact h0

theorem execRoamstate_completes {d port f} (h : s.Keeps t) : s.Completes (execRoamstate d port f t) := by
  unfold execRoamstate
  refine .next ?_
  refine .zgHear h (fun _ hu => ?_)
  extract_lets b m own hp snap off mine
  clear_value mine
  split
  · exact hu
  · split
    · exact hu
    · exact .ite hu (.ite hu.updZg (.zgCast (.updZg (.wr (hu.updZg.foldl (fun _ _ hv => hv.dmaPut))))))

theorem execRoam_completes {d port f} (h : s.Keeps t) : s.Completes (execRoam d port f t) := by
  unfold execRoam
  refine .next ?_
  refine .zgHear h (fun _ hu => ?_)
  extract_lets b key holder s1
  have h1 : s.Keeps s1 := hu.updZg
  split
  · exact .ite hu.applyGrant hu
  · exact .ite h1.setF h1
  · exact hu.updZg
  · exact hu

theorem execRoamingGrant_completes {d home part taker} (h : s.Keeps t) : s.Completes (execRoamingGrant d home part taker t) :=
  .next (.ite h.applyGrant.zgCast h)

theorem execRemreq_completes {d port f} (h : s.Keeps t) : s.Completes (execRemreq d port f t) :=
  .next (h.zgHear (fun _ hu => .ite hu (.ite hu.updZg hu.serveReq.serveWaits)))

theorem execRemoteAccess_completes {d who addr size op fn data seq} (h : s.Keeps t) :
    s.Completes (execRemoteAccess d who addr size op fn data seq t) := .next (.ite h (.ite h.remReply (.ite h.remFail
        h.updZg.sendReqs)))

theorem execRemrsp_completes {d port f} (h : s.Keeps t) : s.Completes (execRemrsp d port f t) := by
  unfold execRemrsp
  refine .next ?_
  refine .zgHear h (fun _ hu => ?_)
  extract_lets b
  split
  · extract_lets s1 s3 s2
    have h1 : s.Keeps s1 := hu.updZg
    have h3 : s.Keeps s3 := h1.remErr.remErr.recordBoth
    have h2 : s.Keeps s2 := by
      unfold s2
      split
      · exact .ite h1 h1.reply
      · exact h1.remFail
      · exact .ite h3.reply (.ite h3 h3.reply)
      · exact h1.remFail
    exact h2.sendReqs
  · exact hu

theorem execRemoteTimeout_completes {d tag} (h : s.Keeps t) : s.Completes (execRemoteTimeout d tag t) := by
  unfold execRemoteTimeout
  refine .next ?_
  split
  · exact h.updZg.remFail.observe.sendReqs
  · exact h

theorem execRemoteLockTimeout_completes {d inst} (h : s.Keeps t) : s.Completes (execRemoteLockTimeout d inst t) := by
  unfold execRemoteLockTimeout
  refine .next ?_
  split
  · extract_lets s1
    have h1 : s.Keeps s1 := h.endLock.updZgBoth
    exact h1.serveWaits
  · exact h

/-! ### UpdateOps -/

theorem State.Keeps.putJournal {d f} (h : s.Keeps t) : s.Keeps (t.putJournal d f) := h.putBytes

theorem State.Keeps.markChunk {d i b} (h : s.Keeps t) : s.Keeps (t.markChunk d i b) := h.putByte

theorem State.Keeps.clearMap {d} (h : s.Keeps t) : s.Keeps (t.clearMap d) := h.putBytes

theorem State.Keeps.showStaging {d} (h : s.Keeps t) : s.Keeps (t.showStaging d) := h.wr64.wr.wr.wr

theorem State.Keeps.showStagings (h : s.Keeps t) : s.Keeps (t.showStagings) := by
  unfold State.showStagings
  extract_lets s1
  have h1 : s.Keeps s1 := .ite h.showStaging h
  exact .ite h1.showStaging h1

theorem State.Keeps.showJournal {d} (h : s.Keeps t) : s.Keeps (t.showJournal d) := h.setF.setF.wr.showStaging

theorem State.Keeps.phaseOn {d old new f} (h : s.Keeps t) : s.Keeps (t.phaseOn d old new f) := by
  unfold State.phaseOn
  refine .ite h ?_
  extract_lets s1
  have h1 : s.Keeps s1 := h.putJournal.showJournal
  exact .ite h1 h1.setF.record

theorem State.Keeps.setPhaseWith {new f} (h : s.Keeps t) : s.Keeps (t.setPhaseWith new f) := h.phaseOn.phaseOn

theorem State.Keeps.setPhase {new} (h : s.Keeps t) : s.Keeps (t.setPhase new) := h.setPhaseWith

theorem State.Keeps.syncJournals (h : s.Keeps t) : s.Keeps (t.syncJournals) :=
  .ite h (.ite h.putBytes.showJournal (.ite h.putBytes.showJournal h))

theorem State.Keeps.updEvt {f} (h : s.Keeps t) : s.Keeps (t.updEvt f) := h.setAlive

theorem State.Keeps.updResult {result reason code} (h : s.Keeps t) : s.Keeps (t.updResult result reason code) :=
  h.setAlive.setAlive.setAlive

theorem State.Keeps.updRefuse {reason} (h : s.Keeps t) : s.Keeps (t.updRefuse reason) := h.updResult.updEvt

theorem State.Keeps.setGrp {g} (h : s.Keeps t) : s.Keeps (t.setGrp g) := h.setAlive

theorem State.Keeps.sendUpdate {op} (h : s.Keeps t) : s.Keeps (t.sendUpdate op) := h.zgSend

theorem State.Keeps.sendDone (h : s.Keeps t) : s.Keeps (t.sendDone) := .ite h h.sendUpdate.updUpd.updUpd.setGrp

theorem State.Keeps.backToReady {reason} (h : s.Keeps t) : s.Keeps (t.backToReady reason) := h.setPhase.updRefuse.sendDone

theorem State.Keeps.copyJ (h : s.Keeps t) : s.Keeps (t.copyJ) := .ite (.updUpd (h.plNotice.foldl (fun _ _ hu => hu.copyRange))) h

theorem State.Keeps.enterSplit (h : s.Keeps t) : s.Keeps (t.enterSplit) := .copyJ (.ite h h.setPhase)

theorem State.Keeps.enterAbort (h : s.Keeps t) : s.Keeps (t.enterAbort) := h.setPhase.dieReset

theorem State.Keeps.updateSealed (h : s.Keeps t) : s.Keeps (t.updateSealed) := by
  unfold State.updateSealed
  refine .ite h ?_
  refine .ite ?_ (.ite h.setPhase.updEvt.sendDone h)
  extract_lets m s1 s2
  have h1 : s.Keeps s1 := h.setPhase.updEvt
  have h2 : s.Keeps s2 := .ite h1.same h1
  exact h2.sendDone

/-! ### Loader -/

theorem State.Keeps.updBoot {d f} (h : s.Keeps t) : s.Keeps (t.updBoot d f) := h.updVol

theorem execStrapSample_completes {pins} (h : s.Keeps t) : s.Completes (execStrapSample pins t) :=
  .next (.ite h (.ite h.updCis h.updCis.updCis))

theorem State.Keeps.startTime {d} (h : s.Keeps t) : s.Keeps (t.startTime d) := .ite h.same.setF h.same

theorem State.Keeps.standAlone {d} (h : s.Keeps t) : s.Keeps (t.standAlone d) := .takePaths (.ite h.moveAll h.grantAll)

theorem State.Keeps.bootTokens {d} (h : s.Keeps t) : s.Keeps (t.bootTokens d) := by
  unfold State.bootTokens
  extract_lets s1
  have h1 : s.Keeps s1 := .ite h h.standAlone
  exact .ite (.ite (.ite h1.moveAll h1.grantAll) h1) h1

theorem State.Keeps.resumePhase {d} (h : s.Keeps t) : s.Keeps (t.resumePhase d) := by
  unfold State.resumePhase
  extract_lets p s1
  have h1 : s.Keeps s1 := h.showJournal
  exact .ite h1 (.ite h1.phaseOn (.ite h1.phaseOn h1))

theorem State.Keeps.enterLoader {d} (h : s.Keeps t) : s.Keeps (t.enterLoader d) := by
  unfold State.enterLoader
  extract_lets s1 s2 partner q s3 s4
  have h1 : s.Keeps s1 := h.extendBmr.updBoot
  have h2 : s.Keeps s2 := .ite h1.setF h1.recordBoth
  have h3 : s.Keeps s3 := .ite h2.updKeep (.ite h2.draw.updKeep h2)
  have h4 : s.Keeps s4 := h3.eraseKeys.loadSummary.reportErrands.resumePhase
  exact h4.bootTokens.updUpd.syncJournals

theorem State.Keeps.finishCopy {d} (h : s.Keeps t) : s.Keeps (t.finishCopy d) := .ite h.putBytes.putJournal h

theorem execQDieRelease_completes {d selfOk} (h : s.Keeps t) : s.Completes (execQDieRelease d selfOk t) := by
  unfold execQDieRelease
  refine .next ?_
  extract_lets k joins s0 s1 s2 s2' s3 s4 scope s5 s6 code s7
  have h0 : s.Keeps s0 := h.updKeep.startTime.updCis
  have h1 : s.Keeps s1 := h0.updBoot
  have h2 : s.Keeps s2 := h1.setF
  have h2' : s.Keeps s2' := h1.updBoot
  have h3 : s.Keeps s3 := h2'.setF
  have h4 : s.Keeps s4 := .ite h3.setF h3
  have h5 : s.Keeps s5 := .ite h4.extendBmr h4
  have h6 : s.Keeps s6 := h5.finishCopy
  have h7 : s.Keeps s7 := h6.setF
  exact .ite h (.ite (.ite h2.standAlone h2) (.ite h7.enterLoader h7))

theorem execLoaderDonation_completes {d} (h : s.Keeps t) : s.Completes (execLoaderDonation d t) := by
  unfold execLoaderDonation
  refine .next ?_
  extract_lets code s1 again s2
  have h1 : s.Keeps s1 := h.plNotice.putBytes
  have h2 : s.Keeps s2 := h1.setF
  exact .ite h (.ite h2.setF.enterLoader h2)

theorem execPairLinkUp_completes (h : s.Keeps t) : s.Completes (execPairLinkUp t) := .next (.ite h.setBoth.setBoth.syncJournals h)

theorem execDuctusVerify_completes {d} (h : s.Keeps t) : s.Completes (execDuctusVerify d t) := by
  unfold execDuctusVerify
  refine .next ?_
  refine .ite h ?_
  extract_lets r s1
  have h1 : s.Keeps s1 := h.setF.setF.updBoot
  exact .ite h1.extendBmr h1

theorem State.Keeps.judgeUndefined {d l} (h : s.Keeps t) : s.Keeps (t.judgeUndefined d l) :=
  h.foldl (fun _ _ hu => .ite hu.recordFails hu)

theorem State.Keeps.blockDefaults {d} (h : s.Keeps t) : s.Keeps (t.blockDefaults d) := by
  unfold State.blockDefaults
  extract_lets s1 s2
  have h1 : s.Keeps s1 := h.foldl (fun _ _ hu => hu.setF.setF)
  have h2 : s.Keeps s2 := h1.foldl (fun _ _ hu => hu.setF.setF.foldl (fun _ _ hv => hv.setF.setF))
  exact h2.swcDefaults.timeDefaults.duxDefaults.wr.showProt

theorem State.Keeps.proceed {d r} (h : s.Keeps t) : s.Keeps (t.proceed d r) := by
  unfold State.proceed
  extract_lets c id valid s1 s2 s3 s4 l s5
  have h1 : s.Keeps s1 := h.setF.setF.setF.wr64
  have h2 : s.Keeps s2 := h1.wr.wr
  have h3 : s.Keeps s3 := h2.wr
  have h4 : s.Keeps s4 := .ite h3 h3.record
  have h5 : s.Keeps s5 := h4.judgeUndefined
  exact .ite h5.updBoot.blockDefaults.goOn h5

theorem State.Keeps.bootFails {d code} (h : s.Keeps t) : s.Keeps (t.bootFails d code) := by
  unfold State.bootFails
  extract_lets s1
  have h1 : s.Keeps s1 := h.noStructure
  exact .ite h1.enterAbort h1

theorem State.Keeps.chooseCopy {d} (h : s.Keeps t) : s.Keeps (t.chooseCopy d) := by
  unfold State.chooseCopy
  split
  · exact .ite h (.ite h.updBoot.updBoot (.ite h.updBoot.proceed h.updBoot.bootFails))
  · exact h

theorem execVerificationExchange_completes (h : s.Keeps t) : s.Completes (execVerificationExchange t) :=
  .next (.ite h.syncJournals.chooseCopy.chooseCopy h)

theorem execPartnerResultTimeout_completes {d} (h : s.Keeps t) : s.Completes (execPartnerResultTimeout d t) := by
  unfold execPartnerResultTimeout
  refine .next ?_
  split
  · exact .ite h (.ite (.proceed (.ite h h.standAlone)) h.bootFails)
  · exact h

theorem execImageDonation_completes {d} (h : s.Keeps t) : s.Completes (execImageDonation d t) := by
  unfold execImageDonation
  refine .next ?_
  refine .ite h ?_
  extract_lets sent s0 s1 r s2
  have h_sent : s.Keeps sent := h.plNotice
  have h0 : s.Keeps s0 := .ite h_sent.putBytes h_sent
  have h1 : s.Keeps s1 := h0.putBytes
  have h2 : s.Keeps s2 := h1.updBoot
  exact .ite h2.extendBmr.setF.record.proceed h2.bootFails

theorem execSealReady_completes {d} (h : s.Keeps t) : s.Completes (execSealReady d t) := by
  unfold execSealReady
  refine .next ?_
  split
  · exact h
  · refine .ite h ?_
    extract_lets n s1 s2
    have h1 : s.Keeps s1 := h.updBoot
    have h2 : s.Keeps s2 := h1.plSend
    refine .ite h1 ?_
    split
    · exact h2.plSend
    · exact h2

theorem State.Keeps.copyRegs {src dst lo hi} (h : s.Keeps t) : s.Keeps (t.copyRegs src dst lo hi) :=
  .foldl h.dropRegs (fun _ _ hu => hu.wr)

theorem State.Keeps.rejoinRoles {d} (h : s.Keeps t) : s.Keeps (t.rejoinRoles d) :=
  h.foldl (fun _ _ hu => .ite hu.setRole.setBoth hu)

theorem State.Keeps.joinPartner {d} (h : s.Keeps t) : s.Keeps (t.joinPartner d) := by
  unfold State.joinPartner
  extract_lets o s1 s2 base s3 s3' s4
  have h1 : s.Keeps s1 := by
    refine .foldl h (fun _ _ hu => ?_)
    extract_lets st1
    have ht1 : s.Keeps st1 := hu.wr.wr.wr.wr
    exact .ite ht1.holdReset ht1.setF
  have h2 : s.Keeps s2 := h1.wr.updWld
  have h3 : s.Keeps s3 := h2.copyRegs.updVol
  have h3' : s.Keeps s3' := h3.foldl (fun _ _ hu => hu.wr)
  have h4 : s.Keeps s4 := h3'.foldl (fun _ _ hu => .ite hu.setCk hu)
  exact h4.rejoinRoles

theorem State.Keeps.reHome {d} (h : s.Keeps t) : s.Keeps (t.reHome d) :=
  h.foldl (fun _ _ hu => .ite hu (.foldl (.setRole (hu.setHome.foldl (fun _ _ hv => hv.setCk))) (fun _ _ hv => hv.homeMoves)))

theorem State.Keeps.startStructure {d} (h : s.Keeps t) : s.Keeps (t.startStructure d) := by
  unfold State.startStructure
  extract_lets s1 s2
  have h1 : s.Keeps s1 := h.foldl (fun _ _ hu => .ite hu hu.wr.recordSeq)
  have h2 : s.Keeps s2 := .ite h1.setF h1
  exact h2.zgStart

theorem State.Keeps.sendTables {d} (h : s.Keeps t) : s.Keeps (t.sendTables d) := h.foldl (fun _ _ hu => .ite hu.firstTable hu)

theorem State.Keeps.sealStore {d} (h : s.Keeps t) : s.Keeps (t.sealStore d) := h.updKeep

theorem State.Keeps.doSeal {d} (h : s.Keeps t) : s.Keeps (t.doSeal d) := by
  unfold State.doSeal
  extract_lets split s1 s2 s3 s4 s5
  have h1 : s.Keeps s1 := .sealStore (.ite h h.sendTables)
  have h2 : s.Keeps s2 := h1.checkKeys.extendBmr.setF
  have h3 : s.Keeps s3 := h2.updCis.updLed
  have h4 : s.Keeps s4 := .ite h3.joinPartner h3.startStructure
  have h5 : s.Keeps s5 := h4.foldl (fun _ _ hu => .ite hu.record hu)
  exact .ite h5.enterSplit h5.updateSealed

theorem State.Keeps.outOfStep {d} (h : s.Keeps t) : s.Keeps (t.outOfStep d) := h.setF.setF

theorem State.Keeps.noteDiffer {d} (h : s.Keeps t) : s.Keeps (t.noteDiffer d) := .ite h h.record.updBoot

theorem State.Keeps.sealHere {d together} (h : s.Keeps t) : s.Keeps (t.sealHere d together) := .ite h.doSeal h.doSeal.reHome

theorem execSeal_completes {d} (h : s.Keeps t) : s.Completes (execSeal d t) := by
  unfold execSeal
  refine .next ?_
  split
  · exact h
  · refine .ite h ?_
    refine .ite h.doSeal ?_
    split
    · exact h
    · exact .ite h.sealHere (.ite h.outOfStep.noteDiffer.noteDiffer (.ite h.noteDiffer.sealHere h.noteDiffer.outOfStep))

theorem execSealReadyTimeout_completes {d} (h : s.Keeps t) : s.Completes (execSealReadyTimeout d t) := .next (.ite h.sealHere h)

/-! ### Boot -/

theorem State.Keeps.powerOn (h : s.Keeps t) : s.Keeps (t.powerOn) :=
  .moduleReset (h.loseDram.updKeep.loseDram.updKeep.updCis.foldl (fun _ _ hu => hu.updSd.forgetSd))

theorem execPowerOnReset_completes (h : s.Keeps t) : s.Completes (execPowerOnReset t) := .next h.powerOn

theorem execBrownOut_completes (h : s.Keeps t) : s.Completes (execBrownOut t) := .next (.ite h.moduleReset h)

theorem execModuleReset_completes {cause} (h : s.Keeps t) : s.Completes (execModuleReset cause t) :=
  .next (.ite h.powerOn (.ite h (.ite (h.withFree (fun _ _ hu => hu.moduleReset)) h.moduleReset)))

theorem execResetNAssert_completes (h : s.Keeps t) : s.Completes (execResetNAssert t) := .next (.ite h.updCis.moduleReset h)

theorem execResetNRelease_completes (h : s.Keeps t) : s.Completes (execResetNRelease t) := .next (.ite h.updCis.updKeep.updKeep h)

theorem State.Keeps.askDieReset {d cause req} (h : s.Keeps t) : s.Keeps (t.askDieReset d cause req) :=
  .ite h.recordBoth h.dieReset

theorem execDieReset_completes {d cause} (h : s.Keeps t) : s.Completes (execDieReset d cause t) := by
  unfold execDieReset
  refine .next ?_
  split
  · exact h.withFree (fun _ _ hu => hu.askDieReset)
  · exact h.dieReset
  · exact h.dieReset
  · exact h.dieReset
  · exact h.dieReset

theorem State.Keeps.clusterResetAsk {d c cause req} (h : s.Keeps t) : s.KeepsSome (t.clusterResetAsk d c cause req) :=
  .ite (.some h.clusterReset) (.ite (.some h.moveToken.clusterReset) .none)

theorem execNibClusterReset_completes {d c cause} (h : s.Keeps t) : s.Completes (execNibClusterReset d c cause t) :=
  .next (.ite h (.ite (h.withFree (fun _ _ hu => hu.clusterResetAsk.getD hu)) (h.clusterResetAsk.getD h)))

theorem execSwitchDieReset_completes {sd cause} (h : s.Keeps t) : s.Completes (execSwitchDieReset sd cause t) :=
  .next (.ite h (.ite (h.withFree (fun _ _ hu => hu.switchDieReset)) h.switchDieReset))

theorem State.Keeps.rstreq {d who confirm act} (h : s.Keeps t) (hact : ∀ u x, s.Keeps u → s.Keeps (act u x)) :
    s.Keeps (t.rstreq d who confirm act) := by
  unfold State.rstreq
  split
  · exact .ite (hact _ _ h) h
  · exact h

theorem State.Keeps.rstResult {d r} (h : s.Keeps t) : s.Keeps (t.rstResult d r) := h.setF

theorem execRstreqModule_completes {d who confirm} (h : s.Keeps t) : s.Completes (execRstreqModule d who confirm t) :=
  .next (h.rstreq (fun _ _ hu => hu.rstResult.moduleReset))

theorem execRstreqDie_completes {d who confirm target} (h : s.Keeps t) : s.Completes (execRstreqDie d who confirm target t) :=
  .next (h.rstreq (fun _ _ hu => .ite hu (.ite hu.askDieReset.rstResult hu.rstResult.askDieReset)))

theorem execRstreqPartition_completes {d who confirm target} (h : s.Keeps t) :
    s.Completes (execRstreqPartition d who confirm target t) := .next (h.rstreq (fun _ _ hu => .ite hu hu.rstResult.partReset))

theorem execRstreqNibCluster_completes {d who confirm target on} (h : s.Keeps t) :
    s.Completes (execRstreqNibCluster d who confirm target on t) := by
  refine .next (.rstreq h (fun _ _ hu => .ite hu (.ite hu.rstResult ?_)))
  split
  · exact (hu.clusterResetAsk _ (by assumption)).rstResult
  · exact hu.rstResult

theorem execRstreqSwitchDie_completes {d who confirm target} (h : s.Keeps t) :
    s.Completes (execRstreqSwitchDie d who confirm target t) := .next (h.rstreq (fun _ _ hu => .ite hu (.ite
        hu.rstResult.switchDieReset hu.rstResult)))

theorem execStartEntry_completes {sd} (h : s.Keeps t) : s.Completes (execStartEntry sd t) := by
  unfold execStartEntry
  refine .next ?_
  extract_lets x bad s1 s2
  have h1 : s.Keeps s1 := h.updSd
  have h2 : s.Keeps s2 := h1.updSd
  exact .ite (.ite h2.sdEvent.showTable h2) h

theorem execHoldTimeEnd_completes {sd} (h : s.Keeps t) : s.Completes (execHoldTimeEnd sd t) :=
  .next (.ite h (.ite (.firstTable (.ite h.updSd.settleAll.firstTable h.updSd.settleAll)) (.ite h.updSd.settleAll.firstTable
      h.updSd.settleAll)))

theorem execLimpPinChange_completes {pin level} (h : s.Keeps t) : s.Completes (execLimpPinChange pin level t) :=
  .next (h.updCis.foldl (fun _ _ hu => .ite hu.settleAll hu))

theorem execNvmWriteComplete_completes {sd} (h : s.Keeps t) : s.Completes (execNvmWriteComplete sd t) := by
  unfold execNvmWriteComplete
  refine .next ?_
  split
  · exact .ite h.tableInForce h
  · exact h

theorem execCanIntegrated_completes {d c} (h : s.Keeps t) : s.Completes (execCanIntegrated d c t) :=
  .next (.ite (.ite h.wr h.setF) h)

/-! ### Update -/

theorem execUpdatePolicyRecord_completes {d r} (h : s.Keeps t) : s.Completes (execUpdatePolicyRecord d r t) :=
  .next (h.applyRec (fun _ hu => hu.wr.wr))

theorem execCompatibilityRecord_completes {d r} (h : s.Keeps t) : s.Completes (execCompatibilityRecord d r t) :=
  .next (h.applyRec (fun _ hu => hu.wr))

theorem State.Keeps.updCmd {d who confirm tag act} (h : s.Keeps t) (hact : ∀ u, s.Keeps u → s.Keeps (act u)) :
    s.Keeps (t.updCmd d who confirm tag act) := .ite (hact _ h.tagNote) h

theorem State.Keeps.putManifest {d m} (h : s.Keeps t) : s.Keeps (t.putManifest d m) := h.putBytes.bulkPut.clearMap

theorem State.Keeps.onStaging {d f} (h : s.Keeps t) (hf : ∀ u x, s.Keeps u → s.Keeps (f u x)) : s.Keeps (t.onStaging d f) :=
  .ite (hf _ _ (.plNotice (hf _ _ h))) (hf _ _ h)

theorem execUpdManifest_completes {d who confirm tag} (h : s.Keeps t) : s.Completes (execUpdManifest d who confirm tag t) := by
  unfold execUpdManifest
  refine .next ?_
  refine .updCmd h (fun _ hu => .ite hu.updResult (.ite hu.updResult (.ite hu.updResult (.ite hu.updResult (.updResult (.setGrp
      (.setPhaseWith (hu.onStaging (fun _ _ hv => hv.putManifest)))))))))

theorem State.Keeps.putChunk {d i c} (h : s.Keeps t) : s.Keeps (t.putChunk d i c) := h.bulkPut.markChunk

theorem State.Keeps.readyIfFull {d} (h : s.Keeps t) : s.Keeps (t.readyIfFull d) := .ite h.setPhase h.showStagings

theorem execUpdStage_completes {d who confirm tag} (h : s.Keeps t) : s.Completes (execUpdStage d who confirm tag t) := by
  unfold execUpdStage
  refine .next ?_
  refine .updCmd h (fun _ hu => .ite hu.updResult (.ite hu.updResult (.ite hu.updResult (.ite (.updResult (.readyIfFull
      (hu.onStaging (fun _ _ hv => .ite hv.putChunk hv)))) hu.updResult))))

theorem execChunkSync_completes {d} (h : s.Keeps t) : s.Completes (execChunkSync d t) :=
  .next (.ite h (.readyIfFull (.foldl (.ite h.plNotice h.plNotice.putManifest) (fun _ _ hu => .ite hu.putChunk hu))))

theorem State.Keeps.startPrep (h : s.Keeps t) : s.Keeps (t.startPrep) := by
  unfold State.startPrep
  extract_lets m s1 xs ts
  have h1 : s.Keeps s1 := h.setPhaseWith
  exact .ite (.foldl (h1.foldl (fun _ _ hu => hu.askSwap)) (fun _ _ hu => hu.swapTo)) h1.backToReady

theorem State.Keeps.noteGrant {d m} (h : s.Keeps t) : s.Keeps (t.noteGrant d m) := h.updUpd

theorem State.Keeps.granted (h : s.Keeps t) : s.Keeps (t.granted) := h.setGrp.startPrep

theorem State.Keeps.notGranted (h : s.Keeps t) : s.Keeps (t.notGranted) := h.setGrp.updRefuse

theorem State.Keeps.selfGrant {d} (h : s.Keeps t) : s.Keeps (t.selfGrant d) :=
  .ite h.noteGrant.noteGrant.granted (.ite h.notGranted h)

theorem execUpdInstall_completes {d who confirm tag} (h : s.Keeps t) : s.Completes (execUpdInstall d who confirm tag t) :=
  .next (.updCmd h (fun _ hu => .ite hu.updRefuse.nextFree (.ite hu.setGrp.updResult.startPrep
    (.ite hu.setGrp.updResult.selfGrant hu.setGrp.updResult))))

theorem execPrep1Complete_completes (h : s.Keeps t) : s.Completes (execPrep1Complete t) := .next (.ite h.setPhaseWith.dieReset h)

theorem execPrep1Timeout_completes (h : s.Keeps t) : s.Completes (execPrep1Timeout t) := .next (.ite h.backToReady h)

theorem State.Keeps.checkStaged {d} (h : s.Keeps t) : s.KeepsSome (t.checkStaged d) := by
  unfold State.checkStaged
  extract_lets m
  split
  · exact .some h
  split
  · exact .some (.foldl h.plNotice (fun _ _ hu => hu.bulkPut))
  · exact .none

theorem State.Keeps.stagingFails {d} (h : s.Keeps t) : s.Keeps (t.stagingFails d) := by
  unfold State.stagingFails
  extract_lets n bad l s1
  have h1 : s.Keeps s1 := h.foldl (fun _ _ hu => hu.markChunk.markChunk)
  exact .ite h1.showStagings.enterAbort h1.setPhase.dieReset

theorem State.Keeps.showCursor {d} (h : s.Keeps t) : s.Keeps (t.showCursor d) := .ite (.wr (.ite h.wr h)) (.ite h.wr h)

theorem State.Keeps.writeUnits {d n} (h : s.Keeps t) : s.Keeps (State.writeUnits d n t) := by
  induction n generalizing t with
  | zero => exact h.showCursor
  | succ n ih =>
    exact .ite (ih h.putBytes.putJournal) (.ite (ih h.putBytes.putJournal) h.showCursor.setPhase.dieReset)

theorem execUpdateWrite_completes {d units} (h : s.Keeps t) : s.Completes (execUpdateWrite d units t) := by
  refine .next (.ite h ?_)
  split
  · exact h.stagingFails
  have h1 := h.checkStaged _ (by assumption)
  exact .ite (.ite h1.putBytes.writeUnits (.ite h1.putBytes.enterAbort h1.putBytes.setPhase.dieReset)) h1.writeUnits

theorem execBoot1Timeout_completes (h : s.Keeps t) : s.Completes (execBoot1Timeout t) := .next (.ite h.enterAbort h)

theorem execSplitLimit_completes (h : s.Keeps t) : s.Completes (execSplitLimit t) := .next (.ite h.updEvt.enterAbort h)

theorem State.Keeps.endAllEpochs {d} (h : s.Keeps t) : s.Keeps (t.endAllEpochs d) := h.foldl (fun _ _ hu => .ite hu.updDux hu)

theorem State.Keeps.haltAllNibs {d} (h : s.Keeps t) : s.Keeps (t.haltAllNibs d) := h.foldl (fun _ _ hu => hu.streamIn)

theorem execUpdCutover_completes {d who confirm tag} (h : s.Keeps t) : s.Completes (execUpdCutover d who confirm tag t) := by
  unfold execUpdCutover
  refine .next ?_
  refine .updCmd h (fun _ hu => .ite hu.updRefuse (.ite hu.updRefuse (.ite (hu.withFree (fun _ _ hv => hv.updRefuse))
      hu.updResult.setPhase.endAllEpochs.haltAllNibs)))

theorem State.Keeps.handStates (h : s.Keeps t) : s.Keeps (t.handStates) :=
  .foldl (h.foldl (fun _ _ hu => hu.wr)) (fun _ _ hu => hu.takeHandover)

theorem State.Keeps.takeModule (h : s.Keeps t) : s.Keeps (t.takeModule) := by
  unfold State.takeModule
  extract_lets lost s1 s2 s3
  have h1 : s.Keeps s1 := h.foldl (fun _ _ hu => hu.moveToken)
  have h2 : s.Keeps s2 := h1.steerPorts.foldl (fun _ _ hu => hu.fbSwitch)
  have h3 : s.Keeps s3 := h2.foldl (fun _ _ hu => hu.foldl (fun _ _ hv => hv.dequeue))
  exact h3.coreTakes.foldl (fun _ _ hu => hu.addSat)

theorem State.Keeps.startOnOne {a2 a3} (h : s.Keeps t) : s.Keeps (t.startOnOne a2 a3) := by
  unfold State.startOnOne
  refine .foldl h (fun _ _ hu => ?_)
  split
  · exact hu
  · split
    · exact .ite hu hu.record.updWld
    · extract_lets regs core s1 s2
      have h1 : s.Keeps s1 := hu.setHome.setRole
      have h2 : s.Keeps s2 := h1.updDux
      exact h2.setF.setF.setF

theorem execCutoverCommit_completes (h : s.Keeps t) : s.Completes (execCutoverCommit t) := by
  unfold execCutoverCommit
  refine .next ?_
  refine .ite h ?_
  extract_lets t' sf same s1 s2 ps s3
  have h1 : s.Keeps s1 := h.handStates.setPhaseWith
  have h2 : s.Keeps s2 := h1.takeModule.sendTables.dieReset
  have h3 : s.Keeps s3 := .ite h2.startOnOne h2.startOnOne
  exact h3.updUpd

theorem execCutoverLimit_completes (h : s.Keeps t) : s.Completes (execCutoverLimit t) :=
  .next (.ite (.updEvt (.setPhase (.foldl (h.foldl (fun _ _ hu => .ite hu.updDux.updCore.updCore hu)) (fun _ _ hu =>
      hu.updCl.resumeOn)))) h)

theorem execDieLoss_completes {d} (h : s.Keeps t) : s.Completes (execDieLoss d t) :=
  .next (.ite h (.ite h.setPhaseWith.sendTables.startOnOne h.losePartitions))

theorem execUpdAbort_completes {d who confirm tag} (h : s.Keeps t) : s.Completes (execUpdAbort d who confirm tag t) :=
  .next (h.updCmd (fun _ hu => .ite (.enterAbort (.updResult (.ite hu.setGrp hu))) hu.updResult))

theorem execUpdClear_completes {d who confirm tag} (h : s.Keeps t) : s.Completes (execUpdClear d who confirm tag t) := by
  unfold execUpdClear
  refine .next ?_
  refine .updCmd h (fun _ hu => ?_)
  extract_lets ph s1 s2
  have h1 : s.Keeps s1 := hu.onStaging (fun _ _ hv => hv.clearMap)
  have h2 : s.Keeps s2 := .ite h1.showStagings h1.setPhaseWith
  exact .ite h2.setGrp.updResult hu.updResult

theorem execUpdateRequest_completes {d} (h : s.Keeps t) : s.Completes (execUpdateRequest d t) :=
  .next (.ite h (.ite (.ite h.updUpd.selfGrant h.updUpd.sendUpdate) (.ite h.updUpd.updUpd.updUpd.sendUpdate h)))

theorem State.Keeps.answerUpdate {d op reason m f} (h : s.Keeps t) : s.Keeps (t.answerUpdate d op reason m f) := h.zgCast

theorem execUpdate_completes {d port f} (h : s.Keeps t) : s.Completes (execUpdate d port f t) := by
  unfold execUpdate
  refine .next ?_
  refine .zgHear h (fun _ hu => ?_)
  extract_lets m op mine coord r
  clear_value op
  split
  · exact .ite hu (.ite hu.noteGrant.answerUpdate hu.answerUpdate)
  · exact .ite hu.granted hu
  · exact .ite hu.notGranted hu
  · refine .ite hu ?_
    split
    · exact .ite hu.noteGrant hu
    · exact hu.noteGrant
  · exact hu.updUpd
  · exact hu

theorem execGrantLapse_completes {d} (h : s.Keeps t) : s.Completes (execGrantLapse d t) := by
  unfold execGrantLapse
  refine .next ?_
  split
  · exact .ite h.updUpd h
  · exact h

/-! ### Access -/

theorem State.Keeps.undefinedOp {d who off v} (h : s.Keeps t) : s.Keeps (t.undefinedOp d who off v) := by
  unfold State.undefinedOp
  refine .ite h.ecmdDone ?_
  refine .ite h.fres ?_
  refine .ite h.rgdResult ?_
  split
  · exact h.dctlNone
  · exact h

theorem execRegisterWrite_completes {d who off v} (h : s.Keeps t) : s.Completes (execRegisterWrite d who off v t) :=
  .next (.ite h (.ite h.reply h.regWrite.undefinedOp.localWrite))

theorem execLowWordReadLatch_completes {d who off} (h : s.Keeps t) : s.Completes (execLowWordReadLatch d who off t) :=
  .next (.ite h (.ite h.reply (.ite h.readAs.reply h)))

theorem execPartnerWindowRead_completes {d who addr n late} (h : s.Keeps t) :
    s.Completes (execPartnerWindowRead d who addr n late t) := by
  unfold execPartnerWindowRead
  extract_lets a t' s1
  have h1 : s.Keeps s1 := .ite h h.memRefuse
  refine .next ?_
  refine .ite h ?_
  split
  · exact h.plNotice.plNotice.partnerLatch.reply
  · exact h1.reply

theorem execRillTransfer_completes {d src dst payload bad badAgain} (h : s.Keeps t) :
    s.Completes (execRillTransfer d src dst payload bad badAgain t) := by
  unfold execRillTransfer
  extract_lets h' s1
  have h1 : s.Keeps s1 := h.rillsRun.rillArrive
  exact .next (.ite h (.ite h.updVol (.ite h1.fatal h1)))

theorem State.Keeps.updLink {d f} (h : s.Keeps t) : s.Keeps (t.updLink d f) := h.withLink

theorem State.Keeps.linkRecord {sev code} (h : s.Keeps t) : s.Keeps (t.linkRecord sev code) := h.recordSev.recordSev

theorem State.Keeps.linkLoss (h : s.Keeps t) : s.Keeps (t.linkLoss) := by
  unfold State.linkLoss
  extract_lets s1 s2 s3
  have h1 : s.Keeps s1 := h.setBoth.setBoth.setBoth
  have h2 : s.Keeps s2 := h1.updUpd.updUpd
  have h3 : s.Keeps s3 := h2.withLink.keepReserved.keepReserved
  exact h3.linkRecord.homesAlone.homesAlone

theorem State.Keeps.linkRetrain {high} (h : s.Keeps t) : s.Keeps (t.linkRetrain high) :=
  h.setBoth.setBoth.setBoth.incWrap.incWrap.updLink.updLink

theorem State.Keeps.flitIn {d f} (h : s.Keeps t) : s.Keeps (t.flitIn d f) := by
  unfold State.flitIn
  refine .ite h ?_
  split
  · exact h
  · exact h.updBoot
  · exact h.updWld
  · exact h.sendCmd
  · split
    · exact .ite h.updDux h
    · exact h
  · exact h.updSwc
  · exact h.updCl
  · exact .ite h.logIn h
  · exact .ite h h.updDux.updVol
  · exact h.dmaMasked
  · exact h.updVol
  · exact h.updVol
  · exact h.updSwc

theorem execFlitReceive_completes {d lane crcOk} (h : s.Keeps t) : s.Completes (execFlitReceive d lane crcOk t) := by
  unfold execFlitReceive
  extract_lets e l now errs
  refine .next ?_
  refine .ite h ?_
  refine .ite ?_ ?_
  · split
    · exact .ite h.updLink h
    · exact h
  · split
    · exact h
    · exact .ite h.updLink.flitIn (.ite h.updLink.linkLoss (.ite h.updLink.linkRetrain h.updLink))

theorem execFlitReplay_completes {d} (h : s.Keeps t) : s.Completes (execFlitReplay d t) := .next (.ite h.updLink.incWrap h)

theorem execPairLinkRetrain_completes {high} (h : s.Keeps t) : s.Completes (execPairLinkRetrain high t) :=
  .next (.ite h.linkRetrain h)

theorem execRetrainComplete_completes (h : s.Keeps t) : s.Completes (execRetrainComplete t) := .next (.ite h.setBoth.linkRecord h)

theorem execPairLinkLoss_completes (h : s.Keeps t) : s.Completes (execPairLinkLoss t) := .next (.ite h.linkLoss h)

theorem State.Keeps.mirrorPut {d port i value} (h : s.Keeps t) : s.Keeps (t.mirrorPut d port i value) := by
  unfold State.mirrorPut
  split
  · exact h.putBytes
  · exact h.putBytes
  · exact h.putBytes
  · exact h.imemPut
  · exact h.fdbSet
  · exact h.putBytes

theorem execMirroredWrite_completes {d who port index value} (h : s.Keeps t) :
    s.Completes (execMirroredWrite d who port index value t) := by
  unfold execMirroredWrite
  extract_lets i s1
  have h1 : s.Keeps s1 := h.mirrorPut
  refine .next ?_
  refine .ite h ?_
  refine .ite (.ite h.memRefuse.reply h.reply) ?_
  split
  · exact .reply (.ecmdWrite (h.foldl (fun _ _ hu => hu.wr)))
  · exact .ite h1.plSend.updVol h1.reply

theorem execMirroredWriteComplete_completes {d} (h : s.Keeps t) : s.Completes (execMirroredWriteComplete d t) := by
  unfold execMirroredWriteComplete
  refine .next ?_
  split
  · exact h
  · extract_lets s1 ends s2
    have h1 : s.Keeps s1 := h.updVol
    have h2 : s.Keeps s2 := h1.mirrorPut
    refine .ite ?_ ?_
    · exact .reply (.ite h1.ecmdDone h1)
    · exact .ite (.reply (.ite (.ecmdDone (.ite h2.dropShadow h2)) (.ite h2.dropShadow h2))) h

theorem execIslandClockRecord_completes {d r} (h : s.Keeps t) : s.Completes (execIslandClockRecord d r t) :=
  .next (h.applyRec (fun _ hu => hu.setF.setF))

/-! ### Electrical -/

theorem execSwitchDiePowerUp_completes {sd} (h : s.Keeps t) : s.Completes (execSwitchDiePowerUp sd t) :=
  .next (.ite h h.causeRecord.updSd.forgetSd)

theorem execSwitchDiePowerDown_completes {sd} (h : s.Keeps t) : s.Completes (execSwitchDiePowerDown sd t) :=
  .next (.ite h.updSd.forgetSd h)

theorem State.Keeps.reverseSwitches {feedB on} (h : s.Keeps t) : s.Keeps (t.reverseSwitches feedB on) :=
  h.foldl (fun _ _ hu => .ite (hu.foldl (fun _ _ hv => hv.updChan)) hu)

theorem execFeedReverse_completes {feedB} (h : s.Keeps t) : s.Completes (execFeedReverse feedB t) :=
  .next h.updCis.setF.reverseSwitches

theorem execFeedReverseEnd_completes {feedB} (h : s.Keeps t) : s.Completes (execFeedReverseEnd feedB t) :=
  .next (.ite h.updCis.reverseSwitches h)

theorem execVauxOverload_completes (h : s.Keeps t) : s.Completes (execVauxOverload t) := .next (.ite h.updCis.setF h)

theorem execVauxRetry_completes {overloaded} (h : s.Keeps t) : s.Completes (execVauxRetry overloaded t) :=
  .next (.ite h (.ite h.updCis.setF h.updCis))

/-! ### GatewayProgram -/

theorem State.Keeps.gwNeed {p n a len k f} (h : s.Keeps t) (hf : ∀ u x, s.Keeps u → s.Keeps (f u x).state) :
    s.Keeps (t.gwNeed p n a len k f).state := by
  refine .iteGw h.stop (.iteGw (hf _ _ h) ?_)
  split
  · exact h.stop
  · exact hf _ _ (h.storeEcc _ (by assumption))

theorem State.Keeps.gwDesc {p n i f} (h : s.Keeps t) (hf : ∀ u x y, s.Keeps u → s.Keeps (f u x y).state) :
    s.Keeps (t.gwDesc p n i f).state := by
  unfold State.gwDesc
  refine .iteGw (.stop h) ?_
  extract_lets hit t' q go
  have h_t' : s.Keeps t' := .ite h.cacheEcc h
  exact .iteGw (hf _ _ _ h_t'.descRead) (h_t'.gwNeed (fun _ _ hu => hf _ _ _ hu.descRead))

theorem State.Keeps.gwCount {n off} (h : s.Keeps t) : s.Keeps (t.gwCount n off) := h.nibPut

theorem State.Keeps.gwCountIf {n off b} (h : s.Keeps t) : s.Keeps (t.gwCountIf n off b) := .ite h.gwCount h

theorem State.Keeps.markDue {n i v p} (h : s.Keeps t) : s.Keeps (t.markDue n i v p).state := by
  unfold State.markDue
  refine .iteGw (.go h) ?_
  split
  · exact .stop h
  · exact .go h

theorem State.Keeps.setSignal {n i v val time p} (h : s.Keeps t) : s.Keeps (t.setSignal n i v val time p).state := by
  unfold State.setSignal
  extract_lets d old keep s1 s2
  have h1 : s.Keeps s1 := by
    unfold s1
    split
    · exact h.storeShadow.gwCount
    · exact .gwCount (.ite h h.dropShadow)
  have h2 : s.Keeps s2 := h1.updNib
  exact .iteGw (.stop h) (.iteGw (.go h2) h2.markDue)

theorem State.Keeps.gwClamp {n b} (h : s.Keeps t) : s.Keeps (t.gwClamp n b) := h.updNib

theorem State.Keeps.rxSignals {n pdu time bits bit p} (h : s.Keeps t) : s.Keeps (t.rxSignals n pdu time bits bit p).state :=
  h.gwEach (fun _ _ _ hu => hu.gwDesc (fun _ _ _ hv => hv.gwNeed (fun _ _ hw => .iteGw hw.setSignal
      hw.gwCountIf.gwClamp.setSignal)))

theorem State.Keeps.rxFrame {n key time data p} (h : s.Keeps t) : s.Keeps (t.rxFrame n key time data p).state := by
  unfold State.rxFrame
  refine .bind (h.gwEach (fun _ _ _ hu => hu.gwNeed (fun _ _ hv => .go hv))) (fun _ _ hu => ?_)
  split
  · exact .iteGw hu.gwCount.rxSignals (.go hu.gwCount)
  · exact .go hu.gwCount

theorem State.Keeps.stage {n off l} (h : s.Keeps t) : s.Keeps (t.stage n off l) := h.updNib

theorem State.Keeps.buildPdu {n pdu time p} (h : s.Keeps t) : s.Keeps (t.buildPdu n pdu time p).state := by
  unfold State.buildPdu
  extract_lets e
  refine .bind ?_ (fun _ _ hu => .go hu.stage)
  refine .gwEach h.stage (fun _ _ _ hu => ?_)
  refine .iteGw (.stop hu) ?_
  refine .gwNeed hu (fun _ _ hv => ?_)
  extract_lets f ps
  refine .gwDesc hv (fun _ _ _ hw => ?_)
  refine .gwNeed hw (fun _ _ hx => ?_)
  extract_lets x
  refine .iteGw (.stop hx) ?_
  split
  · exact .go hx.gwCountIf.gwClamp.updNib
  · exact .go hx.updNib

theorem State.Keeps.gwPut {n m bytes} (h : s.Keeps t) : s.Keeps (t.gwPut n m bytes) := h.updNib.sendItem

theorem State.Keeps.gwDefer {n pdu} (h : s.Keeps t) : s.Keeps (t.gwDefer n pdu) := h.updNib

theorem State.Keeps.gwSend {n pdu time counter p} (h : s.Keeps t) : s.Keeps (t.gwSend n pdu time counter p).state := by
  unfold State.gwSend
  refine .gwNeed h (fun _ _ hu => ?_)
  extract_lets e kind target
  split
  · exact hu.buildPdu.bind (fun _ _ hv => .go hv.updNib.gwPut.gwCount)
  · exact .go hu.gwDefer

theorem State.Keeps.onChange {n pdu time p} (h : s.Keeps t) : s.Keeps (t.onChange n pdu time p).state :=
  h.gwNeed (fun _ _ hu => .iteGw (.go hu) (.iteGw (.iteGw (.go hu) (.go hu.gwDefer.gwCount)) hu.gwSend))

theorem State.Keeps.reportBody {n time f l p acc} (h : s.Keeps t) (hf : ∀ u x y, s.Keeps u → s.Keeps (f u x y).state) :
    s.Keeps (State.reportBody n time f l t p acc).state := by
  induction l generalizing t p acc with
  | nil => exact hf _ _ _ h
  | cons i l ih => exact h.gwDesc (fun _ _ _ hu => hu.gwNeed (fun _ _ hv => ih hv))

theorem State.Keeps.gwReport {n q ds time p} (h : s.Keeps t) : s.Keeps (t.gwReport n q ds time p).state := by
  unfold State.gwReport
  extract_lets all
  split
  · exact h.reportBody (fun _ _ _ hu => .go hu.updNib.gwPut.gwCount)
  · exact .go h.updNib.gwCount

theorem State.Keeps.sendNotices {n p} (h : s.Keeps t) : s.Keeps (t.sendNotices n p).state := by
  unfold State.sendNotices
  refine .gwEach h (fun _ _ _ hu => ?_)
  refine .gwNeed hu (fun _ _ hv => ?_)
  split
  · exact .go hv.updNib.gwPut.gwCount
  · exact .go hv

theorem State.Keeps.endPass {n time p} (h : s.Keeps t) : s.Keeps (t.endPass n time p).state := by
  unfold State.endPass
  refine .bind (.bind (h.gwEach (fun _ _ _ hu => hu.gwNeed (fun _ _ hv => .iteGw hv.onChange (.go hv.updNib)))) (fun _ _ hu =>
      hu.sendNotices.bind (fun _ _ hv => hv.gwEach (fun _ _ _ hw => hw.gwReport)))) (fun _ _ hu => hu.gwEach (fun _ _ _ hv =>
      .iteGw hv.gwReport (.go hv)))

theorem State.Keeps.staleSignals {n time p} (h : s.Keeps t) : s.Keeps (t.staleSignals n time p).state := by
  unfold State.staleSignals
  refine .gwEach h (fun _ _ _ hu => .iteGw (.go hu) (hu.gwDesc (fun _ _ _ hv => .iteGw (hv.gwNeed (fun _ _ hw => hw.gwNeed (fun _
      _ hx => .iteGw hx.updNib.gwCount.markDue (.go hx)))) (hv.gwNeed (fun _ _ hw => .iteGw hw.updNib.gwCount.markDue (.go
      hw))))))

theorem State.Keeps.gwTickPass {n time p} (h : s.Keeps t) : s.Keeps (t.gwTickPass n time p).state := by
  unfold State.gwTickPass
  refine .bind h.staleSignals (fun _ _ hu => .bind (.bind (hu.gwEach (fun _ _ _ hv => hv.gwNeed (fun _ _ hw => .go hw))) (fun _ _
      hv => hv.gwEach (fun _ _ _ hw => hw.gwSend))) (fun _ _ hv => .bind (hv.gwEach (fun _ _ _ hw => hw.gwSend)) (fun _ _ hw =>
      .go hw.updNib)))

theorem State.Keeps.signalSet {n part time body p} (h : s.Keeps t) : s.Keeps (t.signalSet n part time body p).state := by
  unfold State.signalSet
  refine .gwEach h (fun _ _ _ hu => .iteGw (.go hu.gwCount) (hu.gwDesc (fun _ _ _ hv => .iteGw (.go hv.gwCount) (hv.gwNeed (fun _
      _ hw => .iteGw hw.setSignal (.iteGw hw.gwCountIf.gwClamp.setSignal hw.setSignal))))))

theorem State.Keeps.gwEntry {n e p} (h : s.Keeps t) : s.Keeps (t.gwEntry n e p).state := by
  unfold State.gwEntry
  extract_lets data id dlen
  refine .iteGw (.iteGw (.go h.gwCount) h.rxFrame) ?_
  refine .iteGw ?_ (.iteGw (.iteGw h.signalSet (.go h)) (.iteGw (.iteGw h.gwTickPass (.go h)) (.iteGw (.go h) (.go h))))
  refine .iteGw (.go h.gwCount) ?_
  refine .iteGw ?_ (.go h)
  refine .gwEach h (fun _ _ _ hu => ?_)
  split
  · exact hu.rxFrame
  · exact .go hu

theorem State.Keeps.close {o n} (h : s.Keeps (GwOut.state o)) : s.Keeps (o.close n) := by
  unfold GwOut.close
  split
  · exact h
  · exact h.updNib.nibBoundary
  · exact h.guardRefuse.nibRaise
  · exact h.nibRaise
  · exact h.nibRaise

theorem State.Keeps.gatewayTurn {n ecc} (h : s.Keeps t) : s.Keeps (t.gatewayTurn n ecc) := by
  unfold State.gatewayTurn
  extract_lets s'
  have h' : s.Keeps s' := .ite h.nibEcc h
  refine .ite h'.nibRaise ?_
  split
  · rename_i u heq
    have hu : s.Keeps u := h'.mbxGet.ofDo heq
    split
    · exact hu
    · exact .close (hu.updNib.gwEntry.bind (fun _ _ hv => hv.endPass))
  · exact h'.mbxGet.ofDo (by assumption)
  · exact h'

theorem execMbxGet_completes {n w ecc} (h : s.Keeps t) : s.Completes (execMbxGet n w ecc t) :=
  .next (.ite (.ite h.gatewayTurn h) (h.nibInstr (fun _ hu => hu.mbxGet)))

/-! ### Tick -/

theorem State.Keeps.tickTime {d} (h : s.Keeps t) : s.Keeps (t.tickTime d) := .ite h.same h

theorem State.Keeps.tickRtc (h : s.Keeps t) : s.Keeps (t.tickRtc) := .ite h (.ite h.updCis h.updCis.wr64)

theorem State.Keeps.tick (h : s.Keeps t) : s.Keeps (t.tick) := h.tickTime.tickTime.tickRtc
/-! ### The step -/

/-- Every command goes on, and keeps the waiting queue and the canonical form. -/
theorem exec_completes (i : Instr) (h : s.Keeps t) : s.Completes (exec i t) := by
  cases i with
  | registerWrite => exact execRegisterWrite_completes h
  | lowWordReadLatch => exact execLowWordReadLatch_completes h
  | partnerWindowRead => exact execPartnerWindowRead_completes h
  | rillTransfer => exact execRillTransfer_completes h
  | flitReceive => exact execFlitReceive_completes h
  | flitReplay => exact execFlitReplay_completes h
  | pairLinkRetrain => exact execPairLinkRetrain_completes h
  | retrainComplete => exact execRetrainComplete_completes h
  | pairLinkLoss => exact execPairLinkLoss_completes h
  | mirroredWrite => exact execMirroredWrite_completes h
  | mirroredWriteComplete => exact execMirroredWriteComplete_completes h
  | powerOnReset => exact execPowerOnReset_completes h
  | brownOut => exact execBrownOut_completes h
  | strapSample => exact execStrapSample_completes h
  | moduleReset => exact execModuleReset_completes h
  | dieReset => exact execDieReset_completes h
  | partitionReset => exact execPartitionReset_completes h
  | nibClusterReset => exact execNibClusterReset_completes h
  | switchDieReset => exact execSwitchDieReset_completes h
  | rstreqModule => exact execRstreqModule_completes h
  | rstreqDie => exact execRstreqDie_completes h
  | rstreqPartition => exact execRstreqPartition_completes h
  | rstreqNibCluster => exact execRstreqNibCluster_completes h
  | rstreqSwitchDie => exact execRstreqSwitchDie_completes h
  | resetNAssert => exact execResetNAssert_completes h
  | resetNRelease => exact execResetNRelease_completes h
  | qDieRelease => exact execQDieRelease_completes h
  | loaderDonation => exact execLoaderDonation_completes h
  | ductusVerify => exact execDuctusVerify_completes h
  | verificationExchange => exact execVerificationExchange_completes h
  | partnerResultTimeout => exact execPartnerResultTimeout_completes h
  | imageDonation => exact execImageDonation_completes h
  | islandClockRecord => exact execIslandClockRecord_completes h
  | channelRecord => exact execChannelRecord_completes h
  | feedRecord => exact execFeedRecord_completes h
  | switchDieControlRecord => exact execSwitchDieControlRecord_completes h
  | failSafeEntryRecord => exact execFailSafeEntryRecord_completes h
  | clusterRecord => exact execClusterRecord_completes h
  | programRecord => exact execProgramRecord_completes h
  | subscriptionRecord => exact execSubscriptionRecord_completes h
  | tickRecord => exact execTickRecord_completes h
  | mailboxRecord => exact execMailboxRecord_completes h
  | descriptorBlockRecord => exact execDescriptorBlockRecord_completes h
  | fanOutBlockRecord => exact execFanOutBlockRecord_completes h
  | pduBlockRecord => exact execPduBlockRecord_completes h
  | gatewayRecord => exact execGatewayRecord_completes h
  | partitionMailboxRecord => exact execPartitionMailboxRecord_completes h
  | acfPortRecord => exact execAcfPortRecord_completes h
  | valueTableRecord => exact execValueTableRecord_completes h
  | canControllerRecord => exact execCanControllerRecord_completes h
  | canFiltersRecord => exact execCanFiltersRecord_completes h
  | linControllerRecord => exact execLinControllerRecord_completes h
  | linFrameTableRecord => exact execLinFrameTableRecord_completes h
  | linScheduleRecord => exact execLinScheduleRecord_completes h
  | senseInputsRecord => exact execSenseInputsRecord_completes h
  | satelliteBusRecord => exact execSatelliteBusRecord_completes h
  | portRecord => exact execPortRecord_completes h
  | switchRecord => exact execSwitchRecord_completes h
  | switchPortRecord => exact execSwitchPortRecord_completes h
  | vlanBlockRecord => exact execVlanBlockRecord_completes h
  | staticEntriesRecord => exact execStaticEntriesRecord_completes h
  | gateListRecord => exact execGateListRecord_completes h
  | hostQueuesRecord => exact execHostQueuesRecord_completes h
  | timeRecord => exact execTimeRecord_completes h
  | phasePlanRecord => exact execPhasePlanRecord_completes h
  | gptpPortRecord => exact execGptpPortRecord_completes h
  | pulseOutputRecord => exact execPulseOutputRecord_completes h
  | lanePinRecord => exact execLanePinRecord_completes h
  | duplexRecord => exact execDuplexRecord_completes h
  | epochRecord => exact execEpochRecord_completes h
  | openImageRecord => exact execOpenImageRecord_completes h
  | energyPolicyRecord => exact execEnergyPolicyRecord_completes h
  | wakePinsRecord => exact execWakePinsRecord_completes h
  | feedWatchRecord => exact execFeedWatchRecord_completes h
  | groupRecord => exact execGroupRecord_completes h
  | remoteAccessRecord => exact execRemoteAccessRecord_completes h
  | roamingRecord => exact execRoamingRecord_completes h
  | updatePolicyRecord => exact execUpdatePolicyRecord_completes h
  | compatibilityRecord => exact execCompatibilityRecord_completes h
  | faultPolicyRecord => exact execFaultPolicyRecord_completes h
  | debugPolicyRecord => exact execDebugPolicyRecord_completes h
  | sealedKeyStoreRecord => exact execSealedKeyStoreRecord_completes h
  | partitionRecord => exact execPartitionRecord_completes h
  | gateBlockRecord => exact execGateBlockRecord_completes h
  | assignmentBlockRecord => exact execAssignmentBlockRecord_completes h
  | sealedWorldRecord => exact execSealedWorldRecord_completes h
  | sealedCodeRecord => exact execSealedCodeRecord_completes h
  | regionBlockRecord => exact execRegionBlockRecord_completes h
  | routeBlockRecord => exact execRouteBlockRecord_completes h
  | controllerRecord => exact execControllerRecord_completes h
  | softwareSettersRecord => exact execSoftwareSettersRecord_completes h
  | nibStart => exact execNibStart_completes h
  | sealReady => exact execSealReady_completes h
  | sealReadyTimeout => exact execSealReadyTimeout_completes h
  | switchDiePowerUp => exact execSwitchDiePowerUp_completes h
  | startEntry => exact execStartEntry_completes h
  | holdTimeEnd => exact execHoldTimeEnd_completes h
  | switchDiePowerDown => exact execSwitchDiePowerDown_completes h
  | limpPinChange => exact execLimpPinChange_completes h
  | undervoltageTurnOff => exact execUndervoltageTurnOff_completes h
  | undervoltageRestart => exact execUndervoltageRestart_completes h
  | overvoltageTurnOff => exact execOvervoltageTurnOff_completes h
  | overvoltageRestart => exact execOvervoltageRestart_completes h
  | settingMismatch => exact execSettingMismatch_completes h
  | settingMismatchClear => exact execSettingMismatchClear_completes h
  | feedReverse => exact execFeedReverse_completes h
  | feedReverseEnd => exact execFeedReverseEnd_completes h
  | currentLimit => exact execCurrentLimit_completes h
  | overcurrentTrip => exact execOvercurrentTrip_completes h
  | junctionWarning => exact execJunctionWarning_completes h
  | thermalShutdown => exact execThermalShutdown_completes h
  | lampRetry => exact execLampRetry_completes h
  | warmWindowEnd => exact execWarmWindowEnd_completes h
  | openLoadOn => exact execOpenLoadOn_completes h
  | offStateTest => exact execOffStateTest_completes h
  | offStateTestComplete => exact execOffStateTestComplete_completes h
  | sensePathTest => exact execSensePathTest_completes h
  | nvmTableCheck => exact execNvmTableCheck_completes h
  | wireModelStep => exact execWireModelStep_completes h
  | inductanceEstimate => exact execInductanceEstimate_completes h
  | rampEnd => exact execRampEnd_completes h
  | failSafeTrip => exact execFailSafeTrip_completes h
  | pwrRestart => exact execPwrRestart_completes h
  | pwrOltest => exact execPwrOltest_completes h
  | pwrCalcmdCapture => exact execPwrCalcmdCapture_completes h
  | pwrCalcmdCommit => exact execPwrCalcmdCommit_completes h
  | pwrCalcmdCancel => exact execPwrCalcmdCancel_completes h
  | pwrCalrefWrite => exact execPwrCalrefWrite_completes h
  | dctlEnterTest => exact execDctlEnterTest_completes h
  | dctlLeaveTest => exact execDctlLeaveTest_completes h
  | dctlEnterRecovery => exact execDctlEnterRecovery_completes h
  | cyc => exact execCyc_completes h
  | svcent => exact execSvcent_completes h
  | steer => exact execSteer_completes h
  | modeEnterTest => exact execModeEnterTest_completes h
  | modeLeaveTest => exact execModeLeaveTest_completes h
  | modeEnterRecovery => exact execModeEnterRecovery_completes h
  | latch => exact execLatch_completes h
  | ramp => exact execRamp_completes h
  | restart => exact execRestart_completes h
  | oltest => exact execOltest_completes h
  | bdir => exact execBdir_completes h
  | calcmdCapture => exact execCalcmdCapture_completes h
  | captureComplete => exact execCaptureComplete_completes h
  | calcmdCommit => exact execCalcmdCommit_completes h
  | calcmdCancel => exact execCalcmdCancel_completes h
  | calref => exact execCalref_completes h
  | tblstart => exact execTblstart_completes h
  | tbldata => exact execTbldata_completes h
  | tblend => exact execTblend_completes h
  | tableCommit => exact execTableCommit_completes h
  | nvmWriteComplete => exact execNvmWriteComplete_completes h
  | forceRelease => exact execForceRelease_completes h
  | forceOff => exact execForceOff_completes h
  | forceOn => exact execForceOn_completes h
  | forceTimeout => exact execForceTimeout_completes h
  | testTimeout => exact execTestTimeout_completes h
  | serialWatchdogExpiry => exact execSerialWatchdogExpiry_completes h
  | serviceCycle => exact execServiceCycle_completes h
  | sns => exact execSns_completes h
  | dstat => exact execDstat_completes h
  | evt => exact execEvt_completes h
  | ack => exact execAck_completes h
  | ser => exact execSer_completes h
  | tbldig => exact execTbldig_completes h
  | mis => exact execMis_completes h
  | tableAckTimeout => exact execTableAckTimeout_completes h
  | inputLineEdge => exact execInputLineEdge_completes h
  | deferralEnd => exact execDeferralEnd_completes h
  | lineAbsent => exact execLineAbsent_completes h
  | lineMismatch => exact execLineMismatch_completes h
  | lineChangeTimeout => exact execLineChangeTimeout_completes h
  | linkSilence => exact execLinkSilence_completes h
  | pwmPeriodStart => exact execPwmPeriodStart_completes h
  | nibWatchdogExpiry => exact execNibWatchdogExpiry_completes h
  | streamEntryArrival => exact execStreamEntryArrival_completes h
  | entryRelease => exact execEntryRelease_completes h
  | sourceStall => exact execSourceStall_completes h
  | orderEntry => exact execOrderEntry_completes h
  | orderEntryUnmatched => exact execOrderEntryUnmatched_completes h
  | localCopyDiscard => exact execLocalCopyDiscard_completes h
  | twinLag => exact execTwinLag_completes h
  | clusterTick => exact execClusterTick_completes h
  | imemWrite => exact execImemWrite_completes h
  | nbcHaltNib => exact execNbcHaltNib_completes h
  | nbcResumeNib => exact execNbcResumeNib_completes h
  | nbcHaltAll => exact execNbcHaltAll_completes h
  | nbcResumeAll => exact execNbcResumeAll_completes h
  | nbcRequestBist => exact execNbcRequestBist_completes h
  | reloadComplete => exact execReloadComplete_completes h
  | rejoinComplete => exact execRejoinComplete_completes h
  | spareSubstitution => exact execSpareSubstitution_completes h
  | clusterBist => exact execClusterBist_completes h
  | add => exact execAdd_completes h
  | sub => exact execSub_completes h
  | opAnd => exact execAnd_completes h
  | opOr => exact execOr_completes h
  | xor => exact execXor_completes h
  | shl => exact execShl_completes h
  | shr => exact execShr_completes h
  | sar => exact execSar_completes h
  | ror => exact execRor_completes h
  | mul => exact execMul_completes h
  | mulh => exact execMulh_completes h
  | mulhu => exact execMulhu_completes h
  | min => exact execMin_completes h
  | max => exact execMax_completes h
  | minu => exact execMinu_completes h
  | maxu => exact execMaxu_completes h
  | abs => exact execAbs_completes h
  | clz => exact execClz_completes h
  | cmp => exact execCmp_completes h
  | tst => exact execTst_completes h
  | addi => exact execAddi_completes h
  | subi => exact execSubi_completes h
  | andi => exact execAndi_completes h
  | ori => exact execOri_completes h
  | xori => exact execXori_completes h
  | cmpi => exact execCmpi_completes h
  | lui => exact execLui_completes h
  | shli => exact execShli_completes h
  | shri => exact execShri_completes h
  | sari => exact execSari_completes h
  | rori => exact execRori_completes h
  | sats => exact execSats_completes h
  | satu => exact execSatu_completes h
  | rnd => exact execRnd_completes h
  | mac => exact execMac_completes h
  | macu => exact execMacu_completes h
  | msu => exact execMsu_completes h
  | mula => exact execMula_completes h
  | mulau => exact execMulau_completes h
  | mfal => exact execMfal_completes h
  | mfah => exact execMfah_completes h
  | mta => exact execMta_completes h
  | aclr => exact execAclr_completes h
  | ext => exact execExt_completes h
  | exts => exact execExts_completes h
  | extb => exact execExtb_completes h
  | extbs => exact execExtbs_completes h
  | ins => exact execIns_completes h
  | insb => exact execInsb_completes h
  | extA => exact execExtA_completes h
  | extsA => exact execExtsA_completes h
  | extbA => exact execExtbA_completes h
  | extbsA => exact execExtbsA_completes h
  | insA => exact execInsA_completes h
  | insbA => exact execInsbA_completes h
  | ldw => exact execLdw_completes h
  | ldh => exact execLdh_completes h
  | ldb => exact execLdb_completes h
  | stw => exact execStw_completes h
  | sth => exact execSth_completes h
  | stb => exact execStb_completes h
  | br => exact execBr_completes h
  | bal => exact execBal_completes h
  | opLoop => exact execLoop_completes h
  | loopr => exact execLoopr_completes h
  | trap => exact execTrap_completes h
  | nop => exact execNop_completes h
  | eret => exact execEret_completes h
  | wait => exact execWait_completes h
  | sync => exact execSync_completes h
  | mset => exact execMset_completes h
  | mfs => exact execMfs_completes h
  | mts => exact execMts_completes h
  | jr => exact execJr_completes h
  | jalr => exact execJalr_completes h
  | dscLdU => exact execDscLdU_completes h
  | dscLdS => exact execDscLdS_completes h
  | dscLdP => exact execDscLdP_completes h
  | dscLdF => exact execDscLdF_completes h
  | sclI => exact execSclI_completes h
  | sclO => exact execSclO_completes h
  | dscStS => exact execDscStS_completes h
  | dscStX => exact execDscStX_completes h
  | dscStP => exact execDscStP_completes h
  | dscStO => exact execDscStO_completes h
  | mbxGet => exact execMbxGet_completes h
  | mbxPut => exact execMbxPut_completes h
  | snsGet => exact execSnsGet_completes h
  | tgetL => exact execTgetL_completes h
  | tgetH => exact execTgetH_completes h
  | ocmpLvl => exact execOcmpLvl_completes h
  | ocmpPwm => exact execOcmpPwm_completes h
  | crcStep => exact execCrcStep_completes h
  | shadowAgeingPass => exact execShadowAgeingPass_completes h
  | otailWrite => exact execOtailWrite_completes h
  | outboundItem => exact execOutboundItem_completes h
  | iheadWrite => exact execIheadWrite_completes h
  | ecmdRead => exact execEcmdRead_completes h
  | ecmdWrite => exact execEcmdWrite_completes h
  | invalidateOne => exact execInvalidateOne_completes h
  | invalidateAll => exact execInvalidateAll_completes h
  | invalidationComplete => exact execInvalidationComplete_completes h
  | generationSweep => exact execGenerationSweep_completes h
  | mirrorScrubBlock => exact execMirrorScrubBlock_completes h
  | signalStoreCopy => exact execSignalStoreCopy_completes h
  | signalStoreEccError => exact execSignalStoreEccError_completes h
  | tidxWrite => exact execTidxWrite_completes h
  | canFrameReceive => exact execCanFrameReceive_completes h
  | shadowFrameTimeout => exact execShadowFrameTimeout_completes h
  | fieldBusSteerRequest => exact execFieldBusSteerRequest_completes h
  | selectorChange => exact execSelectorChange_completes h
  | controllerSilent => exact execControllerSilent_completes h
  | canFrameSent => exact execCanFrameSent_completes h
  | busOff => exact execBusOff_completes h
  | busOffRecovery => exact execBusOffRecovery_completes h
  | canWakePattern => exact execCanWakePattern_completes h
  | canRestart => exact execCanRestart_completes h
  | canStandby => exact execCanStandby_completes h
  | canNormal => exact execCanNormal_completes h
  | linRunRange => exact execLinRunRange_completes h
  | linGoToSleep => exact execLinGoToSleep_completes h
  | linSendWakeup => exact execLinSendWakeup_completes h
  | linSlotStart => exact execLinSlotStart_completes h
  | linFrameReceive => exact execLinFrameReceive_completes h
  | linWake => exact execLinWake_completes h
  | satelliteAccess => exact execSatelliteAccess_completes h
  | satelliteBusGrant => exact execSatelliteBusGrant_completes h
  | satelliteBusTimeout => exact execSatelliteBusTimeout_completes h
  | satelliteTransactionEnd => exact execSatelliteTransactionEnd_completes h
  | satelliteLockTimeout => exact execSatelliteLockTimeout_completes h
  | senseSample => exact execSenseSample_completes h
  | senseDebounceExpiry => exact execSenseDebounceExpiry_completes h
  | macFrameReceive => exact execMacFrameReceive_completes h
  | pauseReceive => exact execPauseReceive_completes h
  | pauseExpiry => exact execPauseExpiry_completes h
  | pauseRepeat => exact execPauseRepeat_completes h
  | linkChange => exact execLinkChange_completes h
  | portSteerCommand => exact execPortSteerCommand_completes h
  | portSelectorChange => exact execPortSelectorChange_completes h
  | macSilent => exact execMacSilent_completes h
  | macTransmit => exact execMacTransmit_completes h
  | transmitEcho => exact execTransmitEcho_completes h
  | echoTimeout => exact execEchoTimeout_completes h
  | collision => exact execCollision_completes h
  | forcedCollision => exact execForcedCollision_completes h
  | beaconLoss => exact execBeaconLoss_completes h
  | beacon => exact execBeacon_completes h
  | lpiEntry => exact execLpiEntry_completes h
  | lpiWakeEnd => exact execLpiWakeEnd_completes h
  | eeewakeWrite => exact execEeewakeWrite_completes h
  | verifyTimeout => exact execVerifyTimeout_completes h
  | macRetrain => exact execMacRetrain_completes h
  | macRepeatVerify => exact execMacRepeatVerify_completes h
  | frameReassembled => exact execFrameReassembled_completes h
  | bufferSkip => exact execBufferSkip_completes h
  | reassemblyTimeout => exact execReassemblyTimeout_completes h
  | bufferReadmit => exact execBufferReadmit_completes h
  | fdbAgeingPass => exact execFdbAgeingPass_completes h
  | txtailWrite => exact execTxtailWrite_completes h
  | hostDescriptorRead => exact execHostDescriptorRead_completes h
  | pairPortFrame => exact execPairPortFrame_completes h
  | rxheadWrite => exact execRxheadWrite_completes h
  | hostQueueTimeout => exact execHostQueueTimeout_completes h
  | gateEntryChange => exact execGateEntryChange_completes h
  | feedEntry => exact execFeedEntry_completes h
  | feedAck => exact execFeedAck_completes h
  | shadowFrameDiscard => exact execShadowFrameDiscard_completes h
  | switchCoreFailover => exact execSwitchCoreFailover_completes h
  | standbyRestart => exact execStandbyRestart_completes h
  | flushAll => exact execFlushAll_completes h
  | flushPort => exact execFlushPort_completes h
  | readmitBuffer => exact execReadmitBuffer_completes h
  | fdbReadByKey => exact execFdbReadByKey_completes h
  | fdbReadByIndex => exact execFdbReadByIndex_completes h
  | fdbWrite => exact execFdbWrite_completes h
  | fdbDelete => exact execFdbDelete_completes h
  | vlanRead => exact execVlanRead_completes h
  | vlanWrite => exact execVlanWrite_completes h
  | syncReceive => exact execSyncReceive_completes h
  | announceReceive => exact execAnnounceReceive_completes h
  | pdelayExchange => exact execPdelayExchange_completes h
  | syncTransmit => exact execSyncTransmit_completes h
  | syncReceiptTimeout => exact execSyncReceiptTimeout_completes h
  | holdoverLimit => exact execHoldoverLimit_completes h
  | stepProposal => exact execStepProposal_completes h
  | stepApply => exact execStepApply_completes h
  | dieOffsetExchange => exact execDieOffsetExchange_completes h
  | rtcSet => exact execRtcSet_completes h
  | nowRead => exact execNowRead_completes h
  | snap => exact execSnap_completes h
  | pulseArm => exact execPulseArm_completes h
  | periodlWrite => exact execPeriodlWrite_completes h
  | pulseRise => exact execPulseRise_completes h
  | pulseFall => exact execPulseFall_completes h
  | lanePinMismatch => exact execLanePinMismatch_completes h
  | egressTransaction => exact execEgressTransaction_completes h
  | stoppedCore => exact execStoppedCore_completes h
  | lagStall => exact execLagStall_completes h
  | slowCopy => exact execSlowCopy_completes h
  | agree => exact execAgree_completes h
  | ckpt => exact execCkpt_completes h
  | wgate => exact execWgate_completes h
  | wentry => exact execWentry_completes h
  | wret => exact execWret_completes h
  | hgatpWrite => exact execHgatpWrite_completes h
  | eventDelivery => exact execEventDelivery_completes h
  | wfiWake => exact execWfiWake_completes h
  | counterOverflow => exact execCounterOverflow_completes h
  | cacheEccError => exact execCacheEccError_completes h
  | duplexStart => exact execDuplexStart_completes h
  | epochEnd => exact execEpochEnd_completes h
  | journalSend => exact execJournalSend_completes h
  | journalReceive => exact execJournalReceive_completes h
  | sealAck => exact execSealAck_completes h
  | sealWait => exact execSealWait_completes h
  | spareLagTimeout => exact execSpareLagTimeout_completes h
  | logAck => exact execLogAck_completes h
  | failover => exact execFailover_completes h
  | logExhausted => exact execLogExhausted_completes h
  | dieLoss => exact execDieLoss_completes h
  | syncPass => exact execSyncPass_completes h
  | duplexBist => exact execDuplexBist_completes h
  | bistInterval => exact execBistInterval_completes h
  | ckpRoleSwapPartition => exact execCkpRoleSwapPartition_completes h
  | ckpRoleSwapDie => exact execCkpRoleSwapDie_completes h
  | ckpResync => exact execCkpResync_completes h
  | duxRunBist => exact execDuxRunBist_completes h
  | duxRetire => exact execDuxRetire_completes h
  | wldResetAck => exact execWldResetAck_completes h
  | wldRestart => exact execWldRestart_completes h
  | pinWrite => exact execPinWrite_completes h
  | sealedWatchdogExpiry => exact execSealedWatchdogExpiry_completes h
  | sealedRestartReload => exact execSealedRestartReload_completes h
  | sealedStateNotice => exact execSealedStateNotice_completes h
  | rgdRead => exact execRgdRead_completes h
  | rgdWrite => exact execRgdWrite_completes h
  | sourceFire => exact execSourceFire_completes h
  | moderationTimeout => exact execModerationTimeout_completes h
  | claimM => exact execClaimM_completes h
  | claimS => exact execClaimS_completes h
  | claimV => exact execClaimV_completes h
  | eoiM => exact execEoiM_completes h
  | eoiS => exact execEoiS_completes h
  | eoiV => exact execEoiV_completes h
  | thresholdWrite => exact execThresholdWrite_completes h
  | softwareSet => exact execSoftwareSet_completes h
  | timerCompareWrite => exact execTimerCompareWrite_completes h
  | timerExpiry => exact execTimerExpiry_completes h
  | partnerEvcWrite => exact execPartnerEvcWrite_completes h
  | laneDisagreement => exact execLaneDisagreement_completes h
  | holderSilent => exact execHolderSilent_completes h
  | supervisorTimeout => exact execSupervisorTimeout_completes h
  | regulatorFailure => exact execRegulatorFailure_completes h
  | regulatorRestart => exact execRegulatorRestart_completes h
  | rtcCrystalStop => exact execRtcCrystalStop_completes h
  | sleepDrowse => exact execSleepDrowse_completes h
  | sleepDormant => exact execSleepDormant_completes h
  | sleepSentinel => exact execSleepSentinel_completes h
  | commitPoint => exact execCommitPoint_completes h
  | sleepTimeout => exact execSleepTimeout_completes h
  | standbyRelease => exact execStandbyRelease_completes h
  | wakeFromDrowse => exact execWakeFromDrowse_completes h
  | wakeFromDormant => exact execWakeFromDormant_completes h
  | wakeFromSentinel => exact execWakeFromSentinel_completes h
  | wakePinEdge => exact execWakePinEdge_completes h
  | rtcAlarm => exact execRtcAlarm_completes h
  | alarmWrite => exact execAlarmWrite_completes h
  | meterSample => exact execMeterSample_completes h
  | energyReport => exact execEnergyReport_completes h
  | balanceFloor => exact execBalanceFloor_completes h
  | grant => exact execGrant_completes h
  | errandAdd => exact execErrandAdd_completes h
  | errandCancel => exact execErrandCancel_completes h
  | errandDone => exact execErrandDone_completes h
  | errandDue => exact execErrandDue_completes h
  | errandDeadline => exact execErrandDeadline_completes h
  | errandOverrun => exact execErrandOverrun_completes h
  | limitUpdate => exact execLimitUpdate_completes h
  | faultReport => exact execFaultReport_completes h
  | reportConfirmTimeout => exact execReportConfirmTimeout_completes h
  | roleSwapRequest => exact execRoleSwapRequest_completes h
  | heartbeatSend => exact execHeartbeatSend_completes h
  | heartbeat => exact execHeartbeat_completes h
  | memberLoss => exact execMemberLoss_completes h
  | viewSend => exact execViewSend_completes h
  | view => exact execView_completes h
  | joinSend => exact execJoinSend_completes h
  | join => exact execJoin_completes h
  | admitModule => exact execAdmit_completes h
  | isolation => exact execIsolation_completes h
  | leave => exact execLeave_completes h
  | coordinatorTakeover => exact execCoordinatorTakeover_completes h
  | slowClear => exact execSlowClear_completes h
  | reportSlot => exact execReportSlot_completes h
  | reportRetry => exact execReportRetry_completes h
  | report => exact execReport_completes h
  | iamarAck => exact execIamarAck_completes h
  | ledgerClose => exact execLedgerClose_completes h
  | zgpReport => exact execZgpReport_completes h
  | zgpLeave => exact execZgpLeave_completes h
  | zgpRejoin => exact execZgpRejoin_completes h
  | zgpRelease => exact execZgpRelease_completes h
  | publish => exact execPublish_completes h
  | roamstate => exact execRoamstate_completes h
  | roam => exact execRoam_completes h
  | roamingGrant => exact execRoamingGrant_completes h
  | remreq => exact execRemreq_completes h
  | remoteAccess => exact execRemoteAccess_completes h
  | remrsp => exact execRemrsp_completes h
  | remoteTimeout => exact execRemoteTimeout_completes h
  | remoteLockTimeout => exact execRemoteLockTimeout_completes h
  | updManifest => exact execUpdManifest_completes h
  | updStage => exact execUpdStage_completes h
  | updInstall => exact execUpdInstall_completes h
  | updCutover => exact execUpdCutover_completes h
  | updAbort => exact execUpdAbort_completes h
  | updClear => exact execUpdClear_completes h
  | chunkSync => exact execChunkSync_completes h
  | prep1Complete => exact execPrep1Complete_completes h
  | prep1Timeout => exact execPrep1Timeout_completes h
  | updateWrite d units =>
    change s.Completes (execUpdateWrite d units t)
    exact execUpdateWrite_completes h
  | boot1Timeout => exact execBoot1Timeout_completes h
  | splitLimit => exact execSplitLimit_completes h
  | cutoverCommit => exact execCutoverCommit_completes h
  | cutoverLimit => exact execCutoverLimit_completes h
  | updateRequest => exact execUpdateRequest_completes h
  | update => exact execUpdate_completes h
  | grantLapse => exact execGrantLapse_completes h
  | summaryWrite => exact execSummaryWrite_completes h
  | faultAssert => exact execFaultAssert_completes h
  | faultRelease => exact execFaultRelease_completes h
  | blotterRead => exact execBlotterRead_completes h
  | blotterRelease => exact execBlotterRelease_completes h
  | dump => exact execDump_completes h
  | clearsum => exact execClearsum_completes h
  | scrubPass => exact execScrubPass_completes h
  | sramRowRemap => exact execSramRowRemap_completes h
  | dramRowRepair => exact execDramRowRepair_completes h
  | dramEccError => exact execDramEccError_completes h
  | fatalFailure => exact execFatalFailure_completes h
  | managementWatchdogExpiry => exact execManagementWatchdogExpiry_completes h
  | dumpComplete => exact execDumpComplete_completes h
  | blotterCopy => exact execBlotterCopy_completes h
  | katStep => exact execKatStep_completes h
  | dieGlitch => exact execDieGlitch_completes h
  | cisternGlitch => exact execCisternGlitch_completes h
  | drbgHealthFail => exact execDrbgHealthFail_completes h
  | challenge => exact execChallenge_completes h
  | unlock => exact execUnlock_completes h
  | unlockVerified => exact execUnlockVerified_completes h
  | challengeExpiry => exact execChallengeExpiry_completes h
  | zeroise => exact execZeroise_completes h
  | measurementRead => exact execMeasurementRead_completes h
  | secRandom => exact execSecRandom_completes h
  | secKeygen => exact execSecKeygen_completes h
  | secLoad => exact execSecLoad_completes h
  | secSave => exact execSecSave_completes h
  | secGcmEncrypt => exact execSecGcmEncrypt_completes h
  | secGcmDecrypt => exact execSecGcmDecrypt_completes h
  | secSign => exact execSecSign_completes h
  | secAttest => exact execSecAttest_completes h
  | secClearSlot => exact execSecClearSlot_completes h
  | secSha384 => exact execSecSha384_completes h
  | secOperationComplete => exact execSecOperationComplete_completes h
  | vauxOverload => exact execVauxOverload_completes h
  | vauxRetry => exact execVauxRetry_completes h
  | pairLinkUp => exact execPairLinkUp_completes h
  | linkOutOfStep => exact execLinkOutOfStep_completes h
  | upstreamFramesAbsent => exact execUpstreamFramesAbsent_completes h
  | laneLevelApply => exact execLaneLevelApply_completes h
  | msql => exact execMsql_completes h
  | msqh => exact execMsqh_completes h
  | vout => exact execVout_completes h
  | voutb => exact execVoutb_completes h
  | tj => exact execTj_completes h
  | chst => exact execChst_completes h
  | feed => exact execFeed_completes h
  | tsub => exact execTsub_completes h
  | canIntegrated => exact execCanIntegrated_completes h
  | receiveLpi => exact execReceiveLpi_completes h
  | signalingReceive => exact execSignalingReceive_completes h
  | announceReceiptTimeout => exact execAnnounceReceiptTimeout_completes h
  | applicationCoreInstruction => exact execApplicationCoreInstruction_completes h
  | partitionResetHeld => exact execPartitionResetHeld_completes h
  -- The one command left is `Instr.seal`, whose name is a keyword of Lean and cannot stand as a case.
  | _ => exact execSeal_completes h

theorem step_completes (s : State) : ∃ t, step s = .next t ∧ t.pending = s.pending.tail ∧ (s.Canonical → t.Canonical) := by
  cases hp : s.pending with
  | nil =>
    have htick := (State.Keeps.refl s).tick
    exact ⟨s.tick, step_of_pending_nil hp, htick.pending.trans hp, htick.canonical⟩
  | cons c l =>
    obtain ⟨t, ht, hkeeps⟩ := exec_completes c (State.Keeps.refl { s with pending := l })
    exact ⟨t, (step_of_pending_cons hp).trans ht, hkeeps.pending, hkeeps.canonical⟩

/-- Settles O19: every command completes, and no operation of its effect touches the queue. -/
theorem stepTakesOneCommand : Obligations.StepTakesOneCommand := by
  intro s
  obtain ⟨t, ht, hpending, -⟩ := step_completes s
  exact ⟨t, ht, hpending⟩

/-- Settles O18: every command completes, and every operation of its effect keeps the canonical form. -/
theorem stepKeepsCanonicalStorage : Obligations.StepKeepsCanonicalStorage := by
  intro s t hs ht
  obtain ⟨u, hu, -, hcanonical⟩ := step_completes s
  obtain rfl : u = t := Host.Outcome.next.inj (hu.symm.trans ht)
  exact hcanonical hs

end Sys2Proof.Machine
end


section
/-! SUPPORT. The nib instructions: when they do nothing, what comes before their effect, and what those that only compute change. -/

namespace Sys2Proof.Machine
set_option Elab.async false

variable {s t : State} {n : NibId} {w : Word} {ecc : EccFind} {op : NibOp} {k : NibKind} {known : Bool} {legal : Nib → Bool}
  {body : State → NibDo}

/-! ### Before the effect -/

/-- A nib that does not run, or that stands at another word, does nothing. -/
theorem State.nibInstr_idle (h : ¬ s.nibRuns n ∨ ¬ s.fetches n w ∨ (¬ op.isOp w ∧ known)) :
    s.nibInstr n w ecc op k known legal body = s := by
  refine if_pos ?_
  rcases h with h | h | ⟨h, hk⟩
  · simp [h]
  · simp [h]
  · simp [h, hk]

section
variable (hr : s.nibRuns n) (hf : s.fetches n w) (hw : op.isOp w ∨ ¬ known)
include hr hf hw

theorem State.nibInstr_stands : ¬ (!(s.nibRuns n && s.fetches n w && (op.isOp w || !known))) = true := by
  rcases hw with hw | hw <;> simp [hr, hf, hw]

/-- The fetch failed. -/
theorem State.nibInstr_badFetch (he : ecc = .badFetch) :
    s.nibInstr n w ecc op k known legal body = s.nibFail n 4 (s.nib n).pc 5 := by
  subst he
  unfold State.nibInstr
  rw [if_neg (State.nibInstr_stands hr hf hw)]
  exact if_pos rfl

/-- The word is undefined, or stands where it must not. -/
theorem State.nibInstr_illegal (he : ecc ≠ .badFetch)
    (h : ¬ op.isOp w ∨ ¬ op.clean w ∨ ((s.nib n).slotOf.isSome ∧ (k = .branch ∨ k = .mset)) ∨ ((s.nib n).mset.isSome ∧ k ≠ .plain)) :
    s.nibInstr n w ecc op k known legal body = (s.nibNoted n ecc).nibFail n 1 w.toNat 0 := by
  unfold State.nibInstr
  rw [if_neg (State.nibInstr_stands hr hf hw)]
  refine (if_neg he).trans (if_pos ?_)
  rcases h with h | h | h | h
  · simp [h]
  · simp [h]
  · exact .inr (.inl h)
  · exact .inr (.inr h)

/-- A jump form at the end of an active loop. -/
theorem State.nibInstr_loopForm {a : Nat} (he : ecc ≠ .badFetch) (ho : op.isOp w) (hc : op.clean w) (hl : legal (s.nib n))
    (hs : (s.nib n).slotOf = none) (hm : (s.nib n).mset = none) (ha : (s.nib n).loopForm k = some a) :
    s.nibInstr n w ecc op k known legal body = (s.nibNoted n ecc).nibFail n 5 a 0 := by
  unfold State.nibInstr
  rw [if_neg (State.nibInstr_stands hr hf hw)]
  refine (if_neg he).trans ((if_neg (by simp [ho, hc, hl, hs, hm])).trans ?_)
  rw [ha]
  rfl

end

/-- Settles O7: the frame's first condition fails. -/
theorem stoppedNibExecutesNothing : Obligations.StoppedNibExecutesNothing := by
  intro s i f hform hg h
  obtain ⟨legal, body, hexec⟩ := exec_nibForm hform hg
  rw [hexec, State.nibInstr_idle h]

/-- BAL, JR, TRAP and WAIT have no condition on their fields. -/
theorem exec_loopBarred {i : Instr} {f : NibForm} (h : nibForm i = some f)
    (hi : i = .bal f.n f.w f.ecc ∨ i = .jr f.n f.w f.ecc ∨ i = .trap f.n f.w f.ecc ∨ i = .wait f.n f.w f.ecc) :
    ∃ body, exec i s = .next (s.nibInstr f.n f.w f.ecc f.op f.kind (nibKnown f.w) (fun _ => true) body) := by
  obtain ⟨n, w, ecc, op, k⟩ := f
  rcases hi with rfl | rfl | rfl | rfl <;> cases h <;> exact ⟨_, rfl⟩

/-- Settles O8. -/
theorem nibCausesBeforeEffect : Obligations.NibCausesBeforeEffect := by
  intro s i f hform hg hr hf hw
  obtain ⟨legal, body, hexec⟩ := exec_nibForm hform hg
  refine ⟨fun he => ?_, fun he h => ?_, fun a he ho hc hs hm hi ha => ?_⟩
  · rw [hexec, State.nibInstr_badFetch hr hf hw he]
  · rw [hexec, State.nibInstr_illegal hr hf hw he h]
  · obtain ⟨body, hexec⟩ := exec_loopBarred (s := s) hform hi
    rw [hexec, State.nibInstr_loopForm hr hf hw he ho hc rfl hs hm ha]

/-! ### Instructions that only compute -/

/-- The flags of the bank that is not in use. -/
def Nib.idleFlags (x : Nib) : NibFlags := if x.bank then x.flags0 else x.flags1

theorem Nib.setFlags_bank (x : Nib) (g : NibFlags) : (x.setFlags g).bank = x.bank := by
  unfold Nib.setFlags
  split <;> rfl

theorem Nib.setFlags_flags (x : Nib) (g : NibFlags) : (x.setFlags g).flags = g := by
  unfold Nib.setFlags Nib.flags
  cases x.bank <;> simp

theorem Nib.setFlags_idleFlags (x : Nib) (g : NibFlags) : (x.setFlags g).idleFlags = x.idleFlags := by
  unfold Nib.setFlags Nib.idleFlags
  cases x.bank <;> simp

theorem NibFlags.sameZncv_refl (a : NibFlags) : a.sameZncv a := ⟨rfl, rfl, rfl, rfl⟩

theorem NibFlags.sameZncv_trans {a b c : NibFlags} (h : a.sameZncv b) (h' : b.sameZncv c) : a.sameZncv c :=
  ⟨h.1.trans h'.1, h.2.1.trans h'.2.1, h.2.2.1.trans h'.2.2.1, h.2.2.2.trans h'.2.2.2⟩

/-- A nib changed from `x` to `y` in no more than an instruction that only computes may change. -/
structure NibWrites.Allows (c : NibWrites) (w : Word) (x y : Nib) : Prop where
  rest : { y with regs := x.regs, acc := x.acc, flags0 := x.flags0, flags1 := x.flags1 } = x
  bank : y.bank = x.bank
  regs : ∀ j, ¬ (c.rd = true ∧ j = 16 * b2n x.bank + wRd w) → tget 0#32 y.regs j = tget 0#32 x.regs j
  acc : ¬ c.acc = true → y.acc = x.acc
  idle : y.idleFlags = x.idleFlags
  zncv : ¬ c.flags = true → x.flags.sameZncv y.flags
  sticky : x.flags.s = true → y.flags.s = true

section

variable {c : NibWrites} {x y : Nib}

theorem NibWrites.Allows.refl (c : NibWrites) (w : Word) (x : Nib) : c.Allows w x x where
  rest := rfl
  bank := rfl
  regs := fun _ _ => rfl
  acc := fun _ => rfl
  idle := rfl
  zncv := fun _ => x.flags.sameZncv_refl
  sticky := id

theorem NibWrites.Allows.setReg {v : Word} (h : c.Allows w x y) (hc : c.rd = true) : c.Allows w x (y.setReg (wRd w) v) :=
  { h with
    regs := fun j hj => by
      have hne : j ≠ 16 * b2n y.bank + wRd w % 16 := by
        rw [h.bank, wRd, Nat.mod_mod]
        exact fun e => hj ⟨hc, e⟩
      exact (tget_tset_other _ _ _ hne).trans (h.regs j hj) }

theorem NibWrites.Allows.setAcc {a : BitVec 64} (h : c.Allows w x y) (hc : c.acc = true ∨ a = y.acc) :
    c.Allows w x { y with acc := a } :=
  { h with acc := fun hn => (hc.resolve_left hn).trans (h.acc hn) }

/-- Flags set, where Z, N, C and V may change or are as they were, and S is not cleared. -/
theorem NibWrites.Allows.setFlags {g : NibFlags} (h : c.Allows w x y) (hz : c.flags = true ∨ y.flags.sameZncv g)
    (hs : y.flags.s = true → g.s = true) : c.Allows w x (y.setFlags g) where
  rest := by
    rw [← h.rest]
    unfold Nib.setFlags
    split <;> rfl
  bank := (y.setFlags_bank g).trans h.bank
  regs := by
    unfold Nib.setFlags
    split <;> exact h.regs
  acc := by
    unfold Nib.setFlags
    split <;> exact h.acc
  idle := (y.setFlags_idleFlags g).trans h.idle
  zncv := fun hn => (y.setFlags_flags g).symm ▸ NibFlags.sameZncv_trans (h.zncv hn) (hz.resolve_left hn)
  sticky := fun hx => (y.setFlags_flags g).symm ▸ hs (h.sticky hx)

theorem NibWrites.Allows.clampS {b : Bool} (h : c.Allows w x y) : c.Allows w x (y.clampS b) := by
  unfold Nib.clampS
  split
  · exact h.setFlags (.inr ⟨rfl, rfl, rfl, rfl⟩) (fun _ => rfl)
  · exact h

end

/-- A body that changes its own nib alone, within what the instruction may change, or nothing. -/
def NibWrites.Computes (c : NibWrites) (n : NibId) (w : Word) (body : State → NibDo) : Prop :=
  ∀ s, body s = .done s ∨ ∃ g, body s = .done (s.updNib n g) ∧ ∀ x, c.Allows w x (g x)

/-- The frame with a body that only computes. -/
def State.NibComputes (s : State) (n : NibId) (w : Word) (ecc : EccFind) (op : NibOp) (c : NibWrites) (t : State) : Prop :=
  ∃ body, t = s.nibInstr n w ecc op .plain (nibKnown w) (fun _ => c.legal) body ∧ c.Computes n w body

theorem State.nibAlu_computes {cmp : Bool} {f : Word → Word → NibFlags → Word × NibFlags}
    (hf : ∀ a b g, g.s = true → (f a b g).2.s = true) :
    s.NibComputes n w ecc op ⟨true, !cmp, false, cmp || decide (wFlags w % 2 = 1)⟩ (s.nibAlu n w ecc op cmp f) := by
  refine ⟨_, rfl, fun _ => .inr ⟨_, rfl, fun x => ?_⟩⟩
  have hreg : NibWrites.Allows ⟨true, !cmp, false, cmp || decide (wFlags w % 2 = 1)⟩ w x
      (if cmp then x else x.setReg (wRd w) (f (x.reg (wRs w)) (x.reg (wRt w)) x.flags).1) := by
    split
    · exact .refl ..
    · rename_i hn
      exact (NibWrites.Allows.refl ..).setReg (by simpa using hn)
  dsimp only
  split
  · refine hreg.setFlags (.inl (by assumption)) (fun hs => hf _ _ _ ?_)
    split at hs <;> exact hs
  · exact hreg

theorem State.nibImm_computes {legal : Bool} {f : Nib → Word × Bool} :
    s.NibComputes n w ecc op ⟨legal, true, false, false⟩ (s.nibImm n w ecc op legal f) :=
  ⟨_, rfl, fun _ => .inr ⟨_, rfl, fun _ => ((NibWrites.Allows.refl ..).setReg rfl).clampS⟩⟩

theorem State.nibAcc_computes {f : BitVec 64 → Word → Word → BitVec 64 × Bool × Bool} {rd : BitVec 64 → Option Word} {c : NibWrites}
    (hlegal : c.legal = true) (hrd : c.rd = true ∨ ∀ a, rd a = none) (hacc : c.acc = true ∨ ∀ a b v, (f a b v).1 = a)
    (hflags : c.flags = decide (wFlags w % 2 = 1)) : s.NibComputes n w ecc op c (s.nibAcc n w ecc op f rd) := by
  refine ⟨_, by rw [hlegal]; rfl, fun _ => .inr ⟨_, rfl, fun x => ?_⟩⟩
  dsimp only
  generalize hr : f x.acc (x.reg (wRs w)) (x.reg (wRt w)) = r
  have hset : c.Allows w x { x with acc := r.1 } :=
    (NibWrites.Allows.refl ..).setAcc (hacc.imp_right (fun h => hr ▸ h _ _ _))
  have hreg : c.Allows w x (match rd r.1 with
      | some v => Nib.setReg { x with acc := r.1 } (wRd w) v
      | none => { x with acc := r.1 }) := by
    split
    · exact hset.setReg (hrd.resolve_right (fun h => by simp_all))
    · exact hset
  split
  · exact hreg.clampS.setFlags (.inl (hflags.trans (by simpa))) id
  · exact hreg.clampS

theorem State.nibExtract_computes {acc msb signed : Bool} :
    s.NibComputes n w ecc op ⟨inBounds (if acc then 64 else 32) (fieldPos msb (wPos w) (wLen w + 1)), true, false, false⟩
      (s.nibExtract n w ecc op acc msb signed) :=
  ⟨_, rfl, fun _ => .inr ⟨_, rfl, fun _ => (NibWrites.Allows.refl ..).setReg rfl⟩⟩

theorem State.nibInsert_computes {acc msb : Bool} :
    s.NibComputes n w ecc op ⟨inBounds (if acc then 64 else 32) (fieldPos msb (wPos w) (wLen w + 1)), !acc, acc, false⟩
      (s.nibInsert n w ecc op acc msb) := by
  refine ⟨_, rfl, fun _ => .inr ⟨_, rfl, fun x => ?_⟩⟩
  dsimp only
  split
  · exact (NibWrites.Allows.refl ..).setAcc (.inl (by assumption))
  · rename_i hn
    exact (NibWrites.Allows.refl ..).setReg (by simpa using hn)

theorem execAbs_computes : ∃ t, execAbs n w ecc s = .next t ∧
    s.NibComputes n w ecc opAbs ⟨true, true, false, decide (wFlags w % 2 = 1)⟩ t := by
  refine ⟨_, rfl, _, rfl, fun _ => .inr ⟨_, rfl, fun x => ?_⟩⟩
  dsimp only
  split
  · exact (((NibWrites.Allows.refl ..).setReg rfl).clampS).setFlags (.inl (by simpa)) id
  · exact ((NibWrites.Allows.refl ..).setReg rfl).clampS

/-- Every instruction that only computes is the frame with a body within its bounds. -/
theorem exec_nibWrites {i : Instr} {f : NibForm} {c : NibWrites} (hf : nibForm i = some f) (hc : nibWrites i = some c) :
    f.kind = .plain ∧ ∃ t, exec i s = .next t ∧ s.NibComputes f.n f.w f.ecc f.op c t := by
  unfold nibWrites at hc
  split at hc
  case h_1 | h_2 | h_3 | h_4 | h_5 | h_6 | h_7 | h_8 | h_9 | h_10 | h_11 | h_12 | h_13 | h_14 | h_15 | h_16 | h_18 | h_19 | h_20 =>
    cases hc; cases hf
    refine ⟨rfl, ?_⟩
    exact ⟨_, rfl, State.nibAlu_computes (fun _ _ _ h => h)⟩
  case h_17 =>
    cases hc; cases hf
    refine ⟨rfl, ?_⟩
    exact execAbs_computes
  case h_21 =>
    cases hc; cases hf
    refine ⟨rfl, ?_⟩
    exact ⟨_, rfl, _, rfl, fun _ => .inr ⟨_, rfl, fun _ => (NibWrites.Allows.refl ..).setFlags (.inl rfl) id⟩⟩
  case h_22 | h_23 | h_24 | h_25 | h_26 | h_27 | h_28 | h_29 | h_30 | h_31 | h_32 | h_33 | h_34 =>
    cases hc; cases hf
    refine ⟨rfl, ?_⟩
    exact ⟨_, rfl, State.nibImm_computes⟩
  case h_35 | h_36 | h_37 | h_38 | h_39 | h_40 | h_41 =>
    cases hc; cases hf
    refine ⟨rfl, ?_⟩
    exact ⟨_, rfl, State.nibAcc_computes rfl (.inr (fun _ => rfl)) (.inl rfl) rfl⟩
  case h_42 | h_43 =>
    cases hc; cases hf
    refine ⟨rfl, ?_⟩
    exact ⟨_, rfl, State.nibAcc_computes rfl (.inl rfl) (.inr (fun _ _ _ => rfl)) rfl⟩
  case h_44 | h_45 | h_46 | h_47 | h_50 | h_51 | h_52 | h_53 =>
    cases hc; cases hf
    refine ⟨rfl, ?_⟩
    exact ⟨_, rfl, State.nibExtract_computes⟩
  case h_48 | h_49 | h_54 | h_55 =>
    cases hc; cases hf
    refine ⟨rfl, ?_⟩
    exact ⟨_, rfl, State.nibInsert_computes⟩
  case h_56 =>
    cases hc; cases hf
    refine ⟨rfl, ?_⟩
    exact ⟨_, rfl, _, rfl, fun _ => .inl rfl⟩
  · cases hc

theorem State.nibNoted_of_ne (h : ecc ≠ .corrected) : s.nibNoted n ecc = s := if_neg h

/-- Settles O10: the frame raises the cause in place of the body's effect. -/
theorem nibPastEndOfImem : Obligations.NibPastEndOfImem := by
  intro s i f c hf hc hmeets hbad hcorr hlegal hpast
  obtain ⟨hkind, t, hexec, body, rfl, hbody⟩ := exec_nibWrites (s := s) hf hc
  have hdone : ∃ u, body (s.nibNoted f.n f.ecc) = .done u := (hbody _).elim (fun h => ⟨_, h⟩) (fun ⟨_, h, _⟩ => ⟨_, h⟩)
  obtain ⟨u, hu⟩ := hdone
  rw [hkind] at hmeets
  rw [hexec, State.nibInstr_meets hmeets hbad hlegal, hu]
  dsimp only
  rw [if_pos hpast, State.nibNoted_of_ne hcorr]

/-! ### The end of an instruction -/

/-- A nib once an instruction ended, met by the nib `old`. -/
def Nib.ended (old : Nib) (pc : Nat) (slot : Option InSlot) (x : Nib) : Nib :=
  let x1 := (old.loopCount x).agePatches
  let x2 := match old.mset with
    | some m => { x1 with mode := m.mode, bank := m.bank, ie := m.ie, mset := .none }
    | none => x1
  { x2 with pc := pc, slotOf := slot, run := .running }

theorem State.nibEnd_eq (s : State) (n : NibId) (old : Nib) (pc : Nat) (slot : Option InSlot) :
    s.nibEnd n old pc slot = (s.updNib n (Nib.ended old pc slot)).nibBoundary n := rfl

section
variable (old x : Nib) (pc : Nat) (slot : Option InSlot)

/-- The end of an instruction changes the state of the sequence alone. -/
theorem Nib.ended_rest : { Nib.ended old pc slot x with
    pc := x.pc, slotOf := x.slotOf, run := x.run, lc0 := x.lc0, lc1 := x.lc1, mode := x.mode, bank := x.bank, ie := x.ie,
    mset := x.mset, patched := x.patched } = x := by
  unfold Nib.ended Nib.loopCount
  split <;> split <;> rfl

theorem Nib.ended_regs : (Nib.ended old pc slot x).regs = x.regs := (congrArg Nib.regs (Nib.ended_rest old x pc slot) :)
theorem Nib.ended_acc : (Nib.ended old pc slot x).acc = x.acc := (congrArg Nib.acc (Nib.ended_rest old x pc slot) :)
theorem Nib.ended_flags0 : (Nib.ended old pc slot x).flags0 = x.flags0 := (congrArg Nib.flags0 (Nib.ended_rest old x pc slot) :)
theorem Nib.ended_flags1 : (Nib.ended old pc slot x).flags1 = x.flags1 := (congrArg Nib.flags1 (Nib.ended_rest old x pc slot) :)
theorem Nib.ended_wdogHit : (Nib.ended old pc slot x).wdogHit = x.wdogHit := (congrArg Nib.wdogHit (Nib.ended_rest old x pc slot) :)

end

/-- With no watchdog exception waiting an instruction ends with its nib's sequence moved on. -/
theorem State.nibEnd_of_not_wdogHit {old : Nib} {pc : Nat} {slot : Option InSlot} (h : ¬ (s.nib n).wdogHit) :
    s.nibEnd n old pc slot = s.updNib n (Nib.ended old pc slot) := by
  rw [State.nibEnd_eq]
  refine if_neg (fun hw => h ?_)
  rw [State.nib_updNib, Nib.ended_wdogHit] at hw
  exact hw.1

/-- A nib with the registers, accumulator, flags and sequence state of another. -/
def Nib.withComputed (y x : Nib) : Nib :=
  { y with regs := x.regs, acc := x.acc, flags0 := x.flags0, flags1 := x.flags1, pc := x.pc, slotOf := x.slotOf, run := x.run,
           lc0 := x.lc0, lc1 := x.lc1, mode := x.mode, bank := x.bank, ie := x.ie, mset := x.mset, patched := x.patched }

theorem Nib.onlyComputed_ended {old x y : Nib} {pc : Nat} {slot : Option InSlot}
    (h : { y with regs := x.regs, acc := x.acc, flags0 := x.flags0, flags1 := x.flags1 } = x) :
    x.onlyComputed (Nib.ended old pc slot y) := by
  have hend : (Nib.ended old pc slot y).withComputed x = y.withComputed x :=
    (congrArg (Nib.withComputed · x) (Nib.ended_rest old y pc slot) :)
  have hy : y.withComputed x = x.withComputed x := (congrArg (Nib.withComputed · x) h :)
  exact hend.trans hy

/-! ### What changes one nib alone -/

theorem State.onlyNib_refl (s : State) (n : NibId) : s.onlyNib s n := ⟨rfl, rfl, rfl, fun _ => rfl, fun _ _ => rfl⟩

theorem Die.other_ne (d : Die) : d.other ≠ d := by
  revert d
  decide

theorem State.onlyNib_updNib {f : Nib → Nib} (h : s.onlyNib t n) : s.onlyNib (t.updNib n f) n := by
  obtain ⟨hrest, hother, hdie, hcl, hnib⟩ := h
  refine ⟨hrest, (State.updVol_get_other _ _ (Die.other_ne _)).trans hother, ?_, fun c => ?_, fun m hm => ?_⟩
  · refine Eq.trans ?_ hdie
    exact congrArg (fun v : DieVol => { v with clusters := [] }) (State.updVol_get ..)
  · refine Eq.trans ?_ (hcl c)
    by_cases hc : c = n.c.val
    · subst hc
      exact congrArg (fun x : Cluster => { x with nibs := [] }) (State.cl_updCl ..)
    · exact congrArg (fun x : Cluster => { x with nibs := [] }) (State.cl_updCl_other _ _ (fun he => hc (congrArg Prod.snd he)))
  · exact (State.nib_updNib_other _ _ hm).trans (hnib m hm)

/-- Settles O9: the body changes its nib within its bounds, and the end of the instruction moves the sequence on. -/
theorem nibComputationFrame : Obligations.NibComputationFrame := by
  intro s i f c hf hc hmeets hbad hcorr hlegal hpc hwdog
  obtain ⟨hkind, t, hexec, body, rfl, hbody⟩ := exec_nibWrites (s := s) hf hc
  rw [hkind] at hmeets
  have hchange : ∃ u, body s = .done u ∧ s.onlyNib u f.n ∧ c.Allows f.w (s.nib f.n) (u.nib f.n) := by
    rcases hbody s with h | ⟨g, h, hg⟩
    · exact ⟨_, h, s.onlyNib_refl f.n, .refl ..⟩
    · exact ⟨_, h, State.onlyNib_updNib (s.onlyNib_refl f.n), (s.nib_updNib f.n g).symm ▸ hg _⟩
  obtain ⟨u, hu, honly, hallows⟩ := hchange
  rw [← State.nibNoted_of_ne (s := s) (n := f.n) hcorr] at hu
  have hend : exec i s = .next (u.updNib f.n (Nib.ended (s.nib f.n) (s.nib f.n).seqPc .none)) := by
    rw [hexec, State.nibInstr_done hmeets hpc hbad hlegal hu]
    refine congrArg Host.Outcome.next (State.nibEnd_of_not_wdogHit ?_)
    rwa [show (u.nib f.n).wdogHit = (s.nib f.n).wdogHit from (congrArg Nib.wdogHit hallows.rest :)]
  refine ⟨_, hend, State.onlyNib_updNib honly, ?_⟩
  rw [State.nib_updNib]
  generalize s.nib f.n = x at hallows
  generalize u.nib f.n = y at hallows
  obtain ⟨hrest, hbank, hregs, hacc, hidle, hzncv, hsticky⟩ := hallows
  simp only [Nib.ended_regs, Nib.ended_acc, Nib.ended_flags0, Nib.ended_flags1]
  have hflags : (if x.bank then y.flags1 else y.flags0) = y.flags := by rw [Nib.flags, hbank]
  rw [hflags]
  refine ⟨?_, hregs, hacc, ?_, hzncv, hsticky⟩
  · exact Nib.onlyComputed_ended hrest
  · unfold Nib.idleFlags at hidle
    rw [hbank] at hidle
    split <;> simp_all

end Sys2Proof.Machine
end


section
/-! SUPPORT. The nib stores: what a store to DMEM, to the pool, to the staging buffer or to the link command port changes. -/

namespace Sys2Proof.Machine
set_option Elab.async false

variable {s t u : State} {n : NibId} {d e : Die} {a c size v : Nat} {l : List Byte}

theorem State.byteAt_congr (hmem : t.mem = s.mem) (hmram : t.mram = s.mram) : t.byteAt e c = s.byteAt e c := by
  unfold State.byteAt
  rw [hmem, hmram]

theorem State.putBytes_vol : (s.putBytes d a l).vol = s.vol := by
  induction l generalizing s a with
  | nil => rfl
  | cons b l ih => exact ih.trans (s.putByte_vol ..)

theorem State.putBytes_regs : (s.putBytes d a l).regs = s.regs := by
  induction l generalizing s a with
  | nil => rfl
  | cons b l ih => exact ih.trans (s.putByte_regs ..)

theorem State.putBytes_bulk : (s.putBytes d a l).bulk = s.bulk := by
  induction l generalizing s a with
  | nil => rfl
  | cons b l ih => exact ih.trans (s.putByte_bulk ..)

/-- Below 2^48 a key is of one die and one address. -/
theorem memKey_ne (ha : a < 2 ^ 48) (hc : c < 2 ^ 48) (h : e ≠ d ∨ c ≠ a) : memKey e c ≠ memKey d a := by
  unfold memKey
  have hd := d.isLt
  have he := e.isLt
  rcases h with h | h
  · have := Fin.val_ne_of_ne h
    omega
  · omega

/-- A byte of another die, or outside the range, reads as before. -/
theorem State.byteAt_putBytes_other (ha : a + l.length ≤ 2 ^ 48) (hc : c < 2 ^ 48) (h : e ≠ d ∨ ¬ (a ≤ c ∧ c < a + l.length)) :
    (s.putBytes d a l).byteAt e c = s.byteAt e c := by
  induction l generalizing s a with
  | nil => rfl
  | cons b l ih =>
    rw [List.length_cons] at ha h
    have hrest : e ≠ d ∨ ¬ (a + 1 ≤ c ∧ c < a + 1 + l.length) := h.imp_right (by omega)
    have hhead : e ≠ d ∨ c ≠ a := h.imp_right (by omega)
    exact (ih (by omega) hrest).trans (State.byteAt_putByte_other _ _ (memKey_ne (by omega) hc hhead))

/-- Whether a store of a nib's cluster on its die is made on the other die too, whose twin rejoins (R254). -/
def State.storesTwice (s : State) (d : Die) (c : Nat) : Prop :=
  s.hasAuth d c = true ∧ s.clState d.other c = 5 ∧ (s.cl d.other c).rejoin = .cut

theorem State.nibPut_cases (P : State → Prop) (hboth : s.storesTwice d c → P ((s.putBytes d a l).putBytes d.other a l))
    (hone : ¬ s.storesTwice d c → P (s.putBytes d a l)) : P (s.nibPut d c a l) := by
  unfold State.nibPut
  simp only [Bool.and_eq_true, decide_eq_true_eq, and_assoc]
  split
  · exact hboth (by assumption)
  · exact hone (by assumption)

theorem State.nibPut_vol : (s.nibPut d c a l).vol = s.vol :=
  State.nibPut_cases (fun t => t.vol = s.vol) (fun _ => State.putBytes_vol.trans State.putBytes_vol) (fun _ => State.putBytes_vol)

theorem State.nibPut_regs : (s.nibPut d c a l).regs = s.regs :=
  State.nibPut_cases (fun t => t.regs = s.regs) (fun _ => State.putBytes_regs.trans State.putBytes_regs) (fun _ => State.putBytes_regs)

theorem State.nibPut_bulk : (s.nibPut d c a l).bulk = s.bulk :=
  State.nibPut_cases (fun t => t.bulk = s.bulk) (fun _ => State.putBytes_bulk.trans State.putBytes_bulk) (fun _ => State.putBytes_bulk)

theorem State.byteAt_nibPut_other {k : Nat} (ha : a + l.length ≤ 2 ^ 48) (hc : c < 2 ^ 48)
    (h : ¬ ((e = d ∨ s.storesTwice d k) ∧ a ≤ c ∧ c < a + l.length)) : (s.nibPut d k a l).byteAt e c = s.byteAt e c := by
  refine State.nibPut_cases (fun t => t.byteAt e c = s.byteAt e c) (fun htwice => ?_) (fun _ => ?_)
  · have hout : ¬ (a ≤ c ∧ c < a + l.length) := fun hin => h ⟨.inr htwice, hin⟩
    exact (State.byteAt_putBytes_other ha hc (.inr hout)).trans (State.byteAt_putBytes_other ha hc (.inr hout))
  · refine State.byteAt_putBytes_other ha hc (or_iff_not_imp_left.2 (fun he hin => h ⟨.inl ?_, hin⟩))
    exact not_not.1 he

/-- What a store leaves of the machine, where `p` is the byte of memory that it names, if it names one. -/
structure State.Stored (s : State) (n : NibId) (p : Option Nat) (size : Nat) (u : State) : Prop where
  bytes : ∀ e c, c < 2 ^ 48 → (∀ q, p = some q → ¬ ((e = n.d ∨ s.storesTwice n.d n.c.val) ∧ q ≤ c ∧ c < q + size)) →
    u.byteAt e c = s.byteAt e c
  regs : u.regs = s.regs
  bulk : u.bulk = s.bulk
  nib : ∃ st, u.nib n = { s.nib n with staging := st }

theorem State.nib_congr (h : t.vol = s.vol) : t.nib n = s.nib n := by
  unfold State.nib State.cl
  rw [h]

theorem State.stored_nibPut (ha : a + size ≤ 2 ^ 48) :
    s.Stored n (some a) size (s.nibPut n.d n.c.val a (toLE size v)) where
  bytes := fun e c hc h => by
    refine State.byteAt_nibPut_other (by rwa [length_toLE]) hc ?_
    rw [length_toLE]
    exact h a rfl
  regs := State.nibPut_regs
  bulk := State.nibPut_bulk
  nib := ⟨_, State.nib_congr State.nibPut_vol⟩

theorem State.nib_updQsd {sd : Nat} {f : QSd → QSd} : (s.updQsd d sd f).nib n = s.nib n := by
  unfold State.nib State.cl State.updQsd
  by_cases h : n.d = d
  · rw [h, State.updVol_get]
  · rw [State.updVol_get_other _ _ h]

theorem State.stored_refl (s : State) (n : NibId) (p : Option Nat) (size : Nat) : s.Stored n p size s :=
  ⟨fun _ _ _ _ => rfl, rfl, rfl, _, rfl⟩

theorem State.stored_sendCmd {sd typ ch low : Nat} {p : Option Nat} : s.Stored n p size (s.sendCmd d sd typ ch low) :=
  ⟨fun _ _ _ _ => rfl, rfl, rfl, _, State.nib_updQsd.trans State.nib_updQsd⟩

theorem State.stored_linkPort {sd : Nat} {p : Option Nat} (h : s.linkPort n sd v = some u) : s.Stored n p size u := by
  unfold State.linkPort at h
  dsimp only at h
  split at h
  · obtain rfl := Option.some.inj h
    split
    · exact State.stored_sendCmd
    · exact State.stored_refl ..
  · cases h

/-- A store that is admitted changes the bytes that its address names, or the staging buffer of the nib, or the queue of a link. -/
theorem State.stored_nibStore (hs : size ≤ 4) (h : s.nibStore n a size v = (some u, t)) : s.Stored n (nibByte n a) size u := by
  have hc := n.c.isLt
  have hk := n.k.isLt
  unfold State.nibStore at h
  unfold nibByte
  split at h
  · cases h
    rw [if_pos (by assumption)]
    exact State.stored_nibPut (by unfold dmemAddr winBase; omega)
  rw [if_neg (by assumption)]
  split at h
  · dsimp only at h
    split at h
    · cases h
      rw [if_pos (by assumption)]
      exact State.stored_nibPut (by unfold poolAddr winBase; omega)
    · cases h
  rw [if_neg (by assumption)]
  split at h
  · cases h
    exact ⟨fun _ _ _ _ => rfl, rfl, rfl, _, State.nib_updNib ..⟩
  split at h
  · exact State.stored_linkPort (congrArg Prod.fst h)
  · cases h

theorem exec_nibStoreForm {i : Instr} {f : NibStoreForm} (h : nibStoreForm i = some f) :
    f.size ≤ 4 ∧ exec i s = .next (s.nibSt f.n f.w f.ecc f.maj f.size) := by
  unfold nibStoreForm at h
  split at h
  · cases h
    exact ⟨le_refl 4, rfl⟩
  · cases h
    exact ⟨by simp, rfl⟩
  · cases h
    exact ⟨by simp, rfl⟩
  · cases h

/-- Settles O11: the body stores, and the end of the instruction moves the sequence of the nib on. -/
theorem nibStoreFrame : Obligations.NibStoreFrame := by
  intro s u v i f hform hmeets hbad hcorr hpc hwdog x a ha hstore
  obtain ⟨hsize, hexec⟩ := exec_nibStoreForm (s := s) hform
  obtain ⟨hbytes, hregs, hbulk, st, hnib⟩ := State.stored_nibStore hsize hstore
  have hbody : s.nibSt f.n f.w f.ecc f.maj f.size = s.nibSeq f.n u := by
    refine State.nibInstr_done hmeets hpc hbad rfl ?_
    rw [State.nibNoted_of_ne hcorr]
    dsimp only
    rw [if_neg (not_not.2 ha), hstore]
  have hend : exec i s = .next (u.updNib f.n (Nib.ended x x.seqPc .none)) := by
    rw [hexec, hbody]
    refine congrArg Host.Outcome.next (State.nibEnd_of_not_wdogHit ?_)
    rwa [hnib]
  refine ⟨_, hend, fun e c hc h => (State.byteAt_congr rfl rfl).trans (hbytes e c hc h), ?_⟩
  rw [State.nib_updNib, Nib.ended_regs, Nib.ended_acc, Nib.ended_flags0, Nib.ended_flags1, hnib]
  exact ⟨rfl, rfl, rfl, rfl, hregs, hbulk⟩

end Sys2Proof.Machine
end


section
/-! SUPPORT. Fields of registers, bit by bit. -/

namespace Sys2Proof.Machine
set_option Elab.async false

variable {s : State} {d e : Die} {o p : Nat} {f g : Fld} {v : Word} {x : Nat}

theorem Fld.testBit_get (f : Fld) (v : Word) (i : Nat) : (f.get v).testBit i = (decide (i < f.w) && v.getLsbD (f.lo + i)) := by
  rw [Fld.get, Nat.testBit_mod_two_pow, Nat.testBit_div_two_pow, BitVec.getLsbD, Nat.add_comm]

theorem Fld.getLsbD_set (hf : f.lo + f.w ≤ 32) (v : Word) (x i : Nat) :
    (f.set v x).getLsbD i = if f.lo ≤ i ∧ i < f.lo + f.w then x.testBit (i - f.lo) else v.getLsbD i := by
  have hmask : f.mask.testBit i = decide (f.lo ≤ i ∧ i < f.lo + f.w) := by
    rw [Fld.mask, Nat.testBit_mul_two_pow, Nat.testBit_two_pow_sub_one]
    by_cases h : f.lo ≤ i
    · simp only [h, decide_true, Bool.true_and, true_and, decide_eq_decide]
      omega
    · simp [h]
  have hval : (x % 2 ^ f.w * 2 ^ f.lo).testBit i = (decide (f.lo ≤ i ∧ i < f.lo + f.w) && x.testBit (i - f.lo)) := by
    rw [Nat.testBit_mul_two_pow, Nat.testBit_mod_two_pow]
    by_cases h : f.lo ≤ i
    · simp only [h, decide_true, Bool.true_and, true_and]
      congr 1
      rw [decide_eq_decide]
      omega
    · simp [h]
  unfold Fld.set
  by_cases hi : i < 32
  · rw [BitVec.getLsbD_or, BitVec.getLsbD_and, BitVec.getLsbD_not, BitVec.getLsbD_ofNat, BitVec.getLsbD_ofNat, hmask, hval]
    by_cases hin : f.lo ≤ i ∧ i < f.lo + f.w
    · simp [hi, hin]
    · simp [hin, hi]
  · rw [BitVec.getLsbD_of_ge _ _ (by omega), if_neg (by omega), BitVec.getLsbD_of_ge _ _ (by omega)]

theorem Fld.get_set_same (hf : f.lo + f.w ≤ 32) (v : Word) (x : Nat) : f.get (f.set v x) = x % 2 ^ f.w := by
  refine Nat.eq_of_testBit_eq (fun i => ?_)
  rw [Fld.testBit_get, Fld.getLsbD_set hf, Nat.testBit_mod_two_pow]
  by_cases h : i < f.w <;> simp [h]

/-- A field that does not overlap the one set is as before. -/
theorem Fld.get_set_other (hf : f.lo + f.w ≤ 32) (h : g.lo + g.w ≤ f.lo ∨ f.lo + f.w ≤ g.lo) (v : Word) (x : Nat) :
    g.get (f.set v x) = g.get v := by
  refine Nat.eq_of_testBit_eq (fun i => ?_)
  rw [Fld.testBit_get, Fld.testBit_get, Fld.getLsbD_set hf]
  by_cases hi : i < g.w
  · rw [if_neg (by omega)]
  · simp [hi]

theorem State.fld_setF_same (s : State) (d : Die) (o x : Nat) (hf : f.lo + f.w ≤ 32) :
    (s.setF d o f x).fld d o f = x % 2 ^ f.w := by
  rw [State.fld, State.setF, State.rd_wr, Fld.get_set_same hf]

theorem State.fld_setF_field (s : State) (d : Die) (o x : Nat) (hf : f.lo + f.w ≤ 32)
    (h : g.lo + g.w ≤ f.lo ∨ f.lo + f.w ≤ g.lo) : (s.setF d o f x).fld d o g = s.fld d o g := by
  rw [State.fld, State.setF, State.rd_wr, Fld.get_set_other hf h, State.fld]

theorem State.fld_setF_other (f g : Fld) (x : Nat) (h : regKey e p ≠ regKey d o) : (s.setF d o f x).fld e p g = s.fld e p g := by
  rw [State.fld, State.rd_setF_other f x h, State.fld]

theorem State.fld_congr {t : State} (h : t.regs = s.regs) : t.fld e p g = s.fld e p g := by
  rw [State.fld, State.fld, State.rd_of_regs h]

end Sys2Proof.Machine
end


section
/-! SUPPORT. Register writes outside the pages of their own. -/

namespace Sys2Proof.Machine
set_option Elab.async false

/-- A write by an initiator that is no application core to the self page of the event controller (R635) answers an error. -/
theorem exec_registerWrite_selfPage {s : State} {d : Die} {who : Initiator} {off : BitVec 21} {v : Word} (ha : s.alive d = true)
    (hpage : selfPage off.toNat = true) (hwho : who.isCore = false) : exec (.registerWrite d who off v) s = .next (s.reply .error) := by
  refine congrArg Host.Outcome.next ((if_neg (by simp [ha])).trans (if_pos (by simp [hpage, hwho])))

theorem regDef?_EVC_CLAIMM :
    regDef? 0x40000 = some ⟨"EVC_CLAIMM", 0x40000, 1, 0x4, 1, 0x4, 0x0, 0x0, 0x0, 0x0, 0x0, false⟩ := rfl

/-- Refutes O4: a write that reaches no register of the initiator still answers. On `runningLocked` the management processor's write to
EVC_CLAIMM, in the self page, answers an error, and the answer before it was none. -/
theorem not_registerWriteBits : ¬ Obligations.RegisterWriteBits := by
  intro h
  obtain ⟨t, hexec, -, -, -, -, -, -, -, -, -, -, -, hanswer⟩ :=
    h runningLocked 0 (.mgmt 0) 0x40000#21 0#32 _ runningLocked_alive regDef?_EVC_CLAIMM rfl rfl
  have herror := exec_registerWrite_selfPage (who := .mgmt 0) (off := 0x40000#21) (v := 0#32) runningLocked_alive rfl rfl
  obtain rfl := Host.Outcome.next.inj (herror.symm.trans hexec)
  cases hanswer

end Sys2Proof.Machine
end


section
/-! SUPPORT. The loader's frame of a Ductus record: what a fault record leaves of the registers, and when a record is passed over or fails. -/

namespace Sys2Proof.Machine
set_option Elab.async false

variable {s t u : State} {d e : Die} {o p : Nat}

/-! ### What leaves a register as it is -/

/-- Whether a register of a die reads the same in two states. -/
def State.SameReg (s : State) (e : Die) (p : Nat) (t : State) : Prop := t.rd e p = s.rd e p

theorem State.SameReg.of_regs (h : s.SameReg e p t) (hu : u.regs = t.regs := by rfl) : s.SameReg e p u :=
  (State.rd_of_regs hu).trans h

theorem State.SameReg.ite {c : Prop} {inst : Decidable c} {a b : State} (ha : s.SameReg e p a) (hb : s.SameReg e p b) :
    s.SameReg e p (if c then a else b) := by
  split
  · exact ha
  · exact hb

theorem State.SameReg.setF {f : Fld} {x : Nat} (h : s.SameReg e p t) (hk : regKey e p ≠ regKey d o) : s.SameReg e p (t.setF d o f x) :=
  (State.rd_setF_other f x hk).trans h

theorem State.SameReg.addSat {f : Fld} {x : Nat} (h : s.SameReg e p t) (hk : regKey e p ≠ regKey d o) :
    s.SameReg e p (t.addSat d o f x) :=
  (State.rd_addSat_other f x hk).trans h

theorem State.SameReg.wr {v : Word} (h : s.SameReg e p t) (hk : regKey e p ≠ regKey d o) : s.SameReg e p (t.wr d o v) :=
  (State.rd_wr_other t v hk).trans h

theorem State.SameReg.putBytes {a : Nat} {l : List Byte} (h : s.SameReg e p t) : s.SameReg e p (t.putBytes d a l) :=
  (State.rd_of_regs State.putBytes_regs).trans h

theorem State.SameReg.updVol {f : DieVol → DieVol} (h : s.SameReg e p t) : s.SameReg e p (t.updVol d f) := h.of_regs

theorem State.SameReg.sealSummary (h : s.SameReg e p t) : s.SameReg e p (t.sealSummary d) := h.putBytes

theorem State.SameReg.fire {k : Nat} (h : s.SameReg e p t) : s.SameReg e p (t.fire d k) := h.of_regs

/-- A fault record writes the counter of its class, and the indexes and counters of the ring. -/
theorem State.SameReg.record {src cls subj code detail : Nat} (h : s.SameReg e p t)
    (hcnt : regKey e p ≠ regKey d (FLT_CNTc cls)) (hsupp : regKey e p ≠ regKey d FLT_SUPP) (hwidx : regKey e p ≠ regKey d FLT_WIDX)
    (hlost : regKey e p ≠ regKey d FLT_LOST) : s.SameReg e p (t.record d src cls subj code detail) := by
  unfold State.record State.recordSev
  refine .ite h ?_
  extract_lets det now sumUp s1 supKey quiet i unread bytes s2 s3 s4 s5 k s6 s7
  have h1 : s.SameReg e p s1 := (h.addSat hcnt).updVol
  have h3 : s.SameReg e p s3 := h1.putBytes.wr hwidx
  have h4 : s.SameReg e p s4 := .ite (h3.addSat hlost) h3
  have h5 : s.SameReg e p s5 := .ite h4.updVol h4
  have h6 : s.SameReg e p s6 := .ite h5.putBytes.putBytes.sealSummary h5
  have h7 : s.SameReg e p s7 := .ite h6.of_regs h6
  exact .ite (h1.addSat hsupp) h7.fire

/-- Two registers of one die have two keys. -/
theorem regKey_ne (d : Die) (h : o ≠ p) : regKey d o ≠ regKey d p := by
  have hd := d.isLt
  unfold regKey
  simp only [Bool.and_eq_true, decide_eq_true_eq]
  split <;> split <;> omega

/-! ### A failing record -/

variable {r : Rec} {code : Nat}

theorem State.fld_noStructure_state : (s.noStructure d code).fld d UPD_DSTAT UPD_DSTAT__STATE = 5 := by
  unfold State.noStructure
  rw [State.setTodoList, State.fld_congr (State.updVol_regs ..), State.fld_setF_other _ _ _ (regKey_ne d (by decide)),
    State.fld_setF_field _ _ _ _ (by decide) (by decide), State.fld_setF_same _ _ _ _ (by decide)]
  rfl

theorem State.fld_noStructure_code : (s.noStructure d code).fld d UPD_DSTAT UPD_DSTAT__CODE = code % 256 := by
  unfold State.noStructure
  rw [State.setTodoList, State.fld_congr (State.updVol_regs ..), State.fld_setF_other _ _ _ (regKey_ne d (by decide)),
    State.fld_setF_same _ _ _ _ (by decide)]
  rfl

theorem State.recordFails_critical (h : r.critical = true) :
    s.recordFails d r code = (s.wr d UPD_DFAIL (BitVec.ofNat 32 r.index)).noStructure d code := if_pos h

theorem State.fld_addSat (f : Fld) (x : Nat) (hf : f.lo + f.w ≤ 32) :
    (s.addSat d o f x).fld d o f = min (2 ^ f.w - 1) (s.fld d o f + x) := by
  have hsat : satTo (2 ^ f.w - 1) (s.fld d o f + x) = min (2 ^ f.w - 1) (s.fld d o f + x) := by
    unfold satTo
    split <;> omega
  have hpos : 0 < 2 ^ f.w := Nat.two_pow_pos f.w
  rw [State.addSat, State.fld_setF_same _ _ _ _ hf, hsat]
  exact Nat.mod_eq_of_lt (by omega)

theorem State.fld_recordFails_omitted (h : ¬ r.critical = true) :
    (s.recordFails d r code).fld d UPD_DOMIT UPD_DOMIT__COUNT =
      min (2 ^ UPD_DOMIT__COUNT.w - 1) (s.fld d UPD_DOMIT UPD_DOMIT__COUNT + 1) := by
  rw [← State.fld_addSat _ _ (by decide)]
  unfold State.recordFails
  rw [if_neg h]
  extract_lets s1 s2 s3
  have h1 : s1.SameReg d UPD_DOMIT s1 := rfl
  have h2 : s1.SameReg d UPD_DOMIT s2 := .ite (h1.wr (regKey_ne d (by decide))) h1
  have hrec : s1.SameReg d UPD_DOMIT (s3.record d 0x0F00 0x12 r.index 0 (code + 256 * r.typ.toNat)) :=
    h2.updVol.record (regKey_ne d (by decide)) (regKey_ne d (by decide)) (regKey_ne d (by decide)) (regKey_ne d (by decide))
  exact congrArg UPD_DOMIT__COUNT.get hrec

/-! ### The frame of a record -/

variable {sub typ : Nat} {one : Bool} {body : Judged} {eff : State → State}

/-- A record that is not the one to judge. -/
theorem State.applyRec_idle (h : ¬ s.loading d r ∨ r.typ.toNat ≠ typ) : s.applyRec d r sub one typ body eff = s := by
  refine if_pos ?_
  rcases h with h | h <;> simp [h]

section
variable (hl : s.loading d r) (ht : r.typ.toNat = typ)
include hl ht

/-- A record that another replaces, or of a type for one die and for the other. -/
theorem State.applyRec_passed (h : s.superseded d r ∨ (one ∧ ¬ r.forDie d)) : s.applyRec d r sub one typ body eff = s.judged d := by
  refine (if_neg (by simp [hl, ht])).trans (if_pos ?_)
  rcases h with h | ⟨h, h'⟩
  · simp [h]
  · simp [h, h']

variable (hs : ¬ s.superseded d r)
include hs

/-- A bad header. -/
theorem State.applyRec_badHeader (hone : one → r.forDie d) (hh : ¬ r.headerOk one) :
    s.applyRec d r sub one typ body eff = (s.recordFails d r 0x0C).judged d := by
  refine (if_neg (by simp [hl, ht])).trans ((if_neg ?_).trans (if_pos (by simp [hh])))
  cases one <;> simp_all

/-- A record for the other die. -/
theorem State.applyRec_otherDie (hh : r.headerOk one) (hd : ¬ r.forDie d) : s.applyRec d r sub one typ body eff = s.judged d := by
  cases hone : one with
  | false => exact (if_neg (by simp [hl, ht])).trans ((if_neg (by simp [hs])).trans ((if_neg (by simp [← hone, hh])).trans (if_pos (by simp [hd]))))
  | true => exact (if_neg (by simp [hl, ht])).trans (if_pos (by simp [hd]))

end

/-! ### What comes before and after -/

theorem State.updCl_boot {c : Nat} {f : Cluster → Cluster} : ((s.updCl d c f).vol.get e).boot = (s.vol.get e).boot := by
  unfold State.updCl
  by_cases h : e = d
  · rw [h, State.updVol_get]
  · rw [State.updVol_get_other _ _ h]

section
variable {c : Nat} {f : Cluster → Cluster}

theorem State.updCl_loading : (s.updCl d c f).loading e r = s.loading e r := by
  unfold State.loading State.todo
  rw [State.updCl_boot]
  rfl

theorem State.updCl_superseded : (s.updCl d c f).superseded e r = s.superseded e r := by
  unfold State.superseded
  rw [State.updCl_boot]

end

theorem RecordForm.before_cases (f : RecordForm) (s : State) : f.before s = s ∨ ∃ c g, f.before s = s.updCl f.d c g := by
  unfold RecordForm.before State.noteLanes
  split
  · split
    · exact .inr ⟨_, _, rfl⟩
    · exact .inl rfl
  · exact .inl rfl

theorem RecordForm.before_loading (f : RecordForm) : (f.before s).loading d r = s.loading d r := by
  rcases f.before_cases s with h | ⟨c, g, h⟩
  · rw [h]
  · rw [h, State.updCl_loading]

theorem RecordForm.before_superseded (f : RecordForm) : (f.before s).superseded d r = s.superseded d r := by
  rcases f.before_cases s with h | ⟨c, g, h⟩
  · rw [h]
  · rw [h, State.updCl_superseded]

theorem RecordForm.before_fld (f : RecordForm) (g : Fld) : (f.before s).fld e p g = s.fld e p g := by
  rcases f.before_cases s with h | ⟨c, k, h⟩
  · rw [h]
  · rw [h, State.fld_congr (State.updCl_regs ..)]

/-- A cluster record is noted only when it is to be judged. -/
theorem RecordForm.before_idle (f : RecordForm) (h : ¬ s.loading f.d f.r ∨ f.r.typ.toNat ≠ f.typ) : f.before s = s := by
  unfold RecordForm.before
  split
  · rename_i htyp
    refine if_neg ?_
    rcases h with h | h
    · simp [h]
    · rw [htyp] at h
      simp [clusterForm, h]
  · rfl

/-- Nothing follows a record that is still the next one. -/
theorem State.afterLast_idle {kind : Rec → Bool} {g : State → State} : s.afterLast s d r kind g = s := by
  refine if_neg ?_
  simp only [Bool.and_eq_true, Bool.not_eq_true', not_and]
  intro h
  obtain ⟨⟨hload, hkind⟩, hnone⟩ := h
  simp only [State.loading, Bool.and_eq_true, decide_eq_true_eq] at hload
  have hmem : r ∈ s.todo d := List.mem_of_mem_head? hload.2
  exact absurd hkind (by simpa using List.any_eq_false.1 hnone r hmem)

theorem RecordForm.after_idle (f : RecordForm) : f.after s s = s := by
  unfold RecordForm.after State.worldEnd
  rw [State.afterLast_idle, State.afterLast_idle]
  split
  · rfl
  · split <;> rfl

/-- Settles O12: the frame of the record, with what comes before and after it for three kinds. -/
theorem recordsFailAlike : Obligations.RecordsFailAlike := by
  intro s i f hform
  obtain ⟨sub, body, eff, hexec⟩ := exec_recordForm (s := s) hform
  have hload : s.loading f.d f.r → (f.before s).loading f.d f.r := fun h => f.before_loading.trans h
  refine ⟨fun h => ?_, fun hl ht h => ?_, fun hl ht hs hone hh => ?_, fun hl ht hs hh hd => ?_⟩
  · rw [hexec, f.before_idle h, State.applyRec_idle h, f.after_idle]
  · rw [← f.before_superseded] at h
    rw [hexec, State.applyRec_passed (hload hl) ht h]
  · rw [← f.before_superseded] at hs
    refine ⟨?_, fun hc => ?_, fun hc => ?_⟩
    · rw [hexec, State.applyRec_badHeader (hload hl) ht hs hone hh]
    · rw [State.recordFails_critical hc]
      exact ⟨State.fld_noStructure_state, State.fld_noStructure_code⟩
    · rw [State.fld_recordFails_omitted hc, f.before_fld]
  · rw [← f.before_superseded] at hs
    rw [hexec, State.applyRec_otherDie (hload hl) ht hs hh hd]

end Sys2Proof.Machine
end

section
/-! SUPPORT. What the shared frames of commands do once their conditions hold, where the laws of the model do not say it, and the nib
instructions whose body is a function of their own nib. -/

namespace Sys2Proof.Machine
set_option Elab.async false

variable {s t u : State} {d : Die} {who : Initiator} {x : Nat}

/-- A command goes on with what its effect leaves. -/
theorem next_congr (h : s = t) : (Host.Outcome.next s : Out) = .next t := congrArg _ h

/-! ### Commands of the registers of a unit -/

theorem State.fbCommand_takes {i : Nat} {confirm : BitVec 8} {act : State → State} (ha : s.alive d) (hm : s.mayField d who i)
    (hc : confirm = 0x5A#8) : s.fbCommand d who i confirm act = act s :=
  if_pos (by simp [ha, hm, hc])

theorem State.swcCmd_takes {confirm : BitVec 8} {act : State → State} (ha : s.alive d) (hm : who.isManager) (hc : confirm = 0x6B#8) :
    s.swcCmd d who confirm act = act s :=
  if_pos (by simp [ha, hm, hc])

theorem State.fltCmd_takes {confirm : BitVec 8} {act : State → State} (ha : s.alive d) (hm : who.isManager) (hc : confirm = 0xB4#8) :
    s.fltCmd d who confirm act = act s :=
  if_pos (by simp [ha, hm, hc])

theorem State.dbgCmd_takes {confirm : BitVec 8} {act : State → State} (ha : s.alive d) (hm : who.isManager || decide (who = .debug))
    (hc : confirm = 0xDB#8) : s.dbgCmd d who confirm act = act s :=
  if_pos (by rw [ha, hm, hc]; rfl)

theorem State.updCmd_takes {confirm tag : BitVec 8} {act : State → State} (ha : s.alive d) (hl : (s.boot d).loaderOk)
    (ho : who.isOwner (s.fld d UPD_CFG UPD_CFG__PART)) (hc : confirm = 0xF1#8) (ht : s.tagNew d 2 who tag.toNat) :
    s.updCmd d who confirm tag act = act (s.tagNote d 2 who tag.toNat) :=
  if_pos (by simp [ha, hl, ho, hc, ht])

theorem State.zgCmd_takes {confirm tag : BitVec 8} {act : State → State × Nat} (ha : s.alive d) (hm : who.isManager)
    (hc : confirm = 0x8C#8) (ht : s.tagNew d 0 who tag.toNat) :
    s.zgCmd d who confirm tag act = (act (s.tagNote d 0 who tag.toNat)).1.setF d ZGP_CMDRES ZGP_CMDRES__RESULT
      (act (s.tagNote d 0 who tag.toNat)).2 :=
  if_pos (by simp [ha, hm, hc, ht])

theorem State.errandCmd_takes {confirm tag : Nat} {act : State → State} (ha : s.alive d) (hc : confirm = 0xE3)
    (ht : s.newTag 2 who tag) (hw : s.inMask who) : s.errandCmd d who confirm tag act = act (s.noteTag 2 who tag) :=
  (if_neg (by simp [ha, hc, ht])).trans (if_pos hw)

theorem State.dctl_takes {sd mode : Nat} {confirm : BitVec 16} (ha : s.alive d) (hm : who.isManager) (hc : confirm = 0x5C3A#16)
    (hd : s.driver d sd = d) :
    s.dctl d who sd confirm mode = (s.setF d (PWR_DCTLST sd) PWR_DCTLST__REQRES 1).sendCmd d sd 4 0 mode :=
  (if_neg (by simp [ha, hm])).trans (if_pos ⟨hc, hd⟩)

theorem State.claimRow_runs {lvl off : Nat} (hu : s.duxUp d x) (hr : (s.runningOn d x).isSome) (hh : (s.replayHead d x).isNone) :
    s.claimRow d x lvl off = ((s.claim d x lvl).2.logOn d x 0x01 (s.core d x 0).count
      (toLE 8 (0x50000000 + off) ++ toLE 4 (s.claim d x lvl).1)).reply (.value (s.claim d x lvl).1) := by
  refine (if_neg (by simp [hu, Option.isSome_iff_ne_none.1 hr])).trans ?_
  rw [Option.isNone_iff_eq_none.1 hh]

theorem State.eoiRow_runs {lvl n : Nat} (hu : s.duxUp d x) (hr : (s.runningOn d x).isSome) : s.eoiRow d x lvl n = s.eoi d x lvl n :=
  if_neg (by simp [hu, Option.isSome_iff_ne_none.1 hr])

/-! ### Nib instructions -/

variable {n : NibId} {w : Word} {ecc : EccFind} {op : NibOp} (hmeets : s.nibMeets n w op .plain) (hp : (s.nib n).seqPc ≤ 0x1FFC)
  (he : ecc ≠ .badFetch)
include hmeets hp he

theorem State.nibAlu_completes {f : Word → Word → NibFlags → Word × NibFlags} :
    s.nibAlu n w ecc op false f = s.nibSeq n ((s.nibNoted n ecc).updNib n (fun x =>
      let r := f (x.reg (wRs w)) (x.reg (wRt w)) x.flags
      if wFlags w % 2 = 1 then (x.setReg (wRd w) r.1).setFlags r.2 else x.setReg (wRd w) r.1)) := by
  refine State.nibInstr_done hmeets hp he rfl (congrArg (fun f => NibDo.done (State.updNib _ n f)) (funext fun x => ?_))
  simp

theorem State.nibAlu_compares {f : Word → Word → NibFlags → Word × NibFlags} :
    s.nibAlu n w ecc op true f = s.nibSeq n ((s.nibNoted n ecc).updNib n (fun x =>
      x.setFlags (f (x.reg (wRs w)) (x.reg (wRt w)) x.flags).2)) :=
  State.nibInstr_done hmeets hp he rfl rfl

theorem State.nibImm_completes {legal : Bool} {f : Nib → Word × Bool} (hl : legal = true) :
    s.nibImm n w ecc op legal f = s.nibSeq n ((s.nibNoted n ecc).updNib n (fun x => (x.setReg (wRd w) (f x).1).clampS (f x).2)) :=
  State.nibInstr_done hmeets hp he hl rfl

theorem State.nibAcc_completes {f : BitVec 64 → Word → Word → BitVec 64 × Bool × Bool} :
    s.nibAcc n w ecc op f (fun _ => none) = s.nibSeq n ((s.nibNoted n ecc).updNib n (fun x =>
      let r := f x.acc (x.reg (wRs w)) (x.reg (wRt w))
      let z := Nib.clampS { x with acc := r.1 } r.2.2
      if wFlags w % 2 = 1 then z.setFlags (z.flags.accZnv r.1 r.2.1) else z)) :=
  State.nibInstr_done hmeets hp he rfl rfl

theorem State.nibAcc_completes_some {f : BitVec 64 → Word → Word → BitVec 64 × Bool × Bool} {rd : BitVec 64 → Word} :
    s.nibAcc n w ecc op f (fun a => some (rd a)) = s.nibSeq n ((s.nibNoted n ecc).updNib n (fun x =>
      let r := f x.acc (x.reg (wRs w)) (x.reg (wRt w))
      let z := (Nib.setReg { x with acc := r.1 } (wRd w) (rd r.1)).clampS r.2.2
      if wFlags w % 2 = 1 then z.setFlags (z.flags.accZnv r.1 r.2.1) else z)) :=
  State.nibInstr_done hmeets hp he rfl rfl

theorem State.nibExtract_completes {acc msb signed : Bool}
    (hl : inBounds (if acc then 64 else 32) (fieldPos msb (wPos w) (wLen w + 1))) :
    s.nibExtract n w ecc op acc msb signed = s.nibSeq n ((s.nibNoted n ecc).updNib n (fun x =>
      x.setReg (wRd w) (BitVec.ofNat 32 (extend64 signed (wLen w + 1)
        (gather (bitOf (if acc then x.acc.toNat else (x.reg (wRs w)).toNat)) (fieldPos msb (wPos w) (wLen w + 1))))))) := by
  unfold State.nibExtract
  exact State.nibInstr_done hmeets hp he hl rfl

theorem State.nibInsert_completes {acc msb : Bool}
    (hl : inBounds (if acc then 64 else 32) (fieldPos msb (wPos w) (wLen w + 1))) :
    s.nibInsert n w ecc op acc msb = s.nibSeq n ((s.nibNoted n ecc).updNib n (fun x =>
      if acc then { x with acc := BitVec.ofNat 64 (scatter x.acc.toNat (extend64 true 32 (x.reg (wRs w)).toNat)
        (fieldPos msb (wPos w) (wLen w + 1))) }
      else x.setReg (wRd w) (BitVec.ofNat 32 (scatter (x.reg (wRd w)).toNat (x.reg (wRs w)).toNat
        (fieldPos msb (wPos w) (wLen w + 1)))))) := by
  unfold State.nibInsert
  exact State.nibInstr_done hmeets hp he hl rfl

end Sys2Proof.Machine
end

section
/-! SUPPORT. What a command of a switch die leaves, and what loads, loops and accesses to the signal store do where no cause is raised. -/

namespace Sys2Proof.Machine
set_option Elab.async false

variable {s t u : State} {n : NibId} {w : Word} {ecc : EccFind}

/-- An equation with its right side named: a case split of the goal then meets the left side alone. -/
theorem eq_of_named {α : Type} {a b : α} (h : ∀ u, b = u → a = u) : a = b := h b rfl

/-- A command of a switch die that is done leaves the state of its effect. -/
theorem State.command_leaves {d : Die} {sd typ : Nat} {f : Word} {either startOk : Bool} {act : State → Decided} {eff : State → State}
    (h : s.hearsDown sd f typ = true) (hd : (s.downHeard d sd f).decides d sd f typ either startOk = true)
    (ha : act (s.downHeard d sd f) = .done eff) (he : eff (s.downHeard d sd f) = t) :
    s.command d sd f typ either startOk act = t.commandDone d sd f typ :=
  (State.command_done h hd ha).trans (congrArg (State.commandDone · d sd f typ) he)

/-- A load that raises no cause puts the value loaded into rd. -/
theorem State.nibLd_completes {maj size v : Nat} (hmeets : s.nibMeets n w (opImm maj) .plain = true)
    (hp : (s.nib n).seqPc ≤ 0x1FFC) (he : ecc ≠ .badFetch)
    (halign : nibAddr ((s.nibNoted n ecc).nib n) w % size = 0)
    (hload : ((s.nibNoted n ecc).nibLoad n (nibAddr ((s.nibNoted n ecc).nib n) w) size).1.isSome = true)
    (hecc : (s.nibNoted n ecc).dataEcc n (nibAddr ((s.nibNoted n ecc).nib n) w) ecc = some u)
    (hval : u.nibLoad n (nibAddr ((s.nibNoted n ecc).nib n) w) size = (some v, t)) :
    s.nibLd n w ecc maj size = s.nibSeq n (t.updNib n (fun x => x.setReg (wRd w) (BitVec.ofNat 32 v))) := by
  obtain ⟨v', hv'⟩ := Option.isSome_iff_exists.mp hload
  have hfirst : (s.nibNoted n ecc).nibLoad n (nibAddr ((s.nibNoted n ecc).nib n) w) size =
      (some v', ((s.nibNoted n ecc).nibLoad n (nibAddr ((s.nibNoted n ecc).nib n) w) size).2) := Prod.ext hv' rfl
  refine State.nibInstr_done hmeets hp he rfl ((if_neg (by simp [halign])).trans ?_)
  simp only [hecc, hval]
  rw [hfirst]

/-- An access to the signal store that raises no cause has the effect of its body. -/
theorem State.nibSig_completes {op : NibOp} {bound : Nat} {addr : Nat → Nat} {k : AccKind} {ok : State → Nat → Bool}
    {body : State → Nat → NibDo} {pre : State → Nat → Option Nat} (hmeets : s.nibMeets n w op .plain = true)
    (hp : (s.nib n).seqPc ≤ 0x1FFC) (he : ecc ≠ .badFetch)
    (hbound : (((s.nibNoted n ecc).nib n).reg (wRs w)).toNat < bound)
    (hok : ok (s.nibNoted n ecc) (((s.nibNoted n ecc).nib n).reg (wRs w)).toNat = true)
    (hpre : pre (s.nibNoted n ecc) (((s.nibNoted n ecc).nib n).reg (wRs w)).toNat = none)
    (hecc : (s.nibNoted n ecc).sigEcc n (addr (((s.nibNoted n ecc).nib n).reg (wRs w)).toNat)
      (((s.nibNoted n ecc).nib n).reg (wRs w)).toNat k ecc = some u)
    (hagain : ok u (((s.nibNoted n ecc).nib n).reg (wRs w)).toNat = true)
    (hbody : body u (((s.nibNoted n ecc).nib n).reg (wRs w)).toNat = .done t) :
    s.nibSig n w ecc op bound addr k ok body pre = s.nibSeq n t := by
  refine State.nibInstr_done hmeets hp he rfl ?_
  dsimp only
  rw [if_neg (by omega), if_neg (by simp [hok])]
  simp only [hpre, hecc]
  rw [if_neg (by simp [hagain]), hbody]

/-- Whether LOOP and LOOPR find their loop in order with the loops that are active (R277). -/
def Nib.loopFits (x : Nib) (w : Word) : Prop :=
  if bitOf w.toNat 25 then x.lc1 = 0 ∧ (x.lc0 = 0 ∨ (x.ls0 ≤ x.pc + 4 ∧ 4 * wEnd w < x.le0)) else x.lc0 = 0 ∧ x.lc1 = 0

/-- A nib with the loop of LOOP or LOOPR set up. -/
def Nib.withLoop (x : Nib) (w : Word) (count start : Nat) : Nib :=
  if bitOf w.toNat 25 then { x with lc1 := count, ls1 := start, le1 := 4 * wEnd w }
  else { x with lc0 := count, ls0 := start, le0 := 4 * wEnd w }

/-- A loop that fits is set up, and one of count 0 is passed over. -/
theorem State.nibLoop_fits {count : Nat} (hend : (s.nib n).pc + 4 ≤ 4 * wEnd w) (hfits : (s.nib n).loopFits w) :
    s.nibLoop n w count =
      if count = 0 then .goto (s.updNib n (·.withLoop w count ((s.nib n).pc + 4)))
        (match (s.nib n).slotOf with | some sl => sl.target.getD (4 * wEnd w + 4) | none => 4 * wEnd w + 4)
      else .done (s.updNib n (·.withLoop w count ((s.nib n).pc + 4))) := by
  refine if_neg ?_
  unfold Nib.loopFits at hfits
  by_cases hlevel : bitOf w.toNat 25 = true
  · rw [if_pos hlevel] at hfits
    obtain ⟨hlc1, hlc0⟩ := hfits
    simp only [hlevel, if_true, hlc1]
    simp
    omega
  · rw [if_neg hlevel] at hfits
    obtain ⟨hlc0, hlc1⟩ := hfits
    simp [hlevel, hlc0, hlc1, hend]

/-- A loop of a count other than 0 goes on with the next instruction. -/
theorem State.nibLoop_enters {count : Nat} (hend : (s.nib n).pc + 4 ≤ 4 * wEnd w) (hfits : (s.nib n).loopFits w)
    (hcount : count ≠ 0) : s.nibLoop n w count = .done (s.updNib n (·.withLoop w count ((s.nib n).pc + 4))) :=
  (State.nibLoop_fits hend hfits).trans (if_neg hcount)

/-- A loop of count 0 goes on behind its end. -/
theorem State.nibLoop_skips {count a : Nat} (hend : (s.nib n).pc + 4 ≤ 4 * wEnd w) (hfits : (s.nib n).loopFits w)
    (hcount : count = 0) (ha : (match (s.nib n).slotOf with | some sl => sl.target.getD (4 * wEnd w + 4) | none => 4 * wEnd w + 4) = a) :
    s.nibLoop n w count = .goto (s.updNib n (·.withLoop w count ((s.nib n).pc + 4))) a :=
  ((State.nibLoop_fits hend hfits).trans (if_pos hcount)).trans (congrArg _ ha)

end Sys2Proof.Machine
end

section
/-! SUPPORT. The commands of the module, its power stage and its switch dies. -/

namespace Sys2Proof.Machine
set_option Elab.async false

/-- Settles O20: the conditions of each clause, in the order of the commands, choose the branch of the command's meaning. -/
theorem accessesComplete : Obligations.AccessesComplete := fun s =>
  ⟨fun _ _ _ _ h1 h2 h3 => next_congr ((if_neg (by simp [h1])).trans (if_neg (by simp [h2, h3]))),
   fun _ _ _ h1 => next_congr (if_neg (by simp [h1])),
   fun _ _ _ _ _ h1 => next_congr (if_neg (by simp [h1])),
   fun _ _ _ _ _ _ h1 h2 => next_congr (if_neg (by simp [h1, h2])),
   fun _ _ _ h1 h2 h3 => next_congr (if_neg (by simp [h1, h2, h3])),
   fun _ h1 h2 h3 => next_congr (if_pos (by simp [h1, h2, h3])),
   fun _ h1 => next_congr (if_pos h1),
   fun h1 => next_congr (if_pos h1),
   fun h1 => next_congr (if_pos h1),
   fun _ _ _ _ _ h1 => next_congr (if_neg (by simp [h1])),
   fun _ _ _ h1 => next_congr (by simp only [h1]),
   fun h1 => next_congr (if_pos h1)⟩

/-- Settles O21: the conditions of each clause, in the order of the commands, choose the branch of the command's meaning. -/
theorem resetsComplete : Obligations.ResetsComplete := fun s =>
  ⟨rfl,
   fun h1 => next_congr (if_pos h1),
   fun _ => rfl,
   fun _ _ => rfl,
   fun _ _ _ h1 => next_congr (if_neg (by simp [h1])),
   fun _ _ h1 => next_congr (if_neg (by simp [h1])),
   fun _ _ _ _ h1 h2 h3 h4 => next_congr (State.rstreq_takes h1 h2 h3 h4),
   fun _ _ _ _ _ h1 h2 h3 h4 h5 => next_congr ((State.rstreq_takes h1 h2 h3 h4).trans (if_neg (by simp [h5]))),
   fun _ _ _ _ _ h1 h2 h3 h4 h5 => next_congr ((State.rstreq_takes h1 h2 h3 h4).trans (if_neg (by simp [h5]))),
   fun _ _ _ _ _ _ h1 h2 h3 h4 h5 => next_congr ((State.rstreq_takes h1 h2 h3 h4).trans (if_neg (by simp [h5]))),
   fun _ _ _ _ _ h1 h2 h3 h4 h5 => next_congr ((State.rstreq_takes h1 h2 h3 h4).trans (if_neg (by simp [h5]))),
   fun h1 h2 => next_congr (if_pos (by simp [h1, h2])),
   fun h1 h2 => next_congr (if_pos (by simp [h1, h2])),
   fun _ _ => rfl,
   fun _ _ h1 h2 h3 => next_congr (if_pos (by simp [h1, h2, h3]))⟩

/-- Settles O22: the conditions of each clause, in the order of the commands, choose the branch of the command's meaning. -/
theorem startUpCompletes : Obligations.StartUpCompletes := fun s =>
  ⟨fun _ h1 h2 h3 => next_congr (if_neg (by simp [h1, h2, h3])),
   fun _ h1 h2 h3 h4 => next_congr (if_neg (by simp [h1, h2, h3, h4])),
   fun h1 h2 h3 => next_congr (if_pos (by simp [h1, h2, h3])),
   fun _ _ h1 h2 h3 h4 h5 h6 => next_congr (by
        simp only [h1]
        exact (if_neg (by simp [h2, h3, h4, h5])).trans (if_pos h6)),
   fun _ h1 h2 h3 h4 h5 h6 => next_congr (if_neg (by simp [h1, h2, h3, h4, h5, h6])),
   fun _ _ h1 h2 h3 h4 h5 => next_congr (by
        simp only [h1]
        exact if_neg (by simp [h2, h3, h4, h5])),
   fun _ _ h1 h2 h3 => next_congr (by
        simp only [h1]
        exact if_neg (by simp [h2, h3])),
   fun _ h1 h2 h3 h4 h5 => next_congr (if_pos (by simp [h1, h2, h3, h4, h5])),
   fun _ _ h1 h2 h3 h4 h5 => next_congr (if_neg (by simp [h1, h2, h3, h4, h5])),
   fun d h1 h2 h3 h4 h5 h6 h7 => next_congr (by
      by_cases hcode : s.loaderCode d.other = 0
      · exact (if_neg (by simp [h1, h2, h3, h4, h5, h6, h7, hcode])).trans (if_neg (not_not.mpr hcode)).symm
      · exact (if_pos (by simp [hcode])).trans (if_pos hcode).symm),
   fun _ h1 h2 => next_congr (if_pos (by simp [h1, h2])),
   fun _ h1 h2 => next_congr (if_neg (by simp [h1, h2])),
   fun _ _ => rfl,
   fun _ _ h1 h2 => next_congr (by
        simp only [h1]
        exact if_pos h2),
   fun _ h1 h2 => next_congr (if_neg (by simp [h1, h2])),
   fun _ h1 => next_congr (if_pos h1),
   fun _ => rfl,
   fun _ h1 => next_congr (if_pos h1),
   fun h1 h2 h3 => next_congr (if_pos (by simp [h1, h2, h3])),
   fun _ h1 h2 h3 => next_congr (if_neg (by simp [h1, h2, h3]))⟩

/-- Settles O23: the conditions of each clause, in the order of the commands, choose the branch of the command's meaning. -/
theorem powerProtectionCompletes : Obligations.PowerProtectionCompletes := fun s =>
  ⟨fun _ _ h1 h2 => next_congr (if_pos (by simp [h1, h2])),
   fun _ h1 => next_congr (if_pos h1),
   fun _ _ h1 h2 => next_congr (if_pos (by simp [h1, h2])),
   fun _ h1 => next_congr (if_pos h1),
   fun _ _ _ _ => next_congr (if_pos (by simp_all)),
   fun _ => rfl,
   fun _ _ h1 h2 => next_congr (if_pos (by simp [h1, h2])),
   fun _ _ h1 h2 => next_congr (if_pos (by simp [h1, h2])),
   fun _ _ _ h1 h2 => next_congr (if_pos (by simp [h1, h2])),
   fun _ _ _ h1 h2 => next_congr (if_pos (by simp [h1, h2])),
   fun _ _ h1 h2 => next_congr (if_pos (by simp [h1, h2])),
   fun _ _ => rfl,
   fun _ _ _ h1 h2 => next_congr (if_pos (by simp [h1, h2])),
   fun _ _ _ _ h1 h2 h3 h4 h5 => next_congr (if_pos (Bool.and_eq_true_iff.mpr ⟨by simp [h1, h2, h3, h4], h5⟩)),
   fun _ _ _ h1 h2 => next_congr (if_pos (by simp [h1, h2]))⟩

/-- Settles O24: the conditions of each clause, in the order of the commands, choose the branch of the command's meaning. -/
theorem channelCommandsComplete : Obligations.ChannelCommandsComplete := fun s =>
  ⟨fun _ _ _ h1 => next_congr (if_pos h1),
   fun _ _ _ _ _ h1 h2 => next_congr (if_pos (by simp [h1, h2])),
   fun _ _ h1 h2 => next_congr (if_pos (by simp [h1, h2])),
   fun _ _ _ _ => rfl,
   fun _ _ _ _ => rfl,
   fun _ _ _ _ _ _ h1 h2 h3 => next_congr (if_pos (by simp [h1, h2, h3])),
   fun _ _ _ _ _ h1 h2 h3 => next_congr (if_pos (by simp [h1, h2, h3])),
   fun _ _ _ _ _ h1 h2 h3 => next_congr (if_pos (by simp [h1, h2, h3])),
   fun _ _ _ _ h1 h2 => next_congr (if_pos (by simp [h1, h2])),
   fun _ _ _ h1 h2 h3 =>
      ⟨fun h4 h5 =>
         next_congr (State.command_leaves h1 h2 ((if_neg (by simp [h3])).trans (by simp only [h4]; rfl)) (by exact if_pos h5)),
        fun h4 h5 =>
          next_congr (State.command_leaves h1 h2 ((if_neg (by simp [h3])).trans (by simp only [h4]; rfl)) (by exact if_neg h5)),
        fun h4 => next_congr (State.command_leaves h1 h2 ((if_neg (by simp [h3])).trans (by simp only [h4]; rfl)) rfl)⟩,
   fun _ _ _ h1 h2 h3 =>
      ⟨fun h4 h5 h6 => next_congr (State.command_leaves h1 h2 ((if_neg (by simp [h3])).trans (if_pos h4)) (by simp [h5, h6])),
        fun h4 h5 h6 => next_congr (State.command_leaves h1 h2 ((if_neg (by simp [h3])).trans (if_pos h4)) (by simp [h5, h6])),
        fun h4 h5 => next_congr (State.command_leaves h1 h2 ((if_neg (by simp [h3])).trans (if_pos h4)) (by simp [h5])),
        fun h4 h5 h6 => next_congr (State.command_leaves h1 h2
          ((if_neg (by simp [h3])).trans ((if_neg (by omega)).trans (if_pos ⟨h4, h5⟩))) (if_pos h6)),
        fun h4 h5 h6 => next_congr (State.command_leaves h1 h2
          ((if_neg (by simp [h3])).trans ((if_neg (by omega)).trans (if_pos ⟨h4, h5⟩))) (if_neg h6))⟩,
   fun _ _ _ h1 h2 h3 => next_congr (State.command_leaves h1 h2 (if_neg (by simp [h3])) rfl),
   fun _ _ _ h1 h2 h3 => next_congr (State.command_leaves h1 h2 (if_neg (by simp [h3])) rfl),
   fun _ _ _ h1 h2 h3 _ => next_congr ((if_neg (by simp [h1])).trans (State.command_leaves h2 h3 (if_neg (by simp_all)) rfl)),
   fun _ _ _ _ h1 => next_congr (by simp only [h1] <;> rfl),
   fun _ _ _ h1 h2 h3 _ => next_congr ((if_neg (by simp [h1])).trans (State.command_leaves h2 h3 (if_neg (by simp_all)) rfl)),
   fun _ _ _ h1 h2 h3 _ => next_congr ((if_neg (by simp [h1])).trans (State.command_leaves h2 h3 (if_neg (by simp_all)) rfl)),
   fun _ _ _ h1 => next_congr (State.downFrame_heard h1),
   fun _ _ _ h1 => next_congr (State.upFrame_heard h1)⟩

/-- Settles O25: the conditions of each clause, in the order of the commands, choose the branch of the command's meaning. -/
theorem switchDieCommandsComplete : Obligations.SwitchDieCommandsComplete := fun s =>
  ⟨fun _ _ _ h1 h2 h3 h4 => next_congr (if_pos (by
      simp only [Bool.and_eq_true]
      exact ⟨⟨⟨h1, by simp [h2]⟩, h3⟩, h4⟩)),
   fun _ _ h1 h2 h3 => next_congr (if_pos (by simp [h1, h2, h3])),
   fun _ _ _ h1 h2 h3 => next_congr (if_pos (by simp [h1, h2, h3])),
   fun _ _ _ _ h1 h2 h3 h4 => next_congr (State.dctl_takes h1 h2 h3 h4),
   fun _ _ _ _ h1 h2 h3 h4 => next_congr (State.dctl_takes h1 h2 h3 h4),
   fun _ _ _ _ h1 h2 h3 h4 => next_congr (State.dctl_takes h1 h2 h3 h4),
   fun _ _ _ h1 => next_congr (if_pos h1),
   fun _ _ _ h1 h2 h3 h4 => next_congr (State.command_leaves h1 h2 ((if_neg h3).trans (if_pos h4)) rfl),
   fun _ _ _ h1 h2 h3 => next_congr (State.command_leaves h1 h2 (if_pos h3) rfl),
   fun _ _ _ h1 h2 h3 h4 h5 h6 => next_congr (State.modeFrame_done h1 h3 h2 (by simp [h4]) (by simp [h5, h6])),
   fun _ _ _ h1 h2 h3 h4 h5 => next_congr (State.modeFrame_done h1 h3 h2 (by simp [h4]) (by simp [h5])),
   fun _ _ _ h1 h2 h3 h4 h5 => next_congr (State.modeFrame_done h1 h3 h2 (by simp [h4]) (by simp [h5])),
   fun _ _ _ h1 h2 h3 h4 => next_congr (State.command_leaves h1 h2 (if_pos (by simp [h3, h4])) rfl),
   fun _ _ _ h1 => next_congr (State.downFrame_heard h1),
   fun _ _ _ h1 => next_congr (State.downFrame_heard h1),
   fun _ _ _ h1 => next_congr (State.downFrame_heard h1),
   fun _ _ _ _ h1 => next_congr (eq_of_named fun u hu => by
      dsimp only
      split
      next hnone => cases hnone.symm.trans h1
      next hsome =>
        cases hsome.symm.trans h1
        exact hu),
   fun _ _ _ h1 h2 h3 h4 h5 => next_congr (State.forceFrame_done h1 h3 h2 h4 h5),
   fun _ _ _ h1 h2 h3 h4 h5 => next_congr (State.forceFrame_done h1 h3 h2 h4 h5),
   fun _ _ _ h1 h2 h3 h4 h5 => next_congr (State.forceFrame_done h1 h3 h2 h4 h5),
   fun _ _ h1 => next_congr (if_pos h1),
   fun _ h1 => next_congr (if_pos h1),
   fun _ h1 h2 => next_congr (if_neg (by simp [h1, h2])),
   fun _ _ _ _ _ h1 => next_congr (if_neg (by simp [h1]))⟩

/-- Settles O26: the conditions of each clause, in the order of the commands, choose the branch of the command's meaning. -/
theorem upstreamFramesComplete : Obligations.UpstreamFramesComplete := fun s =>
  ⟨fun _ _ _ h1 => next_congr (State.upFrame_heard h1),
   fun _ _ _ h1 => next_congr (State.upFrame_heard h1),
   fun _ _ _ h1 => next_congr (State.upFrame_heard h1),
   fun _ _ _ h1 => next_congr (State.upFrame_heard h1),
   fun _ _ _ h1 => next_congr (State.upFrame_heard h1),
   fun _ _ _ h1 h2 => next_congr (State.chanFrame_heard h1 h2),
   fun _ _ h1 h2 h3 h4 => next_congr (if_pos (by simp [h1, h2, h3, h4])),
   fun _ _ _ h1 h2 => next_congr (State.chanFrame_heard h1 h2),
   fun _ _ _ h1 h2 => next_congr (State.chanFrame_heard h1 h2),
   fun _ _ _ h1 h2 => next_congr (State.chanFrame_heard h1 h2),
   fun _ _ _ h1 h2 => next_congr (State.chanFrame_heard h1 h2),
   fun _ _ _ h1 h2 => next_congr (State.chanFrame_heard h1 h2),
   fun _ _ _ h1 h2 => next_congr (State.chanFrame_heard h1 h2),
   fun _ _ _ h1 => next_congr (State.upFrame_heard h1),
   fun _ _ _ h1 => next_congr (State.upFrame_heard h1)⟩

/-- Settles O27: the conditions of each clause, in the order of the commands, choose the branch of the command's meaning. -/
theorem steeringEventsComplete : Obligations.SteeringEventsComplete := fun s =>
  ⟨fun _ _ _ _ _ h1 h2 h3 => next_congr (if_neg (by simp [h1, h2, h3])),
   fun _ _ h1 h2 => next_congr (if_pos (by simp [h1, h2])),
   fun _ _ _ _ h1 h2 => next_congr (if_neg (by simp [h1, h2])),
   fun _ _ h1 h2 h3 h4 h5 h6 h7 => next_congr (if_pos (by simp [h1, h2, h3, h4, h5, h6, h7])),
   fun _ _ h1 h2 h3 h4 => next_congr (if_pos (by simp [h1, h2, h3, h4])),
   fun _ _ _ h1 h2 => next_congr (if_neg (by simp [h1, h2])),
   fun _ _ _ h1 => next_congr (if_neg (by simp [h1])),
   fun _ _ => rfl,
   fun _ _ _ h1 => next_congr (if_neg (by simp [h1]))⟩

end Sys2Proof.Machine
end

section
/-! SUPPORT. The commands of nibs, their clusters and the signal gateway. -/

namespace Sys2Proof.Machine
set_option Elab.async false

/-- Settles O28: the conditions of each clause, in the order of the commands, choose the branch of the command's meaning. -/
theorem streamsComplete : Obligations.StreamsComplete := fun s =>
  ⟨fun _ _ _ _ _ _ h1 h2 h3 => next_congr (if_pos (by simp [h1, h2, h3])),
   fun _ _ _ h1 h2 h3 => next_congr (if_neg (by simp [h1, h2, h3])),
   fun _ _ _ _ _ _ _ _ _ => next_congr (if_pos (by simp_all)),
   fun _ _ h1 h2 _ _ h3 _ h4 h5 => next_congr ((if_neg (by simp [h1, h2])).trans (by
        simp only [h3]
        simp only [h4]
        exact if_neg h5)),
   fun _ _ h1 _ _ h2 h3 => next_congr ((if_neg (by simp [h1])).trans (by
        simp only [h2]
        exact if_neg h3)),
   fun _ _ _ _ _ _ _ _ => next_congr (if_pos (by simp_all)),
   fun _ _ _ h1 h2 h3 => next_congr (if_pos (by simp [h1, h2, h3])),
   fun _ _ _ _ _ h1 h2 => next_congr (by
        simp only [h1]
        exact if_pos h2)⟩

/-- Settles O29: the conditions of each clause, in the order of the commands, choose the branch of the command's meaning. -/
theorem clustersComplete : Obligations.ClustersComplete := fun s =>
  ⟨fun _ _ h1 h2 h3 h4 h5 => next_congr (if_neg (by simp [h1, h2, h3, h4, h5])),
   fun _ h1 h2 => next_congr (if_pos (by simp [h1, h2])),
   fun _ _ _ _ _ h1 h2 => next_congr (if_neg (by simp [h1, h2])),
   fun _ _ _ _ _ h1 h2 => next_congr (if_neg (by simp [h1, h2])),
   fun _ _ _ _ _ h1 h2 h3 => next_congr ((if_neg (by simp [h1, h2])).trans (if_pos h3)),
   fun _ _ _ _ h1 h2 => next_congr (if_neg (by simp [h1, h2])),
   fun _ _ _ _ h1 h2 h3 => next_congr ((if_neg (by simp [h1, h2])).trans (if_pos h3)),
   fun _ _ _ _ h1 h2 => next_congr (if_neg (by simp [h1, h2])),
   fun _ _ h1 h2 h3 h4 h5 h6 => next_congr (if_pos (by simp [h1, h2, h3, h4, h5, h6])),
   fun _ _ h1 h2 h3 h4 h5 => next_congr (if_pos (by simp [h1, h2, h3, h4, h5])),
   fun _ _ _ _ _ _ =>
      ⟨fun h4 => next_congr ((if_neg (by simp_all)).trans (by simp only [h4])),
        fun _ h4 =>
          ⟨fun _ _ h5 => next_congr ((if_neg (by simp_all)).trans (by
              simp only [h4, h5]
              rfl)),
            fun h5 => next_congr ((if_neg (by simp_all)).trans (by
              simp only [h4, h5]
              rfl))⟩⟩,
   fun _ _ _ h1 => next_congr (if_pos h1)⟩

/-- Settles O30: the conditions of each clause, in the order of the commands, choose the branch of the command's meaning. -/
theorem nibArithmeticCompletes : Obligations.NibArithmeticCompletes := fun _ =>
  ⟨fun _ _ _ h1 h2 h3 => next_congr (State.nibAlu_completes h1 h2 h3),
   fun _ _ _ h1 h2 h3 => next_congr (State.nibAlu_completes h1 h2 h3),
   fun _ _ _ h1 h2 h3 => next_congr (State.nibAlu_completes h1 h2 h3),
   fun _ _ _ h1 h2 h3 => next_congr (State.nibAlu_completes h1 h2 h3),
   fun _ _ _ h1 h2 h3 => next_congr (State.nibAlu_completes h1 h2 h3),
   fun _ _ _ h1 h2 h3 => next_congr (State.nibAlu_completes h1 h2 h3),
   fun _ _ _ h1 h2 h3 => next_congr (State.nibAlu_completes h1 h2 h3),
   fun _ _ _ h1 h2 h3 => next_congr (State.nibAlu_completes h1 h2 h3),
   fun _ _ _ h1 h2 h3 => next_congr (State.nibAlu_completes h1 h2 h3),
   fun _ _ _ h1 h2 h3 => next_congr (State.nibAlu_completes h1 h2 h3),
   fun _ _ _ h1 h2 h3 => next_congr (State.nibAlu_completes h1 h2 h3),
   fun _ _ _ h1 h2 h3 => next_congr (State.nibAlu_completes h1 h2 h3),
   fun _ _ _ h1 h2 h3 => next_congr (State.nibAlu_completes h1 h2 h3),
   fun _ _ _ h1 h2 h3 => next_congr (State.nibAlu_completes h1 h2 h3),
   fun _ _ _ h1 h2 h3 => next_congr (State.nibAlu_completes h1 h2 h3),
   fun _ _ _ h1 h2 h3 => next_congr (State.nibAlu_completes h1 h2 h3),
   fun _ _ _ h1 h2 h3 => next_congr (State.nibInstr_done h1 h2 h3 rfl rfl),
   fun _ _ _ h1 h2 h3 => next_congr (State.nibAlu_completes h1 h2 h3),
   fun _ _ _ h1 h2 h3 => next_congr (State.nibAlu_compares h1 h2 h3),
   fun _ _ _ h1 h2 h3 => next_congr (State.nibAlu_compares h1 h2 h3)⟩

/-- Settles O31: the conditions of each clause, in the order of the commands, choose the branch of the command's meaning. -/
theorem nibImmediatesComplete : Obligations.NibImmediatesComplete := fun s =>
  ⟨fun _ _ _ h1 h2 h3 => next_congr (State.nibImm_completes h1 h2 h3 rfl),
   fun _ _ _ h1 h2 h3 => next_congr (State.nibImm_completes h1 h2 h3 rfl),
   fun _ _ _ h1 h2 h3 => next_congr (State.nibImm_completes h1 h2 h3 rfl),
   fun _ _ _ h1 h2 h3 => next_congr (State.nibImm_completes h1 h2 h3 rfl),
   fun _ _ _ h1 h2 h3 => next_congr (State.nibImm_completes h1 h2 h3 rfl),
   fun _ _ _ h1 h2 h3 => next_congr (State.nibInstr_done h1 h2 h3 rfl rfl),
   fun _ _ _ h1 h2 h3 => next_congr (State.nibImm_completes h1 h2 h3 rfl),
   fun _ _ _ h1 h2 h3 h4 h5 => next_congr (State.nibImm_completes h1 h2 h3 (by simp [h4, h5])),
   fun _ _ _ h1 h2 h3 h4 h5 => next_congr (State.nibImm_completes h1 h2 h3 (by simp [h4, h5])),
   fun _ _ _ h1 h2 h3 h4 h5 => next_congr (State.nibImm_completes h1 h2 h3 (by simp [h4, h5])),
   fun _ _ _ h1 h2 h3 h4 h5 => next_congr (State.nibImm_completes h1 h2 h3 (by simp [h4, h5])),
   fun _ _ _ h1 h2 h3 h4 h5 => next_congr (State.nibImm_completes h1 h2 h3 (by simp [h4, h5])),
   fun _ _ _ h1 h2 h3 h4 h5 => next_congr (State.nibImm_completes h1 h2 h3 (by simp [h4, h5])),
   fun _ _ _ h1 h2 h3 h4 => next_congr (State.nibImm_completes h1 h2 h3 (by simp [h4])),
   fun _ _ _ h1 h2 h3 => next_congr (State.nibAcc_completes h1 h2 h3),
   fun _ _ _ h1 h2 h3 => next_congr (State.nibAcc_completes h1 h2 h3),
   fun _ _ _ h1 h2 h3 => next_congr (State.nibAcc_completes h1 h2 h3),
   fun _ _ _ h1 h2 h3 => next_congr (State.nibAcc_completes h1 h2 h3),
   fun _ _ _ h1 h2 h3 => next_congr (State.nibAcc_completes h1 h2 h3),
   fun _ _ _ h1 h2 h3 => next_congr (State.nibAcc_completes_some h1 h2 h3),
   fun _ _ _ h1 h2 h3 => next_congr (State.nibAcc_completes_some h1 h2 h3),
   fun _ _ _ h1 h2 h3 => next_congr (State.nibAcc_completes h1 h2 h3)⟩

/-- Settles O32: the conditions of each clause, in the order of the commands, choose the branch of the command's meaning. -/
theorem nibBitFieldsComplete : Obligations.NibBitFieldsComplete := fun s =>
  ⟨fun _ _ _ h1 h2 h3 => next_congr (State.nibAcc_completes h1 h2 h3),
   fun _ _ _ h1 h2 h3 h4 => next_congr (State.nibExtract_completes h1 h2 h3 (by simp [h4])),
   fun _ _ _ h1 h2 h3 h4 => next_congr (State.nibExtract_completes h1 h2 h3 (by simp [h4])),
   fun _ _ _ h1 h2 h3 h4 => next_congr (State.nibExtract_completes h1 h2 h3 (by simp [h4])),
   fun _ _ _ h1 h2 h3 h4 => next_congr (State.nibExtract_completes h1 h2 h3 (by simp [h4])),
   fun _ _ _ h1 h2 h3 h4 => next_congr (State.nibInsert_completes h1 h2 h3 (by simp [h4])),
   fun _ _ _ h1 h2 h3 h4 => next_congr (State.nibInsert_completes h1 h2 h3 (by simp [h4])),
   fun _ _ _ h1 h2 h3 h4 => next_congr (State.nibExtract_completes h1 h2 h3 (by simp [h4])),
   fun _ _ _ h1 h2 h3 h4 => next_congr (State.nibExtract_completes h1 h2 h3 (by simp [h4])),
   fun _ _ _ h1 h2 h3 h4 => next_congr (State.nibExtract_completes h1 h2 h3 (by simp [h4])),
   fun _ _ _ h1 h2 h3 h4 => next_congr (State.nibExtract_completes h1 h2 h3 (by simp [h4])),
   fun _ _ _ h1 h2 h3 h4 => next_congr (State.nibInsert_completes h1 h2 h3 (by simp [h4])),
   fun _ _ _ h1 h2 h3 h4 => next_congr (State.nibInsert_completes h1 h2 h3 (by simp [h4]))⟩

/-- Settles O33: the conditions of each clause, in the order of the commands, choose the branch of the command's meaning. -/
theorem nibMemoryAndBranchesComplete : Obligations.NibMemoryAndBranchesComplete := fun s =>
  ⟨fun _ _ _ h1 h2 h3 h4 h5 _ h6 _ _ h7 => next_congr (State.nibLd_completes h1 h2 h3 h4 h5 h6 h7),
   fun _ _ _ h1 h2 h3 h4 h5 _ h6 _ _ h7 => next_congr (State.nibLd_completes h1 h2 h3 h4 h5 h6 h7),
   fun _ _ _ h1 h2 h3 h4 _ h5 _ _ h6 => next_congr (State.nibLd_completes h1 h2 h3 (by omega) h4 h5 h6),
   fun _ _ _ h1 h2 h3 h4 _ _ h5 =>
     next_congr (State.nibInstr_done h1 h2 h3 rfl ((if_neg (by simp [h4])).trans (by simp only [h5]))),
   fun _ _ _ h1 h2 h3 h4 _ _ h5 =>
     next_congr (State.nibInstr_done h1 h2 h3 rfl ((if_neg (by simp [h4])).trans (by simp only [h5]))),
   fun _ _ _ h1 h2 h3 _ _ h4 => next_congr (State.nibInstr_done h1 h2 h3 rfl ((if_neg (by omega)).trans (by simp only [h4]))),
   fun _ _ _ h1 h2 h3 h4 =>
      ⟨fun h5 => next_congr (State.nibInstr_fall h1 h2 (decide_eq_true h3) (congrArg (NibDo.jump _) (if_neg h5)) h4),
        fun h5 h6 h7 =>
          next_congr (State.nibInstr_jump h1 h2 (decide_eq_true h3) (congrArg (NibDo.jump _) (if_pos h5)) h6 h7 h4)⟩,
   fun _ _ _ h1 h2 h3 h4 h5 => next_congr (State.nibInstr_jump h1 h2 rfl rfl h4 h5 h3),
   fun _ _ _ h1 h2 h3 h4 h5 =>
      ⟨fun h6 h7 => next_congr (State.nibInstr_done h1 h7 h2 (by simp [h3]) (State.nibLoop_enters h4 h5 h6)),
        fun _ h6 h7 h8 => next_congr (State.nibInstr_goto h1 h2 (by simp [h3]) (State.nibLoop_skips h4 h5 h6 h7) h8)⟩,
   fun _ _ _ h1 h2 h3 h4 h5 =>
      ⟨fun h6 h7 => next_congr (State.nibInstr_done h1 h7 h2 (by simp [h3]) (State.nibLoop_enters h4 h5 h6)),
        fun _ h6 h7 h8 => next_congr (State.nibInstr_goto h1 h2 (by simp [h3]) (State.nibLoop_skips h4 h5 h6 h7) h8)⟩,
   fun _ _ _ h1 h2 h3 => next_congr (State.nibInstr_done h1 h2 h3 rfl rfl),
   fun _ _ _ h1 h2 h3 h4 h5 => next_congr (State.nibInstr_jump h1 h2 rfl rfl h4 h5 h3),
   fun _ _ _ h1 h2 h3 h4 h5 h6 => next_congr (State.nibInstr_jump h1 h2 (by simp [h3]) rfl h5 h6 h4)⟩

/-- Settles O34: the conditions of each clause, in the order of the commands, choose the branch of the command's meaning. -/
theorem nibControlCompletes : Obligations.NibControlCompletes := fun s =>
  ⟨fun _ _ _ h1 h2 h3 => next_congr (State.nibInstr_raise h1 h2 h3 rfl rfl),
   fun _ _ _ h1 h2 h3 h4 =>
        ⟨fun h5 => next_congr (State.nibInstr_done h1 h2 h3 h4 (if_neg (by simp [h5]))),
          fun h5 => next_congr (State.nibInstr_done h1 h2 h3 h4 (if_pos h5))⟩,
   fun _ _ _ h1 h2 h3 h4 h5 h6 => next_congr (State.nibInstr_done h1 h2 h3 h4 ((if_neg h5).trans (if_neg h6))),
   fun _ _ _ h1 h2 h3 h4 h5 => next_congr (State.nibInstr_goto h1 h2 h3 (if_neg (by simp [h4])) h5),
   fun _ _ _ h1 h2 h3 =>
      ⟨fun h4 => next_congr (State.nibInstr_hold h1 h3 rfl (if_pos h4)),
        fun h4 h5 => next_congr (State.nibInstr_hold h1 h3 rfl ((if_neg h4).trans (by simp only [h5]))),
        fun q h4 h5 h6 => next_congr (State.nibInstr_done h1 h2 h3 rfl ((if_neg h4).trans (by
          simp only [h5]
          cases hline : q.line with
          | none => rfl
          | some l => exact if_neg (h6.resolve_left (by simp [hline]))))),
        fun _ _ h4 h5 h6 h7 => next_congr (State.nibInstr_raise h1 h2 h3 rfl ((if_neg h4).trans (by
          simp only [h5, h6]
          exact if_pos h7)))⟩,
   fun _ _ _ h1 h2 h3 => next_congr (State.nibInstr_done h1 h2 h3 rfl rfl),
   fun _ _ _ h1 h2 h3 h4 => next_congr (State.nibInstr_done h1 h2 h3 ((apply_ite (· = true) _ _ _).mpr h4) rfl),
   fun _ _ _ =>
        ⟨fun h1 h2 => next_congr ((if_pos h1).trans (if_pos h2)),
          fun h1 h2 h3 h4 =>
        ⟨fun h5 => next_congr ((if_neg (by simp [h1])).trans (State.nibInstr_hold h2 h4 rfl (if_pos h5))),
          fun h5 h6 =>
            next_congr ((if_neg (by simp [h1])).trans (State.nibInstr_hold h2 h4 rfl ((if_neg (by simp [h5])).trans (by simp only [h6])))),
          fun _ h5 h6 =>
            next_congr ((if_neg (by simp [h1])).trans (State.nibInstr_done h2 h3 h4 rfl ((if_neg (by simp [h5])).trans (by simp only [h6]))))⟩⟩,
   fun _ _ _ h1 h2 h3 h4 h5 =>
     next_congr (State.nibInstr_done h1 h2 h3 rfl ((if_neg (by simp [h4])).trans (if_neg (by simp [h5]))))⟩

/-- Settles O35: the conditions of each clause, in the order of the commands, choose the branch of the command's meaning. -/
theorem nibSignalsComplete : Obligations.NibSignalsComplete := fun s =>
  ⟨fun _ _ _ h1 h2 h3 h4 h5 _ h6 h7 => next_congr (State.nibSig_completes h1 h2 h3 h4 h5 rfl h6 h7 rfl),
   fun _ _ _ h1 h2 h3 h4 h5 h6 _ h7 h8 h9 =>
     next_congr (State.nibSig_completes h1 h2 h3 h4 (by simp [h5, h6]) rfl h7 (by simp [h8, h9]) rfl),
   fun _ _ _ h1 h2 h3 h4 h5 _ h6 h7 => next_congr (State.nibSig_completes h1 h2 h3 h4 h5 rfl h6 h7 rfl),
   fun _ _ _ h1 h2 h3 h4 h5 _ h6 h7 => next_congr (State.nibSig_completes h1 h2 h3 h4 h5 rfl h6 h7 rfl),
   fun _ _ _ h1 h2 h3 h4 h5 _ h6 h7 => next_congr (State.nibSig_completes h1 h2 h3 h4 h5 rfl h6 h7 rfl),
   fun _ _ _ h1 h2 h3 h4 h5 _ h6 h7 => next_congr (State.nibSig_completes h1 h2 h3 h4 h5 rfl h6 h7 rfl),
   fun _ _ _ h1 h2 h3 h4 h5 _ h6 h7 => next_congr (State.nibSig_completes h1 h2 h3 h4 h5 rfl h6 h7 rfl),
   fun _ _ _ h1 h2 h3 h4 h5 h6 _ h7 h8 h9 =>
      next_congr (State.nibSig_completes h1 h2 h3 h4 h5 (if_neg (by omega)) h7 h8 (if_neg (by simp [h9]))),
   fun _ _ _ h1 h2 h3 h4 h5 h6 _ h7 h8 h9 =>
      next_congr (State.nibSig_completes h1 h2 h3 h4 h5 (if_neg (by omega)) h7 h8 (if_neg (by simp [h9]))),
   fun _ _ _ h1 h2 h3 h4 h5 => next_congr (State.nibInstr_done h1 h2 h3 rfl (if_pos ⟨h4, h5⟩)),
   fun _ _ _ h1 h2 h3 => next_congr (State.nibInstr_done h1 h2 h3 rfl rfl),
   fun _ _ _ h1 h2 h3 => next_congr (State.nibInstr_done h1 h2 h3 rfl rfl),
   fun _ _ _ h1 h2 h3 h4 => next_congr (State.nibInstr_done h1 h2 h3 rfl (if_pos h4)),
   fun _ _ _ h1 h2 h3 h4 h5 h6 h7 h8 h9 =>
     next_congr (State.nibInstr_done h1 h2 h3 rfl ((if_neg (by simp [h4])).trans (if_neg (by simp [h5, h6, h7, h8, h9])))),
   fun _ _ _ h1 h2 h3 h4 h5 => next_congr (State.nibInstr_done h1 h2 h3 (by simp [h4, h5]) rfl),
   fun _ _ _ _ h1 h2 h3 h4 => next_congr (by
        simp only [h1]
        exact if_pos (by simp [h2, h3, h4])),
   fun _ _ _ h1 h2 h3 h4 h5 _ h6 h7 => next_congr (State.nibSig_completes h1 h2 h3 h4 h5 rfl h6 h7 rfl)⟩

/-- Settles O36: the conditions of each clause, in the order of the commands, choose the branch of the command's meaning. -/
theorem signalGatewayCompletes : Obligations.SignalGatewayCompletes := fun s =>
  ⟨fun _ h1 => next_congr (if_pos h1),
   fun _ _ _ _ h1 h2 => next_congr (if_neg (by simp [h1, h2])),
   fun _ h1 h2 h3 h4 => next_congr (if_neg (by simp [h1, h2, h3, h4])),
   fun _ _ _ _ h1 h2 => next_congr (if_neg (by simp [h1, h2])),
   fun _ _ _ _ h1 h2 h3 h4 =>
     next_congr ((if_neg (by simp [h1, h2])).trans ((if_neg (by simp [h3])).trans (if_neg (by simp [h4])))),
   fun _ _ _ _ _ _ h1 h2 => next_congr (if_neg (by simp [h1, h2])),
   fun _ _ _ _ h1 => next_congr (if_pos h1),
   fun _ _ _ h1 => next_congr (if_pos h1),
   fun _ h1 h2 => next_congr (if_pos (by simp [h1, h2])),
   fun _ _ h1 => next_congr (if_neg (by simp [h1])),
   fun _ _ => rfl,
   fun _ h1 h2 => next_congr (if_pos (by simp [h1, h2])),
   fun _ _ _ h1 h2 h3 => next_congr (if_neg (by simp [h1, h2, h3])),
   fun _ _ _ h1 => next_congr (if_pos h1)⟩

end Sys2Proof.Machine
end

section
/-! SUPPORT. The commands of field buses, Ethernet ports, the switch core and group time. -/

namespace Sys2Proof.Machine
set_option Elab.async false

/-- Settles O37: the conditions of each clause, in the order of the commands, choose the branch of the command's meaning. -/
theorem canCompletes : Obligations.CanCompletes := fun s =>
  ⟨fun _ _ _ _ _ _ _ _ _ _ => rfl,
   fun _ _ _ h1 _ _ h2 => next_congr ((if_neg (by simp [h1])).trans (by simp only [h2])),
   fun _ _ _ _ => rfl,
   fun _ _ h1 => next_congr (by simp only [h1]),
   fun _ h1 => next_congr (if_neg h1),
   fun _ _ h1 h2 _ h3 => next_congr ((if_neg (by simp [h1, h2])).trans (by simp only [h3])),
   fun _ h1 => next_congr (if_pos h1),
   fun _ => rfl,
   fun _ => rfl,
   fun _ _ _ _ h1 h2 h3 h4 => next_congr ((State.fbCommand_takes h1 h2 h3).trans (if_pos h4)),
   fun _ _ _ _ h1 h2 h3 h4 => next_congr ((State.fbCommand_takes h1 h2 h3).trans (if_neg (by simp [h4]))),
   fun _ _ _ _ h1 h2 h3 h4 => next_congr ((State.fbCommand_takes h1 h2 h3).trans (if_pos h4)),
   fun _ _ h1 h2 => next_congr (if_pos (by simp [h1, h2]))⟩

/-- Settles O38: the conditions of each clause, in the order of the commands, choose the branch of the command's meaning. -/
theorem linSatelliteAndSenseComplete : Obligations.LinSatelliteAndSenseComplete := fun s =>
  ⟨fun _ _ _ _ _ _ h1 h2 h3 h4 h5 h6 => next_congr ((State.fbCommand_takes h1 h2 h3).trans (if_pos (by simp [h4, h5, h6]))),
   fun _ _ _ _ h1 h2 h3 h4 h5 => next_congr ((State.fbCommand_takes h1 h2 h3).trans (if_pos (by simp [h4, h5]))),
   fun _ _ _ _ h1 h2 h3 h4 => next_congr ((State.fbCommand_takes h1 h2 h3).trans (if_neg (by simp [h4]))),
   fun _ => rfl,
   fun _ _ _ _ _ _ _ _ => rfl,
   fun _ h1 => next_congr (if_pos h1),
   fun _ _ _ _ _ _ _ => rfl,
   fun _ h1 _ h2 => next_congr ((if_neg h1).trans (by
      split
      next hnone => cases hnone.symm.trans h2
      next hsome => cases hsome.symm.trans h2; rfl)),
   fun _ _ _ h1 => next_congr (by simp only [h1]),
   fun _ _ _ _ h1 => next_congr (by simp only [h1] <;> rfl),
   fun _ _ _ h1 => next_congr (by simp only [h1] <;> rfl),
   fun _ _ _ => rfl,
   fun _ _ => rfl⟩

/-- Settles O39: the conditions of each clause, in the order of the commands, choose the branch of the command's meaning. -/
theorem ethernetPortsComplete : Obligations.EthernetPortsComplete := fun s =>
  ⟨fun _ _ _ _ _ _ _ => rfl,
   fun _ _ _ _ _ _ _ => rfl,
   fun _ _ _ h1 => next_congr (if_neg h1),
   fun _ _ _ _ _ => next_congr (if_neg (by simp_all)),
   fun _ _ _ h1 h2 => next_congr ((if_neg h1).trans (if_neg (by simp [h2]))),
   fun _ _ _ _ => rfl,
   fun _ _ h1 h2 h3 => next_congr (by
        simp only [h1]
        exact if_neg (by simp [h2, h3])),
   fun _ h1 => next_congr (if_neg h1),
   fun _ _ _ _ h1 => next_congr (if_neg (by simp [h1])),
   fun _ _ _ _ h1 h2 => next_congr (if_neg (by simp [h1, h2])),
   fun _ _ _ _ h1 => next_congr (by simp only [h1]),
   fun _ _ _ _ h1 h2 => next_congr (by
        simp only [h1]
        exact if_neg (by simp [h2])),
   fun _ _ h1 h2 h3 h4 h5 => next_congr (if_pos (by simp [h1, h2, h3, h4, h5])),
   fun _ => rfl,
   fun _ => rfl,
   fun _ _ h1 h2 h3 h4 => next_congr (if_pos (by simp [h1, h2, h3, h4])),
   fun _ _ => rfl,
   fun _ _ _ _ h1 => next_congr (if_pos h1),
   fun _ _ _ _ h1 => next_congr (by simp only [h1]),
   fun _ _ _ _ h1 h2 => next_congr (if_pos (by simp [h1, h2])),
   fun _ _ _ _ h1 h2 h3 => next_congr ((if_pos (by simp [h1, h2])).trans (if_pos h3)),
   fun _ _ _ h1 h2 h3 => next_congr (if_neg (by simp [h1, h2, h3]))⟩

/-- Settles O40: the conditions of each clause, in the order of the commands, choose the branch of the command's meaning. -/
theorem switchCoreCompletes : Obligations.SwitchCoreCompletes := fun s =>
  ⟨fun _ _ _ h1 => next_congr (by simp only [h1]),
   fun _ _ _ h1 => next_congr (if_neg h1),
   fun _ _ _ h1 _ _ h2 h3 => next_congr (by
        simp only [h1]
        simp only [h2]
        exact if_neg (by simp [h3])),
   fun _ _ h1 => next_congr (if_pos h1),
   fun _ h1 h2 => next_congr (if_neg (by simp [h1, h2])),
   fun _ _ _ _ _ h1 h2 h3 => next_congr (if_neg (by simp [h1, h2, h3])),
   fun _ _ _ h1 h2 h3 h4 h5 h6 => next_congr (if_neg (by simp [h1, h2, h3, h4, h5, h6])),
   fun _ _ _ h1 => next_congr (by simp only [h1]),
   fun _ _ _ _ _ h1 h2 => next_congr (if_pos (by simp [h1, h2])),
   fun _ _ _ _ _ h1 => next_congr (by simp only [h1]),
   fun _ _ _ _ h1 => next_congr (by simp only [h1]),
   fun _ => rfl,
   fun _ _ h1 => next_congr (by simp only [h1]),
   fun _ _ _ _ h1 _ _ h2 => next_congr ((if_neg h1).trans (by simp only [h2])),
   fun _ h1 h2 => next_congr (if_neg (by simp [h1, h2])),
   fun _ h1 h2 => next_congr (if_neg (by simp [h1, h2])),
   fun _ _ _ h1 h2 h3 => next_congr (State.swcCmd_takes h1 h2 h3),
   fun _ _ _ _ h1 h2 h3 => next_congr (State.swcCmd_takes h1 h2 h3),
   fun _ _ _ _ h1 h2 h3 => next_congr (State.swcCmd_takes h1 h2 h3)⟩

/-- Settles O41: the conditions of each clause, in the order of the commands, choose the branch of the command's meaning. -/
theorem switchTablesComplete : Obligations.SwitchTablesComplete := fun s =>
  ⟨fun _ _ h1 h2 _ h3 => next_congr ((if_neg (by simp [h1, h2])).trans (by simp only [h3])),
   fun _ _ _ h1 h2 => next_congr (if_neg (by simp [h1, h2])),
   fun _ _ _ h1 h2 h3 _ _ h4 =>
      next_congr ((if_neg (by simp [h1, h2])).trans ((if_neg (by simp [h3])).trans (by simp only [h4] <;> rfl))),
   fun _ _ _ h1 h2 _ h3 => next_congr ((if_neg (by simp [h1, h2])).trans (by simp only [h3] <;> rfl)),
   fun _ _ _ h1 h2 h3 h4 => next_congr ((if_neg (by simp [h1, h2])).trans (if_neg (by simp [h3, h4]))),
   fun _ _ _ _ h1 h2 _ _ _ _ => next_congr ((if_neg (by simp [h1, h2])).trans (if_neg (by simp_all)))⟩

/-- Settles O42: the conditions of each clause, in the order of the commands, choose the branch of the command's meaning. -/
theorem groupTimeCompletes : Obligations.GroupTimeCompletes := fun s =>
  ⟨fun _ _ _ _ _ _ _ h1 => next_congr (if_neg (by simp [h1])),
   fun _ _ _ _ h1 => next_congr (if_neg (by simp [h1])),
   fun _ _ _ _ h1 h2 h3 h4 => next_congr (if_neg (by simp [h1, h2, h3, h4])),
   fun _ _ h1 h2 => next_congr (if_pos (by simp [h1, h2])),
   fun _ h1 h2 => next_congr (if_pos (by simp [h1, h2])),
   fun _ h1 h2 => next_congr (if_pos (by simp [h1, h2])),
   fun _ _ _ h1 h2 h3 h4 h5 => next_congr (by
      simp only [h1]
      refine if_neg ?_
      simp only [Bool.or_eq_true, not_or]
      exact ⟨⟨⟨by simp [h2], h3⟩, h4⟩, by simp [h5]⟩),
   fun _ _ _ h1 h2 => next_congr (by
        simp only [h1]
        exact if_neg (by simp [h2])),
   fun _ _ h1 h2 h3 h4 => next_congr (if_neg (by
      simp only [Bool.or_eq_true, not_or]
      exact ⟨by simp [h1, h2, h3], h4⟩)),
   fun _ h1 h2 => next_congr (if_pos (by simp [h1, h2])),
   fun _ _ => rfl,
   fun _ _ _ h1 h2 h3 => next_congr (if_pos (by simp [h1, h2, h3])),
   fun _ _ _ _ h1 => next_congr (if_neg (by simp [h1])),
   fun _ _ _ _ h1 => next_congr (if_pos h1),
   fun _ _ h1 h2 h3 h4 => next_congr (if_neg (by simp [h1, h2, h3, h4])),
   fun _ _ h1 => next_congr (if_neg h1),
   fun _ h1 => next_congr (if_pos h1),
   fun _ _ _ _ _ _ _ h1 => next_congr (if_neg (by simp [h1])),
   fun _ _ h1 h2 => next_congr (if_pos (by simp [h1, h2]))⟩

end Sys2Proof.Machine
end

section
/-! SUPPORT. The commands of the pair, its worlds and cores, the Cistern, the zone group, the update, faults and security. -/

namespace Sys2Proof.Machine
set_option Elab.async false

/-- Settles O43: the conditions of each clause, in the order of the commands, choose the branch of the command's meaning. -/
theorem epochsComplete : Obligations.EpochsComplete := fun s =>
  ⟨fun _ _ _ h1 h2 => next_congr (by
        simp only [h1]
        exact if_neg (by simp [h2])),
   fun _ _ => rfl,
   fun _ _ _ _ _ h1 h2 => next_congr (by
        simp only [h1]
        exact if_neg (by simp [h2])),
   fun _ _ _ h1 h2 h3 => next_congr (by
        simp only [h1]
        exact if_pos (by simp [h2, h3])),
   fun _ _ => rfl,
   fun _ _ _ h1 h2 h3 => next_congr (by
        simp only [h1]
        exact if_pos (by simp [h2, h3])),
   fun _ _ _ _ h1 h2 h3 h4 h5 => next_congr (by
        simp only [h1]
        exact if_pos (by simp [h2, h3, h4, h5])),
   fun _ _ _ h1 h2 h3 h4 => next_congr (by
        simp only [h1]
        exact if_neg (by simp [h2, h3, h4])),
   fun _ _ h1 h2 => next_congr (by
        simp only [h1]
        exact if_neg (by simp [h2])),
   fun _ h1 h2 h3 => next_congr (if_neg (by simp [h1, h2, h3])),
   fun _ _ _ h1 _ => next_congr (by
        simp only [h1]
        exact if_neg (by grind))⟩

/-- Settles O44: the conditions of each clause, in the order of the commands, choose the branch of the command's meaning. -/
theorem duplexesComplete : Obligations.DuplexesComplete := fun s =>
  ⟨fun _ _ _ h1 => next_congr (if_neg (by simp [h1])),
   fun _ _ _ h1 h2 h3 h4 h5 => next_congr (if_pos (by simp [h1, h2, h3, h4, h5])),
   fun _ _ _ h1 h2 h3 => next_congr (if_pos (by simp [h1, h2, h3])),
   fun _ _ _ h1 h2 h3 h4 => next_congr (by
        simp only [h1]
        exact if_pos (by simp [h2, h3, h4])),
   fun _ _ _ _ _ h1 => next_congr (State.insn_meets h1),
   fun _ _ _ h1 h2 h3 h4 h5 => next_congr (if_neg (by simp [h1, h2, h3, h4, h5])),
   fun _ _ _ h1 h2 => next_congr (if_neg (by simp [h1, h2])),
   fun _ _ h1 h2 h3 => next_congr (if_pos (by simp [h1, h2, h3])),
   fun _ _ _ _ h1 h2 h3 => next_congr ((if_neg (by simp [h1])).trans (if_pos (by simp [h2, h3]))),
   fun _ _ _ _ h1 _ _ => next_congr ((if_neg (by simp [h1])).trans (if_pos (by simp_all))),
   fun _ _ _ _ h1 h2 h3 h4 h5 => next_congr ((if_neg (by simp [h1])).trans (if_pos (by simp [h2, h3, h4, h5]))),
   fun _ _ _ _ h1 h2 h3 => next_congr ((if_neg (by simp [h1])).trans (if_neg (by simp [h2, h3]))),
   fun _ _ _ _ h1 h2 h3 h4 => next_congr ((if_neg (by simp [h1])).trans (if_neg (by simp [h2, h3, h4])))⟩

/-- Settles O45: the conditions of each clause, in the order of the commands, choose the branch of the command's meaning. -/
theorem worldsComplete : Obligations.WorldsComplete := fun s =>
  ⟨fun _ _ _ _ h1 => next_congr (State.insn_meets h1),
   fun _ _ _ h1 => next_congr (if_neg (by simp [h1])),
   fun _ _ _ h1 => next_congr (State.insn_meets h1),
   fun _ _ _ _ h1 => next_congr (State.insn_meets h1),
   fun _ _ _ _ h1 h2 h3 => next_congr ((if_neg (by simp [h1])).trans (if_pos (by simp [h2, h3]))),
   fun _ _ _ h1 h2 => next_congr ((if_neg (by simp [h1])).trans (if_pos h2)),
   fun _ _ _ _ _ h1 h2 => next_congr (if_pos (by simp [h1, h2])),
   fun _ _ _ h1 h2 h3 h4 h5 h6 => next_congr (by
        simp only [h1]
        exact if_neg (by simp [h2, h3, h4, h5, h6])),
   fun _ _ h1 h2 h3 => next_congr (if_neg (by simp [h1, h2, h3])),
   fun _ _ h1 h2 => next_congr (by
        simp only [h1]
        exact if_pos h2),
   fun _ _ _ _ _ h1 h2 => next_congr ((if_neg (by simp [h1])).trans (if_neg (by simp [h2]))),
   fun _ _ _ _ _ _ h1 h2 => next_congr ((if_neg (by simp [h1])).trans (if_neg (by simp [h2])))⟩

/-- Settles O46: the conditions of each clause, in the order of the commands, choose the branch of the command's meaning. -/
theorem coresAndEventsComplete : Obligations.CoresAndEventsComplete := fun s =>
  ⟨fun _ _ _ h1 => next_congr (State.insn_meets h1),
   fun _ _ _ h1 h2 => next_congr (if_neg (by simp [h1, h2])),
   fun _ _ h1 h2 h3 h4 h5 => next_congr (if_neg (by simp [h1, h2, h3, h4, h5])),
   fun _ _ _ _ _ h1 => next_congr (if_neg (by simp [h1])),
   fun _ _ _ _ h1 h2 h3 h4 h5 => next_congr (by
      simp only [h1]
      exact if_neg (by simp [h2, h3, h4, h5])),
   fun _ _ _ _ h1 h2 h3 => next_congr ((if_neg (by simp [h1, h2])).trans (State.insn_meets h3)),
   fun _ _ h1 h2 h3 => next_congr (if_pos (by simp [h1, h2, h3])),
   fun _ _ h1 h2 h3 h4 h5 => next_congr (if_pos (by simp [h1, h2, h3, h4, h5])),
   fun _ _ h1 h2 h3 => next_congr (State.claimRow_runs h1 h2 h3),
   fun _ _ h1 h2 h3 => next_congr (State.claimRow_runs h1 h2 h3),
   fun _ _ h1 h2 h3 => next_congr (State.claimRow_runs h1 h2 h3),
   fun _ _ _ h1 h2 => next_congr (State.eoiRow_runs h1 h2),
   fun _ _ _ h1 h2 => next_congr (State.eoiRow_runs h1 h2),
   fun _ _ _ h1 h2 => next_congr (State.eoiRow_runs h1 h2),
   fun _ _ _ _ h1 h2 => next_congr (if_neg (by simp [h1, h2])),
   fun _ _ _ h1 h2 => next_congr (if_neg (by simp [h1, h2])),
   fun _ _ _ _ _ h1 h2 => next_congr (if_neg (by simp [h1, h2])),
   fun _ _ => rfl,
   fun _ _ _ _ _ h1 => next_congr (by simp only [h1])⟩

/-- Settles O48: the conditions of each clause, in the order of the commands, choose the branch of the command's meaning. -/
theorem cisternEnergyCompletes : Obligations.CisternEnergyCompletes := fun s =>
  ⟨fun _ _ _ _ => rfl,
   fun _ _ h1 h2 h3 => next_congr (if_pos (by simp [h1, h2, h3])),
   rfl,
   fun _ _ _ _ h1 h2 h3 => next_congr ((if_neg (by simp [h1, h2])).trans (if_pos h3)),
   fun _ _ _ _ _ h1 h2 h3 h4 => next_congr (State.errandCmd_takes h1 h2 h3 h4),
   fun _ _ _ _ _ h1 h2 h3 h4 => next_congr (State.errandCmd_takes h1 h2 h3 h4),
   fun _ _ _ _ _ h1 h2 h3 h4 => next_congr (State.errandCmd_takes h1 h2 h3 h4),
   rfl,
   rfl,
   fun _ h1 h2 h3 => next_congr (by
        simp only [h1]
        exact if_pos (by simp [h2, h3])),
   fun _ _ _ _ _ => rfl,
   fun _ _ _ h1 => next_congr (if_neg (by simp [h1])),
   fun _ _ h1 h2 => next_congr (by
        simp only [h1]
        exact if_pos h2),
   fun _ _ _ _ _ _ h1 h2 h3 h4 h5 h6 => next_congr ((if_neg (by simp [h1, h2, h3, h4, h5])).trans (if_pos h6))⟩

/-- Settles O49: the conditions of each clause, in the order of the commands, choose the branch of the command's meaning. -/
theorem zoneViewCompletes : Obligations.ZoneViewCompletes := fun s =>
  ⟨fun _ h1 h2 h3 h4 => next_congr (if_pos (by simp [h1, h2, h3, h4])),
   fun _ _ _ h1 => next_congr (State.zgHear_hears h1),
   fun _ _ h1 h2 h3 h4 h5 h6 => next_congr (if_pos (by
      simp only [Bool.and_eq_true]
      exact ⟨⟨⟨⟨⟨h1, h2⟩, h3⟩, by simp [h4]⟩, by simp [h5]⟩, decide_eq_true h6⟩)),
   fun _ h1 h2 h3 => next_congr (if_pos (by simp [h1, h2, h3])),
   fun _ _ _ h1 => next_congr (State.zgHear_hears h1),
   fun _ h1 h2 => next_congr (if_pos (by simp [h1, h2])),
   fun _ _ _ h1 h2 => next_congr ((State.zgHear_hears h1).trans (if_neg (by simp [h2]))),
   fun _ _ _ h1 h2 => next_congr ((State.zgHear_hears h1).trans (if_neg h2)),
   fun _ h1 h2 h3 => next_congr (if_pos (by
      simp only [Bool.and_eq_true]
      exact ⟨⟨h1, decide_eq_true h2⟩, h3⟩)),
   fun _ _ _ h1 h2 => next_congr ((State.zgHear_hears h1).trans (if_neg (by simp [h2]))),
   fun _ h1 h2 h3 h4 h5 => next_congr (if_neg (by simp [h1, h2, h3, h4, h5])),
   fun _ _ h1 h2 h3 h4 h5 => next_congr (if_pos (by simp [h1, h2, h3, h4, h5])),
   fun _ _ _ _ h1 _ h2 h3 h4 => next_congr ((if_neg (by simp [h1])).trans (by
        simp only [h2]
        exact if_neg (by simp [h3, h4]))),
   fun _ _ _ _ h1 _ h2 h3 h4 => next_congr ((if_neg (by simp [h1])).trans (by
        simp only [h2]
        exact if_neg (by simp [h3, h4]))),
   fun _ _ _ h1 => next_congr (State.zgHear_hears h1),
   fun _ _ _ h1 => next_congr (State.zgHear_hears h1),
   fun _ _ h1 h2 h3 h4 h5 => next_congr (if_pos (by simp [h1, h2, h3, h4, h5]))⟩

/-- Settles O50: the conditions of each clause, in the order of the commands, choose the branch of the command's meaning. -/
theorem zoneRemoteCompletes : Obligations.ZoneRemoteCompletes := fun s =>
  ⟨fun _ _ _ _ h1 h2 h3 h4 => next_congr (State.zgCmd_takes h1 h2 h3 h4),
   fun _ _ _ _ h1 h2 h3 h4 => next_congr (State.zgCmd_takes h1 h2 h3 h4),
   fun _ _ _ _ h1 h2 h3 h4 => next_congr (State.zgCmd_takes h1 h2 h3 h4),
   fun _ _ _ _ _ h1 h2 h3 h4 => next_congr (State.zgCmd_takes h1 h2 h3 h4),
   fun _ _ _ _ _ h1 h2 h3 h4 =>
      next_congr (if_neg (by rw [h1, h4, decide_eq_true h2, decide_eq_true h3]; decide)),
   fun _ _ _ h1 _ h2 _ h3 h4 h5 => next_congr ((State.zgHear_hears h1).trans (eq_of_named fun u hu => by
      dsimp only
      split
      next hnone => cases hnone.symm.trans h2
      next hsome =>
        cases hsome.symm.trans h2
        simp only [h3]
        exact (if_neg (by simp [h4, h5])).trans hu)),
   fun _ _ _ h1 => next_congr (State.zgHear_hears h1),
   fun _ _ _ _ h1 h2 h3 h4 => next_congr (if_pos
      (Bool.and_eq_true_iff.mpr ⟨Bool.and_eq_true_iff.mpr ⟨by simp [h1, h2], h3⟩, h4⟩)),
   fun _ _ _ h1 h2 => next_congr ((State.zgHear_hears h1).trans (if_neg (by simp [h2]))),
   fun _ _ _ _ _ _ _ _ h1 => next_congr (if_neg (by simp [h1])),
   fun _ _ _ h1 _ h2 => next_congr ((State.zgHear_hears h1).trans (by simp only [h2] <;> rfl)),
   fun _ _ => rfl,
   fun _ _ _ h1 => next_congr (by simp only [h1])⟩

/-- Settles O51: the conditions of each clause, in the order of the commands, choose the branch of the command's meaning. -/
theorem updateCompletes : Obligations.UpdateCompletes := fun s =>
  ⟨fun _ _ _ _ h1 h2 h3 h4 h5 => next_congr (State.updCmd_takes h1 h2 h3 h4 h5),
   fun _ _ _ _ h1 h2 h3 h4 h5 => next_congr (State.updCmd_takes h1 h2 h3 h4 h5),
   fun _ _ _ _ h1 h2 h3 h4 h5 => next_congr (State.updCmd_takes h1 h2 h3 h4 h5),
   fun _ _ _ _ h1 h2 h3 h4 h5 => next_congr (State.updCmd_takes h1 h2 h3 h4 h5),
   fun _ _ _ _ h1 h2 h3 h4 h5 => next_congr (State.updCmd_takes h1 h2 h3 h4 h5),
   fun _ _ _ _ h1 h2 h3 h4 h5 => next_congr (State.updCmd_takes h1 h2 h3 h4 h5),
   fun _ h1 h2 h3 h4 h5 h6 => next_congr (if_neg (by simp [h1, h2, h3, h4, h5, h6])),
   fun h1 h2 h3 => next_congr (if_pos ⟨h1, h2, h3⟩),
   fun h1 h2 => next_congr (if_pos (by simp [h1, h2])),
   fun d _ h1 h2 h3 => next_congr ((if_neg (by simp [h1, h2, h3])).trans (by
      cases s.checkStaged d with
      | none => rfl
      | some _ => rfl)),
   fun h1 h2 h3 h4 => next_congr (if_pos (by simp [h1, h2, h3, h4])),
   fun h1 h2 => next_congr (if_pos (by simp [h1, h2])),
   fun h1 h2 h3 h4 h5 h6 => next_congr (if_neg (by simp [h1, h2, h3, h4, h5, h6])),
   fun h1 h2 => next_congr (if_pos (by simp [h1, h2])),
   fun _ h1 h2 h3 => next_congr (if_neg (by
      simp only [Bool.or_eq_true, not_or]
      exact ⟨by simp [h1, h2], h3⟩)),
   fun _ _ _ h1 => next_congr (State.zgHear_hears h1),
   fun _ _ h1 _ _ => next_congr (by
        simp only [h1]
        exact if_pos (by simp_all))⟩

/-- Settles O52: the conditions of each clause, in the order of the commands, choose the branch of the command's meaning. -/
theorem faultsComplete : Obligations.FaultsComplete := fun s =>
  ⟨fun _ _ h1 h2 h3 h4 => next_congr (if_pos (by
      simp only [Bool.and_eq_true]
      exact ⟨⟨h1, h2⟩, decide_eq_true ⟨h3, h4⟩⟩)),
   fun _ _ _ h1 h2 h3 => next_congr (State.fltCmd_takes h1 h2 h3),
   fun _ _ _ h1 h2 h3 => next_congr (State.fltCmd_takes h1 h2 h3),
   fun _ _ _ h1 h2 h3 => next_congr (State.fltCmd_takes h1 h2 h3),
   fun _ _ _ h1 h2 h3 => next_congr (State.fltCmd_takes h1 h2 h3),
   fun _ _ _ h1 h2 h3 => next_congr (State.fltCmd_takes h1 h2 h3),
   fun _ _ _ h1 h2 h3 => next_congr (State.fltCmd_takes h1 h2 h3),
   fun _ _ h1 => next_congr (if_pos h1),
   fun _ _ _ _ _ _ _ _ => next_congr (if_neg (by simp_all)),
   fun _ _ _ h1 => next_congr (if_neg (by simp [h1])),
   fun _ _ _ _ h1 h2 h3 => next_congr (if_neg (by simp [h1, h2, h3])),
   fun _ _ h1 h2 => next_congr (if_pos (by simp [h1, h2])),
   fun _ h1 => next_congr (if_pos h1),
   fun _ _ h1 h2 h3 => next_congr (by
        simp only [h1]
        exact if_neg (by simp [h2, h3])),
   fun _ _ h1 _ h2 h3 h4 => next_congr (by
        simp only [h1]
        simp only [h2]
        exact if_neg (by simp [h3, h4])),
   fun _ _ h1 => next_congr (if_neg (by simp [h1]))⟩

/-- Settles O53: the conditions of each clause, in the order of the commands, choose the branch of the command's meaning. -/
theorem securityCompletes : Obligations.SecurityCompletes := fun s =>
  ⟨fun _ h1 => next_congr (if_neg (by simp [h1])),
   fun h1 => next_congr (if_pos h1),
   fun _ h1 => next_congr (if_pos h1),
   fun _ _ _ h1 h2 h3 => next_congr (State.dbgCmd_takes h1 h2 h3),
   fun _ _ _ _ h1 h2 h3 h4 => next_congr ((State.dbgCmd_takes h1 h2 h3).trans (if_neg (by simp [h4]))),
   fun _ _ _ h1 h2 => next_congr (by
        simp only [h1]
        exact if_neg (by simp [h2])),
   fun _ h1 h2 => next_congr (if_pos (by simp [h1, h2])),
   fun _ h1 => next_congr (if_neg (by simp [h1])),
   fun _ _ h1 h2 => next_congr (if_pos (by simp [h1, h2])),
   fun _ _ _ h1 h2 => next_congr (State.secCmd_begun h1 h2),
   fun _ _ _ h1 h2 => next_congr (State.secCmd_begun h1 h2),
   fun _ _ _ h1 h2 => next_congr (State.secCmd_begun h1 h2),
   fun _ _ _ h1 h2 => next_congr (State.secCmd_begun h1 h2),
   fun _ _ _ h1 h2 => next_congr (State.secCmd_begun h1 h2),
   fun _ _ _ h1 h2 => next_congr (State.secCmd_begun h1 h2),
   fun _ _ _ h1 h2 => next_congr (State.secCmd_begun h1 h2),
   fun _ _ _ h1 h2 => next_congr (State.secCmd_begun h1 h2),
   fun _ _ _ h1 h2 => next_congr (State.secCmd_begun h1 h2),
   fun _ _ _ h1 h2 => next_congr (State.secCmd_begun h1 h2),
   fun _ _ h1 h2 => next_congr (by
        simp only [h1]
        exact if_neg (by simp [h2]))⟩

end Sys2Proof.Machine
end

section
/-! SUPPORT. The commands that apply Ductus records. -/

namespace Sys2Proof.Machine
set_option Elab.async false

/-- Settles O54: the conditions of each clause, in the order of the commands, choose the branch of the command's meaning. -/
theorem powerRecordsComplete : Obligations.PowerRecordsComplete := fun s =>
  ⟨fun _ _ h1 _ _ _ _ => next_congr (State.applyRec_takes h1 (goodIf_true (by simp_all))),
   fun _ _ h1 h2 h3 => next_congr (State.applyRec_takes h1 (goodIf_true (by simp [h2, h3]))),
   fun _ _ h1 h2 h3 h4 h5 h6 => next_congr (State.applyRec_takes h1 (goodIf_true (by simp [h2, h3, h4, h5, h6]))),
   fun _ _ h1 h2 => next_congr (State.applyRec_takes h1 (goodIf_true (by simp [h2]))),
   fun _ _ h1 h2 h3 => next_congr (State.applyRec_takes h1 (goodIf_true (by simp [h2, h3]))),
   fun _ _ h1 h2 h3 => next_congr (State.applyRec_takes h1 (goodIf_true (by simp [h2, h3]))),
   fun _ _ h1 h2 => next_congr (State.applyRec_takes h1 h2),
   fun _ _ h1 h2 h3 h4 h5 h6 h7 h8 h9 h10 h11 h12 h13 h14 => next_congr (State.applyRec_takes h1 (goodIf_true (by
      simp only [Bool.and_eq_true]
      exact ⟨⟨⟨⟨⟨⟨⟨decide_eq_true ⟨h2, h3, h4, h5, h6, h7⟩, h8⟩, by simp only [h9, Bool.not_false]⟩,
        (apply_ite (· = true) _ _ _).mpr h10⟩, h11⟩, by simp only [h12, Bool.not_false]⟩, h13⟩, decide_eq_true h14⟩))),
   fun _ _ h1 h2 h3 => next_congr (State.applyRec_takes h1 (goodIf_true (by simp [h2, h3]))),
   fun _ _ h1 h2 h3 h4 h5 h6 h7 h8 h9 h10 => next_congr (State.applyRec_takes h1 (goodIf_true
      (Bool.and_eq_true_iff.mpr ⟨Bool.and_eq_true_iff.mpr ⟨by simp [h2, h3, h4, h5, h6, h7, h8], h9⟩, h10⟩)))⟩

/-- Settles O55: the conditions of each clause, in the order of the commands, choose the branch of the command's meaning. -/
theorem gatewayRecordsComplete : Obligations.GatewayRecordsComplete := fun s =>
  ⟨fun _ _ h1 h2 => next_congr (State.applyRec_takes h1 h2),
   fun _ _ h1 h2 => next_congr (State.applyRec_takes h1 h2),
   fun _ _ h1 h2 => next_congr (congrArg (State.afterLast · _ _ _ _ _) (State.applyRec_takes h1 h2)),
   fun _ _ h1 _ _ _ _ _ _ _ _ _ _ _ _ _ _ _ => next_congr (State.applyRec_takes h1 (goodIf_true (by grind))),
   fun _ _ h1 h2 h3 h4 h5 h6 h7 h8 h9 h10 h11 h12 h13 h14 h15 h16 =>
     next_congr (State.applyRec_takes h1 (goodIf_true (by simp [h2, h3, h4, h5, h6, h7, h8, h9, h10, h11, h12, h13, h14, h15, h16]))),
   fun _ _ h1 _ _ _ _ _ _ _ => next_congr (State.applyRec_takes h1 (goodIf_true (by simp_all))),
   fun _ _ h1 h2 h3 h4 h5 h6 => next_congr (State.applyRec_takes h1 (goodIf_true (by simp [h2, h3, h4, h5, h6])))⟩

/-- Settles O56: the conditions of each clause, in the order of the commands, choose the branch of the command's meaning. -/
theorem fieldAndPortRecordsComplete : Obligations.FieldAndPortRecordsComplete := fun s =>
  ⟨fun _ _ h1 h2 => next_congr (State.applyRec_takes h1 (goodIf_true h2)),
   fun _ _ h1 _ _ _ _ _ => next_congr (State.applyRec_takes h1 (goodIf_true (by simp_all))),
   fun _ _ h1 _ _ _ _ _ _ _ _ _ _ => next_congr (State.applyRec_takes h1 (goodIf_true (by simp_all))),
   fun _ _ h1 h2 => next_congr (State.applyRec_takes h1 (goodIf_true h2)),
   fun _ _ h1 _ _ => next_congr (State.applyRec_takes h1 (goodIf_true (by simp_all))),
   fun _ _ h1 h2 h3 h4 h5 h6 => next_congr (State.applyRec_takes h1 (goodIf_true (by simp [h2, h3, h4, h5, h6]))),
   fun _ _ h1 _ _ _ _ _ _ _ _ _ _ => next_congr (State.applyRec_takes h1 (goodIf_true (by simp_all))),
   fun _ _ h1 h2 h3 h4 => next_congr (State.applyRec_takes h1 (goodIf_true (by simp [h2, h3, h4])))⟩

/-- Settles O57: the conditions of each clause, in the order of the commands, choose the branch of the command's meaning. -/
theorem switchAndTimeRecordsComplete : Obligations.SwitchAndTimeRecordsComplete := fun s =>
  ⟨fun _ _ h1 h2 h3 h4 h5 h6 => next_congr (State.applyRec_takes h1 (goodIf_true (by simp [h2, h3, h4, h5, h6]))),
   fun _ _ h1 h2 h3 => next_congr (State.applyRec_takes h1 (goodIf_true (by simp [h2, h3]))),
   fun _ _ h1 _ _ _ _ _ _ => next_congr (State.applyRec_takes h1 (goodIf_true (by simp_all))),
   fun _ _ h1 h2 h3 h4 h5 h6 h7 h8 => next_congr (State.applyRec_takes h1 (goodIf_true
      (Bool.and_eq_true_iff.mpr ⟨by simp [h2, h3, h4, h5, h6, h7], h8⟩))),
   fun _ _ h1 _ _ _ _ _ _ _ _ _ => next_congr (State.applyRec_takes h1 (goodIf_true (by simp_all))),
   fun _ _ h1 _ _ _ _ _ _ _ => next_congr (State.applyRec_takes h1 (goodIf_true (by simp_all))),
   fun _ _ h1 h2 h3 h4 h5 h6 h7 h8 h9 h10 h11 =>
     next_congr (State.applyRec_takes h1 (goodIf_true (by simp [h2, h3, h4, h5, h6, h7, h8, h9, h10, h11]))),
   fun _ _ h1 h2 h3 h4 h5 => next_congr (State.applyRec_takes h1 (goodIf_true (by simp [h2, h3, h4, h5]))),
   fun _ _ h1 _ _ _ _ _ _ _ _ _ _ _ _ _ _ _ _ _ => next_congr (State.applyRec_takes h1 (goodIf_true (by grind))),
   fun _ _ h1 h2 h3 h4 h5 h6 h7 => next_congr (State.applyRec_takes h1 (goodIf_true (by simp [h2, h3, h4, h5, h6, h7]))),
   fun _ _ h1 h2 h3 h4 h5 h6 h7 => next_congr (State.applyRec_takes h1 (goodIf_true (by simp [h2, h3, h4, h5, h6, h7])))⟩

/-- Settles O59: the conditions of each clause, in the order of the commands, choose the branch of the command's meaning. -/
theorem worldRecordsComplete : Obligations.WorldRecordsComplete := fun s =>
  ⟨fun _ _ h1 _ _ _ _ _ _ _ _ _ _ =>
     next_congr (congrArg (State.worldEnd · _ _ _) (State.applyRec_takes h1 (goodIf_true (by simp_all)))),
   fun _ _ h1 _ _ _ _ _ _ _ =>
     next_congr (congrArg (State.worldEnd · _ _ _) (State.applyRec_takes h1 (goodIf_true (by simp_all)))),
   fun _ _ h1 _ _ _ _ _ _ _ =>
     next_congr (congrArg (State.worldEnd · _ _ _) (State.applyRec_takes h1 (goodIf_true (by simp_all)))),
   fun _ _ h1 h2 h3 h4 h5 h6 h7 h8 =>
     next_congr (congrArg (State.worldEnd · _ _ _) (State.applyRec_takes h1 (goodIf_true (by simp [h2, h3, h4, h5, h6, h7, h8])))),
   fun _ _ h1 _ _ => next_congr (congrArg (State.worldEnd · _ _ _) (State.applyRec_takes h1 (goodIf_true (by grind)))),
   fun _ _ h1 _ _ _ _ _ _ _ =>
     next_congr (congrArg (State.worldEnd · _ _ _) (State.applyRec_takes h1 (goodIf_true (by simp_all)))),
   fun _ _ h1 _ _ _ _ _ _ =>
     next_congr (congrArg (State.worldEnd · _ _ _) (State.applyRec_takes h1 (goodIf_true (by simp_all)))),
   fun _ _ h1 h2 h3 h4 h5 h6 =>
     next_congr (congrArg (State.worldEnd · _ _ _) (State.applyRec_takes h1 (goodIf_true (by simp [h2, h3, h4, h5, h6])))),
   fun _ _ h1 h2 h3 h4 h5 =>
     next_congr (congrArg (State.worldEnd · _ _ _) (State.applyRec_takes h1 (goodIf_true (by simp [h2, h3, h4, h5]))))⟩

end Sys2Proof.Machine
end

section
/-! SUPPORT. A sleep request notes when it was taken; the clauses of O47 for a taken sleep request leave that time out. -/

namespace Sys2Proof.Machine
set_option Elab.async false

theorem State.streamBoth_cis (s : State) (c src : Nat) (l : List Byte) : (s.streamBoth c src l).cis = s.cis := by
  have hold (t : State) (d : Die) (stamp : Nat) : (t.streamIn d c src stamp l false).cis = t.cis :=
    (apply_ite State.cis _ _ _).trans (ite_self _)
  exact (hold _ 1 _).trans (hold _ 0 _)

/-- Preparing a sleep changes nothing of the Cistern's own state outside its registers. -/
theorem State.prepare_cis (s : State) : s.prepare.cis = s.cis := by
  have fold (l : List Nat) : ∀ t : State, (l.foldl (fun st c =>
      if (st.cl 0 c).nibs = [] ∧ (st.cl 1 c).nibs = [] then st else st.streamBoth c 0x601 [0#8, 0xFF#8]) t).cis = t.cis := by
    induction l with
    | nil => intro t; rfl
    | cons c l ih =>
      intro t
      refine (ih _).trans ?_
      dsimp only
      split
      · rfl
      · exact t.streamBoth_cis c _ _
  exact fold _ _

/-- A sleep request that is taken notes the group time (R644). -/
theorem State.sleepReq_prepAt {s : State} {d : Die} {who : Initiator} {tag pin : Nat} {usePin : Bool} {target : Nat}
    (halive : s.alive d = true) (hman : who.isManager = true) (htag : s.newTag 0 who tag = true)
    (hprep : s.bit 0 CIS_STAT CIS_STAT__PREP = false) (htarget : target ≠ 3) :
    (s.sleepReq d who 0xD5 tag pin usePin target).cis.pw.prepAt = s.ns s.anyDie := by
  unfold State.sleepReq
  rw [if_neg (by simp [halive, hman, htag]), if_neg (by simp [hprep, htarget]), State.prepare_cis]
  rfl

/-- A module that runs at group time 0, with a sleep request last noted at 1 ns. -/
def sleepAskedBefore : State := runningLocked.updPw (fun p => { p with prepAt := 1 })

/-- Refutes O47: a sleep request that is taken notes the group time of its arrival, from which SLEEP_TIMEOUT counts (R644); the
clause for SLEEP_DROWSE keeps the time of the request before. -/
theorem not_cisternSupervisionCompletes : ¬ Obligations.CisternSupervisionCompletes := by
  unfold Obligations.CisternSupervisionCompletes
  intro h
  obtain ⟨-, -, -, -, -, -, hdrowse, -⟩ := h sleepAskedBefore
  have halive : sleepAskedBefore.alive 0 = true := by decide
  have htag : sleepAskedBefore.newTag 0 (.mgmt 0) (BitVec.toNat 0#8) = true := by decide
  have hprep : sleepAskedBefore.bit 0 CIS_STAT CIS_STAT__PREP = false := by decide
  have hclause := hdrowse 0 (.mgmt 0) 0xD5#8 0#8 0 false halive rfl rfl htag (by simp [hprep])
  have hnoted := State.sleepReq_prepAt (pin := (0 : Fin 8).val) (usePin := false) (target := 1) halive rfl htag hprep (by decide)
  have hstate := Host.Outcome.next.inj hclause
  have hkept := (congrArg (fun t : State => t.cis.pw.prepAt) hstate).symm.trans hnoted
  have hcis := fun t : State => congrArg (fun c => c.pw.prepAt) t.prepare_cis
  rw [hcis] at hkept
  exact absurd hkept (by decide)

end Sys2Proof.Machine
end

section
/-! SUPPORT. An energy policy names the pin of SENTINEL, which must be enabled. The model asks the image's wake pins record where there
is one (R667); the clause of O58 asks the register CIS_WAKECFG alone. -/

namespace Sys2Proof.Machine
set_option Elab.async false

/-- A wake pins record that enables no pin. -/
def noWakePins : Rec := ⟨0, 0x0A02#16, 0#16, 0x10000#32, 0#32, List.replicate 8 0#8⟩

/-- A critical energy policy whose pin of SENTINEL is WAKE0. -/
def policyOfPin0 : Rec := ⟨1, 0x0A01#16, 0x8000#16, 0x10000#32, 0#32, List.replicate 8 0#8 ++ 1#8 :: List.replicate 23 0#8⟩

/-- The loader of Q-die 0 at the energy policy of an image whose wake pins record enables no pin, with WAKE0 still enabled in
CIS_WAKECFG. -/
def policyAgainstImage : State :=
  ((runningLocked.setF 0 UPD_DSTAT UPD_DSTAT__STATE 2).wr 0 CIS_WAKECFG 1#32).updVol 0 (fun v =>
    { v with boot := { v.boot with recs := [noWakePins, policyOfPin0], todo := [policyOfPin0] } })

/-- The state of the structure a command leaves on Q-die 0. -/
def structureAfter : Out → Option Nat
  | .next t => some (t.dstate 0)
  | _ => none

theorem structureAfter_exec_energyPolicyRecord :
    structureAfter (exec (.energyPolicyRecord 0 policyOfPin0) policyAgainstImage) = some 5 := by
  decide +kernel

/-- Refutes O58: the energy policy of `policyAgainstImage` fails, since the image enables no pin, and boot ends without a structure. -/
theorem not_moduleRecordsComplete : ¬ Obligations.ModuleRecordsComplete := by
  unfold Obligations.ModuleRecordsComplete
  intro h
  obtain ⟨-, -, -, hpolicy, -⟩ := h policyAgainstImage
  have hclause := hpolicy 0 policyOfPin0 (by decide +kernel) (by decide +kernel) (by decide +kernel) (by decide +kernel)
    (by decide +kernel) (by decide +kernel) (by decide +kernel) (by decide +kernel) (by decide +kernel)
    (by decide +kernel) (by decide +kernel) (by decide +kernel) (by decide +kernel) (by decide +kernel)
  have hstate := structureAfter_exec_energyPolicyRecord.symm.trans (congrArg structureAfter hclause)
  exact absurd hstate (by decide +kernel)

end Sys2Proof.Machine
end
